-- ==== Sys2Proof/Word.lean ====
section
/-! DEFINITION. The plain word types of the model (R2, R58, R97): bytes, and the numbers of the units that
the spec counts. -/
namespace Sys2Proof

/-- One byte. -/
abbrev Byte := BitVec 8

/-- A line port, 0 to 511. -/
abbrev PortNo := Fin 512

/-- The payload of one envelope frame: 256 slots of 192 bits, slot 0 in the most significant bits (R58). -/
abbrev Payload := BitVec 49152

end Sys2Proof
end

