-- ==== Sys2Proof/Syntax.lean ====
section
/-! DEFINITION. The commands the block takes: host requests as they stand in a mailbox entry (R316), accesses to
its registers and buses, and the events of its pins, lines, clocks and engines. -/
namespace Sys2Proof

/-- A host request: the mailbox channel it stands in and its entry, header fields and payload (R316). The
opcode is the constructor's own (R319 step 6). -/
structure Request where
  channel       : Fin 8
  version       : BitVec 16
  flags         : BitVec 16
  payloadLength : BitVec 16
  sequence      : BitVec 32
  token         : BitVec 64
  descCount     : BitVec 16
  reserved      : BitVec 80
  payload       : List Byte
  deriving DecidableEq, Repr, Inhabited

/-- A BAR0 access that R305 does not perform whole: its offset, its size in bytes, and the value when it writes. -/
structure Bar0Access where
  offset : BitVec 16
  bytes  : Fin 9
  write  : Option (BitVec 64)
  deriving DecidableEq, Repr, Inhabited

/-- The three paths that share SEM_H0 to SEM_H7 (R330). -/
inductive SemPath where
  | pcie | i2c | management
  deriving DecidableEq, Repr, Inhabited

/-- A board-bus transfer of the I²C controller (R333): bus speed index (0 100 kHz, 1 400 kHz, 2 1 MHz),
7-bit address, bytes written, bytes to read, retry count. -/
structure BoardBusTransfer where
  mode    : Fin 3
  address : BitVec 7
  data    : List Byte
  readLen : Fin 256
  retries : Fin 16
  deriving DecidableEq, Repr, Inhabited

/-- What the board bus shows of one attempt of a transfer (R333). -/
inductive BoardBusOutcome where
  | done (read : List Byte) | addressNak | dataNak | arbitrationLost | busNotFree
  deriving DecidableEq, Repr, Inhabited

/-- The straps sampled at POR_N release (R523). -/
structure Straps where
  masterPref  : Bool
  mgmtArb     : Bool
  i2cAddr     : BitVec 2
  bistOnStart : Bool
  deriving DecidableEq, Repr, Inhabited

/-- A firmware bundle or engine library as its verified header states it (R451). -/
structure ImageInfo where
  version         : BitVec 16
  securityVersion : Nat
  journalRead     : BitVec 32
  journalWrite    : Byte
  secHash         : BitVec 384
  mainHash        : BitVec 384
  deriving DecidableEq, Repr, Inhabited

/-- What the ROM, the security firmware and the start test find at a start (R327, R452, R486, R488, R528):
the images that verify, whether the keep-domain contents and the copies verify, and what fails the start test. -/
structure BootFindings where
  imageA        : Option ImageInfo
  imageB        : Option ImageInfo
  library       : Option ImageInfo
  keyBlobValid  : Bool
  journalValid  : Bool
  bufferValid   : Bool
  snapshotValid : Bool
  retentionOk   : Bool
  settingsOk    : Bool
  lossOk        : Bool
  failedBanks   : List (Fin 17)
  failedWays    : List (Fin 16)
  failedCores   : List (Fin 4)
  deriving DecidableEq, Repr, Inhabited

/-- What a drive reports when its root port is enumerated (R30, R232). -/
structure DriveIdentity where
  drive    : Fin 16
  rootPort : Fin 4
  link     : Fin 4
  capacity : BitVec 64
  model    : BitVec 320
  serial   : BitVec 160
  capable  : Bool
  slower   : Bool
  deriving DecidableEq, Repr, Inhabited

/-- What the start of full service finds (R531): the clusters whose library loaded, the drives, and the
namespaces whose checkpoints were read. -/
structure FullFindings where
  clusters   : List (Fin 8)
  drives     : List DriveIdentity
  namespaces : List (Fin 32)
  solvers    : List (Fin 2)
  deriving DecidableEq, Repr, Inhabited

/-- The result of one BIST slice (R534, R537): what failed, and whether repair rows can hold it. -/
structure SliceResult where
  fails        : BitVec 32
  firstAddress : BitVec 40
  firstBit     : BitVec 16
  repairable   : Bool
  unit         : Nat
  crcOk        : Bool
  keysErased   : Bool
  deriving DecidableEq, Repr, Inhabited

/-- One line frame as the receiver decides it: the PAM4 symbol position at which it starts, the levels of its 27,200 symbols, two
bits each, the first symbol most significant (R35), and its arrival phase in 50 ps units (R81). -/
structure LineFrame where
  position : Fin 27200
  levels   : BitVec 54400
  theta    : Int
  deriving DecidableEq, Repr, Inhabited

/-- A protection group or a connection-level pair (R158, R358). -/
inductive ProtTarget where
  | group (g : Fin 256)
  | pair (id : BitVec 32)
  deriving DecidableEq, Repr, Inhabited

/-- An error that a scrub finds in a connection-memory entry (R99): the bank, the plane whose entry it is
(none for a time-stage or AUX entry), and whether SECDED corrects it. -/
structure BankError where
  active      : Bool
  plane       : Option (Fin 4)
  correctable : Bool
  deriving DecidableEq, Repr, Inhabited

/-- One pulse of a PULSE reference (R251, R263): its instant relative to the start of the present tick in
50 ps units, its distance from the expected instant and its high time in nanoseconds. -/
structure PulseMeasure where
  instant   : Int
  deviation : Nat
  highNs    : Nat
  deriving DecidableEq, Repr, Inhabited

/-- A cascade-channel field as received (R287). -/
structure CascMessage where
  senderRole  : BitVec 2
  sender      : Fin 64
  msgType     : Byte
  origin      : Fin 64
  msgId       : BitVec 32
  arg         : BitVec 48
  deriving DecidableEq, Repr, Inhabited

/-- A key-channel message as assembled from its segments (R458, R459). -/
structure KeyMessage where
  type  : BitVec 4
  bytes : List Byte
  deriving DecidableEq, Repr, Inhabited

/-- The faults that the active core reports of itself (R424). -/
inductive CoreFault where
  | uncorrectableCache | fatalException | fetchBusError
  deriving DecidableEq, Repr, Inhabited

/-- The masters of the control fabric, in the code order of R511. -/
inductive FabricMaster where
  | managementA | managementB | solver0 | solver1 | securityCore | hostDma | debugPort | captureDma
  deriving DecidableEq, Repr, Inhabited

/-- What SECDED finds at a word (R514). -/
inductive EccFinding where
  | clean | corrected | uncorrectable
  deriving DecidableEq, Repr, Inhabited

/-- A control-fabric access (R506 to R513): master, address, size in bytes, the value when it writes, what
SECDED finds, and whether port M or D writes the same word in this cycle. -/
structure FabricAccess where
  master    : FabricMaster
  address   : BitVec 40
  bytes     : Fin 9
  write     : Option (BitVec 64)
  ecc       : EccFinding
  collision : Bool
  deriving DecidableEq, Repr, Inhabited

/-- An error that the patrol scrub finds (R514): the word's control-fabric address, and what SECDED does. -/
structure WordError where
  address       : BitVec 40
  uncorrectable : Bool
  deriving DecidableEq, Repr, Inhabited

/-- How an eFlash operation ends (R518, R519): verified or failed, and whether it took more than twice the
typical time. -/
structure FlashOutcome where
  plane    : Fin 4
  verified : Bool
  slow     : Bool
  deriving DecidableEq, Repr, Inhabited

/-- A retired load or store of a sampled core (R551). -/
structure CoreSample where
  core     : BitVec 16
  instr    : BitVec 64
  data     : BitVec 64
  latency  : BitVec 32
  flags    : BitVec 5
  target   : Fin 8
  deriving DecidableEq, Repr, Inhabited

/-- What the security core has finished (R377, R412, R462): the checks of a port's agreement, or the
verification that a command waits for. -/
inductive SecurityJob where
  | agreement (p : PortNo)
  | command (c : Fin 8) (token : BitVec 64)
  deriving DecidableEq, Repr, Inhabited

/-- A request through the JTAG mailbox in ROM recovery (R452, R467, R533). -/
inductive JtagRequest where
  | nonce
  | unlock (token : List Byte)
  | bist
  deriving DecidableEq, Repr, Inhabited

/-- The commands and events of the block: one constructor for each row of the opcode table. -/
inductive Instr where
  /-- CHANNEL_OPEN (R339). Host command that negotiates the WCI version of one mailbox channel. -/
  | channelOpen (r : Request)
  /-- DEVICE_INFO (R340). Host command that returns the device identity, serial number and the firmware and format versions. -/
  | deviceInfo (r : Request)
  /-- RECOVERY_READ (R341). Host command that writes the recovery log into a host buffer. -/
  | recoveryRead (r : Request)
  /-- RECOVERY_ACK (R342). Host command that acknowledges the recovery log and clears RECOVERY_PENDING. -/
  | recoveryAck (r : Request)
  /-- JOB_STATUS (R343). Host command that reports the state of an asynchronous job by its ticket. -/
  | jobStatus (r : Request)
  /-- WARM_RESET (R344). Host command that resets the management and solver processors while the data path and timing run on. -/
  | warmReset (r : Request)
  /-- PORT_ENABLE (R345). Host command that checks and applies a port's staged settings and moves the port from DOWN to TRAINING. -/
  | portEnable (r : Request)
  /-- PORT_DISABLE (R345). Host command that moves a port to DOWN and drops its staged settings. -/
  | portDisable (r : Request)
  /-- PORT_STOP (R96). Host command that puts a port into STOPPED from the next tick, so that it sends stopped frames. -/
  | portStop (r : Request)
  /-- PORT_RESTART (R96). Host command that checks a stopped port's staged settings, applies them at frame G, and resumes the port or retrains it. -/
  | portRestart (r : Request)
  /-- PORT_SET (R346). Host command that sets or stages one port setting, such as a trace identifier, SD thresholds, collar version, role, window or equalisation. -/
  | portSet (r : Request)
  /-- PORT_FORMATS (R347). Host command that stages the slot formats of one direction of a port. -/
  | portFormats (r : Request)
  /-- PORT_BUNDLES (R347). Host command that stages the bundle declarations of one direction of a port. -/
  | portBundles (r : Request)
  /-- PORT_STATUS (R348). Host command that returns a port's status and restarts its minimum and maximum arrival phase. -/
  | portStatus (r : Request)
  /-- PORT_COUNTERS (R349). Host command that returns a port's receive counters and its last SER. -/
  | portCounters (r : Request)
  /-- PORT_STATUS_ALL (R348). Host command that writes the status of all 512 ports into a host buffer. -/
  | portStatusAll (r : Request)
  /-- MAP_SOLVE (R350). Host command that starts or queues a route-solver job on a connection list. -/
  | mapSolve (r : Request)
  /-- MAP_RAW_LOAD (R350). Host command that starts or queues the upload and check of a raw-map image. -/
  | mapRawLoad (r : Request)
  /-- MAP_CANCEL_JOB (R351). Host command that ends a running map job or removes a queued one. -/
  | mapCancelJob (r : Request)
  /-- MAP_CANCEL_BANK (R351). Host command that discards a READY shadow bank so that it returns to MIRRORING. -/
  | mapCancelBank (r : Request)
  /-- MAP_SWAP (R352). Host command that schedules a swap of the connection banks for a named or earliest frame, or requests a cascade swap. -/
  | mapSwap (r : Request)
  /-- MAP_SWAP_CANCEL (R143). Host command that withdraws a scheduled stand-alone swap when it executes early enough. -/
  | mapSwapCancel (r : Request)
  /-- MAP_READ (R353). Host command that writes a bank or the list in force into a host buffer. -/
  | mapRead (r : Request)
  /-- MAP_STATUS (R354). Host command that returns generations, the shadow state, plane states and jobs. -/
  | mapStatus (r : Request)
  /-- MAP_PERSIST (R355). Host command that writes the active bank to the persistent copy in eFlash. -/
  | mapPersist (r : Request)
  /-- PLANE_SET (R356). Host command that requests a centre plane off through DRAINING, or on through TESTING. -/
  | planeSet (r : Request)
  /-- GROUP_DECLARE (R357). Host command that declares a port protection group. -/
  | groupDeclare (r : Request)
  /-- GROUP_MODIFY (R357). Host command that replaces the changeable settings of a protection group. -/
  | groupModify (r : Request)
  /-- GROUP_DELETE (R154). Host command that deletes a protection group that selects working on every member. -/
  | groupDelete (r : Request)
  /-- PROT_COMMAND (R160). Host command that applies a lockout, forced switch, manual switch or clear to a group or a pair. -/
  | protCommand (r : Request)
  /-- PAIR_SETTINGS (R359). Host command that sets or deletes the settings of a connection-level pair. -/
  | pairSettings (r : Request)
  /-- PROT_STATUS (R360). Host command that returns the request, selection, bridge and counters of a group or a pair. -/
  | protStatus (r : Request)
  /-- REF_DECLARE (R361). Host command that declares a timing reference input. -/
  | refDeclare (r : Request)
  /-- TIMING_SET (R362). Host command that changes one global timing setting. -/
  | timingSet (r : Request)
  /-- REF_FORCE (R363). Host command that forces the selection of a reference, or clears the force. -/
  | refForce (r : Request)
  /-- LOOP_OPEN (R270). Host command that puts the DPLL into SOFTLOOP, with the DCO word starting from the present offset. -/
  | loopOpen (r : Request)
  /-- LOOP_CLOSE (R259). Host command that closes the software loop. -/
  | loopClose (r : Request)
  /-- DCO_WRITE (R270). Host command that sets the DCO word and DECLARE_LOCK in SOFTLOOP and restarts the host watchdog. -/
  | dcoWrite (r : Request)
  /-- TICK_STEP (R365). Host command that arms a host step of the tick for the next epoch pulse. -/
  | tickStep (r : Request)
  /-- OUTPUT_SET (R366). Host command that configures a clock output or a pulse output. -/
  | outputSet (r : Request)
  /-- TIMING_STATUS (R367). Host command that returns the DPLL state, the selected reference, errors and the state of each reference. -/
  | timingStatus (r : Request)
  /-- CASC_DECLARE (R368). Host command that declares cascade membership, seam links and tick delay, and starts JOINING. -/
  | cascDeclare (r : Request)
  /-- CASC_LEAVE (R369). Host command that returns a member to STANDALONE. -/
  | cascLeave (r : Request)
  /-- CASC_STAGE (R370). Host command that binds the READY shadow bank to a cascade swap identifier. -/
  | cascStage (r : Request)
  /-- CASC_SWAP (R370). Host command on the master that starts a multi-device cascade swap. -/
  | cascSwap (r : Request)
  /-- CASC_ABORT (R370). Host command that aborts an open cascade swap before its decision. -/
  | cascAbort (r : Request)
  /-- CASC_HANDOVER (R371). Host command on the master that schedules a master role handover. -/
  | cascHandover (r : Request)
  /-- CASC_RELEASE (R371). Host command on the master that releases the master role. -/
  | cascRelease (r : Request)
  /-- CASC_STATUS (R372). Host command that returns the cascade state, role, version and paths. -/
  | cascStatus (r : Request)
  /-- RECIPE_LOAD (R374). Host command that reads a recipe set into the shadow recipe bank, which enters LOADING. -/
  | recipeLoad (r : Request)
  /-- RECIPE_SWAP (R375). Host command that schedules a swap of the recipe banks. -/
  | recipeSwap (r : Request)
  /-- RECIPE_CANCEL (R375). Host command that withdraws a recipe swap or discards a READY recipe bank. -/
  | recipeCancel (r : Request)
  /-- RECIPE_READ (R375). Host command that writes the active or shadow recipe set into a host buffer. -/
  | recipeRead (r : Request)
  /-- RECORD_POST (R376). Host command that gives the device one buffer for result records. -/
  | recordPost (r : Request)
  /-- RECORD_FLUSH (R376). Host command that completes every posted record buffer at once. -/
  | recordFlush (r : Request)
  /-- ENGINE_IMAGE_LOAD (R377). Host command that verifies an engine library image and stores it in eFlash. -/
  | engineImageLoad (r : Request)
  /-- CLUSTER_STOP (R205). Host command that stops an Ember cluster from the next tick. -/
  | clusterStop (r : Request)
  /-- CLUSTER_RESTART (R205). Host command that loads the stored image into a cluster and puts it into LOADING. -/
  | clusterRestart (r : Request)
  /-- CLUSTER_STATUS (R378). Host command that returns the state, spares and load of a cluster. -/
  | clusterStatus (r : Request)
  /-- ENGINE_COUNTERS (R379). Host command that returns the counters of a logical engine. -/
  | engineCounters (r : Request)
  /-- TRIGGER_LOAD (R380). Host command that reads a trigger bank into the shadow trigger bank. -/
  | triggerLoad (r : Request)
  /-- TRIGGER_SWAP (R380). Host command that schedules a swap of the trigger banks. -/
  | triggerSwap (r : Request)
  /-- TRIGGER_CANCEL (R380). Host command that withdraws a trigger swap or discards a READY trigger bank. -/
  | triggerCancel (r : Request)
  /-- TRIGGER_READ (R380). Host command that writes the active or shadow trigger bank into a host buffer. -/
  | triggerRead (r : Request)
  /-- CHANNEL_ARM (R381). Host command that arms and disarms trigger channels. -/
  | channelArm (r : Request)
  /-- HOST_TRIGGER (R382). Host command that asks a channel for a trigger for a named or earliest frame. -/
  | hostTrigger (r : Request)
  /-- CAPTURE_ABORT (R383). Host command that aborts an open capture before it is sealed. -/
  | captureAbort (r : Request)
  /-- TRIGGER_STATUS (R384). Host command that returns the state and counters of a trigger channel. -/
  | triggerStatus (r : Request)
  /-- CAPTURE_STATUS (R385). Host command that returns the ring depth, open captures and store totals. -/
  | captureStatus (r : Request)
  /-- DRIVE_DECLARE (R386). Host command that declares the drive set of the capture store, for the next start of full service. -/
  | driveDeclare (r : Request)
  /-- NAMESPACE_DECLARE (R387). Host command that declares a store namespace and writes its store areas. -/
  | namespaceDeclare (r : Request)
  /-- NAMESPACE_DELETE (R388). Host command that deletes a store namespace and deallocates its extents. -/
  | namespaceDelete (r : Request)
  /-- STORE_STATUS (R389). Host command that returns the state and usage of a namespace. -/
  | storeStatus (r : Request)
  /-- OBJECT_LIST (R390). Host command that lists the known object sequences. -/
  | objectList (r : Request)
  /-- OBJECT_READ (R391). Host command that reads the stored bytes of an object. -/
  | objectRead (r : Request)
  /-- OBJECT_PIN (R392). Host command that pins, unpins or releases an object. -/
  | objectPin (r : Request)
  /-- RTC_READ (R394). Host command that returns the RTC in TAI seconds and in TAI and UTC calendar values. -/
  | rtcRead (r : Request)
  /-- RTC_SET (R395). Host command that sets the RTC from seconds or from a calendar value. -/
  | rtcSet (r : Request)
  /-- LEAP_SET (R396). Host command that sets the TAI-UTC offset and schedules a leap second. -/
  | leapSet (r : Request)
  /-- LOG_STATUS (R397). Host command that returns the indices, losses and freeze state of the event log. -/
  | logStatus (r : Request)
  /-- LOG_FREEZE (R398). Host command that freezes or thaws the eFlash event log. -/
  | logFreeze (r : Request)
  /-- LOG_READ (R399). Host command that reads records from the log, the volatile buffer or the retention copy. -/
  | logRead (r : Request)
  /-- LOG_CLEAR (R401). Host command that erases log records up to an index under an owner token and writes a clear record. -/
  | logClear (r : Request)
  /-- EVT_ROUTE (R402). Host command that sets the route of one event source. -/
  | evtRoute (r : Request)
  /-- SEC_NONCE (R403). Host command that issues a random nonce with its expiry frame. -/
  | secNonce (r : Request)
  /-- CERT_READ (R404). Host command that writes a certificate chain into a host buffer. -/
  | certRead (r : Request)
  /-- ATTEST (R455). Host command that writes a signed attestation report. -/
  | attest (r : Request)
  /-- OWNER_TRANSFER (R454). Host command that applies an ownership transfer token. -/
  | ownerTransfer (r : Request)
  /-- DEBUG_UNLOCK (R467). Host command that opens the debug access port, or enables scan after zeroisation, under an owner token. -/
  | debugUnlock (r : Request)
  /-- LINK_REKEY (R406). Host command that starts an early hitless rekey of a port. -/
  | linkRekey (r : Request)
  /-- SEC_STATUS (R407). Host command that returns the owner, debug and keying status. -/
  | secStatus (r : Request)
  /-- BIST_RUN (R408). Host command that runs BIST on an OFF plane or a STOPPED cluster. -/
  | bistRun (r : Request)
  /-- BIST_RESULTS (R537). Host command that writes the BIST result entries. -/
  | bistResults (r : Request)
  /-- PERF_SELECT (R543). Host command that selects and clears a performance counter. -/
  | perfSelect (r : Request)
  /-- PERF_SNAPSHOT (R546). Host command that arms a coherent counter snapshot for a tick. -/
  | perfSnapshot (r : Request)
  /-- PERF_SAMPLE (R550). Host command that starts a precise load and store sampling job on one core. -/
  | perfSample (r : Request)
  /-- DOMAIN_SET (R410). Host command that requests a power domain ON, BANKED or OFF. -/
  | domainSet (r : Request)
  /-- POWER_STATUS (R410). Host command that returns domain states, estimated power and temperature. -/
  | powerStatus (r : Request)
  /-- SHUTDOWN (R411). Host command that runs the shutdown sequence, with optional BIST, and ends in HALTED. -/
  | shutdown (r : Request)
  /-- FW_STAGE (R412). Host command that writes and verifies a firmware image in the slot that is not the boot slot. -/
  | fwStage (r : Request)
  /-- FW_ACTIVATE (R435). Host command that starts the hitless activation of the staged firmware. -/
  | fwActivate (r : Request)
  /-- MGMT_ROLE (R414). Host command that swaps the management roles now or sets the swap period. -/
  | mgmtRole (r : Request)
  /-- FW_STATUS (R415). Host command that returns the image slots, boot slot and versions. -/
  | fwStatus (r : Request)
  /-- MBX_DOORBELL_REQ (R313). Host doorbell write with REQ set; the device reads MBX_REQ_PI and takes the posted requests in order. -/
  | mbxDoorbellReq (c : Fin 8)
  /-- MBX_DOORBELL_RSP (R313). Host doorbell write with RSP set, reporting freed response entries. -/
  | mbxDoorbellRsp (c : Fin 8)
  /-- MBX_REQ_PI_WRITE (R315). Host write of the request producer index; a value beyond the bound puts the channel into ERROR. -/
  | mbxReqPiWrite (c : Fin 8) (v : BitVec 32)
  /-- MBX_RSP_CI_WRITE (R315). Host write of the response consumer index; a value beyond the bound puts the channel into ERROR. -/
  | mbxRspCiWrite (c : Fin 8) (v : BitVec 32)
  /-- MBX_RESYNC (R315). Host write of RESYNC, which returns a channel in ERROR to OPEN or UNOPENED when the bound holds. -/
  | mbxResync (c : Fin 8)
  /-- HELD_RESPONSE_POSTED (R314). A held response is written into the response ring once room returns or the channel leaves ERROR. -/
  | heldResponsePosted (c : Fin 8)
  /-- BAR0_BAD_ACCESS (R305). A BAR0 access of a wrong size or outside the map reads 0 or is ignored, and sets SIZE or UNMAPPED. -/
  | bar0BadAccess (a : Bar0Access)
  /-- BAR2_RESPONSE_WRITE (R312). A host write to a response entry is ignored and sets RSP_WRITE. -/
  | bar2ResponseWrite (c : Fin 8) (entry : Fin 64)
  /-- REGISTER_WRITE (R4). A write to a register that has no row of its own takes effect as its access code states. -/
  | registerWrite (off : BitVec 16) (v : BitVec 32)
  /-- HOST_HEARTBEAT_WRITE (R308). Host write of HOST_HEARTBEAT; a new value clears HOST_HB_LOST and restarts the timeout. -/
  | hostHeartbeatWrite (v : BitVec 32)
  /-- HOST_HB_TIMEOUT_EXPIRY (R308). HOST_HEARTBEAT has held one value for TIMEOUT_MS; HOST_HB_LOST is set and an event is raised. -/
  | hostHbTimeoutExpiry
  /-- SET_WINS_CNT_READ (R5). A read of the RC counter SET_WINS_CNT returns its value and clears it. -/
  | setWinsCntRead (sameCycle : BitVec 32)
  /-- BAR0_ERR_CLEAR (R329). A W1C write to BAR0_ERR clears the flags it names, unless hardware sets them in the same cycle. -/
  | bar0ErrClear (v : BitVec 32) (hwSet : BitVec 3)
  /-- EVT_SUMMARY_CLEAR (R477). A W1C write to EVT_SUMMARY clears pending vector bits; a bit set in the same cycle stays 1. -/
  | evtSummaryClear (v : BitVec 32) (hwSet : BitVec 16)
  /-- EVT_MASK_WRITE (R477). A write of EVT_MASK; unmasking a pending vector sends its MSI-X message. -/
  | evtMaskWrite (v : BitVec 32)
  /-- EVT_QUEUE_CI_WRITE (R480). Host write of the event-queue consumer index; a write beyond the bound is ignored with an event. -/
  | evtQueueCiWrite (v : BitVec 32)
  /-- EVT_QUEUE_ENABLE (R480). Host sets EVT_QUEUE_CTRL. -/
  | evtQueueEnable
  /-- SEM_ACQUIRE (R330). An ACQUIRE write to SEM_Hn_CMD takes a free host-visible semaphore for the writer's path and tag. -/
  | semAcquire (path : SemPath) (n : Fin 8) (tag : BitVec 16)
  /-- SEM_RELEASE (R330). A RELEASE write to SEM_Hn_CMD frees a semaphore when path and tag match; a mismatch raises an event. -/
  | semRelease (path : SemPath) (n : Fin 8) (tag : BitVec 16)
  /-- SEM_M_ACQUIRE (R442). An ACQUIRE write to SEM_Mn_CMD takes a free internal semaphore for the writing core. -/
  | semMAcquire (core : Fin 4) (n : Fin 32) (tag : BitVec 16)
  /-- SEM_M_RELEASE (R442). A RELEASE write to SEM_Mn_CMD frees an internal semaphore held by the writing core. -/
  | semMRelease (core : Fin 4) (n : Fin 32) (tag : BitVec 16)
  /-- HOST_PORT_RESET (R310). A conventional reset of the host port returns BAR0, BAR2 and every channel to reset, while accepted commands continue. -/
  | hostPortReset
  /-- HOT_RESET (R310). A hot reset of the host port, with the effects of a conventional reset. -/
  | hotReset
  /-- FLR (R310). A function-level reset, like a conventional reset but keeping the fields outside the FLR scope. -/
  | flr
  /-- HOST_LINK_TRAINED (R304). The host PCIe link settles; a narrower or slower link is reported with an event. -/
  | hostLinkTrained (width : Fin 5) (gen : Fin 5)
  /-- I2C_TARGET_WRITE (R332). An I2C write transfer to the target writes registers in groups of four bytes. -/
  | i2cTargetWrite (off : Byte) (data : List Byte)
  /-- I2C_TARGET_READ (R332). An I2C read transfer from the target returns whole registers. -/
  | i2cTargetRead (off : Byte) (count : Fin 257)
  /-- I2C_TARGET_TIMEOUT (R332). SCL held low for 25 ms; the target releases SDA, resets its state and abandons its semaphores. -/
  | i2cTargetTimeout
  /-- BMC_HEARTBEAT_WRITE (R332). A write of BMC_HEARTBEAT through the I2C target restarts its timeout. -/
  | bmcHeartbeatWrite (v : BitVec 32)
  /-- BMC_HB_TIMEOUT_EXPIRY (R332). BMC_HEARTBEAT has held one value for its timeout; an event is raised. -/
  | bmcHbTimeoutExpiry
  /-- I2C_CONTROLLER_TRANSFER (R333). A board-bus transfer by the I2C controller, started only on a free bus. -/
  | i2cControllerTransfer (x : BoardBusTransfer) (o : BoardBusOutcome)
  /-- I2C_CONTROLLER_RETRY (R333). After the bus is free again, the controller retries a transfer that lost arbitration. -/
  | i2cControllerRetry (o : BoardBusOutcome)
  /-- BUS_STUCK (R333). SDA is low for 25 ms on an idle bus; the controller sends 9 clocks and a Stop and ends the transfer. -/
  | busStuck
  /-- POR_N_ASSERT (R524). POR_N goes low and restarts every domain except the always-on domain. -/
  | porNAssert (suppliesHeld : Bool)
  /-- POR_N_RELEASE (R526). POR_N rises; the device samples the straps and starts the BOOT stages. -/
  | porNRelease (straps : Straps) (b : BootFindings)
  /-- COLD_RST_N_ASSERT (R524). COLD_RST_N goes low and restarts the device as POR_N does. -/
  | coldRstNAssert (suppliesHeld : Bool)
  /-- COLD_RST_N_RELEASE (R526). COLD_RST_N rises, and a cold start runs without sampling the straps. -/
  | coldRstNRelease (b : BootFindings)
  /-- WARM_RST_N_ASSERT (R524). WARM_RST_N resets the management and solver processors, unless SERVICE is BOOT, SHUTDOWN or HALTED. -/
  | warmRstNAssert
  /-- TINDER_SERVICE_START (R529). SERVICE becomes TINDER; the active bank is rebuilt from the persistent copy and domains are switched ON in order. -/
  | tinderServiceStart
  /-- FULL_SERVICE_START (R531). At the tick when the library, drives and solvers are ready, SERVICE becomes FULL; recipes, triggers and the ring start. -/
  | fullServiceStart (b : FullFindings)
  /-- SHUTDOWN_SEQUENCE (R532). After the last open capture is sealed, the cascade, ports, clusters and domains are shut down, the log is flushed and optional BIST runs. -/
  | shutdownSequence
  /-- BIST_SLICE_DONE (R534). A BIST slice ends; its result is stored and the next slice starts after a gap. -/
  | bistSliceDone (x : SliceResult)
  /-- BIST_SLICE_TIMEOUT (R534). A BIST slice reaches its time limit, stops, and its block is reported as failing. -/
  | bistSliceTimeout
  /-- PWR_FAIL_N_ASSERT (R487). PWR_FAIL_N asserts; the device records the power failure, thaws the log, copies the newest records to retention SRAM and writes the recovery snapshot. -/
  | pwrFailNAssert
  /-- POWER_FAIL_FLUSH_PAGE (R487). During the power-fail warning, one more page of unflushed records is programmed into an erased page. -/
  | powerFailFlushPage
  /-- SUPPLY_OUT_OF_RANGE (R584). A monitored supply leaves its range for more than 1 us, and LAPSE_CONDITIONS is set. -/
  | supplyOutOfRange (supply : Fin 7)
  /-- CONDITIONS_RESTORED (R584). Ten ms after no lapse condition holds, LAPSE_CONDITIONS clears with an event. -/
  | conditionsRestored
  /-- TEMPERATURE_THRESHOLD (R564). The highest junction temperature crosses a warning, lapse or critical threshold. -/
  | temperatureThreshold (t : BitVec 16)
  /-- VBAT_CHECK (R491). The VBAT monitor samples VBAT and sets or clears VBAT_LOW. -/
  | vbatCheck (millivolts : Nat)
  /-- AO_DOMAIN_RESET (R492). VDD_IO18 and VBAT are both lost; the always-on domain resets. -/
  | aoDomainReset
  /-- RTC_OSC_STOP (R493). No crystal edge for 4 ms; OSC_STOPPED is set and VALID cleared. -/
  | rtcOscStop
  /-- RTC_OSC_RESUME (R493). After 32,768 crystal edges without a stop, the RTC returns to the crystal. -/
  | rtcOscResume
  /-- RTC_SECOND (R495). The RTC whole-second count advances. -/
  | rtcSecond
  /-- RTC_ALIGNMENT (R497). At each whole second of the tick timescale while traceable, the RTC is aligned, VALID is set and OSC_STOPPED cleared. -/
  | rtcAlignment
  /-- RTC_TRIM_UPDATE (R494). After each 2^20 traceable frames, the crystal trim is set from the measured offset. -/
  | rtcTrimUpdate (offset : Int)
  /-- LEAP_APPLIED (R501). At LEAP_TAI the TAI-UTC offset changes by the scheduled leap and the schedule clears. -/
  | leapApplied
  /-- TICK (R7). A tick boundary; every data-path change of the frame takes effect in the order of R19. -/
  | tick
  /-- LINE_FRAME_RECEIVED (R66). A line frame is decoded, descrambled, pointer-processed, decrypted and checked by the receive chain. -/
  | lineFrameReceived (p : PortNo) (f : LineFrame)
  /-- LOS_DECLARE (R83). Signal detect off or clock recovery unlocked for 2 ticks declares LOS. -/
  | losDeclare (p : PortNo)
  /-- LOS_CLEAR (R83). Signal and lock present for 8 ticks clear LOS. -/
  | losClear (p : PortNo)
  /-- SD_WINDOW_END (R70). A 65,536-frame window ends; SD is declared or cleared from its SER. -/
  | sdWindowEnd (p : PortNo)
  /-- ULS_CLEAR (R82). With d at 0 and no slip for 2^22 frames, ULS clears. -/
  | ulsClear (p : PortNo)
  /-- TIM_ACCEPT_TIMEOUT (R88). No trace message accepted within 256 frames of the start of acceptance declares TIM. -/
  | timAcceptTimeout (p : PortNo)
  /-- RDI_HOLD_END (R85). The 8-frame RDI hold ends, and RDI clears when no defect remains. -/
  | rdiHoldEnd (p : PortNo)
  /-- PORT_UP (R92). At the tick after all UP conditions hold, a training or resuming port becomes UP. -/
  | portUp (p : PortNo)
  /-- TRAINING_TIMEOUT (R92). A port that has spent 2 s in TRAINING raises one event naming the unmet conditions. -/
  | trainingTimeout (p : PortNo)
  /-- TINDER_TRAIN_TIMEOUT (R91). A port enabled in tinder service that is not UP within 200 ms enters TINDER. -/
  | tinderTrainTimeout (p : PortNo)
  /-- HOLD_OFF_EXPIRY (R157). A protection condition that has lasted the whole hold-off becomes a request. -/
  | holdOffExpiry (tgt : ProtTarget) (member : Fin 16)
  /-- WTR_EXPIRY (R161). Wait-to-restore expires; the request becomes NR and the member reverts. -/
  | wtrExpiry (tgt : ProtTarget)
  /-- PROT_FAIL_TIMEOUT (R170). No matching BRIDGED from the far end within 50 ms of a request declares PROT_FAIL. -/
  | protFailTimeout (g : Fin 256)
  /-- PLANE_TEST_PASSED (R107). After 65,536 passes without a mismatch, a plane in TESTING becomes ON. -/
  | planeTestPassed (k : Fin 4)
  /-- PLANE_DRAINED (R107). A DRAINING plane with no entries in the active or committed bank goes OFF. -/
  | planeDrained (k : Fin 4)
  /-- BANK_SCRUB (R99). Both connection-memory banks are scrubbed once every 2^20 frames. -/
  | bankScrub (found : List BankError)
  /-- MIRRORING_DONE (R136). The shadow bank equals the active bank and enters MIRROR; a queued job or re-route starts. -/
  | mirroringDone
  /-- SOLVER_JOB_DONE (R133). A route-solver job ends; the shadow bank becomes READY or returns to MIRRORING, and the completion is posted.
  `core` is the solver core that reports it. -/
  | solverJobDone (core : Fin 2)
  /-- SOLVER_TIME_LIMIT (R133). A solver job reaches its last time bound and ends with TIME. -/
  | solverTimeLimit
  /-- RAW_MAP_VERIFIED (R140). Verification of a raw map ends; it becomes READY or is refused. -/
  | rawMapVerified
  /-- SWAP_LATCH (R142). At tick F-7 the swap is latched into every time stage and plane. -/
  | swapLatch
  /-- SWAP_TAKES_PLACE (R142). At tick F-1 the centre pass of frame F uses the new bank and the generation increases. -/
  | swapTakesPlace
  /-- SWAP_COMPLETE (R142). After output frame F has left, the swap completion is posted. -/
  | swapComplete
  /-- PERSIST_DONE (R148). The persistent copy holds the bank; COMMITTED is posted. -/
  | persistDone
  /-- SOLVER_CORE_FAILURE (R438). A solver core fails; the other restarts the job alone with doubled bounds. -/
  | solverCoreFailure (i : Fin 2)
  /-- SOLVER_CORE_REPAIR (R438). A failed solver core is reset and rejoins in an interval with no job. -/
  | solverCoreRepair (i : Fin 2)
  /-- RECIPE_CHECK_DONE (R374). The checks of a loaded recipe set end, and the shadow bank becomes READY or returns to its previous state. -/
  | recipeCheckDone
  /-- RECIPE_SWAP_TAKES_PLACE (R198). At frame F the recipe banks swap, and disturbed units close and reopen their dwells. -/
  | recipeSwapTakesPlace
  /-- RECIPE_PERSIST_DONE (R197). The recipe set is in eFlash; COMMITTED is posted. -/
  | recipePersistDone
  /-- TRIGGER_CHECK_DONE (R380). The checks of a loaded trigger bank end, and the shadow bank becomes READY or returns to its previous state. -/
  | triggerCheckDone
  /-- TRIGGER_SWAP_TAKES_PLACE (R222). At frame F the trigger banks swap; changed channels reset and the ring may restart. -/
  | triggerSwapTakesPlace
  /-- TRIGGER_PERSIST_DONE (R221). The trigger bank is in eFlash; COMMITTED is posted. -/
  | triggerPersistDone
  /-- DWELL_END (R180). A unit's dwell ends; its moments pass to the core, stages are evaluated and a spark may be emitted. -/
  | dwellEnd (e : Fin 1024)
  /-- REPORT_INTERVAL_END (R200). A report interval ends, and the engine writes a result record into HBM staging. -/
  | reportIntervalEnd (e : Fin 1024)
  /-- TINDER_DWELL_END (R183). A 2,000-frame tinder dwell ends, and a tinder record is written. -/
  | tinderDwellEnd (e : Fin 1024)
  /-- RECORD_BUFFER_TIMEOUT (R204). Ten ms after its first record, a posted record buffer completes. -/
  | recordBufferTimeout
  /-- SPARK_ARRIVAL (R193). A spark reaches the trigger unit and enters the history of each channel it matches, or is counted as late. -/
  | sparkArrival (e : Fin 1024)
  /-- ENGINE_FAULT (R206). An engine is found faulty and taken out of service. -/
  | engineFault (e : Fin 1024)
  /-- SPARE_IN_SERVICE (R206). A spare engine starts measuring the slots of a failed logical engine at tick G. -/
  | spareInService (e : Fin 1024)
  /-- CLUSTER_LOADING_DONE (R205). At tick G a LOADING cluster enters RUNNING with the active recipe bank. -/
  | clusterLoadingDone (c : Fin 8)
  /-- SPARK_DECISION (R211). At tick f+1+SETTLE the spark term decides frame f by counting distinct keys in the window. -/
  | sparkDecision (t : Fin 64)
  /-- TRIG_IN_EDGE (R213). A rising edge on a TRIG_IN input in the pin mask of a channel. -/
  | trigInEdge (i : Fin 8)
  /-- PIN_DECISION (R213). At tick T+2 the pin trigger for frame T is decided. -/
  | pinDecision (t : Fin 64)
  /-- HOST_TRIGGER_DECISION (R215). A host trigger is decided at its tick. -/
  | hostTriggerDecision (t : Fin 64)
  /-- TRIG_OUT_PULSE (R228). The selected TRIG_OUT pulses for the tick period after acceptance. -/
  | trigOutPulse (o : Fin 8)
  /-- REARM_END (R229). At tick E a waiting trigger is accepted, or the channel returns to ARMED. -/
  | rearmEnd (t : Fin 64)
  /-- NVME_COMMAND_COMPLETE (R232). An NVMe write, flush or other command completes on a drive of the capture store. -/
  | nvmeCommandComplete (cid : Nat)
  /-- DRIVE_WRITE_ERROR (R237). A write or flush error marks a drive failed and degrades or fails its namespace. -/
  | driveWriteError (d : Fin 16)
  /-- MIRROR_REBUILD_DONE (R237). The rebuild of a mirror onto a replacement drive completes. -/
  | mirrorRebuildDone (n : Fin 32)
  /-- INDEX_CHECKPOINT (R238). An index checkpoint is written after 64 objects or 10 s after the last object. -/
  | indexCheckpoint (n : Fin 32)
  /-- REF_PULSE (R251). A pulse arrives on a PULSE reference and is judged good or bad. -/
  | refPulse (i : Fin 8) (m : PulseMeasure)
  /-- REF_ACTIVITY_LOST (R251). No edge or pulse arrives within its limit; activity is lost and the reference disqualified. -/
  | refActivityLost (i : Fin 12)
  /-- REF_ACTIVITY_PRESENT (R251). Edges for 1 ms, or 4 good pulses, restore the activity of a reference. -/
  | refActivityPresent (i : Fin 12)
  /-- REF_GATE_END (R252). A frequency gate ends, and the offset is judged against the accept and reject limits. -/
  | refGateEnd (i : Fin 12) (offset : Int)
  /-- REF_QUALIFIED (R253). A reference completes its qualification time within limits and becomes qualified. -/
  | refQualified (i : Fin 12)
  /-- HOLD_OSC_QUALIFIED (R254). HOLD_OSC qualifies after 10 s and becomes the measurement base. -/
  | holdOscQualified
  /-- HOLD_OSC_GATE_END (R254). A 1 s gate of HOLD_OSC against a LOCKED DPLL ends and its offset is recorded. -/
  | holdOscGateEnd (ppt : Int)
  /-- PHASE_DETECTOR_UPDATE (R260). The phase detector compares the reference with the output, and lock or loss of lock is judged.
  `phase` is that of `reference` against the output. -/
  | phaseDetectorUpdate (phase : Int) (reference : Fin 12)
  /-- HOLDOVER_LIMIT_EXPIRY (R268). Time in HOLDOVER exceeds the holdover limit; the state becomes 101b. -/
  | holdoverLimitExpiry
  /-- DCO_WATCHDOG_EXPIRY (R270). Ten s without a DCO write; the device closes the software loop. -/
  | dcoWatchdogExpiry
  /-- TICK_STEP_TIMEOUT (R365). No epoch pulse arrives within 2 s of TICK_STEP; it completes with ERR_STATE. -/
  | tickStepTimeout
  /-- OUTPUT_CHANGE_APPLIED (R274). A clock or pulse output change takes effect at a rising edge or pulse instant, without runts. -/
  | outputChangeApplied (o : Fin 10)
  /-- TICK_WORD_RECEIVED (R281). A valid tick word arrives on TICK_IN and the member follows it or carries its swap and role fields. -/
  | tickWordReceived (input : Fin 2) (levels : BitVec 512) (arrival : Int)
  /-- TICK_WORD_MISSING (R284). The expected tick word is missing or invalid; a flywheel tick is generated at the expected instant. -/
  | tickWordMissing
  /-- FLYWHEEL_DECLARE (R284). After 64 tick periods without a valid ACTIVE word, the member enters FLYWHEEL. -/
  | flywheelDeclare
  /-- CASC_MESSAGE_RECEIVED (R288). A cascade-channel message such as JOIN, ADMIT, READY, VETO, COMMIT or COMPLETE arrives, is acted on and relayed. -/
  | cascMessageReceived (p : PortNo) (m : CascMessage)
  /-- MASTER_START_TIMEOUT (R279). A master-capable device sees no ACTIVE word within 100 or 400 ms and becomes master. -/
  | masterStartTimeout
  /-- CASC_PREPARE_TIMEOUT (R292). Two thousand ticks pass without all participants READY; the master aborts the cascade swap. -/
  | cascPrepareTimeout
  /-- CASC_DECISION_CHECK (R293). At tick F-8 a participant swaps if it holds COMMIT, and otherwise returns its bank to READY. -/
  | cascDecisionCheck
  /-- CASC_COMPLETE_TIMEOUT (R294). A participant's COMPLETE has not arrived within 20,000 ticks of F; an event names it. -/
  | cascCompleteTimeout
  /-- TICK_PATH_LOSS (R295). The standby sees no valid ACTIVE word for 4 tick periods. -/
  | tickPathLoss
  /-- CHANNEL_PATH_LOSS (R295). HEARTBEAT has been unchanged for 16 frames on every seam link of the standby. -/
  | channelPathLoss
  /-- ARB_SEL_DECISION (R296). ARB_SEL reads granted or denied for 4 consecutive ticks, and the master role moves. -/
  | arbSelDecision (sel : BitVec 2)
  /-- ROLE_SWAP_PERIOD (R299). The cascade role-swap period elapses and the master announces a handover tick. -/
  | roleSwapPeriod
  /-- HANDOVER_TICK (R299). At tick H the master releases, and the standby takes the role at H+1. -/
  | handoverTick
  /-- KEY_MESSAGE_RECEIVED (R459). A key-channel message such as HELLO, AUTH, CONFIRM or ABORT is assembled and acted on. -/
  | keyMessageReceived (p : PortNo) (m : KeyMessage)
  /-- AGREEMENT_TIMEOUT (R463). An agreement that is not ready within 200 ms fails with reason timeout. -/
  | agreementTimeout (p : PortNo)
  /-- AGREEMENT_RETRY (R465). After the back-off wait following a failure, a new agreement starts. -/
  | agreementRetry (p : PortNo)
  /-- KEY_EXHAUSTED (R464). The current key reaches 2^31 frames, forcing a switch or unencrypted frames. -/
  | keyExhausted (p : PortNo)
  /-- OLD_KEY_ERASE (R464). Sixty-four frames after both directions move, the old keys are erased and a next-key agreement starts. -/
  | oldKeyErase (p : PortNo)
  /-- NONCE_EXPIRY (R403). A nonce expires 60 s after issue. -/
  | nonceExpiry (nonce : BitVec 256)
  /-- WATCHDOG_WRITE (R422). A management core writes its watchdog as a progress mark and restarts the 50 ms timer. -/
  | watchdogWrite (core : Fin 2)
  /-- WATCHDOG_EXPIRY (R422). A management core's watchdog expires; the active core is failed, or the standby goes to FAULT. -/
  | watchdogExpiry (core : Fin 2)
  /-- BEAT_PATH_LOSS (R423). Four beats are missing on a beat path; the loss of both paths fails the core. -/
  | beatPathLoss (core : Fin 2) (path : Fin 2)
  /-- FAULT_REPORT (R424). The active core reports an uncorrectable cache error, a fatal exception or a fetch bus error. -/
  | faultReport (kind : CoreFault)
  /-- ARBITER_GRANT (R427). The security core grants a takeover request in ARBITER mode. -/
  | arbiterGrant
  /-- ARBITER_PROBE_ANSWER (R427). The active core answers the security core's probe, and the takeover is denied. -/
  | arbiterProbeAnswer
  /-- ARBITER_SILENT_TIMEOUT (R427). The security core neither grants nor denies within 5 ms, and the interlock decides. -/
  | arbiterSilentTimeout
  /-- MGMT_OWNER_RELEASE (R421). The owner writes RELEASE and the interlock passes to the standby. -/
  | mgmtOwnerRelease (m : FabricMaster)
  /-- CORE_REPOWER (R432). Fifty ms after FAULT, or 60 s after a failed attempt, the core's domain is turned ON and it runs BOOTING. -/
  | coreRepower (core : Fin 2)
  /-- CORE_BOOTED (R418). A management core completes BOOTING and takes the interlock or enters SYNCING. -/
  | coreBooted (core : Fin 2) (passed : Bool)
  /-- CORE_STANDBY_REACHED (R432). A syncing core follows the journal and enters STANDBY. -/
  | coreStandbyReached (core : Fin 2)
  /-- PERIODIC_ROLE_SWAP (R434). The management role-swap period elapses, or a deferral of 60 s ends, and the roles are swapped. -/
  | periodicRoleSwap
  /-- ACTIVATION_RESYNC_TIMEOUT (R413). The standby on the new image has not resynchronised within 10 s; the activation rolls back. -/
  | activationResyncTimeout
  /-- EFLASH_ERASE (R518). Controller command that erases one logical sector. -/
  | eflashErase (m : FabricMaster) (sector : Fin 4096)
  /-- EFLASH_PROGRAM (R518). Controller command that programs one blank page, or is refused with ERR_NOT_ERASED. -/
  | eflashProgram (m : FabricMaster) (page : Fin 65536) (data : BitVec 2048)
  /-- EFLASH_ERASE_DONE (R519). An erase completes and verifies, with wear counting and retirement. -/
  | eflashEraseDone (o : FlashOutcome)
  /-- EFLASH_PROGRAM_DONE (R519). A program completes and verifies, or fails and the sector is retired. -/
  | eflashProgramDone (o : FlashOutcome)
  /-- FABRIC_ACCESS (R509). A control-fabric access by a master, performed or refused.
  `accesses` are those of one core cycle, by different masters. -/
  | fabricAccess (accesses : List FabricAccess)
  /-- BRIDGE_TIMEOUT (R510). A bridge target does not answer within 1,024 cycles; the access ends with an error. -/
  | bridgeTimeout (a : FabricAccess)
  /-- PATROL_SCRUB (R514). The patrol scrub reads every SRAM word once per second. -/
  | patrolScrub (found : List WordError)
  /-- EVENT_FLUSH (R481). Eight unflushed records, or a record waiting 1 s, are programmed into one eFlash page. -/
  | eventFlush
  /-- EVENT_N_RELEASE (R478). Two ticks after the last routed record, an EVENT_N pin goes high. -/
  | eventNRelease (b : Fin 4)
  /-- LOG_FREEZE_EXPIRY (R398). The freeze time runs out, and the log thaws with an event. -/
  | logFreezeExpiry
  /-- DOMAIN_TRANSITION_DONE (R556). A power domain reaches its new state; a DOMAIN_SET completes and a woken lane group enables its wake set. -/
  | domainTransitionDone (d : Fin 56)
  /-- FAR_END_WAKE (R560). Signal detect returns on a wake-set port of a BANKED lane group, and the group starts to wake. -/
  | farEndWake (p : PortNo)
  /-- DOMAIN_WAIT_EVENT (R563). A transition has waited more than 10 ms under the current-step sequencing. -/
  | domainWaitEvent (d : Fin 56)
  /-- PERF_SNAPSHOT_LATCH (R546). At tick F every counter is latched, and the snapshot buffer is written within 1 ms. -/
  | perfSnapshotLatch
  /-- SAMPLE_TAKEN (R550). Every PERIOD-th retired load or store of the sampled core is sampled, or skipped while the sampler drains. -/
  | sampleTaken (x : CoreSample)
  /-- SAMPLE_JOB_TIMEOUT (R550). A sampling job ends 10 s after acceptance. -/
  | sampleJobTimeout (core : BitVec 16)
  /-- GPIO_WINDOW_END (R578). At the end of a 1 ms window, a GPIO input with edges produces one record. -/
  | gpioWindowEnd (pin : Fin 32) (edges : Nat) (level : Bool)
  /-- HOLD_OSC_ACTIVITY_LOST (R254). HOLD_OSC loses its activity and is disqualified at once; the measurement base falls back to SYS_OSC, HOLD_OSC_PPT becomes unknown and holdover within specification becomes 101b. -/
  | holdOscActivityLost
  /-- BEAT_PATH_RETURN (R423). Hardware beats arrive again on a lost beat path of a management core; the return event is raised and the path stops counting as faulty. -/
  | beatPathReturn (core : Fin 2) (path : Fin 2)
  /-- HOST_DMA_DONE (R318). A DMA transfer between the device and the buffer behind a command's descriptors completes, and the waiting command continues or posts its completion. -/
  | hostDmaDone (c : Fin 8) (token : BitVec 64) (data : List Byte)
  /-- SECURITY_CHECK_DONE (R462). The security core finishes a signature, chain or key computation, such as the AUTH checks of an agreement or the verification of a staged image, and the waiting agreement or command goes on. -/
  | securityCheckDone (x : SecurityJob)
  /-- JTAG_MAILBOX_REQUEST (R467). A request through the JTAG mailbox while the ROM is in recovery, either a DBGU token with a ROM-issued nonce or a BIST request. -/
  | jtagMailboxRequest (x : JtagRequest)
  deriving DecidableEq, Repr

end Sys2Proof
end

