-- ==== Sys2Proof/Decode.lean ====
section
/-! DEFINITION. The command that a word of the opcode table spells. The table gives no row of this block any bits: a
command is a message in a mailbox entry, an access or an event, and no word spells one (log 1). -/
namespace Sys2Proof

/-- No word of the table spells a command. -/
def decodeTableWord (_nbits _w : Nat) : Option Instr := none

end Sys2Proof
end

