-- ==== Sys2Proof/Config.lean ====
section
/-! DEFINITION. What an implementation fixes and the spec leaves open, and free values. None has a body, so no proof can see a
value. -/
namespace Sys2Proof.Config

/-- The per-message secret number of an ECDSA signature, by private scalar and digest (FIPS 186-5; R245). Free value. -/
opaque ecdsaSecret : BitVec 384 → BitVec 384 → BitVec 384
/-- The `n`-th draw of the security core's random source (R403, R459, R460). Free value. -/
opaque random : Nat → BitVec 384
/-- The private scalar fused as IDENTITY_KEY (R445). Fixed at manufacture. -/
opaque identityKey : BitVec 384
/-- ROOT_HASH fuse (R445). Fixed at manufacture. -/
opaque rootHash : BitVec 384
/-- The vendor root public key that the certificate chains end in (R447), 96 bytes. -/
opaque rootKey : List Byte
/-- SHA-384 of the security ROM's contents (R455). Fixed at manufacture. -/
opaque romHash : BitVec 384
/-- The device serial number, 16 bytes (R340). Fixed at manufacture. -/
opaque serial : BitVec 128
/-- The certificates kept beside the fuses (R445, R447): identity, then vendor intermediate, 704 bytes. -/
opaque identityChain : List Byte
/-- Whether a binary32 result that is not exact takes the upper neighbour (R202; the spec states no
rounding). Free value of the exact quotient. -/
opaque roundsUp : Int → Nat → Bool
/-- RETRY_AFTER of an ERR_BUSY answer when the journal holds `n` records (R317). Implementation-defined. -/
opaque retryAfter : Nat → BitVec 32
/-- POWER_W of POWER_STATUS (R410, R586): an estimate within 5 %, a free value at each reading. -/
opaque powerEstimate : Nat → BitVec 16
/-- Whether a data cache writes back and drops a line for want of room, at its `n`-th fill (R439). Free value of the fill and
the line. -/
opaque evicts : Nat → Nat → Bool
/-- The value a write leaves when an eFlash page fails to verify after its retries (R518). Free value. -/
opaque flashNoise : Nat → BitVec 8
/-- What a read of a register behind a bridge or of a controller gives where the spec does not place the registers
(R508). Free value at each read. -/
opaque registerRead : Nat → BitVec 64
/-- PRE_ACTUAL of an object whose first frame lies beyond its trigger frame (R228 states no value). Free value. -/
opaque preActual : Nat → Nat
/-- Whether HBM cannot sustain the ring's write in a tick period (R226 states only that this does not occur within the
recommended operating conditions). Free value of the tick. -/
opaque hbmFails : Nat → Bool
/-- Whether a trailer that was written and not yet flushed is in the drives after a loss of power (R238). Free value of the
sequence number. -/
opaque trailerSurvives : Nat → Bool
/-- Whether the new active core cannot complete an open capture from the journal after a fail-over (R238). Free value of the
sequence number. -/
opaque captureLost : Nat → Bool
/-- The loop filter (R260 states its bandwidth and its peaking): the integrator after an update, and the offset in ppt that the
loop asks for, by bandwidth in millihertz, integrator and phase error. Free values. -/
opaque loopIntegrate : Nat → Int → Int → Int
opaque loopDemand : Nat → Int → Int → Int
/-- How large the epoch pull is for an epoch error, in ppt less 1, before the limit (R263). Free value. -/
opaque pullSize : Int → Nat
/-- By how much the output is lowered for what is left of the sub-cycle part of a step, in ppt less 1 (R264). Free value. -/
opaque phaseSlew : Nat → Nat
/-- The phase of an output for which R272 states none. Free value. -/
opaque outputPhase : Nat → Nat
/-- Whether a location that scan unlock erases reads back other than 0 (R468). Free value of the reading. -/
opaque zeroiseFails : Nat → Bool
/-- Whether a drive, identified again when its root ports return to ON, is not as declared (R559). Free value of the reading and the
drive. -/
opaque driveChanged : Nat → Nat → Bool
/-- Whether the other master-capable device holds MST_INH_IN_N low at a tick (R280). Free value: what the board brings. -/
opaque interlockHeld : Nat → Bool
/-- By how much the handover tick lies beyond its earliest place (R299, R371). Free value, taken modulo 33. -/
opaque handoverLead : Nat → Nat
/-- How often an event of R542 that this model does not show occurs in a tick period: kind, instance, event, tick. Free
value. -/
opaque eventCount : Nat → Nat → Nat → Nat → Nat
/-- Whether a firmware image other than 2.4, named by the hash of its body, serves a WCI version (R413). Fixed by the image. -/
opaque imageServes : BitVec 384 → BitVec 16 → Bool
/-- What a signed 32-bit field shows of a value that lies outside its range (R361 to R367 state none). Free value. -/
opaque narrow32 : Int → BitVec 32
/-- Memory contents that an OFF domain loses or a destructive test leaves (R534, R553). Free value. -/
opaque lostByte : Nat → BitVec 8

end Sys2Proof.Config
end

