-- ==== Sys2Proof/Machine/Bits.lean ====
section
/-! DEFINITION. Byte order, bit fields and small list helpers that every other file of the machine uses (R2: the
registers, mailbox messages, payloads and capture objects are little-endian; the collar and hem big-endian). -/
namespace Sys2Proof.Machine

/-- The value of a little-endian byte string (R2). -/
def leNat : List Byte → Nat
  | [] => 0
  | b :: bs => b.toNat + 256 * leNat bs

/-- The `n` little-endian bytes of `v`; higher bytes are dropped (R2). -/
def leBytes : Nat → Nat → List Byte
  | 0, _ => []
  | n + 1, v => BitVec.ofNat 8 v :: leBytes n (v / 256)

/-- The `n` big-endian bytes of `v` (R2, collar and hem). -/
def beBytes (n v : Nat) : List Byte := (leBytes n v).reverse

/-- The value of a big-endian byte string (R2). -/
def beNat (bs : List Byte) : Nat := leNat bs.reverse

/-- `n` bytes of 00h. -/
def zeros (n : Nat) : List Byte := List.replicate n 0

/-- The first `n` bytes of `bs`, with 00h after its end. -/
def padTo (n : Nat) (bs : List Byte) : List Byte := (bs ++ zeros n).take n

/-- The `n`-byte little-endian field at offset `off`. -/
def field (bs : List Byte) (off n : Nat) : Nat := leNat ((bs.drop off).take n)

/-- One byte as a number; 0 past the end. -/
def byteAt (bs : List Byte) (off : Nat) : Nat := ((bs[off]?).getD 0).toNat

/-- Whether `n` bytes from `off` are all 00h. -/
def isZero (bs : List Byte) (off n : Nat) : Bool := ((bs.drop off).take n).all (· == 0)

/-- A signed two's-complement reading of an `n`-byte field. -/
def sfield (bs : List Byte) (off n : Nat) : Int :=
  let v := field bs off n
  if 2 ^ (8 * n - 1) ≤ v then (v : Int) - 2 ^ (8 * n) else v

/-- The `n`-byte two's-complement form of `v`. -/
def leSigned (n : Nat) (v : Int) : List Byte := leBytes n (v % 2 ^ (8 * n)).toNat

/-- One bit, as a number. -/
def bit (b : Bool) : Nat := if b then 1 else 0

/-- Bits of a word given as a list of Booleans, bit 0 first. -/
def packBits : List Bool → Nat
  | [] => 0
  | b :: bs => bit b + 2 * packBits bs

/-- Set bit `i` of a word. -/
def setBit {w : Nat} (v : BitVec w) (i : Nat) : BitVec w := v ||| BitVec.ofNat w (2 ^ i)

/-- Clear bit `i` of a word. -/
def clearBit {w : Nat} (v : BitVec w) (i : Nat) : BitVec w := v &&& ~~~ BitVec.ofNat w (2 ^ i)

/-- Replace the first element that satisfies `p` by its image under `f`. -/
def updateFirst {α : Type} (p : α → Bool) (f : α → α) : List α → List α
  | [] => []
  | x :: xs => if p x then f x :: xs else x :: updateFirst p f xs

/-- Set the value of key `k` in an association list: its pair is replaced, or added at the end. -/
def assocSet {κ ν : Type} [DecidableEq κ] (k : κ) (v : ν) : List (κ × ν) → List (κ × ν)
  | [] => [(k, v)]
  | (k', v') :: xs => if k' = k then (k, v) :: xs else (k', v') :: assocSet k v xs

/-- The value of key `k`, or `d`. -/
def assocGet {κ ν : Type} [DecidableEq κ] (k : κ) (d : ν) : List (κ × ν) → ν
  | [] => d
  | (k', v') :: xs => if k' = k then v' else assocGet k d xs

/-- Drop key `k`. -/
def assocDrop {κ ν : Type} [DecidableEq κ] (k : κ) (xs : List (κ × ν)) : List (κ × ν) :=
  xs.filter (fun x => !decide (x.1 = k))

/-- Whether a list has no repeats. -/
def noRepeats {α : Type} [DecidableEq α] : List α → Bool
  | [] => true
  | x :: xs => !xs.contains x && noRepeats xs

/-- The last `n` elements. -/
def lastN {α : Type} (n : Nat) (xs : List α) : List α := xs.drop (xs.length - n)

end Sys2Proof.Machine
end

