-- ==== Sys2Proof/Machine/Digest.lean ====
section
/-! DEFINITION. SHA-384 of FIPS 180-4 and HMAC-SHA-384 of FIPS 198-1, which R240, R324, R446, R449 and R460 name (log 48). -/
namespace Sys2Proof.Machine

/-- The first `n` primes. -/
def primesUpTo (n : Nat) : List Nat := (List.range n).filter (fun p => 2 ≤ p && (List.range p).all (fun d => d < 2 || p % d != 0))
/-- The cube root of `v`, rounded down, below 2^70. -/
def cubeRoot (v : Nat) : Nat :=
  (List.range 70).foldl (fun r i => let c := r + 2 ^ (69 - i); if c * c * c ≤ v then c else r) 0

/-- The round constants: the first 64 bits of the fractional parts of the cube roots of the first 80 primes. -/
def shaConstants : List (BitVec 64) := (primesUpTo 410).map (fun p => BitVec.ofNat 64 (cubeRoot (p * 2 ^ 192)))
/-- The initial hash value of SHA-384: the same of the square roots of the ninth to the sixteenth prime. -/
def shaInitial : List (BitVec 64) := ((primesUpTo 54).drop 8).map (fun p => BitVec.ofNat 64 (Nat.sqrt (p * 2 ^ 128)))

/-- The message schedule, newest word first. -/
def shaWord (ws : List (BitVec 64)) : BitVec 64 :=
  let w (k : Nat) : BitVec 64 := (ws[k - 1]?).getD 0
  let s0 (x : BitVec 64) := x.rotateRight 1 ^^^ x.rotateRight 8 ^^^ (x >>> 7)
  let s1 (x : BitVec 64) := x.rotateRight 19 ^^^ x.rotateRight 61 ^^^ (x >>> 6)
  s1 (w 2) + w 7 + s0 (w 15) + w 16
def shaSchedule (first : List (BitVec 64)) : List (BitVec 64) :=
  ((List.range 64).foldl (fun ws _ => shaWord ws :: ws) first.reverse).reverse

/-- The eight working variables. -/
structure ShaVars where
  (a b c d e f g h : BitVec 64)

def ShaVars.round (v : ShaVars) (kw : BitVec 64 × BitVec 64) : ShaVars :=
  let s1 := v.e.rotateRight 14 ^^^ v.e.rotateRight 18 ^^^ v.e.rotateRight 41
  let ch := (v.e &&& v.f) ^^^ (~~~ v.e &&& v.g)
  let t1 := v.h + s1 + ch + kw.1 + kw.2
  let s0 := v.a.rotateRight 28 ^^^ v.a.rotateRight 34 ^^^ v.a.rotateRight 39
  let maj := (v.a &&& v.b) ^^^ (v.a &&& v.c) ^^^ (v.b &&& v.c)
  { a := t1 + s0 + maj, b := v.a, c := v.b, d := v.c, e := v.d + t1, f := v.e, g := v.f, h := v.g }

def ShaVars.words (v : ShaVars) : List (BitVec 64) := [v.a, v.b, v.c, v.d, v.e, v.f, v.g, v.h]
def shaVars (ws : List (BitVec 64)) : ShaVars :=
  let w (k : Nat) : BitVec 64 := (ws[k]?).getD 0
  ⟨w 0, w 1, w 2, w 3, w 4, w 5, w 6, w 7⟩

/-- The compression of one block of 128 bytes. -/
def shaBlock (hash : List (BitVec 64)) (block : List Byte) : List (BitVec 64) :=
  let first : List (BitVec 64) := (List.range 16).map (fun i => BitVec.ofNat 64 (beNat ((block.drop (8 * i)).take 8)))
  let v := (shaConstants.zip (shaSchedule first)).foldl ShaVars.round (shaVars hash)
  List.zipWith (fun x y => x + y) hash v.words

/-- The padded message. -/
def shaPad (bs : List Byte) : List Byte :=
  bs ++ [0x80] ++ zeros ((239 - bs.length % 128) % 128) ++ beBytes 16 (8 * bs.length)

def shaBlocks : Nat → List Byte → List (BitVec 64) → List (BitVec 64)
  | 0, _, h => h
  | n + 1, bs, h => shaBlocks n (bs.drop 128) (shaBlock h (bs.take 128))

/-- SHA-384, its output bytes in the order of FIPS 180-4, the first most significant. -/
@[irreducible] def sha384 (bs : List Byte) : BitVec 384 :=
  let m := shaPad bs
  BitVec.ofNat 384 (((shaBlocks (m.length / 128) m shaInitial).take 6).foldl (fun acc w => acc * 2 ^ 64 + w.toNat) 0)

/-- A 384-bit value as 48 bytes, the first most significant. -/
def bytes384 (x : BitVec 384) : List Byte := beBytes 48 x.toNat

/-- HMAC-SHA-384 of a key and a message (R449, R460). -/
@[irreducible] def hmac384 (key msg : List Byte) : BitVec 384 :=
  let k := padTo 128 (if 128 < key.length then bytes384 (sha384 key) else key)
  sha384 (k.map (fun b => b ^^^ 0x5C) ++ bytes384 (sha384 (k.map (fun b => b ^^^ 0x36) ++ msg)))

end Sys2Proof.Machine
end

