-- ==== Sys2Proof/Machine/Memory.lean ====
section
/-! DEFINITION. The addressed memories as sparse lists of cells in one canonical form: addresses strictly rising,
no cell equal to what an unlisted address reads as. -/
namespace Sys2Proof.Machine

/-- Sparse memory contents. -/
abbrev Cells := List Host.Cell

/-- The byte at `a` in memory `m`, whose unlisted addresses read as `d`. -/
def memGet (d : Byte) : Cells → Nat → Byte
  | [], _ => d
  | (k, v) :: m, a => if k = a then v else memGet d m a

/-- Insert or replace a cell that differs from the default, keeping addresses rising. -/
def memPut (a : Nat) (b : Byte) : Cells → Cells
  | [] => [(a, b)]
  | (k, v) :: m =>
    if a < k then (a, b) :: (k, v) :: m
    else if k = a then (a, b) :: m
    else (k, v) :: memPut a b m

/-- Remove the cell at `a`. -/
def memDrop (a : Nat) : Cells → Cells
  | [] => []
  | (k, v) :: m =>
    if a < k then (k, v) :: m
    else if k = a then m
    else (k, v) :: memDrop a m

/-- Write one byte, keeping the canonical form. -/
def memSet (d : Byte) (m : Cells) (a : Nat) (b : Byte) : Cells :=
  if b = d then memDrop a m else memPut a b m

/-- Write consecutive bytes from address `a`. -/
def memWrite (d : Byte) (m : Cells) (a : Nat) : List Byte → Cells
  | [] => m
  | b :: bs => memWrite d (memSet d m a b) (a + 1) bs

/-- Read `n` consecutive bytes from address `a`. -/
def memRead (d : Byte) (m : Cells) (a : Nat) : Nat → List Byte
  | 0 => []
  | n + 1 => memGet d m a :: memRead d m (a + 1) n

/-- Give every address of `[a, a + n)` the default. -/
def memErase (m : Cells) (a n : Nat) : Cells :=
  m.filter (fun c => c.1 < a || a + n ≤ c.1)

/-- The canonical form: addresses strictly rising, and no cell holds the default. -/
def cellsWf (d : Byte) : Cells → Bool
  | [] => true
  | (k, v) :: m => v != d && m.all (fun c => k < c.1) && cellsWf d m

end Sys2Proof.Machine
end

