-- ==== Sys2Proof/Machine/HostState.lean ====
section
/-! DEFINITION. State of the host port, the mailbox channels, the journal, the semaphores and the board buses
(chapter 11), of the event recorder (chapter 16), of the always-on domain (chapter 17) and of the control fabric's
memories and eFlash (chapter 18). -/
namespace Sys2Proof.Machine

/-- The status codes of R319. -/
inductive Status where
  | ok | accepted | pending | committed | notExecuted
  | errOpcode | errLength | errVersion | errState | errRange | errBusy | errAuth | errResource | errConflict
  | errNotErased | errDate | errUnusable | errAbandoned
  deriving DecidableEq, Repr, Inhabited

/-- The state of a mailbox channel (R311 STATE). -/
inductive ChannelMode where
  | unopened | opened | error
  deriving DecidableEq, Repr, Inhabited

/-- One response as R316 and R317 lay it out; `results` are the bytes after the prefix. -/
structure Response where
  version     : BitVec 16
  opcode      : BitVec 16
  sequence    : BitVec 32
  token       : BitVec 64
  status      : Status
  stage       : BitVec 8
  persist     : Bool
  retryAnswer : Bool
  replayed    : Bool
  final       : Bool
  noIrq       : Bool
  retryAfter  : BitVec 32
  ticket      : BitVec 32
  detail      : BitVec 32
  results     : List Byte
  deriving DecidableEq, Repr, Inhabited

/-- What a channel keeps of one of its 512 most recently accepted commands (R324): digest (none for an entry
built from the snapshot, R327), latest status and results, and what later responses and JOB_STATUS need. -/
structure TokenEntry where
  token      : BitVec 64
  opcode     : BitVec 16
  digest     : Option (BitVec 128)
  status     : Status
  stage      : BitVec 8
  detail     : BitVec 32
  results    : List Byte
  version    : BitVec 16
  sequence   : BitVec 32
  persist    : Bool
  noIrq      : Bool
  durable    : Bool
  recovery   : Bool
  ticket     : BitVec 32
  jobState   : BitVec 8
  reason     : BitVec 8
  startTick  : Nat
  bound      : Nat
  acceptedBy : Fin 2
  /-- A host-port reset withdrew the outstanding responses (R310). -/
  withdrawn  : Bool
  deriving DecidableEq, Repr, Inhabited

/-- One mailbox channel (R311, R314, R320, R324). -/
structure Channel where
  reqPi    : BitVec 32
  reqCi    : BitVec 32
  rspPi    : BitVec 32
  rspCi    : BitVec 32
  mode     : ChannelMode
  wasOpen  : Bool
  version  : BitVec 16
  held     : List Response
  window   : List TokenEntry
  /-- Commands whose token has left the window while responses to them are still to come (R317, R338). -/
  left     : List TokenEntry
  /-- Tokens answered ERR_BUSY, with the tick at which RETRY_AFTER has passed (R320). -/
  busy     : List (BitVec 64 × Nat)
  /-- A request doorbell that arrived during a service gap (R431). -/
  doorbell : Bool
  /-- MBX_REQ_PI as the device read it at the last request doorbell (R313 step 2). -/
  rungPi   : BitVec 32
  deriving DecidableEq, Repr, Inhabited

/-- What a command that has been taken still waits for from the host's memory (R318, R319 steps 11 and 12). -/
inductive DmaWait where
  | descriptors
  | input (bytes : Nat)
  | output (data results : List Byte)
  deriving DecidableEq, Repr, Inhabited

/-- A command that waits for a DMA transfer (R318). -/
structure WaitingCommand where
  opcode   : BitVec 16
  request  : Request
  wait     : DmaWait
  /-- Its first response has been posted. -/
  accepted : Bool
  /-- It was taken from the request ring, whose MBX_REQ_CI waits for its answer (R313). -/
  ring     : Bool
  deriving DecidableEq, Repr, Inhabited

/-- The command that a job or a delayed effect answers when it ends: its channel and token. -/
structure CommandRef where
  channel : Fin 8
  token   : BitVec 64
  deriving DecidableEq, Repr, Inhabited

/-- An accepted command whose effects apply at the next tick (R337). -/
structure DeferredCommand where
  opcode  : BitVec 16
  request : Request
  /-- What it read from its buffer. -/
  data    : List Byte
  deriving DecidableEq, Repr, Inhabited

/-- The kinds of journal record (R325). -/
inductive JournalKind where
  | accept | done | applied | posted (index : BitVec 32) | durable
  deriving DecidableEq, Repr, Inhabited

/-- One journal record (R325). -/
structure JournalRecord where
  command : CommandRef
  kind    : JournalKind
  deriving DecidableEq, Repr, Inhabited

/-- One recovery-log entry (R328). -/
structure RecoveryEntry where
  token     : BitVec 64
  opcode    : BitVec 16
  channel   : Fin 8
  committed : Bool
  deriving DecidableEq, Repr, Inhabited

/-- The recovery log (R328). -/
structure RecoveryLog where
  source     : BitVec 8
  startFrame : BitVec 64
  lossRtc    : BitVec 64
  entries    : List RecoveryEntry
  deriving DecidableEq, Repr, Inhabited

/-- One snapshot entry, as the recovery-snapshot region holds it (R327, R517). -/
structure SnapshotEntry where
  token   : BitVec 64
  opcode  : BitVec 16
  channel : Fin 8
  durable : Bool
  deriving DecidableEq, Repr, Inhabited

/-- A host-visible semaphore SEM_Hn (R330). -/
structure SemH where
  held      : Bool
  abandoned : Bool
  path      : BitVec 2
  tag       : BitVec 16
  deriving DecidableEq, Repr, Inhabited

/-- A management semaphore SEM_Mn (R442). -/
structure SemM where
  held      : Bool
  abandoned : Bool
  owner     : BitVec 3
  tag       : BitVec 16
  deriving DecidableEq, Repr, Inhabited

/-- A heartbeat register with its check (R308, R332): value, timeout in ms, tick of the last change, lost flag. -/
structure Heartbeat where
  value     : BitVec 32
  timeoutMs : BitVec 16
  since     : Nat
  lost      : Bool
  deriving DecidableEq, Repr, Inhabited

/-- The I²C controller (R333): the transfer in progress, the retries left, the last result, ARB_LOST count. -/
structure BoardBus where
  transfer : Option BoardBusTransfer
  retries  : Nat
  result   : BitVec 8
  readData : List Byte
  arbLost  : Nat
  deriving DecidableEq, Repr, Inhabited

/-- The host port and what chapter 11 gives it. -/
structure HostState where
  service        : BitVec 4
  linkWidth      : Nat
  linkGen        : Nat
  busMaster      : Bool
  hostHeartbeat  : Heartbeat
  bmcHeartbeat   : Heartbeat
  mgmtHeartbeat  : BitVec 32
  setWins        : BitVec 32
  bar0Err        : BitVec 3
  recoveryPending : Bool
  lapseConditions : Bool
  lapseTiming    : Bool
  lapseFaults    : Bool
  sems           : Vector SemH 8
  semMs          : Vector SemM 32
  msixTable      : Cells
  channels       : Vector Channel 8
  waiting        : List WaitingCommand
  /-- Responses that the present step posts when its effects are in place; between steps it holds only those that a
  service gap keeps back (R431). -/
  outbox         : List (Fin 8 × Response)
  /-- The next ticket; 0 stands for 1 (R338). -/
  nextTicket     : BitVec 32
  /-- Channels whose last request taken was answered ERR_BUSY: such answers in a row are one event (R334). -/
  busyBurst      : Vector Bool 8
  /-- The channel served last of each class: urgent, normal, bulk (R321). -/
  served         : Vector (Fin 8) 3
  journal        : List JournalRecord
  /-- How many records the normal part of journal SRAM takes: the spec gives no record sizes (free value). -/
  journalRoom    : Nat
  recovery       : Option RecoveryLog
  snapshot       : Option (List SnapshotEntry)
  /-- Neither area of the recovery-snapshot region has ever been programmed (R327). -/
  snapshotBlank  : Bool
  /-- The bytes that the last read of a BAR0 register or through the I²C target gave. -/
  lastRead       : List Byte
  boardBus       : BoardBus
  deriving DecidableEq, Repr, Inhabited

/-- An event record (R471). -/
structure EventRecord where
  code        : BitVec 16
  severity    : BitVec 4
  rtcInvalid  : Bool
  untraceable : Bool
  retained    : Bool
  source      : BitVec 9
  rtcSeconds  : BitVec 48
  frame       : BitVec 64
  param0      : BitVec 32
  param1      : BitVec 32
  param2      : BitVec 32
  deriving DecidableEq, Repr, Inhabited

/-- A record in the volatile buffer, with the tick at which it entered (R481). -/
structure BufferedRecord where
  record : EventRecord
  tick   : Nat
  deriving DecidableEq, Repr, Inhabited

/-- A committed record: its index, and its place among the 65,536 of the event-log region (R482). -/
structure LoggedRecord where
  index  : Nat
  place  : Nat
  record : EventRecord
  deriving DecidableEq, Repr, Inhabited

/-- A route of R475. -/
structure Route where
  enable      : Bool
  queue       : Bool
  vector      : BitVec 4
  pins        : BitVec 4
  minSeverity : BitVec 4
  deriving DecidableEq, Repr, Inhabited

/-- An EVENT_N pin (R478): driven low, until which tick, high at least until which tick, a pulse waiting. -/
structure EventPin where
  low       : Bool
  lowUntil  : Nat
  highUntil : Nat
  waiting   : Bool
  deriving DecidableEq, Repr, Inhabited

/-- The retention copy (R487). -/
structure RetentionCopy where
  records      : List EventRecord
  unflushed    : Nat
  flushedAfter : Nat
  suppressed   : Nat
  copyFrame    : BitVec 64
  deriving DecidableEq, Repr, Inhabited

/-- The event recorder, its queue, routes and interrupts (chapter 16, R309). -/
structure EventState where
  summary      : BitVec 16
  mask         : BitVec 16
  queuePi      : BitVec 32
  queueCi      : BitVec 32
  queueBaseLo  : BitVec 20
  queueBaseHi  : BitVec 32
  queueEnable  : Bool
  queueLoss    : Nat
  /-- The records written to the queue in host memory, by entry number. -/
  queueEntries : List (Nat × EventRecord)
  routes       : Vector Route 488
  /-- MSI-X messages sent, newest first (R477). -/
  msixSent     : List (Fin 16)
  pins         : Vector EventPin 4
  buffer       : List BufferedRecord
  /-- The 64 newest records, flushed or not (R487). -/
  recent       : List EventRecord
  log          : List LoggedRecord
  nextIndex    : Nat
  lost         : Nat
  /-- The next page of the event-log region to program, 0 to 8,191 (R482). -/
  headPage     : Nat
  /-- A sector after the head stands erased (R482). -/
  standing     : Bool
  /-- Frozen until this tick (R398). -/
  frozenUntil  : Option Nat
  /-- AREA 0 reads in progress hold flushes, until this tick at the latest (R399). -/
  holds        : Nat
  holdsUntil   : Nat
  discarded    : Bool
  discardLow   : Nat
  discardMid   : Nat
  discardTop   : Nat
  powerFailing : Bool
  regionFault  : Bool
  /-- LOG_CLEAR commands whose clear record is not yet in eFlash (R401). -/
  clears       : List (CommandRef × EventRecord)
  /-- The records that a LOG_CLEAR erased whose clear record is not in eFlash yet (R24, R401). -/
  erased       : List LoggedRecord
  retention    : Option RetentionCopy
  retentionOk  : Bool
  deriving DecidableEq, Repr, Inhabited

/-- The always-on domain (chapter 17). -/
structure RtcState where
  seconds        : BitVec 40
  subSeconds     : BitVec 15
  /-- The tick at which the present second began, from which the sub-second count follows while the device is powered. -/
  secondAt       : Nat
  valid          : Bool
  oscStopped     : Bool
  /-- The crystal gives no edges now (R493). -/
  crystalDown    : Bool
  vbatLow        : Bool
  taiUtc         : BitVec 16
  leap           : BitVec 8
  leapTai        : BitVec 64
  trim           : BitVec 32
  alignedSeconds : BitVec 64
  settingsOk     : Bool
  lossRtc        : BitVec 64
  lossFrame      : BitVec 64
  lossCount      : BitVec 32
  lossOk         : Bool
  /-- The domain has been reset since the last start (R492). -/
  domainReset    : Bool
  deriving DecidableEq, Repr, Inhabited

/-- A command in the eFlash controller's FIFO (R518). -/
inductive FlashCommand where
  | erase (sector : Fin 4096)
  | program (page : Fin 65536) (data : BitVec 2048)
  deriving DecidableEq, Repr, Inhabited

/-- The eFlash (R516 to R520). Sectors not listed have erase count 0. -/
structure FlashState where
  cells       : Cells
  fifo        : List FlashCommand
  /-- What each plane executes now. -/
  busy        : Vector (Option FlashCommand) 4
  eraseCounts : List (Nat × Nat)
  warned      : List Nat
  unusable    : List Nat
  retired     : Nat
  spares      : Nat
  /-- Sectors whose erase was aborted by a power failure and that are erased again at the next start (R520). -/
  aborted     : List Nat
  refusedPush : Nat
  deriving DecidableEq, Repr, Inhabited

/-- The control fabric and its memories (chapter 18). -/
structure FabricState where
  cells       : Cells
  /-- The master granted last by each of the twelve targets' arbiters (R505); none at a start. -/
  granted     : Vector (Option (Fin 8)) 12
  collisions  : Vector (BitVec 32) 16
  /-- The word at which port D meets collisions now, and how many in a row (R513). -/
  streak      : Option (Nat × Nat)
  corrected   : Nat
  refusals    : Nat
  /-- Logical banks of management SRAM with an uncorrectable error recorded, with the failing address (R514). -/
  faulty      : List (Fin 16 × BitVec 40)
  /-- The logical bank that the spare replaces (R512). -/
  spareFor    : Option (Fin 16)
  /-- Words in which SECDED has found an error that it cannot correct (R514, R515). -/
  badWords    : List Nat
  /-- What the last access of each master was answered: the value read, and whether the response was an error (R509, R510). -/
  responses   : Vector (BitVec 64 × Bool) 8
  deriving DecidableEq, Repr, Inhabited

/-- The default vector of a source (R470). -/
def defaultVector (src : Nat) : Nat :=
  if src < 128 then 8 else if src < 232 then 9 else if src < 296 then 10
  else if 297 ≤ src ∧ src < 305 then src - 297
  else if src < 360 then 11 else if src < 424 then 12 else 13

/-- The route of a source at a cold start (R475). -/
def defaultRoute (src : Nat) : Route :=
  { enable := true, queue := true, vector := BitVec.ofNat 4 (defaultVector src),
    pins := if 392 ≤ src ∧ src < 424 then 1 else 0, minSeverity := 4 }

end Sys2Proof.Machine
end

