-- ==== Sys2Proof/Machine/PathState.lean ====
section
/-! DEFINITION. State of the line ports (chapters 2 and 3) and of their link security (R456 to R466), of the fabric
and its maps (chapters 4 and 5) and of protection switching (chapter 6). -/
namespace Sys2Proof.Machine

/-- The aligner states (R71). -/
inductive AlignerMode where
  | hunt | presync | sync
  deriving DecidableEq, Repr, Inhabited

/-- The port states in the code order of R348. -/
inductive PortMode where
  | down | training | tinder | up | stopped
  deriving DecidableEq, Repr, Inhabited

/-- The port roles (R346). -/
inductive PortRole where
  | unused | line | seam
  deriving DecidableEq, Repr, Inhabited

/-- The defects in the bit order of R348. -/
inductive Defect where
  | los | lof | lop | auth | tim | role | sd | uls
  deriving DecidableEq, Repr, Inhabited

/-- The settings of R95's second class, in force. -/
structure PortSettings where
  version    : BitVec 2
  role       : PortRole
  window     : Fin 17
  txPreset   : Fin 16
  rxAdapt    : Fin 3
  inFormats  : Vector (Fin 7) 256
  outFormats : Vector (Fin 7) 256
  /-- Declared bundles: first slot and length. -/
  inBundles  : List (Fin 256 × Nat)
  outBundles : List (Fin 256 × Nat)
  deriving DecidableEq, Repr, Inhabited

/-- Staged changes of those settings (R95, R96). -/
structure StagedSettings where
  version    : Option (BitVec 2)
  role       : Option PortRole
  window     : Option (Fin 17)
  txPreset   : Option (Fin 16)
  rxAdapt    : Option (Fin 3)
  inFormats  : Option (Vector (Fin 7) 256)
  outFormats : Option (Vector (Fin 7) 256)
  inBundles  : Option (List (Fin 256 × Nat))
  outBundles : Option (List (Fin 256 × Nat))
  deriving DecidableEq, Repr, Inhabited

/-- An envelope frame in the ingress alignment buffer (R79, R113): its input frame number, payload, received map,
the slots that a failed tag of line frame N+1 leaves unauthenticated, whether its own tag failed, and AUX. -/
structure Envelope where
  number    : BitVec 64
  payload   : Payload
  validity  : BitVec 256
  unauth    : BitVec 256
  tagFailed : Bool
  aux       : BitVec 1024
  deriving DecidableEq, Repr, Inhabited

/-- An envelope frame of which the last slots lie in the next line frame (R79). -/
structure PartialEnvelope where
  number    : BitVec 64
  /-- Slots received so far, slot 0 most significant, the rest 0. -/
  payload   : Payload
  /-- How many slots have been received. -/
  slots     : Nat
  validity  : BitVec 256
  tagFailed : Bool
  aux       : BitVec 1024
  deriving DecidableEq, Repr, Inhabited

/-- The pointer processor (R75 to R78). -/
structure PointerState where
  value      : Nat
  /-- Frames since the last adjustment accepted; 4 or more when none is recent (R76). -/
  sinceAdjust : Nat
  jumpValue  : Nat
  jumpRun    : Nat
  disagree   : Nat
  equalRun   : Nat
  /-- No pointer value has been taken since the aligner entered SYNC. -/
  known      : Bool
  deriving DecidableEq, Repr, Inhabited

/-- The trail-trace checker (R87, R88). -/
structure TraceState where
  /-- Quarters of the message being assembled, and whether one of them failed its tag check. -/
  parts     : List (List Byte)
  spoiled   : Bool
  last      : List Byte
  run       : Nat
  accepted  : Option (List Byte)
  /-- Frames since the start of acceptance, and whether a message has been accepted since then (R88). -/
  since     : Nat
  found     : Bool
  deriving DecidableEq, Repr, Inhabited

/-- The protect-channel receiver of one port (R170). -/
structure ProtChannel where
  last     : BitVec 64
  run      : Nat
  accepted : Option (BitVec 64)
  /-- Good frames since an acceptance. -/
  waiting  : Nat
  /-- Good frames in a row that carry the accepted value, counted anew after each fault (R170). -/
  clean    : Nat
  deriving DecidableEq, Repr, Inhabited

/-- A link key in a slot (R456, R457): the key, its SESSION, frames encrypted, the highest number sent. -/
structure LinkKey where
  key     : BitVec 256
  session : Fin 32768
  frames  : Nat
  highest : Option (BitVec 64)
  deriving DecidableEq, Repr, Inhabited

/-- The forms of an agreement (R461). -/
inductive AgreementForm where
  | full | resumed | nextKey
  deriving DecidableEq, Repr, Inhabited

/-- The steps of an agreement (R459, R463). -/
inductive AgreementStep where
  | hello | auth | confirm | done
  deriving DecidableEq, Repr, Inhabited

/-- A key agreement in progress (R460 to R463). -/
structure Agreement where
  form        : AgreementForm
  step        : AgreementStep
  started     : Nat
  ownHello    : List Byte
  peerHello   : Option (List Byte)
  scalar      : BitVec 384
  peerAuth    : Option (List Byte)
  /-- The checks of R462 have passed. -/
  checked     : Bool
  peerConfirm : Bool
  ready       : Bool
  deriving DecidableEq, Repr, Inhabited

/-- What KEY_CH sends (R458, R463): the message, the segment sent next, complete sends so far, a message to send
once more first, and the final CONFIRMs left. -/
structure KeySender where
  message   : Option KeyMessage
  segment   : Nat
  sends     : Nat
  again     : Option (KeyMessage × Nat)
  finalLeft : Nat
  deriving DecidableEq, Repr, Inhabited

/-- A message being assembled from KEY_CH (R458). -/
structure KeyAssembly where
  type    : BitVec 4
  nextSeq : Nat
  bytes   : List Byte
  deriving DecidableEq, Repr, Inhabited

/-- The link security of one port (R456 to R466). -/
structure LinkState where
  rxSlots    : Vector (Option LinkKey) 2
  txSlots    : Vector (Option LinkKey) 2
  txKid      : Fin 2
  rxKid      : Fin 2
  /-- The transmit slot whose keys are ready (R463). -/
  ready      : Option (Fin 2)
  /-- The LINK_REKEY that awaits the switch (R406). -/
  rekey      : Option CommandRef
  steppedBack : Bool
  /-- The tick at which both the transmitter and the received KID had moved (R464). -/
  movedAt    : Option Nat
  agreement  : Option Agreement
  sender     : KeySender
  assembly   : Option KeyAssembly
  /-- A message assembled and not yet acted on. -/
  assembled  : Option KeyMessage
  waiting    : Bool
  retryAt    : Option Nat
  retryWait  : Nat
  lastExhausted : Nat
  peerLane   : BitVec 16
  /-- The highest frame number sent under K0, which outlives the erasure of the slots (R38). -/
  bootHighest : Option (BitVec 64)
  deriving DecidableEq, Repr, Inhabited

/-- The last line frame that a transmitter sent: the levels of its 27,200 PAM4 symbols (R35) and whether its plaintext went
unencrypted under R464; none when the port sent nothing. -/
structure SentFrame where
  number      : BitVec 64
  levels      : BitVec 54400
  unencrypted : Bool
  deriving DecidableEq, Repr, Inhabited

/-- The transmitter of a port (R80, R85, R86). -/
structure Transmitter where
  last        : Option SentFrame
  pointer     : Nat
  sinceAdjust : Nat
  /-- The envelope lag in 50 ps units (R80, R266). -/
  lag         : Nat
  rdi         : Bool
  rdiHold     : Nat
  rei         : List Nat
  /-- The slots that a shifted envelope carries over into the next line frame (R42). -/
  tail        : List (BitVec 192)
  /-- The message of the trail trace being sent (R89). -/
  trace       : List Byte
  deriving DecidableEq, Repr, Inhabited

/-- The output frame that the last centre pass has assembled for a port (R98). -/
structure OutputFrame where
  payload  : Payload
  validity : BitVec 256
  aux      : BitVec 1024
  /-- The input ports that feed its quarters: a slip of one of them in this frame is sent as ULS (R82). -/
  feeds    : List PortNo
  deriving DecidableEq, Repr, Inhabited

/-- One line port. -/
structure Port where
  mode        : PortMode
  resuming    : Bool
  /-- F of the stop or G of the restart in force (R96). -/
  frameMark   : BitVec 64
  settings    : PortSettings
  staged      : StagedSettings
  txTrace     : List Byte
  partner     : List Byte
  sdSet       : Fin 10 × Fin 9
  sdClear     : Fin 10 × Fin 9
  aligner     : AlignerMode
  confirms    : Nat
  misses      : Nat
  /-- Symbol positions at which the alignment word was seen one frame ago (R72). -/
  candidates  : List (Fin 27200)
  position    : Fin 27200
  /-- The current frame number (R74). -/
  number      : BitVec 64
  pointer     : PointerState
  part        : Option PartialEnvelope
  buffer      : List Envelope
  /-- The number of the first line frame of a run toward a new pointer value (R77). -/
  jumpFirst   : BitVec 64
  slip        : Int
  sinceSlip   : Nat
  slipFrames  : List (BitVec 64)
  theta       : Int
  thetaMin    : Int
  thetaMax    : Int
  /-- A frame has been noted since the minimum and the maximum were restarted. -/
  thetaSeen   : Bool
  /-- θ of the envelope frames of the last 2^22 frames, newest first (R82). -/
  thetaPast   : List (BitVec 64 × Int)
  defects     : BitVec 8
  losRun      : Nat
  failRun     : Nat
  passRun     : Nat
  /-- AUTH stands for a failed key agreement, until a later one succeeds (R465). -/
  authHeld    : Bool
  roleRun     : Nat
  rdiRx       : Bool
  farStopped  : Bool
  farUls      : Bool
  rxVersion   : BitVec 2
  trace       : TraceState
  counters    : Vector (BitVec 48) 12
  winSymbols  : Nat
  winBad      : Nat
  lastSer     : Nat
  /-- Runs of frames at or beyond, and below, the invalid-slot threshold of its group (R156). -/
  invalidRun  : Nat
  validRun    : Nat
  invalidCond : Bool
  protRx      : ProtChannel
  /-- The tick at which the port entered its state. -/
  entered     : Nat
  trainEvent  : Bool
  /-- Enabled under tinder service: fast-train presets, 200 ms limit (R91). -/
  fastTrain   : Bool
  link        : LinkState
  tx          : Transmitter
  out         : Option OutputFrame
  deriving DecidableEq, Repr, Inhabited

/-- An endpoint (R127). -/
structure Endpoint where
  port : PortNo
  unit : Fin 1024
  deriving DecidableEq, Repr, Inhabited

/-- A connection of a connection list (R121, R126). -/
structure Connection where
  id      : BitVec 32
  kind    : Fin 4
  source  : Endpoint
  protect : Option Endpoint
  dests   : List Endpoint
  deriving DecidableEq, Repr, Inhabited

/-- A pair entry (R139). -/
structure PairEntry where
  id             : BitVec 32
  outPort        : PortNo
  outQuarter     : Fin 1024
  alternate      : Fin 2048
  protectPort    : PortNo
  protectQuarter : Fin 1024
  deriving DecidableEq, Repr, Inhabited

/-- A connection-memory bank (R99), sparse: an ingress or egress entry that is not listed is none, a plane entry
that is not listed is the pattern source, an AUX selection that is not listed is none. Keys: 2,048 p + c;
262,144 k + 512 t + j; 1,024 q + y; q. -/
structure Bank where
  ingress : List (Nat × Fin 1024)
  plane   : List (Nat × PortNo)
  egress  : List (Nat × Fin 2048)
  aux     : List (Nat × PortNo)
  pairs   : List PairEntry
  /-- The list that the bank was built from (R124). -/
  list    : List Connection
  generation : BitVec 64
  deriving DecidableEq, Repr, Inhabited

/-- The shadow-bank states in the code order of R354. -/
inductive ShadowMode where
  | mirroring | mirror | building | ready | scheduled | held
  deriving DecidableEq, Repr, Inhabited

/-- The centre-plane states in the code order of R354. -/
inductive PlaneMode where
  | on | draining | off | testing | fault
  deriving DecidableEq, Repr, Inhabited

/-- One centre plane (R106, R107). -/
structure Plane where
  mode     : PlaneMode
  unusable : Bool
  passes   : Nat
  /-- The PLANE_SETs that await this plane's OFF or ON (R356). -/
  commands : List CommandRef
  /-- Turned on, waiting for its domain. -/
  wanted   : Bool
  deriving DecidableEq, Repr, Inhabited

/-- Why a map job fails (R129, R133, R140): status, reason, the offenders in order, DETAIL. -/
structure MapFailure where
  status    : Status
  reason    : Nat
  offenders : List Nat
  detail    : Nat
  deriving DecidableEq, Repr, Inhabited

/-- What the checks of a map job's input have found. -/
inductive MapCheck where
  | bad (f : MapFailure)
  /-- A list that passed R129: the connections of the new list, whether any may move, and the identifiers added. -/
  | list (conns : List Connection) (rearrange : Bool) (added : List (BitVec 32))
  /-- A raw map that passed R140. -/
  | raw (bank : Bank)
  deriving DecidableEq, Repr, Inhabited

/-- Where the solver places one fed output quarter, and the alternate position of a pair's protect member
(R100, R130, R139). -/
structure Placed where
  outPort    : PortNo
  outQuarter : Fin 1024
  position   : Fin 2048
  alternate  : Option (Fin 2048)
  deriving DecidableEq, Repr, Inhabited

/-- How the solver ends its placement of a list that passed the checks of R129 (R133). -/
inductive SolverOutcome where
  | placed (p : List Placed)
  | blocked (ids : List (BitVec 32))
  | unplaceable (ids : List (BitVec 32))
  | scratch
  deriving DecidableEq, Repr, Inhabited

/-- What the solver's answer depends on (R131): the list, the base bank, the plane states, the declarations and the flags. -/
structure SolverQuestion where
  list      : List Connection
  base      : Bank
  planes    : List PlaneMode
  settings  : Vector PortSettings 512
  rearrange : Bool
  /-- The identifiers that a DELTA list adds. -/
  added     : List (BitVec 32)
  deriving DecidableEq, Repr, Inhabited

/-- A map job, running or queued (R132, R135). -/
structure MapJob where
  command : CommandRef
  raw     : Bool
  /-- The list or image, once it has arrived, and the length of the buffer that it came from. -/
  data    : Option (List Byte)
  /-- The active generation when the job started, and the tick at which its time began. -/
  base    : BitVec 64
  started : Nat
  /-- The declarations of the ports and the protect ports of the groups when the job started (R129). -/
  settings : Vector PortSettings 512
  protects : List PortNo
  /-- The result of the checks, once the job runs and its input has arrived. -/
  checked : Option MapCheck
  deriving DecidableEq, Repr, Inhabited

/-- A swap that is scheduled or has just taken place (R141, R142). -/
structure MapSwap where
  frame   : BitVec 64
  persist : Bool
  command : Option CommandRef
  latched : Bool
  deriving DecidableEq, Repr, Inhabited

/-- A copy of a bank in a slot of the map region, with the SHA-384 digest that stands in it (R147). -/
structure PersistentCopy where
  bank   : Bank
  digest : BitVec 384
  deriving DecidableEq, Repr, Inhabited

/-- The maps, the planes and the route solver's jobs (chapters 4 and 5). -/
structure MapState where
  active     : Bank
  shadow     : Bank
  shadowMode : ShadowMode
  mirrorSince : Nat
  job        : Option MapJob
  queued     : Option MapJob
  swap       : Option MapSwap
  /-- A swap that took place and whose output frame has not left yet. -/
  leaving    : Option MapSwap
  planes     : Vector Plane 4
  rerouteWanted : Bool
  /-- Mismatches by plane and port: count, since the last event, tick of the last event (R109). -/
  mismatches : List ((Fin 4 × PortNo) × Nat × Nat × Nat)
  /-- Planes whose fault or pattern mismatch makes their quarters absent now: plane and, when only one, the port. -/
  absentNow  : List (Fin 4 × Option PortNo)
  corrected  : Nat
  /-- Planes with an uncorrectable error in their entries of the active bank (R109). -/
  badPlanes  : List (Fin 4)
  copies     : Vector (Option PersistentCopy) 2
  /-- Plane entries of the persistent copy that wait for their plane's domain at a start (R137, R149). -/
  toRebuild  : List (Nat × PortNo)
  /-- A persistent write in progress: the bank written (R148). -/
  persisting : Option Bank
  /-- Commands that wait for a persistent copy of at least this generation. -/
  persistWaits : List (CommandRef × BitVec 64)
  sharedPairs : Nat
  solverDoubled : Bool
  deriving DecidableEq, Repr, Inhabited

/-- The settings of a group or a pair (R153, R155). -/
structure ProtSettings where
  revertive : Bool
  holdOff   : Nat
  wtr       : Nat
  sdCrit    : Bool
  threshold : Nat
  deriving DecidableEq, Repr, Inhabited

/-- The requests of R158 by code. -/
inductive ProtRequest where
  | lo | sfP | fs | sfW | sdP | sdW | ms | wtr | rr | dnr | nr
  deriving DecidableEq, Repr, Inhabited

/-- The running state of a group or a pair (R156 to R175). Conditions hold the tick of their declaration. -/
structure ProtUnit where
  lo        : Bool
  fs        : Option (Fin 16)
  ms        : Option (Fin 16)
  sf        : Vector (Option Nat) 16
  sd        : Vector (Option Nat) 16
  /-- Hold-off of a condition in progress, fixed when it arose (R153). -/
  hold      : Vector Nat 16
  /-- WTR running for a member until a tick. -/
  wtr       : Option (Fin 16 × Nat)
  dnr       : Option (Fin 16)
  request   : ProtRequest
  member    : Fin 16
  selected  : Fin 16
  bridged   : Fin 16
  notHitless : Bool
  protFail  : Bool
  far       : Option (BitVec 64)
  /-- Frames since this end's request was first sent without a matching BRIDGED (R170). -/
  unanswered : Nat
  /-- The members at whose receivers PROT_FAIL stands; member 0 also for a request without its BRIDGED (R170). -/
  failing   : BitVec 16
  switches  : BitVec 32
  reverts   : BitVec 32
  rescues   : BitVec 32
  marked    : BitVec 32
  /-- Output frames up to this number are marked, of the member that was switched (R166). -/
  markUntil : Option (BitVec 64)
  markMember : Fin 16
  deriving DecidableEq, Repr, Inhabited

/-- A port protection group (R152, R153). -/
structure ProtGroup where
  oneToN   : Bool
  protect  : PortNo
  working  : List PortNo
  tag      : BitVec 16
  settings : ProtSettings
  unit     : ProtUnit
  deriving DecidableEq, Repr, Inhabited

/-- Protection (chapter 6). -/
structure ProtState where
  groups       : Vector (Option ProtGroup) 256
  pairUnits    : List (BitVec 32 × ProtUnit)
  pairSettings : List (BitVec 32 × ProtSettings)
  deriving DecidableEq, Repr, Inhabited

/-- Trace acceptance starts afresh (R88). -/
def TraceState.fresh : TraceState :=
  { parts := [], spoiled := false, last := [], run := 0, accepted := none, since := 0, found := false }

/-- The pointer processor before the aligner is in SYNC. -/
def PointerState.fresh : PointerState :=
  { value := 0, sinceAdjust := 4, jumpValue := 0, jumpRun := 0, disagree := 0, equalRun := 0, known := false }

/-- The protect-channel receiver before any frame. -/
def ProtChannel.fresh : ProtChannel := { last := 0, run := 0, accepted := none, waiting := 0, clean := 0 }

/-- The bootstrap key K0: 32 bytes of 00h, SESSION 0 (R448, R457). -/
def bootstrapKey : LinkKey := { key := 0, session := 0, frames := 0, highest := none }

/-- A key channel that sends IDLE (R458). -/
def KeySender.idle : KeySender := { message := none, segment := 0, sends := 0, again := none, finalLeft := 0 }

/-- The link security of a DOWN port: both slots erased (R457). -/
def LinkState.erased : LinkState :=
  { rxSlots := Vector.replicate 2 none, txSlots := Vector.replicate 2 none, txKid := 0, rxKid := 0, ready := none
    rekey := .none, steppedBack := false, movedAt := none, agreement := none, sender := .idle, assembly := none
    assembled := none, waiting := false, retryAt := none, retryWait := 1, lastExhausted := 0, peerLane := 0
    bootHighest := none }

/-- Both key slots of a port are erased (R457); the numbers sent under K0 are not forgotten (R38). -/
def LinkState.erase (l : LinkState) : LinkState := { LinkState.erased with bootHighest := l.bootHighest }

/-- Nothing staged. -/
def StagedSettings.none : StagedSettings :=
  { version := .none, role := .none, window := .none, txPreset := .none, rxAdapt := .none, inFormats := .none
    outFormats := .none, inBundles := .none, outBundles := .none }

/-- A bank with nothing connected (R124, R149). -/
def Bank.empty : Bank := { ingress := [], plane := [], egress := [], aux := [], pairs := [], list := [], generation := 0 }

end Sys2Proof.Machine
end

