-- ==== Sys2Proof/Machine/EmberState.lean ====
section
/-! DEFINITION. State of the Ember engines, their recipes and their records (chapter 7). -/
namespace Sys2Proof.Machine

/-- The kinds of stage (R186). -/
inductive StageKind where
  | power | sk | occupancy | change
  deriving DecidableEq, Repr, Inhabited

/-- The comparisons of a stage (R186). -/
inductive Compare where
  | above | below | outside
  deriving DecidableEq, Repr, Inhabited

/-- A stage of a recipe (R186); thresholds are binary32 words. -/
structure Stage where
  kind    : StageKind
  compare : Compare
  avg     : Fin 17
  lo      : BitVec 32
  hi      : BitVec 32
  level   : BitVec 32
  hold    : Fin 65536
  deriving DecidableEq, Repr, Inhabited

/-- A recipe in use (R185). -/
structure Recipe where
  quarter : Bool
  moments : Bool
  derived : Bool
  tag     : Byte
  dwell   : Nat
  report  : Nat
  shift   : Fin 16
  stages  : List Stage
  deriving DecidableEq, Repr, Inhabited

/-- A recipe set (R184): the recipes in use, and the slots 256p+s that have one. -/
structure RecipeSet where
  recipes : List (Fin 64 × Recipe)
  assign  : List (Fin 131072 × Fin 64)
  deriving DecidableEq, Repr, Inhabited

/-- The states of a shadow recipe or trigger bank (R197, R221). -/
inductive BankMode where
  | empty | loading | ready | scheduled
  deriving DecidableEq, Repr, Inhabited

/-- A scheduled swap of a recipe or trigger bank. -/
structure BankSwap where
  frame   : BitVec 64
  persist : Bool
  command : CommandRef
  deriving DecidableEq, Repr, Inhabited

/-- The accumulators of a unit over one dwell (R180), with their saturation flags, the samples summed and the USED
count. -/
structure Moments where
  sumP    : Nat
  sumP2   : Nat
  maxP    : Nat
  clip    : Nat
  used    : Nat
  samples : Nat
  satP    : Bool
  satP2   : Bool
  satClip : Bool
  deriving DecidableEq, Repr, Inhabited

/-- A dwell that has ended and that the core has not yet processed (R180, R182). -/
structure ClosedDwell where
  moments : Moments
  last    : BitVec 64
  partialDwell : Bool
  /-- No dwell ends here, only the interval, which a step or a stop has cut between two dwells. -/
  noDwell : Bool
  /-- It ends the report interval that began at `intervalFirst`, and that is partial. -/
  endsInterval : Bool
  intervalFirst : BitVec 64
  partialInterval : Bool
  deriving DecidableEq, Repr, Inhabited

/-- What a unit has gathered over a report interval (R201, R202). -/
structure IntervalSums where
  sums      : Moments
  evaluated : Nat
  sparks    : Nat
  /-- Evaluated dwells whose mean power exceeded LEVEL, by stage number. -/
  above      : List Nat
  format    : Bool
  deriving DecidableEq, Repr, Inhabited

/-- A finished report interval, which waits for its record (R200). -/
structure DoneInterval where
  sums : IntervalSums
  first : BitVec 64
  last : BitVec 64
  partialInterval : Bool
  deriving DecidableEq, Repr, Inhabited

/-- One unit of an engine (R180, R187, R189): a quarter 4s+q, or 4s at slot level. -/
structure UnitState where
  unit      : Fin 1024
  recipe    : Fin 64
  current   : Moments
  /-- Where the dwell and the interval in progress began. -/
  dwellFirst : BitVec 64
  intervalFirst : BitVec 64
  closed    : List ClosedDwell
  interval  : IntervalSums
  done      : List DoneInterval
  /-- The CHANGE baseline and the quiet dwells left, by stage number. -/
  baselines : List (Option Rat)
  quiet     : List Nat
  /-- A port restart has left its slot with a format that the recipe does not suit (R199). -/
  unsuited  : Bool
  /-- When the newest dwell of the interval was evaluated: the quiet dwells that stood before it, by stage number (R187). -/
  lastQuiet : Option (List Nat)
  deriving DecidableEq, Repr, Inhabited

/-- The tinder sums of one slot over a tinder dwell (R183). -/
structure TinderSums where
  slot    : Fin 256
  format  : Fin 7
  moments : Moments
  deriving DecidableEq, Repr, Inhabited

/-- A tinder dwell: its first and last frame and its sums; FRAMES_ABSENT. -/
structure TinderDwell where
  first  : BitVec 64
  last   : BitVec 64
  sums   : List TinderSums
  absent : Nat
  partialDwell : Bool
  untraceable : Bool
  deriving DecidableEq, Repr, Inhabited

/-- A spark (R191). -/
structure Spark where
  frame     : BitVec 64
  port      : PortNo
  unit      : Fin 1024
  slotLevel : Bool
  tag       : Byte
  mask      : BitVec 8
  margin    : Int
  deriving DecidableEq, Repr, Inhabited

/-- A logical engine (R176, R177, R207). -/
structure Engine where
  /-- Out of service after a fault, and since when a spare takes its place (R206). -/
  out       : Bool
  physical  : Fin 132
  units     : List UnitState
  tinder    : Option TinderDwell
  tinderDone : List TinderDwell
  /-- The spark FIFO, oldest first, and the sparks that the cluster's collector has popped from it and that are on their way
  to the trigger unit (R177, R192, R193). -/
  fifo      : List Spark
  collected : List Spark
  sequence  : BitVec 32
  lost      : BitVec 32
  dwells    : BitVec 48
  written   : BitVec 48
  lostTotal : BitVec 48
  sparks    : BitVec 48
  refused   : BitVec 48
  /-- Frames of the whole port left out (R200 FRAMES_ABSENT), newest first. -/
  absent    : List (BitVec 64)
  deriving DecidableEq, Repr, Inhabited

/-- The states of a cluster in the code order of R378. -/
inductive ClusterMode where
  | running | stopped | loading
  deriving DecidableEq, Repr, Inhabited

/-- A cluster (R176, R205, R206, R378). -/
structure Cluster where
  mode       : ClusterMode
  lastChange : BitVec 64
  library    : BitVec 16
  /-- Physical engines that failed or are marked. -/
  faulty     : List (Fin 132)
  restart    : Option CommandRef
  dropped    : BitVec 32
  dropEvent  : Nat
  dropsSince : Nat
  deriving DecidableEq, Repr, Inhabited

/-- A record in HBM staging (R204). -/
structure StagedRecord where
  engine : Fin 1024
  bytes  : List Byte
  deriving DecidableEq, Repr, Inhabited

/-- A record buffer that the host posted (R204, R376). -/
structure RecordBuffer where
  command : CommandRef
  length  : Nat
  filled  : List Byte
  records : Nat
  firstAt : Nat
  deriving DecidableEq, Repr, Inhabited

/-- A load of the shadow recipe bank (R196, R374): its command, the input formats declared when it started, by port,
and its buffer once it has come. -/
structure RecipeLoad where
  command : CommandRef
  formats : Vector (Vector (Fin 7) 256) 512
  data    : Option (List Byte)
  deriving DecidableEq, Repr, Inhabited

/-- A recipe set whose swap asked for PERSIST: the set and the GENERATION that it took at its swap wait to stand in eFlash
(R197). -/
structure RecipePersist where
  command    : CommandRef
  set        : RecipeSet
  generation : BitVec 32
  deriving DecidableEq, Repr, Inhabited

/-- The Ember subsystem. -/
structure EmberState where
  engines    : Vector Engine 1024
  clusters   : Vector Cluster 8
  active     : RecipeSet
  generation : BitVec 32
  shadow     : Option RecipeSet
  shadowMode : BankMode
  /-- A load in progress. -/
  load       : Option RecipeLoad
  swap       : Option BankSwap
  /-- The persisted set with its GENERATION, and the sets that wait for eFlash, oldest first. -/
  persisted  : Option (RecipeSet × BitVec 32)
  persistWaits : List RecipePersist
  staging    : List StagedRecord
  buffers    : List RecordBuffer
  /-- The library image stored in eFlash (R377). -/
  library    : Option ImageInfo
  imageLoad  : Option CommandRef
  /-- The input frame that the moment units read in the present period: its number, and the envelope of each port that
  was in the buffer, authentic and in service at the tick (R178). -/
  readNow    : BitVec 64
  latched    : Vector (Option Envelope) 512
  /-- The newest input frame that the moment units have read (R178). -/
  readTo     : BitVec 64
  /-- Frames read while frame numbers were not traceable, newest first (R200 UNTRACEABLE). -/
  untraced   : List (BitVec 64)
  deriving DecidableEq, Repr, Inhabited

end Sys2Proof.Machine
end

