-- ==== Sys2Proof/Machine/CaptureState.lean ====
section
/-! DEFINITION. State of the trigger unit, the pre-trigger ring, the captures and the capture store (chapter 8). -/
namespace Sys2Proof.Machine

/-- A channel entry of a trigger bank with ENABLE 1 (R218). -/
structure ChannelEntry where
  spark     : Bool
  pin       : Bool
  host      : Bool
  gate      : Bool
  sparkTag  : Byte
  tagMask   : Byte
  stageMask : BitVec 8
  key       : Fin 3
  k         : Nat
  minMargin : Int
  window    : Nat
  settle    : Nat
  pinMask   : BitVec 8
  gateInput : Fin 8
  gateHigh  : Bool
  pre       : Nat
  post      : Nat
  rearm     : Nat
  setFirst  : Nat
  setCount  : Nat
  namespace_ : Fin 32
  pinObjects : Bool
  trigOut   : Option (Fin 8)
  /-- TRIG_OUT[2:0] as written, whether or not it is enabled. -/
  trigOutNo : Fin 8
  userTag   : BitVec 32
  portMask  : BitVec 512
  deriving DecidableEq, Repr, Inhabited

/-- A trigger bank (R217): ring size, the enabled channels, the capture set as port and slot. -/
structure TriggerBank where
  ringGib  : Nat
  channels : List (Fin 64 × ChannelEntry)
  set      : List (PortNo × Fin 256)
  deriving DecidableEq, Repr, Inhabited

/-- The states of a trigger channel in the code order of R384. -/
inductive TriggerMode where
  | disarmed | armed | rearm
  deriving DecidableEq, Repr, Inhabited

/-- The term that decided a trigger, with SOURCE_DETAIL (R240). -/
inductive TriggerSource where
  | spark (x : Spark)
  | pin (input : Fin 8)
  | host (c : CommandRef)
  deriving DecidableEq, Repr, Inhabited

/-- A trigger of a channel: its frame, its first source and every term so far (R216). -/
structure Trigger where
  frame   : BitVec 64
  source  : TriggerSource
  sources : BitVec 3
  /-- Host requests that were merged into it while it waits (R382). -/
  merged  : List CommandRef
  deriving DecidableEq, Repr, Inhabited

/-- A host trigger that has not been decided (R215). -/
structure HostTrigger where
  command : CommandRef
  frame   : BitVec 64
  /-- The tick at which it is decided. -/
  due     : BitVec 64
  deriving DecidableEq, Repr, Inhabited

/-- A trigger channel. -/
structure TriggerChannel where
  mode      : TriggerMode
  waiting   : Option Trigger
  /-- E of R229. -/
  rearmEnd  : BitVec 64
  history   : List Spark
  /-- The newest frame that the spark term has decided. -/
  decided   : Option (BitVec 64)
  host      : Option HostTrigger
  /-- Frames with a pin trigger to decide, and the input that gave each (R213). -/
  pins      : List (BitVec 64 × Fin 8)
  /-- Triggers created, with the sequence of an accepted one (R216). -/
  created   : List (BitVec 64 × Option Nat)
  /-- The counters of R384 in order. -/
  counters  : Vector (BitVec 32) 8
  /-- When the last event for late sparks was raised (R212). -/
  lateEvent : Option Nat
  /-- The tick period in which TRIG_OUT pulses, and the output that the accepted entry selects (R228). -/
  pulseAt   : Option (Nat × Fin 8)
  deriving DecidableEq, Repr, Inhabited

/-- A frame in the ring or in a capture (R223, R224, R242). -/
structure RingFrame where
  number      : BitVec 64
  gap         : Bool
  untraceable : Bool
  valid       : List Bool
  data        : List (BitVec 192)
  deriving DecidableEq, Repr, Inhabited

/-- The steps of sealing an object (R236), after its window has been gathered. -/
inductive SealStep where
  | window | writing | flushOne | trailer | flushTwo
  deriving DecidableEq, Repr, Inhabited

/-- An object or failure record in the store (R234 to R247). -/
structure StoredObject where
  sequence : Nat
  kind     : Nat
  channel  : Nat
  flags    : Nat
  reason   : Nat
  offset   : Nat
  length   : Nat
  trigger  : BitVec 64
  sealRtc  : Nat
  pinned   : Bool
  /-- It lies in the log, and in the failure area. -/
  inLog    : Bool
  inArea   : Bool
  content  : List Byte
  deriving DecidableEq, Repr, Inhabited

/-- An open capture (R227 to R231, R239 to R247). -/
structure Capture where
  sequence   : Nat
  channel    : Fin 64
  trigger    : Trigger
  entry      : ChannelEntry
  /-- The slot table: port, slot and declared format. -/
  table      : List (PortNo × Fin 256 × Nat)
  first      : Nat
  last       : Nat
  frames     : List RingFrame
  preActual  : Nat
  shortPost  : Bool
  untraceable : Bool
  timing     : BitVec 3
  rtc        : Nat
  mapGeneration : BitVec 64
  recipeGeneration : BitVec 32
  triggerGeneration : BitVec 32
  offset     : Nat
  length     : Nat
  step       : SealStep
  pinned     : Bool
  /-- The object as it stands once its trailer has been made (R236, R244). -/
  built      : Option StoredObject
  /-- The capture ends in a failure record with this reason (R247). -/
  failing    : Option Nat
  /-- Its object, or its failure record, has a place in the log. -/
  inLog      : Bool
  /-- CAPTURE_ABORT commands that wait for the failure record (R383). -/
  aborts     : List CommandRef
  deriving DecidableEq, Repr, Inhabited

/-- The states of a store namespace in the code order of R389. -/
inductive StoreMode where
  | undeclared | ok | degraded | rebuilding | failed
  deriving DecidableEq, Repr, Inhabited

/-- The superblock in the store area of a namespace: what was declared (R233). -/
structure Superblock where
  mirror  : Bool
  members : List (Fin 16 × Nat)
  extent  : Nat
  retain  : Nat
  deriving DecidableEq, Repr, Inhabited

/-- An index checkpoint in the store area (R233, R238): its number, the log head, and the sequences of the objects known. -/
structure StoreIndex where
  number : Nat
  head   : Nat
  known  : List Nat
  deriving DecidableEq, Repr, Inhabited

/-- A store namespace (R233, R387, R389). -/
structure StoreNamespace where
  mode      : StoreMode
  mirror    : Bool
  members   : List (Fin 16 × Nat)
  extent    : Nat
  retain    : Nat
  failed    : List Nat
  rebuild   : Nat
  head      : Nat
  objects   : List StoredObject
  overwritten : Nat
  /-- CAPKEY_ID of the newest key object written (R246). -/
  keyObject : Option (List Byte)
  sinceCheckpoint : Nat
  lastObject : Nat
  superblock : Option Superblock
  checkpoints : Vector (Option StoreIndex) 2
  deriving DecidableEq, Repr, Inhabited

/-- A key object on its way into a namespace (R236, R246). -/
structure KeyWrite where
  ns       : Fin 32
  sequence : Nat
  offset   : Nat
  length   : Nat
  /-- CAPKEY_ID and the chain that it carries. -/
  id       : List Byte
  chain    : List Byte
  step     : SealStep
  built    : Option StoredObject
  deriving DecidableEq, Repr, Inhabited

/-- What an NVMe command is for (R232, R234, R236, R238, R387 to R392). -/
inductive NvmeTask where
  | object (sequence : Nat)
  | declare (n : Fin 32) (command : CommandRef)
  | delete (command : CommandRef)
  | storeArea (command : CommandRef)
  | read (request : Request)
  | checkpoint (n : Fin 32) (index : StoreIndex)
  | deallocate
  deriving DecidableEq, Repr, Inhabited

/-- The NVMe commands of R232. The admin commands are part of a start's enumeration, whose findings the start brings. -/
inductive NvmeOp where
  | deleteSq | createSq | getLogPage | deleteCq | createCq | identify | setFeatures | getFeatures
  | flush | write | read | deallocate
  deriving DecidableEq, Repr, Inhabited

/-- Blocks of 4,096 bytes of a drive's NSID 1, and the log offset of the first (0 outside the log) (R232, R233). -/
structure NvmeRange where
  log    : Nat
  lba    : Nat
  blocks : Nat
  deriving DecidableEq, Repr, Inhabited

/-- An outstanding NVMe command: its identifier, its drive, the I/O queue pair 1 to 8 that holds it, or 0 for the admin pair. -/
structure NvmeCommand where
  cid   : Nat
  drive : Fin 16
  queue : Fin 9
  op    : NvmeOp
  range : NvmeRange
  task  : NvmeTask
  deriving DecidableEq, Repr, Inhabited

/-- Commands of one drive for one purpose that wait for a free queue entry. -/
structure NvmeWork where
  drive  : Fin 16
  op     : NvmeOp
  task   : NvmeTask
  ranges : List NvmeRange
  deriving DecidableEq, Repr, Inhabited

/-- What a command of the store that is not durable yet has replaced: it comes back when power is lost first (R24). -/
inductive StoreUndo where
  | namespace_ (n : Fin 32) (old : StoreNamespace)
  | object (n : Fin 32) (old : StoredObject)
  | pin (sequence : Nat) (on : Bool)
  deriving DecidableEq, Repr, Inhabited

/-- A declared drive (R386). -/
structure DriveEntry where
  drive    : Fin 16
  rootPort : Fin 4
  link     : Nat
  capacity : BitVec 64
  model    : BitVec 320
  serial   : BitVec 160
  deriving DecidableEq, Repr, Inhabited

/-- The drive declaration (R386). -/
structure DriveSet where
  split   : Vector (Fin 4) 4
  entries : List DriveEntry
  deriving DecidableEq, Repr, Inhabited

/-- What was in force from a frame on (R240, R241): the generations, the DPLL state code, and the declared formats of
the capture-set entries. -/
structure InForce where
  first   : BitVec 64
  map     : BitVec 64
  recipe  : BitVec 32
  timing  : BitVec 3
  formats : List (Fin 7)
  deriving DecidableEq, Repr, Inhabited

/-- A load of the shadow trigger bank (R220, R380): its command, the input formats and the namespaces declared when it started,
and its buffer once it has come. -/
structure TriggerLoad where
  command  : CommandRef
  formats  : Vector (Vector (Fin 7) 256) 512
  declared : List (Fin 32)
  data     : Option (List Byte)
  deriving DecidableEq, Repr, Inhabited

/-- A trigger bank whose swap asked for PERSIST: the bank and the count that it took wait to stand in eFlash (R221). -/
structure TriggerPersist where
  command    : CommandRef
  bank       : TriggerBank
  generation : BitVec 32
  deriving DecidableEq, Repr, Inhabited

/-- Triggers, ring, captures and store. -/
structure CaptureState where
  active     : TriggerBank
  generation : BitVec 32
  shadow     : Option TriggerBank
  shadowMode : BankMode
  load       : Option TriggerLoad
  swap       : Option BankSwap
  /-- The persisted bank, its generation and the channels that were armed. -/
  persisted  : Option (TriggerBank × BitVec 32 × BitVec 64)
  persistWaits : List TriggerPersist
  channels   : Vector TriggerChannel 64
  /-- TRIG_IN levels as the trigger unit sees them, and as they were at recent ticks (R214). -/
  inputs     : BitVec 8
  inputPast  : List (BitVec 64 × BitVec 8)
  ringOn     : Bool
  ringStart  : BitVec 64
  ring       : List RingFrame
  gapFrames  : Nat
  /-- When the last gap event was raised, and the gap frames since it (R225). -/
  gapEvent   : Option Nat
  gapsSince  : Nat
  captures   : List Capture
  /-- The journalled sequence numbers and reservations of captures that a loss of power left unsealed, until the next start of
  full service (R238). -/
  interrupted : List Capture
  keyWrites  : List KeyWrite
  /-- A fail-over has taken place: the new active core has the open captures to take up (R238). -/
  resuming   : Bool
  nextSequence : Nat
  bytesStored : Nat
  failureRecords : Nat
  drivesHeld : DriveSet
  drivesDurable : DriveSet
  drives     : DriveSet
  driveFailed : Vector Bool 16
  /-- The declaration of the drive that failed, until another drive replaces it (R237). -/
  failedDrive : Vector (Option DriveEntry) 16
  driveBad   : Vector Bool 16
  namespaces : Vector StoreNamespace 32
  commands   : List NvmeCommand
  /-- What waits for a free queue entry (R232). -/
  queued     : List NvmeWork
  nextCid    : Nat
  /-- What the commands that are not durable yet have replaced, newest first (R24). -/
  undo       : List (CommandRef × StoreUndo)
  /-- What was in force, newest first. -/
  inForce    : List InForce
  /-- HBM excluded by marks, in GiB (R540). -/
  hbmMarked  : Nat
  deriving DecidableEq, Repr, Inhabited

end Sys2Proof.Machine
end

