-- ==== Sys2Proof/Machine/SecurityState.lean ====
section
/-! DEFINITION. State of the security core (chapter 15, R403, R407, R445, R448, R467, R468). -/
namespace Sys2Proof.Machine

/-- A resumption record of the key blob (R462). -/
structure ResumptionRecord where
  port    : PortNo
  partner : List Byte
  secret  : List Byte
  id      : List Byte
  rtc     : Nat
  deriving DecidableEq, Repr, Inhabited

/-- A live nonce (R403). -/
structure Nonce where
  value  : BitVec 256
  /-- The tick at which it expires. -/
  expiry : Nat
  deriving DecidableEq, Repr, Inhabited

/-- A command whose signature or image check the security core runs (R377, R405, R412). -/
structure SecurityWork where
  opcode  : BitVec 16
  request : Request
  data    : List Byte
  deriving DecidableEq, Repr, Inhabited

/-- The security core. -/
structure SecurityState where
  /-- Its boot steps have run, and its firmware serves (R452). -/
  running       : Bool
  lifecycle     : BitVec 8
  rollbackBundle : Nat
  rollbackLibrary : Nat
  blobValid     : Bool
  owner         : Option (List Byte)
  anchors       : List (List Byte)
  ownerEpoch    : BitVec 32
  resumptions   : List ResumptionRecord
  /-- The attestation and capture keys have been derived (R449), and at which RTC second. -/
  keysDerived   : Bool
  derivedAt     : BitVec 64
  nonces        : List Nonce
  debugOpen     : Bool
  scanOpen      : Bool
  scanned       : Bool
  /-- ROM recovery (R452) and the nonce that the ROM issued there (R467). -/
  romRecovery   : Bool
  jtagNonce     : Option (BitVec 256)
  failures      : BitVec 32
  /-- Lanes that took a key in this tick (R466). -/
  installs      : Nat
  work          : List SecurityWork
  deriving DecidableEq, Repr, Inhabited

end Sys2Proof.Machine
end

