-- ==== Sys2Proof/Machine/SystemState.lean ====
section
/-! DEFINITION. State of the power domains, resets, self-test, performance counters, sampling and GPIO (chapters 19
to 23). -/
namespace Sys2Proof.Machine

/-- The states of a power domain in the code order of R410. -/
inductive DomainMode where
  | on | banked | off
  deriving DecidableEq, Repr, Inhabited

/-- Who asked for a transition (R560, R561): a host command, the far end of a port, the device. -/
inductive DomainOrigin where
  | host (c : CommandRef)
  | farEnd (p : PortNo)
  | device
  deriving DecidableEq, Repr, Inhabited

/-- A requested transition of a domain (R556, R557). -/
structure DomainRequest where
  domain  : Fin 56
  target  : DomainMode
  origins : List DomainOrigin
  since   : Nat
  waited  : Bool
  /-- It was asked for while the domain was changing (R557). -/
  after   : Bool
  deriving DecidableEq, Repr, Inhabited

/-- The power domains (R553 to R563). -/
structure PowerState where
  modes    : Vector DomainMode 56
  /-- The transition that runs: one at a time (R563). -/
  running  : Option DomainRequest
  waiting  : List DomainRequest
  lastEnd  : Nat
  wakeSets : Vector (List PortNo) 32
  /-- DIE_TEMP_MAX in 1/16 °C, and the conditions of R564: warning, lapse, critical. -/
  temperature : BitVec 16
  warm     : Bool
  hot      : Bool
  critical : Bool
  supplyOut : Vector Bool 7
  /-- The tick at which PD51 last entered ON (R573). -/
  storageSince : Nat
  /-- When the last lapse condition ended (R584). -/
  goodSince : Option Nat
  deriving DecidableEq, Repr, Inhabited

/-- The reset pins, the straps and the service level's history (R523 to R527). -/
structure ResetState where
  porLow    : Bool
  coldLow   : Bool
  pwrFailLow : Bool
  straps    : Straps
  /-- The tick of the last release. -/
  released  : Nat
  /-- The tick at which tinder service began. -/
  tinderAt  : Nat
  /-- Supplies stayed in range during the reset, so that the keep domain kept its contents (R486). -/
  kept      : Bool
  /-- SHUTDOWN: its command, and whether BIST runs (R411). -/
  shutdown  : Option (CommandRef × Bool)
  halted    : Bool
  deriving DecidableEq, Repr, Inhabited

/-- A BIST result entry (R537). -/
structure BistResult where
  block   : Nat
  origin  : Nat
  index   : Nat
  result  : Nat
  slices  : Nat
  firstBit : BitVec 16
  fails   : BitVec 32
  address : BitVec 40
  frame   : BitVec 64
  deriving DecidableEq, Repr, Inhabited

/-- A BIST in progress (R534): its origin, the slices left as block code and index, the slice's start, the command. -/
structure BistRun where
  origin  : Nat
  slices  : List (Nat × Nat)
  started : Nat
  command : Option CommandRef
  /-- Failures of the unit in progress. -/
  results : List BistResult
  deriving DecidableEq, Repr, Inhabited

/-- Self-test (R533 to R540). -/
structure BistState where
  run      : Option BistRun
  results  : List BistResult
  /-- Marks by block code and index, in force and as the repair data region holds them. -/
  marks    : List (Nat × Nat)
  storedMarks : List (Nat × Nat)
  /-- Units with row repairs. -/
  repairs  : List (Nat × Nat)
  copy     : Fin 2
  unlisted : Nat
  /-- A reset interrupted a test: its results are lost (R539). -/
  lost     : Bool
  /-- A failure in journal SRAM: it will not verify at the next start (R535). -/
  journalBad : Bool
  deriving DecidableEq, Repr, Inhabited

/-- A programmable counter (R542 to R545, R548). -/
structure PerfCounter where
  value    : BitVec 48
  /-- The total of its event that has been counted (the model's own). -/
  base     : Nat
  block    : BitVec 16
  event    : BitVec 16
  level    : Bool
  overflow : Bool
  isNew    : Bool
  idle     : Bool
  /-- The signal was 1 in the last tick (R544). -/
  last     : Bool
  deriving DecidableEq, Repr, Inhabited

/-- The window counters of a port (R549). -/
structure PortWindow where
  inValid  : BitVec 48
  outValid : BitVec 48
  inAbsent : BitVec 32
  /-- The valid slots of all windows, in and out (the model's own). -/
  inTotal  : Nat
  outTotal : Nat
  deriving DecidableEq, Repr, Inhabited

/-- A pending snapshot (R546). -/
structure Snapshot where
  command : CommandRef
  frame   : BitVec 64
  /-- The image that the latch took, which the buffer still waits for. -/
  image   : Option (List Byte)
  deriving DecidableEq, Repr, Inhabited

/-- A sampling job (R550, R551). -/
structure SampleJob where
  command : CommandRef
  core    : BitVec 16
  period  : Nat
  count   : Nat
  /-- Loads and stores retired since the last due sample. -/
  seen    : Nat
  started : Nat
  samples : List Byte
  taken   : Nat
  skipped : Nat
  skipMark : Bool
  /-- Samples taken in the tick period of the last one, and that tick. -/
  inTick   : Nat
  lastTick : Nat
  deriving DecidableEq, Repr, Inhabited

/-- Performance counters and sampling (chapter 20). -/
structure PerfState where
  /-- How often events have occurred, by kind, instance and event of R542 (the model's own). -/
  totals    : List ((Nat × Nat × Nat) × Nat)
  counters  : Vector PerfCounter 256
  windows   : Vector PortWindow 512
  snapshots : List Snapshot
  latched   : Bool
  lastLatch : Nat
  stepSeen  : Bool
  jobs      : List SampleJob
  deriving DecidableEq, Repr, Inhabited

/-- The functions of a GPIO pin (R575). -/
inductive PinFunction where
  | gpio | trigIn | trigOut | uart | led
  deriving DecidableEq, Repr, Inhabited

/-- A GPIO pin (R575 to R578). -/
structure GpioPin where
  function : PinFunction
  level    : Bool
  deriving DecidableEq, Repr, Inhabited

end Sys2Proof.Machine
end

