-- ==== Sys2Proof/Machine/TimingState.lean ====
section
/-! DEFINITION. State of the timing subsystem (chapter 9), of the cascade (chapter 10) and of the management and
solver processors (chapter 14). -/
namespace Sys2Proof.Machine

/-- The kinds of reference (R249). -/
inductive RefKind where
  | none | pulse | clock | line
  deriving DecidableEq, Repr, Inhabited

/-- The DPLL states and their codes 0 to 6 (R258). -/
inductive DpllMode where
  | freerun | acquire | locked | holdover | softloop | holdoverBeyond | softloopLocked
  deriving DecidableEq, Repr, Inhabited

/-- One reference: its declaration (R250) and its monitors (R251 to R253). -/
structure Reference where
  kind         : RefKind
  /-- Period index, hertz or port, by the kind (R249, R361). -/
  nominal      : Nat
  priority     : Nat
  epochRole    : Nat
  accept       : Nat
  reject       : Nat
  qualSeconds  : Nat
  /-- The limits of the gate in progress, and the qualification time of the qualification in progress: a change acts from the
  next one (R250, R362). -/
  gateAccept   : Nat
  gateReject   : Nat
  qualTime     : Nat
  tolerance    : Nat
  active       : Bool
  activeSince  : Nat
  goodRun      : Nat
  badRun       : Nat
  lastGood     : Nat
  /-- Since when activity was present and every gate within the accept limit (R253). -/
  qualSince    : Nat
  qualified    : Bool
  disqualified : Bool
  /-- The last gate's offset in 0.1 ppb (R252). -/
  offset       : Int
  deriving DecidableEq, Repr, Inhabited

/-- The global timing settings (R261). -/
structure TimingSettings where
  revertive    : Bool
  acquireBw    : Fin 8
  lockedBw     : Fin 8
  lockWindow   : Nat
  lockCount    : Nat
  epochWindow  : Nat
  epochPull    : Nat
  autoStep     : Bool
  stepThreshold : Nat
  tickOffset   : Int
  holdoverLimit : Nat
  historyAverage : Nat
  slewLimit    : Nat
  deriving DecidableEq, Repr, Inhabited

/-- The settings of one clock or pulse output (R272 to R274, R366). -/
structure OutputSettings where
  enable  : Bool
  squelch : Bool
  period  : Nat
  divider : Nat
  freqUhz : Nat
  width   : Nat
  offset  : Int
  deriving DecidableEq, Repr, Inhabited

/-- One output: settings in force, a change that waits for its edge or instant, whether it is held low, the first rising
edge of the present tick period in whole picoseconds after its tick, and the multiple of the period that the last pulse marked,
in 50 ps units (R272 to R274). -/
structure Output where
  settings  : OutputSettings
  next      : Option (OutputSettings × Nat)
  squelched : Bool
  rising    : Option Nat
  lastPulse : Option Int
  deriving DecidableEq, Repr, Inhabited

/-- The timing subsystem (chapter 9). -/
structure DpllState where
  mode          : DpllMode
  /-- The entry into HOLDOVER was epoch holdover (R259). -/
  epochHoldover : Bool
  refs          : Vector Reference 12
  settings      : TimingSettings
  forced        : Option (Fin 12)
  selected      : Option (Fin 12)
  lockRun       : Nat
  lossRun       : Nat
  lockMet       : Bool
  /-- The tick at which the present or last LOCKED period began, and the tick at which it ended (R268). -/
  lockedSince   : Nat
  lockEnd       : Nat
  historyValid  : Bool
  holdoverSince : Nat
  /-- The time in HOLDOVER exceeds the holdover limit (R268). -/
  holdoverPast  : Bool
  holdOscActive : Bool
  holdOscQualified : Bool
  holdOscMeasured : Bool
  holdOscPpt    : Int
  /-- The output offset against which HOLD_OSC was last measured (R254, R268). -/
  holdOscOutput : Int
  epochSource   : Option (Fin 8)
  epochError    : Int
  epochMet      : Bool
  epochGoodRun  : Nat
  epochBadRun   : Nat
  /-- The first measurement of E since start-up has been made (R264). -/
  aligned       : Bool
  /-- The epoch condition has been lost since E was last measured (R264). -/
  epochLost     : Bool
  hostStep      : Option (CommandRef × Nat)
  /-- The loop is to be opened (true) or closed at a tick boundary (R259, R270). -/
  loopAsk       : Option Bool
  /-- A DCO word has been written since the host opened the loop. -/
  dcoFresh      : Bool
  dcoWord       : Int
  declareLock   : Bool
  dcoWritten    : Nat
  slewing       : Bool
  clamped       : Bool
  outputPpt     : Int
  /-- What the loop asks for, or the holdover frequency, as an offset in ppt (R260, R268, R271). -/
  demand        : Int
  /-- The loop's integrator, which the limiter and the clamp freeze (R271). -/
  integrator    : Int
  /-- The epoch error that the epoch pull works off: E as last measured, but 0 after a step (R263). -/
  pullError     : Int
  /-- What is left of the sub-cycle part of a step, in ppt of the output frequency times ticks (R264). -/
  slewLeft      : Nat
  /-- The output offset: each change with its tick, newest first (R268). -/
  outputPast    : List (Nat × Int)
  phaseError    : Int
  /-- The code on DPLL_STATE[2:0], which changes at a tick (R262). -/
  statePins     : BitVec 3
  outputs       : Vector Output 10
  /-- Core cycles added to the present tick period by a step (R264). -/
  extraCycles   : Nat
  /-- A step that the present period makes: the next tick counts on from the old count less this (R264). -/
  step          : Option Int
  deriving DecidableEq, Repr, Inhabited

/-- The cascade states (R278). -/
inductive CascadeMode where
  | standalone | joining | joined | flywheel
  deriving DecidableEq, Repr, Inhabited

/-- The cascade roles (R279). -/
inductive CascadeRole where
  | slave | standby | master
  deriving DecidableEq, Repr, Inhabited

/-- A declared seam link (R277, R368). -/
structure SeamLink where
  port        : PortNo
  partner     : Fin 64
  partnerPort : BitVec 16
  deriving DecidableEq, Repr, Inhabited

/-- The declaration of the cascade (R277, R368). -/
structure CascadeDeclaration where
  ownIndex   : Fin 64
  arbiter    : Bool
  domain     : BitVec 32
  capable    : Fin 64 × Fin 64
  members    : List (Fin 64 × List Byte)
  seams      : List SeamLink
  roleHours  : Nat
  tickDelay  : Int
  deriving DecidableEq, Repr, Inhabited

/-- A tick word (R282), its CRC apart. -/
structure TickWord where
  active    : Bool
  standby   : Bool
  state     : BitVec 3
  flywheel  : Bool
  version   : BitVec 2
  sender    : Fin 64
  frame     : BitVec 64
  swapOp    : BitVec 8
  swapDelta : BitVec 8
  swapId    : BitVec 32
  roleOp    : BitVec 8
  roleDelta : BitVec 8
  swapFrame : BitVec 64
  deriving DecidableEq, Repr, Inhabited

/-- What one TICK_IN input has shown (R281, R284). -/
structure TickInput where
  last       : Option TickWord
  /-- The frame number repeated by invalid words, and how often in a row (R281). -/
  repeated   : BitVec 64
  repeats    : Nat
  missing    : Nat
  deriving DecidableEq, Repr, Inhabited

/-- A queued cascade-channel message and the frames for which it is still sent (R288). -/
structure QueuedMessage where
  message : CascMessage
  left    : Nat
  deriving DecidableEq, Repr, Inhabited

/-- One seam link's cascade channel (R287 to R289). -/
structure SeamState where
  port      : PortNo
  farMax    : BitVec 4
  farRun    : Nat
  version   : BitVec 4
  farRole   : BitVec 2
  heartbeat : BitVec 16
  unchanged : Nat
  queue     : List QueuedMessage
  deriving DecidableEq, Repr, Inhabited

/-- A message seen: origin, type, identifier, and the tick at which it was last seen (R288). -/
structure SeenMessage where
  origin : Fin 64
  type   : Byte
  id     : BitVec 32
  tick   : Nat
  deriving DecidableEq, Repr, Inhabited

/-- The phases of a cascade swap at the master (R292, R294). -/
inductive CascadePhase where
  | prepare | committed | aborting | closing
  deriving DecidableEq, Repr, Inhabited

/-- A cascade swap open at the master (R291 to R294). -/
structure CascadeSwap where
  id           : BitVec 32
  participants : List (Fin 64)
  named        : Option (BitVec 64)
  phase        : CascadePhase
  started      : Nat
  ready        : List (Fin 64)
  veto         : List (Fin 64 × BitVec 32)
  frame        : BitVec 64
  complete     : List (Fin 64)
  durable      : List (Fin 64)
  persist      : Bool
  abortLeft    : Nat
  command      : Option CommandRef
  deriving DecidableEq, Repr, Inhabited

/-- What a participant holds of the cascade swap under which its bank is staged (R291, R293). -/
structure StagedSwap where
  id       : BitVec 32
  frame    : Option (BitVec 64)
  aborted  : Bool
  persist  : Bool
  command  : Option CommandRef
  deriving DecidableEq, Repr, Inhabited

/-- A planned role change (R299, R371). -/
structure Handover where
  tick      : Option (BitVec 64)
  release   : Bool
  /-- The CASC_HANDOVER and CASC_RELEASE commands that await it. -/
  commands  : List CommandRef
  deriving DecidableEq, Repr, Inhabited

/-- The cascade (chapter 10). -/
structure CascadeState where
  declaration : Option CascadeDeclaration
  mode        : CascadeMode
  role        : CascadeRole
  version     : BitVec 2
  master      : Option (Fin 64)
  joined      : List (Fin 64)
  /-- The highest version and MASTER_PREF that each member's JOIN reported. -/
  memberMax   : List (Fin 64 × BitVec 4)
  memberPref  : List (Fin 64 × Bool)
  mstActOut   : Bool
  mstInhIn    : Bool
  arbSel      : BitVec 2
  /-- A valid ACTIVE word has arrived on either TICK_IN since tinder service, or since a later declaration (R279). -/
  activeHeard : Bool
  /-- The preferred master that this master gives way to at its next tick (R301). -/
  yieldsTo    : Option (Fin 64)
  inputs      : Vector TickInput 2
  followed    : Option (Fin 2)
  missingRun  : Nat
  masterState : BitVec 3
  /-- The followed words of the last three ticks, newest first (R282). -/
  mirror      : List TickWord
  /-- The word of the present tick and the levels of TICK_OUT in its period; none: the device drives nothing (R280, R281). -/
  sent        : Option TickWord
  tickOut     : Option (BitVec 512)
  seams       : List SeamState
  /-- Messages seen already (R288). -/
  seen        : List SeenMessage
  /-- HEARTBEAT as received most recently on any link (R287). -/
  heartbeat   : BitVec 16
  /-- JOIN has been sent since JOINING began (R278). -/
  joinSent    : Bool
  swap        : Option CascadeSwap
  staged      : Option StagedSwap
  /-- The identifier of the last PREPARE that this device answered; 0 for none. -/
  answered    : BitVec 32
  handover    : Option Handover
  roleNext    : Nat
  tickPathLost : Bool
  channelPathLost : Bool
  dualMaster  : Bool
  rejoinInvalid : BitVec 64
  flywheelTicks : BitVec 32
  startedAt   : Nat
  nextSwapId  : BitVec 32
  deriving DecidableEq, Repr, Inhabited

/-- Management core states in the code order of R417. -/
inductive CoreMode where
  | off | booting | syncing | standby | active | fault
  deriving DecidableEq, Repr, Inhabited

/-- Causes of a change of OWNER, by LAST_CAUSE code (R420). -/
inductive OwnerCause where
  | none | coldStart | warmReset | watchdog | heartbeatLoss | faultReport | plannedSwap | activation | arbiter
  deriving DecidableEq, Repr, Inhabited

/-- One management core (R417, R422, R423, R428, R433). -/
structure ManagementCore where
  mode       : CoreMode
  /-- The image it runs. -/
  image      : ImageInfo
  marked     : Nat
  beatLost   : Vector Bool 2
  /-- Ticks of the failures counted by R428. -/
  failures   : List Nat
  /-- Ticks of the failed attempts counted by R433. -/
  attempts   : List Nat
  /-- The tick at which its domain is turned ON again (R432, R433); none: it stays OFF. -/
  repowerAt  : Option Nat
  unusable   : Bool
  /-- A fault of it counts under R21, until it is resynchronised. -/
  faulted    : Bool
  deriving DecidableEq, Repr, Inhabited

/-- A takeover request to the security core (R427). -/
structure TakeoverRequest where
  cause  : OwnerCause
  at_    : Nat
  probed : Bool
  deriving DecidableEq, Repr, Inhabited

/-- The steps of a firmware activation (R435, R437). -/
inductive ActivationStep where
  | standbyNew | otherNew | rollback
  deriving DecidableEq, Repr, Inhabited

/-- A firmware activation in progress (R413, R435). -/
structure Activation where
  step    : ActivationStep
  started : Nat
  oldImage : ImageInfo
  newImage : ImageInfo
  command : CommandRef
  deriving DecidableEq, Repr, Inhabited

/-- An image slot (R412, R415). -/
structure ImageSlot where
  content : Option ImageInfo
  deriving DecidableEq, Repr, Inhabited

/-- Why a management role swap runs (R434). -/
inductive RoleSwapCause where
  | periodic | commanded (cs : List CommandRef) | activation
  deriving DecidableEq, Repr, Inhabited

/-- The states of a cache line but invalid, which is not listed (R439). -/
inductive LineState where
  | modified | exclusive | shared
  deriving DecidableEq, Repr, Inhabited

/-- A 64-byte line of management SRAM in the data caches: the cores that hold it, its state, and the bytes that its owner has
written and not written back (R439). -/
structure CacheLine where
  line    : Nat
  holders : List (Fin 4)
  state   : LineState
  dirty   : Vector (Option Byte) 64
  deriving DecidableEq, Repr, Inhabited

/-- The management and solver processors (chapter 14) and the firmware slots (R412 to R415). -/
structure ManagementState where
  cores        : Vector ManagementCore 2
  owner        : Option (Fin 2)
  lastOwner    : Fin 2
  transfers    : BitVec 8
  lastCause    : OwnerCause
  arbiterMode  : Bool
  serviceGap   : Bool
  takeover     : Option TakeoverRequest
  /-- Both beat paths count as faulty until they return (R427). -/
  pathsDistrusted : Bool
  warmReset    : Option CommandRef
  rolePeriodH  : Nat
  roleNext     : Nat
  roleSwap     : Option (RoleSwapCause × Nat)
  slots        : Vector ImageSlot 2
  bootSlot     : Fin 2
  staged       : Nat
  activation   : Option Activation
  solverFailed : Vector Bool 2
  l2Ways       : Vector Bool 16
  /-- The lines that the four cores hold, management A and B, then solver 0 and 1 (R439 to R441). -/
  lines        : List CacheLine
  /-- The bundle from which the security firmware was loaded at the start (R340, R452). -/
  securityFw   : ImageInfo
  deriving DecidableEq, Repr, Inhabited

end Sys2Proof.Machine
end

