-- ==== Sys2Proof/Machine/Initial.lean ====
section
/-! DEFINITION. The reset value of every part of the state: what R24, R307 to R311, R323, R475 and R529 state, and,
for every field whose reset value the spec does not give, zero, none, empty or the first code (DESIGN CHOICE, log 9).
A field that a definition below does not name has that value (`default`). -/
namespace Sys2Proof.Machine

/-- A channel at reset (R311). -/
def Channel.reset : Channel := default

/-- The host port at reset (R307 to R312): the recovery-snapshot region has never been programmed (R327). -/
def HostState.reset : HostState :=
  { (default : HostState) with
    snapshotBlank := true
    -- the model's own number: how many records the normal part of the journal takes (log 7)
    journalRoom := 4096 }

/-- The recorder at reset: all vectors masked (R309), the routes of a cold start (R475). -/
def EventState.reset : EventState :=
  { (default : EventState) with mask := 0xFFFF, routes := ⟨((List.range 488).map defaultRoute).toArray, by simp⟩ }

/-- The always-on domain after its reset (R492, R493). -/
def RtcState.reset : RtcState := { (default : RtcState) with oscStopped := true, domainReset := true }

/-- The eFlash as manufactured: all sectors erased, 64 spares (R516). -/
def FlashState.reset : FlashState := { (default : FlashState) with spares := 64 }

/-- Port settings at a cold start (R529). -/
def PortSettings.reset : PortSettings :=
  { version := 3, role := .unused, window := 0, txPreset := 0, rxAdapt := 0
    inFormats := Vector.replicate 256 0, outFormats := Vector.replicate 256 0, inBundles := [], outBundles := [] }

/-- A port at a cold start (R70, R529). -/
def Port.reset : Port :=
  { (default : Port) with
    settings := .reset, staged := .none, txTrace := List.replicate 34 0, partner := List.replicate 34 0
    sdSet := (1, 4), sdClear := (1, 5), pointer := .fresh, trace := .fresh, protRx := .fresh
    link := .erased, tx := { (default : Transmitter) with sinceAdjust := 4 } }

/-- The maps at a cold start: empty banks, every plane OFF until the device switches it ON (R106, R529). -/
def MapState.reset : MapState :=
  { (default : MapState) with
    active := .empty, shadow := .empty, planes := Vector.replicate 4 { (default : Plane) with mode := .off } }

/-- Protection at a cold start: no group (R529). -/
def ProtState.reset : ProtState := { groups := Vector.replicate 256 none, pairUnits := [], pairSettings := [] }

/-- The defaults of R261. -/
def TimingSettings.reset : TimingSettings :=
  { revertive := false, acquireBw := 5, lockedBw := 2, lockWindow := 20, lockCount := 64, epochWindow := 100
    epochPull := 1000, autoStep := false, stepThreshold := 1000, tickOffset := 0, holdoverLimit := 3600
    historyAverage := 60, slewLimit := 10 }

/-- A reference declared NONE, with the defaults of R250. -/
def Reference.reset : Reference :=
  { (default : Reference) with accept := 20, reject := 50, qualSeconds := 10, tolerance := 1000, gateAccept := 20,
                                 gateReject := 50, qualTime := 10 }

/-- The timing subsystem at a start: FREERUN (R258, R526). -/
def DpllState.reset : DpllState :=
  { (default : DpllState) with refs := Vector.replicate 12 .reset, settings := .reset }

/-- The cascade at a start: STANDALONE (R529). -/
def CascadeState.reset : CascadeState := default

/-- A management core before a start. -/
def ManagementCore.reset : ManagementCore := default

/-- The management side before a start: no owner, role-swap period 24 h (R434). -/
def ManagementState.reset : ManagementState := { (default : ManagementState) with rolePeriodH := 24 }

/-- The security core before a start, in a device at the DEPLOYED code of LIFECYCLE (R445; log 9). -/
def SecurityState.reset : SecurityState := { (default : SecurityState) with lifecycle := 1 }

/-- Logical engine `e` on the physical engine of its own number (R177). -/
def Engine.reset (e : Fin 1024) : Engine :=
  { (default : Engine) with physical := ⟨e.val % 128, by omega⟩ }

/-- A cluster whose domain is OFF is STOPPED (R559). -/
def Cluster.reset : Cluster := { (default : Cluster) with mode := .stopped }

/-- The Ember subsystem before a start. -/
def EmberState.reset : EmberState :=
  { (default : EmberState) with engines := ⟨((List.finRange 1024).map Engine.reset).toArray, by simp⟩, clusters := Vector.replicate 8 .reset }

/-- The trigger unit and the capture store before a start; object sequence numbers run from 1 (R240). -/
def CaptureState.reset : CaptureState := { (default : CaptureState) with nextSequence := 1 }

/-- The power domains: PD47 and PD52 to PD55 are ON while supplies are in range, the others OFF (R554, R555). -/
def PowerState.reset : PowerState :=
  { (default : PowerState) with
    modes := Vector.ofFn (fun d => if d.val = 47 ∨ 52 ≤ d.val then .on else .off) }

/-- POR_N is held low (R523; DESIGN CHOICE, log 33). -/
def ResetState.reset : ResetState := { (default : ResetState) with porLow := true }

/-- Self-test, counters and GPIO before a start (R543, R575). -/
def BistState.reset : BistState := default
def PerfState.reset : PerfState := default
def GpioPin.reset : GpioPin := { function := .gpio, level := false }

end Sys2Proof.Machine
end

