-- ==== Sys2Proof/Machine/State.lean ====
section
/-! DEFINITION. The state of the block as plain data, the two reasons a step can stop, and the state right after
reset. -/
namespace Sys2Proof.Machine

/-- Why a meaning stops with a fault. No command of this block does: the spec gives every row of the opcode table
an effect, so the type has no constructor. -/
inductive Fault where
  deriving DecidableEq, Repr

/-- Why a step has no meaning. -/
inductive Refusal where
  /-- A row of the opcode table whose meaning is not written (raised by `exec` alone). Safe: no state follows. -/
  | notModelled (mnemonic : String)
  deriving DecidableEq, Repr

/-- The block's time: tick periods since the model's start (the model's own count, which no step ever sets back,
so that durations can be measured), and the frame number (R9). -/
structure Clock where
  tick  : Nat
  frame : BitVec 64
  deriving DecidableEq, Repr, Inhabited

/-- The whole state. -/
structure State where
  /-- The commands that wait, first in, first out. -/
  pending  : List Instr
  clock    : Clock
  host     : HostState
  ev       : EventState
  rtc      : RtcState
  flash    : FlashState
  fabric   : FabricState
  ports    : Vector Port 512
  map      : MapState
  prot     : ProtState
  dpll     : DpllState
  casc     : CascadeState
  mgmt     : ManagementState
  sec      : SecurityState
  ember    : EmberState
  cap      : CaptureState
  pwr      : PowerState
  rst      : ResetState
  bist     : BistState
  perf     : PerfState
  gpio     : Vector GpioPin 32
  /-- Accepted commands whose effects apply at the next tick (R337). -/
  deferred : List DeferredCommand
  /-- How many free values have been drawn (the model's own counter). -/
  fresh    : Nat
  deriving DecidableEq, Repr

/-- The device as manufactured, while POR_N is held low for the first time: SERVICE reads BOOT, and its release starts
the stages of R526. -/
def State.reset : State :=
  { pending := [], clock := { tick := 0, frame := 0 }, host := .reset, ev := .reset, rtc := .reset, flash := .reset
    fabric := default, ports := Vector.replicate 512 .reset, map := .reset, prot := .reset, dpll := .reset
    casc := .reset, mgmt := .reset, sec := .reset, ember := .reset, cap := .reset, pwr := .reset, rst := .reset
    bist := .reset, perf := .reset, gpio := Vector.replicate 32 .reset, deferred := [], fresh := 0 }

end Sys2Proof.Machine
end

