-- ==== Sys2Proof/Machine/Events.lean ====
section
/-! DEFINITION. Producing an event record (chapter 16): the recorder's buffer and its overwrite rules, routing, the
host event queue, MSI-X messages and the EVENT_N pins. Every operation here changes `ev` alone. -/
namespace Sys2Proof.Machine

/-- The ACTION codes of R472. -/
inductive Action where
  | set | clear | state | occurrence | refused | loss | fault | repair
  deriving DecidableEq, Repr, Inhabited

/-- The code of an ACTION (R472). -/
def Action.code : Action → Nat
  | .set => 0 | .clear => 1 | .state => 2 | .occurrence => 3 | .refused => 4 | .loss => 5 | .fault => 6 | .repair => 7

/-- The default severity of an ACTION (R472). -/
def Action.severity : Action → Nat
  | .set => 10 | .clear => 4 | .state => 6 | .occurrence => 4 | .refused => 8 | .loss => 12 | .fault => 13 | .repair => 6

/-- The subsystem code of a source (R470). -/
def subsystemOf (src : Nat) : Nat :=
  if src < 64 then 1 else if src < 128 then 2 else if src < 136 then 3 else if src < 200 then 4
  else if src < 232 then 5 else if src < 264 then 6 else if src < 296 then 7 else if src < 328 then 8
  else if src < 360 then 9 else if src < 392 then 10 else if src < 424 then 11 else if src < 456 then 12 else 13

/-- The route of a source; sources 488 to 511 have none. -/
def EventState.route (e : EventState) (src : Nat) : Route := (e.routes[src]?).getD default

/-- The code of a DPLL state (R258). -/
def DpllMode.code : DpllMode → BitVec 3
  | .freerun => 0 | .acquire => 1 | .locked => 2 | .holdover => 3 | .softloop => 4 | .holdoverBeyond => 5
  | .softloopLocked => 6

/-- The DPLL state code that the device reports: its own, the master's while it follows the master's tick, or 101b
in FLYWHEEL and JOINING (R258, R285). -/
def State.dpllCode (s : State) : BitVec 3 :=
  match s.casc.mode with
  | .standalone => s.dpll.mode.code
  | .joining | .flywheel => 5
  | .joined => if s.casc.role = .master then s.dpll.mode.code else s.casc.masterState

/-- An event of R542 occurs: its total grows by an amount. -/
def State.tally (kind inst event amount : Nat) (s : State) : State :=
  let n := assocGet (kind, inst, event) 0 s.perf.totals
  { s with perf := { s.perf with totals := assocSet (kind, inst, event) (n + amount) s.perf.totals } }

/-- Whether a state code makes frame numbers traceable (R258). DESIGN CHOICE: R10 calls the numbers untraceable until the epoch
is aligned, R258 calls code 110b traceable; the code alone decides here (log 72). -/
def traceableCode (c : BitVec 3) : Bool := c == 2 || c == 3 || c == 6

/-- Whether the device's frame numbers are traceable (R11, R258, R285). -/
def State.traceable (s : State) : Bool := traceableCode s.dpllCode

/-- The 32 bytes of a record (R471). -/
def EventRecord.bytes (r : EventRecord) : List Byte :=
  leBytes 2 r.code.toNat ++ leBytes 1 r.severity.toNat
    ++ leBytes 1 (packBits [r.rtcInvalid, r.untraceable, r.retained]) ++ leBytes 2 r.source.toNat
    ++ leBytes 6 r.rtcSeconds.toNat ++ leBytes 8 r.frame.toNat
    ++ leBytes 4 r.param0.toNat ++ leBytes 4 r.param1.toNat ++ leBytes 4 r.param2.toNat

/-- Count a discard by its severity class (R483). -/
def EventState.countDiscard (sev : BitVec 4) (e : EventState) : EventState :=
  let e := { e with lost := e.lost + 1, discarded := true }
  if sev.toNat ≤ 7 then { e with discardLow := e.discardLow + 1 }
  else if sev.toNat ≤ 14 then { e with discardMid := e.discardMid + 1 }
  else { e with discardTop := e.discardTop + 1 }

/-- The lowest severity held in the buffer. -/
def lowestSeverity : List BufferedRecord → Nat
  | [] => 16
  | b :: bs => min b.record.severity.toNat (lowestSeverity bs)

/-- Drop the oldest record of severity `n`. -/
def dropSeverity (n : Nat) : List BufferedRecord → List BufferedRecord
  | [] => []
  | b :: bs => if b.record.severity.toNat = n then bs else b :: dropSeverity n bs

/-- Store a record in the buffer, under the overwrite rules when 4,096 records are unflushed (R481, R483). -/
def EventState.store (r : EventRecord) (tick : Nat) (e : EventState) : EventState :=
  if e.buffer.length < 4096 then
    { e with buffer := e.buffer ++ [BufferedRecord.mk r tick], recent := lastN 64 (e.recent ++ [r]) }
  else
    let low := lowestSeverity e.buffer
    if low ≤ r.severity.toNat then
      let kept := dropSeverity low e.buffer ++ [BufferedRecord.mk r tick]
      ({ e with buffer := kept, recent := (lastN 64 kept).map (fun (b : BufferedRecord) => b.record) }).countDiscard (BitVec.ofNat 4 low)
    else e.countDiscard r.severity

/-- Pulse a pin for two ticks, or note a pulse that falls in its minimum high time (R478). -/
def EventPin.pulse (tick : Nat) (p : EventPin) : EventPin :=
  if p.low then { p with lowUntil := tick + 2 }
  else if tick < p.highUntil then { p with waiting := true }
  else { p with low := true, lowUntil := tick + 2 }

/-- Pulse every EVENT_N pin of `mask` (R475, R478). -/
def EventState.pulsePins (mask : BitVec 4) (tick : Nat) (e : EventState) : EventState :=
  { e with pins := e.pins.mapFinIdx (fun i p _ => if mask.getLsbD i then p.pulse tick else p) }

/-- Set PENDING bit `v`; its message is sent when the bit goes from 0 to 1 while the vector is not masked and the
host lets the device write (R304, R477). -/
def EventState.setPending (v : BitVec 4) (busMaster : Bool) (e : EventState) : EventState :=
  let sends := !e.summary.getLsbD v.toNat && !e.mask.getLsbD v.toNat && busMaster
  { e with summary := setBit e.summary v.toNat
           msixSent := if sends then v.toFin :: e.msixSent else e.msixSent }

/-- The number of records that the host queue holds (R480). -/
def EventState.queued (e : EventState) : Nat := (e.queuePi - e.queueCi).toNat

/-- Write a record into the host queue, or count it when the queue is full (R479, R480). -/
def EventState.enqueue (r : EventRecord) (busMaster : Bool) (e : EventState) : EventState :=
  if !e.queueEnable || !busMaster then e
  else if e.queued < 1024 then
    { e with queueEntries := assocSet (e.queuePi.toNat % 1024) r e.queueEntries, queuePi := e.queuePi + 1 }
  else { e with queueLoss := e.queueLoss + 1 }

/-- Route a record that has been produced: PENDING, queue and pins (R475). -/
def EventState.deliver (r : EventRecord) (tick : Nat) (busMaster : Bool) (e : EventState) : EventState :=
  let rt := e.route r.source.toNat
  if rt.enable && rt.minSeverity.toNat ≤ r.severity.toNat then
    let e := e.setPending rt.vector busMaster
    let e := if rt.queue then e.enqueue r busMaster else e
    e.pulsePins rt.pins tick
  else e

/-- A record of this moment (R471). -/
def State.record (s : State) (sub src item : Nat) (a : Action) (sev p0 p1 p2 : Nat) : EventRecord :=
  { code := BitVec.ofNat 16 (sub * 4096 + a.code * 256 + item), severity := BitVec.ofNat 4 sev
    rtcInvalid := !s.rtc.valid, untraceable := !s.traceable, retained := false
    source := BitVec.ofNat 9 src, rtcSeconds := BitVec.ofNat 48 s.rtc.seconds.toNat, frame := s.clock.frame
    param0 := BitVec.ofNat 32 p0, param1 := BitVec.ofNat 32 p1, param2 := BitVec.ofNat 32 p2 }

/-- After the power-fail record no record is produced: each event adds 1 to SUPPRESSED (R487). -/
def EventState.suppress (e : EventState) : EventState :=
  { e with retention := e.retention.map (fun c => { c with suppressed := c.suppressed + 1 }) }

/-- Enter a record in the recorder and deliver it (R474, R475). -/
def State.produce (r : EventRecord) (s : State) : State :=
  if s.ev.powerFailing then { s with ev := s.ev.suppress }
  else { s with ev := (s.ev.store r s.clock.tick).deliver r s.clock.tick s.host.busMaster }

/-- The record that a unit without one unit number carries in PARAM0 (R471). -/
def oneUnit : Nat := 0xFFFFFFFF

/-- When room has returned in the host queue after records were counted, queue the loss record first (R480). -/
def State.queueLossRecord (s : State) : State :=
  if 0 < s.ev.queueLoss && s.ev.queueEnable && s.host.busMaster && decide (s.ev.queued < 1024) then
    let r := s.record 12 425 1 .loss 12 oneUnit s.ev.queueLoss 0
    ({ s with ev := { s.ev with queueLoss := 0 } }).produce r
  else s

/-- Raise an event with a severity of its own (R472). -/
def State.raiseSev (src item : Nat) (a : Action) (sev p0 p1 p2 : Nat) (s : State) : State :=
  let s := s.queueLossRecord
  s.produce (s.record (subsystemOf src) src item a sev p0 p1 p2)

/-- Raise an event with the default severity of its ACTION (R472). -/
def State.raise (src item : Nat) (a : Action) (p0 p1 p2 : Nat) (s : State) : State :=
  s.raiseSev src item a a.severity p0 p1 p2

/-- Raise an event of a connection-level pair: subsystem 2h on a line-port source (R470, R175). -/
def State.raisePair (port item : Nat) (a : Action) (p0 p1 p2 : Nat) (s : State) : State :=
  let s := s.queueLossRecord
  s.produce (s.record 2 (port / 8) item a a.severity p0 p1 p2)

/-- Raise an event when a condition holds. -/
def State.raiseIf (c : Bool) (src item : Nat) (a : Action) (p0 p1 p2 : Nat) (s : State) : State :=
  if c then s.raise src item a p0 p1 p2 else s

/-- Raise SET or CLEAR when a flag changes. -/
def State.raiseFlag (old new : Bool) (src item p0 : Nat) (s : State) : State :=
  if old = new then s else s.raise src item (if new then .set else .clear) p0 0 0

/-- Raise STATE when a state code changes: PARAM1 the old code, PARAM2 the new (R472). -/
def State.raiseState (old new : Nat) (src item p0 : Nat) (s : State) : State :=
  if old = new then s else s.raise src item .state p0 old new

end Sys2Proof.Machine
end

