-- ==== Sys2Proof/Machine/Wci.lean ====
section
/-! DEFINITION. The Wahoust Command Interface: status codes, messages, the token window, the journal, and the
posting of responses (R312 to R327). -/
namespace Sys2Proof

/-- FLAGS bits of R316. -/
def Request.persist (r : Request) : Bool := r.flags.getLsbD 1
def Request.noIrq (r : Request) : Bool := r.flags.getLsbD 2

/-- A payload field, little-endian (R2). -/
def Request.u (r : Request) (off n : Nat) : Nat := Machine.field r.payload off n
/-- A signed payload field. -/
def Request.s (r : Request) (off n : Nat) : Int := Machine.sfield r.payload off n
/-- Whether payload bytes are all 00h (R3). -/
def Request.zero (r : Request) (off n : Nat) : Bool := Machine.isZero r.payload off n
/-- The command that a request is. -/
def Request.ref (r : Request) : Machine.CommandRef := ⟨r.channel, r.token⟩

end Sys2Proof

namespace Sys2Proof.Machine

/-- The status codes of R319. -/
def Status.code : Status → Nat
  | .ok => 0 | .accepted => 1 | .pending => 2 | .committed => 3 | .notExecuted => 4
  | .errOpcode => 0x8001 | .errLength => 0x8002 | .errVersion => 0x8003 | .errState => 0x8004
  | .errRange => 0x8005 | .errBusy => 0x8006 | .errAuth => 0x8007 | .errResource => 0x8008
  | .errConflict => 0x8009 | .errNotErased => 0x800A | .errDate => 0x800B | .errUnusable => 0x800C
  | .errAbandoned => 0x800D

/-- Column "Final" of R319. -/
def Status.isFinal : Status → Bool
  | .accepted | .pending | .errBusy => false
  | _ => true

/-- DETAIL for the message header, and for the descriptor list or a buffer that is too short (R598). -/
def detailHeader : Nat := 0xFFFFFFFE
def detailList : Nat := 0xFFFFFFFD
/-- DETAIL for byte `b` of the command's buffer (R598). -/
def detailBuffer (b : Nat) : Nat := 0x80000000 + b

/-- Header bytes 2 to 7 and 20 to 21 and the payload: what the request digest covers (R324). -/
def digestInput (opcode : BitVec 16) (r : Request) : List Byte :=
  leBytes 2 opcode.toNat ++ leBytes 2 r.flags.toNat ++ leBytes 2 r.payloadLength.toNat
    ++ leBytes 2 r.descCount.toNat ++ r.payload

/-- The request digest: the first 16 bytes of SHA-384 (R324). -/
def requestDigest (opcode : BitVec 16) (r : Request) : BitVec 128 :=
  (sha384 (digestInput opcode r)).extractLsb' 256 128

/-- FLAGS of a response (R316). -/
def Response.flags (x : Response) : Nat :=
  packBits [true, x.persist, false, x.retryAnswer, x.replayed, x.final]

/-- The bytes of a response: header and payload (R316, R317). -/
def Response.bytes (x : Response) : List Byte :=
  leBytes 2 x.version.toNat ++ leBytes 2 x.opcode.toNat ++ leBytes 2 x.flags
    ++ leBytes 2 (16 + x.results.length) ++ leBytes 4 x.sequence.toNat ++ leBytes 8 x.token.toNat
    ++ zeros 12
    ++ leBytes 2 x.status.code ++ leBytes 1 x.stage.toNat ++ zeros 1 ++ leBytes 4 x.retryAfter.toNat
    ++ leBytes 4 x.ticket.toNat ++ leBytes 4 x.detail.toNat ++ x.results

/-- The control-fabric address of BAR2 offset 0 (R508). -/
def mailboxBase : Nat := 0x00A00000
/-- Where response entry `i` of channel `c` lies in the mailbox window (R312, R508). -/
def responseAddr (c i : Nat) : Nat := mailboxBase + 0x80000 * c + 0x40000 + 0x1000 * i
/-- Where request entry `i` of channel `c` lies in the mailbox window (R312, R508). -/
def requestAddr (c i : Nat) : Nat := mailboxBase + 0x80000 * c + 0x1000 * i

/-- What an unlisted byte of control-fabric RAM reads as (DESIGN CHOICE, log 3). -/
def ramDefault : Byte := 0
/-- What an erased byte of eFlash reads as (R518). -/
def flashDefault : Byte := 0xFF

/-- A channel of the host port. -/
def State.chan (s : State) (c : Fin 8) : Channel := s.host.channels[c]

/-- Change one channel. -/
def State.setChan (c : Fin 8) (f : Channel → Channel) (s : State) : State :=
  { s with host := { s.host with channels := s.host.channels.set c (f s.host.channels[c]) } }

/-- Append a journal record (R325). -/
def State.journal (ref : CommandRef) (k : JournalKind) (s : State) : State :=
  { s with host := { s.host with journal := s.host.journal ++ [⟨ref, k⟩] } }

/-- The number of entries of a ring, from its indices (R313). -/
def ringCount (pi ci : BitVec 32) : Nat := (pi - ci).toNat

/-- Whether a response must be held: the ring is full, the channel is in ERROR, or earlier ones wait (R314, R315). -/
def Channel.mustHold (ch : Channel) : Bool :=
  ch.mode == .error || 64 ≤ ringCount ch.rspPi ch.rspCi || !ch.held.isEmpty

/-- The response-posted signal of a channel: signal-only (R476). -/
def State.signalResponse (c : Fin 8) (noIrq : Bool) (s : State) : State :=
  let rt := s.ev.route (297 + c.val)
  if rt.enable && !noIrq then { s with ev := s.ev.setPending rt.vector s.host.busMaster } else s

/-- Write a response into its 4 KiB entry of the ring and advance RSP_PI (R312, R313 step 3, R476). -/
def State.writeResponse (c : Fin 8) (x : Response) (s : State) : State :=
  let pi := (s.chan c).rspPi
  let s := { s with fabric :=
    { s.fabric with cells := memWrite ramDefault s.fabric.cells (responseAddr c (pi.toNat % 64)) (x.bytes.take 4096) } }
  let s := s.setChan c (fun ch => { ch with rspPi := ch.rspPi + 1 })
  (s.journal ⟨c, x.token⟩ (.posted pi)).signalResponse c x.noIrq

/-- Post a response: it leaves with the other responses of this step (`settle`). -/
def State.post (c : Fin 8) (x : Response) (s : State) : State :=
  { s with host := { s.host with outbox := s.host.outbox ++ [(c, x)] } }

/-- Put a response into its ring, or hold it in order (R313, R314, R315). -/
def State.putResponse (c : Fin 8) (x : Response) (s : State) : State :=
  if (s.chan c).mustHold then
    let first := (s.chan c).held.isEmpty
    (s.setChan c (fun ch => { ch with held := ch.held ++ [x] })).raiseIf first (297 + c.val) 3 .set c.val 0 0
  else s.writeResponse c x

/-- Put responses into their rings in order. -/
def State.putResponses : List (Fin 8 × Response) → State → State
  | [], s => s
  | (c, x) :: rest, s => State.putResponses rest (s.putResponse c x)

/-- Put the responses that have arisen into their rings, in their order; during a service gap they wait (R431). -/
def State.settle (s : State) : State :=
  if s.mgmt.serviceGap then s
  else State.putResponses s.host.outbox { s with host := { s.host with outbox := [] } }

/-- What a command that neither moves time nor writes the control fabric's memories or the eFlash space leaves behind,
after its effects gave `t` from `s`: the queue, the clock, the fabric and the bytes of the eFlash stand as they were, but
for the responses posted. -/
def State.settled (s t : State) : State :=
  State.settle { t with pending := s.pending, clock := s.clock, fabric := s.fabric, flash := { t.flash with cells := s.flash.cells } }

/-- What a command that writes the control fabric's memories or the eFlash, and does not move time, leaves behind. -/
def State.settledFabric (s t : State) : State := State.settle { t with pending := s.pending, clock := s.clock }

/-- Post held responses while the ring has room (R314). -/
def State.postHeld (c : Fin 8) : Nat → State → State
  | 0, s => s
  | n + 1, s =>
    let ch := s.chan c
    match ch.held with
    | [] => s
    | x :: rest =>
      if ch.mode == .error || 64 ≤ ringCount ch.rspPi ch.rspCi then s
      else
        let s := (s.setChan c (fun ch => { ch with held := rest })).writeResponse c x
        postHeld c n (s.raiseIf rest.isEmpty (297 + c.val) 3 .clear c.val 0 0)

/-- The recorded entry of a token (R324). -/
def Channel.recorded (ch : Channel) (t : BitVec 64) : Option TokenEntry := ch.window.find? (fun e => e.token == t)

/-- The entry of a command, be its token in the window or not. -/
def Channel.find (ch : Channel) (t : BitVec 64) : Option TokenEntry :=
  match ch.recorded t with
  | some e => some e
  | none => ch.left.find? (fun e => e.token == t)

/-- Whether responses to a command are still to come (R317). -/
def TokenEntry.pends (e : TokenEntry) : Bool := !e.status.isFinal || (e.persist && e.status == .ok)

/-- Record an accepted command among the 512 most recently accepted ones (R324). -/
def Channel.record (e : TokenEntry) (ch : Channel) : Channel :=
  let all := ch.window ++ [e]
  { ch with window := lastN 512 all, left := (ch.left ++ all.take (all.length - 512)).filter TokenEntry.pends }

/-- Change the entry of a token. -/
def Channel.update (t : BitVec 64) (f : TokenEntry → TokenEntry) (ch : Channel) : Channel :=
  if (ch.recorded t).isSome then { ch with window := updateFirst (fun e => e.token == t) f ch.window }
  else { ch with left := updateFirst (fun e => e.token == t) f ch.left }

/-- The management core that serves the host: the owner, or the one that held the interlock last (R417). -/
def State.activeCore (s : State) : Fin 2 := s.mgmt.owner.getD s.mgmt.lastOwner

/-- The response that an entry's latest status makes (R316, R317, R324). -/
def TokenEntry.response (e : TokenEntry) (replayed : Bool) : Response :=
  { version := e.version, opcode := e.opcode, sequence := e.sequence, token := e.token
    status := e.status, stage := e.stage, persist := e.persist, retryAnswer := false, replayed := replayed
    -- DEDUCED (log 5): a completion that a commitment follows is not the last response
    final := e.status.isFinal && !(e.persist && e.status == .ok)
    noIrq := e.noIrq, retryAfter := 0, ticket := e.ticket
    detail := e.detail, results := e.results }

/-- The stage code of a first response, a completion and a commitment (R317). -/
def stageCompletion : BitVec 8 := 1
def stageCommitment : BitVec 8 := 2

/-- Post the latest status of a recorded command, unless a host-port reset withdrew its responses (R310). -/
def State.postEntry (ref : CommandRef) (s : State) : State :=
  match (s.chan ref.channel).find ref.token with
  | none => s
  | some e =>
    if e.withdrawn then s else s.post ref.channel (e.response (e.acceptedBy != s.activeCore))

/-- A command ends with its final status and results: DONE, the completion, and APPLIED (R317, R325). -/
def State.complete (ref : CommandRef) (st : Status) (detail : Nat) (results : List Byte) (s : State) : State :=
  let s := s.journal ref .done
  let s := s.setChan ref.channel (fun ch => ch.update ref.token (fun e =>
    { e with status := st, stage := stageCompletion, detail := BitVec.ofNat 32 detail
             results := padTo e.results.length results, jobState := 2 }))
  (s.postEntry ref).journal ref .applied

/-- A job ends with a reason code beside its status (R343). -/
def State.completeJob (ref : CommandRef) (st : Status) (reason : Nat) (results : List Byte) (s : State) : State :=
  let s := s.setChan ref.channel (fun ch => ch.update ref.token (fun e => { e with reason := BitVec.ofNat 8 reason }))
  s.complete ref st 0 results

/-- The effects of a command have become durable: DURABLE, then COMMITTED when it asked for it (R317, R325). -/
def State.commit (ref : CommandRef) (s : State) : State :=
  match (s.chan ref.channel).find ref.token with
  | none => s
  | some e =>
    let s := s.journal ref .durable
    if e.persist && e.status == .ok then
      let s := s.setChan ref.channel (fun ch => ch.update ref.token (fun e =>
        { e with status := .committed, stage := stageCommitment, durable := true }))
      s.postEntry ref
    else s.setChan ref.channel (fun ch => ch.update ref.token (fun e => { e with durable := true }))

/-- The job of a command starts to run (R343). -/
def State.startJob (ref : CommandRef) (bound : Nat) (s : State) : State :=
  let now := s.clock.tick
  s.setChan ref.channel (fun ch => ch.update ref.token (fun e =>
    { e with jobState := 1, startTick := now, bound := bound }))

/-- Whether a recorded command awaits its completion (R322). -/
def Channel.awaiting (ch : Channel) : Bool := (ch.window ++ ch.left).any (fun e => !e.status.isFinal)

/-- Classes of channels (R321): 0 urgent, 1 normal, 2 bulk. -/
def channelClass (c : Fin 8) : Nat := if c.val ≤ 1 then 0 else if c.val ≤ 5 then 1 else 2

/-- The class codes of the command tables (R335): U on all channels, N on normal and bulk, B on bulk only. -/
inductive CommandClass where
  | u | n | b
  deriving DecidableEq, Repr, Inhabited

/-- Whether a class code admits a channel (R335). -/
def CommandClass.admits (k : CommandClass) (c : Fin 8) : Bool :=
  match k with
  | .u => true
  | .n => 1 ≤ channelClass c
  | .b => channelClass c == 2

/-- What a command's own checks decide (R319 step 12, R336). -/
inductive Reply where
  /-- Refused: status, DETAIL and, where its reference gives some, results. -/
  | refuse (st : Status) (detail : Nat) (results : List Byte)
  /-- Pattern O: OK at once. -/
  | done (results : List Byte)
  /-- Pattern A: ACCEPTED; another step completes it. -/
  | accept (results : List Byte)
  /-- Pattern A, with its completion at once. -/
  | acceptDone (first results : List Byte)
  /-- Pattern A: ACCEPTED, then `n` bytes of the buffer are read (R374). -/
  | acceptRead (n : Nat)
  /-- Pattern P: PENDING with a ticket; whether the job runs at once, and its time bound in ticks. -/
  | job (running : Bool) (bound : Nat)
  /-- Pattern P: PENDING with a ticket, then `n` bytes of the buffer are read (R350). -/
  | jobRead (running : Bool) (bound n : Nat)
  /-- The command reads `n` bytes of its buffer before it is answered. -/
  | read (n : Nat)
  /-- Pattern O: the command writes to its buffer and is then answered OK. -/
  | write (data results : List Byte)
  /-- Pattern A: ACCEPTED, then the buffer is written, then the completion. -/
  | acceptWrite (data results : List Byte)
  deriving DecidableEq, Repr, Inhabited

/-- One command of the tables of chapters 12 and 13: its row, its own checks and its effects. -/
structure Command where
  opcode  : BitVec 16
  /-- The lowest WCI version that defines it (R597). -/
  since   : BitVec 16
  cls     : CommandClass
  /-- Marked F: refused during tinder service (R336). -/
  full    : Bool
  length  : Nat
  desc    : Bool
  /-- Marked +C: allows PERSIST (R336). -/
  persist : Bool
  results : Nat
  /-- The payload's ranges and reserved fields: the offset of the first offending field (R3, R337). -/
  range   : Request → Option Nat
  /-- The rest of the checks, and the answer; the Nat is the length of the buffer. -/
  check   : Request → Nat → State → Reply
  /-- The answer once the buffer has been read. -/
  onData  : Request → List Byte → State → Reply
  /-- What the arrival of the buffer's bytes does, when an answered command was waiting for them. -/
  arrived : Request → List Byte → State → State
  /-- Effects at execution; the Nat is the length of the buffer. -/
  now     : Request → Nat → State → State
  /-- Effects at T+1 (R337), when it has any. -/
  later   : Option (Request → List Byte → State → State)
  /-- What a refusal does beside its response. -/
  refused : Request → Status → State → State

/-- A command with no descriptors, no effects and no checks, to be filled in. -/
def Command.base (opcode since : BitVec 16) (cls : CommandClass) (length results : Nat) : Command :=
  { opcode := opcode, since := since, cls := cls, full := false, length := length, desc := false, persist := false
    results := results, range := fun _ => none, check := fun _ _ _ => .done [], onData := fun _ _ _ => .done []
    arrived := fun _ _ s => s, now := fun _ _ s => s, later := none, refused := fun _ _ s => s }

/-- The first offset among `(bad, offset)` pairs whose check fails; pairs are listed by rising offset (R598). -/
def firstBad : List (Bool × Nat) → Option Nat
  | [] => none
  | (bad, off) :: rest => if bad then some off else firstBad rest

end Sys2Proof.Machine
end

