-- ==== Sys2Proof/Machine/Recorder.lean ====
section
/-! DEFINITION. The recorder's event log and pins (R478, R481 to R489), and the reads of R399. -/
namespace Sys2Proof.Machine

/-- Change the recorder. -/
def State.setEv (f : EventState → EventState) (s : State) : State := { s with ev := f s.ev }

/-- OLDEST: the oldest index held, or the one that the next record will take (R397). -/
def EventState.oldest (e : EventState) : Nat := match e.log with | [] => e.nextIndex | x :: _ => x.index

/-- Number the records of one page: indices and places rise by one (R481, R482). -/
def numberRecords (index place : Nat) : List EventRecord → List LoggedRecord
  | [] => []
  | r :: rs => { index := index, place := place, record := r } :: numberRecords (index + 1) (place + 1) rs

/-- Program one page with up to 8 records; when the head enters a sector, the sector after it is erased and its records
age out (R481, R482). During a power failure nothing is erased, and the standing sector is used up (R487). -/
def EventState.programPage (rs : List EventRecord) (erase : Bool) (e : EventState) : EventState :=
  let sector := e.headPage / 16
  let entering := e.headPage % 16 = 0
  let next := (sector + 1) % 512
  let kept := if entering && erase then e.log.filter (fun x => x.place / 128 != next) else e.log
  { e with
    log := kept ++ numberRecords e.nextIndex (8 * e.headPage) rs
    nextIndex := e.nextIndex + rs.length
    headPage := (e.headPage + 1) % 8192
    standing := if entering then erase else e.standing }

/-- Whether the sector of the head page can be programmed (R484, R519). -/
def State.logProgrammable (s : State) : Bool := !s.flash.unusable.contains (2048 + s.ev.headPage / 16)

/-- The record of the discards, once the buffer has drained to 4,032 (R483). -/
def State.reportDiscards (s : State) : State :=
  if s.ev.discarded && s.ev.buffer.length ≤ 4032 then
    let low := s.ev.discardLow
    let mid := s.ev.discardMid
    let top := s.ev.discardTop
    (s.setEv (fun e => { e with discarded := false, discardLow := 0, discardMid := 0, discardTop := 0 })).raise 424 2 .loss low mid top
  else s

/-- The clear records among `rs` have reached eFlash: their commands are committed (R401). -/
def State.commitClears (rs : List EventRecord) (s : State) : State :=
  let (now, later) := s.ev.clears.partition (fun x => rs.contains x.2)
  now.foldl (fun (s : State) (x : CommandRef × EventRecord) => s.commit x.1) (s.setEv (fun e =>
    { e with clears := later, erased := if later.isEmpty then [] else e.erased }))

/-- Flush the 8 oldest unflushed records into one page (R481). -/
def State.flushPage (s : State) : State :=
  if s.ev.buffer.isEmpty then s
  else if !s.logProgrammable then
    if s.ev.regionFault then s else (s.setEv (fun e => { e with regionFault := true })).raise 424 3 .fault oneUnit 0 0
  else
    let rs := (s.ev.buffer.take 8).map (·.record)
    let was := s.ev.regionFault
    let s := s.setEv (fun e => { (e.programPage rs true) with buffer := e.buffer.drop 8, regionFault := false })
    ((s.raiseIf was 424 3 .repair oneUnit 0 0).reportDiscards).commitClears rs

/-- Whether a flush is due: 8 records unflushed, or one that has waited 1 s, and neither a freeze nor a read of AREA 0
holds it (R398, R399, R481). -/
def State.flushDue (s : State) : Bool :=
  s.ev.frozenUntil.isNone && (s.ev.holds = 0 || s.ev.holdsUntil ≤ s.clock.tick) && !s.ev.powerFailing
    && (8 ≤ s.ev.buffer.length
        || match s.ev.buffer with | [] => false | b :: _ => decide (b.tick + 2000000 ≤ s.clock.tick))

/-- EVENT_FLUSH (R481). -/
def execEventFlush (s : State) : Host.Outcome State Fault Refusal := .next (s.settled (if s.flushDue then s.flushPage else s))

/-- Flush everything, page after page (R532). -/
def State.flushAll : Nat → State → State
  | 0, s => s
  | n + 1, s => if s.ev.buffer.isEmpty then s else flushAll n s.flushPage

/-- POWER_FAIL_FLUSH_PAGE: a page of the power-fail flush, into pages that stand erased (R487 step 4). -/
def State.powerFailPage (s : State) : State :=
  let room := s.ev.headPage % 16 != 0 || s.ev.standing
  if s.ev.powerFailing && room && !s.ev.buffer.isEmpty && s.logProgrammable then
    let rs := (s.ev.buffer.take 8).map (·.record)
    s.setEv (fun e =>
      { (e.programPage rs false) with
        buffer := e.buffer.drop 8
        retention := e.retention.map (fun c => { c with flushedAfter := c.flushedAfter + rs.length }) })
  else s

def execPowerFailFlushPage (s : State) : Host.Outcome State Fault Refusal := .next (s.settled s.powerFailPage)

/-- EVENT_N_RELEASE: a pin goes high 2 ticks after its latest record, for at least 1 tick (R478). -/
def State.pinRelease (b : Fin 4) (s : State) : State :=
  let now := s.clock.tick
  let p := s.ev.pins[b]
  if p.low && p.lowUntil ≤ now then
    s.setEv (fun e => { e with pins := e.pins.set b { p with low := false, highUntil := now + 1 } })
  else s

def execEventNRelease (b : Fin 4) (s : State) : Host.Outcome State Fault Refusal := .next (s.settled (s.pinRelease b))

/-- A pulse that fell in the minimum high time begins at its end (R478). -/
def EventPin.startWaiting (now : Nat) (p : EventPin) : EventPin :=
  if p.waiting && !p.low && p.highUntil ≤ now then { p with low := true, lowUntil := now + 2, waiting := false } else p

/-- The pins at a tick (R478). -/
def State.stepPins (s : State) : State :=
  let now := s.clock.tick
  s.setEv (fun e => { e with pins := e.pins.map (EventPin.startWaiting now) })

/-- The freeze time left, in milliseconds (R397). -/
def State.freezeLeft (s : State) : Nat := match s.ev.frozenUntil with | some t => (t - s.clock.tick) / 2000 | none => 0

/-- Thaw the log, with its event (R398, R489). -/
def State.thaw (s : State) : State :=
  if s.ev.frozenUntil.isSome then
    (s.setEv (fun e => { e with frozenUntil := none })).raise 424 1 .state oneUnit 0 0
  else s

/-- Freeze the log for a number of seconds, or set the time left (R398, R489). -/
def State.freeze (seconds : Nat) (s : State) : State :=
  let until_ := s.clock.tick + seconds * 2000000
  (s.setEv (fun e => { e with frozenUntil := some until_ })).raise 424 1 .state oneUnit seconds 0

/-- LOG_FREEZE_EXPIRY (R398). -/
def State.freezeExpiry (s : State) : State :=
  match s.ev.frozenUntil with
  | some t => if t ≤ s.clock.tick then s.thaw else s
  | none => s

def execLogFreezeExpiry (s : State) : Host.Outcome State Fault Refusal := .next (s.settled s.freezeExpiry)

/-- The records that a read of an area returns, with the first index or position (R399, R484). -/
def EventState.readArea (area first count : Nat) (e : EventState) : Nat × List EventRecord :=
  match area with
  | 0 =>
    let from_ := max first e.oldest
    (from_, ((e.log.filter (fun x => from_ ≤ x.index)).take count).map (·.record))
  | 1 => (first, ((e.buffer.drop first).take count).map (·.record))
  | _ => (first, match e.retention with | some c => (c.records.drop first).take count | none => [])

/-- Erase the records up to an index; the clear record takes a later index when it is flushed (R401, R485). -/
def State.clearLog (upTo : Nat) (owner : List Byte) (c : CommandRef) (s : State) : State :=
  let s := s.setEv (fun e =>
    { e with log := e.log.filter (fun x => upTo < x.index), erased := e.erased ++ e.log.filter (fun x => x.index ≤ upTo) })
  let s := s.queueLossRecord
  let r := s.record 12 424 6 .occurrence 15 (upTo % 4294967296) (upTo / 4294967296) (field owner 0 4)
  (s.setEv (fun e => { e with clears := e.clears ++ [(c, r)] })).produce r

/-- The retention records committed at a start (R488). -/
def State.commitRetention (copyOk : Bool) (s : State) : State :=
  match s.ev.retention with
  | none => s
  | some c =>
    if !copyOk then s.raise 424 4 .loss oneUnit 0xFFFFFFFF 0
    else
      let k := c.unflushed - c.flushedAfter
      let n := min k c.records.length
      let rs := (lastN n c.records).map (fun r => { r with retained := true })
      let pages (e : EventState) : EventState :=
        (List.range ((n + 7) / 8)).foldl (fun e i => e.programPage ((rs.drop (8 * i)).take 8) true) e
      let s := s.setEv (fun e => { (pages e) with lost := e.lost + (k - c.records.length) + c.suppressed })
      s.raise 424 5 .occurrence oneUnit n 0

end Sys2Proof.Machine
end

