-- ==== Sys2Proof/Machine/AlwaysOn.lean ====
section
/-! DEFINITION. The always-on domain: the RTC, its calendar, leap seconds and monitors (chapter 17). -/
namespace Sys2Proof.Machine

/-- Change the always-on domain. -/
def State.setRtc (f : RtcState → RtcState) (s : State) : State := { s with rtc := f s.rtc }

/-- The last second that has a calendar value (R393). -/
def lastSecond : Nat := 12622780799

/-- Leap years of R498. -/
def leapYear (y : Nat) : Bool := y % 4 == 0 && (y % 100 != 0 || y % 400 == 0)
/-- The length of a year. -/
def yearLength (y : Nat) : Nat := if leapYear y then 366 else 365
/-- The length of a month (R498). -/
def monthLength (m y : Nat) : Nat :=
  match m with
  | 1 => 31 | 2 => if leapYear y then 29 else 28 | 3 => 31 | 4 => 30 | 5 => 31 | 6 => 30
  | 7 => 31 | 8 => 31 | 9 => 30 | 10 => 31 | 11 => 30 | 12 => 31 | _ => 0

/-- The year of a day count, and the days left (R498). -/
def findYear : Nat → Nat → Nat → Nat × Nat
  | 0, y, d => (y, d)
  | fuel + 1, y, d => if yearLength y ≤ d then findYear fuel (y + 1) (d - yearLength y) else (y, d)
/-- The month of a day within its year, and the days left (R498). -/
def findMonth : Nat → Nat → Nat → Nat → Nat × Nat
  | 0, _, m, d => (m, d)
  | fuel + 1, y, m, d => if monthLength m y ≤ d then findMonth fuel y (m + 1) (d - monthLength m y) else (m, d)

/-- A calendar value (R393). -/
structure Calendar where
  year   : Nat
  month  : Nat
  day    : Nat
  hour   : Nat
  minute : Nat
  second : Nat
  deriving DecidableEq, Repr

/-- The conversion of R498. -/
def calendarOf (secs : Nat) : Calendar :=
  let rem := secs % 86400
  let (y, d) := findYear 400 2000 (secs / 86400)
  let (m, d) := findMonth 12 y 1 d
  { year := y, month := m, day := d + 1, hour := rem / 3600, minute := rem % 3600 / 60, second := rem % 60 }

/-- The 8 bytes of a calendar value (R393). -/
def Calendar.bytes (c : Calendar) : List Byte :=
  leBytes 2 c.year ++ leBytes 1 c.month ++ leBytes 1 c.day ++ leBytes 1 c.hour ++ leBytes 1 c.minute ++ leBytes 1 c.second ++ [0]

/-- A calendar value from 8 bytes. -/
def readCalendar (bs : List Byte) : Calendar :=
  { year := field bs 0 2, month := byteAt bs 2, day := byteAt bs 3, hour := byteAt bs 4, minute := byteAt bs 5, second := byteAt bs 6 }

/-- The days before a year, and before a month of it. -/
def daysBefore (c : Calendar) : Nat :=
  ((List.range (c.year - 2000)).map (fun i => yearLength (2000 + i))).sum
    + ((List.range (c.month - 1)).map (fun i => monthLength (i + 1) c.year)).sum + (c.day - 1)

/-- The second that a calendar value counts to. -/
def Calendar.seconds (c : Calendar) : Nat := daysBefore c * 86400 + c.hour * 3600 + c.minute * 60 + c.second

/-- Everything of R499 but the second. -/
def Calendar.fieldsOk (c : Calendar) : Bool :=
  decide (1 ≤ c.month) && decide (c.month ≤ 12) && decide (1 ≤ c.day) && decide (c.day ≤ monthLength c.month c.year)
    && decide (c.hour ≤ 23) && decide (c.minute ≤ 59)

/-- The offset from TAI to UTC in force (R500). -/
def RtcState.offset (r : RtcState) : Int := r.taiUtc.toInt
/-- The post-leap offset of the schedule (R501). -/
def RtcState.postLeap (r : RtcState) : Int := if r.leap = 1 then r.offset + 1 else if r.leap = 2 then r.offset - 1 else r.offset

/-- The TAI second that an inserted leap second occupies (R501). -/
def RtcState.insertedSecond (r : RtcState) : Option Nat :=
  if r.leap = 1 then some (r.leapTai.toNat - 1) else none

/-- The UTC count (R500). -/
def RtcState.utc (r : RtcState) : Int := (r.seconds.toNat : Int) - r.offset

/-- TAI_CAL of R394: 8 bytes of 00h out of range (R495). -/
def RtcState.taiCalendar (r : RtcState) : List Byte :=
  if r.seconds.toNat ≤ lastSecond then (calendarOf r.seconds.toNat).bytes else zeros 8

/-- UTC_CAL of R394: SECOND is 60 in an inserted leap second (R501). -/
def RtcState.utcCalendar (r : RtcState) : List Byte :=
  if r.seconds.toNat ≤ lastSecond && 0 ≤ r.utc && r.utc.toNat ≤ lastSecond then
    if r.insertedSecond = some r.seconds.toNat then { (calendarOf (r.utc.toNat - 1)) with second := 60 }.bytes
    else (calendarOf r.utc.toNat).bytes
  else zeros 8

/-- The TAI second that a value of RTC_SET names, or ERR_RANGE or ERR_DATE (R395, R499). -/
def RtcState.instant (r : RtcState) (mode : Nat) (value : List Byte) : Except Status Nat :=
  if mode = 0 then
    let v := field value 0 8
    if v ≤ lastSecond then .ok v else .error .errRange
  else
    let c := readCalendar value
    if c.year < 2000 || 2399 < c.year || byteAt value 7 != 0 then .error .errRange
    else if !c.fieldsOk then .error .errDate
    else if mode = 1 then (if c.second ≤ 59 then .ok c.seconds else .error .errDate)
    else if c.second ≤ 59 then
      -- the UTC seconds before a scheduled leap take the present offset, later ones the post-leap offset (R500, R501)
      let before := (c.seconds : Int) + r.offset
      let tai := if r.leap != 0 && r.leapTai.toNat ≤ ((c.seconds : Int) + r.postLeap).toNat then (c.seconds : Int) + r.postLeap else before
      let deleted := r.leap = 2 && c.seconds + 1 = (r.leapTai.toNat : Int) - r.postLeap
      if deleted || tai < 0 then .error .errDate
      else if tai.toNat ≤ lastSecond then .ok tai.toNat else .error .errRange
    else if c.second = 60 then
      match r.insertedSecond with
      | some n => if (c.seconds : Int) + r.offset = n then .ok n else .error .errDate
      | none => .error .errDate
    else .error .errDate

/-- A scheduled leap takes effect: the offset changes and the schedule clears (R501). -/
def State.applyLeap (s : State) : State :=
  if s.rtc.leap != 0 && s.rtc.leapTai.toNat ≤ s.rtc.seconds.toNat then
    let new := BitVec.ofInt 16 s.rtc.postLeap
    let s := s.setRtc (fun r => { r with taiUtc := new, leap := 0, leapTai := 0 })
    s.raise 427 3 .occurrence oneUnit new.toNat 0
  else s

/-- LEAP_APPLIED (R501). -/
def execLeapApplied (s : State) : Host.Outcome State Fault Refusal := .next (s.settled s.applyLeap)

/-- RTC_SECOND: the whole-second count advances; past its range the calendar reads 0 (R495). -/
def State.rtcSecond (s : State) : State :=
  let now := s.clock.tick
  let s := s.setRtc (fun r => { r with seconds := r.seconds + 1, subSeconds := 0, secondAt := now })
  s.raiseIf (s.rtc.seconds.toNat == lastSecond + 1) 426 5 .occurrence oneUnit 0 0

def execRtcSecond (s : State) : Host.Outcome State Fault Refusal := .next (s.settled s.rtcSecond)

/-- The second of the tick timescale whose instant lies in the present tick period (R272, R497). -/
def State.timescaleSecond (s : State) : Option Nat :=
  let t : Int := (s.clock.frame.toNat : Int) * 10000 - s.dpll.settings.tickOffset
  let next := (t + 19999999999) / 20000000000
  if 0 ≤ next && next * 20000000000 < t + 10000 then some next.toNat else none

/-- RTC_ALIGNMENT: at a whole second of the tick timescale, while frame numbers are traceable (R497). -/
def State.rtcAlign (s : State) : State :=
  match s.timescaleSecond with
  | none => s
  | some n =>
    if s.traceable then
      let old := s.rtc.seconds.toNat
      let now := s.clock.tick
      let s := s.setRtc (fun r =>
        { r with seconds := BitVec.ofNat 40 n, subSeconds := 0, secondAt := now, valid := true, oscStopped := false
                 alignedSeconds := BitVec.ofNat 64 n, settingsOk := true })
      let s := s.raiseIf (old != n) 426 4 .occurrence oneUnit (old % 4294967296) (n % 4294967296)
      (s.raiseIf (decide (old ≤ lastSecond) && decide (lastSecond < n)) 426 5 .occurrence oneUnit 0 0).applyLeap
    else s

def execRtcAlignment (s : State) : Host.Outcome State Fault Refusal := .next (s.settled s.rtcAlign)

/-- RTC_OSC_STOP: no crystal edge for 4 ms (R493). -/
def State.oscStop (s : State) : State :=
  let was := s.rtc.crystalDown
  (s.setRtc (fun r => { r with oscStopped := true, valid := false, crystalDown := true })).raiseFlag was true 426 1 oneUnit

def execRtcOscStop (s : State) : Host.Outcome State Fault Refusal := .next (s.settled s.oscStop)

/-- RTC_OSC_RESUME: 32,768 edges without a stop (R493). -/
def State.oscResume (s : State) : State :=
  let was := s.rtc.crystalDown
  (s.setRtc (fun r => { r with crystalDown := false })).raiseFlag was false 426 1 oneUnit

def execRtcOscResume (s : State) : Host.Outcome State Fault Refusal := .next (s.settled s.oscResume)

/-- RTC_TRIM_UPDATE: the crystal's offset over 2^20 frames in 0.1 ppm gives the trim that removes it (R494). -/
def State.trimUpdate (offset : Int) (s : State) : State :=
  if s.traceable && !s.rtc.crystalDown then
    let old := s.rtc.trim.toInt
    let new := max (-2000) (min 2000 (-offset))
    let s := s.setRtc (fun r => { r with trim := BitVec.ofInt 32 new, settingsOk := true })
    s.raiseIf (decide (10 < (new - old).natAbs)) 429 3 .occurrence oneUnit (new % 4294967296).toNat 0
  else s

def execRtcTrimUpdate (offset : Int) (s : State) : Host.Outcome State Fault Refusal := .next (s.settled (s.trimUpdate offset))

/-- VBAT_CHECK: VBAT_LOW is set below 2.2 V and cleared above 2.3 V (R491). -/
def State.vbatCheck (mv : Nat) (s : State) : State :=
  let old := s.rtc.vbatLow
  let new := if mv < 2200 then true else if 2300 < mv then false else old
  (s.setRtc (fun r => { r with vbatLow := new })).raiseFlag old new 428 1 oneUnit

def execVbatCheck (millivolts : Nat) (s : State) : Host.Outcome State Fault Refusal := .next (s.settled (s.vbatCheck millivolts))

/-- AO_DOMAIN_RESET: VDD_IO18 and VBAT are both lost (R492). -/
def State.aoReset (s : State) : State :=
  let now := s.clock.tick
  let s := s.setRtc (fun r =>
    { r with
      seconds := 0, subSeconds := 0, secondAt := now, valid := false, oscStopped := true, taiUtc := 0, leap := 0, leapTai := 0
      trim := 0, alignedSeconds := 0, settingsOk := false, lossRtc := 0, lossFrame := 0, lossCount := 0, lossOk := false
      domainReset := true })
  s.setEv (fun e => { e with retentionOk := false })

def execAoDomainReset (s : State) : Host.Outcome State Fault Refusal := .next (s.settled s.aoReset)

/-- The sub-second count at a tick, while the device is powered (R493, R495). -/
def State.countSubSeconds (s : State) : State :=
  let n := (s.clock.tick - s.rtc.secondAt) * 32768 / 2000000
  s.setRtc (fun r => { r with subSeconds := BitVec.ofNat 15 (min n 32767) })

/-- RTC_SET takes effect (R395, R502). -/
def State.setClock (n : Nat) (s : State) : State :=
  let now := s.clock.tick
  let s := s.setRtc (fun r =>
    { r with seconds := BitVec.ofNat 40 n, subSeconds := 0, secondAt := now, valid := true, oscStopped := false })
  (s.raise 426 2 .occurrence oneUnit (n % 4294967296) (n / 4294967296)).applyLeap

/-- LEAP_SET takes effect (R396, R501). -/
def State.setLeap (offset : Int) (leap : Nat) (at_ : Nat) (s : State) : State :=
  let s := s.setRtc (fun r =>
    { r with taiUtc := BitVec.ofInt 16 offset, leap := BitVec.ofNat 8 leap, leapTai := BitVec.ofNat 64 at_, settingsOk := true })
  let s := s.raise 427 1 .occurrence oneUnit (offset % 65536).toNat 0
  (s.raiseIf (leap != 0) 427 2 .occurrence oneUnit leap (at_ % 4294967296)).applyLeap

end Sys2Proof.Machine
end

