-- ==== Sys2Proof/Machine/Cipher.lean ====
section
/-! DEFINITION. AES-256 of FIPS 197 and Galois/counter mode of NIST SP 800-38D, which R54 and R456 name (log 48). -/
namespace Sys2Proof.Machine

/-- Multiplication by x in GF(2^8) with x^8 + x^4 + x^3 + x + 1. -/
def xtime (a : Byte) : Byte := if a.getLsbD 7 then (a <<< 1) ^^^ 0x1B else a <<< 1
def gf8Bits (a b : Byte) : Nat → Byte
  | 0 => 0
  | n + 1 => let z := xtime (gf8Bits a b n)
             if b.getLsbD (7 - n) then z ^^^ a else z
def gf8Mul (a b : Byte) : Byte := gf8Bits a b 8
/-- The inverse, 0 of 0: the power 254 = 2 + 4 + ... + 128. -/
def gf8Inv (a : Byte) : Byte :=
  ((List.range 7).foldl (fun (x : Byte × Byte) _ => let q := gf8Mul x.1 x.1; (q, gf8Mul x.2 q)) (a, 1)).2

/-- SubBytes of one byte. -/
def subByte (a : Byte) : Byte :=
  let b := gf8Inv a
  b ^^^ b.rotateLeft 1 ^^^ b.rotateLeft 2 ^^^ b.rotateLeft 3 ^^^ b.rotateLeft 4 ^^^ 0x63
def subTable : Vector Byte 256 := Vector.ofFn (fun i => subByte (BitVec.ofNat 8 i.val))
def sbox (a : Byte) : Byte := subTable[a.toFin]

def xorBytes (a b : List Byte) : List Byte := List.zipWith (fun x y => x ^^^ y) a b

/-- One word of the key schedule of a 256-bit key; `ws` holds the words so far, newest first. -/
def keyWord (ws : List (List Byte)) (i : Nat) : List Byte :=
  let prev := ws.getD 0 []
  let t :=
    if i % 8 = 0 then xorBytes ((prev.drop 1 ++ prev.take 1).map sbox) [(List.range (i / 8 - 1)).foldl (fun a _ => xtime a) 1, 0, 0, 0]
    else if i % 8 = 4 then prev.map sbox else prev
  xorBytes t (ws.getD 7 [])

/-- The 15 round keys of 16 bytes. -/
def roundKeys (key : List Byte) : List (List Byte) :=
  let first := ((List.range 8).map (fun i => (key.drop (4 * i)).take 4)).reverse
  let ws := ((List.range 52).foldl (fun ws i => keyWord ws (i + 8) :: ws) first).reverse
  (List.range 15).map (fun r => ((ws.drop (4 * r)).take 4).flatten)

/-- ShiftRows: byte r + 4c comes from column c + r. -/
def shiftRows (s : List Byte) : List Byte := (List.range 16).map (fun i => s.getD ((i + 4 * (i % 4)) % 16) 0)
def mixColumn (c : List Byte) : List Byte :=
  (List.range 4).map (fun r =>
    let a (k : Nat) : Byte := c.getD ((r + k) % 4) 0
    xtime (a 0) ^^^ (xtime (a 1) ^^^ a 1) ^^^ a 2 ^^^ a 3)
def mixColumns (s : List Byte) : List Byte := (List.range 4).flatMap (fun c => mixColumn ((s.drop (4 * c)).take 4))

/-- AES-256 of one block. -/
def aesBlock (keys : List (List Byte)) (block : List Byte) : List Byte :=
  let s0 := xorBytes block (keys.getD (0) [])
  let s := (List.range 13).foldl (fun s r => xorBytes (mixColumns (shiftRows (s.map sbox))) (keys.getD (r + 1) [])) s0
  xorBytes (shiftRows (s.map sbox)) (keys.getD (14) [])

/-- The product of GHASH, bit 0 most significant. -/
def ghashMul (x y : BitVec 128) : BitVec 128 :=
  ((List.range 128).foldl (fun (z : BitVec 128 × BitVec 128) i =>
    (if x.getLsbD (127 - i) then z.1 ^^^ z.2 else z.1,
     if z.2.getLsbD 0 then (z.2 >>> 1) ^^^ (0xE1#128 <<< 120) else z.2 >>> 1)) (0, y)).1

/-- The 16-byte blocks of a byte string, the last one filled with 00h. -/
def blocks : Nat → List Byte → List (List Byte)
  | 0, _ => []
  | n + 1, bs => padTo 16 (bs.take 16) :: blocks n (bs.drop 16)
def blocksOf (bs : List Byte) : List (List Byte) := blocks ((bs.length + 15) / 16) bs

def ghash (h : BitVec 128) (bs : List (List Byte)) : BitVec 128 :=
  bs.foldl (fun y b => ghashMul (y ^^^ BitVec.ofNat 128 (beNat b)) h) 0

/-- The counter blocks from 2 on, encrypted and laid over the data. -/
def counterMode (keys : List (List Byte)) (iv data : List Byte) : List Byte :=
  let n := (data.length + 15) / 16
  xorBytes data ((List.range n).flatMap (fun i => aesBlock keys (iv ++ beBytes 4 (i + 2))))

/-- The authentication tag over additional data and ciphertext. -/
def gcmTag (keys : List (List Byte)) (iv aad ct : List Byte) : BitVec 128 :=
  let h := BitVec.ofNat 128 (beNat (aesBlock keys (zeros 16)))
  let y := ghash h (blocksOf aad ++ blocksOf ct ++ [beBytes 8 (8 * aad.length) ++ beBytes 8 (8 * ct.length)])
  y ^^^ BitVec.ofNat 128 (beNat (aesBlock keys (iv ++ beBytes 4 1)))

/-- AES-256-GCM over a line frame's body: ciphertext and tag (R54, R456). -/
@[irreducible] def gcmSeal (key : BitVec 256) (iv : BitVec 96) (aad : BitVec 832) (plain : BitVec 50368) : BitVec 50368 × BitVec 128 :=
  let keys := roundKeys (beBytes 32 key.toNat)
  let iv := beBytes 12 iv.toNat
  let ct := counterMode keys iv (beBytes 6296 plain.toNat)
  (BitVec.ofNat 50368 (beNat ct), gcmTag keys iv (beBytes 104 aad.toNat) ct)

/-- Authenticated decryption: none when the tag check fails (R54, R456). -/
@[irreducible] def gcmOpen (key : BitVec 256) (iv : BitVec 96) (aad : BitVec 832) (cipher : BitVec 50368) (tag : BitVec 128) :
    Option (BitVec 50368) :=
  let keys := roundKeys (beBytes 32 key.toNat)
  let iv := beBytes 12 iv.toNat
  let ct := beBytes 6296 cipher.toNat
  if gcmTag keys iv (beBytes 104 aad.toNat) ct = tag then some (BitVec.ofNat 50368 (beNat (counterMode keys iv ct))) else none

end Sys2Proof.Machine
end

