-- ==== Sys2Proof/Machine/Fec.lean ====
section
/-! DEFINITION. RS(544,514) of IEEE 802.3 clause 91, which R34 names: the field, the generator polynomial, the systematic
encoder and the bounded-distance decoder of one codeword (log 48). -/
namespace Sys2Proof.Machine

/-- A symbol of the code: an element of GF(2^10) with the primitive polynomial x^10 + x^3 + 1 (R34, log 48). -/
abbrev Sym := BitVec 10

/-- Multiplication by the primitive element. -/
def Sym.twice (a : Sym) : Sym := if a.getLsbD 9 then (a <<< 1) ^^^ 9 else a <<< 1

/-- The product of two symbols, `n` bits of the second one. -/
def Sym.mulBits (a b : Sym) : Nat → Sym
  | 0 => 0
  | n + 1 => let z := (Sym.mulBits a b n).twice
             if b.getLsbD (9 - n) then z ^^^ a else z
def Sym.mul (a b : Sym) : Sym := Sym.mulBits a b 10

/-- Powers of a symbol; the inverse is the power 1,022 of a field of 1,024 elements. -/
def Sym.pow (a : Sym) : Nat → Sym
  | 0 => 1
  | n + 1 => Sym.mul a (Sym.pow a n)
def Sym.sq (a : Sym) : Sym := Sym.mul a a
def Sym.inv (a : Sym) : Sym :=
  -- 1022 = 2 + 4 + ... + 512
  ((List.range 9).foldl (fun (x : Sym × Sym) _ => let q := x.1.sq; (q, Sym.mul x.2 q)) (a, 1)).2

/-- A polynomial, lowest coefficient first. -/
abbrev Poly := List Sym
def Poly.at_ (p : Poly) (x : Sym) : Sym := p.foldr (fun c acc => Sym.mul acc x ^^^ c) 0
def Poly.scale (c : Sym) (p : Poly) : Poly := p.map (Sym.mul c)
def Poly.add : Poly → Poly → Poly
  | [], q => q
  | p, [] => p
  | a :: p, b :: q => (a ^^^ b) :: Poly.add p q
def Poly.shift (n : Nat) (p : Poly) : Poly := List.replicate n 0 ++ p

/-- The powers of the primitive element from 1 on. -/
def alphaPowers (n : Nat) : List Sym := ((List.range n).foldl (fun (x : List Sym × Sym) _ => (x.2 :: x.1, x.2.twice)) ([], 1)).1.reverse

/-- The generator polynomial: the product of x - alpha^j for j = 0 to 29 (R34). -/
def rsGenerator : Poly := (alphaPowers 30).foldl (fun g a => Poly.add (Poly.shift 1 g) (Poly.scale a g)) [1]

/-- The symbols of a bit string, the first bit of each most significant (R33). -/
def symbolsOf (n v : Nat) : List Sym := (List.range n).map (fun i => BitVec.ofNat 10 (v / 2 ^ (10 * (n - 1 - i))))
/-- The bit string of symbols. -/
def bitsOfSymbols (xs : List Sym) : Nat := xs.foldl (fun acc x => acc * 1024 + x.toNat) 0

/-- One step of the division by the generator polynomial; the remainder stands highest coefficient first. -/
def rsStep (low : Poly) (rem : List Sym) (m : Sym) : List Sym :=
  match rem with
  | [] => []
  | r :: rest => List.zipWith (fun x g => x ^^^ Sym.mul (r ^^^ m) g) (rest ++ [0]) low

/-- The 30 parity symbols of 514 message symbols, the first transmitted first (R33, R34). -/
def rsParitySymbols (msg : List Sym) : List Sym :=
  let low := (rsGenerator.take 30).reverse
  msg.foldl (rsStep low) (List.replicate 30 0)

/-- The parity of one 5,140-bit message (R33, R34). -/
@[irreducible] def rsParity (m : BitVec 5140) : BitVec 300 := BitVec.ofNat 300 (bitsOfSymbols (rsParitySymbols (symbolsOf 514 m.toNat)))

/-- The 30 syndromes of a received word, the symbol transmitted first having the highest degree. -/
def syndromes (word : List Sym) : List Sym :=
  (alphaPowers 30).map (fun a => word.foldl (fun acc x => Sym.mul acc a ^^^ x) 0)

/-- The state of the search for the error locator. -/
structure Locator where
  cur    : Poly
  prev   : Poly
  len    : Nat
  gap    : Nat
  prevD  : Sym

/-- The shortest recurrence of the syndromes (Berlekamp and Massey). -/
def Locator.step (syn : List Sym) (x : Locator) (n : Nat) : Locator :=
  let d : Sym := (List.range (x.len + 1)).foldl (fun (acc : Sym) i => acc ^^^ Sym.mul ((x.cur[i]?).getD 0) ((syn[n - i]?).getD 0)) 0
  if d = 0 then { x with gap := x.gap + 1 }
  else
    let next := Poly.add x.cur (Poly.shift x.gap (Poly.scale (Sym.mul d x.prevD.inv) x.prev))
    if 2 * x.len ≤ n then { cur := next, prev := x.cur, len := n + 1 - x.len, gap := 1, prevD := d }
    else { x with cur := next, gap := x.gap + 1 }
def errorLocator (syn : List Sym) : Locator :=
  (List.range 30).foldl (Locator.step syn) { cur := [1], prev := [1], len := 0, gap := 1, prevD := 1 }

/-- The product of two polynomials. -/
def Poly.mul (p q : Poly) : Poly := p.foldr (fun c acc => Poly.add (Poly.scale c q) (Poly.shift 1 acc)) []
/-- The formal derivative. -/
def Poly.derivative (p : Poly) : Poly := (List.range (p.length - 1)).map (fun i => if i % 2 = 0 then (p[i + 1]?).getD 0 else 0)

/-- The error value at each position of a received word that the locator and its evaluator give. -/
def errorValues (syn : List Sym) (x : Locator) : List Sym :=
  let omega := (Poly.mul (syn.take 30) x.cur).take 30
  let deriv := Poly.derivative x.cur
  -- position i has the degree 543 - i
  (alphaPowers 544).reverse.map (fun (a : Sym) =>
    let inv := a.inv
    if Poly.at_ x.cur inv = 0 then Sym.mul a (Sym.mul (Poly.at_ omega inv) (Poly.at_ deriv inv).inv) else 0)

/-- What the RS(544,514) decoder gives for one codeword of 5,440 line bits: the message, the symbols corrected, and whether the
codeword was uncorrectable (R34, R67). -/
structure FecOut where
  message       : BitVec 5140
  corrected     : Nat
  uncorrectable : Bool
  deriving DecidableEq, Repr, Inhabited

/-- Decode one codeword: the codeword within 15 symbols of the received word, when there is one (R34). -/
@[irreducible] def rsDecode (line : BitVec 5440) : FecOut :=
  let word := symbolsOf 544 line.toNat
  let syn := syndromes word
  let plain : BitVec 5140 := line.extractLsb' 300 5140
  if syn.all (· == 0) then { message := plain, corrected := 0, uncorrectable := false }
  else
    let x := errorLocator syn
    let fixed := List.zipWith (fun a b => a ^^^ b) word (errorValues syn x)
    let wrong := (List.zipWith (fun (a b : Sym) => a != b) word fixed).countP id
    if x.len ≤ 15 && wrong ≤ 15 && (syndromes fixed).all (· == 0) then
      { message := BitVec.ofNat 5140 (bitsOfSymbols (fixed.take 514)), corrected := wrong, uncorrectable := false }
    else { message := plain, corrected := 0, uncorrectable := true }

end Sys2Proof.Machine
end

