-- ==== Sys2Proof/Machine/LineCodec.lean ====
section
/-! DEFINITION. The Bexcel line format as bits (chapter 2): codewords, the scrambler, CRC-32, the collar and hem
fields, and where the slots and quarters of an envelope frame stand. Bit 0 of the spec's numbering is the most
significant bit of each of these words. -/
namespace Sys2Proof.Machine

/-- The low bit of each of the 27,200 symbols of a frame. -/
def symbolLows : BitVec 54400 := BitVec.ofNat 54400 ((2 ^ 54400 - 1) / 3)

/-- The Gray coding of R35 over a whole frame: each pair of line bits to its level, 00b to 0, 01b to 1, 11b to 2, 10b to 3. The
high bit of a pair stands; the low bit is the sum of both. -/
def pam4Levels (line : BitVec 54400) : BitVec 54400 := line ^^^ ((line >>> 1) &&& symbolLows)

/-- The line bits of a frame's levels: the mapping of R35 is its own inverse. -/
def pam4Bits (levels : BitVec 54400) : BitVec 54400 := levels ^^^ ((levels >>> 1) &&& symbolLows)

end Sys2Proof.Machine
namespace Sys2Proof

/-- The 54,400 line bits of a frame, line bit 0 most significant (R33, R35). -/
def LineFrame.bits (f : LineFrame) : BitVec 54400 := Machine.pam4Bits f.levels

end Sys2Proof
namespace Sys2Proof.Machine

/-- The information bits of a line frame (R32). -/
abbrev InfoBits := BitVec 51400

/-- The frame alignment word (R36). -/
def faw : BitVec 64 := 0xA71C5E930D62F8B4

/-- `n` keystream bits after `acc`, from register `reg` (R56). -/
def keystreamFrom : Nat → BitVec 31 → Nat → Nat
  | 0, _, acc => acc
  | n + 1, reg, acc =>
    let k := reg.getLsbD 30 ^^ reg.getLsbD 27
    keystreamFrom n ((reg <<< 1) ||| (if k then 1 else 0)) (2 * acc + bit k)

/-- The first `n` keystream bits of a frame, the first one most significant (R56). -/
def keystream (n : Nat) : Nat := keystreamFrom n 0x7FFFFFFF 0

/-- The fixed keystream over information bits 64 to 51,399 (R56). -/
def scrambleMask : InfoBits := BitVec.ofNat 51400 (keystream 51336)

/-- Scrambling, and descrambling (R56). -/
def scramble (x : InfoBits) : InfoBits := x ^^^ scrambleMask

/-- One step of the CRC-32 of R52. -/
def crcStep (reg : BitVec 32) (b : Bool) : BitVec 32 :=
  if reg.getLsbD 31 ^^ b then (reg <<< 1) ^^^ 0x04C11DB7 else reg <<< 1

/-- The CRC register after the 8 bits of a byte, bit 7 first (R52). -/
def crcByte (reg : BitVec 32) (b : Byte) : BitVec 32 :=
  [7, 6, 5, 4, 3, 2, 1, 0].foldl (fun r i => crcStep r (b.getLsbD i)) reg

/-- CRC-32: polynomial 04C11DB7h, preset FFFFFFFFh, no reflection, final complement (R52). -/
def crc32 (bs : List Byte) : BitVec 32 := ~~~ (bs.foldl crcByte 0xFFFFFFFF)

/-- The field of `n` bits at information bit `off`. -/
def infoBits (x : InfoBits) (off n : Nat) : BitVec n := x.extractLsb' (51400 - off - n) n

/-- The field of `n` bytes at collar byte `off` (R36). -/
def collarField (x : InfoBits) (off n : Nat) : BitVec (8 * n) := infoBits x (8 * off) (8 * n)

/-- The bytes of a bit string, the first in the most significant bits. -/
def bytesOf {w : Nat} (x : BitVec w) : List Byte := beBytes (w / 8) x.toNat

/-- A bit string from bytes, the first in the most significant bits. -/
def bitsOf (w : Nat) (bs : List Byte) : BitVec w := BitVec.ofNat w (beNat bs)

/-- `n` bytes at collar byte `off`, as a byte string. -/
def collarBytes (x : InfoBits) (off n : Nat) : List Byte := bytesOf (collarField x off n)

/-- FRAME_NUMBER, unmasked (R36, R72). -/
def InfoBits.frameNumber (x : InfoBits) : BitVec 64 := infoBits x 64 64
/-- VERSION_FORMAT (R39). -/
def InfoBits.versionFormat (x : InfoBits) : BitVec 8 := infoBits x 128 8
/-- INDICATIONS (R41). -/
def InfoBits.indications (x : InfoBits) : BitVec 8 := infoBits x 136 8
/-- POINTER (R42). -/
def InfoBits.pointer (x : InfoBits) : BitVec 8 := infoBits x 144 8
/-- PLEAT_BITS (R43). -/
def InfoBits.pleatBits (x : InfoBits) : BitVec 8 := infoBits x 152 8
/-- VALIDITY, slot 0 most significant (R47). -/
def InfoBits.validity (x : InfoBits) : BitVec 256 := infoBits x 352 256
/-- TAG (R36). -/
def InfoBits.tag (x : InfoBits) : BitVec 128 := infoBits x 1024 128
/-- The hem's CRC (R51). -/
def InfoBits.crc (x : InfoBits) : BitVec 32 := infoBits x 51328 32

/-- The additional authenticated data: collar bytes 0 to 19, then 44 to 127 (R54). -/
def InfoBits.aad (x : InfoBits) : BitVec 832 := (infoBits x 0 160 ++ infoBits x 352 672).cast rfl

/-- What GCM encrypts: NEG_PLEAT, the payload, AUX (R54). -/
def InfoBits.body (x : InfoBits) : BitVec 50368 := (infoBits x 160 192 ++ infoBits x 1152 50176).cast rfl

/-- The bytes that CRC covers (R52). -/
def InfoBits.crcBytes (x : InfoBits) : List Byte := bytesOf (infoBits x 0 51328)

/-- NEG_PLEAT, payload and AUX of a decrypted body (R54). -/
def bodyNegPleat (b : BitVec 50368) : BitVec 192 := b.extractLsb' 50176 192
def bodyPayload (b : BitVec 50368) : Payload := b.extractLsb' 1024 49152
def bodyAux (b : BitVec 50368) : BitVec 1024 := b.extractLsb' 0 1024

/-- Slot `s`, or payload position `s` (R58). -/
def slotOf (p : Payload) (s : Nat) : BitVec 192 := p.extractLsb' (49152 - 192 * (s + 1)) 192
/-- Quarter `y` of a port (R58). -/
def quarterOf (p : Payload) (y : Nat) : BitVec 48 := p.extractLsb' (49152 - 48 * (y + 1)) 48
/-- Whether slot `s` is marked valid in a map (R47). -/
def slotValid (m : BitVec 256) (s : Nat) : Bool := m.getLsbD (255 - s)

/-- Append pieces of equal width, the first most significant. -/
def concatNat (w : Nat) : List Nat → Nat → Nat
  | [], acc => acc
  | x :: xs, acc => concatNat w xs (acc * 2 ^ w + x)

/-- A payload from its 256 slots, slot 0 first. -/
def payloadOfSlots (xs : List (BitVec 192)) : Payload :=
  BitVec.ofNat 49152 (concatNat 192 (xs.map BitVec.toNat) 0)

/-- A payload from its 1,024 quarters. -/
def payloadOfQuarters (xs : List (BitVec 48)) : Payload :=
  BitVec.ofNat 49152 (concatNat 48 (xs.map BitVec.toNat) 0)

/-- A validity map from 256 marks, slot 0 first. -/
def mapOfMarks (xs : List Bool) : BitVec 256 := BitVec.ofNat 256 (concatNat 1 (xs.map bit) 0)

/-- The list of slots of a payload. -/
def slotsOf (p : Payload) : List (BitVec 192) := (List.range 256).map (slotOf p)

/-- Codeword `k` of a line frame (R33). -/
def codeword (line : BitVec 54400) (k : Nat) : BitVec 5440 := line.extractLsb' (54400 - 5440 * (k + 1)) 5440

/-- A codeword as decoded; an uncorrectable one passes its message on as received (R68). -/
def decodeCodeword (cw : BitVec 5440) : FecOut :=
  let o := rsDecode cw
  if o.uncorrectable then { o with message := cw.extractLsb' 300 5140, corrected := 0 } else o

/-- The ten codewords of a line frame, decoded (R32, R66). -/
def decodeLine (line : BitVec 54400) : List FecOut := (List.range 10).map (fun k => decodeCodeword (codeword line k))

/-- The information bits that decoded codewords carry (R33). -/
def infoOf (cws : List FecOut) : InfoBits :=
  BitVec.ofNat 51400 (concatNat 5140 (cws.map (fun o => o.message.toNat)) 0)

/-- The line bits of scrambled information bits: each message with its parity (R33, R34). -/
def encodeLine (x : InfoBits) : BitVec 54400 :=
  BitVec.ofNat 54400 (concatNat 5440 ((List.range 10).map (fun k =>
    let m : BitVec 5140 := infoBits x (5140 * k) 5140
    m.toNat * 2 ^ 300 + (rsParity m).toNat)) 0)

/-- How many of the `n` low bits are 1. -/
def popCount {w : Nat} (x : BitVec w) : Nat → Nat
  | 0 => 0
  | n + 1 => bit (x.getLsbD n) + popCount x n

/-- Whether the 64 bits are the alignment word exactly, or with no more than 3 bit errors (R71). -/
def fawExact (line : BitVec 54400) : Bool := line.extractLsb' 54336 64 == faw
def fawHit (line : BitVec 54400) : Bool := popCount (line.extractLsb' 54336 64 ^^^ faw) 64 ≤ 3

/-- FRAME_NUMBER of undecoded line bits, unmasked with the fixed keystream (R72). -/
def rawNumber (line : BitVec 54400) : BitVec 64 := line.extractLsb' 54272 64 ^^^ BitVec.ofNat 64 (keystream 64)

/-- The pleat decision of R75: by the counts of increment and decrement bits. -/
inductive Pleat where
  | normal | increment | decrement
  deriving DecidableEq, Repr, Inhabited

/-- The majority decision of R75. -/
def pleatVote (bits : BitVec 8) : Pleat :=
  let inc := popCount (bits.extractLsb' 4 4) 4
  let dec := popCount (bits.extractLsb' 0 4) 4
  if 3 ≤ inc ∧ dec ≤ 1 then .increment else if inc ≤ 1 ∧ 3 ≤ dec then .decrement else .normal

end Sys2Proof.Machine
end

