-- ==== Sys2Proof/Machine/EmberMath.lean ====
section
/-! DEFINITION. The arithmetic of the Ember engines: samples and powers (R59, R179), saturating moments (R180), exact
quotients, binary32 words, margins (R186 to R188) and the tinder values (R183). -/
namespace Sys2Proof.Machine

/-- Bits of a component and whether samples are complex (R59); none for opaque. -/
def formatShape (f : Fin 7) : Option (Nat × Bool) :=
  match f.val with
  | 1 => some (8, true) | 2 => some (4, true) | 3 => some (16, true) | 4 => some (16, false)
  | 5 => some (8, false) | 6 => some (12, true) | _ => none

/-- The largest power of a format (R179). -/
def maxPower (f : Fin 7) : Nat :=
  match formatShape f with
  | some (w, true) => 2 ^ (2 * w - 1)
  | some (w, false) => 2 ^ (2 * w - 2)
  | none => 1

/-- g of R187: 1 for complex formats, 2 for real ones. -/
def realFactor (f : Fin 7) : Nat := match formatShape f with | some (_, false) => 2 | _ => 1

/-- The components of a run of bits, bit 0 first (R59). -/
def components {n : Nat} (w : Nat) (d : BitVec n) : List Int :=
  (List.range (n / w)).map (fun i => (d.extractLsb' (n - w * (i + 1)) w).toInt)

/-- A component is clipped at either end of its range (R179). -/
def clippedAt (w : Nat) (x : Int) : Bool := x == -(2 ^ (w - 1) : Int) || x == (2 ^ (w - 1) : Int) - 1

/-- Powers of complex samples with their clip marks (R179). -/
def complexPowers (w : Nat) : List Int → List (Nat × Bool)
  | i :: q :: rest => ((i * i + q * q).toNat, clippedAt w i || clippedAt w q) :: complexPowers w rest
  | _ => []

/-- The powers of the samples in a run of bits of a format (R179). -/
def powersOf {n : Nat} (f : Fin 7) (d : BitVec n) : List (Nat × Bool) :=
  match formatShape f with
  | none => []
  | some (w, true) => complexPowers w (components w d)
  | some (w, false) => (components w d).map (fun x => ((x * x).toNat, clippedAt w x))

/-- Accumulators at 0. -/
def Moments.zero : Moments :=
  { sumP := 0, sumP2 := 0, maxP := 0, clip := 0, used := 0, samples := 0, satP := false, satP2 := false, satClip := false }

/-- One sample (R180): an accumulator that would exceed its width holds its largest value. -/
def Moments.sample (shift : Nat) (x : Nat × Bool) (m : Moments) : Moments :=
  let p := x.1 / 2 ^ shift
  let a := m.sumP + p
  let b := m.sumP2 + p * p
  let c := m.clip + (if x.2 then 1 else 0)
  { m with
    sumP := min a (2 ^ 48 - 1), satP := m.satP || decide (2 ^ 48 ≤ a)
    sumP2 := min b (2 ^ 64 - 1), satP2 := m.satP2 || decide (2 ^ 64 ≤ b)
    clip := min c (2 ^ 16 - 1), satClip := m.satClip || decide (2 ^ 16 ≤ c)
    maxP := max m.maxP x.1, samples := m.samples + 1 }

/-- One frame of a unit (R180). -/
def Moments.frame (shift : Nat) (xs : List (Nat × Bool)) (m : Moments) : Moments :=
  let m := xs.foldl (fun m x => m.sample shift x) m
  { m with used := m.used + 1 }

/-- Sums over a report interval (R201). -/
def Moments.add (a b : Moments) : Moments :=
  { sumP := a.sumP + b.sumP, sumP2 := min (a.sumP2 + b.sumP2) (2 ^ 64 - 1), maxP := max a.maxP b.maxP
    clip := min (a.clip + b.clip) (2 ^ 32 - 1), used := a.used + b.used, samples := a.samples + b.samples
    satP := a.satP || b.satP, satP2 := a.satP2 || b.satP2, satClip := a.satClip || b.satClip }

/-- The value of a positive finite binary32 word (R186). -/
def floatValue (v : BitVec 32) : Rat :=
  let e : Nat := v.toNat / 2 ^ 23 % 256
  let f : Nat := v.toNat % 2 ^ 23
  if e = 0 then (f : Rat) / (2 ^ 149 : Nat)
  else if 150 ≤ e then (((2 ^ 23 + f) * 2 ^ (e - 150) : Nat) : Rat)
  else ((2 ^ 23 + f : Nat) : Rat) / (2 ^ (150 - e) : Nat)

/-- The exponent of the power of two at or below `num / den`, both positive. -/
def floorLog2 (num den : Nat) : Int :=
  let e : Int := (Nat.log2 num : Int) - (Nat.log2 den : Int)
  let holds := if 0 ≤ e then decide (2 ^ e.toNat * den ≤ num) else decide (den ≤ num * 2 ^ (-e).toNat)
  if holds then e else e - 1

/-- The binary32 word of a quotient: exact where it can be, else one of the two neighbours (R202; log 8). -/
def floatWord (x : Rat) : BitVec 32 :=
  let num := x.num.natAbs
  if num = 0 then 0
  else
    let e := max (floorLog2 num x.den) (-126)
    let shift := 23 - e
    let top := if 0 ≤ shift then num * 2 ^ shift.toNat else num
    let bottom := if 0 ≤ shift then x.den else x.den * 2 ^ (-shift).toNat
    let mant := top / bottom
    let mant := if top % bottom = 0 then mant else if Config.roundsUp x.num x.den then mant + 1 else mant
    let bits := (e + 126).toNat * 2 ^ 23 + mant
    BitVec.ofNat 32 (if x.num < 0 then 2 ^ 31 + bits else bits)

/-- Whether 100^k ≤ y for a positive quotient y. -/
def reaches100 (num den : Nat) (k : Int) : Bool :=
  if 0 ≤ k then decide (100 ^ k.toNat * den ≤ num) else decide (den ≤ num * 100 ^ (-k).toNat)

/-- The largest k of a range with 100^k ≤ y, by halving. -/
def search100 (num den : Nat) : Nat → Int → Int
  | 0, k => k
  | n + 1, k => search100 num den n (if reaches100 num den (k + 2 ^ n) then k + 2 ^ n else k)

/-- The margin of a firing (R188): round(1,000 × log₁₀(v ÷ t)) within a signed 16-bit word; half of the logarithm of
10 (v ÷ t)^2000 to base 10, rounded down. -/
def margin (v t : Rat) : Int :=
  if v ≤ 0 then -32768
  else
    let x := v / t
    search100 (10 * x.num.natAbs ^ 2000) (x.den ^ 2000) 16 (-32768)

/-- Mean shifted power (R187). -/
def Moments.mean (m : Moments) : Rat := (m.sumP : Rat) / (m.samples : Rat)

/-- Spectral kurtosis (R187), when it has a value. -/
def Moments.kurtosis (g : Nat) (m : Moments) : Option Rat :=
  if m.samples < 2 ∨ m.sumP = 0 then none
  else
    let n : Rat := m.samples
    some ((n + 1) / (n - 1) * (n * m.sumP2 / ((m.sumP : Rat) * m.sumP) - 1) / g)

/-- The four values of a tinder entry and its frame count (R183, R203). -/
def tinderEntry (f : Fin 7) (m : Moments) : List Byte :=
  let n := m.samples
  if n = 0 then zeros 8 ++ leBytes 2 0 ++ zeros 2
  else
    let pm := maxPower f
    leBytes 2 (65535 * m.sumP / (n * pm)) ++ leBytes 2 (65535 * m.sumP2 / (n * pm * pm))
      ++ leBytes 2 (65535 * m.maxP / pm) ++ leBytes 2 (min m.clip 65535) ++ leBytes 2 m.used ++ zeros 2

/-- The 16 bytes of a spark (R191). -/
def Spark.bytes (x : Spark) : List Byte :=
  leBytes 8 x.frame.toNat ++ leBytes 2 x.port.val
    ++ leBytes 2 (x.unit.val + (if x.slotLevel then 32768 else 0)) ++ [x.tag] ++ leBytes 1 x.mask.toNat
    ++ leSigned 2 x.margin

end Sys2Proof.Machine
end

