-- ==== Sys2Proof/Machine/Cache.lean ====
section
/-! DEFINITION. The shared L2 and the data caches of the four cores: the lines of management SRAM that the cores hold, their
states, and the order of requests (R439 to R441). A line that no core holds is not listed: the value last written back stands
in the memory. -/
namespace Sys2Proof.Machine

/-- The core that a fabric master is, in the order of R440; none for those that come through the L2 snoop port (R439). -/
def masterCore : FabricMaster → Option (Fin 4)
  | .managementA => some 0 | .managementB => some 1 | .solver0 => some 2 | .solver1 => some 3
  | .securityCore | .hostDma | .debugPort | .captureDma => none

/-- The rank of a master among requests of one cycle: the cores in their order, then the snoop port (R440). -/
def masterRank (m : FabricMaster) : Nat := match masterCore m with | some c => c.val | none => 4

/-- The 64-byte line of an address (R439). -/
def lineOf (addr : Nat) : Nat := addr / 64

/-- A line of which no core holds modified data. -/
def clean : Vector (Option Byte) 64 := Vector.replicate 64 none

/-- The line that some core holds. -/
def State.cacheLine (s : State) (n : Nat) : Option CacheLine := s.mgmt.lines.find? (fun x => x.line == n)

/-- A line takes a new state in the caches; without a holder it leaves them. -/
def State.setLine (x : CacheLine) (s : State) : State :=
  let rest := s.mgmt.lines.filter (fun y => y.line != x.line)
  { s with mgmt := { s.mgmt with lines := if x.holders.isEmpty then rest else x :: rest } }

/-- A line's modified data is written back; a word written whole is good again (R440, R514). -/
def State.writeBack (n : Nat) (s : State) : State :=
  match s.cacheLine n with
  | some x =>
    let whole (w : Nat) : Bool := w / 8 == n && (List.range 8).all (fun i => ((x.dirty[8 * (w % 8) + i]?).getD none).isSome)
    let s := s.setLine { x with dirty := clean, state := if x.state == .modified then .exclusive else x.state }
    { s with fabric := { s.fabric with
        cells := (List.finRange 64).foldl (fun m i => match x.dirty[i] with
          | some b => memSet ramDefault m (64 * n + i.val) b
          | none => m) s.fabric.cells
        badWords := s.fabric.badWords.filter (fun w => !whole w) } }
  | none => s

/-- A data cache takes in a line that it does not hold; it may write back and drop any other line that it holds, for want of
room (free value). -/
def State.makeRoom (core : Fin 4) (n : Nat) (s : State) : State :=
  let out := s.mgmt.lines.filter (fun x => x.line != n && x.holders.contains core && Config.evicts s.fresh x.line)
  let one (s : State) (x : CacheLine) : State :=
    let s := s.writeBack x.line
    match s.cacheLine x.line with
    | some y => s.setLine { y with holders := y.holders.filter (fun c => c != core) }
    | none => s
  out.foldl one { s with fresh := s.fresh + 1 }

/-- A core takes a line for reading: modified data is written back and the line is shared; alone it is exclusive (R439). -/
def State.shareLine (core : Fin 4) (n : Nat) (s : State) : State :=
  match s.cacheLine n with
  | some x =>
    if x.holders.contains core then s
    else ((s.makeRoom core n).writeBack n).setLine { line := n, holders := core :: x.holders, state := .shared, dirty := clean }
  | none => (s.makeRoom core n).setLine { line := n, holders := [core], state := .exclusive, dirty := clean }

/-- A core takes ownership of a line: another's modified data is written back first, and every other copy is invalidated
(R439, R440). -/
def State.ownLine (core : Fin 4) (n : Nat) (s : State) : State :=
  match s.cacheLine n with
  | some x =>
    if x.holders == [core] then s.setLine { x with state := .modified }
    else ((s.makeRoom core n).writeBack n).setLine { line := n, holders := [core], state := .modified, dirty := clean }
  | none => (s.makeRoom core n).setLine { line := n, holders := [core], state := .modified, dirty := clean }

/-- An access through the snoop port: modified data is written back, and a write invalidates the line (R439). -/
def State.snoopLine (write : Bool) (n : Nat) (s : State) : State :=
  match s.cacheLine n with
  | some x =>
    let s := s.writeBack n
    if write then s.setLine { x with holders := [], dirty := clean }
    else s.setLine { x with state := .shared, dirty := clean }
  | none => s

/-- A byte of management SRAM as every core and the snoop port read it: modified data where a core has some (R439). -/
def State.sramByte (s : State) (a : Nat) : Byte :=
  let stored := memGet ramDefault s.fabric.cells a
  match s.cacheLine (lineOf a) with
  | some x => (x.dirty[a % 64]'(Nat.mod_lt _ (by decide))).getD stored
  | none => stored

/-- A core writes bytes of a line that it owns: they stand in its data cache (R439). -/
def State.writeLine (addr : Nat) (bs : List Byte) (s : State) : State :=
  match s.cacheLine (lineOf addr) with
  | some x => s.setLine { x with dirty := bs.zipIdx.foldl (fun d b => d.setIfInBounds ((addr + b.2) % 64) (some b.1)) x.dirty }
  | none => s

/-- The lines after a core has failed or been reset: its copies are invalid and its modified data is gone (R441). -/
def loseLines (core : Fin 4) (xs : List CacheLine) : List CacheLine :=
  xs.filterMap (fun x =>
    if !x.holders.contains core then some x
    else
      let rest := x.holders.filter (fun c => c != core)
      if rest.isEmpty then none else some { x with holders := rest, dirty := clean })

/-- A core has failed or been reset: the L2 invalidates its lines (R441). -/
def State.loseCore (core : Fin 4) (s : State) : State := { s with mgmt := { s.mgmt with lines := loseLines core s.mgmt.lines } }

end Sys2Proof.Machine
end

