-- ==== Sys2Proof/Machine/Ports.lean ====
section
/-! DEFINITION. Operations on one line port: its record, its defects, its states and settings (chapter 3). -/
namespace Sys2Proof.Machine

/-- A port. -/
def State.port (s : State) (p : PortNo) : Port := s.ports[p]

/-- Change one port. -/
def State.setPort (p : PortNo) (f : Port → Port) (s : State) : State :=
  { s with ports := s.ports.set p (f s.ports[p]) }

/-- The event source of a port (R470). -/
def portSource (p : PortNo) : Nat := p.val / 8

/-- The bit of a defect in DEFECTS (R348). -/
def Defect.index : Defect → Nat
  | .los => 0 | .lof => 1 | .lop => 2 | .auth => 3 | .tim => 4 | .role => 5 | .sd => 6 | .uls => 7

/-- Whether a defect stands. -/
def Port.has (q : Port) (d : Defect) : Bool := q.defects.getLsbD d.index

/-- Write a defect bit. -/
def Port.putDefect (d : Defect) (on : Bool) (q : Port) : Port :=
  { q with defects := if on then setBit q.defects d.index else clearBit q.defects d.index }

/-- Declare or clear a defect, with an event at each change (R83). -/
def State.setDefect (p : PortNo) (d : Defect) (on : Bool) (s : State) : State :=
  ((s.setPort p (Port.putDefect d on)).raiseFlag ((s.port p).has d) on (portSource p) (d.index + 1) p.val)

/-- The code of a port state (R348). -/
def PortMode.code : PortMode → Nat
  | .down => 0 | .training => 1 | .tinder => 2 | .up => 3 | .stopped => 4

/-- Move a port to a state, with an event at a change (R91, R473). -/
def State.setPortMode (p : PortNo) (m : PortMode) (s : State) : State :=
  let old := (s.port p).mode
  let now := s.clock.tick
  (s.setPort p (fun q => { q with mode := m, entered := now, trainEvent := false })).raiseState
    old.code m.code (portSource p) 11 p.val

/-- The receive counters in the order of R69 and R349. -/
inductive PortCounter where
  | correctedSymbols | correctedCodewords | uncorrectable | tagFailures | crcFailures | increments | decrements
  | violations | jumps | slips | rei | reiTag
  deriving DecidableEq, Repr

def PortCounter.index : PortCounter → Fin 12
  | .correctedSymbols => 0 | .correctedCodewords => 1 | .uncorrectable => 2 | .tagFailures => 3 | .crcFailures => 4
  | .increments => 5 | .decrements => 6 | .violations => 7 | .jumps => 8 | .slips => 9 | .rei => 10 | .reiTag => 11

/-- Add to a 48-bit receive counter, which wraps (R69). -/
def Port.count (c : PortCounter) (n : Nat) (q : Port) : Port :=
  { q with counters := q.counters.set c.index (q.counters[c.index] + BitVec.ofNat 48 n) }

/-- The link security at a port's enable: slot 0 holds K0, slot 1 is empty, KID 0 (R457). K0 is one fixed key, so the numbers
that it has sent already stay with it (R38). -/
def LinkState.enable (l : LinkState) : LinkState :=
  { l.erase with
    rxSlots := (Vector.replicate 2 none).set 0 (some bootstrapKey)
    txSlots := (Vector.replicate 2 none).set 0 (some { bootstrapKey with highest := l.bootHighest }) }

/-- The key in force of a direction's slots. -/
def LinkState.txKey (l : LinkState) : Option LinkKey := l.txSlots[l.txKid]
def LinkState.rxKey (l : LinkState) : Option LinkKey := l.rxSlots[l.rxKid]

/-- Whether a slot holds a session key, one whose SESSION is not 0 (R456). -/
def isSessionKey (k : Option LinkKey) : Bool :=
  match k with
  | none => false
  | some k => k.session != 0

/-- A port is keyed once both directions use a session key (R457). -/
def LinkState.keyed (l : LinkState) : Bool := isSessionKey l.txKey && isSessionKey l.rxKey

/-- The settings that a port has with its staged changes applied (R96 step 4). -/
def PortSettings.apply (x : StagedSettings) (t : PortSettings) : PortSettings :=
  { version := x.version.getD t.version, role := x.role.getD t.role, window := x.window.getD t.window
    txPreset := x.txPreset.getD t.txPreset, rxAdapt := x.rxAdapt.getD t.rxAdapt
    inFormats := x.inFormats.getD t.inFormats, outFormats := x.outFormats.getD t.outFormats
    inBundles := x.inBundles.getD t.inBundles, outBundles := x.outBundles.getD t.outBundles }

/-- The settings that will be in force after an enable or restart. -/
def Port.nextSettings (q : Port) : PortSettings := q.settings.apply q.staged

/-- Whether the receiver runs: in every state but DOWN (R90). -/
def Port.receiving (q : Port) : Bool := q.mode != .down

/-- TIM and ROLE checks are suspended in STOPPED, until the port resumes (R90, R96). -/
def Port.checksRun (q : Port) : Bool := q.mode != .stopped || q.resuming

/-- Held under a trail-trace or role mismatch (R64, R84). -/
def Port.held (q : Port) : Bool := q.has .tim || q.has .role

/-- The port's input slots are in service (R64, R90). -/
def Port.inService (q : Port) : Bool := q.mode == .up && !q.held

/-- Clear the receive path: alignment is to be found anew. -/
def Port.restartReceive (q : Port) : Port :=
  { q with aligner := .hunt, confirms := 0, misses := 0, candidates := [], pointer := .fresh, part := none
           buffer := [], trace := .fresh, protRx := .fresh, failRun := 0, passRun := 0, roleRun := 0 }

/-- The port sends idle or stopped frames, whose envelope is empty (R90, R93). -/
def Port.sendsPlain (q : Port) : Bool :=
  match q.mode with
  | .up => false
  | .stopped => !q.resuming
  | _ => true

/-- Payload positions of an envelope lag in 50 ps units: 39.0625 units each (R80). -/
def lagPositions (lag : Nat) : Nat := lag * 16 / 625

/-- Clear the transmit path. -/
def Port.restartTransmit (q : Port) : Port :=
  { q with tx := { q.tx with last := none, pointer := 0, sinceAdjust := 4, lag := 0, rei := [], tail := [] } }

/-- A port goes DOWN: receiver and transmitter off, key slots erased, staged set dropped (R90, R96, R457). -/
def State.portDown (p : PortNo) (s : State) : State :=
  let s : State := match (s.port p).link.rekey with
    | some c => s.complete c .errState 0 []
    | none => s
  let s := s.setPortMode p .down
  let s := s.setPort p (fun q =>
    { q.restartReceive.restartTransmit with
      staged := .none, resuming := false, link := q.link.erase, fastTrain := false, authHeld := false })
  -- a receiver that is off detects nothing: the defects that it had clear with their events
  [Defect.los, .lof, .lop, .auth, .tim, .role, .sd, .uls].foldl (fun s d => s.setDefect p d false) s

/-- A port is enabled into TRAINING: the staged set is in force, K0 in slot 0, alignment and trace acceptance start, and
LOF stands until SYNC is reached (R83, R91, R457). -/
def State.portEnable (p : PortNo) (fast : Bool) (s : State) : State :=
  let s := s.setPort p (fun q =>
    { q.restartReceive with
      settings := q.nextSettings, staged := .none, resuming := false, fastTrain := fast, slip := 0, sinceSlip := 0
      link := q.link.enable })
  (s.setPortMode p .training).setDefect p .lof true

/-- A STOPPED port is restarted into TRAINING (R96 step 5): the staged set is in force and trace acceptance starts afresh (R88);
the receiver has run on, so its alignment and its keys stand (R71, R90, R457). -/
def State.portRetrain (p : PortNo) (fast : Bool) (s : State) : State :=
  let s := s.setPort p (fun q =>
    { q with settings := q.nextSettings, staged := .none, resuming := false, fastTrain := fast, trace := .fresh })
  s.setPortMode p .training

/-- The conditions of R92 that are not met, as a mask in the order of R92. -/
def Port.unmet (q : Port) : Nat :=
  packBits [q.aligner != .sync, q.has .lop, !q.link.keyed || q.has .auth, q.has .role,
            q.trace.accepted.isNone || q.has .tim]

/-- Drop the aligner to HUNT: LOF stands, LOP clears, pointer processing stops (R71, R78, R83). -/
def State.loseAlignment (p : PortNo) (s : State) : State :=
  let s := s.setPort p (fun q =>
    { q with aligner := .hunt, confirms := 0, misses := 0, candidates := [], pointer := .fresh, part := none })
  (s.setDefect p .lof true).setDefect p .lop false

/-- The identifier of a trace message: bytes 2 to 35 (R49). -/
def traceIdentifier (m : List Byte) : List Byte := (m.drop 2).take 34

/-- The trace message that carries an identifier (R48). -/
def traceMessage (ident : List Byte) : List Byte :=
  let body := (1 : Byte) :: 0 :: padTo 34 ident ++ zeros 24
  body ++ bytesOf (crc32 body)

/-- Compare the accepted message with the declared partner (R88, R89). -/
def State.judgeTrace (p : PortNo) (s : State) : State :=
  let q := s.port p
  match q.trace.accepted with
  | none => s
  | some m => if q.checksRun then s.setDefect p .tim (traceIdentifier m != q.partner) else s

/-- The start of acceptance at the aligner's entry into SYNC (R88): the accepted message stays in force (R87). -/
def State.startTrace (p : PortNo) (s : State) : State :=
  s.setPort p (fun q => { q with trace := { q.trace with parts := [], spoiled := false, since := 0, found := false } })

end Sys2Proof.Machine
end

