-- ==== Sys2Proof/Machine/Protection.lean ====
section
/-! DEFINITION. Protection switching (chapter 6): conditions, requests and their priority, the selection, the protect
channel, and the expiries of hold-off, wait-to-restore and protocol failure. -/
namespace Sys2Proof.Machine

/-- The request codes of R158. -/
def ProtRequest.code : ProtRequest → Nat
  | .lo => 15 | .sfP => 14 | .fs => 13 | .sfW => 11 | .sdP => 9 | .sdW => 8 | .ms => 6 | .wtr => 5 | .rr => 2 | .dnr => 1 | .nr => 0

/-- The request that a code names; the other codes are reserved. -/
def ProtRequest.ofCode : Nat → Option ProtRequest
  | 15 => some .lo | 14 => some .sfP | 13 => some .fs | 11 => some .sfW | 9 => some .sdP | 8 => some .sdW
  | 6 => some .ms | 5 => some .wtr | 2 => some .rr | 1 => some .dnr | 0 => some .nr | _ => none

/-- Whether a request selects protect for its member (R158). -/
def ProtRequest.selects : ProtRequest → Bool
  | .fs | .sfW | .sdW | .ms | .wtr | .dnr => true
  | _ => false

/-- A unit with no request, selecting working. -/
def ProtUnit.idle : ProtUnit :=
  { lo := false, fs := none, ms := none, sf := Vector.replicate 16 none, sd := Vector.replicate 16 none
    hold := Vector.replicate 16 0, wtr := none, dnr := none, request := .nr, member := 0, selected := 0, bridged := 0
    notHitless := false, protFail := false, far := none, unanswered := 0, failing := 0, switches := 0, reverts := 0
    rescues := 0, marked := 0, markUntil := none, markMember := 0 }

/-- The default settings of R153 for a pair (R155). -/
def ProtSettings.defaults : ProtSettings :=
  { revertive := false, holdOff := 0, wtr := 5, sdCrit := true, threshold := 256 }

/-- The port of a member: 0 is the protect port (R152). -/
def ProtGroup.memberPort (g : ProtGroup) (k : Nat) : PortNo := if k = 0 then g.protect else (g.working[k - 1]?).getD g.protect

/-- Signal fail of a port as a group member, but for invalid slots (R156). -/
def Port.signalFail (q : Port) : Bool := (q.defects &&& 0x3F) != 0 || q.mode != .up

/-- What the conditions of a unit's members are now: SF and SD by member (R156). -/
structure Conditions where
  sf : Nat → Bool
  sd : Nat → Bool

/-- Follow the conditions: a new one takes the hold-off in force (R153, R157). -/
def ProtUnit.observe (c : Conditions) (members holdTicks now : Nat) (u : ProtUnit) : ProtUnit :=
  { u with
    sf := u.sf.mapFinIdx (fun i old _ => if i < members && c.sf i then (if old.isSome then old else some now) else none)
    sd := u.sd.mapFinIdx (fun i old _ =>
      if i < members && c.sd i && !c.sf i then (if old.isSome then old else some now) else none)
    hold := u.hold.mapFinIdx (fun i old _ =>
      let sf := (u.sf[i]?).getD none
      let sd := (u.sd[i]?).getD none
      let arises := (c.sf i && sf.isNone) || (c.sd i && !c.sf i && sd.isNone)
      if arises || (sf.isNone && sd.isNone) then holdTicks else old) }

/-- Whether a condition has lasted for the whole hold-off (R157). -/
def ripe (t : Option Nat) (hold now : Nat) : Bool :=
  match t with
  | some t => t + hold ≤ now
  | none => false

def ProtUnit.sfReq (now : Nat) (u : ProtUnit) (k : Nat) : Bool := ripe ((u.sf[k]?).getD none) ((u.hold[k]?).getD 0) now
def ProtUnit.sdReq (now : Nat) (u : ProtUnit) (k : Nat) : Bool := ripe ((u.sd[k]?).getD none) ((u.hold[k]?).getD 0) now

/-- Among several members, the one that already holds protect, else the lowest (R159). -/
def ProtUnit.pick (u : ProtUnit) (n : Nat) (f : Nat → Bool) : Option (Fin 16) :=
  if 0 < u.selected.val && f u.selected.val then some u.selected
  else (((List.range n).map (· + 1)).find? f).map (fun k => Fin.ofNat 16 k)

/-- The highest-priority request of this end (R158, R159). -/
def ProtUnit.decide (n now : Nat) (u : ProtUnit) : ProtRequest × Fin 16 :=
  if u.lo then (.lo, 0)
  else if u.sfReq now 0 then (.sfP, 0)
  else match u.fs with
  | some k => (.fs, k)
  | none =>
    match u.pick n (u.sfReq now) with
    | some k => (.sfW, k)
    | none =>
      if u.sdReq now 0 then (.sdP, 0)
      else match u.pick n (u.sdReq now) with
      | some k => (.sdW, k)
      | none =>
        match u.ms with
        | some k => (.ms, k)
        | none =>
          match u.wtr with
          | some (k, _) => (.wtr, k)
          | none => match u.dnr with
            | some k => (.dnr, k)
            | none => (.nr, 0)

/-- Whether a request is of priority 1 to 6, which refuses and drops a manual switch (R160). -/
def ProtRequest.strong : ProtRequest → Bool
  | .lo | .sfP | .fs | .sfW | .sdP | .sdW => true
  | _ => false

/-- Whether SF-W or SD-W of a member was a request before this tick (R161). -/
def ProtUnit.wasRequest (now : Nat) (u : ProtUnit) (k : Nat) : Bool := u.sfReq (now - 1) k || u.sdReq (now - 1) k

/-- After SF-W or SD-W of the member that holds protect clears (`failed`: it was a request before this tick): WTR or
DNR (R161); a new condition ends WTR; an expired WTR gives NR. Answers whether a forced or manual switch was dropped
(R160, R175). -/
def ProtUnit.restore (x : ProtSettings) (failed : Bool) (n now : Nat) (u : ProtUnit) : ProtUnit × Bool :=
  let k := u.selected
  let cond (j : Fin 16) : Bool := u.sfReq now j.val || u.sdReq now j.val
  -- WTR ends when its member fails again, or expires
  let u := match u.wtr with
    | some (j, t) => if cond j || t ≤ now then { u with wtr := none } else u
    | none => u
  let u :=
    if 0 < k.val && failed && !cond k then
      if x.revertive then { u with wtr := some (k, now + 120000000 * x.wtr), dnr := none } else { u with dnr := some k, wtr := none }
    else u
  let (r, _) := u.decide n now
  let forced := u.fs.isSome && u.lo
  let manual := u.ms.isSome && r.strong
  ({ u with fs := if forced then none else u.fs, ms := if manual then none else u.ms }, forced || manual)

/-- A WTR or DNR that a higher request of either end outranks is not remembered (R159). -/
def ProtUnit.forget (r : ProtRequest) (u : ProtUnit) : ProtUnit :=
  { u with wtr := if r = .wtr then u.wtr else none, dnr := if r = .dnr then u.dnr else none }

/-- What this end's request selects (R158). -/
def selectionOf (r : ProtRequest × Fin 16) : Fin 16 := if r.1.selects then r.2 else 0

/-- Fields of an accepted PROT_CH (R169). -/
def farCode (v : BitVec 64) : Nat := (v.extractLsb' 60 4).toNat
def farMember (v : BitVec 64) : Fin 16 := Fin.ofNat 16 (v.extractLsb' 48 8).toNat
def farBridged (v : BitVec 64) : Fin 16 := Fin.ofNat 16 (v.extractLsb' 40 8).toNat
def farSelected (v : BitVec 64) : Fin 16 := Fin.ofNat 16 (v.extractLsb' 32 8).toNat
def farConfig (v : BitVec 64) : BitVec 8 := v.extractLsb' 24 8
def farMemberNo (v : BitVec 64) : Nat := (v.extractLsb' 16 8).toNat
def farTag (v : BitVec 64) : BitVec 16 := v.extractLsb' 0 16

/-- The request of the far end, with its member: any but NR and the reverse request (R158, R169). -/
def farRequest (v : BitVec 64) : Option (ProtRequest × Fin 16) :=
  match ProtRequest.ofCode (farCode v) with
  | some .rr | some .nr | none => none
  | some r => some (r, farMember v)

/-- The far-end request that this end accepts: one that outranks its own, equals it for the same member or, at equal priority, names
a lower one, or meets NR or DNR (R171). -/
def ProtUnit.acceptedFar (loc : ProtRequest × Fin 16) (u : ProtUnit) : Option (ProtRequest × Fin 16) :=
  match farRequest (u.far.getD 0) with
  | some (r, k) =>
    if (r = loc.1 ∧ k ≤ loc.2) ∨ (r ≠ loc.1 ∧ (loc.1.code < r.code ∨ loc.1 = .nr ∨ loc.1 = .dnr)) then some (r, k) else none
  | none => none

/-- A forced or manual switch of this end that loses to a request of the far end is withdrawn (R160, R171); whether one was. -/
def ProtUnit.withdraw (loc : ProtRequest × Fin 16) (u : ProtUnit) : ProtUnit × Bool :=
  match u.acceptedFar loc with
  | some far =>
    if far != loc && (loc.1 == .fs || loc.1 == .ms) then ({ u with fs := none, ms := none }, true)
    else if u.ms.isSome && far.1.strong then ({ u with ms := none }, true)
    else (u, false)
  | none => (u, false)

/-- The two ends of a 1:N group (R171, R172): the request sent, and what this end bridges and selects next. A member is selected only
once the far end bridges it (R167), and protect goes from one member to another through a release with NR. `passed` is how many
frames have gone by since the last evaluation. -/
def ProtUnit.protocol (loc : ProtRequest × Fin 16) (passed : Nat) (u : ProtUnit) : ProtUnit :=
  let far := u.far.getD 0
  let accepted := u.acceptedFar loc
  let k := match accepted with | some r => selectionOf r | none => selectionOf loc
  let u := match accepted with
    | some r => if r = loc then u else u.forget r.1
    | none => u
  let sent : ProtRequest × Fin 16 := if accepted.isSome then (.rr, k) else loc
  if 0 < k.val && (u.bridged = k || u.bridged = 0) then
    let answered := farBridged far == k
    { u with request := sent.1, member := sent.2, bridged := k
             selected := if answered then k else if u.selected = k then k else 0
             unanswered := if accepted.isSome || answered then 0 else u.unanswered + passed }
  else
    -- release: select working, then drop the bridge once the far end shows SELECTED = 0
    { u with request := if 0 < k.val then .nr else sent.1, member := if 0 < k.val then 0 else sent.2
             selected := 0, unanswered := 0, bridged := if farSelected far = 0 then 0 else u.bridged }

/-- CONFIG of R169. -/
def ProtGroup.config (g : ProtGroup) : BitVec 8 :=
  BitVec.ofNat 8 (128 * bit g.oneToN + 64 * bit g.settings.revertive + (if g.oneToN then g.working.length else 1))

/-- The faults of the protect channel at a member's receiver (R170); a 1+1 group ignores REQ (R169). The whole of CONFIG is compared,
its reserved bits [5:4] with it (DESIGN CHOICE, log 63). -/
def ProtGroup.channelFault (g : ProtGroup) (member : Nat) (c : ProtChannel) : Bool :=
  8 ≤ c.waiting ||
  match c.accepted with
  | none => false
  | some v => farTag v != g.tag || farConfig v != g.config || farMemberNo v != member
      || (g.oneToN && (ProtRequest.ofCode (farCode v)).isNone)

/-- The protocol failure of a group (R170): `bad` holds of the members at fault now, `clean` counts their frames in a row that carry
accepted values. A member's failure ends after 64 of them. -/
def ProtUnit.judgeFail (bad : Nat → Bool) (clean : Nat → Nat) (u : ProtUnit) : ProtUnit :=
  let failing := BitVec.ofNat 16 (packBits ((List.range 16).map (fun k => bad k || (u.failing.getLsbD k && !(64 ≤ clean k)))))
  { u with failing := failing, protFail := failing != 0 }

/-- The effect of a change of selection: counters, and the frames marked when the slip offsets differ (R166, R175). -/
def ProtUnit.switched (old : Fin 16) (delta : Nat) (frame : BitVec 64) (u : ProtUnit) : ProtUnit :=
  if u.selected = old then u
  else
    let u := if u.selected = 0 then { u with reverts := u.reverts + 1 } else { u with switches := u.switches + 1 }
    if 0 < delta then
      let last := frame + BitVec.ofNat 64 delta
      { u with markUntil := some (match u.markUntil with | some m => if last < m then m else last | none => last)
               markMember := if u.selected = 0 then old else u.selected }
    else u

/-- One decision of a 1+1 unit, a group or a pair, on the conditions that it holds (R158 to R166). -/
def ProtUnit.decideOnePlusOne (x : ProtSettings) (failed : Bool) (delta now : Nat) (frame : BitVec 64) (u : ProtUnit) :
    ProtUnit × Bool :=
  let old := u.selected
  let (u, dropped) := u.restore x failed 1 now
  let r := u.decide 1 now
  let u := (u.forget r.1)
  let u := { u with request := r.1, member := r.2, selected := selectionOf r, bridged := 1, notHitless := delta != 0 }
  (u.switched old delta frame, dropped)

/-- One decision of a 1:N unit on the conditions that it holds (R158 to R172). -/
def ProtUnit.decideOneToN (x : ProtSettings) (failed : Bool) (n : Nat) (delta : Nat → Nat) (passed now : Nat) (frame : BitVec 64)
    (u : ProtUnit) : ProtUnit × Bool :=
  let old := u.selected
  let (u, dropped) := u.restore x failed n now
  let (u, withdrawn) := if u.protFail then (u, false) else u.withdraw (u.decide n now)
  let r := u.decide n now
  let k := selectionOf r
  let u := u.forget r.1
  let u :=
    if u.protFail then
      { u with request := r.1, member := r.2, selected := 0
               unanswered := if k = 0 || farBridged (u.far.getD 0) == k then 0 else u.unanswered + passed }
    else u.protocol r passed
  let u := { u with notHitless := (List.range n).any (fun i => delta (i + 1) != 0) }
  (u.switched old (delta (if u.selected = 0 then old.val else u.selected.val)) frame, dropped || withdrawn)

/-- One evaluation of a 1+1 unit at a tick (R156 to R166). -/
def ProtUnit.stepOnePlusOne (x : ProtSettings) (c : Conditions) (delta now : Nat) (frame : BitVec 64) (u : ProtUnit) :
    ProtUnit × Bool :=
  let failed := u.wasRequest now u.selected.val
  (u.observe c 2 (2000 * x.holdOff) now).decideOnePlusOne x failed delta now frame

/-- One evaluation of a 1:N unit at a tick (R156 to R172). -/
def ProtUnit.stepOneToN (x : ProtSettings) (c : Conditions) (n : Nat) (delta : Nat → Nat) (now : Nat) (frame : BitVec 64)
    (u : ProtUnit) : ProtUnit × Bool :=
  let failed := u.wasRequest now u.selected.val
  (u.observe c (n + 1) (2000 * x.holdOff) now).decideOneToN x failed n delta 1 now frame

/-- The event source of a group (R175). -/
def groupSource (g : Nat) : Nat := 64 + g / 4

/-- Report a unit's changes through `ev`: selection, a dropped command, NOT_HITLESS, PROT_FAIL (R175, R473). -/
def State.reportUnit (ev : Nat → Action → Nat → Nat → State → State) (old new : ProtUnit) (dropped : Bool) (s : State) : State :=
  let s := if old.selected = new.selected then s else ev 1 .state old.selected.val new.selected.val s
  let s := if dropped then ev 2 .refused 0 0 s else s
  let s := if old.notHitless = new.notHitless then s else ev 3 (if new.notHitless then .set else .clear) 0 0 s
  if old.protFail = new.protFail then s else ev 4 (if new.protFail then .set else .clear) 0 0 s

/-- The slip offsets of the members of a group differ by (R165, R166). -/
def State.groupDelta (s : State) (g : ProtGroup) (k : Nat) : Nat :=
  ((s.port g.protect).slip - (s.port (g.memberPort k)).slip).natAbs

/-- The conditions of a group's members (R156). -/
def State.groupConditions (s : State) (g : ProtGroup) : Conditions :=
  { sf := fun k => let q := s.port (g.memberPort k); q.signalFail || q.invalidCond
    sd := fun k => g.settings.sdCrit && (s.port (g.memberPort k)).has .sd }

/-- Put a group's new unit in place, with the events of what changed (R175). -/
def State.putUnit (i : Fin 256) (g : ProtGroup) (x : ProtUnit × Bool) (s : State) : State :=
  let s := { s with prot := { s.prot with groups := s.prot.groups.set i (some { g with unit := x.1 }) } }
  s.reportUnit (fun item a p1 p2 s => s.raise (groupSource i.val) item a i.val p1 p2) g.unit x.1 x.2

/-- The protocol failure of a group at a tick: a member at fault counts its clean frames anew (R170). -/
def State.judgeChannels (g : ProtGroup) (s : State) : State × ProtUnit :=
  let n := g.working.length
  let bad (k : Nat) : Bool := k ≤ n && (g.channelFault k (s.port (g.memberPort k)).protRx || (k == 0 && decide (100000 ≤ g.unit.unanswered)))
  let u := g.unit.judgeFail bad (fun k => (s.port (g.memberPort k)).protRx.clean)
  ((List.range (n + 1)).foldl (fun (s : State) (k : Nat) =>
    if bad k then s.setPort (g.memberPort k) (fun q => { q with protRx := { q.protRx with clean := 0 } }) else s) s, u)

/-- Evaluate one group at a tick. -/
def State.stepGroup (i : Fin 256) (s : State) : State :=
  match s.prot.groups[i] with
  | none => s
  | some g =>
    let now := s.clock.tick
    let c := s.groupConditions g
    let (s, u) := s.judgeChannels g
    let u := { u with far := (s.port g.protect).protRx.accepted }
    let delta (k : Nat) : Nat := s.groupDelta g k
    s.putUnit i g (if g.oneToN then u.stepOneToN g.settings c g.working.length delta now s.clock.frame
      else u.stepOnePlusOne g.settings c (delta 1) now s.clock.frame)

/-- Decide a group again between ticks on what the last tick observed (R162). -/
def State.decideGroup (i : Fin 256) (f : ProtUnit → ProtUnit) (s : State) : State :=
  match s.prot.groups[i] with
  | none => s
  | some g =>
    let now := s.clock.tick
    let u := f g.unit
    let failed := u.wasRequest now u.selected.val
    let delta (k : Nat) : Nat := s.groupDelta g k
    s.putUnit i g (if g.oneToN then u.decideOneToN g.settings failed g.working.length delta 0 now s.clock.frame
      else u.decideOnePlusOne g.settings failed (delta 1) now s.clock.frame)

/-- The settings of a pair (R155). -/
def State.pairSettingsOf (s : State) (id : BitVec 32) : ProtSettings := assocGet id .defaults s.prot.pairSettings

/-- The plane of a centre position (R97). -/
def planeOf (c : Nat) : Nat := c / 512

/-- The conditions of a pair's members: 0 protect, 1 working (R156). -/
def State.pairConditions (s : State) (x : Connection) : Conditions :=
  let entries := s.map.active.pairs.filter (fun e => e.id == x.id)
  let broken (c : Nat) : Bool := ((s.map.planes[planeOf c]?).map (fun q => q.mode == .fault)).getD false
  let workPos := entries.filterMap (fun e =>
    (s.map.active.egress.find? (fun y => y.1 == 1024 * e.outPort.val + e.outQuarter.val)).map (fun y => y.2.val))
  let src (k : Nat) : PortNo := if k = 0 then (x.protect.getD x.source).port else x.source.port
  let crit := (s.pairSettingsOf x.id).sdCrit
  { sf := fun k => (s.port (src k)).signalFail || (if k = 0 then entries.any (fun e => broken e.alternate.val) else workPos.any broken)
    sd := fun k => crit && (s.port (src k)).has .sd }

/-- Put a pair's new unit in place, with the events of what changed (R175). -/
def State.putPair (x : Connection) (old : ProtUnit) (u : ProtUnit × Bool) (s : State) : State :=
  let s := { s with prot := { s.prot with pairUnits := assocSet x.id u.1 s.prot.pairUnits } }
  s.reportUnit (fun item a p1 p2 s => s.raisePair x.source.port.val item a x.id.toNat p1 p2) old u.1 u.2

/-- The slip offsets of a pair's sources differ by (R165, R166). -/
def State.pairDelta (s : State) (x : Connection) (e : Endpoint) : Nat := ((s.port e.port).slip - (s.port x.source.port).slip).natAbs

/-- Evaluate one pair of the active bank at a tick (R156 to R166). -/
def State.stepPair (x : Connection) (s : State) : State :=
  match x.protect with
  | none => s
  | some e =>
    let u0 := assocGet x.id ProtUnit.idle s.prot.pairUnits
    s.putPair x u0 (u0.stepOnePlusOne (s.pairSettingsOf x.id) (s.pairConditions x) (s.pairDelta x e) s.clock.tick s.clock.frame)

/-- Decide a pair again between ticks on what the last tick observed (R162). -/
def State.decidePair (x : Connection) (s : State) : State :=
  match x.protect with
  | none => s
  | some e =>
    let now := s.clock.tick
    let u0 := assocGet x.id ProtUnit.idle s.prot.pairUnits
    s.putPair x u0 (u0.decideOnePlusOne (s.pairSettingsOf x.id) (u0.wasRequest now u0.selected.val) (s.pairDelta x e) now s.clock.frame)

/-- Protection selections are evaluated at the tick: every group, then every pair of the bank in force (R19, R158). -/
def State.stepProtection (s : State) : State :=
  let s := (List.finRange 256).foldl (fun s i => s.stepGroup i) s
  s.map.active.list.foldl (fun s x => s.stepPair x) s

/-- The unit of a group or pair, when there is one. -/
def State.unitOf (s : State) (t : ProtTarget) : Option ProtUnit :=
  match t with
  | .group g => (s.prot.groups[g]).map (fun x => x.unit)
  | .pair id => (s.prot.pairUnits.find? (fun x => x.1 == id)).map (fun x => x.2)

/-- A timer of a group or pair has expired when `due` holds of its unit: it is decided again, on the conditions of the last tick,
changed by `f`; what has not expired stays as it is (R162). -/
def State.stepDue (t : ProtTarget) (due : ProtUnit → Bool) (f : ProtUnit → ProtUnit) (s : State) : State :=
  match s.unitOf t with
  | some u =>
    if due u then
      match t with
      | .group g => s.decideGroup g f
      | .pair id => match s.map.active.list.find? (fun x => x.id == id) with
        | some x => s.decidePair x
        | none => s
    else s
  | none => s

/-- HOLD_OFF_EXPIRY: the condition of a member has lasted for the whole hold-off (R157). -/
def execHoldOffExpiry (t : ProtTarget) (m : Fin 16) (s : State) : Host.Outcome State Fault Refusal :=
  .next (s.settled (s.stepDue t (fun u => u.sfReq s.clock.tick m.val || u.sdReq s.clock.tick m.val) id))

/-- WTR_EXPIRY: the wait-to-restore of a member ends (R161). -/
def execWtrExpiry (t : ProtTarget) (s : State) : Host.Outcome State Fault Refusal :=
  .next (s.settled (s.stepDue t (fun u => match u.wtr with | some (_, e) => e ≤ s.clock.tick | none => false) id))

/-- PROT_FAIL_TIMEOUT: a request has had no matching BRIDGED for 100,000 frames (R170). -/
def execProtFailTimeout (g : Fin 256) (s : State) : Host.Outcome State Fault Refusal :=
  .next (s.settled (s.stepDue (.group g) (fun u => 100000 ≤ u.unanswered)
    (fun u => { u with failing := u.failing ||| 1, protFail := true })))

/-- The PROT_CH that a port sends (R169). -/
def State.protChannel (s : State) (p : PortNo) : BitVec 64 :=
  match s.prot.groups.toList.find? (fun g =>
    match g with | some g => g.protect == p || g.working.contains p | none => false) with
  | some (some g) =>
    let u := g.unit
    let k := if g.protect == p then 0 else g.working.idxOf p + 1
    let head : Nat :=
      if k = 0 then ((u.request.code * 16) * 2 ^ 24) + u.member.val * 2 ^ 16 + u.bridged.val * 256 + u.selected.val else 0
    BitVec.ofNat 64 (head * 2 ^ 32 + g.config.toNat * 2 ^ 24 + k * 2 ^ 16 + g.tag.toNat)
  | _ => 0

end Sys2Proof.Machine
end

