-- ==== Sys2Proof/Machine/Fabric.lean ====
section
/-! DEFINITION. The centre pass (chapter 4): the bank's lookups, the path of a quarter, protection feeds and rescues,
the pattern check, and the output frame that the pass assembles (R64, R65, R98 to R120, R164). -/
namespace Sys2Proof.Machine

/-- A word that arrives where a pattern is due: its time position and output port (R109). -/
structure PatternArrival where
  time : Fin 512
  port : PortNo
  word : BitVec 48
  deriving DecidableEq, Repr, Inhabited

end Sys2Proof.Machine

namespace Sys2Proof.Config
open Sys2Proof.Machine

/-- The words that a failing plane delivers in place of patterns, by tick, frame of the pass and plane: every other entry delivers
its pattern (R109). Free value: the hardware's failures. -/
opaque patternArrivals : Nat → BitVec 64 → Fin 4 → List PatternArrival
/-- The errors that SECDED meets in the entries of the active bank that a pass reads, by tick and frame of the pass (R99). Free
value: the hardware's failures. -/
opaque entryErrors : Nat → BitVec 64 → List BankError

end Sys2Proof.Config

namespace Sys2Proof.Machine

/-- The value of a key in a sparse table. -/
def lookup {ν : Type} (k : Nat) : List (Nat × ν) → Option ν
  | [] => none
  | (k', v) :: xs => if k' = k then some v else lookup k xs

/-- The entries of R99: none where nothing is listed. -/
def Bank.ingressAt (b : Bank) (p c : Nat) : Option (Fin 1024) := lookup (2048 * p + c) b.ingress
def Bank.planeAt (b : Bank) (k t j : Nat) : Option PortNo := lookup (262144 * k + 512 * t + j) b.plane
def Bank.egressAt (b : Bank) (q y : Nat) : Option (Fin 2048) := lookup (1024 * q + y) b.egress
def Bank.auxAt (b : Bank) (q : Nat) : Option PortNo := lookup q b.aux

/-- The pair entry of an output quarter (R139). -/
def Bank.pairAt (b : Bank) (q : PortNo) (y : Nat) : Option PairEntry :=
  b.pairs.find? (fun e => e.outPort == q && e.outQuarter.val == y)

/-- The source that a centre position reaches for output port `q`: port and quarter (R100). -/
def Bank.pathOf (b : Bank) (q c : Nat) : Option (PortNo × Fin 1024) :=
  match b.planeAt (c / 512) (c % 512) q with
  | none => none
  | some p => (b.ingressAt p.val c).map (fun x => (p, x))

/-- LOS, LOF, LOP or AUTH stands: every input frame of the port is absent or unauthenticated (R84). -/
def Port.blocked (q : Port) : Bool := q.has .los || q.has .lof || q.has .lop || q.has .auth

/-- Input frame `n` of a port, when it is in the alignment buffer and no defect makes it absent (R64, R79, R84). -/
def Port.inputFrame (q : Port) (n : BitVec 64) : Option Envelope :=
  if q.blocked then none else q.buffer.find? (fun e => e.number == n)

/-- Whether a member's frame is present, authentic in all its slots and in service (R64, R79, R164). -/
def State.frameGood (s : State) (p : PortNo) (n : BitVec 64) : Bool :=
  (s.port p).inService && match (s.port p).inputFrame n with | some e => !e.tagFailed && e.unauth == 0 | none => false

/-- The group whose working member a port is, with its member number. -/
def State.workingGroup (s : State) (p : PortNo) : Option (Nat × ProtGroup) :=
  match s.prot.groups.toList.find? (fun g => match g with | some g => g.working.contains p | none => false) with
  | some (some g) => some (g.working.idxOf p + 1, g)
  | _ => none

/-- Whether a 1+1 group rescues frame `n` from its other member (R164, R166). -/
def State.groupRescues (s : State) (g : ProtGroup) (n : BitVec 64) : Bool :=
  let sel := if g.unit.selected = 0 then g.memberPort 1 else g.protect
  let other := if g.unit.selected = 0 then g.protect else g.memberPort 1
  !g.oneToN && !g.unit.notHitless && !s.frameGood sel n && s.frameGood other n

/-- The port whose alignment buffer feeds input port `p` in frame `n` (R146, R164, R174). -/
def State.feedOf (s : State) (p : PortNo) (n : BitVec 64) : PortNo :=
  match s.workingGroup p with
  | none => p
  | some (k, g) =>
    let protectSelected := g.unit.selected.val == k
    let rescued := s.groupRescues g n
    if protectSelected != rescued then g.protect else p

/-- Frame `n` of a port's group is marked under R166. -/
def State.feedMarked (s : State) (p : PortNo) (n : BitVec 64) : Bool :=
  match s.workingGroup p with
  | none => false
  | some (k, g) => match g.unit.markUntil with | some m => n ≤ m && g.unit.markMember.val == k | none => false

/-- A quarter as delivered: data, or none where a cause of R64 affects its source. -/
def State.readQuarter (s : State) (p : PortNo) (x : Fin 1024) (n : BitVec 64) : Option (BitVec 48) :=
  let q := s.port p
  let slot := x.val / 4
  if !q.inService then none
  else
    match q.inputFrame n with
    | none => none
    | some e =>
      if e.tagFailed || slotValid e.unauth slot || !slotValid e.validity slot then none
      else some (quarterOf e.payload x.val)

/-- Quarters of plane `k` at output port `j` count as absent in this pass: the plane carries no traffic, or its patterns mismatch
there (R106, R109, R110, R137). -/
def State.planeAbsent (s : State) (k : Nat) (j : PortNo) : Bool :=
  ((s.map.planes[k]?).map (fun q => q.mode != .on && q.mode != .draining)).getD true
    || s.map.absentNow.any (fun x => x.1.val == k && (x.2 == none || x.2 == some j))

/-- The quarter that a centre position delivers at output port `q` in frame `n` (R64, R65, R100). -/
def State.deliverAt (s : State) (b : Bank) (q : PortNo) (c : Nat) (n : BitVec 64) : Option (BitVec 48) :=
  match b.pathOf q.val c with
  | none => none
  | some (p, x) =>
    if s.feedMarked p n then none
    else
      match s.readQuarter (s.feedOf p n) x n with
      | none => none
      | some d => if s.planeAbsent (planeOf c) q then none else some d

/-- Whether plane `k` carried traffic at the start of this pass: it does now, or it entered FAULT in this pass (R110, R164). -/
def State.planeCarried (s : State) (k : Nat) : Bool :=
  ((s.map.planes[k]?).map (fun q => q.mode == .on || q.mode == .draining)).getD false
    || s.map.absentNow.any (fun x => x.1.val == k && x.2 == none)

/-- Whether the source slot of a centre position is good for the rescue test of a pair, at the start of the pass (R164): the slot of
the port that feeds it (R174), over a plane that carries traffic (R110). -/
def State.sourceGood (s : State) (b : Bank) (q : PortNo) (c : Nat) (n : BitVec 64) : Bool :=
  match b.pathOf q.val c with
  | none => false
  | some (p, x) => s.planeCarried (planeOf c) && !s.feedMarked p n && (s.readQuarter (s.feedOf p n) x n).isSome

/-- The centre position that output quarter (q, y) is read from in frame `n`: its egress entry, or a pair's
ALT_POSITION when protect is selected or rescues the frame (R145, R164). -/
def State.positionOf (s : State) (b : Bank) (q : PortNo) (y : Nat) (n : BitVec 64) : Option Nat :=
  match b.egressAt q.val y with
  | none => none
  | some c =>
    match b.pairAt q y with
    | none => some c.val
    | some e =>
      let u := assocGet e.id ProtUnit.idle s.prot.pairUnits
      let sel := if u.selected = 0 then c.val else e.alternate.val
      let other := if u.selected = 0 then e.alternate.val else c.val
      if !u.notHitless && !s.sourceGood b q sel n && s.sourceGood b q other n then some other else some sel

/-- A pair's frame is marked under R166. -/
def State.pairMarked (s : State) (b : Bank) (q : PortNo) (y : Nat) (n : BitVec 64) : Bool :=
  match b.pairAt q y with
  | none => false
  | some e =>
    match (assocGet e.id ProtUnit.idle s.prot.pairUnits).markUntil with
    | some m => n ≤ m
    | none => false

/-- Output quarter (q, y) of frame `n`: unfed, fed with data, or fed and affected by a cause of R64. -/
inductive OutQuarter where
  | unfed | good (d : BitVec 48) | bad
  deriving DecidableEq, Repr

def State.outQuarter (s : State) (b : Bank) (q : PortNo) (y : Nat) (n : BitVec 64) : OutQuarter :=
  match s.positionOf b q y n with
  | none => .unfed
  | some c =>
    if s.pairMarked b q y n then .bad
    else match s.deliverAt b q c n with
    | none => .bad
    | some d => .good d

/-- Whether an output slot is valid: some quarter is fed and no fed quarter is affected (R64). -/
def slotGood (qs : List OutQuarter) : Bool := qs.any (· != .unfed) && qs.all (· != .bad)

/-- The data of an output quarter; unfed or affected ones carry 00h (R65). -/
def OutQuarter.data : OutQuarter → BitVec 48
  | .good d => d
  | _ => 0

/-- The ports that feed output port `q` in frame `n`. -/
def State.feedsOf (s : State) (b : Bank) (q : PortNo) (n : BitVec 64) : List PortNo :=
  (List.range 1024).filterMap (fun y =>
    match s.positionOf b q y n with
    | none => none
    | some c => (b.pathOf q.val c).map (fun x => s.feedOf x.1 n))

/-- AUX of output port `q` in frame `n` (R51, R119, R120). -/
def State.outAux (s : State) (b : Bank) (q : PortNo) (n : BitVec 64) : BitVec 1024 :=
  match b.auxAt q.val with
  | none => 0
  | some p =>
    let f := s.feedOf p n
    if !(s.port f).inService then 0
    else match (s.port f).inputFrame n with
    | some e => if e.tagFailed then 0 else e.aux
    | none => 0

/-- The four quarters of output slot `slot`. -/
def slotQuarters (f : Nat → OutQuarter) (slot : Nat) : List OutQuarter := [f (4 * slot), f (4 * slot + 1), f (4 * slot + 2), f (4 * slot + 3)]

/-- Output frame `n` of port `q`; a frame whose number has been sent before a backward step is wholly invalid
(R25, R302). -/
def State.assemblePort (s : State) (b : Bank) (q : PortNo) (n : BitVec 64) : OutputFrame :=
  if n ≤ s.casc.rejoinInvalid then { payload := 0, validity := 0, aux := s.outAux b q n, feeds := [] }
  else
    let quarters := (List.range 1024).map (fun y => s.outQuarter b q y n)
    let at_ (y : Nat) : OutQuarter := (quarters[y]?).getD .unfed
    { payload := payloadOfQuarters (quarters.map OutQuarter.data)
      validity := mapOfMarks ((List.range 256).map (fun i => slotGood (slotQuarters at_ i)))
      aux := s.outAux b q n
      feeds := (s.feedsOf b q n).eraseDups }

/-- The pattern of plane `k`, time position `t` and output port `j` in the pass of frame `n` (R109). -/
def patternWord (k : Fin 4) (t : Fin 512) (j : PortNo) (n : BitVec 64) : BitVec 48 :=
  BitVec.ofNat 2 k.val ++ BitVec.ofNat 9 t.val ++ BitVec.ofNat 9 j.val ++ n.setWidth 28

/-- The output ports at which patterns of plane `k` mismatch in the pass of frame `n`, one for each mismatch: in TESTING every
entry carries the pattern, otherwise each entry that names the pattern source (R106, R109). -/
def State.mismatches (s : State) (k : Fin 4) (n : BitVec 64) : List PortNo :=
  let mode := s.map.planes[k].mode
  let now := s.clock.tick
  ((Config.patternArrivals now n k).filter (fun x =>
    (mode == .testing || (s.map.active.planeAt k.val x.time.val x.port.val).isNone)
      && x.word != patternWord k x.time x.port n)).map (·.port)

/-- The code of a plane state (R354). -/
def PlaneMode.code : PlaneMode → Nat
  | .on => 0 | .draining => 1 | .off => 2 | .testing => 3 | .fault => 4

/-- Change one plane. -/
def State.setPlane (k : Fin 4) (f : Plane → Plane) (s : State) : State :=
  { s with map := { s.map with planes := s.map.planes.set k (f s.map.planes[k]) } }

/-- A plane's state, with the event of a change (R473). -/
def State.setPlaneMode (k : Fin 4) (m : PlaneMode) (s : State) : State :=
  let old := s.map.planes[k].mode
  (s.setPlane k (fun q => { q with mode := m, passes := 0 })).raiseState old.code m.code (360 + k.val) 1 k.val

/-- The PLANE_SETs that wait for this plane end (R356). -/
def State.answerPlane (k : Fin 4) (st : Status) (s : State) : State :=
  let code := s.map.planes[k].mode.code
  let commands := s.map.planes[k].commands
  let s := s.setPlane k (fun q => { q with commands := [] })
  commands.foldl (fun (s : State) (c : CommandRef) => s.complete c st 0 [BitVec.ofNat 8 code]) s

/-- The planes that are ON. -/
def State.planesOn (s : State) : List (Fin 4) := (List.finRange 4).filter (fun k => s.map.planes[k].mode == .on)

/-- `m` mismatches at one port: counted, with an event at the first and then at most once a second (R109, R473). -/
def State.countMismatch (k : Fin 4) (j : PortNo) (m : Nat) (s : State) : State :=
  let now := s.clock.tick
  match s.map.mismatches.find? (fun x => x.1 == (k, j)) with
  | none =>
    ({ s with map := { s.map with mismatches := ((k, j), m, 0, now) :: s.map.mismatches } }).raise
      (360 + k.val) 2 .occurrence k.val j.val m
  | some (_, total, since, last) =>
    let due := last + 2000000 ≤ now
    let upd (x : (Fin 4 × PortNo) × Nat × Nat × Nat) := (x.1, total + m, if due then 0 else since + m, if due then now else last)
    let s := { s with map := { s.map with mismatches := updateFirst (fun x => x.1 == (k, j)) upd s.map.mismatches } }
    s.raiseIf due (360 + k.val) 2 .occurrence k.val j.val (since + m)

/-- The device starts a re-route of its own, in full service: it takes the shadow bank in MIRROR, discards a READY bank with an
event, and ends a BUILDING job with PLANE; otherwise the re-route waits (R108, R111, R133, R136). -/
def State.startReroute (s : State) : State :=
  let s := { s with map := { s.map with rerouteWanted := true } }
  if s.host.service != 2 then s
  else match s.map.shadowMode with
  | .ready => ({ s with map := { s.map with shadowMode := .held } }).raise 364 1 .occurrence oneUnit 0 0
  | .building =>
    let s := match s.map.job with
      | some j => s.completeJob j.command .errUnusable 0x0F (leBytes 8 j.base.toNat ++ [0x0F])
      | none => s
    { s with map := { s.map with job := none, shadowMode := .held } }
  | .mirror => { s with map := { s.map with shadowMode := .held } }
  | _ => s

/-- A plane enters FAULT (R109, R111): the device re-routes, and a request on that waits for the plane ends (R356). -/
def State.planeFault (k : Fin 4) (s : State) : State :=
  let tested := s.map.planes[k].mode == .testing
  let s := s.setPlaneMode k .fault
  (if tested then s.answerPlane k .errUnusable else s).startReroute

/-- The pattern check of the pass of frame `n` over one plane (R107, R109). -/
def State.checkPlane (n : BitVec 64) (s : State) (k : Fin 4) : State :=
  match s.map.planes[k].mode with
  | .off | .fault => s
  | mode =>
    let wrong := s.mismatches k n
    let faults (s : State) : State :=
      let s := s.planeFault k
      { s with map := { s.map with absentNow := (k, none) :: s.map.absentNow } }
    if s.map.badPlanes.contains k then faults s
    else match wrong.eraseDups with
    | [] => if mode == .testing then s.setPlane k (fun q => { q with passes := q.passes + 1 }) else s
    | [j] =>
      let s := (s.countMismatch k j wrong.length).setPlane k (fun q => { q with passes := 0 })
      { s with map := { s.map with absentNow := (k, some j) :: s.map.absentNow } }
    | _ => faults s

/-- One error in a bank's entries, found by a pass or by the scrub: corrected and counted, or a plane's fault (R99, R109). -/
def State.bankError (x : BankError) (s : State) : State :=
  if x.correctable then
    let s := { s with map := { s.map with corrected := s.map.corrected + 1 } }
    match x.plane with
    | some k => (s.tally 2 k.val 3 1).raise (360 + k.val) 3 .occurrence k.val 0 0
    | none => s
  else
    match x.plane with
    | some k => if x.active then { s with map := { s.map with badPlanes := k :: s.map.badPlanes } } else s
    | none => s

/-- The errors that SECDED finds in the entries that the pass of frame `n` reads (R99). -/
def State.readErrors (n : BitVec 64) (s : State) : State :=
  let now := s.clock.tick
  (Config.entryErrors now n).foldl (fun (s : State) (x : BankError) => s.bankError { x with active := true }) s

/-- Output frame `n` is counted when it is marked under R166 (R175). -/
def ProtUnit.countMarked (n : BitVec 64) (u : ProtUnit) : ProtUnit :=
  match u.markUntil with
  | some m => if n ≤ m then { u with marked := u.marked + 1 } else { u with markUntil := none }
  | none => u

/-- The marked frames of every group and pair are counted (R166, R175). -/
def State.countMarked (n : BitVec 64) (s : State) : State :=
  { s with prot := { s.prot with
    groups := s.prot.groups.map (fun g => g.map (fun g => { g with unit := g.unit.countMarked n }))
    pairUnits := s.prot.pairUnits.map (fun x => (x.1, x.2.countMarked n)) } }

/-- The rescues of a frame are counted (R164, R175). -/
def State.countRescues (n : BitVec 64) (s : State) : State :=
  let groups := s.prot.groups.map (fun g =>
    match g with
    | some g =>
      if s.groupRescues g n then
        some { g with unit := { g.unit with rescues := g.unit.rescues + 1 } }
      else some g
    | none => none)
  let b := s.map.active
  let rescued (id : BitVec 32) : Bool := b.pairs.any (fun e => e.id == id &&
    match b.egressAt e.outPort.val e.outQuarter.val with
    | some c =>
      let u := assocGet id ProtUnit.idle s.prot.pairUnits
      let sel := if u.selected = 0 then c.val else e.alternate.val
      s.positionOf b e.outPort e.outQuarter.val n != some sel
    | none => false)
  let pairs := s.prot.pairUnits.map (fun x => if rescued x.1 then (x.1, { x.2 with rescues := x.2.rescues + 1 }) else x)
  { s with prot := { s.prot with groups := groups, pairUnits := pairs } }

/-- The centre pass of output frame `n` (R98, R101): the errors in the entries read, the pattern check of every plane,
then every port's frame. -/
def State.centrePass (n : BitVec 64) (s : State) : State :=
  let s := ({ s with map := { s.map with absentNow := [] } }).readErrors n
  let s := (List.finRange 4).foldl (State.checkPlane n) s
  let b := s.map.active
  let outs := Vector.ofFn (fun q : PortNo => s.assemblePort b q n)
  let s' := (s.countRescues n).countMarked n
  { s' with ports := Vector.ofFn (fun q : PortNo => { s'.ports[q] with out := some outs[q] }) }

end Sys2Proof.Machine
end

