-- ==== Sys2Proof/Machine/CascadeOps.lean ====
section
/-! DEFINITION. Cascade messages and cascade swaps (R287 to R294). -/
namespace Sys2Proof.Machine

/-- Message types of R287. -/
def msgJoin : Byte := 1
def msgAdmit : Byte := 2
def msgReady : Byte := 3
def msgVeto : Byte := 4
def msgPrepare : Byte := 5
def msgCommit : Byte := 6
def msgAbort : Byte := 7
def msgComplete : Byte := 8
def msgSwapReq : Byte := 9
def msgHandover : Byte := 10

/-- Whether the device is JOINED as master (R279). -/
def State.isMaster (s : State) : Bool := s.casc.mode == .joined && s.casc.role == .master

/-- This device's member index. -/
def State.ownIndex (s : State) : Fin 64 := (s.casc.declaration.map (·.ownIndex)).getD 0

/-- Swap lead time L: 8 ticks alone, and by the cascade version otherwise (R141, R289). -/
def State.swapLead (s : State) : Nat :=
  if s.casc.mode == .standalone then 8 else if s.casc.version ≤ 1 then 64 else 16

/-- The order in which queued messages leave: COMMIT, ABORT, PREPARE, the rest (R288). -/
def messageRank (t : Byte) : Nat :=
  if t = msgCommit then 0 else if t = msgAbort then 1 else if t = msgPrepare then 2 else 3

/-- Queue a message on a link for 2 frames, behind those that go out before it (R288). -/
def enqueueMessage (m : CascMessage) (q : List QueuedMessage) : List QueuedMessage :=
  let first := q.takeWhile (fun x => messageRank x.message.msgType ≤ messageRank m.msgType)
  first ++ [QueuedMessage.mk m 2] ++ q.drop first.length

/-- Send a message on every seam link but one (R288). -/
def State.relay (m : CascMessage) (except : Option PortNo) (s : State) : State :=
  { s with casc := { s.casc with seams := s.casc.seams.map (fun x =>
      if some x.port = except then x else { x with queue := enqueueMessage m x.queue }) } }

/-- Whether a message is a copy of one seen. Messages with identifier 0 recur, so that one counts as a copy only within
128 frames, more than the relays of R288 take over 32 hops (DESIGN CHOICE, log 28). -/
def State.isCopy (s : State) (origin : Fin 64) (type : Byte) (id : BitVec 32) : Bool :=
  s.casc.seen.any (fun x => x.origin == origin && x.type == type && x.id == id
    && (id != 0 || decide (s.clock.tick ≤ x.tick + 128)))

/-- Note a message as seen. -/
def State.noteSeen (origin : Fin 64) (type : Byte) (id : BitVec 32) (s : State) : State :=
  let now := s.clock.tick
  let rest := s.casc.seen.filter (fun x => !(x.origin == origin && x.type == type && x.id == id))
  { s with casc := { s.casc with seen := ⟨origin, type, id, now⟩ :: rest } }

/-- Originate a message (R287, R288). -/
def State.originate (type : Byte) (id : BitVec 32) (arg : Nat) (s : State) : State :=
  let role : BitVec 2 := match s.casc.mode, s.casc.role with
    | .joining, _ => 3 | _, .master => 2 | _, .standby => 1 | _, .slave => 0
  let m : CascMessage :=
    { senderRole := role, sender := s.ownIndex, msgType := type, origin := s.ownIndex, msgId := id, arg := BitVec.ofNat 48 arg }
  (s.noteSeen s.ownIndex type id).relay m none

/-- A frame rebuilt from 48 bits: the first at or after `now` with those low bits (R287). -/
def rebuildFrame (now : BitVec 64) (arg : BitVec 48) : BitVec 64 :=
  let delta := (arg - now.setWidth 48).setWidth 64
  now + delta

/-- The master records READY of a participant (R292). -/
def State.noteReady (m : Fin 64) (x : BitVec 32) (s : State) : State :=
  match s.casc.swap with
  | some w =>
    if w.id = x && w.phase == .prepare && w.participants.contains m && !w.ready.contains m then
      { s with casc := { s.casc with swap := some { w with ready := m :: w.ready } } }
    else s
  | none => s

/-- The master records a VETO of a participant (R292). -/
def State.noteVeto (m : Fin 64) (x reason : BitVec 32) (s : State) : State :=
  match s.casc.swap with
  | some w =>
    if w.id = x && w.phase == .prepare && w.participants.contains m then
      ({ s with casc := { s.casc with swap := some { w with veto := w.veto ++ [(m, reason)] } } }).raise
        267 2 .occurrence m.val reason.toNat x.toNat
    else s
  | none => s

/-- The answer of this device to PREPARE(X): 0 for READY, else the reason of its VETO (R292). -/
def State.prepareAnswer (s : State) (x : BitVec 32) : Nat :=
  match s.casc.mode with
  | .flywheel => 3
  | .joined =>
    match s.casc.staged with
    | some g => if g.id = x then 0 else 2
    | none => 1
  | _ => 4

/-- Answer PREPARE(X) once: to the master in CASC_CH, or at once when this device is the master (R292). -/
def State.answerPrepare (x : BitVec 32) (s : State) : State :=
  if s.casc.answered = x then s
  else
    let a := s.prepareAnswer x
    let s := { s with casc := { s.casc with answered := x } }
    if s.isMaster then
      if a = 0 then s.noteReady s.ownIndex x else s.noteVeto s.ownIndex x (BitVec.ofNat 32 a)
    else if a = 0 then s.originate msgReady x 0 else s.originate msgVeto x a

/-- A participant holds COMMIT(X) for F: its swap is fixed (R293). -/
def State.holdCommit (x : BitVec 32) (frame : BitVec 64) (s : State) : State :=
  match s.casc.staged with
  | some g =>
    if g.id = x && g.frame.isNone && !g.aborted then
      { s with
        casc := { s.casc with staged := some { g with frame := some frame } }
        map := { s.map with swap := some { frame := frame, persist := g.persist, command := g.command, latched := false } } }
    else s
  | none => s

/-- A staged bank returns to READY, or the device's own re-route waits again; the swap command of the device ends with
ERR_STATE (R291, R293, R352). -/
def State.unstage (item : Nat) (s : State) : State :=
  match s.casc.staged with
  | some g =>
    let mode := if s.map.shadowMode == .scheduled then ShadowMode.ready else s.map.shadowMode
    let s := { s with casc := { s.casc with staged := none }, map := { s.map with swap := none, shadowMode := mode } }
    let s := s.raise 267 item .occurrence oneUnit g.id.toNat 0
    match g.command with
    | some c => s.complete c .errState 0 (zeros 8 ++ leBytes 8 s.map.active.generation.toNat)
    | none => s
  | none => s

/-- A participant holds ABORT(X) (R292, R293). -/
def State.holdAbort (x : BitVec 32) (s : State) : State :=
  match s.casc.staged with
  | some g => if g.id = x && g.frame.isNone then s.unstage 4 else s
  | none => s

/-- Bind the shadow bank to X with its frame open (R291). -/
def State.stageBank (x : BitVec 32) (persist : Bool) (c : Option CommandRef) (s : State) : State :=
  { s with
    casc := { s.casc with staged := some { id := x, frame := none, aborted := false, persist := persist, command := c } }
    map := { s.map with shadowMode := if s.map.shadowMode == .ready then .scheduled else s.map.shadowMode } }

/-- A cascade swap opens at the master; it sends PREPARE and answers at once (R291, R292). -/
def State.openSwap (x : BitVec 32) (participants : List (Fin 64)) (named : Option (BitVec 64)) (persist : Bool)
    (c : Option CommandRef) (s : State) : State :=
  let w : CascadeSwap :=
    { id := x, participants := participants, named := named, phase := .prepare, started := s.clock.tick, ready := [], veto := []
      frame := 0, complete := [], durable := [], persist := persist, abortLeft := 0, command := c }
  let s := { s with casc := { s.casc with swap := some w } }
  let s := s.raise 267 1 .occurrence oneUnit x.toNat 0
  (s.originate msgPrepare x 0).answerPrepare x

/-- A swap of this device's own bank while JOINED: a cascade swap with this member alone (R290). SWAP_REQ carries no
frame, so the master fixes the earliest (R287). -/
def State.requestSwap (named : Option (BitVec 64)) (persist : Bool) (c : Option CommandRef) (s : State) : State :=
  let x := s.casc.nextSwapId
  let s := { s with casc := { s.casc with nextSwapId := if x = 0xFFFFFFFF then 1 else x + 1 } }
  let s := s.stageBank x persist c
  if s.isMaster then s.openSwap x [s.ownIndex] named persist none else s.originate msgSwapReq x 0

/-- The master commits: every participant is READY (R292). -/
def State.commitSwap (w : CascadeSwap) (frame : BitVec 64) (s : State) : State :=
  let s := { s with casc := { s.casc with swap := some { w with phase := .committed, frame := frame } } }
  let s := s.raise 267 3 .occurrence oneUnit w.id.toNat (frame.toNat % 4294967296)
  (s.originate msgCommit w.id (frame.toNat % 281474976710656)).holdCommit w.id frame

/-- A mask of member indices. -/
def memberMask (xs : List (Fin 64)) : Nat := (xs.eraseDups.map (fun m => 2 ^ m.val)).sum

/-- The master aborts: ABORT for 64 ticks; the command names the vetoing or silent members (R292). -/
def State.abortSwap (w : CascadeSwap) (st : Status) (s : State) : State :=
  let s := { s with casc := { s.casc with swap := some { w with phase := .aborting, abortLeft := 64 } } }
  let s := s.raise 267 4 .occurrence oneUnit w.id.toNat 0
  let s := (s.originate msgAbort w.id 0).holdAbort w.id
  let named := if w.veto.isEmpty then w.participants.filter (fun m => !w.ready.contains m) else w.veto.map (·.1)
  match w.command with
  | some c => s.complete c st 0 (leBytes 8 (memberMask named) ++ leBytes 8 0)
  | none => s

/-- The master's decision at a tick (R292), and the end of its ABORT words. -/
def State.decideSwap (s : State) : State :=
  match s.casc.swap with
  | none => s
  | some w =>
    match w.phase with
    | .prepare =>
      if !w.veto.isEmpty then s.abortSwap w .errState
      else if w.participants.all (fun m => w.ready.contains m) then
        let now := s.clock.frame
        let lead := BitVec.ofNat 64 s.swapLead
        match w.named with
        | none => s.commitSwap w (now + lead)
        | some f => if (now + lead) ≤ f then s.commitSwap w f else s.abortSwap w .errRange
      else s
    | .aborting =>
      if w.abortLeft ≤ 1 then { s with casc := { s.casc with swap := none } }
      else { s with casc := { s.casc with swap := some { w with abortLeft := w.abortLeft - 1 } } }
    | _ => s

/-- The master closes a cascade swap that every participant has completed: OK, F and the mask of members that
confirmed (R294). -/
def State.closeSwap (s : State) : State :=
  match s.casc.swap with
  | some w =>
    if (w.phase == .committed || w.phase == .closing) && w.participants.all (fun m => w.complete.contains m) then
      let generation := if w.participants.contains s.ownIndex then s.map.active.generation.toNat else 0
      let s := match w.command with
        | some c => s.complete c .ok 0 (leBytes 8 w.frame.toNat ++ leBytes 8 generation)
        | none => s
      let waits := match w.command with
        | some c => if w.persist && w.participants.all (fun m => m == s.ownIndex) then [(c, s.map.active.generation)] else []
        | none => []
      { s with casc := { s.casc with swap := none }, map := { s.map with persistWaits := s.map.persistWaits ++ waits } }
    else s
  | none => s

/-- COMPLETE of a participant reaches the master (R294). -/
def State.noteComplete (m : Fin 64) (x : BitVec 32) (s : State) : State :=
  match s.casc.swap with
  | some w =>
    if w.id = x && w.participants.contains m && !w.complete.contains m then
      ({ s with casc := { s.casc with swap := some { w with complete := m :: w.complete } } }).closeSwap
    else s
  | none => s

end Sys2Proof.Machine
end

