-- ==== Sys2Proof/Machine/MapList.lean ====
section
/-! DEFINITION. Connection lists: reading one, the checks of R129, the expansion of connections into paths, and
writing a list back (R121 to R129, R150, R61, R63). -/
namespace Sys2Proof.Machine

/-- A record of a connection list as it stands in the buffer (R126). -/
structure RawRecord where
  index   : Nat
  off     : Nat
  id      : Nat
  op      : Nat
  kind    : Nat
  source  : Nat
  protect : Nat
  dests   : List Nat
  /-- The first field that is out of range, relative to the record (R129 row 01h, but for undeclared bundles). -/
  bad     : Option Nat
  deriving DecidableEq, Repr, Inhabited

/-- PROTECT_SOURCE for none (R126). -/
def noEndpoint : Nat := 0xFFFFFFFF

/-- The highest UNIT of a kind (R127). -/
def unitLimit : Nat → Nat
  | 0 => 1023 | 1 => 255 | 2 => 255 | _ => 0

/-- Whether an endpoint's reserved bits are 0 and its UNIT lies in the kind's range (R127). -/
def endpointOk (kind e : Nat) : Bool :=
  e / 67108864 == 0 && e / 512 % 128 == 0 && e / 65536 % 1024 ≤ unitLimit kind

/-- The endpoint that 32 bits name (R127). -/
def endpointOf (e : Nat) : Endpoint := ⟨Fin.ofNat 512 e, Fin.ofNat 1024 (e / 65536)⟩
/-- The 32 bits of an endpoint (R127). -/
def Endpoint.word (e : Endpoint) : Nat := e.unit.val * 65536 + e.port.val

/-- `n` destination endpoints from an offset. -/
def readWords (bs : List Byte) : Nat → Nat → List Nat
  | 0, _ => []
  | n + 1, off => field bs off 4 :: readWords bs n (off + 4)

/-- The first destination that is no endpoint of the kind. -/
def badDest (kind : Nat) : List Nat → Nat → Option Nat
  | [], _ => none
  | d :: ds, off => if endpointOk kind d then badDest kind ds (off + 4) else some off

/-- Bytes of a record with `n` destinations (R126). -/
def recordSize (n : Nat) : Nat := 16 + 8 * ((n + 1) / 2)

/-- Whether an identifier may stand in an ADD, and in a REMOVE (R123). -/
def hostId (id : Nat) : Bool := 1 ≤ id && id ≤ 0x7FFFFFFF
def removeId (id : Nat) : Bool := hostId id || (0x80000000 ≤ id && id ≤ 0x800801FF)

/-- Read one record and judge its fields (R126, R129 row 01h). -/
def readRecord (full : Bool) (bs : List Byte) (index off : Nat) : RawRecord :=
  let id := field bs off 4
  let op := byteAt bs (off + 4)
  let kind := byteAt bs (off + 5)
  let n := field bs (off + 6) 2
  let source := field bs (off + 8) 4
  let protect := field bs (off + 12) 4
  let dests := readWords bs n (off + 16)
  let pad := off + 16 + 4 * n
  let bad :=
    if op = 1 && !full then
      firstBad' [(!removeId id, 0), (kind != 0, 5), (n != 0, 6), (source != 0, 8), (protect != 0, 12)]
    else
      match firstBad' [(!hostId id, 0), (op != 0, 4), (decide (3 < kind), 5), (n == 0 || decide (4096 < n), 6),
          (!endpointOk kind source, 8), (protect != noEndpoint && !endpointOk kind protect, 12)] with
      | some o => some o
      | none =>
        match badDest kind dests 16 with
        | some o => some o
        | none => if n % 2 = 1 && !isZero bs pad 4 then some (16 + 4 * n) else none
  { index := index, off := off, id := id, op := op, kind := kind, source := source, protect := protect
    dests := dests, bad := bad }
where
  /-- The offset of the first check that fails. -/
  firstBad' : List (Bool × Nat) → Option Nat
    | [] => none
    | (b, o) :: rest => if b then some o else firstBad' rest

/-- The records that lie within `limit` bytes, and the offset after the last of `n` when all do. -/
def readRecords (full : Bool) (limit : Nat) (bs : List Byte) : Nat → Nat → Nat → List RawRecord × Option Nat
  | 0, _, off => ([], some off)
  | n + 1, index, off =>
    let size := recordSize (field bs (off + 6) 2)
    if limit < off + 16 || limit < off + size then ([], none)
    else
      let (rest, last) := readRecords full limit bs n (index + 1) (off + size)
      (readRecord full bs index off :: rest, last)

/-- The connection that an ADD record states. -/
def RawRecord.connection (r : RawRecord) : Connection :=
  { id := BitVec.ofNat 32 r.id, kind := Fin.ofNat 4 r.kind, source := endpointOf r.source
    protect := if r.protect = noEndpoint then none else some (endpointOf r.protect)
    dests := r.dests.map endpointOf }

/-- The declared bundle that begins at a slot, as its length (R62). -/
def bundleLength (bundles : List (Fin 256 × Nat)) (slot : Nat) : Option Nat :=
  (bundles.find? (fun b => b.1.val == slot)).map (·.2)

/-- The declared format of an input or an output slot (R60). -/
def PortSettings.inFormat (t : PortSettings) (slot : Nat) : Nat := ((t.inFormats[slot]?).map (·.val)).getD 0
def PortSettings.outFormat (t : PortSettings) (slot : Nat) : Nat := ((t.outFormats[slot]?).map (·.val)).getD 0

/-- How the checks of a list see the declarations of the ports (R95, R129): those in force, or staged ones for one
port (R96). -/
abbrev Declared := PortNo → PortSettings

/-- The declarations in force. -/
def State.declared (s : State) : Declared := fun p => (s.port p).settings

/-- The first endpoint of a bundle connection that names no declared bundle, relative to its record (R127;
DEDUCED, log 13: such a unit does not exist). -/
def Connection.undeclared (d : Declared) (x : Connection) : Option Nat :=
  if x.kind != 2 then none
  else if (bundleLength (d x.source.port).inBundles x.source.unit.val).isNone then some 8
  else if (x.protect.map (fun e => (bundleLength (d e.port).inBundles e.unit.val).isNone)).getD false then some 12
  else
    match x.dests.findIdx? (fun e => (bundleLength (d e.port).outBundles e.unit.val).isNone) with
    | some i => some (16 + 4 * i)
    | none => none

/-- One path: input port and quarter, output port and quarter. -/
structure Path where
  inPort     : PortNo
  inQuarter  : Nat
  outPort    : PortNo
  outQuarter : Nat
  deriving DecidableEq, Repr, Inhabited

/-- How many slots a connection moves (R121). -/
def Connection.slots (d : Declared) (x : Connection) : Nat :=
  match x.kind.val with
  | 1 => 1
  | 2 => (bundleLength (d x.source.port).inBundles x.source.unit.val).getD 0
  | _ => 0

/-- The paths from a source of a connection to its destinations (R121, R63). -/
def Connection.pathsFrom (d : Declared) (x : Connection) (src : Endpoint) : List Path :=
  if x.kind = 0 then x.dests.map (fun e => ⟨src.port, src.unit.val, e.port, e.unit.val⟩)
  else
    x.dests.flatMap (fun e => (List.range (4 * x.slots d)).map (fun i =>
      ⟨src.port, 4 * src.unit.val + i, e.port, 4 * e.unit.val + i⟩))

/-- The working paths, and the protect paths of a pair, in the same order. -/
def Connection.paths (d : Declared) (x : Connection) : List Path := x.pathsFrom d x.source
def Connection.protectPaths (d : Declared) (x : Connection) : List Path :=
  match x.protect with
  | some e => x.pathsFrom d e
  | none => []

/-- Agreement of one destination with the source's format (R61, R63). -/
def Connection.agrees (d : Declared) (x : Connection) (e : Endpoint) : Bool :=
  let ins := d x.source.port
  let outs := d e.port
  match x.kind.val with
  | 0 =>
    let f := outs.outFormat (e.unit.val / 4)
    f == 0 || (f == ins.inFormat (x.source.unit.val / 4) && f != 3)
  | 1 =>
    let f := outs.outFormat e.unit.val
    f == 0 || f == ins.inFormat x.source.unit.val
  | 2 =>
    let f := outs.outFormat e.unit.val
    bundleLength outs.outBundles e.unit.val == some (x.slots d) && (f == 0 || f == ins.inFormat x.source.unit.val)
  | _ => true

/-- The input slot of an endpoint of kind quarter or slot. -/
def Connection.slotOf (x : Connection) (e : Endpoint) : Nat := if x.kind = 0 then e.unit.val / 4 else e.unit.val

/-- R61 and R63 for every destination, and one format for a pair's two sources (R129 row 07h). -/
def Connection.formatOk (d : Declared) (x : Connection) : Bool :=
  x.dests.all (fun e => x.agrees d e) &&
  match x.protect with
  | some e => 1 < x.kind.val || (d e.port).inFormat (x.slotOf e) == (d x.source.port).inFormat (x.slotOf x.source)
  | none => true

/-- The ports of a connection's endpoints. -/
def Connection.ports (x : Connection) : List PortNo :=
  x.source.port :: (x.protect.map (fun e => [e.port])).getD [] ++ x.dests.map (·.port)

/-- The protect ports of the port protection groups. -/
def State.protectPorts (s : State) : List PortNo :=
  s.prot.groups.toList.filterMap (fun g => g.map (·.protect))

/-- R129 row 08h: every endpoint's port has a role and is no group's protect port. -/
def Connection.roleOk (d : Declared) (protects : List PortNo) (x : Connection) : Bool :=
  x.ports.all (fun p => (d p).role != .unused && !protects.contains p)

/-- R129 row 09h, R122 but for its counts. -/
def Connection.pairOk (x : Connection) : Bool :=
  match x.protect with
  | some e => x.kind.val ≤ 1 && e.port != x.source.port
  | none => true

/-- A connection of the resulting list, with the record that states it: index and offset. -/
structure Stated where
  conn   : Connection
  record : Option (Nat × Nat)
  deriving DecidableEq, Repr, Inhabited

/-- The output quarters and output AUX channels that a connection feeds (R129 row 06h). -/
def Connection.feeds (d : Declared) (x : Connection) : List (Bool × PortNo × Nat) :=
  if x.kind = 3 then x.dests.map (fun e => (true, e.port, 0))
  else (x.paths d).map (fun t => (false, t.outPort, t.outQuarter))

/-- The connections that feed what an earlier one feeds already. -/
def doubleFed (d : Declared) : List Stated → List (Bool × PortNo × Nat) → List Stated
  | [], _ => []
  | x :: rest, fed =>
    let f := x.conn.feeds d
    (if f.any (fun t => fed.contains t) then [x] else []) ++ doubleFed d rest (f ++ fed)

/-- The records of the failing connections, in increasing order of index (R129). -/
def offendersOf (xs : List Stated) : List (Nat × Nat) :=
  (xs.filterMap (·.record)).mergeSort (fun a b => a.1 ≤ b.1)

/-- A failed row of R129. -/
def mapFailure (st : Status) (reason : Nat) (offenders : List (Nat × Nat)) (detail : Nat) : MapFailure :=
  { status := st, reason := reason, offenders := offenders.map (·.1), detail := detail }

/-- DETAIL of a row that names the CONN_ID of its first offender (R129). -/
def conflictFailure (st : Status) (reason : Nat) (xs : List Stated) : MapFailure :=
  let o := offendersOf xs
  mapFailure st reason o (match o.head? with | some r => detailBuffer r.2 | none => 0)

/-- The pairs at which the counts of R122 are exceeded, taken in the order of the list (R129 row 0Ah; the spec does not say which
records fail it: DESIGN CHOICE, log 14). -/
def pairExcess (d : Declared) : List Stated → Nat → Nat → List Stated
  | [], _, _ => []
  | x :: rest, pairs, quarters =>
    if x.conn.protect.isNone then pairExcess d rest pairs quarters
    else
      let pairs := pairs + 1
      let quarters := quarters + (x.conn.paths d).length
      (if 8192 < pairs || 32768 < quarters then [x] else []) ++ pairExcess d rest pairs quarters

/-- Rows 06h to 0Ah of R129, on the resulting list. Of two connections that feed one output quarter only the later one counts as
an offender (DESIGN CHOICE, log 14). -/
def checkConnections (d : Declared) (protects : List PortNo) (xs : List Stated) : Option MapFailure :=
  let row6 := doubleFed d xs []
  let row7 := xs.filter (fun x => !x.conn.formatOk d)
  let row8 := xs.filter (fun x => !x.conn.roleOk d protects)
  let row9 := xs.filter (fun x => !x.conn.pairOk)
  let row10 := pairExcess d xs 0 0
  if !row6.isEmpty then some (conflictFailure .errConflict 6 row6)
  else if !row7.isEmpty then some (conflictFailure .errConflict 7 row7)
  else if !row8.isEmpty then some (conflictFailure .errConflict 8 row8)
  else if !row9.isEmpty then some (conflictFailure .errConflict 9 row9)
  else if !row10.isEmpty then some (conflictFailure .errResource 10 row10)
  else none

/-- The header checks of row 01h: the first offending offset (R125). -/
def headerBad (bs : List Byte) : Option Nat :=
  let kind := byteAt bs 0
  let n := field bs 4 4
  firstBad [(decide (1 < kind), 0), (decide (1 < byteAt bs 1), 1), (!isZero bs 2 2, 2),
    (decide (1048576 < n) || (kind == 1 && n == 0), 4), (!isZero bs 20 12, 20)]

/-- ADD records that repeat an identifier of an earlier ADD: the later one alone counts as an offender (DESIGN CHOICE, log 14). -/
def repeatedAdds : List RawRecord → List Nat → List RawRecord
  | [], _ => []
  | r :: rest, ids => (if ids.contains r.id then [r] else []) ++ repeatedAdds rest (r.id :: ids)

/-- The checks of R129 on a list, in the order of its rows, and the resulting full list (R128), on the declarations and the protect
ports of the job's start. A header that fails row 01h gives DETAIL; the records that fail it too are the offenders (R598). -/
def State.checkList (s : State) (d : Declared) (protects : List PortNo) (bs : List Byte) : MapCheck :=
  if bs.length < 32 then .bad (mapFailure .errLength 2 [] detailList)
  else
    let full := byteAt bs 0 == 0
    let blen := field bs 16 4
    let (rs, last) := readRecords full (min blen bs.length) bs (field bs 4 4) 0 32
    let inForce := if full then [] else s.map.active.list
    let adds := rs.filter (fun r => r.op == 0)
    let removes := (rs.filter (fun r => r.op == 1)).map (·.id)
    let fieldOf (r : RawRecord) : Option Nat :=
      match r.bad with
      | some o => some o
      | none => if r.op = 0 then r.connection.undeclared d else none
    let row1 := rs.filter (fun r => (fieldOf r).isSome)
    let standing := inForce.filter (fun x => !removes.contains x.id.toNat)
    let row3 := (repeatedAdds adds [] ++ adds.filter (fun r => standing.any (fun x => x.id.toNat == r.id)))
    let row4 := rs.filter (fun r => r.op == 1 && !inForce.any (fun x => x.id.toNat == r.id))
    let named (xs : List RawRecord) : List (Nat × Nat) :=
      ((xs.map (fun r => (r.index, r.off))).eraseDups).mergeSort (fun a b => a.1 ≤ b.1)
    let at0 (xs : List (Nat × Nat)) : Nat := match xs.head? with | some r => detailBuffer r.2 | none => 0
    match headerBad bs, row1 with
    | some o, _ => .bad (mapFailure .errRange 1 (named row1) (detailBuffer o))
    | none, r :: _ =>
      .bad (mapFailure .errRange 1 (named row1) (detailBuffer (r.off + (fieldOf r).getD 0)))
    | none, [] =>
      if bs.length < blen then .bad (mapFailure .errLength 2 [] detailList)
      else if 67108864 < blen || last != some blen then .bad (mapFailure .errLength 2 [] (detailBuffer 16))
      else if !row3.isEmpty then .bad (mapFailure .errConflict 3 (named row3) (at0 (named row3)))
      else if !row4.isEmpty then .bad (mapFailure .errConflict 4 (named row4) (at0 (named row4)))
      else if !full && field bs 8 8 != s.map.active.generation.toNat then
        .bad (mapFailure .errConflict 5 [] (detailBuffer 8))
      else
        let stated := standing.map (fun x => Stated.mk x none)
          ++ adds.map (fun r => Stated.mk r.connection (some (r.index, r.off)))
        match checkConnections d protects stated with
        | some f => .bad f
        | none => .list (stated.map (·.conn)) (full || byteAt bs 1 % 2 == 1) (adds.map (fun r => BitVec.ofNat 32 r.id))

/-- A record of R126 for a connection in force. -/
def Connection.record (x : Connection) : List Byte :=
  leBytes 4 x.id.toNat ++ [0] ++ leBytes 1 x.kind.val ++ leBytes 2 x.dests.length ++ leBytes 4 x.source.word
    ++ leBytes 4 ((x.protect.map (·.word)).getD noEndpoint) ++ x.dests.flatMap (fun e => leBytes 4 e.word)
    ++ zeros (4 * (x.dests.length % 2))

/-- The list in force as a FULL list, in increasing order of CONN_ID (R150). -/
def listBytes (generation : BitVec 64) (xs : List Connection) : List Byte :=
  let recs := (xs.mergeSort (fun a b => a.id.toNat ≤ b.id.toNat)).flatMap Connection.record
  zeros 4 ++ leBytes 4 xs.length ++ leBytes 8 generation.toNat ++ leBytes 4 (32 + recs.length) ++ zeros 12 ++ recs

end Sys2Proof.Machine
end

