-- ==== Sys2Proof/Machine/MapBank.lean ====
section
/-! DEFINITION. Connection-memory banks: building one from a placement, the rules that the solver keeps, raw maps,
derived connections and the byte form of a bank (R100, R103, R104, R112, R123, R130, R138 to R140, R149). -/
namespace Sys2Proof.Config
open Sys2Proof.Machine

/-- The route solver: how it ends its placement of a checked list. It is a function of what R131 names, and the spec fixes of its
answer only what `State.solverAnswer` demands. Free value. -/
opaque solve : SolverQuestion → SolverOutcome

end Sys2Proof.Config

namespace Sys2Proof.Machine

/-- Keys of the tables of a bank. -/
def ingressKey (p : PortNo) (c : Nat) : Nat := 2048 * p.val + c
def planeKey (c : Nat) (q : PortNo) : Nat := 262144 * (c / 512) + 512 * (c % 512) + q.val
def egressKey (q : PortNo) (y : Nat) : Nat := 1024 * q.val + y

/-- A table in increasing order of its keys, each entry once. -/
def tidy {ν : Type} [DecidableEq ν] (xs : List (Nat × ν)) : List (Nat × ν) := (xs.mergeSort (fun a b => a.1 ≤ b.1)).eraseDups

/-- Whether no key has two values. -/
def consistent {ν : Type} [DecidableEq ν] : List (Nat × ν) → Bool
  | [] => true
  | (k, v) :: rest => rest.all (fun x => x.1 != k || decide (x.2 = v)) && consistent rest

/-- One fed output quarter with its path and the position that the solver gave it. -/
structure Fed where
  id        : BitVec 32
  path      : Path
  protect   : Option Path
  position  : Nat
  alternate : Nat
  deriving DecidableEq, Repr, Inhabited

/-- The paths of a list with their positions; none when a fed quarter has no position. -/
def placePaths (d : Declared) (placed : List Placed) (xs : List Connection) : Option (List Fed) :=
  (xs.filter (fun x => x.kind != 3)).foldr (fun x acc =>
    match acc with
    | none => none
    | some done =>
      let ws := x.paths d
      let ps := (x.protectPaths d).map some ++ List.replicate ws.length none
      (ws.zip ps).foldr (fun wp acc =>
        match acc, placed.find? (fun e => e.outPort == wp.1.outPort && e.outQuarter.val == wp.1.outQuarter) with
        | some fs, some e =>
          match wp.2, e.alternate with
          | none, _ => some (Fed.mk x.id wp.1 none e.position.val 0 :: fs)
          | some pp, some a => some (Fed.mk x.id wp.1 (some pp) e.position.val a.val :: fs)
          | some _, none => none
        | _, _ => none) (some done)) (some [])

/-- The tables that positions make (R99, R139). -/
def bankOf (xs : List Connection) (fed : List Fed) : Bank :=
  { ingress := tidy (fed.flatMap (fun f =>
      (ingressKey f.path.inPort f.position, Fin.ofNat 1024 f.path.inQuarter) ::
        (match f.protect with | some t => [(ingressKey t.inPort f.alternate, Fin.ofNat 1024 t.inQuarter)] | none => [])))
    plane := tidy (fed.flatMap (fun f =>
      (planeKey f.position f.path.outPort, f.path.inPort) ::
        (match f.protect with | some t => [(planeKey f.alternate f.path.outPort, t.inPort)] | none => [])))
    egress := tidy (fed.map (fun f => (egressKey f.path.outPort f.path.outQuarter, Fin.ofNat 2048 f.position)))
    aux := tidy ((xs.filter (fun x => x.kind = 3)).flatMap (fun x => x.dests.map (fun e => (e.port.val, x.source.port))))
    pairs := (fed.filterMap (fun f => f.protect.map (fun t =>
      { id := f.id, outPort := f.path.outPort, outQuarter := Fin.ofNat 1024 f.path.outQuarter
        alternate := Fin.ofNat 2048 f.alternate, protectPort := t.inPort
        protectQuarter := Fin.ofNat 1024 t.inQuarter : PairEntry }))).eraseDups
    list := xs, generation := 0 }

/-- R104: an input quarter occupies one or two centre positions. -/
def Bank.twoPositions (b : Bank) : Bool :=
  b.ingress.all (fun e =>
    (b.ingress.filter (fun f => f.1 / 2048 == e.1 / 2048 && f.2 == e.2)).length ≤ 2)

/-- R112: the two members of every pair lie on different planes. -/
def Bank.pairsApart (b : Bank) : Bool :=
  b.pairs.all (fun e =>
    match b.egressAt e.outPort.val e.outQuarter.val with
    | some c => c.val / 512 != e.alternate.val / 512
    | none => false)

/-- How many pairs have members that share a plane (R134). -/
def Bank.sharedPairs (b : Bank) : Nat :=
  ((b.pairs.filter (fun e =>
    match b.egressAt e.outPort.val e.outQuarter.val with
    | some c => c.val / 512 == e.alternate.val / 512
    | none => false)).map (·.id)).eraseDups.length

/-- The planes of the entries that carry traffic. -/
def Bank.planesUsed (b : Bank) : List Nat := (b.plane.map (fun e => e.1 / 262144)).eraseDups

/-- The centre positions of the planes in a list. -/
def positionsOn (planes : List (Fin 4)) : List Nat := planes.flatMap (fun k => (List.range 512).map (fun t => 512 * k.val + t))

/-- Whether input port `p` could send quarter `x` through position `c` to output port `q` beside everything else in a bank: the
position is free at both ends, or carries that quarter already. -/
def Bank.admits (b : Bank) (p : PortNo) (x : Fin 1024) (c : Nat) (q : PortNo) : Bool :=
  (match b.ingressAt p.val c with | none => true | some y => y == x)
    && (match b.planeAt (c / 512) (c % 512) q.val with | none => true | some r => r == p && b.ingressAt p.val c == some x)

/-- The last clauses of R104: an input quarter of `ps` has a second position only when it is multicast and no single position of the
planes that are ON reaches all of its destinations (DEDUCED, log 60: beside the rest of the bank as placed). -/
def Bank.secondNeeded (planes : List (Fin 4)) (ps : List (PortNo × Fin 1024)) (b : Bank) : Bool :=
  ps.all (fun t =>
    let held := (b.ingress.filter (fun e => e.1 / 2048 == t.1.val && e.2 == t.2)).map (fun e => e.1 % 2048)
    let fed := (b.plane.filter (fun e => e.2 == t.1 && held.contains (e.1 / 512))).map (fun e => (Fin.ofNat 512 e.1 : PortNo))
    held.length < 2 || (1 < fed.length && (positionsOn planes).all (fun c => !fed.all (fun q => b.admits t.1 t.2 c q))))

/-- R134: two members of a pair share a plane only where no position of another plane that is ON would take the protect member
(DEDUCED, log 60: beside the rest of the bank as placed). -/
def Bank.pairsApartWhereFree (planes : List (Fin 4)) (b : Bank) : Bool :=
  b.pairs.all (fun e =>
    match b.egressAt e.outPort.val e.outQuarter.val with
    | some c => c.val / 512 != e.alternate.val / 512 ||
        (positionsOn (planes.filter (fun k => k.val != c.val / 512))).all (fun a => !b.admits e.protectPort e.protectQuarter a e.outPort)
    | none => false)

/-- Whether a bank keeps the positions that another gives to an output quarter (R130). -/
def Bank.keeps (old new : Bank) (q : PortNo) (y : Nat) : Bool :=
  new.egressAt q.val y == old.egressAt q.val y &&
    (new.pairAt q (Fin.ofNat 1024 y)).map (·.alternate) == (old.pairAt q (Fin.ofNat 1024 y)).map (·.alternate)

/-- The declarations of a question. -/
def SolverQuestion.declared (q : SolverQuestion) : Declared := fun p => q.settings[p]

/-- The planes that are ON in a question. -/
def SolverQuestion.planesOn (q : SolverQuestion) : List (Fin 4) := (List.finRange 4).filter (fun k => q.planes[k.val]? == some .on)

/-- The connections that a question adds; all of them when any may move. -/
def SolverQuestion.free (q : SolverQuestion) : List Connection :=
  q.list.filter (fun x => x.kind != 3 && (q.rearrange || q.added.contains x.id))

/-- The input quarters that connections name as sources. -/
def sourceQuarters (d : Declared) (xs : List Connection) : List (PortNo × Fin 1024) :=
  (xs.flatMap (fun x => (x.paths d ++ x.protectPaths d).map (fun t => (t.inPort, Fin.ofNat 1024 t.inQuarter)))).eraseDups

/-- The bank that a placement makes, when it keeps R100, R103, R104, R112, R130 and R134; the planes it may use are not judged
here. -/
def SolverQuestion.bank (q : SolverQuestion) (placed : List Placed) : Option Bank :=
  match placePaths q.declared placed q.list with
  | none => none
  | some fed =>
    let b := bankOf q.list fed
    let kept := q.list.filter (fun x => x.kind != 3 && !q.added.contains x.id)
    if consistent b.ingress && consistent b.plane && consistent b.egress && b.twoPositions
        && b.secondNeeded q.planesOn (sourceQuarters q.declared q.free)
        && (q.planesOn.length != 4 || b.pairsApart)
        && (q.planesOn.length != 3 || b.pairsApartWhereFree q.planesOn)
        && (q.rearrange || kept.all (fun x => (x.paths q.declared).all (fun t => q.base.keeps b t.outPort t.outQuarter)))
    then some b else none

/-- A bank places entries on planes that are ON alone (R108, R130). -/
def SolverQuestion.onPlanes (q : SolverQuestion) (b : Bank) : Bool := b.planesUsed.all (fun k => q.planesOn.any (fun j => j.val == k))

/-- Every input quarter feeds at most one output quarter (R105). -/
def unicast (fs : List (PortNo × Nat)) : Bool := noRepeats fs

/-- What the working and the protect paths of connections feed at each output port: how many quarters together (R133). -/
def outputLoad (d : Declared) (xs : List Connection) (q : PortNo) : Nat :=
  (xs.flatMap (fun x => (x.paths d ++ x.protectPaths d).filter (fun t => t.outPort == q))).length

/-- The condition of the strict property (R105): the added connections are unicast from quarters that nothing else uses, and every
input quarter of their source ports has one centre position in the base bank. -/
def SolverQuestion.strictCase (q : SolverQuestion) : Bool :=
  let d := q.declared
  let news := q.list.filter (fun x => x.kind != 3 && q.added.contains x.id)
  let all := q.list.flatMap (fun x => (x.paths d ++ x.protectPaths d).map (fun t => (t.inPort, t.inQuarter)))
  let paths := news.flatMap (fun x => x.paths d)
  q.planesOn.length == 4 && news.all (fun x => x.protect.isNone)
    && paths.all (fun t => all.count (t.inPort, t.inQuarter) == 1 && decide (outputLoad d q.list t.outPort ≤ 1024)
        && noRepeats ((q.base.ingress.filter (fun e => e.1 / 2048 == t.inPort.val)).map (·.2)))

/-- Whether the planes that are ON can hold the list when every connection may move (R105, R133). -/
def SolverQuestion.holds (q : SolverQuestion) : Bool :=
  let d := q.declared
  let n := q.planesOn.length
  let paths := q.list.flatMap (fun x => x.paths d)
  if q.list.any (fun x => x.protect.isSome) then
    n == 4 && (List.finRange 512).all (fun p => outputLoad d q.list p ≤ 1024)
  else n == 4 || (n == 3 && unicast (paths.map (fun t => (t.inPort, t.inQuarter))))

/-- Whether R105 and R133 guarantee that the list is placed. -/
def SolverQuestion.guaranteed (q : SolverQuestion) : Bool := if q.rearrange then q.holds else q.strictCase

/-- How a placement ends (R108, R133). -/
inductive SolverEnd where
  | built (b : Bank)
  /-- Reason, status and the connections that were not placed. -/
  | failed (reason : Nat) (st : Status) (ids : List (BitVec 32))
  deriving DecidableEq, Repr

/-- How the solver answers a question, for which it is `Config.solve` held to what the spec demands: a bank that keeps the rules of
R130; BLOCKED only with REARRANGE clear; UNPLACEABLE only where the planes ON need not hold the list; no failure where R133
guarantees a placement; a solution on a plane that is not ON is refused (R108). None: the solver has not ended. -/
def SolverQuestion.answer (q : SolverQuestion) : Option SolverEnd :=
  match Config.solve q with
  | .placed p =>
    match q.bank p with
    | some b => if q.onPlanes b then some (.built b) else if q.guaranteed then none else some (.failed 0x0F .errUnusable [])
    | none => none
  | .blocked ids => if q.rearrange || q.guaranteed then none else some (.failed 0x0B .errResource ids)
  | .unplaceable ids => if q.holds || q.guaranteed then none else some (.failed 0x0C .errResource ids)
  | .scratch => if q.guaranteed then none else some (.failed 0x0E .errResource [])

/-- The source of an output quarter of a bank. -/
def Bank.sourceOf (b : Bank) (q : PortNo) (y : Nat) : Option (PortNo × Fin 1024) :=
  match b.egressAt q.val y with
  | some c => b.pathOf q c
  | none => none

/-- The paths of a bank, in the order of its egress entries. -/
def Bank.paths (b : Bank) : List Path :=
  b.egress.filterMap (fun e =>
    let q : PortNo := Fin.ofNat 512 (e.1 / 1024)
    match b.pathOf q e.2 with
    | some (p, x) => some ⟨p, x.val, q, e.1 % 1024⟩
    | none => none)

/-- An endpoint from a port and a unit. -/
def endpointAt (p : PortNo) (u : Nat) : Endpoint := ⟨p, Fin.ofNat 1024 u⟩

/-- The pair of R122 that the entries of one identifier describe, in one of the two forms of R140; none when they fit
neither. -/
def Bank.pairConnection (b : Bank) (id : BitVec 32) : Option Connection :=
  let es := b.pairs.filter (fun e => e.id == id)
  let src (e : PairEntry) := b.sourceOf e.outPort e.outQuarter.val
  match es with
  | [] => none
  | e0 :: _ =>
    match src e0 with
    | none => none
    | some (p, x) =>
      let whole (t : PortNo × Fin 1024) (in_ : PairEntry → Bool) : Bool :=
        -- every destination that the working source feeds belongs to the pair
        b.paths.all (fun f => f.inPort != t.1 || f.inQuarter != t.2.val
          || es.any (fun e => e.outPort == f.outPort && e.outQuarter.val == f.outQuarter && in_ e))
      if noRepeats (es.map (fun e => (e.outPort, e.outQuarter)))
          && es.all (fun e => src e == some (p, x) && e.protectPort == e0.protectPort && e.protectQuarter == e0.protectQuarter)
          && whole (p, x) (fun _ => true) then
        some { id := id, kind := 0, source := ⟨p, x⟩, protect := some ⟨e0.protectPort, e0.protectQuarter⟩
               dests := es.map (fun e => ⟨e.outPort, e.outQuarter⟩) }
      else
        let slot := x.val / 4
        let pslot := e0.protectQuarter.val / 4
        let slots := (es.map (fun e => (e.outPort, e.outQuarter.val / 4))).eraseDups
        let inOrder (e : PairEntry) : Bool :=
          src e == some (p, Fin.ofNat 1024 (4 * slot + e.outQuarter.val % 4)) && e.protectPort == e0.protectPort
            && e.protectQuarter.val == 4 * pslot + e.outQuarter.val % 4
        if noRepeats (es.map (fun e => (e.outPort, e.outQuarter))) && es.all inOrder && es.length == 4 * slots.length
            && (List.range 4).all (fun i => whole (p, Fin.ofNat 1024 (4 * slot + i)) (fun _ => true)) then
          some { id := id, kind := 1, source := endpointAt p slot, protect := some (endpointAt e0.protectPort pslot)
                 dests := slots.map (fun t => endpointAt t.1 t.2) }
        else none

/-- The derived connections of a bank (R123), its pairs under their own identifiers (R140); none when a pair fits no
form of R122. -/
def Bank.derive (b : Bank) : Option (List Connection) :=
  let ids := (b.pairs.map (·.id)).eraseDups
  let pairs := ids.filterMap (fun i => b.pairConnection i)
  if pairs.length != ids.length then none
  else
    let inPair (f : Path) := b.pairs.any (fun e => e.outPort == f.outPort && e.outQuarter.val == f.outQuarter)
    let plain := b.paths.filter (fun f => !inPair f)
    let sources := (plain.map (fun f => (f.inPort, f.inQuarter))).eraseDups
    let quarters := sources.map (fun t =>
      { id := BitVec.ofNat 32 (0x80000000 + 1024 * t.1.val + t.2), kind := 0, source := endpointAt t.1 t.2, protect := none
        dests := (plain.filter (fun f => f.inPort == t.1 && f.inQuarter == t.2)).map (fun f => endpointAt f.outPort f.outQuarter)
        : Connection })
    let auxes := (b.aux.map (·.2)).eraseDups.map (fun p =>
      { id := BitVec.ofNat 32 (0x80080000 + p.val), kind := 3, source := endpointAt p 0, protect := none
        dests := (b.aux.filter (fun a => a.2 == p)).map (fun a => endpointAt (Fin.ofNat 512 a.1) 0) : Connection })
    some (pairs ++ quarters ++ auxes)

/-- Whether the four quarters of an output slot are fed in order by one input slot (R140 step 4). -/
def Bank.slotInOrder (b : Bank) (f : Path) : Bool :=
  f.inQuarter % 4 == f.outQuarter % 4 && (List.range 4).all (fun i =>
    b.sourceOf f.outPort (4 * (f.outQuarter / 4) + i) == some (f.inPort, Fin.ofNat 1024 (4 * (f.inQuarter / 4) + i)))

/-- Whether the protect members of an output slot whose quarters are pairs come in order from one input slot as well. -/
def Bank.alternatesInOrder (b : Bank) (f : Path) : Bool :=
  let at_ (i : Nat) := b.pairAt f.outPort (4 * (f.outQuarter / 4) + i)
  match at_ 0 with
  | none => (List.range 4).all (fun i => (at_ i).isNone)
  | some e => (List.range 4).all (fun i => match at_ i with
      | some x => x.protectPort == e.protectPort && x.protectQuarter.val == 4 * (e.protectQuarter.val / 4) + i
      | none => false)

/-- The two sources of every pair entry have one declared format (R122, R129 row 07h). -/
def Bank.pairFormatsOk (d : Declared) (b : Bank) : Bool :=
  b.pairs.all (fun e => match b.sourceOf e.outPort e.outQuarter.val with
    | some (p, x) => (d e.protectPort).inFormat (e.protectQuarter.val / 4) == (d p).inFormat (x.val / 4)
    | none => false)

/-- R61 for the paths of a raw map: four quarters in order count as a slot connection, on the protect side too (R140; DEDUCED,
log 61). -/
def Bank.formatsOk (d : Declared) (b : Bank) : Bool :=
  b.paths.all (fun f =>
    let o := (d f.outPort).outFormat (f.outQuarter / 4)
    o == 0 || (o == (d f.inPort).inFormat (f.inQuarter / 4) && (o != 3 || (b.slotInOrder f && b.alternatesInOrder f))))

/-- The first offset of a section of 2-byte entries at which a test fails. -/
def badEntry (bs : List Byte) (bad : Nat → Bool) : Nat → Nat → Option Nat
  | 0, _ => none
  | n + 1, off => if bad (field bs off 2) then some off else badEntry bs bad n (off + 2)

/-- The first pair entry whose field is out of range (R139). -/
def badPair (bs : List Byte) : Nat → Nat → Option Nat
  | 0, _ => none
  | n + 1, off =>
    match firstBad [(!hostId (field bs off 4), off), (decide (511 < field bs (off + 4) 2), off + 4),
        (decide (1023 < field bs (off + 6) 2), off + 6), (decide (2047 < field bs (off + 8) 2), off + 8),
        (decide (511 < field bs (off + 10) 2), off + 10), (decide (1023 < field bs (off + 12) 2), off + 12),
        (!isZero bs (off + 14) 2, off + 14)] with
    | some o => some o
    | none => badPair bs n (off + 16)

/-- Offsets of the sections of a raw map (R138). -/
def rawPlane : Nat := 2097216
def rawEgress : Nat := 4194368
def rawAux : Nat := 5242944
def rawPairs : Nat := 5243968

/-- R140 step 1 after the length: the first offending field. -/
def rawRangeBad (bs : List Byte) (pairs : Nat) : Option Nat :=
  match firstBad [(field bs 0 4 != 1, 0), (decide (32768 < pairs), 4), (!isZero bs 8 56, 8)] with
  | some o => some o
  | none =>
    match badEntry bs (fun v => v / 1024 % 32 != 0) 1048576 64 with
    | some o => some o
    | none =>
      match badEntry bs (fun v => v / 16384 == 3 || v / 512 % 32 != 0) 1048576 rawPlane with
      | some o => some o
      | none =>
        match badEntry bs (fun v => v / 2048 % 16 != 0) 524288 rawEgress with
        | some o => some o
        | none =>
          match badEntry bs (fun v => v / 512 % 64 != 0) 512 rawAux with
          | some o => some o
          | none => badPair bs pairs rawPairs

/-- The entries of a section that a reading accepts, each under its place in the section. -/
def readEntries {ν : Type} (bs : List Byte) (off n : Nat) (read : Nat → Option ν) : List (Nat × ν) :=
  (List.range n).filterMap (fun i => (read (field bs (off + 2 * i) 2)).map (fun v => (i, v)))

/-- The bank that a raw map writes out (R138, R139), before its list is derived. -/
def rawBank (bs : List Byte) : Bank :=
  { ingress := readEntries bs 64 1048576 (fun v => if v / 32768 = 1 then some (Fin.ofNat 1024 v) else none)
    plane := readEntries bs rawPlane 1048576 (fun v => if v / 16384 = 1 then some (Fin.ofNat 512 v) else none)
    egress := readEntries bs rawEgress 524288 (fun v => if v / 32768 = 1 then some (Fin.ofNat 2048 v) else none)
    aux := readEntries bs rawAux 512 (fun v => if v / 32768 = 1 then some (Fin.ofNat 512 v) else none)
    pairs := (List.range (field bs 4 4)).map (fun i =>
      let o := rawPairs + 16 * i
      { id := BitVec.ofNat 32 (field bs o 4), outPort := Fin.ofNat 512 (field bs (o + 4) 2)
        outQuarter := Fin.ofNat 1024 (field bs (o + 6) 2), alternate := Fin.ofNat 2048 (field bs (o + 8) 2)
        protectPort := Fin.ofNat 512 (field bs (o + 10) 2), protectQuarter := Fin.ofNat 1024 (field bs (o + 12) 2) })
    list := [], generation := 0 }

/-- Plane entries that carry traffic: those that an egress or a pair entry names. -/
def Bank.usedPlaneKeys (b : Bank) : List Nat :=
  b.egress.map (fun e => planeKey e.2.val (Fin.ofNat 512 (e.1 / 1024))) ++ b.pairs.map (fun e => planeKey e.alternate.val e.outPort)

/-- R140 step 2: the offset of the first entry that breaks a path. Unused plane entries must be the pattern source. -/
def rawPathBad (bs : List Byte) (b : Bank) : Option Nat :=
  let used := b.usedPlaneKeys
  let planeBad := (List.range 1048576).find? (fun i =>
    !used.contains i && field bs (rawPlane + 2 * i) 2 / 16384 != 2)
  let egressBad := b.egress.find? (fun e => (b.pathOf (Fin.ofNat 512 (e.1 / 1024)) e.2).isNone)
  let pairBad := b.pairs.findIdx? (fun e =>
    (b.egressAt e.outPort.val e.outQuarter.val).isNone || b.pathOf e.outPort e.alternate.val != some (e.protectPort, e.protectQuarter))
  match planeBad, egressBad, pairBad with
  | some i, _, _ => some (rawPlane + 2 * i)
  | none, some e, _ => some (rawEgress + 2 * e.1)
  | none, none, some i => some (rawPairs + 16 * i)
  | none, none, none => none

/-- R140: the checks of a raw map in order, on the declarations and the protect ports of the job's start. A derived connection of more
than 4,096 destinations fails row 01h of R129 (R126, R151). -/
def State.checkRaw (s : State) (d : Declared) (protects : List PortNo) (bs : List Byte) : MapCheck :=
  let pairs := field bs 4 4
  let conflict (reason at_ : Nat) : MapCheck := .bad (mapFailure .errConflict reason [] at_)
  if bs.length < 64 || bs.length < rawPairs + 16 * pairs then .bad (mapFailure .errLength 0 [] detailList)
  else if bs.length != rawPairs + 16 * pairs then .bad (mapFailure .errLength 0 [] (detailBuffer 4))
  else
    match rawRangeBad bs pairs with
    | some o => .bad (mapFailure .errRange 0 [] (detailBuffer o))
    | none =>
      let b := rawBank bs
      match rawPathBad bs b with
      | some o => conflict 0x11 (detailBuffer o)
      | none =>
        match (b.usedPlaneKeys.filter (fun k => !s.planesOn.any (fun j => j.val == k / 262144))).min? with
        | some k => .bad (mapFailure .errUnusable 0 [] (detailBuffer (rawPlane + 2 * k)))
        | none =>
          if !noRepeats (b.pairs.map (fun e => (e.outPort, e.outQuarter))) && (b.pairs.any (fun e => b.pairs.any (fun f =>
              e.id != f.id && e.outPort == f.outPort && e.outQuarter == f.outQuarter))) then conflict 6 0
          else match b.derive with
          | none => conflict 9 0
          | some xs =>
            let pairConns := xs.filter (fun x => x.protect.isSome)
            if xs.any (fun x => decide (4096 < x.dests.length)) then .bad (mapFailure .errRange 1 [] 0)
            else if !(b.formatsOk d && b.pairFormatsOk d) then conflict 7 0
            else if !(xs.all (fun x => x.roleOk d protects)) then conflict 8 0
            else if !(xs.all (fun x => x.pairOk)) then conflict 9 0
            else if 8192 < pairConns.length || 32768 < b.pairs.length then .bad (mapFailure .errResource 10 [] 0)
            else if !(b.twoPositions && (s.planesOn.length < 4 || b.pairsApart)) then conflict 0x11 0
            else .raw { b with list := xs }

/-- The byte form of a bank (R138, R139, R150). -/
def Bank.image (b : Bank) : List Byte :=
  leBytes 4 1 ++ leBytes 4 b.pairs.length ++ zeros 56
    ++ (List.range 1048576).flatMap (fun i => leBytes 2 (match lookup i b.ingress with | some x => 0x8000 + x.val | none => 0))
    ++ (List.range 1048576).flatMap (fun i => leBytes 2 (match lookup i b.plane with | some p => 0x4000 + p.val | none => 0x8000))
    ++ (List.range 524288).flatMap (fun i => leBytes 2 (match lookup i b.egress with | some c => 0x8000 + c.val | none => 0))
    ++ (List.range 512).flatMap (fun i => leBytes 2 (match lookup i b.aux with | some p => 0x8000 + p.val | none => 0))
    ++ b.pairs.flatMap (fun e => leBytes 4 e.id.toNat ++ leBytes 2 e.outPort.val ++ leBytes 2 e.outQuarter.val
      ++ leBytes 2 e.alternate.val ++ leBytes 2 e.protectPort.val ++ leBytes 2 e.protectQuarter.val ++ zeros 2)

/-- What a persistent copy holds of a bank: the entries that fed quarters and pairs use (R147). -/
def Bank.trimmed (b : Bank) : Bank :=
  let planeKeys := b.usedPlaneKeys
  let ingressKeys := b.egress.filterMap (fun e =>
      (b.pathOf (e.1 / 1024) e.2.val).map (fun x => 2048 * x.1.val + e.2.val))
    ++ b.pairs.map (fun e => 2048 * e.protectPort.val + e.alternate.val)
  { b with ingress := b.ingress.filter (fun e => ingressKeys.contains e.1), plane := b.plane.filter (fun e => planeKeys.contains e.1) }

/-- The content of a copy in the map region, without its digest: the generation, the source and the position of every output
quarter in 4 bytes, the AUX selections and the pair table in 14 bytes an entry (R147; the spec gives no layout: DESIGN CHOICE,
log 62). -/
def Bank.copyBytes (b : Bank) : List Byte :=
  leBytes 8 b.generation.toNat
    ++ (List.range 524288).flatMap (fun i => leBytes 4 (match lookup i b.egress with
        | some c => (match b.pathOf (i / 1024) c.val with
          | some (p, x) => 0x80000000 + 2097152 * p.val + 2048 * x.val + c.val
          | none => 0)
        | none => 0))
    ++ (List.range 512).flatMap (fun i => leBytes 2 (match lookup i b.aux with | some p => 0x8000 + p.val | none => 0))
    ++ b.pairs.flatMap (fun e => leBytes 4 e.id.toNat ++ leBytes 2 e.outPort.val ++ leBytes 2 e.outQuarter.val
      ++ leBytes 2 e.alternate.val ++ leBytes 2 e.protectPort.val ++ leBytes 2 e.protectQuarter.val)

/-- A copy as the device writes it, and whether its digest verifies (R147). -/
def PersistentCopy.of (b : Bank) : PersistentCopy := { bank := b.trimmed, digest := sha384 b.trimmed.copyBytes }
def PersistentCopy.verifies (c : PersistentCopy) : Bool := c.digest == sha384 c.bank.copyBytes

/-- The length of the byte form (R138). -/
def Bank.imageLength (b : Bank) : Nat := rawPairs + 16 * b.pairs.length

end Sys2Proof.Machine
end

