-- ==== Sys2Proof/Machine/PortChange.lean ====
section
/-! DEFINITION. The changes of a port's state that commands and power domains make: enable, disable, stop, restart,
and the checks of a staged set (R91, R95, R96, R345). -/
namespace Sys2Proof.Machine

/-- The declarations with the staged set of one port in force. -/
def State.declaredWith (s : State) (p : PortNo) : Declared :=
  fun q => if q = p then (s.port q).nextSettings else (s.port q).settings

/-- R61 to R63 for a bank under given declarations (R96 step 3). -/
def Bank.suits (d : Declared) (b : Bank) : Bool :=
  b.formatsOk d && (b.list.filter (fun x => x.kind != 0 || x.protect.isSome)).all (fun x =>
    (x.undeclared d).isNone && x.formatOk d)

/-- The banks that a restart is checked against, and the list of a job in progress (R96, R129). -/
def State.bankSuits (s : State) (d : Declared) : Bool :=
  s.map.active.suits d
    && (match s.map.shadowMode with
        | .ready | .scheduled => s.map.shadow.suits d
        | .held => s.map.swap.isNone || s.map.shadow.suits d
        | _ => true)
    && (match s.map.job.bind (fun j => j.checked) with
        | some (.list xs _ _) => xs.all (fun x => (x.undeclared d).isNone && x.formatOk d)
        | some (.raw b) => b.suits d
        | _ => true)

/-- The role against the cascade declaration (R96 step 3). -/
def State.roleSuits (s : State) (p : PortNo) : Bool :=
  let seam := (s.casc.declaration.map (fun d => d.seams.any (fun x => x.port == p))).getD false
  if (s.port p).nextSettings.role == .seam then seam else !seam

/-- Bundles overlap, or the slots of one differ in format (R62). -/
def bundlesOverlap (bundles : List (Fin 256 × Nat)) : Bool :=
  !noRepeats (bundles.flatMap (fun b => (List.range b.2).map (fun i => b.1.val + i)))
def bundlesMixed (bundles : List (Fin 256 × Nat)) (formats : Vector (Fin 7) 256) : Bool :=
  bundles.any (fun b => (List.range b.2).any (fun i => formats[b.1.val + i]? != formats[b.1.val]?))

/-- R62 for the declarations of a port. -/
def PortSettings.bundlesOk (t : PortSettings) : Bool :=
  !bundlesMixed t.inBundles t.inFormats && !bundlesMixed t.outBundles t.outFormats

/-- Step 3 of R96 for a port's staged set. A seam-link role beside collar version 1 passes (DESIGN CHOICE, log 53: R40 gives it no
refusal). -/
def State.stagedOk (s : State) (p : PortNo) : Bool :=
  (s.port p).nextSettings.bundlesOk && s.bankSuits (s.declaredWith p) && s.roleSuits p

/-- The lane group of a port (R553). -/
def laneGroup (p : PortNo) : Fin 56 := ⟨p.val / 16, by have := p.isLt; omega⟩

/-- Whether a domain is ON. -/
def State.domainOn (s : State) (d : Fin 56) : Bool := s.pwr.modes[d] == .on

/-- Whether a port is marked unusable (R540). -/
def State.portMarked (s : State) (p : PortNo) : Bool := s.bist.marks.contains (1, p.val)

/-- The port is enabled: TRAINING, with fast-train presets under tinder service (R91, R345). -/
def State.enablePort (p : PortNo) (s : State) : State :=
  s.portEnable p (s.host.service == 1)

/-- The port is stopped from the present frame (R96 step 1). -/
def State.stopPort (p : PortNo) (s : State) : State :=
  let frame := s.clock.frame
  let s := s.setPort p (fun q => { q with resuming := false, frameMark := frame })
  let s := s.setPortMode p .stopped
  -- TIM and ROLE are suspended and cleared in STOPPED (R90, R96)
  (s.setDefect p .tim false).setDefect p .role false

/-- Whether a staged set sends the port to TRAINING (R96 step 5): a staged value counts as a change even when it equals the one in
force (DESIGN CHOICE, log 52). -/
def StagedSettings.retrains (x : StagedSettings) : Bool := x.txPreset.isSome || x.rxAdapt.isSome || x.role.isSome

/-- A restart takes effect at the present frame, G (R96 steps 4 and 5). A port restarted into TRAINING during tinder service
trains without the fast-train limit of R91 (DESIGN CHOICE, log 51: R91 speaks of an enable). -/
def State.restartPort (p : PortNo) (s : State) : State :=
  let q := s.port p
  let frame := s.clock.frame
  if q.staged.retrains then
    (s.portRetrain p false).setPort p (fun q => { q with frameMark := frame })
  else
    s.setPort p (fun q =>
      { q with settings := q.nextSettings, staged := .none, resuming := true, frameMark := frame, trace := .fresh })

end Sys2Proof.Machine
end

