-- ==== Sys2Proof/Machine/Power.lean ====
section
/-! DEFINITION. Power domains (chapter 21): requests, the pacing of transitions, what a domain keeps and loses, the
wake of a lane group, temperature and supplies. -/
namespace Sys2Proof.Machine

/-- The state code of a domain (R410). -/
def DomainMode.code : DomainMode → Nat
  | .on => 0 | .banked => 1 | .off => 2

/-- The code that POWER_STATUS reports (R410, R556). -/
def State.domainCode (s : State) (d : Fin 56) : Nat :=
  match s.pwr.running with
  | some r => if r.domain = d then 3 else s.pwr.modes[d].code
  | none => s.pwr.modes[d].code

/-- Domain numbers of chapter 21. -/
def clusterDomain (c : Fin 8) : Fin 56 := ⟨32 + c.val, by have := c.isLt; omega⟩
def planeDomain (k : Fin 4) : Fin 56 := ⟨40 + k.val, by have := k.isLt; omega⟩
def coreDomain (m : Fin 2) : Fin 56 := ⟨44 + m.val, by have := m.isLt; omega⟩

/-- The ports of a lane group's domain. -/
def groupPorts (d : Fin 56) : List PortNo := (List.finRange 512).filter (fun p => p.val / 16 == d.val)

/-- Enter a domain's state. -/
def State.putDomain (d : Fin 56) (m : DomainMode) (s : State) : State :=
  { s with pwr :=
    { s.pwr with
      modes := s.pwr.modes.set d m
      storageSince := if d.val = 51 && m == .on then s.clock.tick else s.pwr.storageSince } }

/-- The device switches a domain itself, with the event of its state change (R554, R565). -/
def State.setDomain (d : Fin 56) (m : DomainMode) (s : State) : State :=
  let old := s.pwr.modes[d]
  (s.putDomain d m).raiseState old.code m.code 393 1 d.val

/-- `n` bytes of the control fabric's memories from address `a` are lost: they read as bytes that nothing has written. -/
def State.loseBytes (a n : Nat) (s : State) : State :=
  { s with fabric := { s.fabric with cells := memErase s.fabric.cells a n } }

/-- The local memories of a cluster's 132 physical engines, and the half of HBM behind each PHY (R508, R553; DESIGN CHOICE, log 77:
stack 0 holds the lower 24 GiB). -/
def State.loseCluster (c : Nat) (s : State) : State := s.loseBytes (0x20000000 + 0x1000000 * c) 0x1000000
def State.loseStack (i : Nat) (s : State) : State := s.loseBytes (0x1000000000 + 0x600000000 * i) 0x600000000

/-- Complete the host commands among the origins of a transition, with OK and the present tick (R410, R561). -/
def State.completeOrigins (xs : List DomainOrigin) (s : State) : State :=
  xs.foldl (fun s o =>
    match o with
    | .host c => s.complete c .ok 0 (leBytes 8 s.clock.frame.toNat)
    | _ => s) s

/-- Ask for a state of a domain: joined with a transition already on its way there, else in the order of execution
(R557, R561, R563). -/
def State.requestDomain (d : Fin 56) (target : DomainMode) (o : DomainOrigin) (s : State) : State :=
  let now := s.clock.tick
  let wait (after : Bool) : State := { s with pwr := { s.pwr with waiting := s.pwr.waiting ++ [DomainRequest.mk d target [o] now false after] } }
  let mine := s.pwr.waiting.filter (fun w => w.domain == d)
  match mine.getLast?, s.pwr.running with
  | some w, _ =>
    if w.target == target then
      let joined := updateFirst (fun x => x == w) (fun x => { x with origins := x.origins ++ [o] }) s.pwr.waiting
      { s with pwr := { s.pwr with waiting := joined } }
    else wait w.after
  | none, some r =>
    if r.domain != d then (if s.pwr.modes[d] == target then s.completeOrigins [o] else wait false)
    else if r.target == target then { s with pwr := { s.pwr with running := some { r with origins := r.origins ++ [o] } } }
    else wait true
  | none, none => if s.pwr.modes[d] == target then s.completeOrigins [o] else wait false

/-- A bank without the entries of a plane: they are set to the pattern source (R137). -/
def Bank.restorePlane (k : Fin 4) (b : Bank) : Bank := { b with plane := b.plane.filter (fun e => e.1 / 262144 != k.val) }

/-- The plane hardware sets a plane's entries in both banks to the pattern source (R137). -/
def State.restorePlane (k : Fin 4) (s : State) : State :=
  { s with map := { s.map with active := s.map.active.restorePlane k, shadow := s.map.shadow.restorePlane k
                               badPlanes := s.map.badPlanes.filter (· != k) } }

/-- At a start the entries of the persistent copy that lie on a plane are written once the plane's domain is ON, into a shadow bank
that mirrors the active one as well (R137, R149). -/
def State.rebuildPlane (k : Fin 4) (s : State) : State :=
  let (mine, rest) := s.map.toRebuild.partition (fun e => e.1 / 262144 == k.val)
  let add (b : Bank) : Bank := { b with plane := (mine ++ b.plane).mergeSort (fun x y => x.1 ≤ y.1) }
  { s with map := { s.map with
    active := add s.map.active, toRebuild := rest
    shadow := if s.map.shadowMode == .mirror then add s.map.shadow else s.map.shadow } }

/-- What a domain does when it starts to leave ON or BANKED (R559, R560). -/
def State.leaveDomain (d : Fin 56) (target : DomainMode) (s : State) : State :=
  if h : d.val < 32 then
    let up := (groupPorts d).filter (fun p => (s.port p).mode != .down)
    let wake := if target == .banked then up else []
    let s := { s with pwr := { s.pwr with wakeSets := s.pwr.wakeSets.set d.val wake } }
    up.foldl (fun s p => s.portDown p) s
  else if d.val = 48 then { s with cap := { s.cap with ringOn := false, ring := [] } }
  else if d.val = 51 then
    { s with cap := { s.cap with namespaces := s.cap.namespaces.map (fun n => { n with sinceCheckpoint := 0 }) } }
  else s

/-- Whether a port passes the checks of PORT_ENABLE (R345, R540, R560). -/
def State.enableOk (s : State) (p : PortNo) : Bool := s.stagedOk p && !s.portMarked p

/-- A lane group has reached ON: its wake set is enabled (R560). -/
def State.wakeGroup (d : Fin 56) (s : State) : State :=
  if h : d.val < 32 then
    let wake := s.pwr.wakeSets[d.val]
    let s := { s with pwr := { s.pwr with wakeSets := s.pwr.wakeSets.set d.val [] } }
    wake.foldl (fun s p => if s.enableOk p then s.enablePort p else s.raise 393 4 .occurrence d.val p.val 0) s
  else s

/-- What an engine loses with its domain (R553). -/
def Engine.cleared (e : Engine) : Engine :=
  { e with dwells := 0, written := 0, lostTotal := 0, sparks := 0, refused := 0, fifo := [], collected := [] }

/-- What reaching a state does (R137, R553, R559). -/
def State.reachDomain (d : Fin 56) (m : DomainMode) (s : State) : State :=
  match m with
  | .on =>
    if d.val < 32 then s.wakeGroup d
    else if h : 40 ≤ d.val ∧ d.val < 44 then
      let k : Fin 4 := ⟨d.val - 40, by omega⟩
      let s := (s.restorePlane k).rebuildPlane k
      if s.map.planes[k].wanted then
        (s.setPlane k (fun q => { q with wanted := false })).setPlaneMode k .testing
      else s
    else if d.val = 48 then
      if s.host.service == 2 then
        { s with cap := { s.cap with ringOn := true, ring := [], ringStart := s.clock.frame + 1 } }
      else s
    else s
  | .off =>
    if d.val < 32 then
      (groupPorts d).foldl (fun s p => s.setPort p (fun q => { q with counters := Vector.replicate 12 0 })) s
    else if h : 32 ≤ d.val ∧ d.val < 40 then
      let c := d.val - 32
      let s := s.loseCluster c
      { s with ember := { s.ember with
        engines := s.ember.engines.mapFinIdx (fun i e _ => if i / 128 = c then e.cleared else e)
        clusters := s.ember.clusters.mapFinIdx (fun i x _ => if i = c then { x with library := 0 } else x) } }
    else if h : 40 ≤ d.val ∧ d.val < 44 then s.restorePlane ⟨d.val - 40, by omega⟩
    else if d.val = 49 ∨ d.val = 50 then
      let s := s.loseStack (d.val - 49)
      { s with ember := { s.ember with staging := [] }, cap := { s.cap with ring := [] } }
    else s
  | .banked => s

/-- PARAM1 and PARAM2 of a wake event (R565). -/
def wakeOrigins (xs : List DomainOrigin) : Nat × Nat :=
  let host := xs.any (fun o => match o with | .host _ => true | _ => false)
  let far := xs.filterMap (fun o => match o with | .farEnd p => some p.val | _ => none)
  (packBits [host, !far.isEmpty], far.head?.getD oneUnit)

/-- DOMAIN_TRANSITION_DONE: the new state is reached (R556, R557, R560, R561). -/
def State.domainDone (d : Fin 56) (s : State) : State :=
  match s.pwr.running with
  | some r =>
    if r.domain = d then
      let old := s.pwr.modes[d]
      let now := s.clock.tick
      let s := { s with pwr := { s.pwr with running := none, lastEnd := now } }
      let s := (s.putDomain d r.target).raiseState 3 r.target.code 393 1 d.val
      let wake := old == .banked && r.target == .on && decide (d.val < 32)
      let s := s.raiseIf wake 393 2 .occurrence d.val (wakeOrigins r.origins).1 (wakeOrigins r.origins).2
      (s.reachDomain d r.target).completeOrigins r.origins
    else s
  | none => s

/-- Start the next waiting transition, no earlier than 200 ticks after the last one ended (R556, R563). -/
def State.startDomain (s : State) : State :=
  match s.pwr.running, s.pwr.waiting with
  | none, r :: rest =>
    if s.clock.tick < s.pwr.lastEnd + 200 then s
    else
      let old := s.pwr.modes[r.domain]
      if old == r.target then
        ({ s with pwr := { s.pwr with waiting := rest } }).completeOrigins r.origins
      else
        let s := { s with pwr := { s.pwr with waiting := rest, running := some r } }
        let s := s.raiseState old.code 3 393 1 r.domain.val
        let s := s.raiseIf (r.after && r.origins.any (fun o => match o with | .host _ => true | _ => false))
          393 3 .occurrence r.domain.val r.target.code 0
        if r.target == .on then s else s.leaveDomain r.domain r.target
  | _, _ => s

/-- FAR_END_WAKE: signal detect returns on a wake-set port of a BANKED group; a wake during a change to BANKED is
applied when that is reached (R560, R561). -/
def State.farEndWake (p : PortNo) (s : State) : State :=
  let d := laneGroup p
  if h : d.val < 32 then
    let banking := match s.pwr.running with
      | some r => r.domain == d && r.target == .banked
      | none => false
    let waking := match s.pwr.running with
      | some r => r.domain == d && r.target == .on
      | none => false
    if s.pwr.wakeSets[d.val].contains p && (s.pwr.modes[d] == .banked || banking || waking) then
      s.requestDomain d .on (.farEnd p)
    else s
  else s

def execFarEndWake (p : PortNo) (s : State) : Host.Outcome State Fault Refusal := .next (s.settled (s.farEndWake p))

/-- DOMAIN_WAIT_EVENT: a transition has waited more than 10 ms, 20,000 ticks (R563). -/
def State.domainWaitEvent (d : Fin 56) (s : State) : State :=
  let now := s.clock.tick
  let due (w : DomainRequest) : Bool := w.domain == d && !w.waited && decide (w.since + 20000 < now)
  if s.pwr.waiting.any due then
    ({ s with pwr := { s.pwr with waiting := updateFirst due (fun w => { w with waited := true }) s.pwr.waiting } }).raise
      394 1 .occurrence d.val 0 0
  else s

def execDomainWaitEvent (d : Fin 56) (s : State) : Host.Outcome State Fault Refusal := .next (s.settled (s.domainWaitEvent d))

/-- Whether a lapse condition holds now (R584). -/
def State.lapseNow (s : State) : Bool := s.pwr.supplyOut.toList.any id || s.pwr.hot || s.rst.pwrFailLow

/-- The engines out of service whose slots no spare carries. -/
def State.enginesOut (s : State) : Nat := (s.ember.engines.toList.filter (fun e => e.out)).length

/-- How many faults of R21 are present. -/
def State.faultCount (s : State) : Nat :=
  (s.mgmt.cores.toList.filter (fun m => m.faulted || m.unusable)).length + s.fabric.faulty.length + s.enginesOut
    + (s.map.planes.toList.filter (fun k => k.mode == .fault || k.unusable)).length
    + ((List.finRange 16).filter (fun d => s.cap.namespaces.toList.any (fun n => n.mirror && n.mode != .undeclared
        && n.members.zipIdx.any (fun m => m.1.1 == d && (s.cap.driveFailed[d] || n.failed.contains m.2))))).length
    + (s.prot.groups.toList.filterMap (fun g => g)).foldl (fun n g => n
        + ((List.range (g.working.length + 1)).filter (fun k =>
            let q := s.port (g.memberPort k)
            q.mode != .down && q.mode != .stopped
              && ((q.defects &&& 0x3F) != 0 || q.invalidCond || (g.settings.sdCrit && q.has .sd)))).length) 0

/-- The DPLL condition of R20: LOCKED, or HOLDOVER within its specification. -/
def State.timingHolds (s : State) : Bool := s.dpllCode == 2 || s.dpllCode == 3

/-- Judge the conditions of R20: each that stops holding raises an event that names its DEV_STATE bit, and one event
follows when all hold again (R22, R334). -/
def State.judgeGuarantee (s : State) : State :=
  let old := s.host
  let lapsed := old.lapseConditions || old.lapseTiming || old.lapseFaults
  let timing := !s.timingHolds
  let faults := decide (1 < s.faultCount)
  let s := { s with host := { s.host with lapseTiming := timing, lapseFaults := faults } }
  let s := s.raiseIf (timing && !old.lapseTiming) 309 2 .set oneUnit 9 0
  let s := s.raiseIf (faults && !old.lapseFaults) 309 2 .set oneUnit 10 0
  s.raiseIf (lapsed && !old.lapseConditions && !timing && !faults) 309 2 .clear oneUnit 0 0

/-- Set or keep LAPSE_CONDITIONS after a change of its conditions; it clears 10 ms after none holds (R22, R584). -/
def State.judgeLapse (s : State) : State :=
  let now := s.clock.tick
  if s.lapseNow then
    let old := s.host.lapseConditions
    ({ s with host := { s.host with lapseConditions := true }, pwr := { s.pwr with goodSince := none } }).raiseIf
      (!old) 309 2 .set oneUnit 8 0
  else { s with pwr := { s.pwr with goodSince := some (s.pwr.goodSince.getD now) } }

/-- SUPPLY_OUT_OF_RANGE: a monitored supply has left its range for more than 1 µs (R584). -/
def State.supplyOut (i : Fin 7) (s : State) : State :=
  ({ s with pwr := { s.pwr with supplyOut := s.pwr.supplyOut.set i true } }).judgeLapse

def execSupplyOutOfRange (i : Fin 7) (s : State) : Host.Outcome State Fault Refusal := .next (s.settled (s.supplyOut i))

/-- CONDITIONS_RESTORED: ten ms after no lapse condition holds; the supplies are back in range (R584). -/
def State.conditionsRestored (s : State) : State :=
  if s.host.lapseConditions && !s.pwr.hot && !s.rst.pwrFailLow then
    let s := { s with pwr := { s.pwr with supplyOut := Vector.replicate 7 false, goodSince := none } }
    let s := { s with host := { s.host with lapseConditions := false } }
    s.raiseIf (!s.host.lapseTiming && !s.host.lapseFaults) 309 2 .clear oneUnit 0 0
  else s

def execConditionsRestored (s : State) : Host.Outcome State Fault Refusal := .next (s.settled s.conditionsRestored)

/-- The signed value of a temperature word, in 1/16 °C (R410). -/
def celsius16 (t : BitVec 16) : Int := t.toInt

/-- TEMPERATURE_THRESHOLD: the highest junction temperature is now `t` (R564). -/
def State.temperature (t : BitVec 16) (s : State) : State :=
  let v := celsius16 t
  let warm := if 90 * 16 < v then true else if v < 85 * 16 then false else s.pwr.warm
  let hot := if 95 * 16 < v then true else if v < 95 * 16 then false else s.pwr.hot
  let critical := if 100 * 16 < v then true else if v < 95 * 16 then false else s.pwr.critical
  let old := s.pwr
  let s := { s with pwr := { s.pwr with temperature := t, warm := warm, hot := hot, critical := critical } }
  let s := s.raiseFlag old.warm warm 395 1 oneUnit
  let s := if old.critical = critical then s
    else if critical then s.raiseSev 395 2 .set 14 oneUnit 0 0 else s.raise 395 2 .clear oneUnit 0 0
  if s.lapseNow || s.host.lapseConditions then s.judgeLapse else s

def execTemperatureThreshold (t : BitVec 16) (s : State) : Host.Outcome State Fault Refusal := .next (s.settled (s.temperature t))

end Sys2Proof.Machine
end

