-- ==== Sys2Proof/Machine/Maps.lean ====
section
/-! DEFINITION. Map jobs, the shadow bank, swaps, the persistent copy and the centre planes (R99, R106 to R111, R129
to R150). -/
namespace Sys2Proof.Machine

/-- The row of R132 that a list falls under: its bound in ticks, and whether it may end with TIME. -/
def SolverQuestion.row (q : SolverQuestion) : Nat × Bool :=
  let d := q.declared
  let on := q.planesOn.length
  let pairs := q.list.any (fun x => x.protect.isSome)
  let uni := unicast ((q.list.flatMap (fun x => x.paths d)).map (fun t => (t.inPort, t.inQuarter)))
  let news := q.list.filter (fun x => q.added.contains x.id)
  let quarters := (news.map (fun x => (x.paths d).length)).sum
  if !q.rearrange && !pairs && q.strictCase && news.all (fun x => x.kind = 0) then (min (10 * quarters) 40000, false)
  else if uni && !pairs && 3 ≤ on then (40000, false)
  else (400000, on != 4)

/-- The question that a running job puts to the solver (R131). -/
def State.jobQuestion (s : State) (j : MapJob) (xs : List Connection) (rearrange : Bool) (added : List (BitVec 32)) : SolverQuestion :=
  { list := xs, base := { s.map.active with generation := 0 }, planes := s.map.planes.toList.map (·.mode), settings := j.settings
    rearrange := rearrange, added := added }

/-- The question of the device's own re-route: the list in force onto the planes that are ON (R108, R111). -/
def State.rerouteQuestion (s : State) : SolverQuestion :=
  { list := s.map.active.list, base := { s.map.active with generation := 0 }, planes := s.map.planes.toList.map (·.mode)
    settings := s.ports.map (fun q => q.settings), rearrange := true, added := [] }

/-- The time bound of a map job and whether it may end with TIME (R132, R140), doubled while one solver core serves (R438). -/
def State.jobBound (s : State) (j : MapJob) : Nat × Bool :=
  let row := if j.raw then (40000, false)
    else match j.checked with
      | some (.list xs rearrange added) => (s.jobQuestion j xs rearrange added).row
      | _ => (400000, false)
  (if s.map.solverDoubled then 2 * row.1 else row.1, row.2)

/-- The declarations of a job (R129). -/
def MapJob.declared (j : MapJob) : Declared := fun p => j.settings[p]

/-- The checks of a job's input, on the declarations of the job's start (R129, R140). -/
def State.checkJob (s : State) (j : MapJob) (bs : List Byte) : MapCheck :=
  if j.raw then s.checkRaw j.declared j.protects bs else s.checkList j.declared j.protects bs

/-- The running job goes on with the input that it has: its checks, and its time from the next tick (R132). -/
def State.goOn (j : MapJob) (s : State) : State :=
  let j := { j with started := s.clock.tick + 1, checked := j.data.map (fun bs => s.checkJob j bs) }
  ({ s with map := { s.map with job := some j, shadowMode := .building } }).startJob j.command (s.jobBound j).1

/-- A job starts on the shadow bank: BUILDING, with the generation and the declarations of now (R129, R132, R135, R137). -/
def State.runJob (j : MapJob) (s : State) : State :=
  s.goOn { j with base := s.map.active.generation, settings := s.ports.map (fun q => q.settings), protects := s.protectPorts }

/-- MAP_SOLVE or MAP_RAW_LOAD is accepted: started in MIRROR, queued in MIRRORING (R350). -/
def State.acceptJob (c : CommandRef) (raw : Bool) (s : State) : State :=
  let j : MapJob := { (default : MapJob) with command := c, raw := raw }
  if s.map.shadowMode == .mirror then s.runJob j else { s with map := { s.map with queued := some j } }

/-- The input of a job has arrived (R132). -/
def State.jobInput (c : CommandRef) (bs : List Byte) (s : State) : State :=
  match s.map.job, s.map.queued with
  | some j, q =>
    if j.command = c then s.goOn { j with data := some bs }
    else { s with map := { s.map with queued := q.map (fun j => if j.command = c then { j with data := some bs } else j) } }
  | none, q => { s with map := { s.map with queued := q.map (fun j => if j.command = c then { j with data := some bs } else j) } }

/-- The results of a job (R350). -/
def jobResults (base : BitVec 64) (reason : Nat) (offenders : List Nat) (shared : Nat) : List Byte :=
  leBytes 8 base.toNat ++ leBytes 1 reason ++ [0] ++ leBytes 2 (min offenders.length 65535) ++ leBytes 4 shared
    ++ padTo 256 ((offenders.take 64).flatMap (leBytes 4))

/-- Post the completion of a job with its reason (R343, R350). -/
def State.answerJob (j : MapJob) (f : MapFailure) (shared : Nat) (s : State) : State :=
  let s := s.setChan j.command.channel (fun ch => ch.update j.command.token (fun e => { e with reason := BitVec.ofNat 8 f.reason }))
  s.complete j.command f.status f.detail (jobResults j.base f.reason f.offenders shared)

/-- The shadow bank goes to MIRRORING (R136). -/
def State.startMirroring (s : State) : State :=
  let now := s.clock.tick
  { s with map := { s.map with shadowMode := .mirroring, mirrorSince := now } }

/-- The running job ends without a bank: BUILDING goes to MIRRORING (R136). -/
def State.endJob (f : MapFailure) (s : State) : State :=
  match s.map.job with
  | some j => (({ s with map := { s.map with job := none } }).answerJob j f 0).startMirroring
  | none => s

/-- The running job has built its bank: READY (R136). -/
def State.finishJob (b : Bank) (s : State) : State :=
  match s.map.job with
  | some j =>
    ({ s with map := { s.map with job := none, shadow := b, shadowMode := .ready } }).answerJob j
      (mapFailure .ok 0 [] 0) b.sharedPairs
  | none => s

/-- Schedule a stand-alone swap (R141). -/
def State.scheduleSwap (f : BitVec 64) (persist : Bool) (c : Option CommandRef) (s : State) : State :=
  { s with map := { s.map with
    swap := some { frame := f, persist := persist, command := c, latched := false }
    shadowMode := if s.map.shadowMode == .ready then .scheduled else s.map.shadowMode } }

/-- The earliest swap frame of a command that executes now (R141). -/
def State.earliestSwap (s : State) : BitVec 64 := s.clock.frame + BitVec.ofNat 64 s.swapLead

/-- The device's own re-route has its bank: it swaps as soon as possible, through the master in a cascade (R108, R111,
R290). -/
def State.rerouteSwap (b : Bank) (s : State) : State :=
  let s := { s with map := { s.map with shadow := b } }
  if s.casc.mode == .standalone then s.scheduleSwap s.earliestSwap false none else s.requestSwap none false none

/-- The device's own re-route fails: an event with the connections not placed; every draining plane that the active bank still
uses returns to ON, and its PLANE_SETs end with ERR_RESOURCE (R108, R136, R356). -/
def State.rerouteFails (ids : List (BitVec 32)) (s : State) : State :=
  let s := s.raise 364 2 .occurrence oneUnit ids.length 0
  let s := { s with map := { s.map with rerouteWanted := false } }
  let back (s : State) (k : Fin 4) : State :=
    if s.map.planes[k].mode == PlaneMode.draining && s.map.active.planesUsed.contains k.val then
      (s.setPlaneMode k .on).answerPlane k .errResource
    else s
  ((List.finRange 4).foldl back s).startMirroring

/-- HBM scratch is missing: a job that needs it ends with SCRATCH (R559). -/
def State.noScratch (s : State) : Bool := !s.domainOn 49 || !s.domainOn 50

/-- Both solver cores have failed (R438). -/
def State.solversFailed (s : State) : Bool := s.mgmt.solverFailed.toList.all id

/-- SOLVER_JOB_DONE: the solver ends a host's job or the device's own re-route (R108, R111, R131, R133, R134). -/
def State.solverDone (s : State) : State :=
  match s.map.shadowMode, s.map.job with
  | .building, some j =>
    if s.solversFailed then s.endJob (mapFailure .errUnusable 0 [] 0)
    else match j.checked with
    | some (.bad f) => if j.raw then s else s.endJob f
    | some (.list xs rearrange added) =>
      if s.noScratch then s.endJob (mapFailure .errResource 0x0E [] 0)
      else match (s.jobQuestion j xs rearrange added).answer with
        | some (.built b) => s.finishJob b
        | some (.failed reason st ids) => s.endJob { status := st, reason := reason, offenders := ids.map (·.toNat), detail := 0 }
        | none => s
    | _ => s
  | .held, _ =>
    if s.map.swap.isSome || s.casc.staged.isSome || s.solversFailed then s
    else if s.noScratch then s.rerouteFails []
    else match s.rerouteQuestion.answer with
      | some (.built b) => if s.casc.mode == .joining || s.casc.mode == .flywheel then s else s.rerouteSwap b
      | some (.failed _ _ ids) => s.rerouteFails ids
      | none => s
  | _, _ => s

/-- A report of a solver core: one that has failed reports nothing while the other still works; with both failed every job ends
(R438). -/
def State.solverReports (core : Fin 2) (s : State) : State :=
  if s.mgmt.solverFailed[core] && !s.solversFailed then s else s.solverDone

def execSolverJobDone (core : Fin 2) (s : State) : Host.Outcome State Fault Refusal := .next (s.settled (s.solverReports core))

/-- SOLVER_TIME_LIMIT: a job of the last row of R132 reaches that bound, 200 ms (R133). -/
def State.solverTime (s : State) : State :=
  match s.map.job with
  | some j =>
    let (last, ends) := s.jobBound j
    if s.map.shadowMode == .building && !j.raw && ends && j.started + last ≤ s.clock.tick then
      s.endJob (mapFailure .errResource 0x0D [] 0)
    else s
  | none => s

def execSolverTimeLimit (s : State) : Host.Outcome State Fault Refusal := .next (s.settled s.solverTime)

/-- RAW_MAP_VERIFIED: the raw map becomes READY or is refused (R140). -/
def State.rawVerified (s : State) : State :=
  match s.map.shadowMode, s.map.job with
  | .building, some j =>
    if s.solversFailed then s.endJob (mapFailure .errUnusable 0 [] 0)
    else match j.checked with
    | some (.bad f) => if j.raw then s.endJob f else s
    | some (.raw b) => if s.noScratch then s.endJob (mapFailure .errResource 0x0E [] 0) else s.finishJob b
    | _ => s
  | _, _ => s

def execRawMapVerified (s : State) : Host.Outcome State Fault Refusal := .next (s.settled s.rawVerified)

/-- MIRRORING_DONE: the shadow bank equals the active bank; the device's own re-route takes it before a queued job
(R135, R136). -/
def State.mirroringDone (s : State) : State :=
  if s.map.shadowMode == .mirroring then
    let s := { s with map := { s.map with shadow := s.map.active, shadowMode := .mirror } }
    if s.map.rerouteWanted && s.host.service == 2 then { s with map := { s.map with shadowMode := .held } }
    else match s.map.queued with
      | some j => ({ s with map := { s.map with queued := none } }).runJob j
      | none => s
  else s

def execMirroringDone (s : State) : Host.Outcome State Fault Refusal := .next (s.settled s.mirroringDone)

/-- SWAP_LATCH: at tick F−7 the swap is latched into every time stage and plane (R142). -/
def State.latchSwap (s : State) : State :=
  match s.map.swap with
  | some w => if w.frame ≤ s.clock.frame + 7 then { s with map := { s.map with swap := some { w with latched := true } } } else s
  | none => s

def execSwapLatch (s : State) : Host.Outcome State Fault Refusal := .next (s.settled s.latchSwap)

/-- Whether the active bank names positions of a plane that is not ON (R111, R149). -/
def State.needsReroute (s : State) : Bool :=
  s.map.active.usedPlaneKeys.any (fun k => !s.planesOn.any (fun j => j.val == k / 262144))

/-- Whether a pair keeps its selection state from one bank to the next: the same identifier and the same two sources
(R19). -/
def keepsPair (old new : Bank) (id : BitVec 32) : Bool :=
  match old.list.find? (fun x => x.id == id), new.list.find? (fun x => x.id == id) with
  | some a, some b => a.protect.isSome && a.kind == b.kind && a.source == b.source && a.protect == b.protect
  | _, _ => false

/-- A pair that does not keep its state starts from its working member; a command held on it is dropped with an event
(R19, R358). -/
def State.keepPairs (old new : Bank) (s : State) : State :=
  let gone := s.prot.pairUnits.filter (fun x => !keepsPair old new x.1)
  let s := { s with prot := { s.prot with pairUnits := s.prot.pairUnits.filter (fun x => keepsPair old new x.1) } }
  gone.foldl (fun (s : State) (x : BitVec 32 × ProtUnit) =>
    match old.list.find? (fun c => c.id == x.1) with
    | some c =>
      if x.2.lo || x.2.fs.isSome || x.2.ms.isSome then s.raisePair c.source.port.val 2 .refused x.1.toNat 0 0 else s
    | none => s) s

/-- The copy in a slot of the map region, when its digest verifies (R147). -/
def State.validCopy (s : State) (i : Fin 2) : Option Bank :=
  match s.map.copies[i] with
  | some c => if c.verifies then some c.bank else none
  | none => none

/-- The persistent copy: the valid one of the higher generation (R147). -/
def State.persistentCopy (s : State) : Option Bank :=
  match s.validCopy 0, s.validCopy 1 with
  | some a, some b => if a.generation ≤ b.generation then some b else some a
  | some a, none => some a
  | none, b => b

/-- The generation of the persistent copy; 0 when there is none (R147, R354). -/
def State.persistGeneration (s : State) : Nat := ((s.persistentCopy).map (fun b => b.generation.toNat)).getD 0

/-- The slot that is written next: not the persistent copy's (R147). -/
def State.writtenSlot (s : State) : Fin 2 :=
  match s.validCopy 0, s.validCopy 1 with
  | none, _ => 0
  | some _, none => 1
  | some a, some b => if a.generation ≤ b.generation then 0 else 1

/-- Begin a persistent write of the bank in force, unless one runs: the slot's old copy no longer verifies (R147, R148). -/
def State.startPersist (s : State) : State :=
  if s.map.persisting.isSome then s
  else
    let slot := s.writtenSlot
    { s with map := { s.map with persisting := some s.map.active, copies := s.map.copies.set slot none } }

/-- The swap takes place: the banks change places, the generation increases, the shadow bank mirrors (R101, R136, R142,
R148), and a persistent write of the new bank begins when the swap asks for it. -/
def State.takeSwap (w : MapSwap) (s : State) : State :=
  let old := s.map.active
  let new := { s.map.shadow with generation := old.generation + 1 }
  let s := { s with map := { s.map with
    active := new, shadow := old, swap := none, leaving := some w, toRebuild := []
    sharedPairs := new.sharedPairs } }
  let s := s.keepPairs old new
  let s := { s with map := { s.map with rerouteWanted := s.needsReroute } }
  let s := if w.persist then s.startPersist else s
  s.startMirroring

/-- Whether a scheduled swap is due: the centre pass of frame F begins at tick F−1 (R142). -/
def State.swapDue (s : State) : Option MapSwap :=
  match s.map.swap with
  | some w => if w.frame ≤ s.clock.frame + 1 then some w else none
  | none => none

/-- Take a due swap. -/
def State.takeDueSwap (s : State) : State :=
  match s.swapDue with
  | some w => s.takeSwap w
  | none => s

def execSwapTakesPlace (s : State) : Host.Outcome State Fault Refusal := .next (s.settled s.takeDueSwap)

/-- The participant's part of a cascade swap that has completed: COMPLETE to the master (R294). -/
def State.sendComplete (s : State) : State :=
  match s.casc.staged with
  | some g =>
    let s := { s with casc := { s.casc with staged := none } }
    if s.isMaster then s.noteComplete s.ownIndex g.id else s.originate msgComplete g.id 0
  | none => s

/-- SWAP_COMPLETE: output frame F has left; the swap command completes with OK and F (R142, R294). -/
def State.swapComplete (s : State) : State :=
  match s.map.leaving with
  | some w =>
    if w.frame ≤ s.clock.frame then
      let gen := s.map.active.generation
      let s := { s with map := { s.map with leaving := none } }
      let s := s.raise 364 4 .occurrence oneUnit (gen.toNat % 4294967296) (w.frame.toNat % 4294967296)
      let s := match w.command with
        | some c =>
          let s := s.complete c .ok 0 (leBytes 8 w.frame.toNat ++ leBytes 8 gen.toNat)
          if gen.toNat ≤ s.persistGeneration then s.commit c
          else { s with map := { s.map with persistWaits := s.map.persistWaits ++ [(c, gen)] } }
        | none => s
      s.sendComplete
    else s
  | none => s

def execSwapComplete (s : State) : Host.Outcome State Fault Refusal := .next (s.settled s.swapComplete)

/-- A persistent write ends for one waiting command: MAP_PERSIST completes; either command reaches its commitment
(R148, R355). -/
def State.persisted (gen : BitVec 64) (c : CommandRef) (s : State) : State :=
  match (s.chan c.channel).find c.token with
  | some e =>
    let s := if e.opcode == 0x0309 then s.complete c .ok 0 (leBytes 8 gen.toNat) else s
    s.commit c
  | none => s

/-- PERSIST_DONE: the persistent copy holds the bank (R148). -/
def State.persistDone (s : State) : State :=
  match s.map.persisting with
  | some b =>
    let slot := s.writtenSlot
    let done := s.map.persistWaits.filter (fun w => w.2 ≤ b.generation)
    let left := s.map.persistWaits.filter (fun w => !(decide (w.2 ≤ b.generation)))
    let s := { s with map := { s.map with copies := s.map.copies.set slot (some (.of b)), persisting := none, persistWaits := left } }
    let s := done.foldl (fun s w => s.persisted b.generation w.1) s
    if left.any (fun w => match (s.chan w.1.channel).find w.1.token with | some e => e.persist || e.opcode == 0x0309 | none => false)
    then s.startPersist else s
  | none => s

def execPersistDone (s : State) : Host.Outcome State Fault Refusal := .next (s.settled s.persistDone)

/-- PLANE_TEST_PASSED: 65,536 passes in TESTING without a mismatch (R107, R356). -/
def State.planeTested (k : Fin 4) (s : State) : State :=
  let q := s.map.planes[k]
  if q.mode == .testing && 65536 ≤ q.passes then
    (s.setPlaneMode k .on).answerPlane k .ok
  else s

def execPlaneTestPassed (k : Fin 4) (s : State) : Host.Outcome State Fault Refusal := .next (s.settled (s.planeTested k))

/-- A plane goes OFF; its power domain then leaves ON, and a pending PLANE_SET completes (R107, R356). -/
def State.planeOff (k : Fin 4) (s : State) : State :=
  ((s.setPlaneMode k .off).requestDomain (planeDomain k) .off .device).answerPlane k .ok

/-- Whether a committed shadow bank stands: its swap is fixed or staged (R107). -/
def State.shadowCommitted (s : State) : Bool := s.map.shadowMode == .scheduled || s.map.swap.isSome

/-- PLANE_DRAINED: the active bank and any committed shadow bank hold no entry on the plane (R107). -/
def State.planeDrained (k : Fin 4) (s : State) : State :=
  let free (b : Bank) : Bool := !b.planesUsed.contains k.val
  if s.map.planes[k].mode == .draining && free s.map.active && (!s.shadowCommitted || free s.map.shadow) then s.planeOff k
  else s

def execPlaneDrained (k : Fin 4) (s : State) : Host.Outcome State Fault Refusal := .next (s.settled (s.planeDrained k))

/-- BANK_SCRUB: both banks, once every 2^20 frames (R99). -/
def execBankScrub (found : List BankError) (s : State) : Host.Outcome State Fault Refusal :=
  .next (s.settled (found.foldl (fun s x => s.bankError x) s))

/-- A request off for a plane: DRAINING from ON, OFF from FAULT (R107, R108, R356). -/
def State.drainPlane (k : Fin 4) (c : CommandRef) (s : State) : State :=
  let s := s.setPlane k (fun q => { q with commands := q.commands ++ [c] })
  match s.map.planes[k].mode with
  | .fault => s.planeOff k
  | _ => (s.setPlaneMode k .draining).startReroute

/-- A request on for a plane: its domain first (R107). -/
def State.wakePlane (k : Fin 4) (c : CommandRef) (s : State) : State :=
  let s := s.setPlane k (fun q => { q with commands := q.commands ++ [c], wanted := true })
  if s.domainOn (planeDomain k) && s.pwr.running.isNone && !s.pwr.waiting.any (fun w => w.domain == planeDomain k) then
    s.reachDomain (planeDomain k) .on
  else s.requestDomain (planeDomain k) .on .device

/-- A plane that entered FAULT while a request off was pending goes OFF at the next tick (R356). -/
def State.faultedOff (s : State) : State :=
  (List.finRange 4).foldl (fun s k =>
    if s.map.planes[k].mode == .fault && !s.map.planes[k].commands.isEmpty then s.planeOff k else s) s

/-- MAP_CANCEL_JOB: end the running job with CANCELLED, or remove the queued one (R133, R351). -/
def State.cancelJob (ticket : Nat) (s : State) : State :=
  let named (j : MapJob) : Bool := match (s.chan j.command.channel).recorded j.command.token with
    | some e => e.ticket.toNat == ticket
    | none => false
  match s.map.job, s.map.queued with
  | some j, q =>
    if named j then s.endJob (mapFailure .errState 0x10 [] 0)
    else match q with
      | some j => if named j then ({ s with map := { s.map with queued := none } }).answerJob j (mapFailure .errState 0x10 [] 0) 0 else s
      | none => s
  | none, some j =>
    if named j then ({ s with map := { s.map with queued := none } }).answerJob j (mapFailure .errState 0x10 [] 0) 0 else s
  | none, none => s

/-- Whether a ticket names the running or the queued map job (R351). -/
def State.mapTicket (s : State) (ticket : Nat) : Bool :=
  ([s.map.job, s.map.queued].filterMap (fun j => j)).any (fun j =>
    match (s.chan j.command.channel).recorded j.command.token with
    | some e => e.ticket.toNat == ticket
    | none => false)

/-- The ticket of a map job, or 0 (R354). -/
def State.ticketOf (s : State) (j : Option MapJob) : Nat :=
  match j with
  | some j => (((s.chan j.command.channel).find j.command.token).map (·.ticket.toNat)).getD 0
  | none => 0

/-- SOLVER_CORE_FAILURE: the other core restarts the job alone with doubled bounds; with both out, the job ends
(R438). -/
def State.solverCoreFails (i : Fin 2) (s : State) : State :=
  let s := ({ s with mgmt := { s.mgmt with solverFailed := s.mgmt.solverFailed.set i true } }).loseCore ⟨2 + i.val, by omega⟩
  let s := s.raise (320 + i.val) 1 .fault i.val 0 0
  let s := { s with map := { s.map with solverDoubled := true } }
  let s := if s.mgmt.solverFailed.toList.all id then s else s.raise (320 + i.val) 3 .occurrence i.val 0 0
  if s.mgmt.solverFailed.toList.all id then s.endJob (mapFailure .errUnusable 0 [] 0)
  else match s.map.job with
    | some j => s.runJob j
    | none => s

def execSolverCoreFailure (i : Fin 2) (s : State) : Host.Outcome State Fault Refusal := .next (s.settled (s.solverCoreFails i))

/-- SOLVER_CORE_REPAIR: a failed core rejoins in an interval with no job (R438). -/
def State.solverCoreRepair (i : Fin 2) (s : State) : State :=
  if s.mgmt.solverFailed[i] && s.map.job.isNone then
    let s := { s with mgmt := { s.mgmt with solverFailed := s.mgmt.solverFailed.set i false } }
    let s := { s with map := { s.map with solverDoubled := s.mgmt.solverFailed.toList.any id } }
    s.raise (320 + i.val) 2 .repair i.val 0 0
  else s

def execSolverCoreRepair (i : Fin 2) (s : State) : Host.Outcome State Fault Refusal := .next (s.settled (s.solverCoreRepair i))

end Sys2Proof.Machine
end

