-- ==== Sys2Proof/Machine/Timing.lean ====
section
/-! DEFINITION. References, the DPLL, holdover, the epoch, steps of the tick, and the outputs (chapter 9). -/
namespace Sys2Proof.Machine

/-- Ticks in a second. -/
def second : Nat := 2000000

/-- The event source of a reference (R275). -/
def refSource (i : Fin 12) : Nat := 233 + i.val

/-- Change the timing subsystem. -/
def State.setDpll (f : DpllState → DpllState) (s : State) : State := { s with dpll := f s.dpll }

/-- Change one reference. -/
def State.setRef (i : Fin 12) (f : Reference → Reference) (s : State) : State :=
  s.setDpll (fun d => { d with refs := d.refs.set i (f d.refs[i]) })

/-- The measurement base is SYS_OSC, which the device reports as COARSE (R252). -/
def State.coarse (s : State) : Bool := !s.dpll.holdOscQualified

/-- The accept and reject limits of the gate in progress, in 0.1 ppb (R250, R252). -/
def State.refLimits (s : State) (r : Reference) : Nat × Nat :=
  if s.coarse then (500000, 1000000) else (10 * r.gateAccept, 10 * r.gateReject)

/-- A gate begins, with the limits in force (R250). -/
def Reference.startGate (r : Reference) : Reference := { r with gateAccept := r.accept, gateReject := r.reject }

/-- A qualification begins, with the qualification time in force (R250, R253). -/
def Reference.startQualification (now : Nat) (r : Reference) : Reference := { r with qualSince := now, qualTime := r.qualSeconds }

/-- The conditions of R249 for a line clock. -/
def State.lineClockOk (s : State) (r : Reference) : Bool :=
  let q := s.port (Fin.ofNat 512 r.nominal)
  q.mode == .up && !q.has .los && !q.has .lof && !q.has .lop && !q.has .auth

/-- The period of a PULSE reference in ticks (R249). -/
def pulseTicks (nominal : Nat) : Nat :=
  if nominal = 0 then 2000000 else if nominal = 1 then 200000 else if nominal = 2 then 20000 else 2000

/-- The epoch source: the primary while it is qualified, and otherwise the secondary (R263). -/
def State.epochChoice (s : State) : Option (Fin 8) :=
  let of (role : Nat) : Option (Fin 8) := (List.finRange 8).find? (fun i =>
    let r := s.dpll.refs[i.val]
    r.kind == .pulse && r.epochRole == role && r.qualified)
  match of 1 with
  | some i => some i
  | none => of 2

/-- An index as an event parameter. -/
def indexParam {n : Nat} (i : Option (Fin n)) : Nat := match i with | some i => i.val | none => oneUnit

/-- The epoch condition changes (R263, R264). -/
def State.setEpochMet (met : Bool) (s : State) : State :=
  let old := s.dpll.epochMet
  let s := s.setDpll (fun d => { d with epochMet := met, epochLost := d.epochLost || (old && !met) })
  s.raiseFlag old met 247 1 oneUnit

/-- Follow a change of the epoch source; without a qualified one the epoch condition is lost (R263). -/
def State.judgeEpochSource (s : State) : State :=
  let new := s.epochChoice
  let old := s.dpll.epochSource
  if old = new then s
  else
    let s := (s.setDpll (fun d => { d with epochSource := new })).raise 247 2 .occurrence oneUnit (indexParam old) (indexParam new)
    if new.isNone then (s.setEpochMet false).setDpll (fun d => { d with epochGoodRun := 0, epochBadRun := 0 }) else s

/-- A reference is disqualified (R253). -/
def State.disqualify (i : Fin 12) (s : State) : State :=
  let now := s.clock.tick
  let was := s.dpll.refs[i].qualified
  let s := s.setRef i (fun r => { r.startQualification now with qualified := false, disqualified := true })
  (s.raiseIf was (refSource i) 2 .occurrence i.val 0 0).judgeEpochSource

/-- A reference loses its activity (R251, R253). -/
def State.loseActivity (i : Fin 12) (s : State) : State :=
  (s.setRef i (fun r => { r with active := false, goodRun := 0, badRun := 0 })).disqualify i

/-- A reference has activity again (R251). -/
def State.gainActivity (i : Fin 12) (s : State) : State :=
  let now := s.clock.tick
  s.setRef i (fun r => if r.active then r else { r.startQualification now with active := true, activeSince := now })

/-- A change of the measurement base restarts the qualification of every reference that is not qualified (R252). -/
def State.changeBase (s : State) : State :=
  let now := s.clock.tick
  s.setDpll (fun d => { d with refs := d.refs.map (fun r => if r.qualified then r else r.startQualification now) })

/-- A pulse is bad (R251). -/
def pulseBad (m : PulseMeasure) (r : Reference) : Bool :=
  let period := 500 * pulseTicks r.nominal
  r.tolerance < m.deviation || m.highNs < 100 || period - 100 < m.highNs

/-- The tick belongs to another device: references steer nothing (R267, R285). -/
def State.slaved (s : State) : Bool :=
  match s.casc.mode with
  | .standalone => false
  | .joined => s.casc.role != .master
  | .joining | .flywheel => true

/-- Whether the loop is open (R270). -/
def State.loopOpen (s : State) : Bool := s.dpll.mode == .softloop || s.dpll.mode == .softloopLocked

/-- A transmitter keeps its line timing while the tick moves later by `r` units: its lag grows, and a frame with an envelope
carries the pointer of the new position (R42, R266); idle and stopped frames carry pointer 0 (R93). -/
def Transmitter.moveLag (r : Nat) (plainFrame : Bool) (t : Transmitter) : Transmitter :=
  let lag := (t.lag + r) % 10000
  { t with lag := lag, pointer := if plainFrame then 0 else lagPositions lag }

/-- The tick steps by `shift` in 50 ps units: the present period is lengthened by the whole core cycles (of 625/32 units), the
rest of `r` is left to a phase slew (1/32 unit is 3,125,000 ppt for one tick), the transmitters keep their line timing
and send the pointer of their new position, and the count moves at the next tick; a rejoin clears the slip offsets (R264, R266, R302). -/
def State.stepTick (shift : Int) (rejoin : Bool) (s : State) : State :=
  let k := Int.fdiv shift 10000
  let r := (Int.fmod shift 10000).toNat
  let s := s.setDpll (fun d =>
    { d with step := some k, extraCycles := r * 32 / 625, slewLeft := d.slewLeft + r * 32 % 625 * 3125000 })
  let back := decide (0 < k)
  let ports := s.ports.map (fun q =>
    { q with
      tx := if q.mode == .down then q.tx else q.tx.moveLag r q.sendsPlain
      link := if back then { q.link with steppedBack := true } else q.link
      slip := if rejoin then 0 else q.slip })
  let lo := (shift % 4294967296).toNat
  let hi := (Int.fdiv shift 4294967296 % 4294967296).toNat
  -- a rejoin step records its size and the frames skipped or invalidated (R303)
  ({ s with ports := ports }).raise (if rejoin then 270 else 247) (if rejoin then 2 else 3) .occurrence oneUnit lo
    (if rejoin then k.natAbs % 4294967296 else hi)

/-- The RTC's time at this moment in 50 ps units (R263). -/
def State.rtcUnits (s : State) : Nat :=
  s.rtc.seconds.toNat * 20000000000 + s.rtc.subSeconds.toNat * 20000000000 / 32768

/-- The epoch error E of a pulse that arrives `instant` after the start of the present tick (R263). -/
def State.epochErrorOf (s : State) (nominal : Nat) (instant : Int) : Int :=
  let period := 10000 * pulseTicks nominal
  let named := (s.rtcUnits + period / 2) / period * period
  ((named / 10000 : Nat) - (s.clock.frame.toNat : Int)) * 10000 - (instant + s.dpll.settings.tickOffset)

/-- Whether a measurement of E steps the tick (R264, R267, R270). -/
def State.stepsNow (s : State) (e : Int) : Bool :=
  !s.slaved && (s.dpll.hostStep.isSome
    || (!s.loopOpen && (!s.dpll.aligned
      || (s.dpll.epochLost && s.dpll.settings.autoStep && decide (20 * s.dpll.settings.stepThreshold < e.natAbs)))))

/-- A report of the software loop: PARAM1 the phase error and PARAM2 E as last measured, while the host enables source 249
(R270, R275; log 69). -/
def State.phaseReport (s : State) : State :=
  s.raiseIf (s.loopOpen && (s.ev.route 249).enable) 249 4 .occurrence oneUnit (s.dpll.phaseError % 4294967296).toNat
    (s.dpll.epochError % 4294967296).toNat

/-- EPOCH_MEASUREMENT: a pulse of the epoch source (R263, R264). -/
def State.measureEpoch (nominal : Nat) (instant : Int) (s : State) : State :=
  let e := s.epochErrorOf nominal instant
  let near := decide (e.natAbs ≤ 20 * s.dpll.settings.epochWindow)
  let good := if near then s.dpll.epochGoodRun + 1 else 0
  let bad := if near then 0 else s.dpll.epochBadRun + 1
  let steps := s.stepsNow e
  let beyond := s.dpll.aligned && decide (10000 * pulseTicks nominal / 2 < e.natAbs)
  let s := s.setDpll (fun d =>
    { d with epochError := e, epochGoodRun := good, epochBadRun := bad, aligned := true, epochLost := false
             pullError := if steps then 0 else e })
  let s := s.phaseReport
  let s := s.raiseIf beyond 247 4 .occurrence oneUnit (e.natAbs % 4294967296) 0
  let s := if !s.dpll.epochMet && 3 ≤ good then s.setEpochMet true
    else if s.dpll.epochMet && 3 ≤ bad then s.setEpochMet false else s
  if steps then
    let shift := -e
    let first := s.clock.frame + 1 - BitVec.ofInt 64 (Int.fdiv shift 10000)
    let s := s.stepTick shift false
    match s.dpll.hostStep with
    | some (c, _) =>
      (s.setDpll (fun d => { d with hostStep := none })).complete c .ok 0 (leSigned 8 shift ++ leBytes 8 first.toNat)
    | none => s
  else s

/-- REF_PULSE: a pulse arrives on a PULSE reference, and is judged good or bad (R251, R263). -/
def State.refPulse (i : Fin 8) (m : PulseMeasure) (s : State) : State :=
  let j : Fin 12 := ⟨i.val, by have := i.isLt; omega⟩
  let r := s.dpll.refs[j]
  let now := s.clock.tick
  if r.kind != .pulse then s
  else
    let bad := pulseBad m r
    let s := s.setRef j (fun r =>
      if bad then { r with badRun := r.badRun + 1, goodRun := 0 }
      else { r with goodRun := r.goodRun + 1, badRun := 0, lastGood := now })
    let s := if bad && 1 ≤ r.badRun && r.active then s.loseActivity j
      else if !bad && 3 ≤ r.goodRun then s.gainActivity j else s
    if s.dpll.epochSource = some i then s.measureEpoch r.nominal m.instant else s

def execRefPulse (i : Fin 8) (m : PulseMeasure) (s : State) : Host.Outcome State Fault Refusal := .next (s.settled (s.refPulse i m))

/-- REF_ACTIVITY_LOST: no edge, or no good pulse, within its limit (R251). -/
def State.refActivityLost (i : Fin 12) (s : State) : State :=
  let r := s.dpll.refs[i]
  let late := match r.kind with
    | .none => false
    | .pulse => decide (3 * pulseTicks r.nominal < 2 * (s.clock.tick - r.lastGood))
    | .clock | .line => true
  if r.active && late then s.loseActivity i else s

def execRefActivityLost (i : Fin 12) (s : State) : Host.Outcome State Fault Refusal := .next (s.settled (s.refActivityLost i))

/-- REF_ACTIVITY_PRESENT: edges for 1 ms, or 4 good pulses (R251). -/
def State.refActivityPresent (i : Fin 12) (s : State) : State :=
  let r := s.dpll.refs[i]
  let ok := match r.kind with
    | .none => false
    | .pulse => decide (4 ≤ r.goodRun)
    | .clock => true
    | .line => s.lineClockOk r
  if ok then s.gainActivity i else s

def execRefActivityPresent (i : Fin 12) (s : State) : Host.Outcome State Fault Refusal := .next (s.settled (s.refActivityPresent i))

/-- REF_GATE_END: a frequency gate ends with an offset in 0.1 ppb (R252, R253). -/
def State.refGateEnd (i : Fin 12) (offset : Int) (s : State) : State :=
  let r := s.dpll.refs[i]
  let now := s.clock.tick
  if r.kind == .none then s
  else
    let (a, j) := s.refLimits r
    let s := s.setRef i (fun r => { r.startGate with offset := offset })
    if j < offset.natAbs then (if r.qualified then s.disqualify i else s.setRef i (Reference.startQualification now))
    else if a < offset.natAbs && !r.qualified then s.setRef i (Reference.startQualification now)
    else s

def execRefGateEnd (i : Fin 12) (offset : Int) (s : State) : Host.Outcome State Fault Refusal := .next (s.settled (s.refGateEnd i offset))

/-- REF_QUALIFIED: the qualification time has passed within limits (R253). -/
def State.refQualified (i : Fin 12) (s : State) : State :=
  let r := s.dpll.refs[i]
  if r.kind != .none && r.active && !r.qualified && r.qualSince + second * r.qualTime ≤ s.clock.tick then
    ((s.setRef i (fun r => { r with qualified := true, disqualified := false })).raise (refSource i) 1 .occurrence i.val 0 0).judgeEpochSource
  else s

def execRefQualified (i : Fin 12) (s : State) : Host.Outcome State Fault Refusal := .next (s.settled (s.refQualified i))

/-- HOLD_OSC_QUALIFIED: HOLD_OSC becomes the measurement base (R252, R254). -/
def State.holdOscQualified (s : State) : State :=
  if s.dpll.holdOscQualified then s
  else
    let s := s.setDpll (fun d => { d with holdOscActive := true, holdOscQualified := true })
    ((s.raise 245 1 .set oneUnit 0 0).raise 245 2 .clear oneUnit 0 0).changeBase

def execHoldOscQualified (s : State) : Host.Outcome State Fault Refusal := .next (s.settled s.holdOscQualified)

/-- HOLD_OSC_GATE_END: a 1 s gate of HOLD_OSC against the output while the DPLL is LOCKED (R254). -/
def State.holdOscGateEnd (ppt : Int) (s : State) : State :=
  if s.dpllCode == 2 then
    s.setDpll (fun d => { d with holdOscPpt := ppt, holdOscMeasured := true, holdOscOutput := d.outputPpt })
  else s

def execHoldOscGateEnd (ppt : Int) (s : State) : Host.Outcome State Fault Refusal := .next (s.settled (s.holdOscGateEnd ppt))

/-- The new DPLL state with what its entry does (R258, R259, R268). -/
def State.enterDpll (m : DpllMode) (s : State) : State :=
  let old := s.dpll.mode
  let now := s.clock.tick
  let s := s.setDpll (fun d => { d with mode := m })
  let s := if m == .locked && old != .locked then s.setDpll (fun d => { d with lockedSince := now })
    else if old == .locked && m != .locked then s.setDpll (fun d => { d with lockEnd := now })
    else s
  if m == .freerun then s.setDpll (fun d => { d with demand := 0 }) else s

/-- DPLL_STATE[2:0] takes the code that the device reports, with the event of a change (R18, R262, R275). -/
def State.updateStatePins (s : State) : State :=
  let code := s.dpllCode
  (s.setDpll (fun d => { d with statePins := code })).raiseState s.dpll.statePins.toNat code.toNat 232 1 oneUnit

/-- Whether the holdover history is valid: the last LOCKED period lasted 300 s, and the averaging time plus 2 s (R268). -/
def State.historyOk (s : State) : Bool :=
  let stop := if s.dpll.mode == .locked then s.clock.tick else s.dpll.lockEnd
  let lasted := stop - s.dpll.lockedSince
  decide (300 * second ≤ lasted) && decide ((s.dpll.settings.historyAverage + 2) * second ≤ lasted)

/-- The time integral of the recorded output over `[a, b)`, entries newest first. -/
def outputSum (a b : Nat) : List (Nat × Int) → Int
  | [] => 0
  | (t, v) :: rest =>
    let lo := max a t
    if lo < b then v * (b - lo : Nat) + outputSum a lo rest else outputSum a b rest

/-- What the history keeps: the changes since tick `from_`, and the value in force then (R268). -/
def keepPast (from_ : Nat) : List (Nat × Int) → List (Nat × Int)
  | [] => []
  | x :: rest => if x.1 ≤ from_ then [x] else x :: keepPast from_ rest

/-- The holdover frequency: the average over the averaging time that ends 2 s before the end of lock, expressed against
HOLD_OSC through its measured offset (R254, R268; log 66). -/
def State.holdoverPpt (s : State) : Int :=
  let stop := s.dpll.lockEnd - 2 * second
  let span := s.dpll.settings.historyAverage * second
  let average := if span = 0 then s.dpll.outputPpt else Int.fdiv (outputSum (stop - span) stop s.dpll.outputPast) span
  if s.dpll.holdOscMeasured then average - (s.dpll.holdOscOutput + s.dpll.holdOscPpt) else average

/-- Enter HOLDOVER, for the loss of every reference or of the epoch alone (R259, R268). -/
def State.enterHoldover (epoch : Bool) (s : State) : State :=
  let valid := s.historyOk
  let now := s.clock.tick
  let s := s.setDpll (fun d =>
    { d with holdoverSince := now, epochHoldover := epoch, historyValid := valid, holdoverPast := false })
  let within := (valid || epoch) && s.dpll.holdOscQualified
  let s := s.enterDpll (if within then .holdover else .holdoverBeyond)
  if epoch then s else s.setDpll (fun d => { d with demand := s.holdoverPpt })

/-- The rows for ACQUIRE that end it without a reference, also after the loop closes (R259). -/
def State.acquireOrHold (s : State) : State :=
  if s.dpll.selected.isSome then s.enterDpll .acquire
  else if s.historyOk then s.enterHoldover false else s.enterDpll .freerun

/-- Loss of lock: 4 updates in a row beyond four windows (R260). -/
def DpllState.lockLost (d : DpllState) : Bool := 4 ≤ d.lossRun

/-- The row "any to SOFTLOOP": the host opens the loop, and the DCO word starts at the present output offset, unless the host
has written one since (R259, R270). -/
def State.openRow (s : State) : State :=
  if s.dpll.loopAsk == some true then
    let s := s.setDpll (fun d =>
      { d with loopAsk := none, dcoFresh := false, dcoWord := if d.dcoFresh then d.dcoWord else d.outputPpt })
    (s.enterDpll (if s.dpll.declareLock then .softloopLocked else .softloop)).raise 249 1 .occurrence oneUnit 0 0
  else s

/-- SOFTLOOP: the loop closes, or the code follows the DECLARE_LOCK of the last write (R259, R270). -/
def State.softRows (s : State) : State :=
  if s.dpll.loopAsk == some false then
    (s.setDpll (fun d => { d with loopAsk := none, demand := d.outputPpt })).acquireOrHold.raise 249 2 .occurrence oneUnit 0 0
  else s.enterDpll (if s.dpll.declareLock then .softloopLocked else .softloop)

/-- HOLDOVER: the rows in their order. In epoch holdover a reference that goes too makes it reference holdover, at the
holdover frequency (R258, R259, R268; log 70). -/
def State.holdoverRows (s : State) : State :=
  let d := s.dpll
  if d.epochHoldover && d.epochMet then s.enterDpll .locked
  else if !d.epochHoldover && d.selected.isSome then s.enterDpll .acquire
  else
    let s := if d.epochHoldover && d.selected.isNone then
        s.setDpll (fun d => { d with epochHoldover := false, demand := s.holdoverPpt }) else s
    if d.mode == .holdover && (d.holdoverPast || !d.holdOscQualified) then s.enterDpll .holdoverBeyond else s.openRow

/-- DPLL_STATE_CHANGE on a tick boundary: the first row that applies to the present state (R259); a device that follows
another's tick makes only the changes of the software loop (R267, R285). `lost`: loss of lock since the last tick. -/
def State.stepMode (lost : Bool) (s : State) : State :=
  let d := s.dpll
  match d.mode with
  | .softloop | .softloopLocked => s.softRows
  | .freerun => if d.selected.isSome && !s.slaved then s.enterDpll .acquire else s.openRow
  | .acquire =>
    if s.slaved then s.openRow
    else if d.lockMet && d.epochMet then s.enterDpll .locked
    else if d.selected.isSome then s.openRow
    else if s.historyOk then s.enterHoldover false else s.enterDpll .freerun
  | .locked =>
    if s.slaved then s.openRow
    else if lost then s.enterDpll .acquire
    else if d.selected.isNone then s.enterHoldover false
    else if !d.epochMet then s.enterHoldover true else s.openRow
  | .holdover | .holdoverBeyond => if s.slaved then s.openRow else s.holdoverRows

/-- Whether a reference can be selected (R255). -/
def State.selectable (s : State) (i : Fin 12) : Bool :=
  let r := s.dpll.refs[i]
  r.kind != .none && r.qualified && decide (1 ≤ r.priority)

/-- The selectable reference of highest priority; among equals the current one, else the lowest index (R255). -/
def State.bestRef (s : State) : Option (Fin 12) :=
  let xs := (List.finRange 12).filter s.selectable
  let top := xs.foldl (fun n i => min n s.dpll.refs[i].priority) 16
  let ys := xs.filter (fun i => s.dpll.refs[i].priority == top)
  match s.dpll.selected with
  | some c => if ys.contains c then some c else ys.head?
  | none => ys.head?

/-- The reference that R255 selects. -/
def State.chooseRef (s : State) : Option (Fin 12) :=
  let normal :=
    if s.dpll.settings.revertive then s.bestRef
    else match s.dpll.selected with
      | some c => if s.selectable c then some c else s.bestRef
      | none => s.bestRef
  match s.dpll.forced with
  | some f => if s.selectable f then some f else normal
  | none => normal

/-- REFERENCE_SELECTION at a tick (R255, R257); a line clock loses its activity when R249 no longer holds. -/
def State.selectReference (s : State) : State :=
  let s := (List.finRange 12).foldl (fun s i =>
    let r := s.dpll.refs[i]
    if r.kind == .line && r.active && !s.lineClockOk r then s.loseActivity i else s) s
  let new := s.chooseRef
  let old := s.dpll.selected
  if old = new then s
  else
    let met := s.dpll.lockMet
    let s := s.setDpll (fun d => { d with selected := new, lockRun := 0, lossRun := 0, lockMet := false })
    let named := match new, old with
      | some i, _ => refSource i
      | none, some i => refSource i
      | none, none => 232
    let s := s.raise named 3 .state (indexParam (if new.isSome then new else old)) (indexParam old) (indexParam new)
    s.raiseFlag met false 232 2 oneUnit

/-- The clamp of ±100 ppm (R271). -/
def clampPpt (x : Int) : Int := max (-100000000) (min 100000000 x)

/-- The epoch pull in ppt: in ACQUIRE and LOCKED an offset that reduces E, no greater than the setting (R263). -/
def State.epochPull (s : State) : Int :=
  let d := s.dpll
  if (d.mode == .acquire || d.mode == .locked) && !s.slaved && d.epochSource.isSome && d.pullError != 0 then
    let size : Int := (min (1000 * d.settings.epochPull) (Config.pullSize d.pullError + 1) : Nat)
    if 0 < d.pullError then size else -size
  else 0

/-- What steers the output: the loop's demand or the DCO word, with the epoch pull (R263, R270). -/
def State.steered (s : State) : Int := (if s.loopOpen && !s.slaved then s.dpll.dcoWord else s.dpll.demand) + s.epochPull

/-- One tick of the output frequency toward what is asked, under the slew limit and the clamp; the sub-cycle part of a step
lowers it for a while (R264, R271). -/
def State.moveOutput (s : State) : State :=
  let base := s.steered
  let part := min s.dpll.slewLeft (Config.phaseSlew s.dpll.slewLeft + 1)
  let asked := base - part
  let goal := clampPpt asked
  let now := s.clock.tick
  let rate := s.dpll.settings.slewLimit
  let room : Int := ((now + 1) * rate / 2 - now * rate / 2 : Nat)
  let old := s.dpll.outputPpt
  let new := max (old - room) (min (old + room) goal)
  let slewing := new != goal
  let clamped := asked != goal
  let locked := s.dpll.mode == .locked
  let s' := s.setDpll (fun d =>
    { d with
      outputPpt := new, slewing := slewing, clamped := clamped, slewLeft := d.slewLeft - min part (base - new).toNat
      outputPast := if new = old then d.outputPast
        else keepPast ((if locked then now else d.lockEnd) - 3602 * second) ((now, new) :: d.outputPast) })
  (s'.raiseFlag s.dpll.slewing slewing 248 1 oneUnit).raiseFlag s.dpll.clamped clamped 248 2 oneUnit

/-- The period of a pulse output in 50 ps units (R273, R366). -/
def pulsePeriod : Nat → Nat
  | 0 => 10000 | 1 => 20000000 | 2 => 200000000 | 3 => 2000000000 | _ => 20000000000

/-- The instant of tick `n` on the tick timescale, in 50 ps units (R272). -/
def State.timescale (s : State) (n : BitVec 64) : Int := 10000 * (n.toNat : Int) + s.dpll.settings.tickOffset

/-- The first rising edge of an output with given settings in the tick period of frame `n`: whole picoseconds after its tick,
and for a pulse the multiple of the period that it marks. Where the phase rule states no phase the edges are a free value
(R272, R273; log 71). -/
def State.risingEdge (s : State) (o : Fin 10) (x : OutputSettings) (n : BitVec 64) : Option (Nat × Int) :=
  let at_ := s.timescale n
  if o.val < 6 then
    let phase : Int := if 1024 % x.divider = 0 || x.divider % 1024 = 0 then 0 else (Config.outputPhase o.val : Nat)
    let wait := ((phase - 1024 * (n.toNat : Int)) % (x.divider : Int)).toNat
    if wait < 1024 then some (wait * 15625 / 32, 0) else none
  else if o.val < 8 then
    let phase : Int := if x.freqUhz % 1000000 = 0 then 0 else (Config.outputPhase o.val : Nat)
    let wait := ((phase - at_ * (x.freqUhz : Int)) % 20000000000000000).toNat
    if wait < 10000 * x.freqUhz then some (50 * wait / x.freqUhz, 0) else none
  else
    let period := pulsePeriod x.period
    let wait := ((x.offset - at_) % (period : Int)).toNat
    if wait < 10000 then some (50 * wait, at_ + wait - x.offset) else none

/-- An output at a tick: one with SQUELCH is held low in FREERUN, 100b and 101b, and resumes at a rising edge of its phase
rule; no pulse is sent twice (R272 to R274). -/
def State.driveOutput (s : State) (o : Fin 10) (x : Output) : Output :=
  let code := s.dpllCode
  let edge := s.risingEdge o x.settings s.clock.frame
  let low := x.settings.squelch && (code == 0 || code == 4 || code == 5)
  let squelched := low || (x.squelched && edge.isNone)
  match edge with
  | some (t, k) =>
    let sent := 8 ≤ o.val && x.lastPulse == some k
    if x.settings.enable && !squelched && !sent then
      { x with squelched := squelched, rising := some t, lastPulse := if 8 ≤ o.val then some k else none }
    else { x with squelched := squelched, rising := none }
  | none => { x with squelched := squelched, rising := none }

/-- The outputs in the tick period that begins (R272 to R274). -/
def State.driveOutputs (s : State) : State :=
  s.setDpll (fun d => { d with outputs := Vector.ofFn (fun o => s.driveOutput o d.outputs[o]) })

/-- What the timing subsystem does at a tick (R255 to R274). -/
def State.stepTiming (s : State) : State := (s.selectReference.stepMode s.dpll.lockLost).moveOutput.driveOutputs

/-- The loop bandwidths of R260 in millihertz. -/
def bandwidths : List Nat := [1, 10, 100, 1000, 10000, 100000, 1000000, 4000000]

/-- The update rate of the phase detector in hertz (R260). -/
def Reference.updateRate (r : Reference) : Nat :=
  match r.kind with
  | .none => 0
  | .pulse => 2000000 / pulseTicks r.nominal
  | .clock => min r.nominal 2000000
  | .line => 2000000

/-- The loop bandwidth in millihertz: the largest listed one no greater than the setting in force and one twentieth of the
update rate (R260). -/
def State.loopBandwidth (s : State) (r : Reference) : Nat :=
  let setting := if s.dpll.mode == .acquire then s.dpll.settings.acquireBw else s.dpll.settings.lockedBw
  let limit := min (bandwidths.getD setting.val 1) (50 * r.updateRate)
  (bandwidths.filter (fun b => b ≤ limit)).foldl max 1

/-- Whether the loop follows the selected reference (R258, R259). -/
def DpllState.follows (d : DpllState) : Bool :=
  d.mode == .acquire || d.mode == .locked || ((d.mode == .holdover || d.mode == .holdoverBeyond) && d.epochHoldover)

/-- The loop filter takes a phase error, at the loop bandwidth; while the limiter or the clamp holds the output its integrator
is frozen (R260, R271). -/
def State.filterPhase (bandwidth : Nat) (phase : Int) (d : DpllState) : DpllState :=
  if d.follows then
    let held := d.slewing || d.clamped
    let integrator := if held then d.integrator else Config.loopIntegrate bandwidth d.integrator phase
    { d with integrator := integrator, demand := Config.loopDemand bandwidth integrator phase }
  else d

/-- PHASE_DETECTOR_UPDATE: the phase error, the loop and the lock test of the selected reference (R260). -/
def State.phaseUpdate (phase : Int) (reference : Fin 12) (s : State) : State :=
  if s.dpll.selected != some reference then s
  else
    let s := s.tally 13 0 1 1
    let window := 20 * s.dpll.settings.lockWindow
    let run := if phase.natAbs ≤ window then s.dpll.lockRun + 1 else 0
    let loss := if 4 * window < phase.natAbs then s.dpll.lossRun + 1 else 0
    let old := s.dpll.lockMet
    let met := if s.dpll.settings.lockCount ≤ run then true else if 4 ≤ loss then false else old
    let bandwidth := s.loopBandwidth s.dpll.refs[reference]
    let s := s.setDpll (fun d =>
      State.filterPhase bandwidth phase { d with phaseError := phase, lockRun := run, lossRun := loss, lockMet := met })
    (s.phaseReport).raiseFlag old met 232 2 oneUnit

def execPhaseDetectorUpdate (phase : Int) (reference : Fin 12) (s : State) : Host.Outcome State Fault Refusal :=
  .next (s.settled (s.phaseUpdate phase reference))

/-- HOLDOVER_LIMIT_EXPIRY: time in HOLDOVER exceeds the limit; the state becomes 101b at the tick boundary (R259, R268). -/
def State.holdoverExpiry (s : State) : State :=
  if s.dpll.mode == .holdover && decide (s.dpll.holdoverSince + s.dpll.settings.holdoverLimit * second < s.clock.tick) then
    s.setDpll (fun d => { d with holdoverPast := true })
  else s

def execHoldoverLimitExpiry (s : State) : Host.Outcome State Fault Refusal := .next (s.settled s.holdoverExpiry)

/-- HOLD_OSC_ACTIVITY_LOST: HOLD_OSC is disqualified at once; holdover goes on in state 101b from the tick boundary (R254,
R259, R268). -/
def State.holdOscLost (s : State) : State :=
  let was := s.dpll.holdOscQualified
  let s := s.setDpll (fun d =>
    { d with holdOscActive := false, holdOscQualified := false, holdOscMeasured := false, holdOscPpt := 0 })
  if was then ((s.raise 245 1 .clear oneUnit 0 0).raise 245 2 .set oneUnit 0 0).changeBase else s

def execHoldOscActivityLost (s : State) : Host.Outcome State Fault Refusal := .next (s.settled s.holdOscLost)

/-- Whether the loop is open, or opens at the next tick boundary and is not to be closed (R270). -/
def State.loopWill (s : State) : Bool :=
  match s.dpll.loopAsk with
  | some b => b
  | none => s.loopOpen

/-- The host opens the loop, at the tick boundary (R259, R270); an open loop stays open. -/
def State.openLoop (s : State) : State :=
  if s.loopWill then s
  else if s.loopOpen then s.setDpll (fun d => { d with loopAsk := none })
  else
    let now := s.clock.tick
    s.setDpll (fun d => { d with loopAsk := some true, dcoFresh := false, declareLock := false, dcoWritten := now })

/-- The loop is to close, at the tick boundary (R259, R270). -/
def State.closeLoop (s : State) : State :=
  if !s.loopWill then s else s.setDpll (fun d => { d with loopAsk := if s.loopOpen then some false else none })

/-- A DCO word with its DECLARE_LOCK flag restarts the host watchdog (R270, R364). -/
def State.writeDco (word : Int) (lock : Bool) (s : State) : State :=
  if s.loopWill then
    let now := s.clock.tick
    s.setDpll (fun d => { d with dcoWord := word, declareLock := lock, dcoWritten := now, dcoFresh := true })
  else s

/-- DCO_WATCHDOG_EXPIRY: ten seconds without a write close the loop, as if the host had done so (R270). -/
def State.dcoExpiry (s : State) : State :=
  if s.loopOpen && s.loopWill && s.dpll.dcoWritten + 10 * second ≤ s.clock.tick then
    s.closeLoop.raise 249 3 .occurrence oneUnit 0 0
  else s

def execDcoWatchdogExpiry (s : State) : Host.Outcome State Fault Refusal := .next (s.settled s.dcoExpiry)

/-- TICK_STEP_TIMEOUT: no epoch pulse within 2 s of TICK_STEP (R365). -/
def State.tickStepExpiry (s : State) : State :=
  match s.dpll.hostStep with
  | some (c, due) =>
    if due ≤ s.clock.tick then (s.setDpll (fun d => { d with hostStep := none })).complete c .errState 0 [] else s
  | none => s

def execTickStepTimeout (s : State) : Host.Outcome State Fault Refusal := .next (s.settled s.tickStepExpiry)

/-- OUTPUT_CHANGE_APPLIED: a change of an output takes effect: one that stops a clock output after a complete high phase, any
other in a tick period in which the new settings give a rising edge or a pulse instant (R274). -/
def State.outputApplied (o : Fin 10) (s : State) : State :=
  match s.dpll.outputs[o].next with
  | some (x, due) =>
    let ready := (o.val < 8 && !x.enable) || (s.risingEdge o x s.clock.frame).isSome
    if due ≤ s.clock.tick && ready then
      (s.setDpll (fun d =>
        { d with outputs := d.outputs.set o (s.driveOutput o { d.outputs[o] with settings := x, next := none }) })).raise
        (if o.val < 8 then 250 else 251) 1 .occurrence o.val 0 0
    else s
  | none => s

def execOutputChangeApplied (o : Fin 10) (s : State) : Host.Outcome State Fault Refusal := .next (s.settled (s.outputApplied o))

end Sys2Proof.Machine
end

