-- ==== Sys2Proof/Machine/Curve.lean ====
section
/-! DEFINITION. The curve P-384 of NIST SP 800-186 with ECDSA of FIPS 186-5 and ECDH of NIST SP 800-56A, which R245, R446, R449
and R460 name (log 48). Public keys and signatures are pairs of 48-byte little-endian integers (R446). -/
namespace Sys2Proof.Machine

/-- The field's prime, the group's order and the coefficient b; a is -3. -/
def curveP : Nat := 2 ^ 384 - 2 ^ 128 - 2 ^ 96 + 2 ^ 32 - 1
def curveN : Nat := 0xffffffffffffffffffffffffffffffffffffffffffffffffc7634d81f4372ddf581a0db248b0a77aecec196accc52973
def curveB : Nat := 0xb3312fa7e23ee7e4988e056be3f82d19181d9c6efe8141120314088f5013875ac656398d8a2ed19d2a85c8edd3ec2aef
/-- The base point. -/
def curveG : Nat × Nat :=
  (0xaa87ca22be8b05378eb1c71ef320ad746e1d3b628ba79b9859f741e082542a385502f25dbf55296c3a545e3872760ab7,
   0x3617de4a96262c6f5d9e98bf9292dc29f8f41dbd289a147ce9da3113b5f0b8c00a60b1ce1d7e819d7a431d7c90ea0e5f)

/-- `b` to the power of the low `n` bits of `e`, modulo `m`. -/
def powMod (b e m : Nat) : Nat → Nat
  | 0 => 1
  | n + 1 => let r := powMod b (e / 2) m n
             let q := r * r % m
             if e % 2 = 1 then q * b % m else q
/-- The inverse modulo a prime. -/
def invMod (a m : Nat) : Nat := powMod (a % m) (m - 2) m 384

/-- A point of the curve, none at infinity. -/
abbrev Point := Option (Nat × Nat)

def curveSub (a b : Nat) : Nat := (a + curveP - b % curveP) % curveP

/-- The sum of two points. -/
def pointAdd : Point → Point → Point
  | none, q => q
  | p, none => p
  | some (x1, y1), some (x2, y2) =>
    if x1 = x2 ∧ (y1 + y2) % curveP = 0 then none
    else
      let slope := if x1 = x2 then curveSub (3 * x1 * x1) 3 * invMod (2 * y1) curveP % curveP
        else curveSub y2 y1 * invMod (curveSub x2 x1) curveP % curveP
      let x := curveSub (slope * slope) (x1 + x2)
      some (x, curveSub (slope * curveSub x1 x) y1)

/-- A multiple of a point, by the low `n` bits of the scalar. -/
def pointMul (k : Nat) (p : Point) : Nat → Point
  | 0 => none
  | n + 1 => let q := pointMul (k / 2) p n
             let d := pointAdd q q
             if k % 2 = 1 then pointAdd d p else d

def onCurve (x y : Nat) : Bool :=
  x < curveP && y < curveP && y * y % curveP == curveSub (x * x * x + curveB) (3 * x)

/-- The point that 96 bytes encode, none when it does not lie on the curve. -/
def decodePoint (bs : List Byte) : Point :=
  let x := leNat (bs.take 48)
  let y := leNat ((bs.drop 48).take 48)
  if bs.length = 96 && onCurve x y then some (x, y) else none
/-- The 96-byte encoding of a point (R446). -/
def encodePoint : Point → List Byte
  | some (x, y) => leBytes 48 x ++ leBytes 48 y
  | none => zeros 96

/-- The public key of a private scalar (R446). -/
@[irreducible] def publicKey (d : BitVec 384) : List Byte := encodePoint (pointMul d.toNat (some curveG) 384)

/-- ECDH: the x-coordinate of the shared point, as an integer (R460); 0 where the peer's key is no point of the curve. -/
@[irreducible] def ecdh (d : BitVec 384) (peer : List Byte) : BitVec 384 :=
  match decodePoint peer with
  | none => 0
  | some q => match pointMul d.toNat (some q) 384 with
    | some (x, _) => BitVec.ofNat 384 x
    | none => 0

/-- The signature of a digest: r then s, each 48 bytes little-endian. The per-message secret number of FIPS 186-5 is a free value
from 1 to n-1. -/
@[irreducible] def signDigest (d : BitVec 384) (digest : BitVec 384) : List Byte :=
  let k := (Config.ecdsaSecret d digest).toNat % (curveN - 1) + 1
  match pointMul k (some curveG) 384 with
  | none => zeros 96
  | some (x, _) =>
    let r := x % curveN
    let s := invMod k curveN * (digest.toNat + r * d.toNat) % curveN
    leBytes 48 r ++ leBytes 48 s

/-- The verification of a signature (r, s) on a digest. -/
@[irreducible] def verifyDigest (key : List Byte) (digest : BitVec 384) (r s : List Byte) : Bool :=
  let rv := leNat r
  let sv := leNat s
  match decodePoint key with
  | none => false
  | some q =>
    if rv = 0 || curveN ≤ rv || sv = 0 || curveN ≤ sv then false
    else
      let w := invMod sv curveN
      match pointAdd (pointMul (digest.toNat * w % curveN) (some curveG) 384) (pointMul (rv * w % curveN) (some q) 384) with
      | none => false
      | some (x, _) => x % curveN == rv

/-- ECDSA P-384 with SHA-384 over a message (R245, R446). -/
def ecdsaSign (d : BitVec 384) (msg : List Byte) : List Byte := signDigest d (sha384 msg)
def ecdsaVerify (key msg r s : List Byte) : Bool := verifyDigest key (sha384 msg) r s

end Sys2Proof.Machine
end

