-- ==== Sys2Proof/Machine/Certificates.lean ====
section
/-! DEFINITION. Kilarnax certificates and chains (R446, R447), key identifiers and derived keys (R449). -/
namespace Sys2Proof.Machine

/-- The key identifier of a 96-byte public key: its SHA-384 (R446). -/
def keyId (k : List Byte) : List Byte := bytes384 (sha384 k)

/-- ASCII text as bytes. -/
def ascii (t : String) : List Byte := t.toList.map (fun c => BitVec.ofNat 8 c.toNat)

/-- A Kilarnax certificate, 352 bytes (R446). -/
structure Certificate where
  raw : List Byte
  deriving DecidableEq, Repr

def Certificate.role (c : Certificate) : Nat := byteAt c.raw 5
def Certificate.notBefore (c : Certificate) : Nat := field c.raw 8 8
def Certificate.notAfter (c : Certificate) : Nat := field c.raw 16 8
def Certificate.issuer (c : Certificate) : List Byte := (c.raw.drop 24).take 48
def Certificate.publicKey (c : Certificate) : List Byte := (c.raw.drop 104).take 96

/-- The fixed fields of R446 hold their values. -/
def Certificate.wellFormed (c : Certificate) : Bool :=
  c.raw.length == 352 && c.raw.take 4 == ascii "KCRT" && byteAt c.raw 4 == 1 && isZero c.raw 6 2 && isZero c.raw 200 56

/-- Signed with `key` over bytes 0 to 255, and naming it as its issuer (R446, R447). -/
def Certificate.signedBy (key : List Byte) (c : Certificate) : Bool :=
  c.issuer == keyId key && ecdsaVerify key (c.raw.take 256) ((c.raw.drop 256).take 48) ((c.raw.drop 304).take 48)

/-- `n` certificates from a byte string. -/
def splitCertificates : Nat → List Byte → List Certificate
  | 0, _ => []
  | n + 1, bs => ⟨bs.take 352⟩ :: splitCertificates n (bs.drop 352)

/-- The certificates of a chain, none when its header is wrong (R447). -/
def parseChain (bs : List Byte) : Option (List Certificate) :=
  let n := byteAt bs 4
  if bs.take 4 == ascii "KCHN" && decide (1 ≤ n) && decide (n ≤ 4) && isZero bs 5 3
      && decide (bs.length = 8 + 352 * n) then
    let cs := splitCertificates n (bs.drop 8)
    if cs.all Certificate.wellFormed then some cs else none
  else none

/-- Each certificate is signed by the next one, and the last by the anchor (R447). -/
def chainSigned (anchor : List Byte) : List Certificate → Bool
  | [] => false
  | [c] => c.signedBy anchor
  | c :: d :: rest => c.signedBy d.publicKey && chainSigned anchor (d :: rest)

/-- The time checks of R447, which are skipped while the RTC is not VALID. -/
def chainInTime (s : State) (cs : List Certificate) : Bool :=
  !s.rtc.valid || cs.all (fun c => c.notBefore ≤ s.rtc.seconds.toNat && s.rtc.seconds.toNat ≤ c.notAfter)

/-- The allowed role paths to the vendor root (R447). -/
def vendorPath (roles : List Nat) : Bool :=
  roles == [4, 3, 2] || roles == [5, 3, 2] || roles == [3, 2] || roles == [9, 2] || roles == [10, 2]

/-- A path that ends in a link anchor enrolled by the owner (R447, R459). Its intermediates are not given roles. -/
def linkPath (roles : List Nat) : Bool := roles.head? == some 8

/-- The vendor root is trusted when its key identifier equals ROOT_HASH (R447). -/
def rootTrusted : Bool := keyId Config.rootKey == bytes384 Config.rootHash

/-- A chain that is valid under R447, and the public key of its end entity. -/
def chainKey (s : State) (bs : List Byte) : Option (Nat × List Byte) :=
  match parseChain bs with
  | none => none
  | some [] => none
  | some (c :: cs) =>
    let all := c :: cs
    let roles := all.map Certificate.role
    if !chainInTime s all then none
    else if vendorPath roles && rootTrusted && chainSigned Config.rootKey all then some (c.role, c.publicKey)
    else if linkPath roles && s.sec.anchors.any (fun a => chainSigned a all) then some (c.role, c.publicKey)
    else none

/-- The event of a chain check without a valid RTC (R447, R469). -/
def State.noteChainCheck (s : State) : State := s.raiseIf (!s.rtc.valid) 334 2 .occurrence oneUnit 0 0

/-- A signature of 96 bytes, SIG_R then SIG_S, over a message. -/
def signatureOk (key msg sig : List Byte) : Bool := ecdsaVerify key msg (sig.take 48) ((sig.drop 48).take 48)

/-- The order of P-384 (FIPS 186; R449 names it `n`). -/
def p384Order : Nat :=
  0xFFFFFFFFFFFFFFFFFFFFFFFFFFFFFFFFFFFFFFFFFFFFFFFFC7634D81F4372DDF581A0DB248B0A77AECEC196ACCC52973

/-- The private scalar of a derived key (R449). -/
def derivedScalar (label : String) (epoch : BitVec 32) : BitVec 384 :=
  let h := hmac384 (bytes384 Config.identityKey) (ascii label ++ leBytes 4 epoch.toNat)
  BitVec.ofNat 384 (h.toNat % (p384Order - 1) + 1)

/-- The identity public key, and DEVICE_ID (R446). -/
def identityPublic : List Byte := publicKey Config.identityKey
def deviceId : List Byte := keyId identityPublic

/-- The certificate that the identity key issues for a derived key (R449): role 4 or 5. -/
def derivedCertificate (role : Nat) (label : String) (s : State) : List Byte :=
  let body := ascii "KCRT" ++ [1] ++ leBytes 1 role ++ zeros 2 ++ leBytes 8 s.sec.derivedAt.toNat
    ++ List.replicate 8 (0xFF : Byte) ++ deviceId ++ padTo 32 (leBytes 16 Config.serial.toNat)
    ++ publicKey (derivedScalar label s.sec.ownerEpoch) ++ zeros 56
  body ++ ecdsaSign Config.identityKey body

/-- A chain of certificates (R447). -/
def chainOf (count : Nat) (certs : List Byte) : List Byte := ascii "KCHN" ++ leBytes 1 count ++ zeros 3 ++ certs

/-- The identity chain: identity, then vendor intermediate (R459). -/
def identityChainBytes : List Byte := chainOf 2 Config.identityChain

/-- Draw a fresh random value (R403, R459). -/
def State.draw (s : State) : BitVec 384 × State := (Config.random s.fresh, { s with fresh := s.fresh + 1 })

end Sys2Proof.Machine
end

