-- ==== Sys2Proof/Machine/LinkSecurity.lean ====
section
/-! DEFINITION. Link cipher, key channel and key agreement (R456 to R466). -/
namespace Sys2Proof.Machine

/-- Change the link security of one port. -/
def State.setLink (p : PortNo) (f : LinkState → LinkState) (s : State) : State :=
  s.setPort p (fun q => { q with link := f q.link })

/-- The event source of a port's link security (R469). -/
def linkSource (p : PortNo) : Nat := 335 + p.val / 64

/-- The initialisation vector of a frame (R456). -/
def linkIv (number : BitVec 64) (lane : BitVec 16) (session : Nat) (kid : Nat) : BitVec 96 :=
  (number ++ lane ++ BitVec.ofNat 16 (2 * session + kid)).cast rfl

/-- The other key slot. -/
def otherSlot (k : Fin 2) : Fin 2 := if k = 0 then 1 else 0

/-- The lane number that a port's receiver uses: the peer's HELLO gives it; before one has come, the SOURCE_PORT of
the declared partner identifier (DESIGN CHOICE, log 12: the spec gives none under K0). -/
def Port.peerLane (q : Port) : BitVec 16 :=
  if q.link.peerLane != 0 then q.link.peerLane else BitVec.ofNat 16 (beNat ((q.partner.drop 32).take 2))

/-- A key message with its LENGTH field (R458, R459). -/
def keyMessage (type : BitVec 4) (content : List Byte) : KeyMessage :=
  ⟨type, beBytes 2 (content.length + 2) ++ content⟩

/-- Both directions have moved to keys of one session (R464). -/
def LinkState.bothMoved (l : LinkState) : Bool :=
  match l.txKey, l.rxKey with
  | some a, some b => a.session == b.session && a.session != 0
  | _, _ => false

/-- A 96-byte little-endian public key in the big-endian form of R459, and back. -/
def flipKey (k : List Byte) : List Byte := (k.take 48).reverse ++ ((k.drop 48).take 48).reverse

/-- HELLO (R459). -/
def helloMessage (full resume : Bool) (lane session : Nat) (random : List Byte) (resumeId pub : List Byte) : KeyMessage :=
  keyMessage 1 ([1] ++ leBytes 1 (packBits [full, resume]) ++ beBytes 2 lane ++ beBytes 2 session ++ random
    ++ padTo 8 resumeId ++ flipKey pub)

def helloVersion (h : List Byte) : Nat := byteAt h 2
def helloFull (h : List Byte) : Bool := byteAt h 3 % 2 == 1
def helloResume (h : List Byte) : Bool := byteAt h 3 / 2 % 2 == 1
def helloLane (h : List Byte) : Nat := beNat ((h.drop 4).take 2)
def helloSession (h : List Byte) : Nat := beNat ((h.drop 6).take 2)
def helloRandom (h : List Byte) : List Byte := (h.drop 8).take 32
def helloResumeId (h : List Byte) : List Byte := (h.drop 40).take 8
def helloKey (h : List Byte) : List Byte := flipKey ((h.drop 48).take 96)

/-- The SESSION that an end proposes: one more than its transmit key's, from 32,767 to 1 (R459). -/
def proposedSession (l : LinkState) : Nat :=
  match l.txKey with
  | none => 1
  | some k => if k.session.val = 32767 then 1 else k.session.val + 1

/-- The resumption record offered for a port: of its declared partner, within 30 days (R462). -/
def State.resumptionOf (s : State) (p : PortNo) : Option ResumptionRecord :=
  s.sec.resumptions.find? (fun r =>
    r.port == p && r.partner == (s.port p).partner && s.rtc.seconds.toNat ≤ r.rtc + 30 * 86400)

/-- How many agreements run (R466). -/
def State.runningAgreements (s : State) : Nat :=
  (s.ports.toList.filter (fun q => q.link.agreement.isSome)).length

/-- Begin an agreement and send HELLO, or wait when 64 run (R461, R463, R466). `plain` asks for a full HELLO. -/
def State.startAgreement (p : PortNo) (plain : Bool) (s : State) : State :=
  let q := s.port p
  if q.link.agreement.isNone && 64 ≤ s.runningAgreements then s.setLink p (fun l => { l with waiting := true })
  else
    let (scalar, s) := s.draw
    let (rnd, s) := s.draw
    let random := (bytes384 rnd).take 32
    let resumption := if q.link.keyed || plain then none else s.resumptionOf p
    let hello := helloMessage (!q.link.keyed && resumption.isNone) resumption.isSome p.val (proposedSession q.link) random
      (match resumption with | some r => r.id | none => []) (publicKey scalar)
    let form : AgreementForm :=
      if q.link.keyed then .nextKey else if resumption.isSome then .resumed else .full
    let now := s.clock.tick
    s.setLink p (fun l =>
      { l with
        waiting := false, retryAt := none
        agreement := some { form := form, step := .hello, started := now, ownHello := hello.bytes, peerHello := none
                            scalar := scalar, peerAuth := none, checked := false, peerConfirm := false, ready := false }
        sender := { message := some hello, segment := 0, sends := 0, again := none, finalLeft := 0 } })

/-- Whether this end is end a: the one with the lower RANDOM (R460). -/
def ownIsA (own peer : List Byte) : Bool := beNat (helloRandom own) < beNat (helloRandom peer)

/-- T of R460. -/
def transcript (own peer : List Byte) : List Byte :=
  bytes384 (sha384 (if ownIsA own peer then own ++ peer else peer ++ own))

/-- Z of R460, with the stored secret mixed in for a resumed agreement. -/
def State.sharedSecret (s : State) (p : PortNo) (a : Agreement) (peer : List Byte) : List Byte :=
  let z := bytes384 (ecdh a.scalar (helloKey peer))
  match a.form, s.resumptionOf p with
  | .resumed, some r => bytes384 (hmac384 r.secret z)
  | _, _ => z

/-- The SESSION of the new key: the larger proposal (R459). -/
def newSession (own peer : List Byte) : Nat := max (helloSession own) (helloSession peer)

/-- The key for frames sent by an end (R460). -/
def directionKey (z t : List Byte) (endA : Bool) (session : Nat) : BitVec 256 :=
  bitsOf 256 ((bytes384 (hmac384 z (ascii "KLXK" ++ t ++ [if endA then 0 else 1] ++ beBytes 2 session))).take 32)

/-- CONFIRM's MAC from an end (R460). -/
def confirmMac (z t : List Byte) (endA : Bool) : List Byte :=
  bytes384 (hmac384 (bytes384 (hmac384 z (ascii "KLXC" ++ t)))
    (ascii "KLXCONF" ++ t ++ [if endA then 0 else 1]))

/-- Send a message from its first segment (R463). -/
def LinkState.sendMessage (m : KeyMessage) (l : LinkState) : LinkState :=
  { l with sender := { message := some m, segment := 0, sends := 0, again := none, finalLeft := 0 } }

/-- A new link key for a slot. -/
def newLinkKey (key : BitVec 256) (session : Nat) : LinkKey :=
  { key := key, session := Fin.ofNat 32768 session, frames := 0, highest := none }

/-- The digest that AUTH's SIGNATURE signs: SHA-384 of the text of R462, hashed once (DESIGN CHOICE, log 50). -/
def authDigest (t random ident : List Byte) : BitVec 384 := sha384 (ascii "KLXAUTH1" ++ t ++ random ++ ident)

/-- The AUTH of a full agreement (R459, R462). SIGNATURE is big-endian like every field of KEY_CH. -/
def State.authMessage (s : State) (p : PortNo) (a : Agreement) (peer : List Byte) : KeyMessage :=
  let t := transcript a.ownHello peer
  let ident := padTo 34 (s.port p).txTrace
  let sig := signDigest Config.identityKey (authDigest t (helloRandom a.ownHello) ident)
  keyMessage 2 (zeros 2 ++ ident ++ zeros 2 ++ identityChainBytes ++ flipKey sig)

/-- A lane takes a key in this tick (R466). -/
def State.countInstall (s : State) : State := { s with sec := { s.sec with installs := s.sec.installs + 1 } }

/-- Go on to CONFIRM: the new receive key goes into the slot that KID does not name first; at most 32 lanes take a
key in one tick (R463 step 4, R466). -/
def State.enterConfirm (p : PortNo) (a : Agreement) (peer : List Byte) (s : State) : State :=
  if 32 ≤ s.sec.installs then s
  else
    let z := s.sharedSecret p a peer
    let t := transcript a.ownHello peer
    let session := newSession a.ownHello peer
    let isA := ownIsA a.ownHello peer
    let rx := newLinkKey (directionKey z t (!isA) session) session
    s.countInstall.setLink p (fun l =>
      ({ l with rxSlots := l.rxSlots.set (otherSlot l.rxKid) (some rx)
                agreement := some { a with step := .confirm } }).sendMessage
        (keyMessage 3 (zeros 2 ++ confirmMac z t isA)))

/-- The keys become ready: the transmit key is installed, CONFIRM goes out 64 more times, and a full agreement
writes its resumption record (R462, R463 steps 5 and 6). -/
def State.keysReady (p : PortNo) (a : Agreement) (peer : List Byte) (s : State) : State :=
  let z := s.sharedSecret p a peer
  let t := transcript a.ownHello peer
  let session := newSession a.ownHello peer
  let tx := newLinkKey (directionKey z t (ownIsA a.ownHello peer) session) session
  let s := s.setLink p (fun l =>
    { l with txSlots := l.txSlots.set (otherSlot l.txKid) (some tx), ready := some (otherSlot l.txKid)
             retryWait := 1, retryAt := none
             agreement := some { a with peerConfirm := true, ready := true }
             sender := { l.sender with finalLeft := 64 } })
  let s := (s.setPort p (fun q => { q with authHeld := false })).countInstall
  if a.form = .full then
    let r := bytes384 (hmac384 z (ascii "KLXR" ++ t))
    let record : ResumptionRecord :=
      { port := p, partner := (s.port p).partner, secret := r, id := (bytes384 (sha384 r)).take 8
        rtc := s.rtc.seconds.toNat }
    let s := { s with sec := { s.sec with
      resumptions := record :: s.sec.resumptions.filter (fun x => x.port != p) } }
    s.raise (linkSource p) 3 .occurrence p.val 0 0
  else s

/-- The reasons of ABORT (R459). -/
def abortMessage (reason : Nat) : KeyMessage := keyMessage 4 (leBytes 1 reason ++ zeros 3)

/-- A key agreement failure (R465): the agreement ends, AUTH stands under K0, and the next one starts after the
back-off wait. -/
def State.failAgreement (p : PortNo) (reason : Nat) (abort : Bool) (s : State) : State :=
  let keyed := (s.port p).link.keyed
  let now := s.clock.tick
  let s := s.setLink p (fun l =>
    { l with
      agreement := none, waiting := false, retryAt := some (now + 2000000 * l.retryWait), retryWait := min 60 (2 * l.retryWait)
      sender := if abort then { KeySender.idle with again := some (abortMessage reason, 0) } else .idle })
  let s := { s with sec := { s.sec with failures := s.sec.failures + 1 } }
  let s := s.raise (linkSource p) 1 .fault p.val reason 0
  if keyed then s
  else
    let s := s.setPort p (fun q => { q with authHeld := true })
    s.setDefect p .auth true

/-- Go on to the next message once the current one has been sent at least once and the peer's message of the same
step has come (R463 step 2). -/
def State.advanceAgreement (p : PortNo) (s : State) : State :=
  let l := (s.port p).link
  match l.agreement with
  | none => s
  | some a =>
    if l.sender.sends = 0 then s
    else
      match a.step, a.peerHello with
      | .hello, some peer =>
        if a.form = .full then
          s.setLink p (fun l => ({ l with agreement := some { a with step := .auth } }).sendMessage (s.authMessage p a peer))
        else s.enterConfirm p a peer
      | .auth, some peer => if a.checked then s.enterConfirm p a peer else s
      | .confirm, some _ =>
        if a.ready && l.sender.finalLeft = 0 then s.setLink p (fun l => { l with agreement := none, sender := .idle }) else s
      | _, _ => s

/-- Send the message of a step that has passed once more, then resume (R463 step 3). -/
def LinkState.resend (m : KeyMessage) (l : LinkState) : LinkState :=
  { l with sender := { l.sender with again := some (m, 0) } }

/-- A HELLO arrives (R460, R461). -/
def State.takeHello (p : PortNo) (m : KeyMessage) (s : State) : State :=
  let s := if (s.port p).link.agreement.isNone then s.startAgreement p (helloFull m.bytes) else s
  match (s.port p).link.agreement with
  | none => s
  | some a =>
    if helloVersion m.bytes != 1 then s.failAgreement p 5 true
    else if a.step != .hello then s.setLink p (LinkState.resend ⟨1, a.ownHello⟩)
    else if helloRandom a.ownHello == helloRandom m.bytes then
      (s.setLink p (fun l => { l with agreement := none })).startAgreement p false
    else
      -- a peer that does not take up the resumption offered runs a full agreement
      let s :=
        if a.form = .resumed && !(helloResume m.bytes && helloResumeId m.bytes == helloResumeId a.ownHello) then
          s.startAgreement p true
        else s
      match (s.port p).link.agreement with
      | none => s
      | some a =>
        -- a full agreement waits for the peer's full HELLO
        if a.form = .full && !helloFull m.bytes then s
        else
        let s := s.setLink p (fun l => { l with
          peerLane := BitVec.ofNat 16 (helloLane m.bytes), agreement := some { a with peerHello := some m.bytes } })
        s.advanceAgreement p

/-- An AUTH arrives: its checks run in the security core (R462, R463). -/
def State.takeAuth (p : PortNo) (m : KeyMessage) (s : State) : State :=
  match (s.port p).link.agreement with
  | none => s
  | some a =>
    match a.peerHello with
    | none => s
    | some peer =>
      if a.form != .full then s
      else if a.step = .confirm then s.setLink p (LinkState.resend (s.authMessage p a peer))
      else s.setLink p (fun l => { l with agreement := some { a with peerAuth := some m.bytes } })

/-- A CONFIRM arrives and is checked (R462, R463 step 5). -/
def State.takeConfirm (p : PortNo) (m : KeyMessage) (s : State) : State :=
  match (s.port p).link.agreement with
  | none => s
  | some a =>
    match a.peerHello with
    | none => s
    | some peer =>
      -- at most 32 lanes take a key in one tick; the peer repeats its CONFIRM (R463, R466)
      if a.step != .confirm || a.ready || 32 ≤ s.sec.installs then s
      else
        let z := s.sharedSecret p a peer
        let t := transcript a.ownHello peer
        if (m.bytes.drop 4).take 48 == confirmMac z t (!ownIsA a.ownHello peer) then s.keysReady p a peer
        else s.failAgreement p 2 true

/-- What the AUTH of a full agreement fails on (R462): certificate, signature or identity. -/
def State.authFailure (s : State) (p : PortNo) (a : Agreement) (peer auth : List Byte) : Option Nat :=
  let chain := (auth.drop 40).take (auth.length - 136)
  let ident := (auth.drop 4).take 34
  let sig := auth.drop (auth.length - 96)
  match chainKey s chain with
  | none => some 1
  | some (role, key) =>
    if role != 3 && role != 8 then some 1
    else
      let t := transcript a.ownHello peer
      let rs := flipKey sig
      if !verifyDigest key (authDigest t (helloRandom peer) ident) (rs.take 48) (rs.drop 48) then some 2
      else if ident != (s.port p).partner then some 3
      else
        match s.casc.declaration with
        | none => none
        | some d =>
          match d.seams.find? (fun x => x.port == p) with
          | none => none
          | some x =>
            match d.members.find? (fun m => m.1 == x.partner) with
            | some m => if m.2 == keyId key then none else some 3
            | none => some 3

/-- The security core has finished the checks of R462 on a port's AUTH. -/
def State.finishAuthCheck (p : PortNo) (s : State) : State :=
  match (s.port p).link.agreement with
  | none => s
  | some a =>
    match a.peerHello, a.peerAuth with
    | some peer, some auth =>
      let s := s.noteChainCheck
      match s.authFailure p a peer auth with
      | some reason => s.failAgreement p reason true
      | none =>
        (s.setLink p (fun l => { l with agreement := some { a with checked := true } })).advanceAgreement p
    | _, _ => s

/-- Agreements that wait start in order of port number while fewer than 64 run (R466). -/
def State.startWaiting (s : State) : State :=
  (List.finRange 512).foldl (fun s p =>
    if (s.port p).link.waiting && s.runningAgreements < 64 then s.startAgreement p false else s) s

/-- One segment of KEY_CH (R458). -/
def keySegment (m : KeyMessage) (i : Nat) : List Byte :=
  let last := m.bytes.length ≤ 6 * (i + 1)
  leBytes 1 (128 * bit (i == 0) + 64 * bit last + 16 * (i / 256 % 4) + m.type.toNat) ++ leBytes 1 (i % 256)
    ++ padTo 6 (m.bytes.drop (6 * i))

/-- The KEY_CH bytes of the next frame, and the sender after it (R458, R463). -/
def KeySender.next (k : KeySender) : List Byte × KeySender :=
  match k.again, k.message with
  | some (m, i), _ =>
    if k.segment = 0 then
      (keySegment m i, { k with again := if m.bytes.length ≤ 6 * (i + 1) then none else some (m, i + 1) })
    else
      match k.message with
      | none => (keySegment m i, { k with segment := 0 })
      | some m' =>
        let last := m'.bytes.length ≤ 6 * (k.segment + 1)
        (keySegment m' k.segment,
          { k with segment := if last then 0 else k.segment + 1, sends := if last then k.sends + 1 else k.sends
                   finalLeft := if last then k.finalLeft - 1 else k.finalLeft
                   message := if last && k.finalLeft == 1 then none else some m' })
  | none, none => (zeros 8, k)
  | none, some m =>
    let last := m.bytes.length ≤ 6 * (k.segment + 1)
    if last then
      let left := k.finalLeft - 1
      (keySegment m k.segment,
        { k with segment := 0, sends := k.sends + 1, finalLeft := left
                 message := if k.finalLeft = 1 then none else some m })
    else (keySegment m k.segment, { k with segment := k.segment + 1 })

/-- A KEY_CH segment of a frame that passed its tag check: the message is assembled (R458). -/
def LinkState.assemble (seg : List Byte) (l : LinkState) : LinkState :=
  let ctrl := byteAt seg 0
  let type := BitVec.ofNat 4 ctrl
  let seq := 256 * (ctrl / 16 % 4) + byteAt seg 1
  let data := (seg.drop 2).take 6
  let firstSeg := ctrl / 128 == 1
  let lastSeg := ctrl / 64 % 2 == 1
  if type == 0 then { l with assembly := none }
  else
    let next : Option KeyAssembly :=
      if firstSeg && seq == 0 then some { type := type, nextSeq := 1, bytes := data }
      else
        match l.assembly with
        | some a => if a.type == type && a.nextSeq == seq then some { a with nextSeq := seq + 1, bytes := a.bytes ++ data } else none
        | none => none
    match next with
    | some a =>
      if lastSeg then
        let n := beNat (a.bytes.take 2)
        if 6 ≤ n && n ≤ 4096 && n ≤ a.bytes.length then
          { l with assembly := none, assembled := some ⟨a.type, a.bytes.take n⟩ }
        else { l with assembly := none }
      else { l with assembly := some a }
    | none => { l with assembly := none }

end Sys2Proof.Machine
end

