-- ==== Sys2Proof/Machine/Transmit.lean ====
section
/-! DEFINITION. The transmit chain (R36 to R57, R80, R85, R86, R90, R93, R464): the line frame that each port sends at
a tick. -/
namespace Sys2Proof.Machine

/-- What a transmitter sends in its envelope. -/
structure TxContent where
  payload  : Payload
  validity : BitVec 256
  aux      : BitVec 1024
  feeds    : List PortNo

def TxContent.empty : TxContent := { payload := 0, validity := 0, aux := 0, feeds := [] }

/-- The frame assembled for a port, or none of it. -/
def Port.assembled (q : Port) : TxContent :=
  match q.out with
  | some o => { payload := o.payload, validity := o.validity, aux := o.aux, feeds := o.feeds }
  | none => .empty

/-- What port `p` sends in its envelope: idle and stopped frames carry nothing valid; a protect port sends the
bridged working port's frame (R90, R93, R146, R152, R173). -/
def State.txContent (s : State) (p : PortNo) : TxContent :=
  let q := s.port p
  match q.mode with
  | .up | .stopped =>
    if q.mode == .stopped && !q.resuming then .empty
    else
      match s.prot.groups.toList.find? (fun g => match g with | some g => g.protect == p | none => false) with
      | some (some g) =>
        let k := if g.oneToN then g.unit.bridged.val else 1
        if k = 0 then .empty else (s.port (g.memberPort k)).assembled
      | _ => q.assembled
  | _ => .empty

/-- The pointer adjustment of a frame (R76, R80): toward the lag, at most once in 4 frames. -/
def Transmitter.adjust (t : Transmitter) : Pleat :=
  let want := lagPositions t.lag
  if t.sinceAdjust < 4 then .normal
  else if t.pointer < want && t.pointer < 255 then .increment
  else if want < t.pointer then .decrement
  else .normal

/-- NEG_PLEAT, the 256 payload positions, and the slots left for the next frame (R42, R44, R45). -/
def layEnvelope (pointer : Nat) (pleat : Pleat) (tail slots : List (BitVec 192)) :
    BitVec 192 × List (BitVec 192) × List (BitVec 192) :=
  let stream := padSlots pointer tail ++ slots
  match pleat with
  | .normal => (0, stream.take 256, stream.drop 256)
  | .increment => (0, stream.take pointer ++ [0] ++ (stream.drop pointer).take (255 - pointer), stream.drop 255)
  | .decrement => ((stream.head?).getD 0, (stream.drop 1).take 256, stream.drop 257)
where
  /-- The last `n` slots of the envelope before, 00h where there are none. -/
  padSlots (n : Nat) (xs : List (BitVec 192)) : List (BitVec 192) := (xs ++ List.replicate n 0).take n

/-- The REI to send for the results that wait (R86). -/
def combineRei (xs : List Nat) : Nat := if xs.contains 15 then 15 else min xs.sum 10

/-- Whether a frame goes out with its plaintext unencrypted: the number has been sent under the current key, or the
key has reached its limit, with no key ready (R464). -/
def LinkState.unencrypted (n : BitVec 64) (l : LinkState) : Bool :=
  match l.txKey with
  | none => true
  | some k => (match k.highest with | some h => n ≤ h | none => false) || 2147483648 ≤ k.frames

/-- Whether the transmitter moves to its ready key at this frame (R464). -/
def LinkState.mustSwitch (n : BitVec 64) (l : LinkState) : Bool :=
  match l.ready with
  | none => false
  | some r =>
    let cur := l.txKey
    let readySession := (l.txSlots[r]).map (fun k => k.session)
    (match cur with | some k => k.session == 0 | none => true) || l.unencrypted n || l.rekey.isSome || l.steppedBack
      || (isSessionKey l.rxKey && (l.rxKey).map (fun k => k.session) == readySession)

/-- KEY_SWITCH (R464): KID toggles to the ready key. -/
def LinkState.switchKey (n : BitVec 64) (now : Nat) (l : LinkState) : LinkState :=
  if l.mustSwitch n then
    match l.ready with
    | some r =>
      let l := { l with txKid := r, ready := none, rekey := none, steppedBack := false }
      if l.bothMoved then { l with movedAt := some now } else l
    | none => l
  else l

/-- Count a frame under the current key, and the highest number sent (R456, R464). -/
def LinkState.countFrame (n : BitVec 64) (l : LinkState) : LinkState :=
  let boot := match l.txKey with | some k => k.session == 0 | none => false
  { l with bootHighest := if boot then some (match l.bootHighest with | some h => if h < n then n else h | none => n) else l.bootHighest
           txSlots := l.txSlots.set l.txKid ((l.txSlots[l.txKid]).map (fun k =>
      { k with frames := k.frames + 1
               highest := some (match k.highest with | some h => if h < n then n else h | none => n) })) }

/-- CASC_CH of a seam link: the message at the head of its queue (R287, R288). -/
def State.cascChannel (s : State) (p : PortNo) : List Byte :=
  match s.casc.seams.find? (fun x => x.port == p), s.casc.declaration with
  | some x, some d =>
    let role : Nat := match s.casc.mode, s.casc.role with
      | .joining, _ => 3 | _, .master => 2 | _, .standby => 1 | _, .slave => 0
    let hb : Nat := if s.casc.role = .master && s.casc.mode = .joined then s.clock.frame.toNat % 65536
      else s.casc.heartbeat.toNat
    let msg : List Byte := match x.queue with
      | [] => zeros 12
      | m :: _ => leBytes 1 m.message.msgType.toNat ++ leBytes 1 m.message.origin.val ++ beBytes 4 m.message.msgId.toNat
          ++ beBytes 4 (m.message.arg.toNat % 4294967296) ++ beBytes 2 (m.message.arg.toNat / 4294967296)
    leBytes 1 (48 + x.version.toNat) ++ leBytes 1 (64 * role + d.ownIndex.val) ++ beBytes 2 hb ++ msg
  | _, _ => zeros 16

/-- After a frame the message at the head of a seam link's queue has one frame less to go (R288). -/
def SeamState.sent (x : SeamState) : SeamState :=
  match x.queue with
  | [] => x
  | m :: rest => { x with queue := if m.left ≤ 1 then rest else { m with left := m.left - 1 } :: rest }

/-- The parts of a frame that its collar gives beside the envelope. -/
structure CollarParts where
  number     : BitVec 64
  versionByte : Nat
  indications : Nat
  pointer    : Nat
  pleat      : Pleat
  validity   : BitVec 256
  trace      : List Byte
  protCh     : BitVec 64
  cascCh     : List Byte
  keyCh      : List Byte

/-- PLEAT_BITS (R43). -/
def Pleat.bits : Pleat → Nat
  | .normal => 0 | .increment => 0xF0 | .decrement => 0x0F

/-- Collar bytes 0 to 19 and 44 to 127 (R36). -/
def CollarParts.head (c : CollarParts) : List Byte :=
  bytesOf faw ++ bytesOf c.number ++ leBytes 1 c.versionByte ++ leBytes 1 c.indications ++ leBytes 1 c.pointer
    ++ leBytes 1 c.pleat.bits
def CollarParts.rest (c : CollarParts) : List Byte :=
  bytesOf c.validity ++ padTo 16 c.trace ++ bytesOf c.protCh ++ padTo 16 c.cascCh ++ padTo 8 c.keyCh ++ zeros 4

/-- Build the levels of a frame: encrypt, tag, CRC, scramble, FEC, PAM4 (R57). `cipher` answers ciphertext and tag. -/
def buildLine (c : CollarParts) (cipher : BitVec 832 → BitVec 50368 → BitVec 50368 × BitVec 128) (plain : BitVec 50368) :
    BitVec 54400 :=
  let aad := bitsOf 832 (c.head ++ c.rest)
  let (ct, tag) := cipher aad plain
  let cbytes := bytesOf ct
  let body := c.head ++ cbytes.take 24 ++ c.rest ++ bytesOf tag ++ cbytes.drop 24
  let all := body ++ bytesOf (crc32 body) ++ zeros 5
  pam4Levels (encodeLine (scramble (bitsOf 51400 all)))

/-- The transmitter's part that does not depend on the cipher: RDI, REI, pointer, trace (R80, R85, R86, R89). -/
def Transmitter.advance (n : BitVec 64) (defect plainFrame : Bool) (ident : List Byte) (pleat : Pleat) (tail : List (BitVec 192))
    (t : Transmitter) : Transmitter :=
  let rdi := t.rdi || defect
  let hold := if !t.rdi && defect then 8 else t.rdiHold
  let hold' := hold - 1
  { t with
    rdi := if rdi && !defect && hold' = 0 then false else rdi
    rdiHold := if rdi then hold' else 0
    rei := []
    trace := if n.toNat % 4 = 3 then traceMessage ident else t.trace
    tail := if plainFrame then [] else tail
    lag := t.lag - 2
    sinceAdjust := if pleat != .normal then 0 else t.sinceAdjust + 1
    pointer := if plainFrame then 0 else match pleat with | .normal => t.pointer | .increment => t.pointer + 1 | .decrement => t.pointer - 1 }

/-- FRAME_TRANSMIT: port `p` sends line frame `n` (R57, R90, R93). -/
def State.transmitPort (n : BitVec 64) (p : PortNo) (s : State) : State :=
  let q := s.port p
  if q.mode == .down then s
  else
    let now := s.clock.tick
    let rekey := q.link.rekey
    let s := s.setLink p (LinkState.switchKey n now)
    let s : State := match rekey with
      | some c => if (s.port p).link.rekey.isNone then s.complete c .ok 0 (leBytes 8 n.toNat) else s
      | none => s
    let q := s.port p
    let l := q.link
    let content := s.txContent p
    let plainFrame := q.sendsPlain
    let pleat := if plainFrame then Pleat.normal else q.tx.adjust
    let pointer := if plainFrame then 0 else q.tx.pointer
    let (neg, positions, tail) := layEnvelope pointer pleat q.tx.tail (slotsOf content.payload)
    let rdi := q.tx.rdi || ((q.defects &&& 0x3F) != 0)
    let v3 := q.settings.version == 3
    let seam := q.settings.role == .seam && 2 ≤ q.settings.version.toNat
    let (keyCh, sender) := l.sender.next
    let trace := if n.toNat % 4 = 0 || q.tx.trace.isEmpty then traceMessage q.txTrace else q.tx.trace
    let c : CollarParts :=
      { number := n
        versionByte := 64 * q.settings.version.toNat + 32 * l.txKid.val + 16 * bit seam
        indications := 128 * bit rdi + 64 * bit (s.dpllCode != 2) + 32 * bit (q.mode == .stopped)
          + 16 * bit (v3 && !plainFrame && content.feeds.any (fun f => (s.port f).slipFrames.contains n)) + combineRei q.tx.rei
        pointer := pointer, pleat := pleat, validity := content.validity
        trace := (trace.drop (16 * (n.toNat % 4))).take 16
        protCh := s.protChannel p, cascCh := if seam then s.cascChannel p else zeros 16, keyCh := keyCh }
    let off := l.unencrypted n
    let plain := bitsOf 50368 (bytesOf neg ++ bytesOf (payloadOfSlots positions) ++ bytesOf content.aux)
    let cipher (aad : BitVec 832) (x : BitVec 50368) : BitVec 50368 × BitVec 128 :=
      match off, l.txKey with
      | false, some k => gcmSeal k.key (linkIv n (BitVec.ofNat 16 p.val) k.session.val l.txKid.val) aad x
      | _, _ => (0, 0)
    let levels := buildLine c cipher plain
    let s := s.setPort p (fun q => { q with
      tx := { (q.tx.advance n ((q.defects &&& 0x3F) != 0) plainFrame q.txTrace pleat tail) with
              last := some { number := n, levels := levels, unencrypted := off }, trace := trace }
      link := { (if off then q.link else q.link.countFrame n) with sender := sender } })
    let s := { s with casc := { s.casc with seams := updateFirst (fun x => x.port == p) SeamState.sent s.casc.seams } }
    s.advanceAgreement p

/-- Every port's transmitter at a tick (R37, R57). -/
def State.transmit (n : BitVec 64) (s : State) : State := (List.finRange 512).foldl (fun s p => s.transmitPort n p) s

end Sys2Proof.Machine
end

