-- ==== Sys2Proof/Machine/CascadeEvents.lean ====
section
/-! DEFINITION. The cascade: tick words, following a tick, roles, takeover and handover, cascade messages (R276 to
R286, R295 to R303). -/
namespace Sys2Proof.Machine

/-- Change the cascade. -/
def State.setCasc (f : CascadeState → CascadeState) (s : State) : State := { s with casc := f s.casc }

/-- The codes of R372. -/
def CascadeMode.code : CascadeMode → Nat
  | .standalone => 0 | .joining => 1 | .joined => 2 | .flywheel => 3
def CascadeRole.code : CascadeRole → Nat
  | .slave => 0 | .standby => 1 | .master => 2

/-- Change the cascade state, with its event (R303). -/
def State.setCascMode (m : CascadeMode) (s : State) : State :=
  let old := s.casc.mode
  (s.setCasc (fun c => { c with mode := m })).raiseState old.code m.code 264 1 oneUnit

/-- Change the role, with its event (R303). -/
def State.setRole (r : CascadeRole) (s : State) : State :=
  let old := s.casc.role
  (s.setCasc (fun c => { c with role := r })).raiseState old.code r.code 264 2 oneUnit

/-- Drive or release MST_ACT_OUT_N; interlock events name MST_ACT_OUT_N as 0 and MST_INH_IN_N as 1 (R280, R303; log 73). -/
def State.setMstAct (on : Bool) (s : State) : State :=
  let old := s.casc.mstActOut
  (s.setCasc (fun c => { c with mstActOut := on })).raiseFlag old on 265 1 0

/-- Whether the device is one of the two master-capable members (R277). -/
def State.masterCapable (s : State) : Bool :=
  match s.casc.declaration with
  | some d => d.capable.1 == d.ownIndex || d.capable.2 == d.ownIndex
  | none => false

/-- The other master-capable member. -/
def CascadeDeclaration.otherCapable (d : CascadeDeclaration) : Fin 64 :=
  if d.capable.1 = d.ownIndex then d.capable.2 else d.capable.1

/-- ARBITER mode is in force: declared, and at cascade version 3 (R289). -/
def State.arbiterOn (s : State) : Bool :=
  match s.casc.declaration with
  | some d => d.arbiter && 3 ≤ s.casc.version
  | none => false

/-- A tick word from its 31 bytes (R282). -/
def readTickWord (bs : List Byte) : TickWord :=
  let flags := byteAt bs 0
  let at_ (off n : Nat) : Nat := beNat ((bs.drop off).take n)
  { active := flags / 128 % 2 == 1, standby := flags / 64 % 2 == 1, state := BitVec.ofNat 3 (flags / 8)
    flywheel := flags / 4 % 2 == 1, version := BitVec.ofNat 2 (byteAt bs 1 / 64), sender := Fin.ofNat 64 (byteAt bs 1)
    frame := BitVec.ofNat 64 (at_ 2 8), swapOp := BitVec.ofNat 8 (byteAt bs 10), swapDelta := BitVec.ofNat 8 (byteAt bs 11)
    swapId := BitVec.ofNat 32 (at_ 12 4), roleOp := BitVec.ofNat 8 (byteAt bs 16), roleDelta := BitVec.ofNat 8 (byteAt bs 17)
    swapFrame := BitVec.ofNat 64 (at_ 18 8) }

/-- The 31 bytes of a tick word (R282). -/
def TickWord.bytes (w : TickWord) : List Byte :=
  let body := leBytes 1 (128 * bit w.active + 64 * bit w.standby + 8 * w.state.toNat + 4 * bit w.flywheel)
    ++ leBytes 1 (64 * w.version.toNat + w.sender.val) ++ beBytes 8 w.frame.toNat ++ leBytes 1 w.swapOp.toNat
    ++ leBytes 1 w.swapDelta.toNat ++ beBytes 4 w.swapId.toNat ++ leBytes 1 w.roleOp.toNat ++ leBytes 1 w.roleDelta.toNat
    ++ beBytes 8 w.swapFrame.toNat ++ zeros 1
  body ++ beBytes 4 (crc32 body).toNat

/-- The bits of a byte, bit 7 first. -/
def bitsOfByte (b : Byte) : List Bool := (List.range 8).map (fun i => b.getLsbD (7 - i))

/-- The levels of a tick line in one tick period, two for each bit period, the first in the most significant bit: the sync
pattern, 0000b, and the word, with a 1 high then low and a 0 low then high (R281). -/
def tickLevels (bs : List Byte) : BitVec 512 :=
  let manchester (b : Bool) : List Bool := [b, !b]
  let line := [true, true, true, true, false, false, false, false]
    ++ (List.replicate 4 false ++ bs.flatMap bitsOfByte).flatMap manchester
  line.foldl (fun v b => (v <<< 1) ||| BitVec.ofNat 512 (bit b)) 0

/-- The bit in bit period `k`; none where the line does not carry Manchester data (R281). -/
def lineBit (levels : BitVec 512) (k : Nat) : Option Bool :=
  let first := levels.getLsbD (511 - 2 * k)
  if levels.getLsbD (510 - 2 * k) = first then none else some first

/-- The 31 bytes that a tick line carries, when its sync pattern lies at the expected place (R281). -/
def lineBytes (levels : BitVec 512) : Option (List Byte) :=
  if levels.extractLsb' 504 8 != 0xF0 then none
  else
    (List.range 31).mapM (fun j => (List.range 8).foldl (fun (v : Option Byte) i =>
      match v, lineBit levels (8 + 8 * j + i) with
      | some v, some b => some ((v <<< 1) ||| BitVec.ofNat 8 (bit b))
      | _, _ => none) (some 0))

/-- The CRC of a tick word passes (R282). -/
def tickCrcOk (bs : List Byte) : Bool := beNat ((bs.drop 27).take 4) == (crc32 (bs.take 27)).toNat

/-- A word that disagrees with itself on the swap frame; a STANDBY word repeats the fields of the word of 2 ticks earlier
(R282; DEDUCED, log 74). -/
def TickWord.contradicts (w : TickWord) : Bool :=
  let of := if w.standby && !w.active then w.frame - 2 else w.frame
  w.swapDelta != 0 && w.swapFrame - of != w.swapDelta.setWidth 64

/-- The number rule of R281: one greater than the previous valid word's, or the same in 3 words in a row. -/
def TickInput.numberOk (x : TickInput) (n : BitVec 64) : Bool :=
  match x.last with
  | none => true
  | some w => n == w.frame + 1 || (n == x.repeated && decide (2 ≤ x.repeats))

/-- Note a word on an input: whether it is valid (R281). -/
def TickInput.take (crcOk : Bool) (w : TickWord) (x : TickInput) : Bool × TickInput :=
  let ok := crcOk && !w.contradicts && x.numberOk w.frame
  if ok then (true, { last := some w, repeated := w.frame, repeats := 1, missing := 0 })
  else (false, { x with repeated := w.frame, repeats := if crcOk && w.frame == x.repeated then x.repeats + 1 else 1, missing := x.missing + 1 })

/-- The DPLL state that a code names, kept by a device that leaves another's tick (R257, R258, R297). -/
def dpllModeOf (c : BitVec 3) : DpllMode :=
  match c.toNat with
  | 0 => .freerun | 1 => .acquire | 2 => .locked | 3 => .holdover | 4 => .softloop | 6 => .softloopLocked
  | _ => .holdoverBeyond

/-- The DPLL goes from the master's tick to its own selected reference with phase build-out: the state that it
reported stands (R257, R297, R369). -/
def State.leaveTick (s : State) : State :=
  let code := s.dpllCode
  let now := s.clock.tick
  s.setDpll (fun d => { d with mode := dpllModeOf code, lockedSince := now, lockEnd := now
                               holdoverSince := now, holdoverPast := false, epochHoldover := false, lockRun := 0, lossRun := 0 })

/-- The swap that the new master goes on with (R298): committed when its mirror or its own bank carried COMMIT, aborted
when a PREPARE stood. -/
def State.inheritSwap (s : State) : State :=
  let base : CascadeSwap :=
    { id := 0, participants := [], named := none, phase := .aborting, started := s.clock.tick, ready := [], veto := []
      frame := 0, complete := [], durable := [], persist := false, abortLeft := 64, command := none }
  match s.casc.mirror.find? (fun w => w.swapOp == 2), s.casc.mirror.find? (fun w => w.swapOp == 1) with
  | some w, _ =>
    (s.setCasc (fun c => { c with swap := some { base with id := w.swapId, phase := .committed, frame := w.swapFrame } })).originate
      msgCommit w.swapId (w.swapFrame.toNat % 281474976710656)
  | none, some w =>
    let s := s.setCasc (fun c => { c with swap := some { base with id := w.swapId } })
    ((s.raise 267 4 .occurrence oneUnit w.swapId.toNat 0).originate msgAbort w.swapId 0).holdAbort w.swapId
  | none, none => s

/-- The device takes the master role (R279, R297). -/
def State.becomeMaster (s : State) : State :=
  let own := s.ownIndex
  let joined := if s.casc.joined.contains own then s.casc.joined else own :: s.casc.joined
  let s := s.setCasc (fun c =>
    { c with master := some own, followed := none, missingRun := 0, joined := joined
             handover := match c.handover with | some h => if h.commands.isEmpty then none else some h | none => none })
  ((s.setRole .master).setCascMode .joined).setMstAct true

/-- STANDBY_TAKEOVER (R297, R298). -/
def State.takeover (s : State) : State :=
  let s := s.leaveTick.becomeMaster
  -- PARAM1 is the duration in ticks: the next word is ACTIVE (R297, R303; log 73)
  (s.raise 265 4 .occurrence oneUnit 1 0).inheritSwap

/-- The standby takes the role when the interlock is released and both paths are lost, or in ARBITER mode when ARB_SEL grants it
(R296). -/
def State.judgeTakeover (s : State) : State :=
  let standby := s.casc.role == .standby && (s.casc.mode == .joined || s.casc.mode == .flywheel)
  -- a grant moves the role to a standby that has followed a master, not back to the device that has just released it
  let due := if s.arbiterOn then s.casc.arbSel == 2 && s.casc.followed.isSome
    else s.casc.tickPathLost && s.casc.channelPathLost
  if standby && !s.casc.mstInhIn && due then s.takeover else s

/-- A master gives up the role and will follow the other's tick as standby (R296, R299, R301, R371). -/
def State.releaseRole (s : State) : State :=
  let s := s.setCasc (fun c => { c with followed := none, master := none, masterState := s.dpllCode })
  (s.setRole .standby).setMstAct false

/-- MASTER_START_TIMEOUT: 100 or 400 ms without an ACTIVE word after tinder service, or after a later declaration
(R279). -/
def State.masterStart (s : State) : State :=
  let wait := if s.rst.straps.masterPref then 200000 else 800000
  let since := max s.rst.tinderAt s.casc.startedAt
  if s.casc.mode == .joining && s.casc.role != .master && s.masterCapable && !s.casc.activeHeard && since + wait ≤ s.clock.tick then
    let arbiter := match s.casc.declaration with | some d => d.arbiter | none => false
    if !s.casc.mstInhIn && (!arbiter || s.casc.arbSel == 2) then s.becomeMaster else s.setRole .standby
  else s

def execMasterStartTimeout (s : State) : Host.Outcome State Fault Refusal := .next (s.settled s.masterStart)

/-- How far the device's own tick of a word's number lies after the place that R283 gives it, in 50 ps units: one tick delay
after the word's tick instant, which lies `arrival` after the present tick. -/
def State.tickPhase (s : State) (w : TickWord) (arrival : Int) : Int :=
  let delay := match s.casc.declaration with | some d => d.tickDelay | none => 0
  ((w.frame.toNat : Int) - s.clock.frame.toNat) * 10000 - (arrival + delay)

/-- Count and phase agree with the tick words: within ±20 ns (R286). -/
def phaseAgrees (phase : Int) : Bool := phase.natAbs ≤ 400

/-- R286: the device locks to a tick, with a step when count or phase disagree. -/
def State.lockToTick (input : Fin 2) (phase : Int) (s : State) : State :=
  let s := s.setCasc (fun c => { c with followed := some input, missingRun := 0 })
  let s := if phaseAgrees phase then s else s.stepTick (-phase) true
  if s.casc.mode == .flywheel then (s.setCascMode .joined).raise 266 4 .clear oneUnit 0 0 else s

/-- A master sees another master (R301): the preferred one keeps the role, the other releases it at its next tick. -/
def State.dualMasterSeen (other : Fin 64) (s : State) : State :=
  let s := if s.casc.dualMaster then s else (s.setCasc (fun c => { c with dualMaster := true })).raise 270 1 .set other.val 0 0
  let ownPref := s.rst.straps.masterPref
  let farPref := (s.casc.memberPref.find? (fun x => x.1 == other)).map (·.2)
  let keeps := if farPref = some ownPref || farPref.isNone then decide (s.ownIndex < other) else ownPref
  s.setCasc (fun c => { c with yieldsTo := if keeps then none else some other })

/-- A master gives way to the preferred one at a tick (R301). -/
def State.giveWay (s : State) : State :=
  match s.casc.yieldsTo with
  | some other =>
    let s := s.setCasc (fun c => { c with yieldsTo := none })
    if s.isMaster then ((s.setCasc (fun c => { c with dualMaster := false })).releaseRole).raise 270 1 .clear other.val 0 0 else s
  | none => s

/-- The other device no longer shows ACTIVE or the master role: the second master is gone (R301). -/
def State.dualMasterOver (other : Fin 64) (s : State) : State :=
  if s.casc.dualMaster then (s.setCasc (fun c => { c with dualMaster := false })).raise 270 1 .clear other.val 0 0 else s

/-- What a member does with the swap and role fields of a valid word (R292, R293, R299). -/
def State.takeFields (w : TickWord) (s : State) : State :=
  let s := if s.isMaster || s.casc.version ≤ 1 || s.casc.mode == .standalone then s
    else if w.swapOp = 1 then s.answerPrepare w.swapId
    else if w.swapOp = 2 then s.holdCommit w.swapId w.swapFrame
    else if w.swapOp = 3 then s.holdAbort w.swapId
    else s
  if w.active && w.roleOp = 1 && s.casc.role == .standby && 3 ≤ s.casc.version then
    s.setCasc (fun c => { c with handover := some { tick := some (w.frame + w.roleDelta.setWidth 64), release := false, commands := [] } })
  else s

/-- The completion of a handover or a release follows the new master's first ACTIVE word (R371). -/
def State.finishHandover (s : State) : State :=
  match s.casc.handover with
  | some h =>
    match h.tick with
    | some t =>
      if h.commands.isEmpty then s
      else
        let s := s.setCasc (fun x => { x with handover := none })
        let s := h.commands.foldl (fun (s : State) (c : CommandRef) => s.complete c .ok 0 (leBytes 8 t.toNat)) s
        s.raise 271 1 .occurrence oneUnit (t.toNat % 4294967296) 0
    | none => s
  | none => s

/-- A member takes an ACTIVE word from the input that it follows, or starts to follow it (R283 to R286). -/
def State.followWord (input : Fin 2) (w : TickWord) (arrival : Int) (s : State) : State :=
  let old := s.casc.version
  let phase := s.tickPhase w arrival
  let relock := s.casc.followed.isNone || s.casc.mode == .flywheel || s.casc.followed != some input
    || (s.casc.missingRun != 0 && !phaseAgrees phase)
  let switched := s.casc.followed.isSome && s.casc.followed != some input
  let lost := s.casc.missingRun != 0
  let s := s.raiseIf switched 266 2 .occurrence input.val 0 0
  let s := s.raiseIf lost 266 1 .clear input.val 0 0
  let s := if relock then s.lockToTick input phase else s
  let s := s.setCasc (fun c =>
    { c with missingRun := 0, master := some w.sender, masterState := w.state, version := w.version
             mirror := (w :: c.mirror).take 3 })
  let wasLost := s.casc.tickPathLost
  let s := (s.setCasc (fun c => { c with tickPathLost := false })).raiseFlag wasLost false 265 2 0
  (s.raiseState old.toNat w.version.toNat 268 2 oneUnit).finishHandover

/-- What a valid word does (R284, R292, R293, R301). -/
def State.takeWord (input : Fin 2) (w : TickWord) (arrival : Int) (s : State) : State :=
  if s.casc.mode == .standalone then s
  else if s.isMaster then (if w.active then s.dualMasterSeen w.sender else s.dualMasterOver w.sender)
  else
    let other := otherSlot input
    let s :=
      if !w.active then (if s.casc.followed = some other then s.dualMasterOver w.sender else s)
      else if s.casc.followed = some other && s.casc.inputs[other].missing = 0 then
        -- both inputs carry ACTIVE: the present one is kept (R284)
        let both := ((s.casc.inputs[other].last).map (·.active)).getD false
        if both && s.casc.dualMaster then s
        else if both then (s.setCasc (fun c => { c with dualMaster := true })).raise 270 1 .set w.sender.val 0 0
        else s.followWord input w arrival
      else s.followWord input w arrival
    s.takeFields w

/-- TICK_WORD_RECEIVED: a tick line's levels over one tick period (R281, R284); `arrival` is the word's tick instant after the
device's present tick, in 50 ps units. -/
def State.tickWord (input : Fin 2) (levels : BitVec 512) (arrival : Int) (s : State) : State :=
  let line := lineBytes levels
  let bs := line.getD []
  let w := readTickWord bs
  let (ok, x) := s.casc.inputs[input].take (line.isSome && tickCrcOk bs) w
  let s := s.setCasc (fun c => { c with inputs := c.inputs.set input x, activeHeard := c.activeHeard || (ok && w.active) })
  if ok then s.takeWord input w arrival else s.raise 266 3 .occurrence input.val 0 0

def execTickWordReceived (input : Fin 2) (levels : BitVec 512) (arrival : Int) (s : State) : Host.Outcome State Fault Refusal :=
  .next (s.settled (s.tickWord input levels arrival))

/-- TICK_WORD_MISSING: a flywheel tick takes the place of the expected word (R284). -/
def State.tickMissing (s : State) : State :=
  match s.casc.followed with
  | some i =>
    if s.slaved then
      let first := s.casc.missingRun = 0
      let s := s.setCasc (fun c =>
        { c with
          inputs := c.inputs.set i { c.inputs[i] with missing := c.inputs[i].missing + 1 }
          missingRun := c.missingRun + 1
          flywheelTicks := if c.flywheelTicks = 0xFFFFFFFF then c.flywheelTicks else c.flywheelTicks + 1 })
      (s.tally 13 0 3 1).raiseIf first 266 1 .set i.val 0 0
    else s
  | none => s

def execTickWordMissing (s : State) : Host.Outcome State Fault Refusal := .next (s.settled s.tickMissing)

/-- FLYWHEEL_DECLARE: 64 tick periods in a row without a valid ACTIVE word (R284). -/
def State.flywheelDeclare (s : State) : State :=
  if s.casc.mode == .joined && s.casc.role != .master && 64 ≤ s.casc.missingRun then
    (s.setCascMode .flywheel).raise 266 4 .set oneUnit 0 0
  else s

def execFlywheelDeclare (s : State) : Host.Outcome State Fault Refusal := .next (s.settled s.flywheelDeclare)

/-- The cascade listens to a seam link once its partner is authenticated, while AUTH does not stand (R30, R278, R287). -/
def State.seamHeard (s : State) (p : PortNo) : Bool := (s.port p).link.keyed && !(s.port p).has .auth

/-- Whether a member's identity has been authenticated: on a seam link of this device; for a member without one, by the JOINED
member from which its JOIN came on port `p` (R278; DEDUCED, log 67). -/
def State.seamAuthentic (s : State) (m : Fin 64) (p : PortNo) : Bool :=
  match s.casc.declaration with
  | some d =>
    let links := d.seams.filter (fun x => x.partner == m)
    if links.isEmpty then d.seams.any (fun x => x.port == p && s.casc.joined.contains x.partner)
    else links.any (fun x => s.seamHeard x.port)
  | none => false

/-- JOIN reaches a device; the master answers with ADMIT, or refuses a member that is not as declared (R278, R279). -/
def State.takeJoin (p : PortNo) (m : CascMessage) (s : State) : State :=
  match s.casc.declaration with
  | none => s
  | some d =>
    let pref := m.arg.getLsbD 4
    let max := m.arg.extractLsb' 0 4
    let s := s.setCasc (fun c =>
      { c with memberPref := assocSet m.origin pref c.memberPref, memberMax := assocSet m.origin max c.memberMax })
    let clash := s.masterCapable && m.origin == d.otherCapable && pref == s.rst.straps.masterPref
    let s := s.raiseIf clash 269 2 .occurrence m.origin.val 0 0
    if !s.isMaster then s
    else if d.members.any (fun x => x.1 == m.origin) && s.seamAuthentic m.origin p then
      let s := s.setCasc (fun c => { c with joined := if c.joined.contains m.origin then c.joined else m.origin :: c.joined })
      (s.raise 264 3 .occurrence m.origin.val 0 0).originate msgAdmit 0 0
    else (s.raise 264 4 .refused m.origin.val 0 0).raise 269 1 .occurrence m.origin.val 0 0

/-- The members that an ADMIT shows as JOINED to a device that is not the master: the master, and every declared member whose
JOIN it has seen (R278, R372; DEDUCED, log 75: ADMIT names no member). -/
def State.admitted (s : State) (master : Fin 64) : List (Fin 64) :=
  match s.casc.declaration with
  | some d => (d.members.map (·.1)).filter (fun m =>
      m == master || s.casc.joined.contains m || s.casc.memberMax.any (fun x => x.1 == m))
  | none => []

/-- ADMIT of a master-capable member reaches another member; one in JOINING that has sent JOIN is JOINED (R278). -/
def State.takeAdmit (m : CascMessage) (s : State) : State :=
  let capable := match s.casc.declaration with | some d => m.origin == d.capable.1 || m.origin == d.capable.2 | none => false
  if s.isMaster || !capable then s
  else
    let s := s.setCasc (fun c => { c with joined := s.admitted m.origin })
    if s.casc.mode == .joining && s.casc.role != .master && s.casc.joinSent then
      let role := if s.masterCapable then CascadeRole.standby else .slave
      let own := s.ownIndex
      let s := s.setCasc (fun c => { c with master := some m.origin, joined := if c.joined.contains own then c.joined else own :: c.joined })
      (s.setRole role).setCascMode .joined
    else s

/-- SWAP_REQ reaches the master: a swap with its sender alone, or an abort when another is open (R290, R291). -/
def State.takeSwapReq (m : CascMessage) (s : State) : State :=
  if !s.isMaster then s
  else if s.casc.swap.isSome then s.originate msgAbort m.msgId 0
  else s.openSwap m.msgId [m.origin] none false none

/-- CASC_MESSAGE_RECEIVED: a message is acted on and relayed once (R288). -/
def State.cascMessage (p : PortNo) (m : CascMessage) (s : State) : State :=
  if s.casc.mode == .standalone || !s.casc.seams.any (fun x => x.port == p) || !s.seamHeard p then s
  else
    let capable := match s.casc.declaration with | some d => m.sender == d.otherCapable | none => false
    let s := if !s.isMaster then s
      else if m.senderRole = 2 then s.dualMasterSeen m.sender
      else if capable then s.dualMasterOver m.sender
      else s
    if m.msgType = 0 || 10 < m.msgType.toNat || m.origin = s.ownIndex || s.isCopy m.origin m.msgType m.msgId then s
    else
      let role : BitVec 2 := match s.casc.mode, s.casc.role with
        | .joining, _ => 3 | _, .master => 2 | _, .standby => 1 | _, .slave => 0
      let s := (s.noteSeen m.origin m.msgType m.msgId).relay { m with sender := s.ownIndex, senderRole := role } (some p)
      if m.msgType = msgJoin then s.takeJoin p m
      else if m.msgType = msgAdmit then s.takeAdmit m
      else if m.msgType = msgReady then (if s.isMaster then s.noteReady m.origin m.msgId else s)
      else if m.msgType = msgVeto then (if s.isMaster then s.noteVeto m.origin m.msgId (m.arg.setWidth 32) else s)
      else if m.msgType = msgPrepare then (if s.isMaster then s else s.answerPrepare m.msgId)
      else if m.msgType = msgCommit then (if s.isMaster then s else s.holdCommit m.msgId (rebuildFrame s.clock.frame m.arg))
      else if m.msgType = msgAbort then (if s.isMaster then s else s.holdAbort m.msgId)
      else if m.msgType = msgComplete then (if s.isMaster then s.noteComplete m.origin m.msgId else s)
      else if m.msgType = msgSwapReq then s.takeSwapReq m
      else if s.casc.role == .standby && 3 ≤ s.casc.version then
        let h : Handover := { tick := some (rebuildFrame s.clock.frame m.arg), release := false, commands := [] }
        s.setCasc (fun c => { c with handover := some h })
      else s

def execCascMessageReceived (p : PortNo) (m : CascMessage) (s : State) : Host.Outcome State Fault Refusal :=
  .next (s.settled (s.cascMessage p m))

/-- CASC_PREPARE_TIMEOUT: 2,000 ticks without every participant READY (R292). -/
def State.prepareExpiry (s : State) : State :=
  match s.casc.swap with
  | some w => if w.phase == .prepare && w.started + 2000 ≤ s.clock.tick then s.abortSwap w .errState else s
  | none => s

def execCascPrepareTimeout (s : State) : Host.Outcome State Fault Refusal := .next (s.settled s.prepareExpiry)

/-- CASC_DECISION_CHECK: at tick F−8 a participant that holds no COMMIT gives up the swap; one that holds it keeps it
(R293). A device whose own swap is still undecided as master has no F yet. -/
def State.decisionCheck (s : State) : State :=
  match s.casc.staged with
  | some g =>
    let undecided := s.isMaster && (match s.casc.swap with | some w => w.phase == .prepare | none => false)
    if g.frame.isNone && s.casc.answered == g.id && !undecided then s.unstage 6 else s
  | none => s

def execCascDecisionCheck (s : State) : Host.Outcome State Fault Refusal := .next (s.settled s.decisionCheck)

/-- CASC_COMPLETE_TIMEOUT: 20,000 ticks after F the members whose COMPLETE is missing are named, and the master closes
the swap with those that confirmed (R294). -/
def State.completeExpiry (s : State) : State :=
  match s.casc.swap with
  | some w =>
    if (w.phase == CascadePhase.committed || w.phase == CascadePhase.closing) && w.frame + 20000 ≤ s.clock.frame then
      let missing := w.participants.filter (fun m => !w.complete.contains m)
      let s := missing.foldl (fun s m => s.raise 267 5 .occurrence m.val w.id.toNat 0) s
      (s.setCasc (fun c => { c with swap := some { w with complete := w.participants } })).closeSwap
    else s
  | none => s

def execCascCompleteTimeout (s : State) : Host.Outcome State Fault Refusal := .next (s.settled s.completeExpiry)

/-- TICK_PATH_LOSS: the standby sees no valid ACTIVE word for 4 tick periods (R295, R296). -/
def State.tickPathLoss (s : State) : State :=
  if s.casc.role == .standby && !s.casc.tickPathLost && 4 ≤ s.casc.missingRun then
    ((s.setCasc (fun c => { c with tickPathLost := true })).raise 265 2 .set 0 0 0).judgeTakeover
  else s

def execTickPathLoss (s : State) : Host.Outcome State Fault Refusal := .next (s.settled s.tickPathLoss)

/-- Whether a seam link shows the standby no living master: HEARTBEAT unchanged for 16 frames, or no frames in SYNC
(R295). -/
def State.seamSilent (s : State) (x : SeamState) : Bool := 16 ≤ x.unchanged || (s.port x.port).aligner != .sync

/-- CHANNEL_PATH_LOSS (R295, R296). -/
def State.channelLoss (s : State) : State :=
  if s.casc.role == .standby && !s.casc.channelPathLost && s.casc.seams.all s.seamSilent then
    ((s.setCasc (fun c => { c with channelPathLost := true })).raise 265 2 .set 1 0 0).judgeTakeover
  else s

def execChannelPathLoss (s : State) : Host.Outcome State Fault Refusal := .next (s.settled s.channelLoss)

/-- ARB_SEL_DECISION: ARB_SEL reads one value at 4 ticks in a row; 11b counts as no decision (R280, R296). -/
def State.arbSelDecision (sel : BitVec 2) (s : State) : State :=
  let sel := if sel = 3 then 0 else sel
  let old := s.casc.arbSel
  let s := (s.setCasc (fun c => { c with arbSel := sel })).raiseState old.toNat sel.toNat 265 3 oneUnit
  if !s.arbiterOn then s
  else if s.isMaster then (if sel = 1 then s.releaseRole else s)
  else if s.casc.role == .standby && sel = 2 && !s.casc.mstInhIn && s.casc.mode != .standalone then s.takeover
  else s

def execArbSelDecision (sel : BitVec 2) (s : State) : Host.Outcome State Fault Refusal := .next (s.settled (s.arbSelDecision sel))

/-- A handover must wait for a cascade swap between PREPARE and completion (R299). A management role swap takes one
step from its step 2 to its step 4, so that no announcement falls between them. -/
def State.handoverWaits (s : State) : Bool := s.casc.swap.isSome

/-- Fix the handover tick: 32 to 64 ticks after the first announcement, free within that range (R299, R371). -/
def State.announceHandover (h : Handover) (s : State) : State :=
  let n := s.fresh
  let t := s.clock.frame + BitVec.ofNat 64 (32 + Config.handoverLead n % 33)
  let s := { s with fresh := n + 1 }
  let s := s.setCasc (fun c => { c with handover := some { h with tick := some t } })
  if h.release then s else s.originate msgHandover 0 (t.toNat % 281474976710656)

/-- Ask for a handover or a release: fixed now, or when what it waits for has ended (R299, R371). A handover that is
already arranged serves the new request too. -/
def State.askHandover (release : Bool) (c : Option CommandRef) (s : State) : State :=
  let earlier := match s.casc.handover with | some h => h.commands | none => []
  let h : Handover := { tick := none, release := release, commands := earlier ++ c.toList }
  match s.casc.handover with
  | some old =>
    if release then s.announceHandover h else s.setCasc (fun x => { x with handover := some { old with commands := h.commands } })
  | none => if s.handoverWaits && !release then s.setCasc (fun x => { x with handover := some h }) else s.announceHandover h

/-- ROLE_SWAP_PERIOD: the role-swap period elapses at the master (R299). -/
def State.rolePeriod (s : State) : State :=
  match s.casc.declaration with
  | some d =>
    if s.isMaster && 3 ≤ s.casc.version && s.casc.roleNext ≤ s.clock.tick && s.casc.handover.isNone then
      let next := s.clock.tick + d.roleHours * 3600 * second
      (s.setCasc (fun c => { c with roleNext := next })).askHandover false none
    else s
  | none => s

def execRoleSwapPeriod (s : State) : Host.Outcome State Fault Refusal := .next (s.settled s.rolePeriod)

/-- The word that the device sends at this tick: ACTIVE at the master, STANDBY at the standby (R281, R282). -/
def State.tickWordSent (s : State) : Option TickWord :=
  let base : TickWord :=
    { active := false, standby := false, state := s.dpllCode, flywheel := s.casc.mode == .flywheel, version := s.casc.version
      sender := s.ownIndex, frame := s.clock.frame, swapOp := 0, swapDelta := 0, swapId := 0, roleOp := 0, roleDelta := 0
      swapFrame := 0 }
  if s.casc.mode != .joined && s.casc.mode != .flywheel then none
  else match s.casc.role with
  | .slave => none
  | .master =>
    let w := { base with active := true }
    if s.casc.version ≤ 1 then some w
    else
      let ahead (f : BitVec 64) : BitVec 8 := if f - s.clock.frame ≤ 64 then (f - s.clock.frame).setWidth 8 else 0
      let w := match s.casc.swap with
        | some x =>
          match x.phase with
          | .prepare => { w with swapOp := 1, swapId := x.id }
          | .committed =>
            if s.clock.frame < x.frame then
              { w with swapOp := 2, swapId := x.id, swapFrame := x.frame, swapDelta := ahead x.frame }
            else w
          | .aborting => { w with swapOp := 3, swapId := x.id }
          | .closing => w
        | none => w
      match s.casc.handover with
      | some h =>
        match h.tick with
        | some t => some (if !h.release && s.clock.frame < t then { w with roleOp := 1, roleDelta := ahead t } else w)
        | none => some w
      | none => some w
  | .standby =>
    let w := { base with standby := true }
    if s.casc.version ≤ 1 then some w
    else match s.casc.mirror.find? (fun v => v.frame == s.clock.frame - 2) with
      | some v =>
        some { w with swapOp := v.swapOp, swapDelta := v.swapDelta, swapId := v.swapId, roleOp := v.roleOp
                      roleDelta := v.roleDelta, swapFrame := v.swapFrame }
      | none => some w

/-- TICK_OUT carries the word of the present tick (R280 to R282). -/
def State.sendTickWord (s : State) : State :=
  let w := s.tickWordSent
  s.setCasc (fun c => { c with sent := w, tickOut := w.map (fun w => tickLevels w.bytes) })

/-- HANDOVER_TICK: at H the master releases; at H+1 the standby takes the role (R299, R371). -/
def State.handoverTick (s : State) : State :=
  match s.casc.handover with
  | some h =>
    match h.tick with
    | some t =>
      if s.isMaster then
        if t ≤ s.clock.frame then
          let s := s.releaseRole
          let s := if h.commands.isEmpty then s.setCasc (fun c => { c with handover := none }) else s
          s.sendTickWord
        else s
      else if s.casc.role == .standby && h.commands.isEmpty && t + 1 ≤ s.clock.frame && !s.casc.mstInhIn then
        (s.takeover).raise 271 1 .occurrence oneUnit (t.toNat % 4294967296) 0
      else s
    | none => s
  | none => s

def execHandoverTick (s : State) : Host.Outcome State Fault Refusal := .next (s.settled s.handoverTick)

/-- The highest cascade version that this firmware supports (R289). -/
def ownCascadeVersion : BitVec 4 := 3

/-- The cascade version that the JOINED members allow (R289). -/
def State.allowedVersion (s : State) : BitVec 2 :=
  let low := s.casc.joined.foldl (fun (v : Nat) m =>
    if m = s.ownIndex then min v ownCascadeVersion.toNat
    else min v (max 1 (assocGet m 1 s.casc.memberMax).toNat)) 3
  BitVec.ofNat 2 low

/-- JOIN goes out once a seam link is keyed: from a member in JOINING that follows a tick, and from a device that started as
master, whose strap the other master-capable device compares (R278, R279; log 68). -/
def State.sendJoin (s : State) : State :=
  let keyed := s.casc.seams.any (fun x => s.seamHeard x.port)
  let due := s.isMaster || (s.casc.mode == .joining && s.casc.followed.isSome)
  if due && keyed && !s.casc.joinSent then
    (s.setCasc (fun c => { c with joinSent := true })).originate msgJoin 0
      (ownCascadeVersion.toNat + 16 * bit s.rst.straps.masterPref)
  else s

/-- The channel path returns when some seam link shows a living master (R295). -/
def State.channelReturn (s : State) : State :=
  if s.casc.channelPathLost && s.casc.seams.any (fun x => !s.seamSilent x) then
    (s.setCasc (fun c => { c with channelPathLost := false })).raise 265 2 .clear 1 0 0
  else s

/-- The master's own part at a tick: the swap decision, a waiting handover, the cascade version (R289, R292, R299). -/
def State.stepMaster (s : State) : State :=
  if !s.isMaster then s
  else
    let s := s.decideSwap
    let s := match s.casc.swap with
      | some w => if w.phase == CascadePhase.committed && w.participants.isEmpty && w.frame ≤ s.clock.frame then
          s.closeSwap else s
      | none => s
    let s := match s.casc.handover with
      | some h => if h.tick.isNone && !s.handoverWaits then s.announceHandover h else s
      | none => s
    let allowed := s.allowedVersion
    if s.casc.swap.isNone && s.casc.version != allowed then
      let old := s.casc.version
      let s := (s.setCasc (fun c => { c with version := allowed })).raiseState old.toNat allowed.toNat 268 2 oneUnit
      let arbiter := match s.casc.declaration with | some d => d.arbiter | none => false
      s.raiseIf (allowed < 3 && arbiter) 268 3 .occurrence oneUnit 0 0
    else s

/-- MST_INH_IN_N is sampled (R280). -/
def State.sampleInterlock (s : State) : State :=
  let old := s.casc.mstInhIn
  let new := Config.interlockHeld s.clock.tick
  (s.setCasc (fun c => { c with mstInhIn := new })).raiseFlag old new 265 1 1

/-- What the cascade does at a tick: a takeover decided at this tick shows in the word of the next (R297). -/
def State.stepCascade (s : State) : State :=
  if s.casc.mode == .standalone then s
  else s.sampleInterlock.giveWay.stepMaster.sendJoin.channelReturn.sendTickWord.judgeTakeover

end Sys2Proof.Machine
end

