-- ==== Sys2Proof/Machine/Management.lean ====
section
/-! DEFINITION. The management cores: the interlock, failures and takeover, restart, role swaps, firmware activation,
and the semaphores (R330, R331, R416 to R443). -/
namespace Sys2Proof.Machine

/-- Change the management state. -/
def State.setMgmt (f : ManagementState → ManagementState) (s : State) : State := { s with mgmt := f s.mgmt }

/-- Change one core. -/
def State.setCore (i : Fin 2) (f : ManagementCore → ManagementCore) (s : State) : State :=
  s.setMgmt (fun m => { m with cores := m.cores.set i (f m.cores[i]) })

/-- A core. -/
def State.core (s : State) (i : Fin 2) : ManagementCore := s.mgmt.cores[i]

/-- The state codes of R417. -/
def CoreMode.code : CoreMode → Nat
  | .off => 0 | .booting => 1 | .syncing => 2 | .standby => 3 | .active => 4 | .fault => 5

/-- The codes of LAST_CAUSE (R420). -/
def OwnerCause.code : OwnerCause → Nat
  | .none => 0 | .coldStart => 1 | .warmReset => 2 | .watchdog => 3 | .heartbeatLoss => 4 | .faultReport => 5
  | .plannedSwap => 6 | .activation => 7 | .arbiter => 8

/-- Move a core to a state, with its event (R444). -/
def State.setCoreMode (i : Fin 2) (m : CoreMode) (s : State) : State :=
  let old := (s.core i).mode
  (s.setCore i (fun c => { c with mode := m })).raiseState old.code m.code (312 + i.val) 1 i.val

/-- The other core. -/
def otherCore (i : Fin 2) : Fin 2 := if i = 0 then 1 else 0

/-- The core in STANDBY (R417, R420). -/
def State.standbyCore (s : State) : Option (Fin 2) := (List.finRange 2).find? (fun i => (s.core i).mode == .standby)

/-- STANDBY_READY: the core that is not ACTIVE is in STANDBY (R417). -/
def State.standbyReady (s : State) : Bool := s.standbyCore.isSome

/-- The OWNER code (R420). -/
def ownerCode (o : Option (Fin 2)) : Nat := match o with | none => 0 | some i => i.val + 1

/-- MGMT_OWNER (R420). -/
def State.mgmtOwner (s : State) : Nat :=
  s.mgmt.transfers.toNat * 65536 + s.mgmt.lastCause.code * 256 + 16 * bit s.mgmt.arbiterMode
    + 4 * ownerCode s.standbyCore + ownerCode s.mgmt.owner

/-- OWNER changes, with its event (R421, R444). -/
def State.changeOwner (new : Option (Fin 2)) (cause : OwnerCause) (granted : Bool) (s : State) : State :=
  let old := s.mgmt.owner
  let s := s.setMgmt (fun m =>
    { m with owner := new, lastOwner := new.getD m.lastOwner, transfers := m.transfers + 1, lastCause := cause })
  s.raise 314 1 .state oneUnit (ownerCode old) (ownerCode new + 256 * cause.code + (if granted then 32768 else 0))

/-- A free SEM_M. -/
def SemM.free (abandoned : Bool) : SemM := { held := false, abandoned := abandoned, owner := 0, tag := 0 }
/-- A free SEM_H. -/
def SemH.free (abandoned : Bool) : SemH := { held := false, abandoned := abandoned, path := 0, tag := 0 }

/-- Release every SEM_M that a core holds; with ABANDONED after a failure or a reset (R443). -/
def State.releaseSemMs (core : Nat) (abandon : Bool) (s : State) : State :=
  let mine (x : SemM) : Bool := x.held && x.owner.toNat == core + 1
  let any := s.host.semMs.toList.any mine
  let s := { s with host := { s.host with semMs := s.host.semMs.map (fun x => if mine x then SemM.free abandon else x) } }
  s.raiseIf (any && abandon) 323 1 .occurrence core 0 0

/-- Release every SEM_H that a path holds (R331). -/
def State.releaseSemHs (path : Nat) (abandon : Bool) (s : State) : State :=
  let mine (x : SemH) : Bool := x.held && x.path.toNat == path
  let any := s.host.sems.toList.any mine
  let s := { s with host := { s.host with sems := s.host.sems.map (fun x => if mine x then SemH.free abandon else x) } }
  s.raiseIf (any && abandon) 306 1 .occurrence path 0 0

/-- The new owner processes the journal before it takes requests (R326): no record stands between DONE and APPLIED, a
BUILDING job runs again from its start (R137), and responses not yet posted leave with REPLAYED. -/
def State.replayJournal (s : State) : State :=
  let s := s.raise 305 2 .occurrence oneUnit s.host.journal.length 0
  let again (j : SampleJob) : SampleJob := { j with seen := 0, samples := [], taken := 0, skipped := 0, skipMark := false }
  let s := { s with perf := { s.perf with jobs := s.perf.jobs.map again } }
  match s.map.shadowMode, s.map.job with
  | .building, some j => s.runJob j
  | _, _ => s

/-- Service resumes: the gap closes (R429 step 5). -/
def State.endGap (s : State) : State := s.setMgmt (fun m => { m with serviceGap := false, takeover := none })

/-- The cache lines of a management core are invalid (R441). -/
def State.loseCaches (i : Fin 2) (s : State) : State := s.loseCore ⟨i.val, by omega⟩

/-- A core leaves the service: its domain goes OFF and its semaphores are abandoned (R429, R432, R443). -/
def State.dropCore (i : Fin 2) (repower : Option Nat) (s : State) : State :=
  let s := ((s.loseCaches i).setCoreMode i .fault).setDomain (coreDomain i) .off
  let s := s.setCore i (fun c => { c with repowerAt := repower, beatLost := Vector.replicate 2 false })
  s.releaseSemMs i.val true

/-- A core is in fault in the sense of R21, or no longer. -/
def State.markFaulted (i : Fin 2) (b : Bool) (s : State) : State := s.setCore i (fun c => { c with faulted := b })

/-- TAKEOVER (R429): OWNER moves to the standby, which resets the old owner, replays the journal and resumes service. -/
def State.takeOver (new : Fin 2) (cause : OwnerCause) (granted : Bool) (s : State) : State :=
  let old := s.mgmt.owner
  let now := s.clock.tick
  let s := s.setMgmt (fun m => { m with serviceGap := true })
  let s := (s.changeOwner (some new) cause granted).setCoreMode new .active
  let s := match old with
    | some o => if o = new then s else (s.markFaulted o true).dropCore o (some (now + 100000))
    | none => s
  let s := (s.releaseSemHs 3 true).setCore new (fun c => { c with marked := now })
  let s := s.replayJournal.endGap
  -- the new active core takes up the open captures in this tick period (R238)
  { s with cap := { s.cap with resuming := !s.cap.captures.isEmpty } }

/-- CORE_WARM_RESTART (R428): a failed core with no standby is power-cycled; at its third such failure within ten
minutes it enters FAULT and nobody owns the interlock. -/
def State.warmRestart (i : Fin 2) (s : State) : State :=
  let now := s.clock.tick
  let s := s.setMgmt (fun m => { m with serviceGap := true, takeover := none })
  let recent := now :: ((s.core i).failures.filter (fun t => now < t + 1200000000))
  let s := ((s.markFaulted i true).setCore i (fun c => { c with failures := recent })).releaseSemHs 3 true
  if 3 ≤ recent.length then (s.dropCore i none).changeOwner none .none false
  else
    let s := ((s.loseCaches i).setDomain (coreDomain i) .off).setDomain (coreDomain i) .on
    ((s.setCoreMode i .booting).setCore i (fun c => { c with marked := now })).releaseSemMs i.val true

/-- The ACTIVE core has failed (R426, R427, R428). -/
def State.failActive (cause : OwnerCause) (s : State) : State :=
  match s.mgmt.owner with
  | none => s
  | some o =>
    match s.standbyCore with
    | none => s.warmRestart o
    | some b =>
      if s.mgmt.arbiterMode then
        if s.mgmt.takeover.isSome then s
        else
          let now := s.clock.tick
          let probe := cause == .heartbeatLoss
          ((s.markFaulted o true).setMgmt (fun m => { m with serviceGap := true, takeover := some { cause := cause, at_ := now, probed := probe } })).raiseIf
            probe 316 2 .occurrence o.val 0 0
      else s.takeOver b cause false

/-- WATCHDOG_WRITE: a progress mark of a core that runs (R422). -/
def State.progressMark (i : Fin 2) (s : State) : State :=
  let now := s.clock.tick
  match (s.core i).mode with
  | .off | .fault => s
  | _ => s.setCore i (fun c => { c with marked := now })

def execWatchdogWrite (core : Fin 2) (s : State) : Host.Outcome State Fault Refusal := .next (s.settled (s.progressMark core))

/-- WATCHDOG_EXPIRY: 50 ms without a progress mark (R422). -/
def State.watchdogExpiry (i : Fin 2) (s : State) : State :=
  if (s.core i).marked + 100000 ≤ s.clock.tick then
    match (s.core i).mode with
    | .active => (s.raise 315 1 .occurrence i.val 0 0).failActive .watchdog
    | .standby => ((s.raise 315 1 .occurrence i.val 0 0).markFaulted i true).dropCore i (some (s.clock.tick + 100000))
    | _ => s
  else s

def execWatchdogExpiry (core : Fin 2) (s : State) : Host.Outcome State Fault Refusal := .next (s.settled (s.watchdogExpiry core))

/-- BEAT_PATH_LOSS: four beats are missing on a path; the loss of both fails the core (R423). -/
def State.beatLoss (i path : Fin 2) (s : State) : State :=
  let c := s.core i
  if c.beatLost[path] || c.mode == .off || c.mode == .fault then s
  else
    let s := (s.setCore i (fun c => { c with beatLost := c.beatLost.set path true })).raise 316 1 .set i.val path.val 0
    if (s.core i).beatLost.toList.all id && !s.mgmt.pathsDistrusted then
      match c.mode with
      | .active => s.failActive .heartbeatLoss
      | .standby => (s.markFaulted i true).dropCore i (some (s.clock.tick + 100000))
      | _ => s
    else s

def execBeatPathLoss (core path : Fin 2) (s : State) : Host.Outcome State Fault Refusal := .next (s.settled (s.beatLoss core path))

/-- BEAT_PATH_RETURN: beats arrive again on a lost path (R423, R427). -/
def State.beatReturn (i path : Fin 2) (s : State) : State :=
  if (s.core i).beatLost[path] then
    let s := (s.setCore i (fun c => { c with beatLost := c.beatLost.set path false })).raise 316 1 .clear i.val path.val 0
    if (s.core i).beatLost.toList.any id then s else s.setMgmt (fun m => { m with pathsDistrusted := false })
  else s

def execBeatPathReturn (core path : Fin 2) (s : State) : Host.Outcome State Fault Refusal := .next (s.settled (s.beatReturn core path))

/-- FAULT_REPORT: the ACTIVE core reports a fault of itself (R424). -/
def State.faultReport (kind : CoreFault) (s : State) : State :=
  match s.mgmt.owner with
  | some o => (s.raiseIf (kind == .uncorrectableCache) (312 + o.val) 2 .fault o.val 0 0).failActive .faultReport
  | none => s

def execFaultReport (kind : CoreFault) (s : State) : Host.Outcome State Fault Refusal := .next (s.settled (s.faultReport kind))

/-- The request is decided for a takeover; a standby that has gone meanwhile leaves a warm restart (R427, R428). -/
def State.decideTakeover (granted : Bool) (s : State) : State :=
  match s.mgmt.takeover, s.standbyCore, s.mgmt.owner with
  | some t, some b, _ => s.takeOver b t.cause granted
  | some _, none, some o => s.warmRestart o
  | _, _, _ => s

/-- ARBITER_GRANT (R427). -/
def execArbiterGrant (s : State) : Host.Outcome State Fault Refusal := .next (s.settled (s.decideTakeover true))

/-- ARBITER_PROBE_ANSWER: the active core answers the probe and the takeover is denied (R427). -/
def State.probeAnswered (s : State) : State :=
  match s.mgmt.takeover with
  | some t =>
    if t.probed then
      let s := match s.mgmt.owner with | some o => s.markFaulted o false | none => s
      (s.endGap.setMgmt (fun m => { m with pathsDistrusted := true })).raise 316 3 .refused oneUnit t.cause.code 0
    else s
  | none => s

def execArbiterProbeAnswer (s : State) : Host.Outcome State Fault Refusal := .next (s.settled s.probeAnswered)

/-- ARBITER_SILENT_TIMEOUT: 5 ms without a grant or a denial; the interlock decides (R427). -/
def State.arbiterSilent (s : State) : State :=
  match s.mgmt.takeover with
  | some t => if t.at_ + 10000 ≤ s.clock.tick then (s.raise 316 4 .occurrence oneUnit 0 0).decideTakeover false else s
  | none => s

def execArbiterSilentTimeout (s : State) : Host.Outcome State Fault Refusal := .next (s.settled s.arbiterSilent)

/-- A core enters SYNCING (R417, R444). -/
def State.enterSyncing (i : Fin 2) (s : State) : State := (s.setCoreMode i .syncing).raise 319 1 .occurrence i.val 0 0

/-- The interlock passes from its owner to the core in STANDBY, or to none (R421, R434, R443). -/
def State.passInterlock (cause : OwnerCause) (s : State) : State :=
  match s.mgmt.owner with
  | none => s
  | some o =>
    let now := s.clock.tick
    match s.standbyCore with
    | some b =>
      let s := ((s.changeOwner (some b) cause false).setCoreMode b .active).enterSyncing o
      s.setCore b (fun c => { c with marked := now })
    | none => ((s.changeOwner none cause false).enterSyncing o).setMgmt (fun m => { m with serviceGap := true })

/-- MGMT_OWNER_RELEASE: RELEASE from the owner; from any other master it is ignored (R420, R421, R443). -/
def State.ownerRelease (m : FabricMaster) (s : State) : State :=
  let by_ : Option (Fin 2) := match m with | .managementA => some 0 | .managementB => some 1 | _ => none
  match by_ with
  | some i =>
    if s.mgmt.owner = some i then
      let s := ((s.releaseSemMs i.val true).releaseSemHs 3 true).passInterlock .plannedSwap
      if s.mgmt.owner.isSome then s.replayJournal else s
    else s
  | none => s

def execMgmtOwnerRelease (m : FabricMaster) (s : State) : Host.Outcome State Fault Refusal := .next (s.settled (s.ownerRelease m))

/-- CORE_REPOWER: 50 ms after FAULT, or 60 s after a failed attempt, the core runs BOOTING on the ACTIVE core's image
(R432, R433). -/
def State.coreRepower (i : Fin 2) (s : State) : State :=
  let c := s.core i
  match c.mode, c.repowerAt with
  | .fault, some t =>
    if t ≤ s.clock.tick && !c.unusable then
      let image := match s.mgmt.owner with | some o => (s.core o).image | none => c.image
      let now := s.clock.tick
      let s := (s.setDomain (coreDomain i) .on).setCoreMode i .booting
      (s.setCore i (fun c => { c with repowerAt := none, image := image, marked := now })).raise 319 3 .repair i.val 0 0
    else s
  | _, _ => s

def execCoreRepower (core : Fin 2) (s : State) : Host.Outcome State Fault Refusal := .next (s.settled (s.coreRepower core))

/-- A core takes an interlock that nobody owns, or takes it again, and service resumes (R418, R428). -/
def State.takeInterlock (i : Fin 2) (cause : OwnerCause) (s : State) : State :=
  let s := if s.mgmt.owner = some i then s else s.changeOwner (some i) cause false
  let now := s.clock.tick
  let s := (s.setCoreMode i .active).setCore i (fun c => { c with marked := now, faulted := false })
  let s := if s.host.service = 0 then s.endGap else s.replayJournal.endGap
  match s.mgmt.warmReset with
  | some c => (s.setMgmt (fun m => { m with warmReset := none })).complete c .ok 0 []
  | none => s

/-- The cause with which an unowned interlock is taken (R418, R420). -/
def State.startCause (s : State) : OwnerCause :=
  if s.host.service = 0 then .coldStart else if s.mgmt.lastCause == .none then .coldStart else .warmReset

/-- An activation fails (R413, R437): back to the old image. -/
def State.rollBack (s : State) : State :=
  match s.mgmt.activation with
  | none => s
  | some a =>
    let now := s.clock.tick
    let old := a.oldImage
    let s := s.raise 318 2 .fault oneUnit 0 0
    match s.mgmt.owner with
    | none => s
    | some o =>
      let i := otherCore o
      let s := (s.setDomain (coreDomain i) .on).setCoreMode i .booting
      let s := s.setCore i (fun c => { c with image := old, marked := now, repowerAt := none })
      match a.step with
      | .standbyNew =>
        (s.setMgmt (fun m => { m with activation := none, staged := 1 })).complete a.command .errState 0 (leBytes 2 old.version.toNat)
      | _ => s.setMgmt (fun m => { m with activation := some { a with step := .rollback, started := now } })

/-- BOOTING or SYNCING of a core has failed (R418, R433). -/
def State.bootFailed (i : Fin 2) (s : State) : State :=
  let now := s.clock.tick
  let tries := now :: ((s.core i).attempts.filter (fun t => now < t + 3600 * second))
  let s := s.setCore i (fun c => { c with attempts := tries })
  let owned := s.mgmt.owner = some i
  let s := s.dropCore i (if tries.length < 3 then some (now + 60 * second) else none)
  let s := s.raise 319 4 .fault i.val tries.length 0
  let s := if owned then s.changeOwner none .none false else s
  let j := otherCore i
  let s := if s.mgmt.owner.isNone && ((s.core j).mode == .syncing || (s.core j).mode == .standby) then
      s.takeInterlock j s.startCause else s
  if s.mgmt.activation.isSome then s.rollBack else s

/-- CORE_BOOTED: a core completes BOOTING, or fails it (R418, R432, R433). -/
def State.coreBooted (i : Fin 2) (passed : Bool) (s : State) : State :=
  if (s.core i).mode != .booting then s
  else if !passed then s.bootFailed i
  else
    let waits := (s.core s.mgmt.lastOwner).mode == .booting && s.mgmt.lastOwner != i
    match s.mgmt.owner with
    | some o => if o = i then s.takeInterlock i s.mgmt.lastCause else s.enterSyncing i
    | none => if waits then s.enterSyncing i else s.takeInterlock i s.startCause

def execCoreBooted (core : Fin 2) (passed : Bool) (s : State) : Host.Outcome State Fault Refusal :=
  .next (s.settled (s.coreBooted core passed))

/-- A swap of the management roles (R434 steps 2 to 5); it answers the command that asked for it. -/
def State.performRoleSwap (cause : OwnerCause) (s : State) : State :=
  match s.mgmt.owner with
  | none => s
  | some o =>
    let s := ((s.releaseSemMs o.val false).releaseSemHs 3 false).passInterlock cause
    let s := s.raise 317 1 .occurrence oneUnit cause.code 0
    let commands := match s.mgmt.roleSwap with | some (.commanded cs, _) => cs | _ => []
    let s := s.setMgmt (fun m => { m with roleSwap := none })
    commands.foldl (fun (s : State) (c : CommandRef) => s.complete c .ok 0 (leBytes 8 s.clock.frame.toNat)) s

/-- What a role swap waits for (R434 step 1): a map job, a firmware stage, an announced handover. -/
def State.roleSwapWaits (s : State) : Bool :=
  let announced := match s.casc.handover with
    | some h => (match h.tick with | some t => decide (s.clock.frame ≤ t + 1) | none => false)
    | none => false
  s.map.job.isSome || s.sec.work.any (fun w => w.opcode == 0x0F01) || announced

/-- Try a role swap that is asked for (R434). -/
def State.tryRoleSwap (s : State) : State :=
  match s.mgmt.roleSwap with
  | none => s
  | some (cause, t) =>
    if t ≤ s.clock.tick && s.standbyReady && !s.roleSwapWaits then
      s.performRoleSwap (match cause with | .activation => .activation | _ => .plannedSwap)
    else s

/-- PERIODIC_ROLE_SWAP: the period elapses, or a wait of 1 s ends in a deferral of 60 s (R434). -/
def State.periodicRoleSwap (s : State) : State :=
  let now := s.clock.tick
  match s.mgmt.roleSwap with
  | some (cause, t) =>
    if t + second ≤ now && s.roleSwapWaits then
      (s.setMgmt (fun m => { m with roleSwap := some (cause, now + 60 * second) })).raise 317 2 .occurrence oneUnit 0 0
    else s.tryRoleSwap
  | none =>
    if s.mgmt.roleNext ≤ now then
      let s := s.setMgmt (fun m => { m with roleNext := now + m.rolePeriodH * 3600 * second })
      if !s.standbyReady || s.mgmt.activation.isSome then s.raise 317 3 .occurrence oneUnit 0 0
      else (s.setMgmt (fun m => { m with roleSwap := some (.periodic, now) })).tryRoleSwap
    else s

def execPeriodicRoleSwap (s : State) : Host.Outcome State Fault Refusal := .next (s.settled s.periodicRoleSwap)

/-- The slot that is not the boot slot (R412). -/
def State.otherImageSlot (s : State) : Fin 2 := if s.mgmt.bootSlot = 0 then 1 else 0

/-- A core is reset and runs BOOTING on an image (R435, R437). -/
def State.rebootCore (i : Fin 2) (image : ImageInfo) (s : State) : State :=
  let now := s.clock.tick
  (((s.loseCaches i).releaseSemMs i.val true).setCoreMode i .booting).setCore i (fun c => { c with image := image, marked := now, repowerAt := none })

/-- FW_ACTIVATE begins: the standby restarts on the staged image (R435 step 1). -/
def State.startActivation (c : CommandRef) (s : State) : State :=
  match s.standbyCore, s.mgmt.owner, s.mgmt.slots[s.otherImageSlot].content with
  | some b, some o, some x =>
    let now := s.clock.tick
    let a : Activation :=
      { step := .standbyNew, started := now, oldImage := (s.core o).image, newImage := x, command := c }
    let s := s.setMgmt (fun m => { m with activation := some a, staged := 2 })
    (s.raise 318 1 .occurrence b.val 1 0).rebootCore b x
  | _, _, _ => s

/-- A rollback counter is advanced to an image's security version (R451, R469): the bundle's when `kind` is 1. -/
def State.advanceRollback (kind version : Nat) (s : State) : State :=
  let old := if kind = 1 then s.sec.rollbackBundle else s.sec.rollbackLibrary
  if version ≤ old then s
  else
    let s := { s with sec :=
      if kind = 1 then { s.sec with rollbackBundle := version } else { s.sec with rollbackLibrary := version } }
    s.raise 334 1 .occurrence oneUnit kind version

/-- The activation goes on when a core reaches STANDBY (R435, R437). -/
def State.stepActivation (i : Fin 2) (s : State) : State :=
  match s.mgmt.activation with
  | none => s
  | some a =>
    let now := s.clock.tick
    match a.step with
    | .standbyNew =>
      if (s.core i).image = a.newImage then
        let s := s.setMgmt (fun m => { m with activation := some { a with step := .otherNew, started := now } })
        let s := (s.raise 318 1 .occurrence i.val 2 0).performRoleSwap .activation
        s.rebootCore (otherCore i) a.newImage
      else s
    | .otherNew =>
      if (s.core i).image = a.newImage then
        let slot := s.otherImageSlot
        let s := (s.raise 318 1 .occurrence i.val 3 0).complete a.command .ok 0 (leBytes 2 a.newImage.version.toNat)
        let s := s.setMgmt (fun m => { m with bootSlot := slot, staged := 0, activation := none })
        ((s.raise 318 1 .occurrence i.val 4 0).advanceRollback 1 a.newImage.securityVersion).commit a.command
      else s
    | .rollback =>
      let s := s.raise 318 3 .occurrence i.val 0 0
      match s.mgmt.owner with
      | some o =>
        if (s.core o).image = a.oldImage then
          (s.setMgmt (fun m => { m with activation := none, staged := 1 })).complete a.command .errState 0 (leBytes 2 a.oldImage.version.toNat)
        else
          let s := s.performRoleSwap .activation
          s.rebootCore o a.oldImage
      | none => s

/-- CORE_STANDBY_REACHED: a syncing core follows the journal (R432). -/
def State.coreStandby (i : Fin 2) (s : State) : State :=
  if (s.core i).mode != .syncing then s
  else if s.mgmt.owner.isNone then s.takeInterlock i s.startCause
  else (((s.setCoreMode i .standby).markFaulted i false).raise 319 2 .occurrence i.val 0 0).stepActivation i

def execCoreStandbyReached (core : Fin 2) (s : State) : Host.Outcome State Fault Refusal := .next (s.settled (s.coreStandby core))

/-- ACTIVATION_RESYNC_TIMEOUT: 10 s without the restarted core in STANDBY (R413, R437). -/
def State.resyncExpiry (s : State) : State :=
  match s.mgmt.activation with
  | some a => if a.started + 10 * second ≤ s.clock.tick && a.step != .rollback then s.rollBack else s
  | none => s

def execActivationResyncTimeout (s : State) : Host.Outcome State Fault Refusal := .next (s.settled s.resyncExpiry)

/-- A warm reset of the management and solver processors (R344, R418, R443, R524): the cores boot again, and service
resumes under R326. -/
def State.warmReset (c : Option CommandRef) (s : State) : State :=
  let now := s.clock.tick
  let s := s.setMgmt (fun m => { m with warmReset := if c.isSome then c else m.warmReset, serviceGap := true, takeover := none })
  let s := s.releaseSemHs 3 true
  let s := [0, 1, 2, 3].foldl (fun s core => s.releaseSemMs core true) s
  let s := (List.finRange 4).foldl (fun s core => s.loseCore core) s
  let boot (s : State) (i : Fin 2) : State :=
    match (s.core i).mode with
    | .off | .fault => s
    | _ => (s.setCoreMode i .booting).setCore i (fun x => { x with marked := now, beatLost := Vector.replicate 2 false })
  let s := (List.finRange 2).foldl boot s
  let s := if s.mgmt.owner.isSome then s.changeOwner none .warmReset false else s
  match s.map.shadowMode, s.map.job with
  | .building, some j => s.runJob j
  | _, _ => s

/-- WARM_RST_N asserts: ignored in BOOT, SHUTDOWN and HALTED, and no second reset while one awaits its completion
(R524, R525). -/
def State.warmPin (s : State) : State :=
  if s.host.service = 0 || 3 ≤ s.host.service then s.raise 373 4 .occurrence oneUnit 0 0
  else if s.mgmt.warmReset.isSome then s
  else (s.raise 373 3 .occurrence oneUnit 0 0).warmReset none

def execWarmRstNAssert (s : State) : Host.Outcome State Fault Refusal := .next (s.settled s.warmPin)

/-- The code of a path (R330). -/
def pathCode : SemPath → BitVec 2
  | .pcie => 1 | .i2c => 2 | .management => 3

/-- SEM_ACQUIRE: take SEM_Hn when it is free; ABANDONED stays set through the next hold (R330, R331). -/
def State.semAcquire (path : SemPath) (n : Fin 8) (tag : BitVec 16) (s : State) : State :=
  let x := s.host.sems[n]
  if x.held then s
  else { s with host := { s.host with sems := s.host.sems.set n { x with held := true, path := pathCode path, tag := tag } } }

def execSemAcquire (path : SemPath) (n : Fin 8) (tag : BitVec 16) (s : State) : Host.Outcome State Fault Refusal :=
  .next (s.settled (s.semAcquire path n tag))

/-- SEM_RELEASE: by the owner; any other changes nothing and raises an event (R330). -/
def State.semRelease (path : SemPath) (n : Fin 8) (tag : BitVec 16) (s : State) : State :=
  let x := s.host.sems[n]
  if x.held && x.path == pathCode path && x.tag == tag then
    { s with host := { s.host with sems := s.host.sems.set n (SemH.free false) } }
  else s.raise 306 2 .refused n.val (pathCode path).toNat tag.toNat

def execSemRelease (path : SemPath) (n : Fin 8) (tag : BitVec 16) (s : State) : Host.Outcome State Fault Refusal :=
  .next (s.settled (s.semRelease path n tag))

/-- SEM_M_ACQUIRE (R442). -/
def State.semMAcquire (core : Fin 4) (n : Fin 32) (tag : BitVec 16) (s : State) : State :=
  let x := s.host.semMs[n]
  if x.held then s
  else { s with host := { s.host with
    semMs := s.host.semMs.set n { x with held := true, owner := BitVec.ofNat 3 (core.val + 1), tag := tag } } }

def execSemMAcquire (core : Fin 4) (n : Fin 32) (tag : BitVec 16) (s : State) : Host.Outcome State Fault Refusal :=
  .next (s.settled (s.semMAcquire core n tag))

/-- SEM_M_RELEASE: the owner is known by its fabric identity; the tag must be the owner's as well (R330, R442). -/
def State.semMRelease (core : Fin 4) (n : Fin 32) (tag : BitVec 16) (s : State) : State :=
  let x := s.host.semMs[n]
  if x.held && x.owner.toNat == core.val + 1 && x.tag == tag then
    { s with host := { s.host with semMs := s.host.semMs.set n (SemM.free false) } }
  else s.raise 323 2 .refused n.val core.val tag.toNat

def execSemMRelease (core : Fin 4) (n : Fin 32) (tag : BitVec 16) (s : State) : Host.Outcome State Fault Refusal :=
  .next (s.settled (s.semMRelease core n tag))

/-- MGMT_HEARTBEAT at a tick: every 1 ms while the active core's last mark is less than 10 ms old, held in a gap (R308,
R422, R431). -/
def State.countHeartbeat (s : State) : State :=
  match s.mgmt.owner with
  | some o =>
    if s.clock.tick % 2000 = 0 && !s.mgmt.serviceGap && decide (s.clock.tick < (s.core o).marked + 20000) then
      { s with host := { s.host with mgmtHeartbeat := s.host.mgmtHeartbeat + 1 } }
    else s
  | none => s

end Sys2Proof.Machine
end

