-- ==== Sys2Proof/Machine/FabricAccess.lean ====
section
/-! DEFINITION. The control fabric: address map, permissions, collisions and SECDED (R505 to R515), and the eFlash
controller (R516 to R520). -/
namespace Sys2Proof.Machine

/-- The targets of R508. -/
inductive FabricTarget where
  | sram | journal | keep | eventBuffer | mailbox | flashControl | security | flashWindow | bridge (i : Fin 5) | hbm
  deriving DecidableEq, Repr

/-- The address map of R508: the target and the offset within it; none is a decode error. -/
def fabricTarget (a : Nat) : Option (FabricTarget × Nat) :=
  if a < 0x800000 then some (.sram, a)
  else if a < 0x900000 then some (.journal, a - 0x800000)
  else if a < 0x910000 then some (.keep, a - 0x900000)
  else if 0x980000 ≤ a ∧ a < 0x9A0000 then some (.eventBuffer, a - 0x980000)
  else if 0xA00000 ≤ a ∧ a < 0xE00000 then some (.mailbox, a - 0xA00000)
  else if 0xE00000 ≤ a ∧ a < 0xE10000 then some (.flashControl, a - 0xE00000)
  else if 0xF00000 ≤ a ∧ a < 0xF10000 then some (.security, a - 0xF00000)
  else if 0x1000000 ≤ a ∧ a < 0x2000000 then some (.flashWindow, a - 0x1000000)
  else if 0x10000000 ≤ a ∧ a < 0x20000000 then some (.bridge 0, a - 0x10000000)
  else if 0x20000000 ≤ a ∧ a < 0x30000000 then some (.bridge 1, a - 0x20000000)
  else if 0x30000000 ≤ a ∧ a < 0x40000000 then some (.bridge 2, a - 0x30000000)
  else if 0x40000000 ≤ a ∧ a < 0x50000000 then some (.bridge 3, a - 0x40000000)
  else if 0x50000000 ≤ a ∧ a < 0x60000000 then some (.bridge 4, a - 0x50000000)
  else if 0x1000000000 ≤ a ∧ a < 0x1C00000000 then some (.hbm, a - 0x1000000000)
  else none

/-- The rows of R508 in order, the instances of KIND 09h (R542). -/
def FabricTarget.row : FabricTarget → Nat
  | .sram => 0 | .journal => 1 | .keep => 2 | .eventBuffer => 3 | .mailbox => 4 | .flashControl => 5 | .security => 6
  | .flashWindow => 7 | .bridge i => 8 + i.val | .hbm => 13

/-- The arbiter of a target: the journal shares its own with the keep-domain block, the read window with the eFlash
controller (R505, R506). -/
def FabricTarget.arbiter : FabricTarget → Fin 12
  | .sram => 0 | .journal | .keep => 1 | .eventBuffer => 2 | .mailbox => 3 | .flashControl | .flashWindow => 4
  | .security => 5 | .bridge i => ⟨6 + i.val, by omega⟩ | .hbm => 11

/-- The access sizes of R506, aligned. -/
def FabricTarget.takesSize (t : FabricTarget) (a n : Nat) : Bool :=
  (match t with
   | .sram | .mailbox => n == 1 || n == 2 || n == 4 || n == 8
   | .journal | .keep | .eventBuffer | .flashWindow | .bridge _ => n == 4 || n == 8
   | .flashControl | .security => n == 4
   | .hbm => n == 8) && a % n == 0

/-- The code of a master (R511). -/
def masterCode : FabricMaster → Fin 8
  | .managementA => 0 | .managementB => 1 | .solver0 => 2 | .solver1 => 3 | .securityCore => 4 | .hostDma => 5
  | .debugPort => 6 | .captureDma => 7

/-- The rows of R509. -/
inductive AccessRole where
  | owner | other (core : Fin 2) | solver | security | hostDma | captureDma | debugOf (core : Option (Fin 2)) | none
  deriving DecidableEq, Repr

/-- The row of R509 that a master has now; the debug access port is as management A, once it is open (R467). -/
def State.accessRole (s : State) : FabricMaster → AccessRole
  | .managementA => if s.mgmt.owner = some 0 then .owner else .other 0
  | .managementB => if s.mgmt.owner = some 1 then .owner else .other 1
  | .solver0 | .solver1 => .solver
  | .securityCore => .security
  | .hostDma => .hostDma
  | .captureDma => .captureDma
  | .debugPort =>
    if !s.sec.debugOpen then .none else .debugOf (if s.mgmt.owner = some 0 then Option.none else some 0)

/-- The key-blob region, readable by the security core alone (R509, R517). -/
def keyBlobByte (off : Nat) : Bool := decide (0x1000 * 4016 ≤ off) && decide (off < 0x1000 * 4020)

/-- The lane cipher key registers behind the port-control bridge (R508). -/
def cipherKeys (t : FabricTarget) (off : Nat) : Bool := t == .bridge 0 && decide (0xF000000 ≤ off)

/-- Whether an offset lies in the 256 KiB of management SRAM that a core may write alone (R509). -/
def ownRegion (core : Fin 2) (off : Nat) : Bool :=
  decide (0x780000 + 0x40000 * core.val ≤ off) && decide (off < 0x7C0000 + 0x40000 * core.val)

/-- What the owner reaches (R509). -/
def ownerReach (t : FabricTarget) (off : Nat) (write : Bool) : Bool :=
  match t with
  | .eventBuffer | .flashWindow => !write && !(t == .flashWindow && keyBlobByte off)
  | .bridge _ => !cipherKeys t off
  | _ => true

/-- What the other management core reaches (R419, R509). -/
def otherReach (core : Fin 2) (t : FabricTarget) (off : Nat) (write : Bool) : Bool :=
  match t with
  | .sram => !write || ownRegion core off
  | .security => false
  -- its own watchdog and SEM_M0 to SEM_M31 lie behind the miscellaneous bridge, at places that the spec does not give
  | .bridge i => !cipherKeys t off && (!write || i == 4)
  | .flashWindow => !write && !keyBlobByte off
  | _ => !write

/-- The table of R509. -/
def AccessRole.reaches (r : AccessRole) (t : FabricTarget) (off : Nat) (write : Bool) : Bool :=
  match r with
  | .owner => ownerReach t off write
  | .other c => otherReach c t off write
  | .solver =>
    match t with
    | .sram | .hbm => true
    | .flashControl => !write
    | .flashWindow => !write && !keyBlobByte off
    | .bridge i => !cipherKeys t off && (!write || i == 2)
    | _ => false
  | .security =>
    match t with
    | .journal | .keep | .eventBuffer | .flashWindow => !write
    | .mailbox | .flashControl | .security => true
    | .bridge _ => write && cipherKeys t off
    | _ => false
  | .hostDma => t == .sram || t == .mailbox || t == .hbm
  | .captureDma => t == .sram
  | .debugOf .none => t != .security && ownerReach t off write
  | .debugOf (some c) => t != .security && otherReach c t off write
  | .none => false

/-- PARAM2 of this chapter's records (R511). -/
def accessParam (a : FabricAccess) : Nat :=
  a.address.toNat / 4294967296 + 256 * (masterCode a.master).val + 4096 * bit a.write.isSome

/-- Change the fabric. -/
def State.setFabric (f : FabricState → FabricState) (s : State) : State := { s with fabric := f s.fabric }

/-- The response that a master gets. -/
def State.respond (m : FabricMaster) (v : BitVec 64) (error : Bool) (s : State) : State :=
  s.setFabric (fun f => { f with responses := f.responses.set (masterCode m) (v, error) })

/-- The source of a memory's SECDED events (R521). -/
def FabricTarget.eccSource : FabricTarget → Option Nat
  | .sram => some 365
  | .journal | .eventBuffer => some 366
  | .mailbox => some 367
  | .hbm => some 370
  | _ => none

/-- The unit that a record names: the logical bank, or the mailbox channel (R512, R312). -/
def FabricTarget.eccUnit (t : FabricTarget) (off : Nat) : Nat :=
  match t with
  | .sram => off / 8 % 16
  | .mailbox => off / 0x80000
  | _ => oneUnit

/-- An error that SECDED cannot correct (R514, R515): the word stays bad until it is written; a management SRAM bank is
then faulty, and a second one with the spare in use keeps the next start in BOOT. -/
def State.uncorrectable (t : FabricTarget) (off addr p2 : Nat) (s : State) : State :=
  match t.eccSource with
  | none => s
  | some src =>
    let s := s.setFabric (fun f => { f with badWords := if f.badWords.contains (addr / 8) then f.badWords else addr / 8 :: f.badWords })
    let s := s.raise src 2 .occurrence (t.eccUnit off) (addr % 4294967296) p2
    if t == .sram then
      let bank : Fin 16 := ⟨off / 8 % 16, by omega⟩
      if s.fabric.faulty.any (fun x => x.1 == bank) then s
      else
        let second := s.fabric.spareFor.isSome || !s.fabric.faulty.isEmpty
        (s.setFabric (fun f => { f with faulty := f.faulty ++ [(bank, BitVec.ofNat 40 addr)] })).raiseIf
          second 365 4 .fault bank.val (addr % 4294967296) p2
    else s

/-- An error that SECDED corrects: counted, written back, with its event (R514). -/
def State.correctedWord (t : FabricTarget) (off addr p2 : Nat) (s : State) : State :=
  match t.eccSource with
  | none => s
  | some src =>
    let s := if t == .sram then s.tally 6 (off / 8 % 16) 4 1 else s
    (s.setFabric (fun f => { f with corrected := f.corrected + 1 })).raise src 1 .occurrence (t.eccUnit off) (addr % 4294967296) p2

/-- The value of `n` bytes. -/
def wordOf (bs : List Byte) : BitVec 64 := BitVec.ofNat 64 (leNat bs)

/-- The local memory of a physical engine behind the engine-control bridge: 64 KiB each (R177, R508). -/
def engineMemory (off : Nat) : Bool := decide (off < 0x8000000) && decide (off / 0x10000 % 256 < 132)

/-- Whether a read of a target gives a register that the spec does not place: a free value. -/
def FabricTarget.freeRead (t : FabricTarget) (off : Nat) : Bool :=
  match t with
  | .flashControl | .security => true
  | .bridge i => !(i == 1 && engineMemory off)
  | _ => false

/-- What a permitted read gives (R508); registers that the spec does not place give a free value (log 32). -/
def State.fabricRead (s : State) (t : FabricTarget) (addr off n : Nat) : BitVec 64 :=
  if t.freeRead off then Config.registerRead s.fresh
  else match t with
  | .sram => wordOf ((List.range n).map (fun i => s.sramByte (addr + i)))
  | .journal | .mailbox | .hbm | .flashControl | .security | .bridge _ => wordOf (memRead ramDefault s.fabric.cells addr n)
  | .keep => if off = 0 then BitVec.ofNat 64 s.mgmtOwner else if off = 4 then 0 else wordOf (memRead ramDefault s.fabric.cells addr n)
  | .eventBuffer =>
    let bytes := (s.ev.buffer[off / 32]?).map (fun b => b.record.bytes)
    wordOf (((bytes.getD (zeros 32)).drop (off % 32)).take n)
  | .flashWindow => wordOf (memRead flashDefault s.flash.cells off n)

/-- Set a flag of BAR0_ERR, with an event when it was clear (R305, R312, R334). -/
def State.setBar0Err (flag : Nat) (s : State) : State :=
  ({ s with host := { s.host with bar0Err := setBit s.host.bar0Err flag } }).raiseIf
    (!s.host.bar0Err.getLsbD flag) 296 5 .occurrence oneUnit flag 0

/-- Whether an offset of the mailbox window lies in a response entry (R312). -/
def responseByte (off : Nat) : Bool := decide (0x40000 ≤ off % 0x80000)

/-- A permitted write (R312, R421, R508). -/
def State.fabricWrite (t : FabricTarget) (m : FabricMaster) (addr off n : Nat) (v : BitVec 64) (s : State) : State :=
  let store (s : State) : State :=
    s.setFabric (fun f =>
      { f with cells := memWrite ramDefault f.cells addr (leBytes n v.toNat)
               badWords := if n = 8 then f.badWords.filter (· != addr / 8) else f.badWords })
  match t with
  | .sram =>
    match masterCore m with
    | some c => (s.ownLine c (lineOf addr)).writeLine addr (leBytes n v.toNat)
    | none => store (s.snoopLine true (lineOf addr))
  | .journal | .hbm => store s
  | .mailbox =>
    if m == .hostDma && responseByte off then s.setBar0Err 2
    else store s
  | .keep =>
    if off = 4 then (if v.getLsbD 0 then s.ownerRelease m else s)
    else if off = 0 then (if n = 8 && v.getLsbD 32 then s.ownerRelease m else s)
    else store s
  | .bridge i => if i == 1 && engineMemory off then store s else s
  | .eventBuffer | .flashWindow | .flashControl | .security => s

/-- Port D's write meets a write of port M in one word: the collision is counted and the write retried; at the fourth
in a row port M is held and the write performed (R513). -/
def State.collide (off : Nat) (s : State) : State × Bool :=
  let bank : Fin 16 := ⟨off / 8 % 16, by omega⟩
  let run := match s.fabric.streak with
    | some (w, n) => if w = off / 8 then n + 1 else 1
    | none => 1
  let s := s.setFabric (fun f =>
    { f with collisions := f.collisions.set bank (f.collisions[bank] + 1), streak := if run = 4 then none else some (off / 8, run) })
  (s, run = 4)

/-- A read of management SRAM moves its line: into the core's data cache, or through the snoop port (R439). -/
def State.readLine (m : FabricMaster) (n : Nat) (s : State) : State :=
  match masterCore m with
  | some c => s.shareLine c n
  | none => s.snoopLine false n

/-- One access: a decode error answers normally, a refusal with an error, both with an event; otherwise it is performed (R505 to
R515). -/
def State.accessOne (a : FabricAccess) (s : State) : State :=
  let addr := a.address.toNat
  let p1 := addr % 4294967296
  match fabricTarget addr with
  | none => (s.respond a.master 0 false).raise 368 1 .occurrence oneUnit p1 (accessParam a)
  | some (t, off) =>
    let n := a.bytes.val
    let s := (s.tally 9 t.row 1 1).setFabric (fun f => { f with granted := f.granted.set t.arbiter (some (masterCode a.master)) })
    let allowed := (s.accessRole a.master).reaches t off a.write.isSome
    if !(allowed && t.takesSize addr n) then
      let s := (s.tally 9 t.row 3 1).setFabric (fun f => { f with refusals := f.refusals + 1 })
      let s := (s.respond a.master 0 true).raise 368 2 .refused oneUnit p1 (accessParam a)
      if a.write.isSome && !allowed then
        match a.master with
        | .managementA => s.raise 312 3 .refused 0 p1 (accessParam a)
        | .managementB => s.raise 313 3 .refused 1 p1 (accessParam a)
        | _ => s
      else s
    else
      let dma := a.master == .hostDma || a.master == .captureDma
      let s := if t == .sram then s.tally 6 (off / 8 % 16) (if dma then 2 else 1) 1 else s
      match a.write with
      | some v =>
        let portD := t == .sram && (a.master == .hostDma || a.master == .captureDma)
        if portD && a.collision then
          match s.collide off with
          | (s, true) => (s.fabricWrite t a.master addr off n v).respond a.master 0 false
          | (s, false) => s
        else
          let s := if portD then s.setFabric (fun f => { f with streak := none }) else s
          (s.respond a.master 0 false).fabricWrite t a.master addr off n v
      | none =>
        if a.ecc == .uncorrectable && t.eccSource.isSome then (s.uncorrectable t off addr (accessParam a)).respond a.master 0 true
        else
          let s := if a.ecc == .corrected then s.correctedWord t off addr (accessParam a) else s
          let v := s.fabricRead t addr off n
          let s := (if t == .sram then s.readLine a.master (lineOf addr) else s).respond a.master v false
          if t.freeRead off then { s with fresh := s.fresh + 1 } else s

/-- Put an access into its place among those of one cycle (R440). -/
def insertAccess (a : FabricAccess) : List FabricAccess → List FabricAccess
  | [] => [a]
  | b :: rest => if masterRank a.master < masterRank b.master then a :: b :: rest else b :: insertAccess a rest

/-- Accesses of one core cycle: writebacks of the lines that they ask for complete first, then they are served in the order
management A, management B, solver 0, solver 1, snoop port (R440). -/
def State.fabricAccess (accesses : List FabricAccess) (s : State) : State :=
  let all := accesses.foldl (fun xs x => insertAccess x xs) []
  let s := if accesses.length ≤ 1 then s
    else all.foldl (fun (s : State) x => match fabricTarget x.address.toNat with
      | some (.sram, off) => s.writeBack (lineOf off)
      | _ => s) s
  all.foldl (fun (s : State) x => s.accessOne x) s

/-- FABRIC_ACCESS (R505 to R515, R440). -/
def execFabricAccess (accesses : List FabricAccess) (s : State) : Host.Outcome State Fault Refusal :=
  .next (s.settledFabric (s.fabricAccess accesses))

/-- BRIDGE_TIMEOUT: a bridge target does not answer within 1,024 cycles (R510). -/
def State.bridgeTimeout (a : FabricAccess) (s : State) : State :=
  match fabricTarget a.address.toNat with
  | some (.bridge i, _) =>
    ((s.tally 9 (8 + i.val) 3 1).respond a.master 0 (a.write.isNone || (s.fabric.responses[masterCode a.master]).2)).raise 368 3 .occurrence oneUnit (a.address.toNat % 4294967296) (accessParam a)
  | _ => s

def execBridgeTimeout (a : FabricAccess) (s : State) : Host.Outcome State Fault Refusal :=
  .next (s.settledFabric (s.bridgeTimeout a))

/-- PATROL_SCRUB: the errors that reading every word finds (R514, R515). -/
def State.patrolScrub (found : List WordError) (s : State) : State :=
  found.foldl (fun s x =>
    match fabricTarget x.address.toNat with
    | some (t, off) =>
      let p2 := x.address.toNat / 4294967296
      if x.uncorrectable then s.uncorrectable t off x.address.toNat p2 else s.correctedWord t off x.address.toNat p2
    | none => s) s

def execPatrolScrub (found : List WordError) (s : State) : Host.Outcome State Fault Refusal :=
  .next (s.settledFabric (s.patrolScrub found))

/-- Change the eFlash. -/
def State.setFlash (f : FlashState → FlashState) (s : State) : State := { s with flash := f s.flash }

/-- The logical sector of a command. -/
def FlashCommand.sector : FlashCommand → Nat
  | .erase x => x.val
  | .program p _ => p.val / 16

/-- The plane that holds a logical sector (R516; DESIGN CHOICE, log 32). -/
def FlashCommand.plane (c : FlashCommand) : Fin 4 := ⟨c.sector % 4, by omega⟩

/-- The rating at which a sector is warned: 80 % of its class (R517, R519). -/
def wearLimit (sector : Nat) : Nat := if sector < 2048 ∨ (3840 ≤ sector ∧ sector < 3904) then 8000 else 80000

/-- The logical sector moves to a spare, which has its own erase count (R519). -/
def State.retire (sector : Nat) (s : State) : State :=
  let s := s.setFlash (fun f =>
    { f with spares := f.spares - 1, retired := f.retired + 1, warned := f.warned.filter (· != sector)
             eraseCounts := assocDrop sector f.eraseCounts })
  let s := s.raise 369 2 .occurrence oneUnit sector s.flash.retired
  s.raiseIf (s.flash.spares = 0) 369 3 .fault oneUnit 0 0

/-- The bytes that a failed operation leaves (free values). -/
def noiseBytes (seed n : Nat) : List Byte := (List.range n).map (fun i => Config.flashNoise (seed + i))

/-- A command enters its plane: a warned sector moves to a spare at its erase, and a program of a page that is not blank
is refused (R518, R519). -/
def State.issueFlash (c : FlashCommand) (s : State) : State :=
  let start (s : State) : State := s.setFlash (fun f => { f with busy := f.busy.set c.plane (some c) })
  match c with
  | .erase x =>
    if s.flash.warned.contains x.val && 0 < s.flash.spares then
      start ((s.setFlash (fun f => { f with cells := memErase f.cells (4096 * x.val) 4096 })).retire x.val)
    else start s
  | .program p _ =>
    if (memRead flashDefault s.flash.cells (256 * p.val) 256).all (· == flashDefault) then start s
    else s.raise 369 4 .refused oneUnit (p.val / 16) p.val

/-- Commands leave the FIFO in order while the plane of the first one is free (R516, R518). -/
def State.pumpFlash : Nat → State → State
  | 0, s => s
  | n + 1, s =>
    match s.flash.fifo with
    | [] => s
    | c :: rest =>
      if s.flash.busy[c.plane].isSome then s
      else pumpFlash n ((s.setFlash (fun f => { f with fifo := rest })).issueFlash c)

/-- Whether a master may command the eFlash controller on a sector (R509, R518). -/
def State.flashAllowed (s : State) (m : FabricMaster) (sector : Nat) : Bool :=
  (s.accessRole m).reaches .flashControl 0 true && (m == .securityCore || !keyBlobByte (4096 * sector))

/-- A command for the controller: refused under R509, refused when the FIFO is full, else queued (R479, R518). -/
def State.pushFlash (m : FabricMaster) (c : FlashCommand) (s : State) : State :=
  if !s.flashAllowed m c.sector then
    let s := s.setFabric (fun f => { f with refusals := f.refusals + 1 })
    let p2 := 256 * (masterCode m).val + 4096
    let s := (s.respond m 0 true).raise 368 2 .refused oneUnit 0xE00000 p2
    match m with
    | .managementA => s.raise 312 3 .refused 0 0xE00000 p2
    | .managementB => s.raise 313 3 .refused 1 0xE00000 p2
    | _ => s
  else if s.ev.powerFailing || 16 ≤ s.flash.fifo.length then s.setFlash (fun f => { f with refusedPush := f.refusedPush + 1 })
  else (s.setFlash (fun f => { f with fifo := f.fifo ++ [c] })).pumpFlash 17

/-- EFLASH_ERASE (R518). -/
def execEflashErase (m : FabricMaster) (sector : Fin 4096) (s : State) : Host.Outcome State Fault Refusal :=
  .next (s.settledFabric (s.pushFlash m (.erase sector)))

/-- EFLASH_PROGRAM (R518). -/
def execEflashProgram (m : FabricMaster) (page : Fin 65536) (data : BitVec 2048) (s : State) :
    Host.Outcome State Fault Refusal := .next (s.settledFabric (s.pushFlash m (.program page data)))

/-- Program bytes into the eFlash cells. -/
def State.programBytes (at_ : Nat) (bs : List Byte) (s : State) : State :=
  s.setFlash (fun f => { f with cells := memWrite flashDefault f.cells at_ bs })

/-- A failed operation with no spare left: ERR_UNUSABLE (R519 step 5). -/
def State.flashUnusable (sector at_ n : Nat) (s : State) : State :=
  let bs := noiseBytes s.fresh n
  let s := (s.programBytes at_ bs).setFlash (fun f =>
    { f with unusable := if f.unusable.contains sector then f.unusable else sector :: f.unusable })
  { s with fresh := s.fresh + n }

/-- EFLASH_ERASE_DONE (R518, R519). -/
def State.eraseDone (o : FlashOutcome) (s : State) : State :=
  match s.flash.busy[o.plane] with
  | some (.erase x) =>
    let sector := x.val
    let s := s.setFlash (fun f => { f with busy := f.busy.set o.plane none })
    let blank (s : State) : State := s.setFlash (fun f => { f with cells := memErase f.cells (4096 * sector) 4096 })
    let s :=
      if o.verified then
        let n := assocGet sector 0 s.flash.eraseCounts + 1
        let s := (blank s).setFlash (fun f => { f with eraseCounts := assocSet sector n f.eraseCounts })
        if (wearLimit sector ≤ n || o.slow) && !s.flash.warned.contains sector then
          (s.setFlash (fun f => { f with warned := sector :: f.warned })).raise 369 1 .occurrence oneUnit sector n
        else s
      else
        let s := s.raise 369 5 .fault oneUnit sector 0
        if 0 < s.flash.spares then (blank s).retire sector
        else s.flashUnusable sector (4096 * sector) 4096
    s.pumpFlash 17
  | _ => s

def execEflashEraseDone (o : FlashOutcome) (s : State) : Host.Outcome State Fault Refusal :=
  .next (s.settledFabric (s.eraseDone o))

/-- EFLASH_PROGRAM_DONE (R518, R519). -/
def State.programDone (o : FlashOutcome) (s : State) : State :=
  match s.flash.busy[o.plane] with
  | some (.program p d) =>
    let sector := p.val / 16
    let s := s.setFlash (fun f => { f with busy := f.busy.set o.plane none })
    let write (s : State) : State := s.programBytes (256 * p.val) (leBytes 256 d.toNat)
    let s :=
      if o.verified then write s
      else
        let s := s.raise 369 5 .fault oneUnit sector p.val
        if 0 < s.flash.spares then (write s).retire sector
        else s.flashUnusable sector (256 * p.val) 256
    s.pumpFlash 17
  | _ => s

def execEflashProgramDone (o : FlashOutcome) (s : State) : Host.Outcome State Fault Refusal :=
  .next (s.settledFabric (s.programDone o))

end Sys2Proof.Machine
end

