-- ==== Sys2Proof/Machine/HostPort.lean ====
section
/-! DEFINITION. BAR0 and its registers, the resets of the host port, the ring indices, the I²C target and the I²C
controller (R4, R5, R304 to R315, R323, R329 to R333, R477, R480). -/
namespace Sys2Proof.Machine

/-- Change the host port's state. -/
def State.setHost (f : HostState → HostState) (s : State) : State := { s with host := f s.host }

/-- The version word of the running management firmware; 0 until a management core runs (R307, R527). -/
def State.firmware (s : State) : BitVec 16 :=
  match s.mgmt.owner with
  | some o => (s.core o).image.version
  | none => 0

/-- A block is marked unusable (R538, R540). -/
def State.marked (s : State) (block index : Nat) : Bool := s.bist.marks.contains (block, index)

/-- The cascade version in force, while one is (R289, R323). -/
def State.cascadeVersion (s : State) : Nat :=
  match s.casc.mode with
  | .joined | .flywheel => s.casc.version.toNat
  | _ => 0

/-- CAP_BITMAP (R323). -/
def State.capBitmap (s : State) : Nat :=
  let run := s.mgmt.owner.isSome
  let full := run && s.host.service == 2
  packBits [run, run, run, run && 2 ≤ s.cascadeVersion, run && 3 ≤ s.cascadeVersion, run && 3 ≤ s.cascadeVersion,
    full && !s.marked 4 0, full, run, run && s.standbyReady, run]

/-- DEV_STATE (R307). -/
def State.devState (s : State) : Nat :=
  let h := s.host
  h.service.toNat
    + 16 * packBits [decide (s.activeCore = 1), s.standbyReady, s.mgmt.serviceGap,
        h.lapseConditions || h.lapseTiming || h.lapseFaults, h.lapseConditions, h.lapseTiming, h.lapseFaults,
        h.recoveryPending, h.hostHeartbeat.lost]
    + 65536 * s.dpllCode.toNat

/-- SEM_Hn (R330). -/
def SemH.word (x : SemH) : Nat := 2147483648 * bit x.held + 1073741824 * bit x.abandoned + 268435456 * x.path.toNat + x.tag.toNat

/-- The codes of MBX_STATE.STATE (R311). -/
def ChannelMode.code : ChannelMode → Nat
  | .unopened => 0 | .opened => 1 | .error => 2

/-- MBX_STATE (R311). -/
def State.mbxState (s : State) (c : Fin 8) : Nat :=
  let ch := s.chan c
  65536 * ch.version.toNat + 256 * channelClass c + 8 * bit (!ch.held.isEmpty)
    + 4 * bit (ch.window.any (fun e => e.recovery)) + ch.mode.code

/-- The value that a read of BAR0 gives at an offset that is a multiple of 4, without the side effect of SET_WINS_CNT;
none outside the map (R306 to R311). -/
def State.bar0 (s : State) (off : Nat) : Option Nat :=
  let h := s.host
  match off with
  | 0x00 => some 0x5A449512
  | 0x04 => some (65536 * s.firmware.toNat + 0x4200)
  | 0x08 => some s.devState
  | 0x10 => some (s.capBitmap % 4294967296)
  | 0x14 => some (s.capBitmap / 4294967296)
  | 0x18 => some h.hostHeartbeat.value.toNat
  | 0x1C => some h.hostHeartbeat.timeoutMs.toNat
  | 0x20 => some h.mgmtHeartbeat.toNat
  | 0x24 => some h.setWins.toNat
  | 0x28 => some h.bar0Err.toNat
  | 0x30 => some s.ev.summary.toNat
  | 0x34 => some s.ev.mask.toNat
  | 0x38 => some s.ev.queuePi.toNat
  | 0x3C => some s.ev.queueCi.toNat
  | 0x40 => some (4096 * s.ev.queueBaseLo.toNat)
  | 0x44 => some s.ev.queueBaseHi.toNat
  | 0x48 => some (bit s.ev.queueEnable)
  | _ =>
    if 0x100 ≤ off ∧ off < 0x140 then
      let n : Fin 8 := ⟨(off - 0x100) / 8 % 8, by omega⟩
      some (if off % 8 = 0 then h.sems[n].word else 0)
    else if 0x1000 ≤ off ∧ off < 0x1200 then
      let c : Fin 8 := ⟨(off - 0x1000) / 64 % 8, by omega⟩
      let ch := s.chan c
      match off % 64 with
      | 0x00 => some ch.reqPi.toNat
      | 0x04 => some ch.reqCi.toNat
      | 0x08 => some ch.rspPi.toNat
      | 0x0C => some ch.rspCi.toNat
      | 0x10 => some 0
      | 0x14 => some (s.mbxState c)
      | 0x18 => some 0
      | _ => none
    else if 0x8000 ≤ off ∧ off < 0x8100 then some (leNat (memRead 0 h.msixTable (off - 0x8000) 4))
    else if off = 0x9000 then some s.ev.summary.toNat
    else if off = 0x9004 then some 0
    else none

/-- BAR2_RESPONSE_WRITE: ignored, with RSP_WRITE set (R312). -/
def execBar2ResponseWrite (_c : Fin 8) (_entry : Fin 64) (s : State) : Host.Outcome State Fault Refusal :=
  .next (s.settled (s.setBar0Err 2))

/-- A heartbeat is written: a new value restarts its timeout (R308, R332). -/
def Heartbeat.write (v : BitVec 32) (now : Nat) (h : Heartbeat) : Heartbeat :=
  if h.value = v then h else { h with value := v, since := now, lost := false }

/-- A heartbeat has held one value for its timeout (R308). -/
def Heartbeat.expired (now : Nat) (h : Heartbeat) : Bool :=
  h.timeoutMs != 0 && !h.lost && decide (h.since + 2000 * h.timeoutMs.toNat ≤ now)

/-- HOST_HEARTBEAT_WRITE (R308). -/
def State.hostBeat (v : BitVec 32) (s : State) : State :=
  let now := s.clock.tick
  let old := s.host.hostHeartbeat
  let s := s.setHost (fun h => { h with hostHeartbeat := h.hostHeartbeat.write v now })
  s.raiseFlag old.lost s.host.hostHeartbeat.lost 309 1 oneUnit

def execHostHeartbeatWrite (v : BitVec 32) (s : State) : Host.Outcome State Fault Refusal := .next (s.settled (s.hostBeat v))

/-- HOST_HB_TIMEOUT_EXPIRY (R308). -/
def State.hostBeatExpiry (s : State) : State :=
  if s.host.hostHeartbeat.expired s.clock.tick then
    (s.setHost (fun h => { h with hostHeartbeat := { h.hostHeartbeat with lost := true } })).raise 309 1 .set oneUnit 0 0
  else s

def execHostHbTimeoutExpiry (s : State) : Host.Outcome State Fault Refusal := .next (s.settled s.hostBeatExpiry)

/-- BMC_HEARTBEAT_WRITE through the I²C target (R332). -/
def State.bmcBeat (v : BitVec 32) (s : State) : State :=
  let now := s.clock.tick
  let old := s.host.bmcHeartbeat
  let s := s.setHost (fun h => { h with bmcHeartbeat := h.bmcHeartbeat.write v now })
  s.raiseFlag old.lost s.host.bmcHeartbeat.lost 307 2 oneUnit

def execBmcHeartbeatWrite (v : BitVec 32) (s : State) : Host.Outcome State Fault Refusal := .next (s.settled (s.bmcBeat v))

/-- BMC_HB_TIMEOUT_EXPIRY (R332). -/
def State.bmcBeatExpiry (s : State) : State :=
  if s.host.bmcHeartbeat.expired s.clock.tick then
    (s.setHost (fun h => { h with bmcHeartbeat := { h.bmcHeartbeat with lost := true } })).raise 307 2 .set oneUnit 0 0
  else s

def execBmcHbTimeoutExpiry (s : State) : Host.Outcome State Fault Refusal := .next (s.settled s.bmcBeatExpiry)

/-- SET_WINS_CNT_READ: RC; what hardware counts in the cycle of the read stands after it (R5, R308). -/
def State.readSetWins (same : BitVec 32) (s : State) : State :=
  s.setHost (fun h => { h with lastRead := leBytes 4 h.setWins.toNat, setWins := same })

def execSetWinsCntRead (sameCycle : BitVec 32) (s : State) : Host.Outcome State Fault Refusal :=
  .next (s.settled (s.readSetWins sameCycle))

/-- How many bits of a word are set. -/
def countOnes {w : Nat} (v : BitVec w) : Nat := ((List.range w).filter (fun i => v.getLsbD i)).length

/-- Clears that met a set in the same cycle are counted, up to FFFFFFFFh (R308, R329). -/
def State.countSetWins (n : Nat) (s : State) : State :=
  s.setHost (fun h => { h with setWins := BitVec.ofNat 32 (min (h.setWins.toNat + n) 0xFFFFFFFF) })

/-- BAR0_ERR_CLEAR: W1C, in which a set of the same cycle wins (R4, R329). -/
def State.clearBar0Err (v : BitVec 32) (hw : BitVec 3) (s : State) : State :=
  let clear := v.setWidth 3
  (s.setHost (fun h => { h with bar0Err := (h.bar0Err &&& ~~~ clear) ||| hw })).countSetWins (countOnes (clear &&& hw))

def execBar0ErrClear (v : BitVec 32) (hwSet : BitVec 3) (s : State) : Host.Outcome State Fault Refusal :=
  .next (s.settled (s.clearBar0Err v hwSet))

/-- EVT_SUMMARY_CLEAR: a bit that a new event sets in the same cycle stays 1 and sends no message (R329, R477). -/
def State.clearSummary (v : BitVec 32) (hw : BitVec 16) (s : State) : State :=
  let clear := v.setWidth 16
  let both := clear &&& hw
  let s := s.setEv (fun e => { e with summary := (e.summary &&& ~~~ clear) ||| both })
  let fresh := hw &&& ~~~ clear
  let bm := s.host.busMaster
  let set (e : EventState) (i : Nat) : EventState := if fresh.getLsbD i then e.setPending (BitVec.ofNat 4 i) bm else e
  (s.setEv (fun e => (List.range 16).foldl set e)).countSetWins (countOnes both)

def execEvtSummaryClear (v : BitVec 32) (hwSet : BitVec 16) (s : State) : Host.Outcome State Fault Refusal :=
  .next (s.settled (s.clearSummary v hwSet))

/-- EVT_MASK_WRITE: unmasking a pending vector sends its message (R477). -/
def State.writeMask (v : BitVec 32) (s : State) : State :=
  let mask := v.setWidth 16
  let bm := s.host.busMaster
  let sends := (List.finRange 16).filter (fun i => bm && s.ev.mask.getLsbD i.val && !mask.getLsbD i.val && s.ev.summary.getLsbD i.val)
  s.setEv (fun e => { e with mask := mask, msixSent := sends.reverse ++ e.msixSent })

def execEvtMaskWrite (v : BitVec 32) (s : State) : Host.Outcome State Fault Refusal := .next (s.settled (s.writeMask v))

/-- EVT_QUEUE_CI_WRITE: beyond the bound it is ignored, with an event (R480). -/
def State.writeQueueCi (v : BitVec 32) (s : State) : State :=
  if 1024 < (s.ev.queuePi - v).toNat then s.raise 425 2 .refused oneUnit v.toNat 0
  else (s.setEv (fun e => { e with queueCi := v })).queueLossRecord

def execEvtQueueCiWrite (v : BitVec 32) (s : State) : Host.Outcome State Fault Refusal := .next (s.settled (s.writeQueueCi v))

/-- EVT_QUEUE_ENABLE: from 0 to 1, the queue starts empty (R480). -/
def State.enableQueue (s : State) : State :=
  if s.ev.queueEnable then s
  else (s.setEv (fun e => { e with queueEnable := true, queueCi := e.queuePi })).queueLossRecord

def execEvtQueueEnable (s : State) : Host.Outcome State Fault Refusal := .next (s.settled s.enableQueue)

/-- A write to SEM_Hn_CMD: with both bits it changes nothing and raises an event (R330). -/
def State.semCommand (path : SemPath) (n : Fin 8) (v : Nat) (s : State) : State :=
  let tag := BitVec.ofNat 16 v
  let acquire := v / 65536 % 2 = 1
  let release := v / 131072 % 2 = 1
  if acquire ∧ release then s.raise 306 2 .refused n.val (pathCode path).toNat tag.toNat
  else if acquire then s.semAcquire path n tag
  else if release then s.semRelease path n tag
  else s

/-- The channel enters ERROR (R315). -/
def State.enterError (c : Fin 8) (s : State) : State :=
  if (s.chan c).mode == .error then s
  else
    (s.setChan c (fun ch => { ch with wasOpen := ch.mode == .opened, mode := .error })).raise (297 + c.val) 2 .set c.val 0 0

/-- MBX_REQ_PI_WRITE (R313, R315). -/
def State.writeReqPi (c : Fin 8) (v : BitVec 32) (s : State) : State :=
  let s := s.setChan c (fun ch => { ch with reqPi := v })
  if 64 < ringCount v (s.chan c).reqCi then s.enterError c else s

def execMbxReqPiWrite (c : Fin 8) (v : BitVec 32) (s : State) : Host.Outcome State Fault Refusal :=
  .next (s.settled (s.writeReqPi c v))

/-- MBX_RSP_CI_WRITE (R313, R315). -/
def State.writeRspCi (c : Fin 8) (v : BitVec 32) (s : State) : State :=
  let s := s.setChan c (fun ch => { ch with rspCi := v })
  if 64 < ringCount (s.chan c).rspPi v then s.enterError c else s

def execMbxRspCiWrite (c : Fin 8) (v : BitVec 32) (s : State) : Host.Outcome State Fault Refusal :=
  .next (s.settled (s.writeRspCi c v))

/-- MBX_RESYNC (R315). -/
def State.resync (c : Fin 8) (s : State) : State :=
  let ch := s.chan c
  if ch.mode == .error && decide (ringCount ch.rspPi ch.rspCi ≤ 64) then
    let s := s.setHost (fun h =>
      { h with waiting := h.waiting.map (fun w => if w.request.channel = c then { w with ring := false } else w) })
    (s.setChan c (fun ch =>
      { ch with reqCi := ch.reqPi, rungPi := ch.reqPi, mode := if ch.wasOpen then .opened else .unopened })).raise
        (297 + c.val) 2 .clear c.val 0 0
  else s

def execMbxResync (c : Fin 8) (s : State) : Host.Outcome State Fault Refusal := .next (s.settled (s.resync c))

/-- Post up to `n` held responses, unless a service gap holds them (R314, R431). -/
def State.releaseHeld (c : Fin 8) (n : Nat) (s : State) : State := if s.mgmt.serviceGap then s else s.postHeld c n

/-- MBX_DOORBELL_RSP: freed entries take held responses (R313, R314). -/
def execMbxDoorbellRsp (c : Fin 8) (s : State) : Host.Outcome State Fault Refusal :=
  .next (s.settledFabric ((s.tally 10 0 3 1).releaseHeld c 64))

/-- HELD_RESPONSE_POSTED (R314). -/
def execHeldResponsePosted (c : Fin 8) (s : State) : Host.Outcome State Fault Refusal :=
  .next (s.settledFabric (s.releaseHeld c 1))

/-- A reset of the host port (R310, R331): BAR0 and BAR2 return to their reset values, the channels to UNOPENED with
their tokens kept, outstanding responses are withdrawn. Registers that report the device's own state keep reporting it
(log 35). -/
def State.resetHostPort (link : Bool) (s : State) : State :=
  let withdraw (ch : Channel) : Channel :=
    { Channel.reset with window := ch.window.map (fun e => { e with withdrawn := true }), left := [] }
  let s := s.releaseSemHs 1 true
  let s := s.setHost (fun h =>
    { h with
      linkWidth := if link then 0 else h.linkWidth, linkGen := if link then 0 else h.linkGen, busMaster := false
      hostHeartbeat := default, mgmtHeartbeat := 0, setWins := 0, bar0Err := 0, msixTable := []
      channels := h.channels.map withdraw, outbox := []
      waiting := h.waiting.filter (fun w => w.accepted) })
  let s := s.setEv (fun e =>
    { e with summary := 0, mask := 0xFFFF, queuePi := 0, queueCi := 0, queueBaseLo := 0, queueBaseHi := 0
             queueEnable := false, queueLoss := 0, queueEntries := [] })
  let s := s.setFabric (fun f => { f with cells := memErase f.cells mailboxBase 0x400000 })
  s.raise 296 4 .occurrence oneUnit 0 0

/-- HOST_PORT_RESET (R310). -/
def execHostPortReset (s : State) : Host.Outcome State Fault Refusal := .next (s.settledFabric (s.resetHostPort true))

/-- HOT_RESET (R310). -/
def execHotReset (s : State) : Host.Outcome State Fault Refusal := .next (s.settledFabric (s.resetHostPort true))

/-- FLR: the link stays as it is (R310). -/
def execFlr (s : State) : Host.Outcome State Fault Refusal := .next (s.settledFabric (s.resetHostPort false))

/-- HOST_LINK_TRAINED: the link settles at a width and a rate; narrower than x4 or slower than 16 GT/s is reported. The
host then sets Bus Master Enable (R304; DESIGN CHOICE, log 34). -/
def State.linkTrained (width gen : Fin 5) (s : State) : State :=
  let s := s.setHost (fun h => { h with linkWidth := width.val, linkGen := gen.val, busMaster := decide (0 < width.val) })
  let s := s.raise 296 1 .occurrence oneUnit width.val gen.val
  s.raiseIf (decide (width.val < 4) || decide (gen.val < 4)) 296 2 .occurrence oneUnit width.val gen.val

def execHostLinkTrained (width gen : Fin 5) (s : State) : Host.Outcome State Fault Refusal :=
  .next (s.settled (s.linkTrained width gen))

/-- One register that the I²C target writes (R332). -/
def State.i2cRegister (off v : Nat) (s : State) : State :=
  if 0x40 ≤ off ∧ off < 0x80 then
    if off % 8 = 4 then s.semCommand .i2c ⟨(off - 0x40) / 8 % 8, by omega⟩ v else s
  else if off = 0x80 then s.bmcBeat (BitVec.ofNat 32 v)
  else if off = 0x84 then
    s.setHost (fun h => { h with bmcHeartbeat := { h.bmcHeartbeat with timeoutMs := BitVec.ofNat 16 v } })
  else s

/-- Whole groups of four bytes, each to the next register; an incomplete group is dropped (R332). -/
def State.i2cWrite (off : Nat) : List Byte → State → State
  | b0 :: b1 :: b2 :: b3 :: rest, s => i2cWrite ((off + 4) % 256) rest (s.i2cRegister off (leNat [b0, b1, b2, b3]))
  | _, s => s

/-- Whether the I²C target acknowledges an offset: from the release of POR_N, at multiples of 4 (R332). -/
def State.i2cAnswers (s : State) (off : Byte) : Bool := !s.rst.porLow && off.toNat % 4 == 0

/-- I2C_TARGET_WRITE (R332). -/
def execI2cTargetWrite (off : Byte) (data : List Byte) (s : State) : Host.Outcome State Fault Refusal :=
  .next (s.settled (if s.i2cAnswers off then s.i2cWrite off.toNat data else s))

/-- A register as the I²C target reads it, without side effects (R332). -/
def State.i2cValue (s : State) (off : Nat) : Nat :=
  if off < 0x2C then (s.bar0 off).getD 0
  else if 0x40 ≤ off ∧ off < 0x80 then (s.bar0 (off + 0xC0)).getD 0
  else if off = 0x80 then s.host.bmcHeartbeat.value.toNat
  else if off = 0x84 then s.host.bmcHeartbeat.timeoutMs.toNat
  else if off = 0x88 then s.pwr.temperature.toNat
  else 0

/-- The bytes of `n` registers from an offset on. -/
def State.i2cBytes (s : State) (off : Nat) : Nat → List Byte
  | 0 => []
  | n + 1 => leBytes 4 (s.i2cValue off) ++ i2cBytes s ((off + 4) % 256) n

/-- I2C_TARGET_READ: an offset that is not acknowledged gives no byte (R332). -/
def State.i2cRead (off : Byte) (count : Nat) (s : State) : State :=
  s.setHost (fun h =>
    { h with lastRead := if s.i2cAnswers off then (s.i2cBytes off.toNat ((count + 3) / 4)).take count else [] })

def execI2cTargetRead (off : Byte) (count : Fin 257) (s : State) : Host.Outcome State Fault Refusal :=
  .next (s.settled (s.i2cRead off count.val))

/-- I2C_TARGET_TIMEOUT: the target resets its state; its semaphores are abandoned (R331, R332). -/
def execI2cTargetTimeout (s : State) : Host.Outcome State Fault Refusal :=
  .next (s.settled ((s.releaseSemHs 2 true).raise 307 1 .occurrence oneUnit 0 0))

/-- Change the I²C controller. -/
def State.setBus (f : BoardBus → BoardBus) (s : State) : State := s.setHost (fun h => { h with boardBus := f h.boardBus })

/-- A transfer ends with a result code (R333). -/
def State.endTransfer (code : BitVec 8) (read : List Byte) (s : State) : State :=
  s.setBus (fun b => { b with transfer := none, retries := 0, result := code, readData := read })

/-- One attempt of the transfer in progress (R333). -/
def State.attempt (o : BoardBusOutcome) (s : State) : State :=
  match s.host.boardBus.transfer with
  | none => s
  | some x =>
    match o with
    | .done read => s.endTransfer 0 (read.take x.readLen.val)
    | .addressNak => s.endTransfer 1 []
    | .dataNak => s.endTransfer 2 []
    | .busNotFree => s
    | .arbitrationLost =>
      let s := (s.setBus (fun b => { b with arbLost := b.arbLost + 1 })).raise 308 1 .occurrence oneUnit x.address.toNat 0
      if s.host.boardBus.retries = 0 then s.endTransfer 3 []
      else s.setBus (fun b => { b with retries := b.retries - 1 })

/-- I2C_CONTROLLER_TRANSFER: it starts only on a free bus, and not while another is in progress (R333). -/
def State.startTransfer (x : BoardBusTransfer) (o : BoardBusOutcome) (s : State) : State :=
  if s.host.boardBus.transfer.isSome then s
  else (s.setBus (fun b => { b with transfer := some x, retries := x.retries.val, readData := [] })).attempt o

def execI2cControllerTransfer (x : BoardBusTransfer) (o : BoardBusOutcome) (s : State) :
    Host.Outcome State Fault Refusal := .next (s.settled (s.startTransfer x o))

/-- I2C_CONTROLLER_RETRY (R333). -/
def execI2cControllerRetry (o : BoardBusOutcome) (s : State) : Host.Outcome State Fault Refusal :=
  .next (s.settled (s.attempt o))

/-- BUS_STUCK: SDA stays low for 25 ms; the transfer ends (R333). -/
def State.busStuck (s : State) : State :=
  (if s.host.boardBus.transfer.isSome then s.endTransfer 4 [] else s).raise 308 2 .occurrence oneUnit 0 0

def execBusStuck (s : State) : Host.Outcome State Fault Refusal := .next (s.settled s.busStuck)

end Sys2Proof.Machine
end

