-- ==== Sys2Proof/Machine/Ember.lean ====
section
/-! DEFINITION. The Ember engines (chapter 7): moments, dwells and report intervals, detectors and sparks, records and
their delivery, clusters and spares. -/
namespace Sys2Proof.Machine

/-- Change the Ember subsystem. -/
def State.setEmber (f : EmberState → EmberState) (s : State) : State := { s with ember := f s.ember }

/-- Change one engine. -/
def State.setEngine (e : Fin 1024) (f : Engine → Engine) (s : State) : State :=
  s.setEmber (fun x => { x with engines := x.engines.set e (f x.engines[e]) })

/-- Change one cluster. -/
def State.setCluster (c : Fin 8) (f : Cluster → Cluster) (s : State) : State :=
  s.setEmber (fun x => { x with clusters := x.clusters.set c (f x.clusters[c]) })

/-- The cluster and the port of a logical engine (R176). -/
def engineCluster (e : Fin 1024) : Fin 8 := ⟨e.val / 128, by omega⟩
def enginePort (e : Fin 1024) : PortNo := ⟨e.val / 2, by omega⟩
/-- The slots that a logical engine covers (R176). -/
def engineSlots (e : Fin 1024) : List (Fin 256) := (List.finRange 256).filter (fun x => x.val / 128 == e.val % 2)

/-- A recipe of a set, and the recipe of an input slot (R184). -/
def RecipeSet.recipe (x : RecipeSet) (i : Fin 64) : Option Recipe := (x.recipes.find? (fun r => r.1 == i)).map (·.2)
def RecipeSet.slotRecipe (x : RecipeSet) (p : PortNo) (s : Fin 256) : Option (Fin 64) :=
  (x.assign.find? (fun a => a.1.val == 256 * p.val + s.val)).map (·.2)

/-- The units of one slot under a recipe (R181). -/
def slotUnits (s : Fin 256) (r : Recipe) : List (Fin 1024) :=
  if r.quarter then (List.range 4).map (fun q => ⟨(4 * s.val + q) % 1024, by omega⟩) else [⟨4 * s.val, by omega⟩]

/-- The units of an engine under a set, in increasing order, each with its recipe (R176, R181). -/
def RecipeSet.unitsOf (x : RecipeSet) (e : Fin 1024) : List (Fin 1024 × Fin 64) :=
  (engineSlots e).flatMap (fun s =>
    match x.slotRecipe (enginePort e) s with
    | none => []
    | some i => match x.recipe i with
      | none => []
      | some r => (slotUnits s r).map (fun u => (u, i)))

/-- Sums at 0. -/
def IntervalSums.zero : IntervalSums := { sums := .zero, evaluated := 0, sparks := 0, above := [], format := false }

/-- A unit whose first dwell opens at a frame. -/
def UnitState.fresh (u : Fin 1024) (i : Fin 64) (first : BitVec 64) : UnitState :=
  { unit := u, recipe := i, current := .zero, dwellFirst := first, intervalFirst := first, closed := []
    interval := .zero, done := [], baselines := [], quiet := [], unsuited := false, lastQuiet := none }

/-- Whether a recipe suits a slot format (R181). -/
def Recipe.suits (r : Recipe) (f : Fin 7) : Bool := f != 0 && !(r.quarter && f == 3)

/-- The samples of a unit in an envelope, when its slot is not left out (R178, R179). -/
def unitSamples (v : Envelope) (f : Fin 7) (quarter : Bool) (u : Fin 1024) : Option (List (Nat × Bool)) :=
  let slot := u.val / 4
  if slotValid v.unauth slot || !slotValid v.validity slot then none
  else some (if quarter then powersOf f (quarterOf v.payload u.val) else powersOf f (slotOf v.payload slot))

/-- A dwell of a unit closes at `last`; the next one opens at `next` (R180, R182). -/
def UnitState.close (last next : BitVec 64) (partialDwell ends partialInterval : Bool) (u : UnitState) : UnitState :=
  let d : ClosedDwell :=
    { moments := u.current, last := last, partialDwell := partialDwell, noDwell := false, endsInterval := ends
      intervalFirst := u.intervalFirst, partialInterval := partialInterval }
  { u with closed := u.closed ++ [d], current := .zero, dwellFirst := next
           intervalFirst := if ends then next else u.intervalFirst }

/-- The newest closed dwell, if there is one, ends the interval that began at `first`, and that is partial. -/
def endInterval (first : BitVec 64) : List ClosedDwell → Option (List ClosedDwell)
  | [] => none
  | [d] => if d.endsInterval then none else some [{ d with endsInterval := true, intervalFirst := first, partialInterval := true }]
  | d :: e :: rest => (endInterval first (e :: rest)).map (d :: ·)

/-- The dwell and the interval in progress close at `last` as partial, before a step, a stop or a swap (R182). Between two
dwells the interval ends with the newest one, which the core may have processed already. -/
def UnitState.cut (last next : BitVec 64) (u : UnitState) : UnitState :=
  if u.dwellFirst ≤ last then u.close last next true true true
  else if u.intervalFirst ≤ last then
    let d : ClosedDwell :=
      { moments := .zero, last := last, partialDwell := true, noDwell := true, endsInterval := true
        intervalFirst := u.intervalFirst, partialInterval := true }
    { u with closed := (endInterval u.intervalFirst u.closed).getD (u.closed ++ [d]), dwellFirst := next
             intervalFirst := next }
  else { u with dwellFirst := next, intervalFirst := next }

/-- A unit takes frame `n`, and closes what ends with it (R178 to R182, R199). -/
def UnitState.take (n : BitVec 64) (v : Option Envelope) (f : Fin 7) (r : Recipe) (u : UnitState) : UnitState :=
  let unsuited := !r.suits f
  let xs := if unsuited then none else v.bind (fun v => unitSamples v f r.quarter u.unit)
  let u := { u with
    current := match xs with | some xs => u.current.frame r.shift.val xs | none => u.current
    unsuited := unsuited, interval := { u.interval with format := u.interval.format || unsuited } }
  let next := n.toNat + 1
  let span := r.dwell * r.report
  if next % r.dwell = 0 then
    u.close n (n + 1) (u.dwellFirst.toNat % r.dwell != 0) (next % span == 0) (u.intervalFirst.toNat % span != 0)
  else u

/-- The tinder sums of a slot after a frame; a changed format restarts them (R183). -/
def tinderSlot (v : Option Envelope) (old : List TinderSums) (f : Fin 7) (s : Fin 256) : TinderSums :=
  let m := match old.find? (fun x => x.slot == s && x.format == f) with | some x => x.moments | none => .zero
  let xs := v.bind (fun v => unitSamples v f false ⟨4 * s.val, by omega⟩)
  { slot := s, format := f, moments := match xs with | some xs => m.frame 0 xs | none => m }

/-- A tinder dwell closes. -/
def Engine.closeTinder (cut : Bool) (g : Engine) : Engine :=
  match g.tinder with
  | none => g
  | some d => { g with tinder := none, tinderDone := g.tinderDone ++ [{ d with partialDwell := d.partialDwell || cut }] }

/-- A tinder dwell takes frame `n` (R183). -/
def Engine.takeTinder (e : Fin 1024) (n : BitVec 64) (v : Option Envelope) (formats : Vector (Fin 7) 256) (traceable : Bool)
    (g : Engine) : Engine :=
  let old : TinderDwell := g.tinder.getD
    { first := n, last := n, sums := [], absent := 0, partialDwell := n.toNat % 2000 != 0, untraceable := false }
  let slots := (engineSlots e).filter (fun s => formats[s] != 0)
  let d := { old with
    last := n, sums := slots.map (fun s => tinderSlot v old.sums formats[s] s)
    absent := old.absent + (if v.isNone then 1 else 0), untraceable := old.untraceable || !traceable }
  let g := { g with tinder := some d }
  if (n.toNat + 1) % 2000 = 0 then g.closeTinder false else g

/-- The dwells of a running engine take frame `n` (R178, R207). -/
def Engine.takeUnits (set : RecipeSet) (n : BitVec 64) (v : Option Envelope) (formats : Vector (Fin 7) 256) (g : Engine) :
    Engine :=
  let step (u : UnitState) : UnitState :=
    match set.recipe u.recipe with
    | some r => u.take n v formats[(⟨u.unit.val / 4, by omega⟩ : Fin 256)] r
    | none => u
  let units := g.units.map step
  let ended := (units.filter (fun u => u.dwellFirst == n + 1)).length
  { g with units := units, dwells := g.dwells + BitVec.ofNat 48 ended
           absent := if v.isNone then n :: g.absent.filter (fun x => n.toNat < x.toNat + 2 ^ 33) else g.absent }

/-- Every dwell and interval in progress of an engine closes at `last` (R182). -/
def Engine.cutAll (last next : BitVec 64) (g : Engine) : Engine :=
  let open_ := (g.units.filter (fun u => u.dwellFirst ≤ last)).length
  { g.closeTinder true with units := g.units.map (UnitState.cut last next), dwells := g.dwells + BitVec.ofNat 48 open_ }

/-- Whether an engine measures: its cluster runs recipes in full service, or tinder dwells in tinder service. -/
def State.runsRecipes (s : State) (c : Fin 8) : Bool := s.host.service == 2 && s.ember.clusters[c].mode == .running
def State.runsTinder (s : State) (c : Fin 8) : Bool := s.host.service == 1 && s.pwr.modes[clusterDomain c] == .on

/-- Some unit of the port's two engines has an unsuited format (R199). -/
def State.portUnsuited (s : State) (p : PortNo) : Bool :=
  let has (e : Nat) : Bool := match s.ember.engines[e]? with | some g => g.units.any (fun u => u.unsuited) | none => false
  has (2 * p.val) || has (2 * p.val + 1)

/-- The moment units finish the frame that they have read; a number that does not follow the last one shows a step of
the count (R178, R182, R264). -/
def State.takeMoments (s : State) : State :=
  let n := s.ember.readNow
  let last := s.ember.readTo
  if n ≤ last then
    s.setEmber (fun x => { x with engines := x.engines.map (Engine.cutAll last (last + 1)) })
  else
    let follows := n == last + 1
    let traceable := s.traceable
    let one (i : Nat) (h : i < 1024) (g : Engine) : Engine :=
      let e : Fin 1024 := ⟨i, h⟩
      let g := if follows then g else g.cutAll last n
      let c := engineCluster e
      let v := s.ember.latched[enginePort e]
      let formats := (s.port (enginePort e)).settings.inFormats
      if g.out then g
      else if s.runsTinder c then g.takeTinder e n v formats traceable
      else if s.runsRecipes c then g.takeUnits s.ember.active n v formats
      else g
    let t := s.setEmber (fun x =>
      { x with engines := x.engines.mapFinIdx (fun i g h => one i h g), readTo := n
               untraced := if traceable then x.untraced else n :: x.untraced.filter (fun y => n.toNat < y.toNat + 2 ^ 33) })
    -- one event for each port whose format a recipe has ceased to suit (R199)
    (List.finRange 512).foldl (fun t p =>
      t.raiseIf (t.portUnsuited p && !s.portUnsuited p) (128 + p.val / 64) 6 .occurrence (p.val / 64) p.val 0) t

/-- The moment units begin to read frame `n` of every port (R178). -/
def State.latchMoments (n : BitVec 64) (s : State) : State :=
  let at_ (p : PortNo) : Option Envelope :=
    if (s.port p).inService then ((s.port p).inputFrame n).filter (fun v => !v.tagFailed) else none
  s.setEmber (fun x => { x with readNow := n, latched := Vector.ofFn at_ })

/-- What a stage makes of a dwell: the margin when it fires, its baseline, quiet dwells and OCCUPANCY count. -/
structure StageOutcome where
  fired    : Option Int
  baseline : Option Rat
  quiet    : Nat
  above    : Nat
  deriving DecidableEq, Repr

/-- The threshold that a value passes (R188). -/
def Stage.passed (st : Stage) (v : Rat) : Option Rat :=
  let lo := floatValue st.lo
  let hi := floatValue st.hi
  match st.compare with
  | .above => if hi < v then some hi else none
  | .below => if v < lo then some lo else none
  | .outside => if v < lo then some lo else if hi < v then some hi else none

/-- One stage on one dwell (R187, R189): `evaluated` counts the interval's evaluated dwells with this one. -/
def Stage.evaluate (st : Stage) (d : ClosedDwell) (g evaluated : Nat) (old : StageOutcome) : StageOutcome :=
  let m := d.moments
  let can := !d.partialDwell && m.used != 0 && m.samples != 0
  let sat := m.satP || m.satP2
  let above := old.above + (if can && st.kind == .occupancy && decide (floatValue st.level < m.mean) then 1 else 0)
  let value : Option Rat :=
    if !can then none
    else match st.kind with
      | .power => some m.mean
      | .sk => if sat then none else m.kurtosis g
      | .occupancy => if d.endsInterval && evaluated != 0 then some ((above : Rat) / evaluated) else none
      | .change => if sat then none else old.baseline.bind (fun b => if b = 0 then none else some (m.mean / b))
  let baseline : Option Rat :=
    if can && !sat && st.kind == .change then
      match old.baseline with
      | none => some m.mean
      | some b => some (b + (m.mean - b) / (2 ^ st.avg.val : Nat))
    else old.baseline
  let fired := if old.quiet = 0 then (value.bind (fun v => (st.passed v).map (margin v))) else none
  { fired := fired, baseline := baseline, above := above
    quiet := if fired.isSome then st.hold.val else old.quiet - 1 }

/-- The stages of a recipe in order, each with what it held for the unit. -/
def runStages (d : ClosedDwell) (g evaluated : Nat) (u : UnitState) : Nat → List Stage → List StageOutcome
  | _, [] => []
  | k, st :: rest =>
    let old : StageOutcome :=
      { fired := none, baseline := (u.baselines[k]?).getD none, quiet := (u.quiet[k]?).getD 0
        above := (u.interval.above[k]?).getD 0 }
    st.evaluate d g evaluated old :: runStages d g evaluated u (k + 1) rest

/-- The OCCUPANCY stages at the end of an interval that has been cut after its last dwell was processed: they are evaluated
then on that dwell, when it was (R187, R189). -/
def lateStages (u : UnitState) (before : List Nat) : Nat → List Stage → List StageOutcome
  | _, [] => []
  | k, st :: rest =>
    let above := (u.interval.above[k]?).getD 0
    let quiet := (u.quiet[k]?).getD 0
    let value : Option Rat :=
      if st.kind == .occupancy && u.interval.evaluated != 0 then some ((above : Rat) / u.interval.evaluated) else none
    let fired := if (before[k]?).getD 0 = 0 then (value.bind (fun v => (st.passed v).map (margin v))) else none
    { fired := fired, baseline := (u.baselines[k]?).getD none, above := above
      quiet := if fired.isSome then st.hold.val else quiet } :: lateStages u before (k + 1) rest

/-- The core processes the oldest closed dwell of a unit: stages, the spark, the interval's sums (R187 to R190, R201). -/
def UnitState.process (p : PortNo) (r : Recipe) (f : Fin 7) (u : UnitState) : UnitState × Option Spark :=
  match u.closed with
  | [] => (u, none)
  | d :: rest =>
    let counts := !d.noDwell && !d.partialDwell && d.moments.used != 0
    let evaluated := u.interval.evaluated + (if counts then 1 else 0)
    let outs : List StageOutcome :=
      if d.noDwell then (match u.lastQuiet with | some q => lateStages u q 0 r.stages | none => [])
      else runStages d (realFactor f) evaluated u 0 r.stages
    let kept := d.noDwell && u.lastQuiet.isNone
    let mask := packBits (outs.map (fun o => o.fired.isSome))
    let spark := (outs.findSome? (fun o => o.fired)).map (fun mg : Int =>
      ({ frame := d.last, port := p, unit := u.unit, slotLevel := !r.quarter, tag := r.tag
         mask := BitVec.ofNat 8 mask, margin := mg } : Spark))
    let sums : IntervalSums :=
      { u.interval with
        sums := u.interval.sums.add d.moments, evaluated := evaluated
        sparks := min (u.interval.sparks + (if spark.isSome then 1 else 0)) 255
        above := if kept then u.interval.above else outs.map (·.above) }
    let u : UnitState := { u with
      closed := rest
      baselines := if kept then u.baselines else outs.map StageOutcome.baseline
      quiet := if kept then u.quiet else outs.map StageOutcome.quiet
      lastQuiet := if counts && !d.endsInterval then some u.quiet else none }
    if d.endsInterval then
      ({ u with interval := { IntervalSums.zero with format := u.unsuited }
                done := u.done ++ [DoneInterval.mk sums d.intervalFirst d.last d.partialInterval] },
        spark)
    else ({ u with interval := sums }, spark)

/-- A push to a spark FIFO, with a pop by the collector in the same core cycle or without one: the FIFO after it, what was
popped, and whether the push was stored (R192). An empty FIFO pops EMPTY and stores; a full one stores only as the pop frees
room. -/
def fifoPush (pop : Bool) (x : Spark) (fifo : List Spark) : List Spark × Option Spark × Bool :=
  match fifo with
  | [] => ([x], none, true)
  | y :: rest =>
    if pop then (rest ++ [x], some y, true)
    else if fifo.length < 16 then (fifo ++ [x], none, true) else (fifo, none, false)

/-- A unit's spark enters the FIFO (R190). The collector of a cluster whose domain is on takes 8 sparks in each cycle in
round-robin order, so that it pops once from every engine in the 16 cycles and more that a unit costs (R193, R194). -/
def State.pushSpark (e : Fin 1024) (x : Spark) (s : State) : State :=
  let o := fifoPush (s.pwr.modes[clusterDomain (engineCluster e)] == .on) x s.ember.engines[e].fifo
  let s := s.setEngine e (fun g => { g with fifo := o.1, collected := g.collected ++ o.2.1.toList })
  if o.2.2 then s.setEngine e (fun g => { g with sparks := g.sparks + 1 })
  else
    (s.setEngine e (fun g => { g with refused := g.refused + 1 })).raise
      (128 + e.val / 128) 4 .occurrence (e.val / 128) e.val 0

/-- The frame at which the oldest closed dwells of an engine ended. -/
def Engine.firstClosed (g : Engine) : Option (BitVec 64) :=
  (g.units.filterMap (fun u => u.closed.head?.map (·.last))).foldl
    (fun a x => match a with | none => some x | some y => some (if x ≤ y then x else y)) none

/-- The core processes the dwells of an engine that ended at the earliest frame (R180, R190). -/
def State.processDwells (e : Fin 1024) (s : State) : State :=
  let g := s.ember.engines[e]
  match g.firstClosed with
  | none => s
  | some last =>
    let p := enginePort e
    let set := s.ember.active
    let one (u : UnitState) : UnitState × Option Spark :=
      match u.closed with
      | d :: _ =>
        if d.last != last then (u, none)
        else match set.recipe u.recipe with
          | some r => u.process p r (s.port p).settings.inFormats[(⟨u.unit.val / 4, by omega⟩ : Fin 256)]
          | none => ({ u with closed := u.closed.tail }, none)
      | [] => (u, none)
    let outs := g.units.map one
    let s := s.setEngine e (fun g => { g with units := outs.map (·.1) })
    (outs.filterMap (·.2)).foldl (fun s x => s.pushSpark e x) s

/-- DWELL_END (R180, R187 to R192). -/
def execDwellEnd (e : Fin 1024) (s : State) : Host.Outcome State Fault Refusal := .next (s.settled (s.processDwells e))

/-- The largest count that a 32-bit field holds. -/
def cap32 (n : Nat) : Nat := min n 0xFFFFFFFF

/-- A moments entry (R201). -/
def momentsEntry (x : IntervalSums) : List Byte :=
  let m := x.sums
  leBytes 8 m.sumP ++ leBytes 8 m.sumP2 ++ leBytes 4 m.maxP ++ leBytes 4 m.clip ++ leBytes 4 m.used
    ++ leBytes 1 (packBits [m.satP, m.satP2, m.satClip, x.format]) ++ zeros 3

/-- The number of a recipe's lowest OCCUPANCY stage. -/
def Recipe.occupancyStage (r : Recipe) : Option Nat := r.stages.findIdx? (fun st => st.kind == .occupancy)

/-- A derived entry (R202). -/
def derivedEntry (r : Recipe) (f : Fin 7) (x : IntervalSums) : List Byte :=
  let m := x.sums
  let sk := if m.satP || m.satP2 then none else m.kurtosis (realFactor f)
  let occ : Option Rat := r.occupancyStage.bind (fun k =>
    if x.evaluated = 0 then none else some ((((x.above[k]?).getD 0 : Nat) : Rat) / x.evaluated))
  leBytes 4 (if m.samples = 0 then 0 else (floatWord m.mean).toNat) ++ leBytes 4 (match sk with | some v => (floatWord v).toNat | none => 0)
    ++ leBytes 4 (match occ with | some v => (floatWord v).toNat | none => 0) ++ leBytes 2 x.evaluated
    ++ leBytes 1 x.sparks ++ leBytes 1 (packBits [sk.isNone, occ.isNone, x.format])

/-- The header of a record (R200). -/
def recordHeader (type flags engine recipe level count sequence lost : Nat) (first last : BitVec 64) (absent gen : Nat) :
    List Byte :=
  leBytes 1 type ++ leBytes 1 flags ++ leBytes 2 engine ++ leBytes 1 recipe ++ leBytes 1 level ++ leBytes 2 count
    ++ leBytes 4 sequence ++ leBytes 4 lost ++ leBytes 8 first.toNat ++ leBytes 8 last.toNat ++ leBytes 4 absent
    ++ leBytes 4 gen ++ zeros 8

/-- A buffer is written and its command completes once the bytes are in the host's memory (R318, R373). -/
def State.writeBuffer (c : CommandRef) (data results : List Byte) (s : State) : State :=
  let r : Request := { (default : Request) with channel := c.channel, token := c.token }
  s.setHost (fun h => { h with waiting := h.waiting ++ [WaitingCommand.mk 0 r (.output data results) true false] })

/-- A posted buffer completes, an empty one at once with BYTES 0 (R376). -/
def State.completeBuffer (b : RecordBuffer) (s : State) : State :=
  if b.records = 0 then s.complete b.command .ok 0 (zeros 8)
  else s.writeBuffer b.command b.filled (leBytes 4 b.filled.length ++ leBytes 4 b.records)

/-- Records pass from the staging region into the posted buffers (R204). -/
def State.deliverRecords : Nat → State → State
  | 0, s => s
  | n + 1, s =>
    match s.ember.staging, s.ember.buffers with
    | x :: xs, b :: bs =>
      if b.filled.length + x.bytes.length ≤ b.length then
        let now := s.clock.tick
        let b := { b with filled := b.filled ++ x.bytes, records := b.records + 1, firstAt := if b.records = 0 then now else b.firstAt }
        deliverRecords n (s.setEmber (fun y => { y with staging := xs, buffers := b :: bs }))
      else deliverRecords n ((s.setEmber (fun y => { y with buffers := bs })).completeBuffer b)
    | _, _ => s

/-- Deliver all that can be delivered. -/
def State.pumpRecords (s : State) : State := s.deliverRecords (s.ember.staging.length + s.ember.buffers.length)

/-- A record enters the staging region, or is dropped and counted (R200, R204, R207). The maker gets SEQUENCE and LOST. -/
def State.stageRecord (e : Fin 1024) (make : Nat → Nat → List Byte) (s : State) : State :=
  let g := s.ember.engines[e]
  let bytes := make g.sequence.toNat g.lost.toNat
  let used := (s.ember.staging.map (fun x => x.bytes.length)).sum
  if used + bytes.length ≤ 2 ^ 30 then
    let s := s.setEngine e (fun g => { g with sequence := g.sequence + 1, lost := 0, written := g.written + 1 })
    (s.setEmber (fun x => { x with staging := x.staging ++ [⟨e, bytes⟩] })).pumpRecords
  else
    let c := engineCluster e
    let now := s.clock.tick
    let x := s.ember.clusters[c]
    let due := x.dropped == 0 || decide (x.dropEvent + second ≤ now)
    let s := s.setEngine e (fun g => { g with lost := BitVec.ofNat 32 (cap32 (g.lost.toNat + 1)), lostTotal := g.lostTotal + 1 })
    let s := s.setCluster c (fun x =>
      { x with dropped := BitVec.ofNat 32 (cap32 (x.dropped.toNat + 1)), dropEvent := if due then now else x.dropEvent
               dropsSince := if due then 0 else x.dropsSince + 1 })
    s.raiseIf due (128 + c.val) 5 .loss c.val (x.dropsSince + 1) 0

/-- Whether a frame of an interval was read while numbers were not traceable. -/
def State.untracedIn (s : State) (first last : BitVec 64) : Bool := s.ember.untraced.any (fun x => first ≤ x && x ≤ last)

/-- The record of one recipe's finished interval on an engine (R200 to R202). -/
def State.writeRecord (e : Fin 1024) (i : Fin 64) (r : Recipe) (s : State) : State :=
  let g := s.ember.engines[e]
  let units := g.units.filter (fun u => u.recipe == i)
  match units.mapM (fun u => u.done.head?) with
  | none => s
  | some [] => s
  | some (d :: ds) =>
    let s' := s.setEngine e (fun g =>
      { g with units := g.units.map (fun u => if u.recipe == i then { u with done := u.done.tail } else u) })
    if !r.moments && !r.derived then s'
    else
      let formats := (s.port (enginePort e)).settings.inFormats
      let all := units.zip (d :: ds)
      let entry (x : UnitState × DoneInterval) : List Byte :=
        (if r.moments then momentsEntry x.2.sums else [])
          ++ (if r.derived then derivedEntry r formats[(⟨x.1.unit.val / 4, by omega⟩ : Fin 256)] x.2.sums else [])
      let sat := all.any (fun x => x.2.sums.sums.satP || x.2.sums.sums.satP2 || x.2.sums.sums.satClip)
      let flags := packBits [d.partialInterval, s.untracedIn d.first d.last, sat]
      let absent := (g.absent.filter (fun n => d.first ≤ n && n ≤ d.last)).length
      let gen := s.ember.generation.toNat
      s'.stageRecord e (fun sequence lost =>
        recordHeader (packBits [r.moments, r.derived]) flags e.val i.val (bit r.quarter) all.length sequence lost
          d.first d.last absent gen ++ all.flatMap entry)

/-- The records of an engine whose intervals have ended, recipe by recipe (R200). -/
def State.writeRecords (e : Fin 1024) (s : State) : State :=
  s.ember.active.recipes.foldl (fun s x => s.writeRecord e x.1 x.2) s

/-- REPORT_INTERVAL_END (R200). -/
def execReportIntervalEnd (e : Fin 1024) (s : State) : Host.Outcome State Fault Refusal := .next (s.settled (s.writeRecords e))

/-- The record of the oldest tinder dwell that has ended (R183, R203). -/
def State.writeTinder (e : Fin 1024) (s : State) : State :=
  match s.ember.engines[e].tinderDone with
  | [] => s
  | d :: rest =>
    let s' := s.setEngine e (fun g => { g with tinderDone := rest })
    if d.sums.isEmpty then s'
    else
      let entry (x : Fin 256) : List Byte :=
        match d.sums.find? (fun y => y.slot == x) with
        | some y => tinderEntry y.format y.moments
        | none => zeros 12
      let sat := d.sums.any (fun y => y.moments.satP || y.moments.satP2 || y.moments.satClip)
      s'.stageRecord e (fun sequence lost =>
        recordHeader 4 (packBits [d.partialDwell, d.untraceable, sat]) e.val 0xFF 0 128 sequence lost d.first d.last
          d.absent s.ember.generation.toNat ++ (engineSlots e).flatMap entry)

/-- TINDER_DWELL_END (R183, R203). -/
def execTinderDwellEnd (e : Fin 1024) (s : State) : Host.Outcome State Fault Refusal := .next (s.settled (s.writeTinder e))

/-- RECORD_BUFFER_TIMEOUT: 10 ms after its first record a buffer completes (R204). -/
def State.bufferTimeout (s : State) : State :=
  match s.ember.buffers with
  | b :: bs =>
    if 0 < b.records && decide (b.firstAt + 20000 ≤ s.clock.tick) then
      ((s.setEmber (fun x => { x with buffers := bs })).completeBuffer b).pumpRecords
    else s
  | [] => s

def execRecordBufferTimeout (s : State) : Host.Outcome State Fault Refusal := .next (s.settled s.bufferTimeout)

/-- All closed dwells of an engine are processed and all its finished intervals written, at a stop or a swap. -/
def State.finishEngine (e : Fin 1024) (s : State) : State :=
  let n := (s.ember.engines[e].units.map (fun u => u.closed.length)).sum
  let s := (List.range n).foldl (fun s _ => s.processDwells e) s
  (List.range n).foldl (fun s _ => s.writeRecords e) s

/-- The engines of a cluster (R176). -/
def clusterEngines (c : Fin 8) : List (Fin 1024) := (List.finRange 1024).filter (fun e => e.val / 128 == c.val)

/-- The units of an engine that starts to measure under the active bank (R205, R206). -/
def State.openUnits (e : Fin 1024) (s : State) : State :=
  let first := s.ember.readTo + 1
  let set := s.ember.active
  s.setEngine e (fun g => { g with units := (set.unitsOf e).map (fun x => UnitState.fresh x.1 x.2 first) })

/-- The codes of a cluster state (R378). -/
def ClusterMode.code : ClusterMode → Nat
  | .running => 0 | .stopped => 1 | .loading => 2

/-- Move a cluster to a state, with its event (R378, R473). -/
def State.setClusterMode (c : Fin 8) (m : ClusterMode) (s : State) : State :=
  let old := s.ember.clusters[c].mode
  let now := s.clock.frame
  (s.setCluster c (fun x => { x with mode := m, lastChange := now })).raiseState old.code m.code (128 + c.val) 1 c.val

/-- Trigger channels that take sparks from an engine raise the event of R18, which names it. -/
def State.engineLostFor (xs : List (Fin 64 × ChannelEntry)) (es : List (Fin 1024)) (s : State) : State :=
  xs.foldl (fun s x =>
    (es.filter (fun e => x.2.spark && x.2.portMask.getLsbD (e.val / 2))).foldl (fun (s : State) (e : Fin 1024) =>
      s.raise (136 + x.1.val) 4 .occurrence x.1.val e.val 0) s) s
def State.engineLost (es : List (Fin 1024)) (s : State) : State := s.engineLostFor s.cap.active.channels es

/-- A cluster stops from the present tick (R205 step 1). -/
def State.stopCluster (c : Fin 8) (s : State) : State :=
  if s.ember.clusters[c].mode == .stopped then s
  else
    let last := s.ember.readTo
    let stop (s : State) (e : Fin 1024) : State :=
      let s := (s.setEngine e (Engine.cutAll last (last + 1))).finishEngine e
      s.setEngine e (fun g => { g with units := [], absent := [] })
    let s := (clusterEngines c).foldl stop s
    let s := match s.ember.clusters[c].restart with
      | some r => (s.setCluster c (fun x => { x with restart := none })).complete r .errState 0 []
      | none => s
    (s.setClusterMode c .stopped).engineLost (clusterEngines c)

/-- The first frame that units opened now measure, and the tick at which it is read (R178): G of R205. -/
def State.firstRead (s : State) : BitVec 64 := s.clock.frame + 1 - BitVec.ofInt 64 (s.dpll.step.getD 0)

/-- A cluster enters RUNNING at tick G with the stored image and the active bank (R205 step 3). -/
def State.runCluster (c : Fin 8) (s : State) : State :=
  let version := match s.ember.library with | some x => x.version | none => 0
  let first := s.firstRead
  let s := (s.setClusterMode c .running).setCluster c (fun x => { x with library := version, lastChange := first })
  (clusterEngines c).foldl (fun s e => if s.ember.engines[e].out then s else s.openUnits e) s

/-- CLUSTER_LOADING_DONE (R205, R377). -/
def State.loadingDone (c : Fin 8) (s : State) : State :=
  let x := s.ember.clusters[c]
  if x.mode == .loading then
    let s := (s.runCluster c).setCluster c (fun x => { x with restart := none })
    match x.restart with
    | some r => s.complete r .ok 0 (leBytes 8 s.firstRead.toNat)
    | none => s
  else s

def execClusterLoadingDone (c : Fin 8) (s : State) : Host.Outcome State Fault Refusal := .next (s.settled (s.loadingDone c))

/-- A physical engine of the cluster that neither is faulty nor serves a logical engine (R206). -/
def State.spareEngine (s : State) (c : Fin 8) : Option (Fin 132) :=
  let used := (clusterEngines c).filterMap (fun e => if s.ember.engines[e].out then none else some s.ember.engines[e].physical)
  let faulty := s.ember.clusters[c].faulty
  (List.finRange 132).find? (fun x => !used.contains x && !faulty.contains x)

/-- The records of an engine that are in progress or still to be written: those of its recipes' intervals, and its tinder
records (R206). -/
def Engine.unwritten (set : RecipeSet) (g : Engine) : Nat :=
  let intervals (x : Fin 64 × Recipe) : Nat :=
    if !x.2.moments && !x.2.derived then 0
    else
      ((g.units.filter (fun u => u.recipe == x.1)).map (fun u =>
        1 + u.done.length + (u.closed.filter (fun d => d.endsInterval)).length)).foldl max 0
  let tinder := (g.tinderDone ++ g.tinder.toList).filter (fun d => !d.sums.isEmpty)
  (set.recipes.map intervals).sum + tinder.length

/-- ENGINE_FAULT: out of service; records and per-unit state in progress are lost (R206). -/
def State.engineFault (e : Fin 1024) (s : State) : State :=
  let g := s.ember.engines[e]
  if g.out then s
  else
    let c := engineCluster e
    let lost := g.unwritten s.ember.active
    let s := s.setEngine e (fun g =>
      { g with out := true, units := [], tinder := none, tinderDone := [], absent := []
               lost := BitVec.ofNat 32 (cap32 (g.lost.toNat + lost)), lostTotal := g.lostTotal + BitVec.ofNat 48 lost })
    let s := s.setCluster c (fun x => { x with faulty := if x.faulty.contains g.physical then x.faulty else x.faulty ++ [g.physical] })
    (s.raise (128 + c.val) 2 .fault c.val e.val 0).engineLost [e]

def execEngineFault (e : Fin 1024) (s : State) : Host.Outcome State Fault Refusal := .next (s.settled (s.engineFault e))

/-- SPARE_IN_SERVICE: a spare takes the logical engine and measures from this tick (R206). -/
def State.spareIn (e : Fin 1024) (s : State) : State :=
  let c := engineCluster e
  if !s.ember.engines[e].out then s
  else match s.spareEngine c with
    | none => s
    | some x =>
      let s := s.setEngine e (fun g => { g with out := false, physical := x })
      let s := if s.runsRecipes c then s.openUnits e else s
      s.raise (128 + c.val) 3 .repair c.val e.val x.val

def execSpareInService (e : Fin 1024) (s : State) : Host.Outcome State Fault Refusal := .next (s.settled (s.spareIn e))

/-- Whether a recipe covers the same units of an engine with the same bytes in both sets (R198). -/
def recipeKept (old new : RecipeSet) (e : Fin 1024) (i : Fin 64) : Bool :=
  let cover (x : RecipeSet) : List (Fin 1024) := ((x.unitsOf e).filter (fun u => u.2 == i)).map (·.1)
  old.recipe i == new.recipe i && cover old == cover new

/-- The units of an engine at a recipe swap: disturbed ones close at the last frame read, which is F−1 unless a step of the
count has skipped F, and open again at the first frame read after it (R182, R198). -/
def State.swapUnits (new : RecipeSet) (s : State) (e : Fin 1024) : State :=
  let old := s.ember.active
  let last := s.ember.readTo
  let kept (i : Fin 64) : Bool := recipeKept old new e i
  let s := s.setEngine e (fun g =>
    { g with units := g.units.map (fun u => if kept u.recipe then u else u.cut last (last + 1))
             dwells := g.dwells + BitVec.ofNat 48 ((g.units.filter (fun u => !kept u.recipe && u.dwellFirst ≤ last)).length) })
  let s := s.finishEngine e
  s.setEngine e (fun g =>
    { g with units := (new.unitsOf e).map (fun x =>
        match g.units.find? (fun u => u.unit == x.1 && u.recipe == x.2 && kept x.2) with
        | some u => u
        | none => UnitState.fresh x.1 x.2 (last + 1)) })

/-- The recipe swap takes place, once its frame has come (R197, R198, R375). -/
def State.takeRecipeSwap (s : State) : State :=
  match s.ember.swap, s.ember.shadow with
  | some w, some new =>
    if w.frame ≤ s.clock.frame then
      let running := (List.finRange 1024).filter (fun e =>
        s.runsRecipes (engineCluster e) && !s.ember.engines[e].out)
      let s := running.foldl (State.swapUnits new) s
      let s := s.setEmber (fun x =>
        { x with active := new, generation := x.generation + 1, shadow := none, shadowMode := .empty, swap := none
                 persistWaits := if w.persist then x.persistWaits ++ [⟨w.command, new, x.generation + 1⟩] else x.persistWaits })
      s.complete w.command .ok 0 (leBytes 8 w.frame.toNat ++ leBytes 4 s.ember.generation.toNat ++ zeros 4)
    else s
  | _, _ => s

/-- RECIPE_SWAP_TAKES_PLACE (R198). -/
def execRecipeSwapTakesPlace (s : State) : Host.Outcome State Fault Refusal := .next (s.settled s.takeRecipeSwap)

/-- RECIPE_PERSIST_DONE: the engine-programs region holds the oldest set that waits, with the GENERATION that it took at its
swap (R197). -/
def State.recipePersisted (s : State) : State :=
  match s.ember.persistWaits with
  | [] => s
  | w :: rest =>
    (s.setEmber (fun x => { x with persisted := some (w.set, w.generation), persistWaits := rest })).commit w.command

def execRecipePersistDone (s : State) : Host.Outcome State Fault Refusal := .next (s.settled s.recipePersisted)

end Sys2Proof.Machine
end

