-- ==== Sys2Proof/Machine/Recipes.lean ====
section
/-! DEFINITION. Recipe sets in their byte form: layout, checks in the order of R196, the engine load and the record rate
(R184 to R186, R194 to R197, R374). -/
namespace Sys2Proof.Machine

/-- Why a bank read from a buffer is refused: status and DETAIL. -/
structure BankRefusal where
  status : Status
  detail : Nat
  deriving DecidableEq, Repr, Inhabited

/-- The length of a recipe set (R184). -/
def recipeSetBytes : Nat := 142368

/-- A positive finite binary32 word (R186). -/
def positiveFinite (v : Nat) : Bool := decide (0 < v) && decide (v < 0x7F800000)

/-- The offset of the first nonzero field of those given, each with its size. -/
def firstNonzero (bs : List Byte) (base : Nat) : List (Nat × Nat) → Option Nat
  | [] => none
  | (o, n) :: rest => if isZero bs (base + o) n then firstNonzero bs base rest else some (base + o)

/-- The fields of a stage, and of a recipe (R185, R186). -/
def stageFields : List (Nat × Nat) :=
  [(0, 1), (1, 1), (2, 1), (3, 1), (4, 4), (8, 4), (12, 4), (16, 2), (18, 2)]
def recipeFields : List (Nat × Nat) :=
  [(0, 1), (1, 1), (2, 1), (3, 1), (4, 4), (8, 2), (10, 1), (11, 1), (12, 4)]
    ++ (List.range 8).flatMap (fun k => stageFields.map (fun x => (16 + 20 * k + x.1, x.2)))

/-- The first field of a stage in use that is out of range (R186). -/
def stageRange (bs : List Byte) (o : Nat) : Option Nat :=
  let kind := byteAt bs o
  let cmp := byteAt bs (o + 1)
  let avg := byteAt bs (o + 2)
  let lo := field bs (o + 4) 4
  let hi := field bs (o + 8) 4
  let level := field bs (o + 12) 4
  let usesLo := cmp == 1 || cmp == 2
  let usesHi := cmp == 0 || cmp == 2
  firstBad [
    (kind == 0 || 4 < kind, o),
    (2 < cmp || (kind == 3 && cmp == 2), o + 1),
    (if kind = 4 then avg == 0 || 16 < avg else avg != 0, o + 2),
    (byteAt bs (o + 3) != 0, o + 3),
    (if usesLo then !positiveFinite lo else lo != 0, o + 4),
    ((if usesHi then !positiveFinite hi else hi != 0) || (cmp == 2 && hi ≤ lo), o + 8),
    (if kind = 3 then !positiveFinite level else level != 0, o + 12),
    (!isZero bs (o + 18) 2, o + 18)]

/-- The first field of a recipe that is out of range (R185). -/
def recipeRange (bs : List Byte) (o : Nat) : Option Nat :=
  let form := byteAt bs o
  if form = 0 then firstNonzero bs o recipeFields
  else
    let dwell := field bs (o + 4) 4
    let report := field bs (o + 8) 2
    let count := byteAt bs (o + 11)
    let head := firstBad [
      (form != 1, o), (1 < byteAt bs (o + 1), o + 1), (3 < byteAt bs (o + 2), o + 2),
      (dwell == 0 || 1048576 < dwell, o + 4), (report == 0 || 4096 < report, o + 8), (15 < byteAt bs (o + 10), o + 10),
      (8 < count, o + 11), (!isZero bs (o + 12) 4, o + 12)]
    head <|> (List.range 8).findSome? (fun k =>
      let so := o + 16 + 20 * k
      if k < count then stageRange bs so else firstNonzero bs so stageFields)

/-- The first field of a set that is out of range or reserved and not 0 (R184, R196). -/
def setRange (bs : List Byte) : Option Nat :=
  firstBad [(field bs 0 4 != 1, 0), (!isZero bs 8 24, 8)]
    <|> (List.range 64).findSome? (fun i => recipeRange bs (32 + 176 * i))
    <|> (List.range 131072).findSome? (fun i =>
      let a := byteAt bs (11296 + i)
      if 63 < a && a != 0xFF then some (11296 + i) else none)

/-- The kinds and comparisons of R186. -/
def stageKindOf (n : Nat) : StageKind := match n with | 1 => .power | 2 => .sk | 3 => .occupancy | _ => .change
def compareOf (n : Nat) : Compare := match n with | 0 => .above | 1 => .below | _ => .outside

/-- A stage of a set that passed its range checks. -/
def readStage (bs : List Byte) (o : Nat) : Stage :=
  { kind := stageKindOf (byteAt bs o), compare := compareOf (byteAt bs (o + 1))
    avg := ⟨byteAt bs (o + 2) % 17, by omega⟩
    lo := BitVec.ofNat 32 (field bs (o + 4) 4), hi := BitVec.ofNat 32 (field bs (o + 8) 4)
    level := BitVec.ofNat 32 (field bs (o + 12) 4), hold := ⟨field bs (o + 16) 2 % 65536, by omega⟩ }

/-- A recipe in use. -/
def readRecipe (bs : List Byte) (o : Nat) : Recipe :=
  { quarter := byteAt bs (o + 1) == 1, moments := byteAt bs (o + 2) % 2 == 1, derived := byteAt bs (o + 2) / 2 % 2 == 1
    tag := BitVec.ofNat 8 (byteAt bs (o + 3)), dwell := field bs (o + 4) 4, report := field bs (o + 8) 2
    shift := ⟨byteAt bs (o + 10) % 16, by omega⟩
    stages := (List.range (byteAt bs (o + 11))).map (fun k => readStage bs (o + 16 + 20 * k)) }

/-- The set that the bytes describe (R184). -/
def readRecipeSet (bs : List Byte) : RecipeSet :=
  { recipes := (List.finRange 64).filterMap (fun i =>
      if byteAt bs (32 + 176 * i.val) = 1 then some (i, readRecipe bs (32 + 176 * i.val)) else none)
    assign := (List.finRange 131072).filterMap (fun i =>
      let a := byteAt bs (11296 + i.val)
      if h : a < 64 then some (i, ⟨a, h⟩) else none) }

/-- The bytes of a stage (R186). -/
def Stage.bytes (st : Stage) : List Byte :=
  let kind := match st.kind with | .power => 1 | .sk => 2 | .occupancy => 3 | .change => 4
  let cmp := match st.compare with | .above => 0 | .below => 1 | .outside => 2
  leBytes 1 kind ++ leBytes 1 cmp ++ leBytes 1 st.avg.val ++ zeros 1 ++ leBytes 4 st.lo.toNat ++ leBytes 4 st.hi.toNat
    ++ leBytes 4 st.level.toNat ++ leBytes 2 st.hold.val ++ zeros 2

/-- The bytes of a recipe (R185). -/
def recipeBytes : Option Recipe → List Byte
  | none => zeros 176
  | some r =>
    padTo 176 (leBytes 1 1 ++ leBytes 1 (bit r.quarter) ++ leBytes 1 (packBits [r.moments, r.derived]) ++ [r.tag]
      ++ leBytes 4 r.dwell ++ leBytes 2 r.report ++ leBytes 1 r.shift.val ++ leBytes 1 r.stages.length ++ zeros 4
      ++ r.stages.flatMap Stage.bytes)

/-- The bytes of a set (R184). -/
def RecipeSet.bytes (x : RecipeSet) : List Byte :=
  leBytes 4 1 ++ leBytes 4 recipeSetBytes ++ zeros 24 ++ (List.finRange 64).flatMap (fun i => recipeBytes (x.recipe i))
    ++ (List.range 131072).map (fun i =>
      match x.assign.find? (fun a => a.1.val == i) with
      | some a => BitVec.ofNat 8 a.2.val
      | none => 0xFF)

/-- The first assignment that conflicts (R181, R196). -/
def assignConflict (x : RecipeSet) (formats : Vector (Vector (Fin 7) 256) 512) : Option Nat :=
  (x.assign.find? (fun a =>
    let f := formats[(⟨a.1.val / 256, by omega⟩ : Fin 512)][(⟨a.1.val % 256, by omega⟩ : Fin 256)]
    match x.recipe a.2 with
    | none => true
    | some r => !r.suits f)).map (fun a => 11296 + a.1.val)

/-- The cost of a unit per dwell in core cycles (R194). -/
def Recipe.cost (r : Recipe) : Nat :=
  16 + (r.stages.map (fun st => match st.kind with | .power | .occupancy => 8 | .change => 16 | .sk => 24)).sum

/-- The load of a logical engine (R194). -/
def RecipeSet.load (x : RecipeSet) (e : Fin 1024) : Rat :=
  ((x.unitsOf e).map (fun u =>
    match x.recipe u.2 with
    | some r => (r.cost : Rat) / ((512 * r.dwell : Nat) : Rat)
    | none => 0)).sum

/-- The record rate of a set in bytes per second (R195). -/
def RecipeSet.rate (x : RecipeSet) : Rat :=
  ((List.finRange 1024).flatMap (fun e =>
    x.recipes.map (fun r =>
      let n := ((x.unitsOf e).filter (fun u => u.2 == r.1)).length
      if n = 0 || (!r.2.moments && !r.2.derived) then (0 : Rat)
      else ((48 + n * (32 * bit r.2.moments + 16 * bit r.2.derived) : Nat) : Rat) * 2000000
        / ((r.2.report * r.2.dwell : Nat) : Rat)))).sum

/-- The field that DETAIL names for a load above 1.0, or for a record rate above 4.0 GB/s (R196). -/
def resourceDetail (x : RecipeSet) : Option Nat :=
  match (List.finRange 1024).find? (fun e => 1 < x.load e) with
  | some e =>
    let p := enginePort e
    ((engineSlots e).find? (fun s => (x.slotRecipe p s).isSome)).map (fun s => 11296 + 256 * p.val + s.val)
  | none =>
    if 4000000000 < x.rate then
      (x.recipes.find? (fun r => r.2.moments || r.2.derived)).map (fun r => 32 + 176 * r.1.val + 2)
    else none

/-- The checks of R196 in their order. -/
def checkRecipeSet (bs : List Byte) (formats : Vector (Vector (Fin 7) 256) 512) : Except BankRefusal RecipeSet :=
  if 8 ≤ bs.length ∧ field bs 4 4 ≠ recipeSetBytes then .error ⟨.errLength, detailBuffer 4⟩
  else if bs.length < recipeSetBytes then .error ⟨.errLength, detailList⟩
  else match setRange bs with
  | some o => .error ⟨.errRange, detailBuffer o⟩
  | none =>
    let x := readRecipeSet bs
    match assignConflict x formats with
    | some o => .error ⟨.errConflict, detailBuffer o⟩
    | none =>
      match resourceDetail x with
      | some o => .error ⟨.errResource, detailBuffer o⟩
      | none => .ok x

/-- RECIPE_CHECK_DONE: the checks of a loaded set end (R196, R374). -/
def State.recipeChecked (s : State) : State :=
  match s.ember.load with
  | none => s
  | some l =>
    match l.data with
    | none => s
    | some bs =>
      match checkRecipeSet bs l.formats with
      | .ok x =>
        (s.setEmber (fun y => { y with load := none, shadow := some x, shadowMode := .ready })).complete l.command .ok 0 []
      | .error f =>
        (s.setEmber (fun y => { y with load := none, shadowMode := if y.shadow.isSome then .ready else .empty })).complete
          l.command f.status f.detail []

def execRecipeCheckDone (s : State) : Host.Outcome State Fault Refusal := .next (s.settled s.recipeChecked)

end Sys2Proof.Machine
end

