-- ==== Sys2Proof/Machine/Store.lean ====
section
/-! DEFINITION. The capture store: namespaces and their logs (R233 to R235), Tabium objects and failure records byte by
byte (R239 to R247), and the sealing of an object through the drives' NVMe commands (R232, R236 to R238). -/
namespace Sys2Proof.Machine

/-- Change the triggers, the captures and the store. -/
def State.setCap (f : CaptureState → CaptureState) (s : State) : State := { s with cap := f s.cap }

/-- Change one namespace. -/
def State.setNs (n : Fin 32) (f : StoreNamespace → StoreNamespace) (s : State) : State :=
  s.setCap (fun c => { c with namespaces := c.namespaces.set n (f c.namespaces[n]) })

/-- Whether the capture key can sign: the security firmware runs, the keys are derived, and no debug session withholds
them (R18, R449, R467). -/
def State.captureKeyReady (s : State) : Bool := s.sec.running && s.sec.keysDerived && !s.sec.debugOpen

/-- The private scalar of the capture key, and CAPKEY_ID (R240, R449). -/
def State.captureScalar (s : State) : BitVec 384 := derivedScalar "KLXCAP" s.sec.ownerEpoch
def State.capkeyId (s : State) : List Byte :=
  if s.sec.keysDerived then keyId (publicKey s.captureScalar) else zeros 48

/-- RTC TAI seconds now. -/
def State.rtcNow (s : State) : Nat := s.rtc.seconds.toNat

/-- The state codes of a namespace (R389). -/
def StoreMode.code : StoreMode → Nat
  | .undeclared => 0 | .ok => 1 | .degraded => 2 | .rebuilding => 3 | .failed => 4

/-- Move a namespace to a state, with its event (R473). -/
def State.setNsMode (n : Fin 32) (m : StoreMode) (s : State) : State :=
  let old := s.cap.namespaces[n].mode
  (s.setNs n (fun x => { x with mode := m })).raiseState old.code m.code 218 1 n.val

/-- How many members share a stripe's bytes without holding copies: the pairs of a mirror count once (R233). -/
def StoreNamespace.width (x : StoreNamespace) : Nat := if x.mirror then x.members.length / 2 else x.members.length

/-- The log capacity (R387). -/
def StoreNamespace.capacity (x : StoreNamespace) : Nat := (x.extent - 67108864) * x.width

/-- The members that can be written: their drives are in the set in force, as declared, and have not failed (R232, R237). -/
def State.writable (s : State) (n : Fin 32) : List (Nat × Fin 16) :=
  let x := s.cap.namespaces[n]
  x.members.zipIdx.filterMap (fun m =>
    let d := m.1.1
    if !x.failed.contains m.2 && !s.cap.driveFailed[d] && !s.cap.driveBad[d]
        && s.cap.drives.entries.any (fun e => e.drive == d) then some (m.2, d) else none)

/-- The stripe unit and the largest transfer (R232, R233). -/
def stripeUnit : Nat := 1048576
def transferUnit : Nat := 262144

/-- The transfers that a member takes of the bytes from `lo` up to `hi` of the log, each at most 256 KiB, past the 64 MiB store
area of its extent (R232, R233). -/
def StoreNamespace.pieces (x : StoreNamespace) (member lo hi : Nat) : List NvmeRange :=
  let row := if x.mirror then member / 2 else member
  let start := ((x.members[member]?).map (·.2)).getD 0 + 67108864
  let first := lo / transferUnit
  let count := (hi + transferUnit - 1) / transferUnit - first
  (List.range count).filterMap (fun j =>
    let u := first + j
    let a := max lo (u * transferUnit)
    let b := min hi ((u + 1) * transferUnit)
    if u / 4 % x.width = row then
      some { log := a, lba := (start + u / 4 / x.width * stripeUnit + a % stripeUnit) / 4096, blocks := (b - a) / 4096 }
    else none)

/-- The opcodes of R232. -/
def NvmeOp.code : NvmeOp → Nat
  | .deleteSq => 0x00 | .createSq => 0x01 | .getLogPage => 0x02 | .deleteCq => 0x04 | .createCq => 0x05 | .identify => 0x06
  | .setFeatures => 0x09 | .getFeatures => 0x0A | .flush => 0x00 | .write => 0x01 | .read => 0x02 | .deallocate => 0x09

/-- The admin commands of R232. -/
def NvmeOp.admin : NvmeOp → Bool
  | .flush | .write | .read | .deallocate => false
  | .deleteSq | .createSq | .getLogPage | .deleteCq | .createCq | .identify | .setFeatures | .getFeatures => true

/-- An I/O queue of a drive with a free entry: a queue of 256 entries holds 255 commands (R232; log 65). -/
def CaptureState.freeQueue (c : CaptureState) (d : Fin 16) : Option (Fin 9) :=
  ((List.finRange 9).drop 1).find? (fun q =>
    decide ((c.commands.filter (fun x => x.drive == d && x.queue == q)).length < 255))

/-- Issue as many of the ranges as find a queue entry; the rest waits. -/
def CaptureState.issueRanges (d : Fin 16) (op : NvmeOp) (task : NvmeTask) :
    List NvmeRange → CaptureState → CaptureState × List NvmeRange
  | [], c => (c, [])
  | r :: rest, c =>
    match c.freeQueue d with
    | none => (c, r :: rest)
    | some q =>
      issueRanges d op task rest
        { c with commands := c.commands ++ [{ cid := c.nextCid, drive := d, queue := q, op := op, range := r, task := task }]
                 nextCid := c.nextCid + 1 }

/-- Issue of the waiting work, oldest first. -/
def CaptureState.issueWork : List NvmeWork → CaptureState → CaptureState
  | [], c => c
  | w :: rest, c =>
    let o := c.issueRanges w.drive w.op w.task w.ranges
    issueWork rest (if o.2.isEmpty then o.1 else { o.1 with queued := o.1.queued ++ [{ w with ranges := o.2 }] })

/-- Issue what waits. -/
def CaptureState.pumpNvme (c : CaptureState) : CaptureState := issueWork c.queued { c with queued := [] }

/-- Commands to drives for one purpose: they are issued, or wait for queue entries. -/
def State.issueNvme (task : NvmeTask) (xs : List (Fin 16 × NvmeOp × List NvmeRange)) (s : State) : State :=
  let work : List NvmeWork := (xs.filter (fun x => !x.2.2.isEmpty)).map (fun x => ⟨x.1, x.2.1, task, x.2.2⟩)
  s.setCap (fun c => ({ c with queued := c.queued ++ work }).pumpNvme)

/-- The writes, the reads and the deallocation of a range of the log on the members, and the flush of every member written
(R233, R234, R236). -/
def State.rangeOps (op : NvmeOp) (s : State) (n : Fin 32) (lo hi : Nat) : List (Fin 16 × NvmeOp × List NvmeRange) :=
  (s.writable n).map (fun m => (m.2, op, s.cap.namespaces[n].pieces m.1 lo hi))
def State.rangeWrites (s : State) (n : Fin 32) (lo hi : Nat) : List (Fin 16 × NvmeOp × List NvmeRange) := s.rangeOps .write n lo hi
/-- One command without a range: a flush. -/
def flushRange : List NvmeRange := [{ log := 0, lba := 0, blocks := 0 }]
def State.rangeFlushes (s : State) (n : Fin 32) (lo hi : Nat) : List (Fin 16 × NvmeOp × List NvmeRange) :=
  ((s.rangeWrites n lo hi).filter (fun x => !x.2.2.isEmpty)).map (fun x => (x.1, .flush, flushRange))

/-- A write to the store area of every writable member, and its flush (R233; log 65). -/
def State.areaWrite (blocks : Nat) (s : State) (n : Fin 32) : List (Fin 16 × NvmeOp × List NvmeRange) :=
  (s.writable n).map (fun m =>
    let start := ((s.cap.namespaces[n].members[m.1]?).map (·.2)).getD 0
    (m.2, .write, [{ log := 0, lba := start / 4096, blocks := blocks }]))
def State.areaFlush (s : State) (n : Fin 32) : List (Fin 16 × NvmeOp × List NvmeRange) :=
  (s.writable n).map (fun m => (m.2, .flush, flushRange))

/-- Whether commands for a purpose are outstanding or wait. -/
def State.outstanding (s : State) (t : NvmeTask) : Bool :=
  s.cap.commands.any (fun b => b.task == t) || s.cap.queued.any (fun b => b.task == t)

/-- An object under OBJECT_READ is not released (R391): some command reads it now. -/
def State.underRead (s : State) (sequence : Nat) : Bool :=
  let reads (t : NvmeTask) : Bool := match t with | .read r => Request.u r 8 8 == sequence | _ => false
  s.host.waiting.any (fun w => w.opcode == 0x080F && Request.u w.request 8 8 == sequence)
    || s.cap.commands.any (fun b => reads b.task) || s.cap.queued.any (fun b => reads b.task)

/-- The space search of R234 from a position of the log: pinned objects are skipped, expired ones released, and a younger
object, an open capture or an object being read stops it. It answers the place, if any, and what it has left in the log. -/
def findSpace (cap len now retain : Nat) (busy : List (Nat × Nat)) (stuck : Nat → Bool) :
    Nat → List StoredObject → Nat → Bool → Option Nat × List StoredObject
  | 0, objects, _, _ => (none, objects)
  | fuel + 1, objects, at_, wrapped =>
    if cap < len then (none, objects)
    else if cap < at_ + len then
      (if wrapped then (none, objects) else findSpace cap len now retain busy stuck fuel objects 0 true)
    else if busy.any (fun b => b.1 < at_ + len && at_ < b.1 + b.2) then (none, objects)
    else
      let inTheWay := objects.filter (fun o => o.inLog && o.offset < at_ + len && at_ < o.offset + o.length)
      let firstOf := inTheWay.foldl (fun a o =>
        match a with
        | none => some o
        | some (b : StoredObject) => if o.offset < b.offset then some o else some b) none
      match firstOf with
      | none => (some at_, objects)
      | some o =>
        if o.pinned then findSpace cap len now retain busy stuck fuel objects (o.offset + o.length) wrapped
        else if o.sealRtc + retain < now && !stuck o.sequence then
          let kept := objects.filterMap (fun p =>
            if p.sequence != o.sequence then some p
            else if p.inArea then some { p with inLog := false } else none)
          findSpace cap len now retain busy stuck fuel kept at_ wrapped
        else (none, objects)

/-- What the store holds open in a namespace: captures and key objects with a place in the log. -/
def State.openRanges (s : State) (n : Fin 32) : List (Nat × Nat) :=
  (s.cap.captures.filter (fun c => c.entry.namespace_ == n && c.inLog)).map (fun c => (c.offset, c.length))
    ++ (s.cap.keyWrites.filter (fun k => k.ns == n)).map (fun k => (k.offset, k.length))

/-- Deallocate ranges of the log on every writable member (R232, R234). -/
def State.deallocateLog (n : Fin 32) (xs : List (Nat × Nat)) (s : State) : State :=
  xs.foldl (fun s x => s.issueNvme .deallocate (s.rangeOps .deallocate n x.1 (x.1 + x.2))) s

/-- Reserve space at the log head; objects that the search releases go, and their ranges are deallocated (R234). A FAILED
namespace takes no reservation (R237). -/
def State.reserve (n : Fin 32) (len : Nat) (s : State) : Option Nat × State :=
  let x := s.cap.namespaces[n]
  if x.mode == .undeclared || x.mode == .failed then (none, s)
  else
    let o := findSpace x.capacity len s.rtcNow x.retain (s.openRanges n) s.underRead (2 * x.objects.length + 4) x.objects x.head false
    let gone := (x.objects.filter (fun p => p.inLog && !o.2.any (fun q => q.sequence == p.sequence && q.inLog))).map
      (fun p => (p.offset, p.length))
    let s := (s.setNs n (fun x => { x with objects := o.2 })).deallocateLog n gone
    match o.1 with
    | none => (none, s)
    | some at_ => (some at_, s.setNs n (fun x => { x with head := at_ + len }))

/-- What the header of an object states (R240). -/
structure ObjectHeader where
  kind         : Nat
  headerLength : Nat
  sequence     : Nat
  capkeyId     : List Byte
  trigger      : Nat
  first        : Nat
  pre          : Nat
  post         : Nat
  preActual    : Nat
  channel      : Nat
  source       : Nat
  ns           : Nat
  flags        : Nat
  timing       : Nat
  userTag      : Nat
  detail       : List Byte
  rtc          : Nat
  mapGen       : Nat
  recipeGen    : Nat
  triggerGen   : Nat
  slots        : Nat
  record       : Nat
  reserved     : Nat
  offset       : Nat
  deriving Inhabited

/-- The 512 bytes of a header (R240). -/
def ObjectHeader.bytes (h : ObjectHeader) : List Byte :=
  ascii "TABIUMH2" ++ leBytes 2 2 ++ leBytes 2 h.kind ++ leBytes 4 h.headerLength ++ leBytes 8 h.sequence ++ deviceId
    ++ h.capkeyId ++ leBytes 8 h.trigger ++ leBytes 8 h.first ++ leBytes 4 h.pre ++ leBytes 4 h.post
    ++ leBytes 4 h.preActual ++ leBytes 1 h.channel ++ leBytes 1 h.source ++ leBytes 1 h.ns ++ leBytes 1 h.flags
    ++ leBytes 1 h.timing ++ zeros 3 ++ leBytes 4 h.userTag ++ padTo 16 h.detail ++ leBytes 8 h.rtc ++ leBytes 8 h.mapGen
    ++ leBytes 4 h.recipeGen ++ leBytes 4 h.triggerGen ++ leBytes 2 h.slots ++ zeros 2 ++ leBytes 4 h.record
    ++ leBytes 8 h.reserved ++ leBytes 8 h.offset ++ zeros 288

/-- What the trailer of an object states before its hashes and signature (R244). -/
structure ObjectTrailer where
  sequence : Nat
  kind     : Nat
  flags    : Nat
  reason   : Nat
  sources  : Nat
  last     : Nat
  count    : Nat
  gaps     : Nat
  payload  : Nat
  deriving Inhabited

/-- Round up to a multiple. -/
def roundTo (m n : Nat) : Nat := (n + m - 1) / m * m

/-- Cut a payload into chunks (R243). -/
def chunksOf : Nat → List Byte → List (List Byte)
  | 0, _ => []
  | fuel + 1, bs => if bs.isEmpty then [] else bs.take 1048576 :: chunksOf fuel (bs.drop 1048576)

/-- The hash chain from H[0] (R243). -/
def chainHash (h0 : List Byte) (chunks : List (List Byte)) : List Byte :=
  chunks.foldl (fun h c => bytes384 (sha384 (h ++ c))) h0

/-- An object: header, slot table, payload and signed trailer with 00h between the parts (R239, R243 to R245); unsigned
when it has no key. -/
def objectBytes (h : ObjectHeader) (table payload : List Byte) (t : ObjectTrailer) (sealRtc sealFrame : Nat)
    (key : Option (BitVec 384)) : List Byte :=
  let head := padTo h.headerLength (h.bytes ++ table)
  let chunks := chunksOf (payload.length / 1048576 + 1) payload
  let h0 := bytes384 (sha384 head)
  let body := ascii "TABIUMT2" ++ leBytes 8 t.sequence ++ leBytes 2 t.kind ++ leBytes 1 t.flags ++ leBytes 1 t.reason
    ++ leBytes 1 t.sources ++ zeros 3 ++ leBytes 8 t.last ++ leBytes 4 t.count ++ leBytes 4 t.gaps ++ leBytes 8 t.payload
    ++ leBytes 4 chunks.length ++ zeros 4 ++ h0 ++ chainHash h0 chunks ++ leBytes 8 sealRtc ++ leBytes 8 sealFrame ++ zeros 248
  let sig := match key with | some k => ecdsaSign k body | none => zeros 96
  padTo (roundTo 4096 (h.headerLength + payload.length)) (head ++ payload) ++ body ++ sig ++ zeros 3584

/-- The length of a frame record (R242). -/
def frameRecordLength (slots : Nat) : Nat := 16 + 8 * ((slots + 63) / 64) + 24 * slots

/-- One frame record (R242): a gap frame has validity 0 and 00h data. -/
def frameRecord (slots number : Nat) (f : Option RingFrame) : List Byte :=
  match f with
  | some f =>
    leBytes 8 number ++ leBytes 2 (packBits [f.gap, f.untraceable]) ++ zeros 6
      ++ (if f.gap then zeros (frameRecordLength slots - 16)
          else leBytes (8 * ((slots + 63) / 64)) (packBits f.valid) ++ f.data.flatMap (fun d => beBytes 24 d.toNat))
  | none => leBytes 8 number ++ leBytes 2 1 ++ zeros 6 ++ zeros (frameRecordLength slots - 16)

/-- The frame numbers of a capture's window. -/
def Capture.numbers (c : Capture) : List Nat := (List.range (c.last + 1 - c.first)).map (fun i => c.first + i)

/-- A frame of the window, as frozen. -/
def Capture.frame? (c : Capture) (n : Nat) : Option RingFrame := c.frames.find? (fun f => f.number.toNat == n)

/-- HEADER_LENGTH of a capture (R239). -/
def Capture.headerLength (c : Capture) : Nat := roundTo 4096 (512 + 4 * c.table.length)

/-- PAYLOAD_LENGTH and the stored length of a capture (R239, R244). -/
def Capture.payloadLength (c : Capture) : Nat := (c.last + 1 - c.first) * frameRecordLength c.table.length
def Capture.objectLength (c : Capture) : Nat := roundTo 4096 (c.headerLength + c.payloadLength) + 4096

/-- The slot table (R241). -/
def Capture.tableBytes (c : Capture) : List Byte :=
  c.table.flatMap (fun x => leBytes 4 (x.2.2 * 16777216 + x.2.1.val * 65536 + x.1.val))

/-- SOURCE and SOURCE_DETAIL of a trigger (R240). -/
def TriggerSource.code : TriggerSource → Nat
  | .spark _ => 1 | .pin _ => 2 | .host _ => 3
def TriggerSource.detail : TriggerSource → List Byte
  | .spark x => x.bytes
  | .pin i => [BitVec.ofNat 8 i.val]
  | .host c => leBytes 8 c.token.toNat

/-- SHORT_PRE of a capture (R228). -/
def Capture.shortPre (c : Capture) : Bool := decide (c.preActual < c.entry.pre)

/-- The header of a capture or of its failure record (R240, R247). -/
def Capture.objectHeader (kind reserved : Nat) (capkey : List Byte) (c : Capture) : ObjectHeader :=
  { kind := kind, headerLength := c.headerLength, sequence := c.sequence, capkeyId := capkey
    trigger := c.trigger.frame.toNat, first := c.first, pre := c.entry.pre, post := c.entry.post, preActual := c.preActual
    channel := c.channel.val, source := c.trigger.source.code, ns := c.entry.namespace_.val
    flags := packBits [c.shortPre, c.untraceable, c.entry.pinObjects]
    timing := c.timing.toNat, userTag := c.entry.userTag.toNat, detail := c.trigger.source.detail, rtc := c.rtc
    mapGen := c.mapGeneration.toNat, recipeGen := c.recipeGeneration.toNat, triggerGen := c.triggerGeneration.toNat
    slots := c.table.length, record := frameRecordLength c.table.length, reserved := reserved, offset := c.offset }

/-- FLAGS of an OBJECT_LIST entry but for PINNED (R390), from bit 1. -/
def listFlags (shortPre shortPost gaps unsigned_ : Bool) : Nat := 2 * packBits [shortPre, shortPost, gaps, unsigned_]

/-- The gap frames of a capture's window. -/
def Capture.gapCount (c : Capture) : Nat :=
  (c.numbers.filter (fun n => match c.frame? n with | some f => f.gap | none => true)).length

/-- The object of a capture as its trailer is made at this moment, with the capture key (R236, R239 to R245). -/
def State.sealedObject (s : State) (c : Capture) : StoredObject :=
  let payload := c.numbers.flatMap (fun n => frameRecord c.table.length n (c.frame? n))
  let untraceable := c.frames.any (fun f => f.untraceable)
  let gaps := c.gapCount
  let t : ObjectTrailer :=
    { sequence := c.sequence, kind := 1, flags := packBits [c.shortPost, 0 < gaps, false, untraceable], reason := 0
      sources := c.trigger.sources.toNat, last := c.last, count := c.last + 1 - c.first, gaps := gaps, payload := payload.length }
  { sequence := c.sequence, kind := 1, channel := c.channel.val, flags := listFlags c.shortPre c.shortPost (0 < gaps) false
    reason := 0, offset := c.offset, length := c.objectLength, trigger := c.trigger.frame, sealRtc := s.rtcNow
    pinned := c.pinned, inLog := true, inArea := false
    content := objectBytes (c.objectHeader 1 c.length s.capkeyId) c.tableBytes payload t s.rtcNow s.clock.frame.toNat
      (some s.captureScalar) }

/-- The failure record of a capture as its trailer is made at this moment: signed unless the capture key is unavailable, and
the reason is then KEY (R18, R245, R247; log 37). -/
def State.failureRecord (s : State) (c : Capture) (reason : Nat) : StoredObject :=
  let ready := s.captureKeyReady && reason != 3
  let reason := if ready then reason else 3
  let t : ObjectTrailer :=
    { sequence := c.sequence, kind := 2, flags := packBits [c.shortPost, false, !ready, false], reason := reason
      sources := c.trigger.sources.toNat, last := c.last, count := 0, gaps := 0, payload := 0 }
  { sequence := c.sequence, kind := 2, channel := c.channel.val, flags := listFlags c.shortPre c.shortPost false (!ready)
    reason := reason, offset := c.offset, length := c.length, trigger := c.trigger.frame, sealRtc := s.rtcNow, pinned := c.pinned
    inLog := c.inLog, inArea := false
    content := objectBytes (c.objectHeader 2 c.length s.capkeyId) c.tableBytes [] t s.rtcNow s.clock.frame.toNat
      (if ready then some s.captureScalar else none) }

/-- The key object as its trailer is made at this moment (R246). -/
def State.keyObject (s : State) (k : KeyWrite) : StoredObject :=
  let h : ObjectHeader :=
    { (default : ObjectHeader) with
      kind := 3, headerLength := 4096, sequence := k.sequence, capkeyId := k.id, ns := k.ns.val, rtc := s.rtcNow
      reserved := k.length, offset := k.offset }
  let t : ObjectTrailer := { (default : ObjectTrailer) with sequence := k.sequence, kind := 3, payload := k.chain.length }
  { sequence := k.sequence, kind := 3, channel := 0, flags := 0, reason := 0, offset := k.offset, length := k.length, trigger := 0
    sealRtc := s.rtcNow, pinned := false, inLog := true, inArea := false
    content := objectBytes h [] k.chain t s.rtcNow s.clock.frame.toNat (some s.captureScalar) }

/-- Place a failure record in the failure area of a namespace: when 1,024 are held, the oldest unpinned one is overwritten
and counted, with an event (R233, R247). -/
def State.areaRecord (n : Fin 32) (o : StoredObject) (s : State) : State :=
  let x := s.cap.namespaces[n]
  let held := x.objects.filter (fun p => p.inArea)
  if held.length < 1024 then s.setNs n (fun x => { x with objects := x.objects ++ [{ o with inArea := true }] })
  else
    match held.find? (fun p => !p.pinned) with
    | none => if o.inLog then s.setNs n (fun x => { x with objects := x.objects ++ [o] }) else s
    | some old =>
      let objects := x.objects.filterMap (fun p =>
        if p.sequence != old.sequence then some p else if p.inLog then some { p with inArea := false } else none)
      let s := s.setNs n (fun x =>
        { x with objects := objects ++ [{ o with inArea := true }], overwritten := min (x.overwritten + 1) 0xFFFF })
      s.raise 218 2 .loss n.val 1 (old.sequence % 4294967296)

/-- Put a capture, or a key object on its way, back. -/
def State.setCapture (c : Capture) (s : State) : State :=
  s.setCap (fun x => { x with captures := x.captures.map (fun y => if y.sequence == c.sequence then c else y) })
def State.setKeyWrite (k : KeyWrite) (s : State) : State :=
  s.setCap (fun x => { x with keyWrites := x.keyWrites.map (fun y => if y.sequence == k.sequence then k else y) })

/-- The commands of a purpose end without an effect. -/
def State.dropTask (t : NvmeTask) (s : State) : State :=
  s.setCap (fun x => { x with commands := x.commands.filter (fun b => b.task != t), queued := x.queued.filter (fun b => b.task != t) })

/-- The step that follows in the order of R236. -/
def SealStep.next : SealStep → SealStep
  | .window => .writing | .writing => .flushOne | .flushOne => .trailer | .trailer => .flushTwo | .flushTwo => .flushTwo

/-- The drive commands of a step of R236 for an object at `lo` to `hi` of the log, its trailer in the last 4,096 bytes, and for
its copy in the store area. -/
def State.stepOps (n : Fin 32) (step : SealStep) (lo hi : Nat) (inLog inArea : Bool) (s : State) :
    List (Fin 16 × NvmeOp × List NvmeRange) :=
  let log (xs : List (Fin 16 × NvmeOp × List NvmeRange)) := if inLog then xs else []
  let area (xs : List (Fin 16 × NvmeOp × List NvmeRange)) := if inArea then xs else []
  match step with
  | .window => []
  | .writing => log (s.rangeWrites n lo (hi - 4096)) ++ area (s.areaWrite ((hi - lo) / 4096 - 1) n)
  | .flushOne => if inArea then s.areaFlush n else log (s.rangeFlushes n lo (hi - 4096))
  | .trailer => log (s.rangeWrites n (hi - 4096) hi) ++ area (s.areaWrite 1 n)
  | .flushTwo => if inArea then s.areaFlush n else log (s.rangeFlushes n lo hi)

/-- Where the object of a capture ends in the log: a failure record has its own length. -/
def Capture.endOffset (c : Capture) : Nat := c.offset + (if c.failing.isSome then c.length else c.objectLength)

/-- A capture enters the next step of R236, which begins with its commands; the trailer is made as its write is issued. -/
def State.enterStep (c : Capture) (s : State) : State :=
  let step := c.step.next
  let built : Option StoredObject :=
    if step = .trailer then
      some (match c.failing with | some r => s.failureRecord c r | none => s.sealedObject c)
    else c.built
  (s.setCapture { c with step := step, built := built }).issueNvme (.object c.sequence)
    (s.stepOps c.entry.namespace_ step c.offset c.endOffset c.inLog c.failing.isSome)

/-- A key object enters the next step of R236. -/
def State.enterKeyStep (k : KeyWrite) (s : State) : State :=
  let step := k.step.next
  let built := if step = .trailer then some (s.keyObject k) else k.built
  (s.setKeyWrite { k with step := step, built := built }).issueNvme (.object k.sequence)
    (s.stepOps k.ns step k.offset (k.offset + k.length) true false)

/-- A capture begins to end in a failure record (R231, R247): its frames are released, and the record goes to the failure area
and, where there is space, to the log. A reserved range keeps the record at its start; what is beyond returns (R234). With no
member that can be written nothing is written. -/
def State.beginFailure (c : Capture) (reason : Nat) (s : State) : State :=
  let n := c.entry.namespace_
  let len := c.headerLength + 4096
  let s := s.dropTask (.object c.sequence)
  if (s.writable n).isEmpty then
    let s := s.setCap (fun x => { x with captures := x.captures.filter (fun y => y.sequence != c.sequence) })
    let s := s.raise 201 3 .occurrence (c.sequence % 4294967296) reason 0
    c.aborts.foldl (fun s r => s.complete r .ok 0 []) s
  else
    let atHead := c.inLog && s.cap.namespaces[n].head == c.offset + c.length
    let s := if atHead then s.setNs n (fun x => { x with head := c.offset + len }) else s
    let o : Option Nat × State :=
      if c.inLog then (if s.cap.namespaces[n].mode == .failed then none else some c.offset, s) else s.reserve n len
    o.2.enterStep { c with failing := some reason, offset := o.1.getD c.offset, inLog := o.1.isSome, length := len, frames := [], step := .window }

/-- The second flush has completed on every member: the object is stored (R236), and a truncated one gives back what it did not
use (R234); or the failure record is sealed, and the capture has ended (R247). -/
def State.storeCapture (c : Capture) (o : StoredObject) (s : State) : State :=
  let n := c.entry.namespace_
  let now := s.clock.tick
  let o := { o with pinned := c.pinned }
  let s := s.setCap (fun x =>
    { x with captures := x.captures.filter (fun y => y.sequence != c.sequence), bytesStored := x.bytesStored + o.length })
  match c.failing with
  | none =>
    let s := s.setNs n (fun x =>
      { x with
        objects := x.objects ++ [o], sinceCheckpoint := x.sinceCheckpoint + 1, lastObject := now
        head := if x.head == c.offset + c.length then c.offset + o.length else x.head })
    s.raise 201 2 .occurrence (c.sequence % 4294967296) 0 0
  | some _ =>
    let s := (s.areaRecord n o).setCap (fun x => { x with failureRecords := x.failureRecords + 1 })
    let s := s.setNs n (fun x => { x with sinceCheckpoint := x.sinceCheckpoint + 1, lastObject := now })
    let s := s.raise 201 3 .occurrence (c.sequence % 4294967296) o.reason 0
    c.aborts.foldl (fun s r => s.complete r .ok 0 []) s

/-- The second flush of a key object has completed (R246). -/
def State.storeKey (k : KeyWrite) (o : StoredObject) (s : State) : State :=
  let now := s.clock.tick
  let s := s.setNs k.ns (fun x =>
    { x with objects := x.objects ++ [o], keyObject := some k.id, sinceCheckpoint := x.sinceCheckpoint + 1, lastObject := now })
  let s := s.setCap (fun c =>
    { c with keyWrites := c.keyWrites.filter (fun y => y.sequence != k.sequence), bytesStored := c.bytesStored + o.length })
  s.raise 218 3 .occurrence k.ns.val (k.sequence % 4294967296) 0

/-- An object goes through the steps of R236 for as long as no command of its present step is outstanding. Without the capture
key a capture ends with reason KEY before its trailer (R18). -/
def State.sealOn : Nat → Nat → State → State
  | 0, _, s => s
  | fuel + 1, sequence, s =>
    if s.outstanding (.object sequence) then s
    else match s.cap.captures.find? (fun c => c.sequence == sequence), s.cap.keyWrites.find? (fun k => k.sequence == sequence) with
    | some c, _ =>
      match c.step, c.built with
      | .window, _ => s
      | .flushTwo, some o => s.storeCapture c o
      | .flushOne, _ =>
        if c.failing.isNone && !s.captureKeyReady then (s.beginFailure c 3).sealOn fuel sequence
        else (s.enterStep c).sealOn fuel sequence
      | _, _ => (s.enterStep c).sealOn fuel sequence
    | none, some k =>
      match k.step, k.built with
      | .flushTwo, some o => s.storeKey k o
      | _, _ => (s.enterKeyStep k).sealOn fuel sequence
    | none, none => s

/-- A capture ends in a failure record (R231, R247), unless it already does. -/
def State.failCapture (c : Capture) (reason : Nat) (s : State) : State :=
  if c.failing.isSome then s else (s.beginFailure c reason).sealOn 12 c.sequence

/-- The capture-key certificate chain: capture, identity, then vendor intermediate (R246, R447, R449). -/
def State.captureChain (s : State) : List Byte := chainOf 3 (derivedCertificate 5 "KLXCAP" s ++ Config.identityChain)

/-- Begin to write the key object of the present capture key into a namespace that lacks it (R246). It takes a sequence
number. -/
def State.writeKeyObject (n : Fin 32) (s : State) : State :=
  let x := s.cap.namespaces[n]
  if x.mode == .undeclared || x.mode == .failed || !s.captureKeyReady || x.keyObject == some s.capkeyId
      || s.cap.keyWrites.any (fun k => k.ns == n && k.id == s.capkeyId) then s
  else
    let chain := s.captureChain
    let len := roundTo 4096 (4096 + chain.length) + 4096
    let o := s.reserve n len
    match o.1 with
    | none => o.2
    | some at_ =>
      let s := o.2
      let k : KeyWrite :=
        { ns := n, sequence := s.cap.nextSequence, offset := at_, length := len, id := s.capkeyId, chain := chain, step := .window
          built := none }
      let s := s.setCap (fun c => { c with nextSequence := c.nextSequence + 1, keyWrites := c.keyWrites ++ [k] })
      (s.enterKeyStep k).sealOn 12 k.sequence

/-- The key objects of a changed capture key, one in each namespace (R246). -/
def State.writeKeyObjects (s : State) : State := (List.finRange 32).foldl (fun s n => s.writeKeyObject n) s

/-- The bytes that an OBJECT_READ asks for, unchanged (R236, R391). -/
def State.readBytes (s : State) (r : Request) : List Byte :=
  match (List.finRange 32).findSome? (fun n => s.cap.namespaces[n].objects.find? (fun o => o.sequence == r.u 8 8)) with
  | some o => padTo (r.u 24 4) ((o.content.drop (r.u 16 8)).take (r.u 24 4))
  | none => zeros (r.u 24 4)

/-- A purpose has no command outstanding any more. -/
def State.taskDone (t : NvmeTask) (s : State) : State :=
  if s.outstanding t then s
  else
    let durable (c : CommandRef) (s : State) : State :=
      (s.setCap (fun x => { x with undo := x.undo.filter (fun u => u.1 != c) })).commit c
    match t with
    | .object sequence => s.sealOn 12 sequence
    | .declare n c => durable c (s.complete c .ok 0 (leBytes 8 s.cap.namespaces[n].capacity))
    | .delete c => durable c s
    | .storeArea c => durable c s
    | .read r =>
      let results := leBytes 4 (r.u 24 4) ++ zeros 4
      let bs := s.readBytes r
      s.setHost (fun h => { h with waiting := h.waiting ++ [WaitingCommand.mk 0x080F r (.output bs results) true false] })
    | .checkpoint n i =>
      let slot : Fin 2 := ⟨i.number % 2, by omega⟩
      s.setNs n (fun x => if x.mode == .undeclared then x else { x with checkpoints := x.checkpoints.set slot (some i) })
    | .deallocate => s

/-- The root port of a drive in the declaration in force. -/
def State.rootPort (s : State) (d : Fin 16) : Nat :=
  ((s.cap.drives.entries.find? (fun e => e.drive == d)).map (fun e => e.rootPort.val)).getD 0

/-- NVME_COMMAND_COMPLETE: an outstanding command has completed, and its queue entry is free for what waits (R232, R236). -/
def State.nvmeComplete (cid : Nat) (s : State) : State :=
  match s.cap.commands.find? (fun b => b.cid == cid) with
  | none => s
  | some b =>
    let s := s.tally 11 (s.rootPort b.drive) 2 1
    (s.setCap (fun c => { c with commands := c.commands.filter (fun x => x.cid != cid) }.pumpNvme)).taskDone b.task

def execNvmeCommandComplete (cid : Nat) (s : State) : Host.Outcome State Fault Refusal := .next (s.settled (s.nvmeComplete cid))

/-- A namespace loses its member on a failed drive (R237): a mirror goes on with the survivor of the pair, a striped one,
or a pair without a survivor, fails and its open captures end in failure records. -/
def State.loseMember (d : Fin 16) (n : Fin 32) (s : State) : State :=
  let x := s.cap.namespaces[n]
  if x.mode == .undeclared || x.mode == .failed then s
  else
    match x.members.findIdx? (fun m => m.1 == d) with
    | none => s
    | some i =>
      let failed := if x.failed.contains i then x.failed else x.failed ++ [i]
      let s := s.setNs n (fun x => { x with failed := failed })
      if x.mirror && !failed.contains (if i % 2 = 0 then i + 1 else i - 1) then s.setNsMode n .degraded
      else
        let s := s.setNsMode n .failed
        let keys := (s.cap.keyWrites.filter (fun k => k.ns == n)).map (fun k => k.sequence)
        let s := keys.foldl (fun s k => s.dropTask (.object k)) s
        let s := s.setCap (fun c => { c with keyWrites := c.keyWrites.filter (fun k => k.ns != n) })
        (s.cap.captures.filter (fun c => c.entry.namespace_ == n)).foldl (fun s c => s.failCapture c 2) s

/-- DRIVE_WRITE_ERROR: the drive is marked failed, its commands end, and each namespace goes on or fails (R237). -/
def State.driveError (d : Fin 16) (s : State) : State :=
  if s.cap.driveFailed[d] || !s.cap.drives.entries.any (fun e => e.drive == d) then s
  else
    let s := s.setCap (fun c =>
      { c with driveFailed := c.driveFailed.set d true
               failedDrive := c.failedDrive.set d (c.drives.entries.find? (fun e => e.drive == d)) })
    let s := s.raise (202 + d.val) 1 .fault d.val 0 0
    let s := (List.finRange 32).foldl (fun s n => s.loseMember d n) s
    let tasks := (s.cap.commands.filter (fun b => b.drive == d)).map (fun b => b.task)
      ++ (s.cap.queued.filter (fun b => b.drive == d)).map (fun b => b.task)
    let s := s.setCap (fun c =>
      { c with commands := c.commands.filter (fun b => b.drive != d), queued := c.queued.filter (fun b => b.drive != d) })
    tasks.eraseDups.foldl (fun s t => s.taskDone t) s

def execDriveWriteError (d : Fin 16) (s : State) : Host.Outcome State Fault Refusal := .next (s.settled (s.driveError d))

/-- A member that cannot be rebuilt: its drive has failed, is not as declared, or is not in the set in force (R232, R237). -/
def State.memberLost (s : State) (n : Fin 32) (i : Nat) : Bool :=
  match s.cap.namespaces[n].members[i]? with
  | some m => s.cap.driveFailed[m.1] || s.cap.driveBad[m.1] || !s.cap.drives.entries.any (fun e => e.drive == m.1)
  | none => true

/-- MIRROR_REBUILD_DONE: the mirror stands on every member that a drive holds again (R237). -/
def State.rebuilt (n : Fin 32) (s : State) : State :=
  if s.cap.namespaces[n].mode == .rebuilding then
    let left := s.cap.namespaces[n].failed.filter (s.memberLost n)
    (s.setNs n (fun x => { x with failed := left })).setNsMode n (if left.isEmpty then .ok else .degraded)
  else s

def execMirrorRebuildDone (n : Fin 32) (s : State) : Host.Outcome State Fault Refusal := .next (s.settled (s.rebuilt n))

/-- The newer valid checkpoint of a namespace (R238). -/
def StoreNamespace.newest (x : StoreNamespace) : Option StoreIndex :=
  match x.checkpoints[0], x.checkpoints[1] with
  | some a, some b => if a.number < b.number then some b else some a
  | some a, none => some a
  | none, b => b

/-- INDEX_CHECKPOINT: after 64 objects, or 10 s after the last one; it takes the place of the older checkpoint in every
member's store area (R233, R238). -/
def State.checkpoint (n : Fin 32) (s : State) : State :=
  let x := s.cap.namespaces[n]
  if 64 ≤ x.sinceCheckpoint || (0 < x.sinceCheckpoint && decide (x.lastObject + 20000000 ≤ s.clock.tick)) then
    let i : StoreIndex :=
      { number := (x.newest.map (·.number)).getD 0 + 1, head := x.head, known := x.objects.map (fun o => o.sequence) }
    let s := s.setNs n (fun x => { x with sinceCheckpoint := 0 })
    (s.issueNvme (.checkpoint n i) (s.areaWrite 1 n ++ s.areaFlush n)).taskDone (.checkpoint n i)
  else s

/-- What full service finds in the log of a namespace: from the head of the newer checkpoint on, the object or the unsealed
header with the newest sequence ends where the log goes on (R238). -/
def StoreNamespace.scannedHead (x : StoreNamespace) (unsealed : List (Nat × Nat × Nat)) : Nat :=
  let known := (x.newest.map (·.known)).getD []
  let found := ((x.objects.filter (fun o => o.inLog)).map (fun o => (o.sequence, o.offset, o.length)) ++ unsealed).filter
    (fun o => !known.contains o.1)
  let newest := found.foldl (fun (a : Nat × Nat × Nat) b => if a.1 ≤ b.1 then b else a) (0, 0, 0)
  if found.isEmpty then (x.newest.map (·.head)).getD 0 else newest.2.1 + newest.2.2

def execIndexCheckpoint (n : Fin 32) (s : State) : Host.Outcome State Fault Refusal := .next (s.settled (s.checkpoint n))

/-- PD51 has returned to ON: every drive is identified again against its declaration; one that is not as declared is written no
more, and its namespaces run as their policies allow (R30, R559). -/
def State.identifyDrives (s : State) : State :=
  let n := s.fresh
  let changed (d : Fin 16) : Bool := s.cap.drives.entries.any (fun e => e.drive == d) && Config.driveChanged n d.val
  let s := { s with fresh := n + 1 }
  let s := s.setCap (fun c => { c with driveBad := Vector.ofFn changed })
  ((List.finRange 16).filter changed).foldl (fun (s : State) (d : Fin 16) =>
    (List.finRange 32).foldl (fun (s : State) (n : Fin 32) => s.loseMember d n) (s.raise (202 + d.val) 2 .occurrence d.val 0 0)) s

/-- DOMAIN_TRANSITION_DONE (R556 to R561). -/
def State.transitionDone (d : Fin 56) (s : State) : State :=
  let old := s.pwr.modes[d]
  let s := s.domainDone d
  if d.val = 51 && old != .on && s.pwr.modes[d] == .on then s.identifyDrives else s

def execDomainTransitionDone (d : Fin 56) (s : State) : Host.Outcome State Fault Refusal := .next (s.settledFabric (s.transitionDone d))

end Sys2Proof.Machine
end

