-- ==== Sys2Proof/Machine/Gpio.lean ====
section
/-! DEFINITION. The GPIO pins: the function that each carries, the keeper, the LEDs, and the windows of a GPIO input
(R575 to R578). -/
namespace Sys2Proof.Machine

/-- Change one pin. -/
def State.setPin (i : Fin 32) (f : GpioPin → GpioPin) (s : State) : State := { s with gpio := s.gpio.set i (f s.gpio[i]) }

/-- An enabled channel of the active bank uses trigger input `i` (R575). -/
def usesInput (c : ChannelEntry) (i : Nat) : Bool := (c.pin && c.pinMask.getLsbD i) || (c.gate && c.gateInput.val == i)

/-- The function that the table of R575 gives pin `i` in the present state. -/
def State.pinFunction (s : State) (i : Fin 32) : PinFunction :=
  let chans := s.cap.active.channels
  if i.val < 8 then (if chans.any (fun c => usesInput c.2 i.val) then .trigIn else .gpio)
  else if i.val < 16 then
    (if chans.any (fun c => match c.2.trigOut with | some o => o.val == i.val - 8 | none => false) then .trigOut else .gpio)
  else if i.val < 18 then (if s.sec.debugOpen then .uart else .gpio)
  else if s.host.service != 0 then .led else .gpio

/-- GUARANTEE_LAPSED (R307). -/
def State.lapsed (s : State) : Bool := s.host.lapseConditions || s.host.lapseTiming || s.host.lapseFaults

/-- Whether the condition of LED `k` holds (R575). -/
def State.ledLit (s : State) (k : Nat) : Bool :=
  match k with
  | 0 => s.host.service == 2
  | 1 => s.host.service == 1
  | 2 => s.lapsed
  | 3 => s.dpllCode == 2
  | 4 => s.casc.mode != .standalone && s.casc.role == .master
  | 5 => !s.cap.captures.isEmpty
  | _ => (List.finRange 512).any (fun p =>
      p.val / 64 == k - 6 && (s.port p).mode != .down && ((s.port p).defects &&& 0x3F) != 0)

/-- The level that the device gives a pad, or that its keeper holds; for an open-drain LED, high means released (R575, R577). -/
def State.padLevel (s : State) (i : Fin 32) : Bool :=
  match s.gpio[i].function with
  | .led => !s.ledLit (i.val - 18)
  | _ => s.gpio[i].level

/-- The codes of a pin's function (R580). -/
def PinFunction.code : PinFunction → Nat
  | .gpio => 0 | .trigIn => 1 | .trigOut => 2 | .uart => 3 | .led => 4

/-- A pin takes its function, with an event; the keeper holds the last level, a new TRIG_OUT drives low (R576, R577, R580). -/
def State.updatePin (i : Fin 32) (s : State) : State :=
  let new := s.pinFunction i
  if s.gpio[i].function = new then s
  else
    let held := s.padLevel i
    let old := s.gpio[i].function
    (s.setPin i (fun _ => { function := new, level := if new = .trigOut then false else held })).raiseState
      old.code new.code 480 1 i.val

/-- Every pin takes the function that the table gives after a change (R576). -/
def State.updatePins (s : State) : State := (List.finRange 32).foldl (fun s i => s.updatePin i) s

/-- TRIG_OUT pulses last one tick period (R228). -/
def State.endPulses (s : State) : State :=
  { s with gpio := s.gpio.map (fun p => if p.function = .trigOut then { p with level := false } else p) }

/-- The level that the trigger unit sees on input `i`, from the next tick on (R213, R214). -/
def State.setInput (i : Fin 8) (level : Bool) (s : State) : State :=
  let now := s.clock.frame
  s.setCap (fun c =>
    let new := if level then setBit c.inputs i.val else clearBit c.inputs i.val
    if new = c.inputs then c
    else { c with inputs := new, inputPast := (now + 1, new) :: c.inputPast.filter (fun x => x.1 ≤ now) })

/-- The level of an input at the tick that began frame `f` (R214). -/
def State.inputAt (s : State) (i : Fin 8) (f : BitVec 64) : Bool :=
  match s.cap.inputPast.find? (fun x => x.1 ≤ f) with
  | some x => x.2.getLsbD i.val
  | none => false

/-- The UART's receiver, and every input, is an input pin; LEDs and outputs are not. -/
def PinFunction.sees (f : PinFunction) (i : Nat) : Bool :=
  match f with
  | .gpio | .trigIn => true
  | .uart => i == 17
  | _ => false

/-- GPIO_WINDOW_END: the level at the end of the window, and one record when a GPIO input had edges (R578, R580). -/
def State.windowEnd (i : Fin 32) (edges : Nat) (level : Bool) (s : State) : State :=
  let f := s.gpio[i].function
  if !f.sees i.val then s
  else
    let s := s.setPin i (fun p => { p with level := level })
    let s := if h : i.val < 8 then s.setInput ⟨i.val, h⟩ level else s
    s.raiseIf (f = .gpio && 0 < edges) (464 + i.val / 2) (1 + i.val % 2) .occurrence i.val (cap32 edges) (bit level)

/-- GPIO_WINDOW_END (R578). -/
def execGpioWindowEnd (pin : Fin 32) (edges : Nat) (level : Bool) (s : State) : Host.Outcome State Fault Refusal :=
  .next (s.settled (s.windowEnd pin edges level))

end Sys2Proof.Machine
end

