-- ==== Sys2Proof/Machine/TriggerBanks.lean ====
section
/-! DEFINITION. Trigger banks in their byte form, and the checks of R220 (R217 to R222, R380). -/
namespace Sys2Proof.Machine

/-- The length of a trigger bank (R217). -/
def triggerBankBytes : Nat := 49184

/-- The empty bank (R221). -/
def TriggerBank.empty : TriggerBank := { ringGib := 1, channels := [], set := [] }

/-- The fields of a channel entry with their sizes (R218). -/
def channelFields : List (Nat × Nat) :=
  [(0, 1), (1, 1), (2, 1), (3, 1), (4, 1), (5, 1), (6, 2), (8, 2), (10, 2), (12, 2), (14, 1), (15, 1), (16, 4), (20, 4),
   (24, 4), (28, 2), (30, 2), (32, 1), (33, 1), (34, 1), (35, 1), (36, 4), (40, 24), (64, 64)]

/-- The ports of a mask. -/
def maskCount (m : BitVec 512) : Nat := ((List.range 512).filter (fun i => m.getLsbD i)).length

/-- PORT_MASK of a channel entry. -/
def readMask (bs : List Byte) (o : Nat) : BitVec 512 := BitVec.ofNat 512 (field bs (o + 64) 64)

/-- The first field of a channel entry that is out of range, or reserved and not 0 (R218, R220). -/
def channelRange (bs : List Byte) (o : Nat) : Option Nat :=
  if byteAt bs o = 0 then firstNonzero bs o channelFields
  else
    let terms := byteAt bs (o + 1)
    let key := byteAt bs (o + 5)
    let k := field bs (o + 6) 2
    let ports := maskCount (readMask bs o)
    let settle := field bs (o + 12) 2
    let count := field bs (o + 30) 2
    firstBad [
      (byteAt bs o != 1, o), (15 < terms, o + 1), (terms % 2 == 1 && byteAt bs (o + 4) == 0, o + 4), (2 < key, o + 5),
      (k == 0 || 512 < k, o + 6),
      (field bs (o + 10) 2 == 0, o + 10), (settle < 4, o + 12), (15 < byteAt bs (o + 15), o + 15),
      (16777215 < field bs (o + 16) 4, o + 16), (16777215 < field bs (o + 20) 4, o + 20),
      (16777215 < field bs (o + 24) 4, o + 24), (count == 0 || 10240 < count, o + 30), (31 < byteAt bs (o + 32), o + 32),
      (1 < byteAt bs (o + 33), o + 33), (byteAt bs (o + 34) / 8 % 16 != 0, o + 34), (!isZero bs (o + 35) 1, o + 35),
      (!isZero bs (o + 40) 24, o + 40), ((key == 0 && decide (ports < k)) || (key == 1 && decide (2 * ports < k)), o + 64)]

/-- The offset of a capture-set entry. -/
def setEntryOffset (i : Nat) : Nat := 8224 + 4 * i

/-- The first field of a bank that is out of range, or reserved or unused and not 0 (R217 to R220). -/
def bankRange (bs : List Byte) : Option Nat :=
  let s := field bs 8 2
  firstBad [(field bs 0 4 != 1, 0), (10240 < s, 8), (byteAt bs 10 == 0 || 44 < byteAt bs 10, 10), (!isZero bs 11 21, 11)]
    <|> (List.range 64).findSome? (fun t => channelRange bs (32 + 128 * t))
    <|> (List.range 10240).findSome? (fun i =>
      let v := field bs (setEntryOffset i) 4
      let bad := if i < s then v / 2 ^ 31 != 1 || v / 2 ^ 24 % 128 != 0 || v / 2 ^ 9 % 128 != 0 else v != 0
      if bad then some (setEntryOffset i) else none)

/-- A channel entry of a bank that passed its range checks (R218). -/
def readChannel (bs : List Byte) (o : Nat) : ChannelEntry :=
  let terms := BitVec.ofNat 8 (byteAt bs (o + 1))
  let out := byteAt bs (o + 34)
  { spark := terms.getLsbD 0, pin := terms.getLsbD 1, host := terms.getLsbD 2, gate := terms.getLsbD 3
    sparkTag := BitVec.ofNat 8 (byteAt bs (o + 2)), tagMask := BitVec.ofNat 8 (byteAt bs (o + 3))
    stageMask := BitVec.ofNat 8 (byteAt bs (o + 4)), key := ⟨byteAt bs (o + 5) % 3, by omega⟩, k := field bs (o + 6) 2
    minMargin := sfield bs (o + 8) 2, window := field bs (o + 10) 2, settle := field bs (o + 12) 2
    pinMask := BitVec.ofNat 8 (byteAt bs (o + 14)), gateInput := ⟨byteAt bs (o + 15) % 8, by omega⟩
    gateHigh := byteAt bs (o + 15) / 8 % 2 == 1, pre := field bs (o + 16) 4, post := field bs (o + 20) 4
    rearm := field bs (o + 24) 4, setFirst := field bs (o + 28) 2, setCount := field bs (o + 30) 2
    namespace_ := ⟨byteAt bs (o + 32) % 32, by omega⟩, pinObjects := byteAt bs (o + 33) % 2 == 1
    trigOut := if 128 ≤ out then some ⟨out % 8, by omega⟩ else none, trigOutNo := ⟨out % 8, by omega⟩
    userTag := BitVec.ofNat 32 (field bs (o + 36) 4), portMask := readMask bs o }

/-- The bank that the bytes describe (R217). -/
def readTriggerBank (bs : List Byte) : TriggerBank :=
  { ringGib := byteAt bs 10
    channels := (List.finRange 64).filterMap (fun t =>
      if byteAt bs (32 + 128 * t.val) = 1 then some (t, readChannel bs (32 + 128 * t.val)) else none)
    set := (List.range (field bs 8 2)).map (fun i =>
      let v := field bs (setEntryOffset i) 4
      (⟨v % 512, by omega⟩, ⟨v / 65536 % 256, by omega⟩)) }

/-- The 128 bytes of a channel entry (R218). -/
def channelBytes : Option ChannelEntry → List Byte
  | none => zeros 128
  | some c =>
    [1] ++ leBytes 1 (packBits [c.spark, c.pin, c.host, c.gate]) ++ [c.sparkTag, c.tagMask] ++ leBytes 1 c.stageMask.toNat
      ++ leBytes 1 c.key.val ++ leBytes 2 c.k ++ leSigned 2 c.minMargin ++ leBytes 2 c.window ++ leBytes 2 c.settle
      ++ leBytes 1 c.pinMask.toNat ++ leBytes 1 (c.gateInput.val + 8 * bit c.gateHigh) ++ leBytes 4 c.pre
      ++ leBytes 4 c.post ++ leBytes 4 c.rearm ++ leBytes 2 c.setFirst ++ leBytes 2 c.setCount ++ leBytes 1 c.namespace_.val
      ++ leBytes 1 (bit c.pinObjects) ++ leBytes 1 (c.trigOutNo.val + 128 * bit c.trigOut.isSome) ++ zeros 1
      ++ leBytes 4 c.userTag.toNat ++ zeros 24 ++ leBytes 64 c.portMask.toNat

/-- The entry of an enabled channel. -/
def TriggerBank.channel (b : TriggerBank) (t : Fin 64) : Option ChannelEntry :=
  (b.channels.find? (fun x => x.1 == t)).map (·.2)

/-- The bytes of a bank (R217). -/
def TriggerBank.bytes (b : TriggerBank) : List Byte :=
  leBytes 4 1 ++ leBytes 4 triggerBankBytes ++ leBytes 2 b.set.length ++ leBytes 1 b.ringGib ++ zeros 21
    ++ (List.finRange 64).flatMap (fun t => channelBytes (b.channel t))
    ++ padTo 40960 (b.set.flatMap (fun x => leBytes 4 (2 ^ 31 + x.2.val * 65536 + x.1.val)))

/-- RING_RECORD and RING_FRAMES of a bank (R220). -/
def TriggerBank.ringRecord (b : TriggerBank) : Nat :=
  let s := b.set.length
  roundTo 64 (64 + 8 * ((s + 63) / 64) + 24 * s)
def TriggerBank.ringFrames (b : TriggerBank) : Nat := b.ringGib * 2 ^ 30 / b.ringRecord

/-- The HBM left for the ring: 48 GiB less solver scratch, record staging and marked GiB (R18, R204, R220, R540). -/
def State.ringGib (s : State) : Nat := 48 - 2 - 1 - s.cap.hbmMarked

/-- RING_FRAMES of the active bank, in the HBM that is left (R220, R385, R540). -/
def State.ringDepth (s : State) : Nat := min s.cap.active.ringGib s.ringGib * 2 ^ 30 / s.cap.active.ringRecord

/-- The first conflict of a bank with the formats and the namespaces declared when its load started (R220). -/
def bankConflict (l : TriggerLoad) (b : TriggerBank) : Option Nat :=
  let bad (t : Fin 64) (c : ChannelEntry) : Option Nat :=
    firstBad [
      (b.set.length < c.setFirst + c.setCount, 32 + 128 * t.val + 30),
      (!l.declared.contains c.namespace_, 32 + 128 * t.val + 32)]
  let entry (x : (PortNo × Fin 256) × Nat) : Bool :=
    (b.set.take x.2).contains x.1 || l.formats[x.1.1][x.1.2] == 0
  (b.channels.findSome? (fun x => bad x.1 x.2))
    <|> ((b.set.zipIdx.find? entry).map (fun x => setEntryOffset x.2))

/-- The first resource that a bank exceeds (R220). -/
def bankResource (s : State) (b : TriggerBank) : Option Nat :=
  (b.channels.findSome? (fun x =>
    if b.ringFrames < 2 * (x.2.pre + x.2.post + 1) then some (32 + 128 * x.1.val + 20)
    else if b.ringFrames < 2 * (x.2.settle + 3) then some (32 + 128 * x.1.val + 12) else none))
    <|> (if s.ringGib < b.ringGib then some 10 else none)

/-- The checks of R220 in their order. -/
def checkTriggerBank (s : State) (l : TriggerLoad) (bs : List Byte) : Except BankRefusal TriggerBank :=
  if 8 ≤ bs.length ∧ field bs 4 4 ≠ triggerBankBytes then .error ⟨.errLength, detailBuffer 4⟩
  else if bs.length < triggerBankBytes then .error ⟨.errLength, detailList⟩
  else match bankRange bs with
  | some o => .error ⟨.errRange, detailBuffer o⟩
  | none =>
    let b := readTriggerBank bs
    match bankConflict l b with
    | some o => .error ⟨.errConflict, detailBuffer o⟩
    | none =>
      match bankResource s b with
      | some o => .error ⟨.errResource, detailBuffer o⟩
      | none => .ok b

/-- TRIGGER_CHECK_DONE: the checks of a loaded bank end (R220, R380). -/
def State.triggerChecked (s : State) : State :=
  match s.cap.load with
  | some l =>
    match l.data with
    | none => s
    | some bs =>
      match checkTriggerBank s l bs with
      | .ok b =>
        (s.setCap (fun x => { x with load := none, shadow := some b, shadowMode := .ready })).complete l.command .ok 0 []
      | .error f =>
        (s.setCap (fun x => { x with load := none, shadowMode := if x.shadow.isSome then .ready else .empty })).complete
          l.command f.status f.detail []
  | none => s

def execTriggerCheckDone (s : State) : Host.Outcome State Fault Refusal := .next (s.settled s.triggerChecked)

/-- TRIGGER_PERSIST_DONE: the engine-programs region holds the oldest bank that waits, with the count of its swap and the
channels armed now (R221). -/
def State.triggerPersisted (s : State) : State :=
  match s.cap.persistWaits with
  | [] => s
  | w :: rest =>
    let armed := BitVec.ofNat 64 (packBits (s.cap.channels.toList.map (fun x => x.mode != .disarmed)))
    (s.setCap (fun x => { x with persisted := some (w.bank, w.generation, armed), persistWaits := rest })).commit w.command

def execTriggerPersistDone (s : State) : Host.Outcome State Fault Refusal := .next (s.settled s.triggerPersisted)

end Sys2Proof.Machine
end

