-- ==== Sys2Proof/Machine/Triggers.lean ====
section
/-! DEFINITION. The trigger channels, the pre-trigger ring, and the acceptance of captures (R208 to R216, R221 to R231). -/
namespace Sys2Proof.Machine

/-- Change one trigger channel. -/
def State.setTrig (t : Fin 64) (f : TriggerChannel → TriggerChannel) (s : State) : State :=
  s.setCap (fun c => { c with channels := c.channels.set t (f c.channels[t]) })

/-- The state codes of a channel (R384). -/
def TriggerMode.code : TriggerMode → Nat
  | .disarmed => 0 | .armed => 1 | .rearm => 2

/-- Move a channel to a state, with its event (R473). -/
def State.setTrigMode (t : Fin 64) (m : TriggerMode) (s : State) : State :=
  let old := s.cap.channels[t].mode
  (s.setTrig t (fun c => { c with mode := m })).raiseState old.code m.code (136 + t.val) 1 t.val

/-- Count in one of the counters of R384: 0 ACCEPTED, 1 to 3 MISSED by reason, 4 DROPPED, 5 GATED, 6 MERGED, 7 LATE_SPARKS. -/
def State.countTrig (t : Fin 64) (i : Fin 8) (s : State) : State :=
  let s : State := match i.val with
    | 0 => s.tally 4 0 4 1
    | 1 | 2 | 3 => s.tally 4 0 5 1
    | 7 => s.tally 4 0 6 1
    | _ => s
  s.setTrig t (fun c => { c with counters := c.counters.set i (c.counters[i] + 1) })

/-- HOST_TRIGGER completes (R382): 0 ACCEPTED, 1 MERGED, 2 MISSED, 3 DROPPED, 4 GATED. -/
def State.endHostTrigger (c : CommandRef) (frame : BitVec 64) (outcome reason sequence : Nat) (s : State) : State :=
  s.complete c .ok 0
    (leBytes 8 frame.toNat ++ leBytes 1 outcome ++ leBytes 1 reason ++ zeros 6 ++ leBytes 8 sequence)

/-- The host requests of a trigger end: the one that created it with `outcome`, those merged into it as `merged` says. -/
def State.endRequests (x : Trigger) (outcome merged reason sequence : Nat) (s : State) : State :=
  let s := match x.source with
    | .host c => s.endHostTrigger c x.frame outcome reason sequence
    | _ => s
  x.merged.foldl (fun s c => s.endHostTrigger c x.frame merged (if merged = 2 then reason else 0) sequence) s

/-- A trigger is MISSED: counted by reason, with its event (R227). -/
def State.missTrigger (t : Fin 64) (x : Trigger) (reason : Fin 8) (s : State) : State :=
  let s := (s.countTrig t reason).raise (136 + t.val) 2 .refused t.val reason.val (x.frame.toNat % 4294967296)
  s.endRequests x 2 2 reason.val 0

/-- A waiting trigger is dropped (R209, R222, R230). -/
def State.dropWaiting (t : Fin 64) (s : State) : State :=
  match s.cap.channels[t].waiting with
  | none => s
  | some x =>
    let s := (s.setTrig t (fun c => { c with waiting := none })).countTrig t 4
    (s.raise (136 + t.val) 5 .refused t.val 0 (x.frame.toNat % 4294967296)).endRequests x 3 3 0 0

/-- An undecided host trigger is dropped (R222, R382). -/
def State.dropHost (t : Fin 64) (s : State) : State :=
  match s.cap.channels[t].host with
  | none => s
  | some h =>
    let s := (s.setTrig t (fun c => { c with host := none })).countTrig t 4
    (s.raise (136 + t.val) 5 .refused t.val 0 (h.frame.toNat % 4294967296)).endHostTrigger h.command h.frame 3 0 0

/-- A channel is disarmed (R209): what waits or is undecided is dropped. Its history stays (R210). -/
def State.disarm (t : Fin 64) (s : State) : State :=
  if s.cap.channels[t].mode == .disarmed then s
  else
    let s := ((s.dropWaiting t).dropHost t).setTrig t (fun c => { c with rearmEnd := 0 })
    s.setTrigMode t .disarmed

/-- A channel is armed when it is enabled and DISARMED (R209, R381). Frames whose decision fell in DISARMED are not decided any
more (R211; log 39). -/
def State.arm (t : Fin 64) (s : State) : State :=
  match s.cap.active.channel t with
  | some e =>
    if s.cap.channels[t].mode == .disarmed then
      let now := s.clock.frame.toNat
      let past : Option (BitVec 64) := if e.settle + 2 ≤ now then some (BitVec.ofNat 64 (now - e.settle - 2)) else none
      let newer (a : Option (BitVec 64)) : Option (BitVec 64) :=
        match a, past with | some x, some y => some (if x < y then y else x) | x, none => x | none, y => y
      (s.setTrig t (fun c => { c with decided := newer c.decided })).setTrigMode t .armed
    else s
  | none => s

/-- What was in force for a frame. -/
def State.forceAt (s : State) (f : BitVec 64) : InForce :=
  match s.cap.inForce.find? (fun x => x.first ≤ f) with
  | some x => x
  | none => default

/-- What is in force for the frame that begins now; `map` is the generation for this frame. -/
def State.noteInForce (map : BitVec 64) (s : State) : State :=
  let x : InForce :=
    { first := s.clock.frame, map := map, recipe := s.ember.generation, timing := s.dpllCode
      formats := s.cap.active.set.map (fun e => (s.port e.1).settings.inFormats[e.2]) }
  match s.cap.inForce with
  | y :: _ =>
    if { y with first := x.first } = x then s
    else s.setCap (fun c => { c with inForce := x :: (c.inForce.filter (fun y => y.first < x.first)) })
  | [] => s.setCap (fun c => { c with inForce := [x] })

/-- The entries of a channel's part of the capture set. -/
def RingFrame.part (c : ChannelEntry) (f : RingFrame) : RingFrame :=
  { f with valid := (f.valid.drop c.setFirst).take c.setCount, data := (f.data.drop c.setFirst).take c.setCount }

/-- The slot table of a capture for a frame (R241). -/
def State.slotTable (s : State) (e : ChannelEntry) (f : BitVec 64) : List (PortNo × Fin 256 × Nat) :=
  let formats := (s.forceAt f).formats
  let all := s.cap.active.set.zipIdx.map (fun x => (x.1.1, x.1.2, ((formats[x.2]?).map (·.val)).getD 0))
  (all.drop e.setFirst).take e.setCount

/-- A trigger is accepted at the present tick D: the window is frozen, a sequence assigned and space reserved; TRIG_OUT
pulses in the next tick period, and the channel enters REARM (R227 to R229, R234). -/
def State.acceptTrigger (t : Fin 64) (e : ChannelEntry) (x : Trigger) (s : State) : State :=
  let d := s.clock.frame.toNat
  let f := x.frame.toNat
  let first := max (max (f - e.pre) s.cap.ringStart.toNat) (d + 1 - s.ringDepth)
  let force := s.forceAt x.frame
  let sequence := s.cap.nextSequence
  let c : Capture :=
    { sequence := sequence, channel := t, trigger := x, entry := e, table := s.slotTable e x.frame, first := first
      last := f + e.post
      frames := (s.cap.ring.filter (fun r => first ≤ r.number.toNat && r.number.toNat ≤ f + e.post)).map (RingFrame.part e)
      -- no value is stated when the ring has passed F itself (log 40)
      preActual := if first ≤ f then f - first else Config.preActual s.fresh
      shortPost := false, untraceable := !traceableCode force.timing, timing := force.timing, rtc := s.rtcNow
      mapGeneration := force.map, recipeGeneration := force.recipe, triggerGeneration := s.cap.generation
      offset := 0, length := 0, step := .window, pinned := e.pinObjects, built := none, failing := none, inLog := false
      aborts := [] }
  let s := { s with fresh := if first ≤ f then s.fresh else s.fresh + 1 }
  let pulse := s.clock.tick + 1
  let s := s.setCap (fun y => { y with nextSequence := y.nextSequence + 1 })
  let s := (s.setTrig t (fun y =>
    { y with
      rearmEnd := BitVec.ofNat 64 (f + e.post + e.rearm + 2), waiting := none
      pulseAt := e.trigOut.map (fun o => (pulse, o))
      created := assocSet x.frame (some sequence) y.created })).countTrig t 0
  let s := (s.raise 201 1 .occurrence (sequence % 4294967296) t.val (f % 4294967296)).setTrigMode t .rearm
  let s := s.endRequests x 0 1 0 sequence
  let place := s.reserve e.namespace_ c.objectLength
  match place.1 with
  | some at_ =>
    place.2.setCap (fun y => { y with captures := y.captures ++ [{ c with offset := at_, length := c.objectLength, inLog := true }] })
  | none => (place.2.setCap (fun y => { y with captures := y.captures ++ [c] })).failCapture c 1

/-- Why a trigger is MISSED by a channel that could accept it (R227): 1 CAPACITY, 2 SET_CHANGE. -/
def State.missReason (s : State) (x : Trigger) : Option (Fin 8) :=
  if 128 ≤ s.cap.captures.length then some 1 else if x.frame < s.cap.ringStart then some 2 else none

/-- The outcome of R227 for a channel in ARMED. -/
def State.tryAccept (t : Fin 64) (e : ChannelEntry) (x : Trigger) (s : State) : State :=
  match s.missReason x with
  | some r => s.missTrigger t x r
  | none => s.acceptTrigger t e x

/-- Add a term to a trigger that has been created (R216). -/
def State.addSource (t : Fin 64) (frame : BitVec 64) (bit_ : BitVec 3) (s : State) : State :=
  let grow (x : Trigger) : Trigger := if x.frame == frame then { x with sources := x.sources ||| bit_ } else x
  let s := s.setTrig t (fun c => { c with waiting := c.waiting.map grow })
  -- a trailer that has been made stands as it is (R244)
  s.setCap (fun c => { c with captures := c.captures.map (fun y =>
    if y.channel == t && y.built.isNone then { y with trigger := grow y.trigger } else y) })

/-- A term has decided a trigger of a channel for a frame (R214, R216, R227). -/
def State.decideTrigger (t : Fin 64) (frame : BitVec 64) (source : TriggerSource) (s : State) : State :=
  let c := s.cap.channels[t]
  match s.cap.active.channel t with
  | none => s
  | some e =>
    let request : Option CommandRef := match source with | .host r => some r | _ => none
    let bit_ : BitVec 3 := BitVec.ofNat 3 (2 ^ (source.code - 1))
    if c.mode == .disarmed || s.marked 4 0 then s
    else if e.gate && s.inputAt e.gateInput frame != e.gateHigh then
      let s := s.countTrig t 5
      match request with
      | some r => s.endHostTrigger r frame 4 0 0
      | none => s
    else if c.created.any (fun x => x.1 == frame) then
      let waits := match c.waiting with | some w => w.frame == frame | none => false
      let s := (s.countTrig t 6).addSource t frame bit_
      match request with
      | none => s
      | some r =>
        if waits then s.setTrig t (fun c => { c with waiting := c.waiting.map (fun w => { w with merged := w.merged ++ [r] }) })
        else s.endHostTrigger r frame 1 0 ((assocGet frame none c.created).getD 0)
    else
      let x : Trigger := { frame := frame, source := source, sources := bit_, merged := [] }
      let oldest := s.clock.frame.toNat - s.ringDepth
      let s := s.setTrig t (fun c =>
        { c with created := (frame, none) :: c.created.filter (fun y => oldest ≤ y.1.toNat) })
      match c.mode with
      | .disarmed => s
      | .armed => s.tryAccept t e x
      | .rearm => if c.waiting.isNone then s.setTrig t (fun c => { c with waiting := some x }) else s.missTrigger t x 3

/-- The key of a spark (R210). -/
def Spark.keyOf (k : Fin 3) (x : Spark) : Nat :=
  match k.val with
  | 0 => x.port.val
  | 1 => 2 * x.port.val + (if 512 ≤ x.unit.val then 1 else 0)
  | _ => x.port.val * 65536 + x.unit.val + 32768 * bit x.slotLevel

/-- A spark matches a channel (R210). -/
def ChannelEntry.matches (e : ChannelEntry) (x : Spark) : Bool :=
  e.spark && e.portMask.getLsbD x.port.val && (x.tag &&& e.tagMask) == (e.sparkTag &&& e.tagMask)
    && (x.mask &&& e.stageMask) != 0 && decide (e.minMargin ≤ x.margin)

/-- A spark reaches a channel that it matches: kept, or late when its frame has been decided (R210, R212). In DISARMED no frame
is decided, and no spark is late (R209). -/
def State.keepSpark (x : Spark) (s : State) (ch : Fin 64 × ChannelEntry) : State :=
  let t := ch.1
  let e := ch.2
  let c := s.cap.channels[t]
  if !e.matches x then s
  else if c.mode == .disarmed then (s.tally 4 0 2 1).setTrig t (fun c => { c with history := c.history ++ [x] })
  else
    let s := s.tally 4 0 2 1
    let passed := match c.decided with | some f => x.frame ≤ f | none => false
    if passed || decide (x.frame.toNat + 1 + e.settle ≤ s.clock.frame.toNat) then
      let now := s.clock.tick
      let due := match c.lateEvent with | some n => decide (n + second ≤ now) | none => true
      let s := (s.countTrig t 7).setTrig t (fun c => { c with lateEvent := if due then some now else c.lateEvent })
      s.raiseIf due (136 + t.val) 3 .occurrence t.val (s.cap.channels[t].counters[7]).toNat 0
    else s.setTrig t (fun c => { c with history := c.history ++ [x] })

/-- The oldest spark of an engine that has not reached the trigger unit leaves: a collected one, else one that the collector
now pops (R193). -/
def Engine.nextSpark (g : Engine) : Option (Spark × Engine) :=
  match g.collected, g.fifo with
  | x :: rest, _ => some (x, { g with collected := rest })
  | [], x :: rest => some (x, { g with fifo := rest })
  | [], [] => none

/-- SPARK_ARRIVAL: the oldest spark of an engine reaches the trigger unit (R193, R210, R212). -/
def State.sparkArrives (e : Fin 1024) (s : State) : State :=
  match s.ember.engines[e].nextSpark with
  | none => s
  | some (x, g) =>
    let s := s.setEngine e (fun _ => g)
    s.cap.active.channels.foldl (State.keepSpark x) (s.tally 4 0 1 1)

def execSparkArrival (e : Fin 1024) (s : State) : Host.Outcome State Fault Refusal := .next (s.settled (s.sparkArrives e))

/-- The earliest frame of a channel's history that its spark term has not decided. -/
def TriggerChannel.nextFrame (c : TriggerChannel) : Option (BitVec 64) :=
  let open_ := c.history.filter (fun x => match c.decided with | some f => f < x.frame | none => true)
  open_.foldl (fun a x => match a with | none => some x.frame | some f => some (if x.frame < f then x.frame else f)) none

/-- SPARK_DECISION: the spark term decides the earliest frame that is due (R211). -/
def State.sparkDecides (t : Fin 64) (s : State) : State :=
  let c := s.cap.channels[t]
  match s.cap.active.channel t, c.nextFrame with
  | some e, some f =>
    if c.mode == .disarmed || s.clock.frame.toNat < f.toNat + 1 + e.settle then s
    else
      let kept := c.history.filter (fun x => f.toNat < x.frame.toNat + e.window)
      let window := kept.filter (fun x => x.frame ≤ f)
      let fires := e.k ≤ (window.map (Spark.keyOf e.key)).eraseDups.length
      let kept := if fires then kept.filter (fun x => f < x.frame) else kept
      let s := s.setTrig t (fun c => { c with history := kept, decided := some f })
      match window.find? (fun x => x.frame == f) with
      | some x => if fires then s.decideTrigger t f (.spark x) else s
      | none => s
  | _, _ => s

def execSparkDecision (t : Fin 64) (s : State) : Host.Outcome State Fault Refusal := .next (s.settled (s.sparkDecides t))

/-- TRIG_IN_EDGE: several edges in one tick period give one pin trigger, for the period's frame (R213). -/
def State.trigInEdge (i : Fin 8) (s : State) : State :=
  if s.gpio[(⟨i.val, by omega⟩ : Fin 32)].function != .trigIn then s
  else
    let f := s.clock.frame
    let one (s : State) (x : Fin 64 × ChannelEntry) : State :=
      let c := s.cap.channels[x.1]
      if x.2.pin && x.2.pinMask.getLsbD i.val && !c.pins.any (fun y => y.1 == f) then
        s.setTrig x.1 (fun c => { c with pins := c.pins ++ [(f, i)] })
      else s
    s.cap.active.channels.foldl one (s.setInput i true)

def execTrigInEdge (i : Fin 8) (s : State) : Host.Outcome State Fault Refusal := .next (s.settled (s.trigInEdge i))

/-- PIN_DECISION: a pin trigger for frame T is decided at tick T+2, when the pin term is enabled then (R208, R213). -/
def State.pinDecides (t : Fin 64) (s : State) : State :=
  match s.cap.channels[t].pins with
  | (f, i) :: rest =>
    if s.clock.frame.toNat < f.toNat + 2 then s
    else
      let s := s.setTrig t (fun c => { c with pins := rest })
      if (s.cap.active.channel t).any (fun e => e.pin) then s.decideTrigger t f (.pin i) else s
  | [] => s

def execPinDecision (t : Fin 64) (s : State) : Host.Outcome State Fault Refusal := .next (s.settled (s.pinDecides t))

/-- HOST_TRIGGER_DECISION: a host trigger is decided at its tick (R215). -/
def State.hostDecides (t : Fin 64) (s : State) : State :=
  match s.cap.channels[t].host with
  | some h =>
    if s.clock.frame < h.due then s
    else (s.setTrig t (fun c => { c with host := none })).decideTrigger t h.frame (.host h.command)
  | none => s

def execHostTriggerDecision (t : Fin 64) (s : State) : Host.Outcome State Fault Refusal := .next (s.settled (s.hostDecides t))

/-- TRIG_OUT_PULSE: the output is high for the tick period after an acceptance (R228). -/
def State.pulseOut (o : Fin 8) (s : State) : State :=
  let pin : Fin 32 := ⟨8 + o.val, by omega⟩
  if s.gpio[pin].function = .trigOut && s.cap.channels.toList.any (fun c => c.pulseAt == some (s.clock.tick, o)) then s.setPin pin (fun p => { p with level := true }) else s

def execTrigOutPulse (o : Fin 8) (s : State) : Host.Outcome State Fault Refusal := .next (s.settled (s.pulseOut o))

/-- REARM_END: at tick E a waiting trigger is accepted, or the channel returns to ARMED (R229). -/
def State.rearmEnds (t : Fin 64) (s : State) : State :=
  let c := s.cap.channels[t]
  if c.mode != .rearm || s.clock.frame < c.rearmEnd then s
  else
    match c.waiting, s.cap.active.channel t with
    | some x, some e =>
      let s := s.setTrig t (fun c => { c with waiting := none, rearmEnd := 0 })
      match s.missReason x with
      | some r => (s.setTrigMode t .armed).missTrigger t x r
      | none => s.acceptTrigger t e x
    | _, _ => (s.setTrig t (fun c => { c with rearmEnd := 0 })).setTrigMode t .armed

def execRearmEnd (t : Fin 64) (s : State) : Host.Outcome State Fault Refusal := .next (s.settled (s.rearmEnds t))

/-- The frame that the capture engine keeps of the input frame that has been read (R224). -/
def State.ringFrameNow (s : State) : RingFrame :=
  let one (e : PortNo × Fin 256) : Bool × BitVec 192 :=
    match s.ember.latched[e.1] with
    | none => (false, 0)
    | some v =>
      if slotValid v.unauth e.2.val then (false, 0) else (slotValid v.validity e.2.val, slotOf v.payload e.2.val)
  let xs := s.cap.active.set.map one
  { number := s.ember.readNow, gap := false, untraceable := !s.traceable, valid := xs.map (·.1), data := xs.map (·.2) }

/-- An open capture has frozen frame `n` and not yet copied it into its object, which its outstanding writes show (R225, R231). -/
def State.holdsFrame (s : State) (c : Capture) (n : Nat) : Bool :=
  if c.failing.isSome || n < c.first || c.last < n then false
  else match c.step with
  | .window => true
  | .writing =>
    let ends := c.offset + c.headerLength + (n + 1 - c.first) * frameRecordLength c.table.length
    let mine (t : NvmeTask) : Bool := t == .object c.sequence
    s.cap.commands.any (fun b => mine b.task && decide (b.range.log < ends))
      || s.cap.queued.any (fun b => mine b.task && b.ranges.any (fun r => decide (r.log < ends)))
  | .flushOne | .trailer | .flushTwo => false

/-- A frame in the ring is frozen (R225). -/
def State.frozen (s : State) (n : Nat) : Bool := s.cap.captures.any (fun c => s.holdsFrame c n)

/-- The frame that stands in a ring position, as it was last written (R223). -/
def State.ringAt (s : State) (depth n : Nat) : Option RingFrame :=
  s.cap.ring.find? (fun r => !r.gap && r.number.toNat % depth == n % depth)

/-- The capture engine writes the frame that has been read into the ring, or makes it a gap frame, because its position is
frozen or because HBM cannot sustain the write; open captures whose window it falls in freeze it (R223 to R226, R228). -/
def State.ringWrite (s : State) : State :=
  if !s.cap.ringOn || s.ember.readNow < s.cap.ringStart then s
  else
    let depth := s.ringDepth
    let n := s.ember.readNow.toNat
    let sustained := !Config.hbmFails s.clock.tick
    let held : Bool := match s.ringAt depth n with | some r => r.number.toNat != n && s.frozen r.number.toNat | none => false
    let gap := held || !sustained
    let f := s.ringFrameNow
    let f : RingFrame := if gap then { f with gap := true, valid := f.valid.map (fun _ => false), data := f.data.map (fun _ => 0) } else f
    let s := s.tally 5 0 1 (s.cap.active.ringRecord / 64)
    let s := s.setCap (fun c =>
      { c with
        ring := f :: c.ring.filter (fun r => r.number.toNat % depth != n % depth || (gap && !r.gap && r.number.toNat != n))
        captures := c.captures.map (fun x =>
          if x.step == .window && decide (x.first ≤ n) && decide (n ≤ x.last) && (x.frame? n).isNone then
            { x with frames := x.frames ++ [f.part x.entry] } else x) })
    let s := s.raiseIf (!sustained) 200 2 .loss oneUnit (n % 4294967296) 0
    if gap then
      let now := s.clock.tick
      let due := match s.cap.gapEvent with | some k => decide (k + second ≤ now) | none => true
      let since := s.cap.gapsSince + 1
      let s := s.setCap (fun c =>
        { c with gapFrames := c.gapFrames + 1, gapEvent := if due then some now else c.gapEvent, gapsSince := if due then 0 else since })
      s.raiseIf due 200 1 .loss oneUnit since 0
    else s

/-- The open captures after a fail-over: the new active core completes each from the journal, or ends it in a failure record
with reason RESUME (R238). -/
def State.resumeCaptures (s : State) : State :=
  if s.cap.resuming then
    let open_ := s.cap.captures
    open_.foldl (fun s c => if Config.captureLost c.sequence then s.failCapture c 6 else s)
      (s.setCap (fun c => { c with resuming := false }))
  else s

/-- Captures whose window has been gathered begin to be written, once the key objects of the capture key are stored (R236,
R246). -/
def State.startWriting (s : State) : State :=
  let now := s.clock.frame.toNat
  let due := s.cap.captures.filter (fun c => c.step == .window && decide (c.last < now))
  if due.isEmpty then s
  else
    let s := s.writeKeyObjects
    if s.cap.keyWrites.isEmpty then due.foldl (fun s c => (s.enterStep c).sealOn 12 c.sequence) s else s

/-- The ring restarts at frame `f`: open windows past it are cut, and waiting triggers dropped (R225, R230). -/
def State.restartRing (f : BitVec 64) (s : State) : State :=
  let s := (List.finRange 64).foldl (fun s t => s.dropWaiting t) s
  let cut (c : Capture) : Capture :=
    if c.step == .window && decide (f.toNat ≤ c.last) then { c with last := f.toNat - 1, shortPost := true } else c
  let s := s.setCap (fun c => { c with ringStart := f, ring := [], captures := c.captures.map cut })
  s.raise 200 3 .occurrence oneUnit (f.toNat % 4294967296) 0

/-- A channel at a bank swap or at the start of full service (R221, R222). -/
def State.installChannel (new : TriggerBank) (armed : Bool) (t : Fin 64) (s : State) : State :=
  let s := (s.dropWaiting t).dropHost t
  let s := s.setTrig t (fun c => { c with history := [], rearmEnd := 0 })
  s.setTrigMode t (if armed && (new.channel t).isSome then .armed else .disarmed)

/-- The decisions of a channel whose ticks lie before frame `n`, which a step of the count has skipped with them: host trigger,
pin triggers and spark frames (R211, R213, R215, R265). -/
def State.decideSkipped (n : BitVec 64) (s : State) (t : Fin 64) : State :=
  let c := s.cap.channels[t]
  let settle : Nat := ((s.cap.active.channel t).map (·.settle)).getD 0
  let s := if c.host.any (fun h => h.due < n) then s.hostDecides t else s
  let s := (c.pins.filter (fun x => x.1.toNat + 2 < n.toNat)).foldl (fun (s : State) _ => s.pinDecides t) s
  c.history.foldl (fun (s : State) _ =>
    if (s.cap.channels[t].nextFrame).any (fun f => f.toNat + 1 + settle < n.toNat) then s.sparkDecides t else s) s

/-- The channels that a bank defines anew, for which an engine is out of service, raise the event of R18. -/
def State.namedLost (ts : List (Fin 64)) (s : State) : State :=
  let lost := (List.finRange 1024).filter (fun e => s.ember.engines[e].out || s.ember.clusters[engineCluster e].mode != .running)
  s.engineLostFor (s.cap.active.channels.filter (fun x => ts.contains x.1)) lost

/-- The trigger swap takes place, once its frame has come (R221, R222, R380). -/
def State.takeTriggerSwap (s : State) : State :=
  match s.cap.swap, s.cap.shadow with
  | some w, some new =>
    if w.frame ≤ s.clock.frame then
      let s := (List.finRange 64).foldl (State.decideSkipped w.frame) s
      let old := s.cap.active
      let changed := (List.finRange 64).filter (fun t => old.channel t != new.channel t)
      let s := changed.foldl (fun s t => s.installChannel new (s.cap.channels[t].mode != .disarmed) t) s
      let s := s.setCap (fun x =>
        { x with active := new, generation := x.generation + 1, shadow := none, shadowMode := .empty, swap := none
                 persistWaits := if w.persist then x.persistWaits ++ [⟨w.command, new, x.generation + 1⟩] else x.persistWaits })
      let s := if old.set != new.set || old.ringGib != new.ringGib then s.restartRing w.frame else s
      let s := (s.namedLost changed).updatePins
      s.complete w.command .ok 0 (leBytes 8 w.frame.toNat ++ leBytes 4 s.cap.generation.toNat ++ zeros 4)
    else s
  | _, _ => s

/-- TRIGGER_SWAP_TAKES_PLACE (R222). -/
def execTriggerSwapTakesPlace (s : State) : Host.Outcome State Fault Refusal := .next (s.settled s.takeTriggerSwap)

end Sys2Proof.Machine
end

