-- ==== Sys2Proof/Machine/SelfTest.lean ====
section
/-! DEFINITION. The built-in self-test: slices, results, repairs and marks (R533 to R541). -/
namespace Sys2Proof.Machine

/-- Change the self-test state. -/
def State.setBist (f : BistState → BistState) (s : State) : State := { s with bist := f s.bist }

/-- The slices of a full BIST in their order, as (order, number within it) (R534). -/
def fullSlices : List (Nat × Nat) :=
  [(1, 17), (2, 16), (3, 2), (4, 8), (5, 2), (6, 1), (7, 32), (8, 16), (9, 32), (10, 4), (11, 48)].flatMap (fun x =>
    (List.range x.2).map (fun i => (x.1, i)))

/-- The four slices of one plane or one cluster (R534). -/
def unitSlices (order index : Nat) : List (Nat × Nat) := (List.range 4).map (fun i => (order, 4 * index + i))

/-- The time limit of a slice in ticks (R534). -/
def sliceLimit (order : Nat) : Nat :=
  match order with
  | 1 => 4000 | 2 => 2000 | 3 => 2000 | 4 => 4000 | 5 => 10000 | 6 => 20000 | 7 => 40000 | _ => 50000

/-- The units of R538 that a slice tests, as (block, index). -/
def State.sliceUnits (s : State) (x : Nat × Nat) : List (Nat × Nat) :=
  let i := x.2
  match x.1 with
  | 1 => [(6, if i = 0 then 16 else i - 1)]
  | 2 => [(7, 0)]
  | 3 => [(7, 1)]
  | 4 => [(7, 2)]
  | 5 => [(9, i)]
  | 6 => [(8, match s.mgmt.owner with | some o => (otherCore o).val | none => 1)]
  | 7 => (List.range 16).map (fun k => (1, 16 * i + k))
  | 8 => [(2, i / 4)]
  | 9 => (List.range 33).map (fun k => (3, 132 * (i / 4) + 33 * (i % 4) + k))
  | 10 => [(4, 0)]
  | _ => [(5, i)]

/-- Whether a failing slice fails a unit: a lane group's logic fails all its ports, an engine slice names its engine
(R534, R538). -/
def hitsUnit (x : Nat × Nat) (unit k : Nat) : Bool :=
  match x.1 with
  | 7 => 16 ≤ unit || unit == k
  | 9 => unit % 33 == k
  | _ => true

/-- Blocks whose arrays have spare rows (R538). -/
def hasRows (block : Nat) : Bool := decide (1 ≤ block) && decide (block ≤ 5)

/-- What one slice adds to a unit's entry: while the test runs, RESULT is 0 passed, 1 failed and repairable, 2 failed,
3 skipped (R537, R538). -/
def BistResult.merge (old new : BistResult) : BistResult :=
  { old with
    result := max old.result new.result, slices := old.slices + new.slices, frame := new.frame
    fails := if old.fails = 0xFFFFFFFF || new.fails = 0xFFFFFFFF then 0xFFFFFFFF else old.fails + new.fails
    firstBit := if old.fails = 0 then new.firstBit else old.firstBit
    address := if old.fails = 0 then new.address else old.address }

/-- Add a result to those of the test. -/
def addResult (e : BistResult) (xs : List BistResult) : List BistResult :=
  if xs.any (fun x => x.block == e.block && x.index == e.index) then
    updateFirst (fun x => x.block == e.block && x.index == e.index) (fun x => x.merge e) xs
  else xs ++ [e]

/-- A test begins (R541). -/
def State.startBist (origin : Nat) (slices : List (Nat × Nat)) (c : Option CommandRef) (s : State) : State :=
  let now := s.clock.tick
  (s.setBist (fun b => { b with run := some ⟨origin, slices, now, c, []⟩ })).raise 376 1 .set oneUnit origin 0

/-- Bring what depends on the marks in line with them (R107, R206, R433, R438, R538, R540). -/
def State.applyMarks (s : State) : State :=
  let has (block index : Nat) : Bool := s.bist.marks.contains (block, index)
  let s := { s with map := { s.map with planes := s.map.planes.mapFinIdx (fun i k _ => { k with unusable := has 2 i }) } }
  let s := { s with mgmt := { s.mgmt with
    cores := s.mgmt.cores.mapFinIdx (fun i c _ => { c with unusable := has 8 i })
    solverFailed := s.mgmt.solverFailed.mapFinIdx (fun i f _ => f || has 9 i)
    l2Ways := s.mgmt.l2Ways.mapFinIdx (fun i w _ => w || has 10 i) } }
  let s := { s with map := { s.map with solverDoubled := s.mgmt.solverFailed.toList.any id } }
  let s := s.setEmber (fun x =>
    { x with clusters := x.clusters.mapFinIdx (fun i c _ =>
      { c with faulty := (List.finRange 132).filter (fun e => has 3 (132 * i + e.val)) }) })
  s.setCap (fun c => { c with hbmMarked := (s.bist.marks.filter (fun m => m.1 == 5)).length })

/-- The entry that a unit's result leaves: repaired, marked, or passed with an earlier mark cleared (R537, R539). -/
def BistResult.final (marks : List (Nat × Nat)) (e : BistResult) : BistResult :=
  if e.result = 0 && marks.contains (e.block, e.index) then { e with result := 4 } else e

/-- The marks after a result (R539). -/
def markAfter (marks : List (Nat × Nat)) (e : BistResult) : List (Nat × Nat) :=
  let u := (e.block, e.index)
  match e.result with
  | 2 => if marks.contains u then marks else marks ++ [u]
  | 4 => marks.filter (· != u)
  | _ => marks

/-- Enter a result before the later ones of the list, which is in the order of R538. -/
def insertResult (e : BistResult) : List BistResult → List BistResult
  | [] => [e]
  | x :: xs => if e.block < x.block ∨ (e.block = x.block ∧ e.index ≤ x.index) then e :: x :: xs else x :: insertResult e xs

/-- The results kept: those of this origin are replaced; a BIST_RUN replaces the entries of its own units (R408, R537). -/
def keepResults (origin : Nat) (old new : List BistResult) : List BistResult :=
  let kept := old.filter (fun x =>
    if origin = 3 then !(x.origin == 3 && new.any (fun y => y.block == x.block && y.index == x.index)) else x.origin != origin)
  new.foldl (fun xs e => insertResult e xs) kept

/-- Results become repair data: the copy not in use is written (R517, R539). `now` applies them at once. -/
def State.writeRepairs (origin : Nat) (entries : List BistResult) (now : Bool) (s : State) : State :=
  let entries := entries.map (BistResult.final s.bist.storedMarks)
  let repaired := (entries.filter (fun e => e.result == 1)).map (fun e => (e.block, e.index))
  let failing := (entries.filter (fun e => e.result == 1 || e.result == 2)).length
  let s := s.setBist (fun b =>
    { b with
      storedMarks := entries.foldl markAfter b.storedMarks
      marks := if now then entries.foldl markAfter b.marks else b.marks
      repairs := b.repairs ++ repaired.filter (fun u => !b.repairs.contains u)
      results := keepResults origin b.results entries, copy := b.copy + 1, unlisted := failing - 448 })
  -- a management SRAM bank that fails is replaced by the spare bank at the next start (R514, R538)
  let banks := (entries.filter (fun e => e.block == 6 && (e.result == 1 || e.result == 2))).filterMap (fun e =>
    if h : e.index < 16 then some ((⟨e.index, h⟩ : Fin 16), e.address) else none)
  let s := s.setFabric (fun f => { f with faulty := f.faulty ++ banks.filter (fun x => !f.faulty.any (fun y => y.1 == x.1)) })
  let one (s : State) (e : BistResult) : State :=
    let low := e.address.toNat % 4294967296
    let high := e.address.toNat / 4294967296
    match e.result with
    | 1 => (s.raise 377 1 .fault e.index low high).raise 377 2 .repair e.index low high
    | 2 => (s.raise 377 1 .fault e.index low high).raise 377 3 .occurrence e.index low high
    | _ => s
  let s := (entries.foldl one s).raise 379 1 .occurrence oneUnit (s.bist.copy.val) 0
  let s := s.raiseIf (448 < failing) 379 3 .occurrence oneUnit (failing - 448) 0
  if now then s.applyMarks else s

/-- SERVICE changes, with its event and the time since the release in ticks (R307, R541, R576). -/
def State.setService (code : BitVec 4) (s : State) : State :=
  let old := s.host.service
  if old = code then s
  else
    let s := s.setHost (fun h => { h with service := code })
    (s.raise 372 1 .state oneUnit ((s.clock.tick - s.rst.released) % 4294967296) code.toNat).updatePins

/-- SERVICE becomes HALTED; a SHUTDOWN completes as it does (R411, R527, R532). -/
def State.halt (s : State) : State :=
  let s := (s.setService 4)
  let s := { s with rst := { s.rst with halted := true } }
  match s.rst.shutdown with
  | some (c, _) => ({ s with rst := { s.rst with shutdown := none } }).complete c .ok 0 []
  | none => s

/-- The results of BIST_RUN: FAILS, FIRST_ADDRESS, FIRST_BIT and MARKED (R408, R537). -/
def runResults (entries : List BistResult) : List Byte :=
  match entries.find? (fun e => e.result == 2) <|> entries.find? (fun e => e.fails != 0) with
  | some e =>
    let fails := if entries.any (fun e => e.fails = 0xFFFFFFFF) then 0xFFFFFFFF else cap32 ((entries.map (fun e => e.fails.toNat)).sum)
    leBytes 4 fails ++ zeros 4 ++ leBytes 8 e.address.toNat ++ leBytes 2 e.firstBit.toNat ++ leBytes 1 (bit (e.result == 2)) ++ zeros 13
  | none => zeros 32

/-- A test ends: its results are stored and, by origin, applied or answered (R408, R534, R539). -/
def State.finishBist (r : BistRun) (s : State) : State :=
  let s := (s.setBist (fun b => { b with run := none })).raise 376 1 .clear oneUnit r.origin 0
  let s := s.writeRepairs r.origin r.results (r.origin == 3)
  let s := r.results.foldl (fun s e =>
    if e.block = 2 then
      let k : Fin 4 := ⟨e.index % 4, by omega⟩
      s.restorePlane k
    else if e.block = 3 && r.origin == 3 then
      s.setCluster ⟨e.index / 132 % 8, by omega⟩ (fun c => { c with library := 0 })
    else s) s
  let s := if r.origin = 2 then s.halt else s
  match r.command with
  | some c => s.completeJob c .ok 0 (runResults r.results)
  | none => s

/-- What a destructive slice leaves of the memories that the fabric reaches: engine local memories and HBM (R534). -/
def State.loseTested (x : Nat × Nat) (s : State) : State :=
  match x.1 with
  | 9 => s.loseBytes (0x20000000 + 0x1000000 * (x.2 / 4) + 0x10000 * (33 * (x.2 % 4))) (33 * 0x10000)
  | 11 => s.loseBytes (0x1000000000 + 0x40000000 * x.2) 0x40000000
  | _ => s

/-- A slice has ended, with what it gives each of its units; the next one starts (R534). -/
def State.sliceEnds (r : BistRun) (rest : List (Nat × Nat)) (entries : List BistResult) (s : State) : State :=
  let r := { r with slices := rest, started := s.clock.tick, results := entries.foldl (fun xs e => addResult e xs) r.results }
  if rest.isEmpty then s.finishBist r else s.setBist (fun b => { b with run := some r })

/-- Whether the banks of management SRAM are skipped: the spare is in use as a repair (R535). -/
def State.skipped (s : State) (x : Nat × Nat) : Bool := x.1 == 1 && 0 < x.2 && s.fabric.spareFor.isSome

/-- BIST_SLICE_DONE: the result of the slice in progress (R534 to R537). -/
def State.sliceDone (x : SliceResult) (s : State) : State :=
  match s.bist.run with
  | none => s
  | some r =>
    match r.slices with
    | [] => s
    | y :: rest =>
      let now := s.clock.frame
      let skip := s.skipped y
      -- a key register that does not read back as 0 keeps the slice from running (R536)
      let keys := y.1 == 7 && !x.keysErased
      let failed := !skip && (keys || x.fails != 0)
      let units := s.sliceUnits y
      let entry (u : (Nat × Nat) × Nat) : BistResult :=
        let hit := failed && (keys || hitsUnit y x.unit u.2)
        let spared := u.1.1 == 6 && decide (u.1.2 < 16) && s.fabric.faulty.isEmpty && s.fabric.spareFor.isNone
        { block := u.1.1, origin := r.origin, index := u.1.2
          result := if skip then 3 else if !hit then 0 else if !keys && ((hasRows u.1.1 && x.repairable) || spared) then 1 else 2
          slices := if skip || keys then 0 else 1, firstBit := if !hit then 0 else if keys then 0xFFFE else x.firstBit
          fails := if hit then x.fails else 0, address := if hit then x.firstAddress else 0, frame := now }
      let saved := y.1 == 2 || y.1 == 3 || y.1 == 4
      let s := s.raiseIf (saved && !x.crcOk) 378 1 .fault oneUnit y.1 y.2
      let s := s.raiseIf keys 378 2 .fault y.2 0 0
      let s := if y.1 == 2 && (!x.crcOk || x.fails != 0) then s.setBist (fun b => { b with journalBad := true }) else s
      (if keys then s else s.loseTested y).sliceEnds r rest (units.zipIdx.map entry)

def execBistSliceDone (x : SliceResult) (s : State) : Host.Outcome State Fault Refusal := .next (s.settledFabric (s.sliceDone x))

/-- BIST_SLICE_TIMEOUT: a slice that has not finished within its limit stops, and its block fails (R534). -/
def State.sliceTimeout (s : State) : State :=
  match s.bist.run with
  | none => s
  | some r =>
    match r.slices with
    | [] => s
    | y :: rest =>
      if s.clock.tick < r.started + sliceLimit y.1 then s
      else
        let now := s.clock.frame
        let entry (u : Nat × Nat) : BistResult :=
          { block := u.1, origin := r.origin, index := u.2, result := 2, slices := 1, firstBit := 0xFFFF, fails := 0xFFFFFFFF
            address := 0, frame := now }
        let s := s.raise 376 2 .fault oneUnit y.1 y.2
        let s := if y.1 == 2 then s.setBist (fun b => { b with journalBad := true }) else s
        (s.loseTested y).sliceEnds r rest ((s.sliceUnits y).map entry)

def execBistSliceTimeout (s : State) : Host.Outcome State Fault Refusal := .next (s.settledFabric s.sliceTimeout)

end Sys2Proof.Machine
end

