-- ==== Sys2Proof/Machine/BringUp.lean ====
section
/-! DEFINITION. The reset pins, the start, tinder and full service, the shutdown sequence and the power-fail warning
(chapter 19, R24, R326, R327, R486 to R488, R452). -/
namespace Sys2Proof.Machine

/-- Change the reset state. -/
def State.setRst (f : ResetState → ResetState) (s : State) : State := { s with rst := f s.rst }

/-- An erase in progress or queued at a reset is done again at the next start (R520). -/
def FlashState.abort (f : FlashState) : FlashState :=
  let of (c : FlashCommand) : Option Nat := match c with | .erase x => some x.val | .program _ _ => none
  let running := f.busy.toList.filterMap (fun c => c.bind of)
  { f with fifo := [], busy := Vector.replicate 4 none, aborted := f.aborted ++ running.filter (fun x => !f.aborted.contains x) }

/-- What the keep domain and the memories outside the reset leave of the control fabric: the journal and the interlock
while the supplies hold (R486, R524), and what the repair data records of the banks (R514). -/
def FabricState.afterReset (kept : Bool) (f : FabricState) : FabricState :=
  { (default : FabricState) with
    cells := if kept then f.cells.filter (fun c => decide (0x800000 ≤ c.1) && decide (c.1 < 0x910000)) else []
    badWords := if kept then f.badWords.filter (fun w => decide (0x100000 ≤ w) && decide (w < 0x134000)) else []
    faulty := f.faulty, spareFor := f.spareFor }

/-- Whether a word of `[a, b)` stands with an error that SECDED does not correct (R515). -/
def State.badBetween (a b : Nat) (s : State) : Bool := s.fabric.badWords.any (fun w => decide (a ≤ 8 * w) && decide (8 * w < b))

/-- What a namespace-store command that was not durable replaced comes back (R24). -/
def CaptureState.revert (c : CaptureState) (u : StoreUndo) : CaptureState :=
  match u with
  | .namespace_ n old => { c with namespaces := c.namespaces.set n old }
  | .object n old => { c with namespaces := c.namespaces.set n { c.namespaces[n] with
      objects := (old :: c.namespaces[n].objects).mergeSort (fun a b => decide (a.sequence ≤ b.sequence)) } }
  | .pin sequence on =>
    { c with
      namespaces := c.namespaces.map (fun x =>
        { x with objects := x.objects.map (fun o => if o.sequence == sequence then { o with pinned := on } else o) })
      captures := c.captures.map (fun y => if y.sequence == sequence then { y with pinned := on } else y) }

/-- The store as a loss of power leaves it: no effect of a command that was not durable remains (R24). -/
def CaptureState.reverted (c : CaptureState) : CaptureState := (c.undo.map (·.2)).foldl CaptureState.revert { c with undo := [] }

/-- The recorder as a loss of power leaves it: a clear whose record is not in eFlash has not taken place (R24, R401). -/
def EventState.reverted (e : EventState) : EventState :=
  { e with
    log := e.erased ++ e.log
    erased := []
    buffer := e.buffer.filter (fun b => !e.clears.any (fun x => x.2 == b.record)) }

/-- The image slots as a loss of power leaves them: an image staged and not activated is gone (R24, R412). -/
def ManagementState.reverted (m : ManagementState) : Vector ImageSlot 2 :=
  if m.staged = 0 then m.slots else (let k : Fin 2 := if m.bootSlot = 0 then 1 else 0; m.slots.set k { content := none })

/-- POR_N or COLD_RST_N goes low: every domain but the always-on domain restarts (R24, R524, R525). What survives is in
eFlash, in the drives, in the fuses and, while the supplies hold, in the keep domain. -/
def State.coldReset (held : Bool) (s : State) : State :=
  let kept := held && (s.rst.kept || !(s.rst.porLow || s.rst.coldLow))
  let cap := s.cap.reverted
  let ev := s.ev.reverted
  { State.reset with
    pending := s.pending
    clock := s.clock
    rtc := s.rtc
    flash := s.flash.abort
    fabric := s.fabric.afterReset kept
    fresh := s.fresh
    host := { HostState.reset with
      journal := if kept then s.host.journal else []
      -- the token windows stand for the journal's records of them until the recovery log is built
      channels := s.host.channels.map (fun c => { Channel.reset with window := if kept then c.window else [] })
      snapshot := s.host.snapshot, snapshotBlank := s.host.snapshotBlank, journalRoom := s.host.journalRoom }
    ev := { EventState.reset with
      log := ev.log, nextIndex := s.ev.nextIndex, headPage := s.ev.headPage, standing := s.ev.standing, lost := s.ev.lost
      buffer := if kept then ev.buffer else [], retention := s.ev.retention, retentionOk := s.ev.retentionOk
      powerFailing := s.ev.powerFailing }
    map := { MapState.reset with copies := s.map.copies }
    casc := { CascadeState.reset with mstInhIn := s.casc.mstInhIn, arbSel := s.casc.arbSel }
    mgmt := { ManagementState.reset with slots := s.mgmt.reverted, bootSlot := s.mgmt.bootSlot }
    sec := { SecurityState.reset with
      lifecycle := s.sec.lifecycle, rollbackBundle := s.sec.rollbackBundle, rollbackLibrary := s.sec.rollbackLibrary
      owner := s.sec.owner, anchors := s.sec.anchors, ownerEpoch := s.sec.ownerEpoch, resumptions := s.sec.resumptions
      scanned := s.sec.scanned }
    ember := { EmberState.reset with persisted := s.ember.persisted, library := s.ember.library }
    cap := { CaptureState.reset with
      persisted := s.cap.persisted, drivesDurable := s.cap.drivesDurable, drives := s.cap.drives, namespaces := cap.namespaces
      driveFailed := s.cap.driveFailed, failedDrive := s.cap.failedDrive, interrupted := cap.interrupted ++ cap.captures
      nextSequence := s.cap.nextSequence
      nextCid := s.cap.nextCid }
    pwr := { PowerState.reset with
      temperature := s.pwr.temperature, warm := s.pwr.warm, hot := s.pwr.hot, critical := s.pwr.critical
      supplyOut := s.pwr.supplyOut }
    rst := { s.rst with kept := kept, shutdown := none, halted := false }
    bist := { BistState.reset with
      results := s.bist.results, storedMarks := s.bist.storedMarks, repairs := s.bist.repairs, copy := s.bist.copy
      unlisted := s.bist.unlisted, lost := s.bist.run.isSome || s.bist.lost, journalBad := s.bist.journalBad }
    gpio := s.gpio.map (fun p => { function := .gpio, level := p.level }) }

/-- What a reset or a start leaves behind, with the responses posted; the queue stands. -/
def State.settledStart (s t : State) : State :=
  State.settle { t with pending := s.pending, flash := { t.flash with cells := s.flash.cells } }

/-- The frame count that a start loads from the RTC (R10, R496). -/
def State.loadFrame (s : State) : State := { s with clock := { s.clock with frame := BitVec.ofNat 64 (2000000 * s.rtcNow) } }

/-- What a start leaves behind: time stands, and so do the memories, as the reset left them. -/
def State.settledBoot (s t : State) : State :=
  State.settle { t with pending := s.pending, clock := s.clock, fabric := { t.fabric with cells := s.fabric.cells }
                        flash := { t.flash with cells := s.flash.cells } }

/-- POR_N_ASSERT (R523, R524). -/
def State.porAssert (held : Bool) (s : State) : State := (s.coldReset held).setRst (fun r => { r with porLow := true, pwrFailLow := false })

def execPorNAssert (suppliesHeld : Bool) (s : State) : Host.Outcome State Fault Refusal :=
  .next (s.settledStart (s.porAssert suppliesHeld))

/-- COLD_RST_N_ASSERT (R524). -/
def State.coldAssert (held : Bool) (s : State) : State := (s.coldReset held).setRst (fun r => { r with coldLow := true, pwrFailLow := false })

def execColdRstNAssert (suppliesHeld : Bool) (s : State) : Host.Outcome State Fault Refusal :=
  .next (s.settledStart (s.coldAssert suppliesHeld))

/-- The always-on domain at a start (R492, R503). -/
def State.startRtc (b : BootFindings) (s : State) : State :=
  let ok := b.settingsOk && s.rtc.settingsOk
  let wasReset := s.rtc.domainReset
  let s := s.setRtc (fun r =>
    { r with
      domainReset := false, lossOk := r.lossOk && b.lossOk, settingsOk := true
      taiUtc := if ok then r.taiUtc else 0, leap := if ok then r.leap else 0, leapTai := if ok then r.leapTai else 0
      trim := if ok then r.trim else 0 })
  (s.raiseIf wasReset 429 1 .occurrence oneUnit 0 0).raiseIf (!ok) 429 2 .occurrence oneUnit 0 0

/-- The event log at a start: the sector after the head is erased again, and then the records that the reset or the power
failure left are committed, before any new record (R482, R486, R488). -/
def State.startLog (b : BootFindings) (verifies : Bool) (s : State) : State :=
  let next := (s.ev.headPage / 16 + 1) % 512
  let s := s.setEv (fun e =>
    if e.standing then e else { e with standing := true, log := e.log.filter (fun x => x.place / 128 != next) })
  let failed := s.ev.powerFailing
  let s := s.setEv (fun e => { e with powerFailing := false, regionFault := false })
  if verifies && b.bufferValid && !s.badBetween 0x980000 0x9A0000 then s.flushAll 512
  else
    let s := s.setEv (fun e => { e with buffer := [] })
    if failed then s.commitRetention (b.retentionOk && s.ev.retentionOk) else s

/-- The recovery entries of a channel's window (R327). -/
def windowEntries (c : Fin 8) (ch : Channel) : List RecoveryEntry :=
  ch.window.map (fun e => { token := e.token, opcode := e.opcode, channel := c, committed := e.durable })

/-- A token table entry of the recovery log (R327). -/
def TokenEntry.recovered (e : TokenEntry) : TokenEntry :=
  { e with
    status := if e.durable then .committed else .notExecuted, stage := if e.durable then 2 else 1, detail := 0
    results := zeros e.results.length, recovery := true, persist := e.durable, ticket := 0, jobState := 2, reason := 0
    withdrawn := false }

/-- A token table entry built from the snapshot (R327). -/
def SnapshotEntry.token_ (x : SnapshotEntry) : TokenEntry :=
  { (default : TokenEntry) with
    token := x.token, opcode := x.opcode, digest := none, status := if x.durable then .committed else .notExecuted
    stage := if x.durable then 2 else 1, version := 0x0204, persist := x.durable, durable := x.durable, recovery := true
    jobState := 2 }

/-- RECOVERY_LOG_BUILD (R24, R327, R328). -/
def State.buildRecovery (verifies snapshotValid : Bool) (s : State) : State :=
  let loss : BitVec 64 := if s.rtc.lossOk then s.rtc.lossRtc else 0
  let log (source : BitVec 8) (entries : List RecoveryEntry) (s : State) : State :=
    let x : RecoveryLog := { source := source, startFrame := s.clock.frame, lossRtc := loss, entries := entries }
    (s.setHost (fun h => { h with recovery := some x, recoveryPending := true })).raise 305 3 .occurrence oneUnit source.toNat entries.length
  let clear (s : State) : State :=
    s.setHost (fun h => { h with journal := [], channels := h.channels.map (fun c => { c with window := [] }) })
  if verifies then
    let entries := (List.finRange 8).flatMap (fun c => windowEntries c (s.chan c))
    let s := s.setHost (fun h =>
      { h with journal := [], channels := h.channels.map (fun c => { c with window := c.window.map TokenEntry.recovered }) })
    log 1 entries s
  else
    match s.host.snapshot with
    | some xs =>
      if snapshotValid then
        let of (c : Nat) : List SnapshotEntry := xs.filter (fun x => x.channel.val == c)
        let entries := (List.range 8).flatMap (fun c => (of c).map (fun x =>
          ({ token := x.token, opcode := x.opcode, channel := x.channel, committed := x.durable } : RecoveryEntry)))
        let s := (clear s).setHost (fun h =>
          { h with channels := h.channels.mapFinIdx (fun i c _ => { c with window := (of i).map SnapshotEntry.token_ }) })
        log 2 entries s
      else log 3 [] (clear s)
    | none => if s.host.snapshotBlank then clear s else log 3 [] (clear s)

/-- The image that the ROM boots: the boot slot's, or the other when it fails (R452); neither below the fused counter
(R451). -/
def State.bootImage (s : State) : Option (Fin 2 × ImageInfo) :=
  let of (i : Fin 2) : Option (Fin 2 × ImageInfo) :=
    match s.mgmt.slots[i].content with
    | some x => if s.sec.rollbackBundle ≤ x.securityVersion then some (i, x) else none
    | none => none
  of s.mgmt.bootSlot <|> of s.otherImageSlot

/-- The security firmware starts: key blob, derived keys, the stored library (R448, R449, R452 step 3). -/
def State.startSecurity (b : BootFindings) (bundle : ImageInfo) (s : State) : State :=
  let at_ := BitVec.ofNat 64 s.rtcNow
  let s := s.setMgmt (fun m => { m with securityFw := bundle })
  let s := { s with sec := { s.sec with
    running := true, blobValid := b.keyBlobValid, keysDerived := true, derivedAt := at_ } }
  let s := if b.keyBlobValid then s
    else ({ s with sec := { s.sec with owner := none, anchors := [], ownerEpoch := 0, resumptions := [] } }).raise
      329 2 .occurrence oneUnit 0 0
  let s := s.raise 329 3 .occurrence oneUnit s.sec.ownerEpoch.toNat 0
  let library := b.library.filter (fun x => s.sec.rollbackLibrary ≤ x.securityVersion)
  let s := s.raiseIf (library.isNone) 328 3 .fault oneUnit 0 0
  s.setEmber (fun x => { x with library := library })

/-- What the start test and the repair data find in the blocks of the start (R514, R528, R539). -/
def State.startTest (b : BootFindings) (s : State) : State :=
  let s := (s.setBist (fun x => { x with marks := x.storedMarks }))
  let entry (block index : Nat) (result : Nat) : BistResult :=
    { (default : BistResult) with
      block := block, origin := 5, index := index, result := result, slices := 1, firstBit := 0xFFFF, fails := 1
      frame := s.clock.frame }
  let banks := b.failedBanks.map (fun i => entry 6 i.val 1)
  let ways := b.failedWays.map (fun w => entry 10 w.val 2)
  let cores := b.failedCores.map (fun c => if c.val < 2 then entry 8 c.val 2 else entry 9 (c.val - 2) 2)
  let found := banks ++ ways ++ cores
  let s := s.raiseIf (!found.isEmpty) 374 1 .fault oneUnit found.length 0
  let s := b.failedWays.foldl (fun s w => s.raise 374 2 .occurrence w.val 0 0) s
  let s := if found.isEmpty then s else s.writeRepairs 5 found true
  -- a way that failed this time is disabled, and a spare bank that fails is no spare
  let spareBad := b.failedBanks.any (fun i => i.val == 16) || s.bist.marks.contains (6, 16)
  let first : Option (Fin 16) := s.fabric.faulty.head?.map (·.1)
  s.setFabric (fun f => { f with spareFor := if spareBad then none else first })

/-- What keeps a start in BOOT: two faulty management SRAM banks, or the fatal marks of R540 (R514, R527). -/
def State.startFatal (b : BootFindings) (s : State) : Bool :=
  let has (block index : Nat) : Bool := s.bist.marks.contains (block, index)
  let spareBad := b.failedBanks.any (fun i => i.val == 16) || has 6 16
  let bad := s.fabric.faulty.length
  let ways := (s.mgmt.l2Ways.toList.filter (fun w => w)).length
  decide (2 ≤ bad) || (spareBad && 1 ≤ bad) || (has 8 0 && has 8 1) || (has 9 0 && has 9 1) || s.bist.marks.any (fun m => m.1 == 7)
    || decide (4 ≤ ways)

/-- The management cores that are not marked enter BOOTING on the image (R418, R433, R452 step 4). -/
def State.releaseCores (image : ImageInfo) (s : State) : State :=
  let now := s.clock.tick
  let one (s : State) (i : Fin 2) : State :=
    if (s.core i).unusable then s
    else (s.setDomain (coreDomain i) .on).setCore i (fun c => { c with mode := .booting, image := image, marked := now })
  let s := (List.finRange 2).foldl one s
  s.setMgmt (fun m => { m with arbiterMode := s.rst.straps.mgmtArb, roleNext := now + m.rolePeriodH * 3600 * second })

/-- The stages of a start up to BOOTING, once the frame count is loaded (R526 stages 1 to 3, R527, R528). -/
def State.boot (cause : Nat) (b : BootFindings) (s : State) : State :=
  let frame := s.clock.frame
  let now := s.clock.tick
  let s := s.setRst (fun r => { r with released := now })
  let s := s.setEmber (fun x => { x with readNow := frame, readTo := frame })
  let scanned := s.sec.scanned
  let verifies := s.rst.kept && !scanned
  let s := s.startLog b verifies
  let s := (s.raise 373 cause .occurrence oneUnit 0 0).startRtc b
  let s := { s with sec := { s.sec with scanned := false } }
  let s := s.raiseIf scanned 380 1 .occurrence oneUnit 0 0
  let s := s.setFlash (fun f => { f with fifo := f.aborted.filterMap (fun x => if h : x < 4096 then some (.erase ⟨x, h⟩) else none)
                                         aborted := [] })
  let s := s.pumpFlash 4097
  let s := s.setMgmt (fun m => { m with slots := #v[⟨b.imageA⟩, ⟨b.imageB⟩] })
  -- the ROM refuses to boot a retired device (R445); with no image that verifies it enters recovery (R452)
  if s.sec.lifecycle = 2 then s.setService 4
  else match s.bootImage with
  | none =>
    let s := { s with sec := { s.sec with romRecovery := true } }
    (s.raise 328 2 .fault oneUnit 0 0).setService 4
  | some (slot, image) =>
    let s := s.raiseIf (slot != s.mgmt.bootSlot) 328 1 .fault oneUnit slot.val 0
    let s := s.startSecurity b image
    let lost := s.bist.lost
    let s := (s.setBist (fun x => { x with lost := false })).raiseIf lost 379 2 .loss oneUnit 1 0
    let s := [49, 50, 51].foldl (fun s (d : Fin 56) => s.setDomain d .on) s
    let s := (s.startTest b).applyMarks
    let s := s.raiseIf (!s.bist.repairs.isEmpty) 375 1 .repair oneUnit s.bist.repairs.length 0
    let s := s.raiseIf (!s.bist.marks.isEmpty) 375 2 .occurrence oneUnit s.bist.marks.length 0
    let journal := verifies && b.journalValid && !s.bist.journalBad && !s.badBetween 0x800000 0x900000
    let s := (s.setBist (fun x => { x with journalBad := false })).buildRecovery journal b.snapshotValid
    if s.startFatal b then s.setService 4
    else
      let s := s.releaseCores image
      if s.rst.straps.bistOnStart then s.startBist 1 fullSlices none else s

/-- POR_N_RELEASE: the straps are sampled, and the start begins when COLD_RST_N is high as well (R523, R526). -/
def State.porRelease (x : Straps) (b : BootFindings) (s : State) : State :=
  if !s.rst.porLow then s
  else
    let s := s.setRst (fun r => { r with porLow := false, straps := x })
    if s.rst.coldLow then s else s.boot 1 b

def execPorNRelease (straps : Straps) (b : BootFindings) (s : State) : Host.Outcome State Fault Refusal :=
  let u := if s.rst.porLow && !s.rst.coldLow then s.loadFrame else s
  .next (u.settledBoot (u.porRelease straps b))

/-- COLD_RST_N_RELEASE: a cold start on the straps sampled before (R524, R526). -/
def State.coldRelease (b : BootFindings) (s : State) : State :=
  if !s.rst.coldLow then s
  else
    let s := s.setRst (fun r => { r with coldLow := false })
    if s.rst.porLow then s else s.boot 2 b

def execColdRstNRelease (b : BootFindings) (s : State) : Host.Outcome State Fault Refusal :=
  let u := if s.rst.coldLow && !s.rst.porLow then s.loadFrame else s
  .next (u.settledBoot (u.coldRelease b))

/-- TINDER_SERVICE_START: the active bank comes from the persistent copy, and planes, clusters, lane groups and solver
cores are switched ON in that order (R149, R526 stage 4, R529, R555). -/
def State.tinderStart (s : State) : State :=
  if s.host.service != 0 || s.mgmt.owner.isNone || s.rst.porLow || s.rst.coldLow || s.bist.run.isSome then s
  else
    let now := s.clock.tick
    let s := (s.setRst (fun r => { r with tinderAt := now })).setCasc (fun c => { c with activeHeard := false })
    let s := match s.persistentCopy with
      | some b =>
        let b := { b with list := (b.derive).getD [] }
        { s with map := { s.map with active := { b with plane := [] }, toRebuild := b.plane, sharedPairs := b.sharedPairs } }
      | none => s.raise 364 3 .occurrence oneUnit 0 0
    let s := s.startMirroring
    let plane (s : State) (k : Fin 4) : State :=
      if s.map.planes[k].unusable then s
      else (s.setPlane k (fun q => { q with wanted := true })).requestDomain (planeDomain k) .on .device
    let s := (List.finRange 4).foldl plane s
    let s := (List.finRange 8).foldl (fun s c => s.requestDomain (clusterDomain c) .on .device) s
    let s := (List.finRange 32).foldl (fun s (g : Fin 32) => s.requestDomain ⟨g.val, by omega⟩ .on .device) s
    (s.requestDomain 46 .on .device).setService 1

def execTinderServiceStart (s : State) : Host.Outcome State Fault Refusal := .next (s.settled s.tinderStart)

/-- The spares take the logical engines of physical engines that are marked; without a spare an engine stays unmeasured
(R206, R540). -/
def State.assignSpares (s : State) : State :=
  (List.finRange 1024).foldl (fun s e =>
    let c := engineCluster e
    if s.ember.clusters[c].faulty.contains s.ember.engines[e].physical then
      let s := s.setEngine e (fun g => { g with out := true })
      match s.spareEngine c with
      | some x => s.setEngine e (fun g => { g with out := false, physical := x })
      | none => s
    else s) s

/-- Whether a drive is as declared (R30, R232). -/
def DriveEntry.matches (e : DriveEntry) (x : DriveIdentity) : Bool :=
  x.drive == e.drive && x.rootPort == e.rootPort && x.link.val == e.link && x.capacity == e.capacity && x.model == e.model
    && x.serial == e.serial && x.capable

/-- The drives at a start of full service: the durable declaration comes into force and each drive is checked (R30, R232,
R386). -/
def State.startDrives (b : FullFindings) (s : State) : State :=
  let new := s.cap.drivesDurable
  let replaced (d : Fin 16) : Bool := new.entries.find? (fun e => e.drive == d) != s.cap.drives.entries.find? (fun e => e.drive == d)
  -- a drive stays failed until a replacement is declared and appears (R237)
  let failed (d : Fin 16) : Bool := s.cap.driveFailed[d] && (match new.entries.find? (fun e => e.drive == d), s.cap.failedDrive[d] with
    | some e, some x => e.model == x.model && e.serial == x.serial
    | some _, none => true
    | none, _ => true)
  let good (d : Fin 16) : Bool := match new.entries.find? (fun e => e.drive == d) with
    | some e => b.drives.any (fun x => e.matches x)
    | none => false
  let declared (d : Fin 16) : Bool := new.entries.any (fun e => e.drive == d)
  -- a member on a drive that failed, or that another drive replaces, holds no copy until the mirror is rebuilt
  let stale (d : Fin 16) : Bool := s.cap.driveFailed[d] || replaced d || !good d
  let s := s.setCap (fun c =>
    { c with
      namespaces := c.namespaces.map (fun n =>
        { n with failed := n.failed ++ (n.members.zipIdx.filterMap (fun m =>
          if stale m.1.1 && !n.failed.contains m.2 then some m.2 else none)) })
      drives := new, drivesHeld := new
      driveBad := Vector.ofFn (fun d => declared d && !good d), driveFailed := Vector.ofFn failed
      failedDrive := Vector.ofFn (fun d => if failed d then c.failedDrive[d] else none) })
  let s := (List.finRange 16).foldl (fun s d => s.raiseIf (declared d && !good d) (202 + d.val) 2 .occurrence d.val 0 0) s
  b.drives.foldl (fun s x => s.raiseIf (x.slower && good x.drive) (202 + x.drive.val) 3 .occurrence x.drive.val 0 0) s

/-- A namespace at a start of full service (R232, R237, R238, R531). -/
def State.startNamespace (b : FullFindings) (s : State) (n : Fin 32) : State :=
  let x := s.cap.namespaces[n]
  if x.mode == .undeclared then s
  else
    let unsealed := (s.cap.interrupted.filter (fun c => c.entry.namespace_ == n && c.inLog)).map (fun c => (c.sequence, c.offset, c.length))
    let s := s.setNs n (fun x => { x with head := x.scannedHead unsealed })
    let pairs := List.range (x.members.length / 2)
    let lostPair := pairs.any (fun k => x.failed.contains (2 * k) && x.failed.contains (2 * k + 1))
    let mode : StoreMode :=
      if !b.namespaces.contains n then .failed
      else if !x.mirror then (if x.failed.isEmpty then .ok else .failed)
      else if lostPair then .failed
      else if x.failed.isEmpty then .ok
      else if x.failed.all (s.memberLost n) then .degraded else .rebuilding
    s.setNsMode n mode

/-- A capture that a loss of power left open: stored when its trailer is in the drives, and else ended in a failure record
with reason POWER (R238). -/
def State.afterLoss (c : Capture) (s : State) : State :=
  let c := { c with aborts := [] }
  match c.built with
  | some o =>
    if Config.trailerSurvives c.sequence then s.storeCapture c o
    else s.failCapture { c with failing := none, built := none } 4
  | none => s.failCapture { c with failing := none } 4

/-- FULL_SERVICE_START: clusters, recipes, triggers, the ring and the store begin together; what cannot is left out, with
an event (R531, R197, R221, R225, R238). -/
def State.fullStart (b : FullFindings) (s : State) : State :=
  if s.host.service != 1 then s
  else
    -- ports that wait in TINDER train anew (R91)
    let s := (List.finRange 512).foldl (fun s p =>
      if (s.port p).mode == .tinder then (s.setPort p (fun q => { q with fastTrain := false })).setPortMode p .training else s) s
    let s := (List.finRange 1024).foldl (fun s e => (s.setEngine e (Engine.closeTinder true)).writeTinder e) s
    let s := match s.ember.persisted with
      | some (set, gen) => s.setEmber (fun x => { x with active := set, generation := gen })
      | none => s
    let s := s.assignSpares
    let cluster (s : State) (c : Fin 8) : State :=
      if b.clusters.contains c && s.ember.library.isSome && s.domainOn (clusterDomain c) then s.runCluster c
      else (s.raise (128 + c.val) 7 .fault c.val 0 0).raise 381 1 .occurrence c.val 0 0
    let s := (List.finRange 8).foldl cluster s
    let s := (List.finRange 2).foldl (fun s i =>
      if b.solvers.contains i then s
      else ({ s with mgmt := { s.mgmt with solverFailed := s.mgmt.solverFailed.set i true }
                     map := { s.map with solverDoubled := true } }).raise 381 1 .occurrence i.val 1 0) s
    let s := s.startDrives b
    let s := (List.finRange 32).foldl (State.startNamespace b) s
    let missing := (List.finRange 32).filter (fun n => s.cap.namespaces[n].mode != .undeclared && !b.namespaces.contains n)
    let s := missing.foldl (fun s n => s.raise 381 1 .occurrence n.val 2 0) s
    let lost := s.cap.interrupted
    let s := s.setCap (fun c => { c with interrupted := [], captures := lost })
    let s := lost.foldl (fun s c => s.afterLoss c) s
    let s := s.writeKeyObjects
    let s := match s.cap.persisted with
      | some (bank, gen, armed) =>
        let s : State := s.setCap (fun c => { c with active := bank, generation := gen })
        (List.finRange 64).foldl (fun (s : State) (t : Fin 64) => s.installChannel bank (armed.getLsbD t.val) t) s
      | none => s.setCap (fun c => { c with active := .empty, generation := 0 })
    let s := s.namedLost (List.finRange 64)
    let works := !s.marked 4 0
    let first : BitVec 64 := s.clock.frame + 1
    let s := s.setCap (fun c => { c with ringOn := works, ringStart := first, ring := [], gapFrames := 0, bytesStored := 0, failureRecords := 0 })
    let s := if works then s.setDomain 48 .on else s.raise 381 1 .occurrence 0 3 0
    let s := s.setService 2
    if s.map.rerouteWanted || s.needsReroute then s.startReroute else s

def execFullServiceStart (b : FullFindings) (s : State) : Host.Outcome State Fault Refusal := .next (s.settled (s.fullStart b))

/-- The recovery snapshot: the token window of every channel (R327, R517). -/
def State.writeSnapshot (s : State) : State :=
  let xs := (List.finRange 8).flatMap (fun c => (s.chan c).window.map (fun e =>
    ({ token := e.token, opcode := e.opcode, channel := c, durable := e.durable } : SnapshotEntry)))
  s.setHost (fun h => { h with snapshot := some xs, snapshotBlank := false })

/-- The device leaves its cascade and runs from its own selected reference (R257, R369). -/
def State.leaveCascade (s : State) : State :=
  let followed := s.casc.mode != .standalone && !s.isMaster
  let s := if followed then s.leaveTick else s
  let s := ((s.setRole .slave).setCascMode .standalone).setMstAct false
  s.setCasc (fun c =>
    { CascadeState.reset with
      mode := c.mode, role := c.role, mstInhIn := c.mstInhIn, arbSel := c.arbSel, inputs := c.inputs
      flywheelTicks := c.flywheelTicks, nextSwapId := c.nextSwapId, rejoinInvalid := c.rejoinInvalid })

/-- A domain goes OFF in the shutdown sequence. -/
def State.shutDomain (d : Fin 56) (s : State) : State :=
  if s.pwr.modes[d] == .off then s else ((s.leaveDomain d .off).setDomain d .off).reachDomain d .off

/-- Every posted record buffer completes at once, the empty ones too (R376). -/
def State.flushBuffers (s : State) : State :=
  let bs := s.ember.buffers
  bs.foldl (fun s b => s.completeBuffer b) (s.setEmber (fun x => { x with buffers := [] }))

/-- SHUTDOWN_SEQUENCE: steps 1 to 5 of R532 once the last open capture is sealed, then BIST, or HALTED (R411, R532). -/
def State.shutdownSteps (s : State) : State :=
  match s.rst.shutdown with
  | none => s
  | some (_, bist) =>
    if s.host.service != 3 || !s.cap.captures.isEmpty || s.bist.run.isSome || s.casc.swap.isSome then s
    else
      let s := match s.casc.mode with
        | .joined => if s.isMaster then s.releaseRole else s.leaveCascade
        | .joining | .flywheel => s.leaveCascade
        | .standalone => s
      let s := ((List.finRange 512).filter (fun p => (s.port p).mode != .down)).foldl (fun s p => s.portDown p) s
      let s := (List.finRange 8).foldl (fun s c => s.stopCluster c) s
      let s := s.flushBuffers
      let s := { s with pwr := { s.pwr with running := none, waiting := [] } }
      let off : List (Fin 56) := (List.finRange 56).filter (fun d => d.val < 44 || d.val == 46 || (48 ≤ d.val && d.val < 52))
      let s := off.foldl (fun s d => s.shutDomain d) s
      let s := { s with map := { s.map with planes := s.map.planes.map (fun (k : Plane) => { k with mode := .off, wanted := false }) } }
      let s := (s.flushAll 512).writeSnapshot
      if bist then s.startBist 2 fullSlices none else s.halt

def execShutdownSequence (s : State) : Host.Outcome State Fault Refusal := .next (s.settledFabric s.shutdownSteps)

/-- PWR_FAIL_N_ASSERT: the last record, the end of a freeze, the retention copy, the loss record and the recovery
snapshot (R327, R487 steps 1 to 3, R503, R520). -/
def State.powerFail (s : State) : State :=
  if s.rst.pwrFailLow then s
  else
    let s := s.raiseSev 392 1 .occurrence 14 oneUnit 0 0
    let s := s.setEv (fun e => { e with powerFailing := true, frozenUntil := none, holds := 0 })
    let frame := s.clock.frame
    let copy : RetentionCopy :=
      { records := s.ev.recent, unflushed := s.ev.buffer.length, flushedAfter := 0, suppressed := 0, copyFrame := frame }
    let s := s.setEv (fun e => { e with retention := some copy, retentionOk := true })
    let loss := BitVec.ofNat 64 s.rtcNow
    let s := s.setRtc (fun r => { r with lossRtc := loss, lossFrame := frame, lossCount := r.lossCount + 1, lossOk := true })
    let s := s.setFlash FlashState.abort
    ((s.writeSnapshot).setRst (fun r => { r with pwrFailLow := true })).judgeLapse

def execPwrFailNAssert (s : State) : Host.Outcome State Fault Refusal := .next (s.settled s.powerFail)

end Sys2Proof.Machine
end

