-- ==== Sys2Proof/Machine/PortReceive.lean ====
section
/-! DEFINITION. The receive chain of a line port (R66 to R89) and the port's own events (R70, R82, R83, R85, R88,
R91, R92). -/
namespace Sys2Proof.Machine

/-- What a line frame in SYNC has given: its number, whether its tag passed, its plaintext body, its information
bits, and its uncorrectable codewords. -/
structure Received where
  number : BitVec 64
  tagOk  : Bool
  info   : InfoBits
  body   : BitVec 50368
  bad    : Nat

/-- Count the FEC results of a frame (R69, R70). -/
def Port.countFec (cws : List FecOut) (q : Port) : Port :=
  let symbols := (cws.map (fun o => o.corrected)).sum
  let words := (cws.filter (fun o => decide (0 < o.corrected))).length
  let bad := (cws.filter (fun o => o.uncorrectable)).length
  let q := ((q.count .correctedSymbols symbols).count .correctedCodewords words).count .uncorrectable bad
  { q with winSymbols := q.winSymbols + symbols, winBad := q.winBad + bad }

/-- The key slot that a version byte names (R39). -/
def kidOf (v : BitVec 8) : Fin 2 := if v.getLsbD 5 then 1 else 0

/-- The key in a receive slot, and in a transmit slot. -/
def LinkState.rxSlot (l : LinkState) (k : Fin 2) : Option LinkKey := l.rxSlots[k]
def LinkState.txSlot (l : LinkState) (k : Fin 2) : Option LinkKey := l.txSlots[k]

/-- Check the tag with the key in the slot that KID names (R54, R55, R457); a frame that fails is numbered one
greater than the frame before it (R74). -/
def Port.openInfo (q : Port) (bad : Nat) (info : InfoBits) (kid : Fin 2) : Received :=
  match q.link.rxSlot kid with
  | none => { number := q.number + 1, tagOk := false, info := info, body := 0, bad := bad }
  | some k =>
    match gcmOpen k.key (linkIv info.frameNumber q.peerLane k.session.val kid.val) info.aad info.body info.tag with
    | none => { number := q.number + 1, tagOk := false, info := info, body := 0, bad := bad }
    | some b => { number := info.frameNumber, tagOk := true, info := info, body := b, bad := bad }

/-- Whether descrambled information bits are opened, and with what. -/
def Port.openDescrambled (q : Port) (bad : Nat) (info : InfoBits) : Received :=
  q.openInfo bad info (kidOf info.versionFormat)

/-- Decode, descramble and open a line frame (R57, R66, R68). -/
def Port.openCodewords (q : Port) (cws : List FecOut) : Received :=
  q.openDescrambled ((cws.filter (fun o => o.uncorrectable)).length) (scramble (infoOf cws))

/-- Number the frame; a step of an authenticated number is an event (R74). -/
def State.numberFrame (p : PortNo) (x : Received) (s : State) : State :=
  let old := (s.port p).number
  (s.setPort p (fun q => { q with number := x.number })).raiseIf (x.tagOk && x.number != old + 1)
    (portSource p) 12 .occurrence p.val old.toNat x.number.toNat

/-- Tag failures: counter, AUTH after 8 in a row, clear after 8 passes (R69, R83, R465). -/
def State.judgeTag (p : PortNo) (x : Received) (s : State) : State :=
  if x.tagOk then
    let s := s.setPort p (fun q => { q with passRun := q.passRun + 1, failRun := 0 })
    if 8 ≤ (s.port p).passRun && !(s.port p).authHeld then s.setDefect p .auth false else s
  else
    let s := s.setPort p (fun q => ({ q with failRun := q.failRun + 1, passRun := 0 }).count .tagFailures 1)
    if 8 ≤ (s.port p).failRun then s.setDefect p .auth true else s

/-- CRC of a frame that passed its tag check (R52, R53). The CRC covers the values before scrambling. -/
def State.judgeCrc (p : PortNo) (x : Received) (s : State) : State :=
  if x.tagOk && crc32 x.info.crcBytes != x.info.crc then
    (s.setPort p (Port.count .crcFailures 1)).raise (portSource p) 13 .occurrence p.val 0 0
  else s

/-- The REI result of a frame (R86). -/
def reiResult (x : Received) : Nat := if x.bad = 0 && !x.tagOk then 15 else min x.bad 10

/-- Queue the REI result for the transmitter, and count the REI received (R69, R86). -/
def State.countRei (p : PortNo) (x : Received) (s : State) : State :=
  let rei := (x.info.indications.extractLsb' 0 4).toNat
  s.setPort p (fun q =>
    let q := { q with tx := { q.tx with rei := q.tx.rei ++ [reiResult x] } }
    if 11 ≤ rei then q.count .reiTag 1 else q.count .rei rei)

/-- RDI_RX, FAR_STOPPED and received ULS (R82, R85, R94), from frames that pass their tag check: the indications of others are
not authenticated (DESIGN CHOICE, log 56). -/
def State.takeIndications (p : PortNo) (x : Received) (s : State) : State :=
  if !x.tagOk then s
  else
    let q := s.port p
    let ind := x.info.indications
    let cv := x.info.versionFormat.extractLsb' 6 2
    let s := s.setPort p (fun q => { q with
      rdiRx := ind.getLsbD 7, farStopped := ind.getLsbD 5, rxVersion := cv, farUls := cv == 3 && ind.getLsbD 4 })
    (s.raiseFlag q.rdiRx (ind.getLsbD 7) (portSource p) 9 p.val).raiseFlag q.farStopped (ind.getLsbD 5)
      (portSource p) 10 p.val

/-- What a frame says against the declared role (R30, R40): another collar version; in a version that defines them, a SEAM bit
other than the role's, or on a seam link a sender other than the declared partner (DEDUCED, log 58: R83 names the version alone,
R30 the cascade channel content too). -/
def State.roleMismatch (s : State) (p : PortNo) (x : Received) : Bool :=
  let t := (s.port p).settings
  let cv := x.info.versionFormat.extractLsb' 6 2
  let sender := byteAt (collarBytes x.info 101 1) 0 % 64
  let partner := (s.casc.declaration.bind (fun d => d.seams.find? (fun y => y.port == p))).map (fun y => y.partner.val)
  cv != t.version
    || (decide (2 ≤ cv.toNat) && (x.info.versionFormat.getLsbD 4 != (t.role == .seam)
      || (t.role == .seam && partner.isSome && partner != some sender)))

/-- The role check; 64 good frames clear it (R30, R40, R83). -/
def State.judgeRole (p : PortNo) (x : Received) (s : State) : State :=
  let q := s.port p
  if !x.tagOk || !q.checksRun then s
  else if s.roleMismatch p x then
    (s.setPort p (fun q => { q with roleRun := 0 })).setDefect p .role true
  else
    let s := s.setPort p (fun q => { q with roleRun := q.roleRun + 1 })
    if 64 ≤ (s.port p).roleRun then s.setDefect p .role false else s

/-- A trace message is complete: accept it after 3 identical ones (R87). -/
def State.takeTrace (p : PortNo) (m : List Byte) (s : State) : State :=
  let ok := byteAt m 0 == 1 && bytesOf (crc32 (m.take 60)) == (m.drop 60).take 4
  if !ok then s
  else
    let s := s.setPort p (fun q =>
      let run := if q.trace.last == m then q.trace.run + 1 else 1
      { q with trace := { q.trace with last := m, run := run
                                       accepted := if 3 ≤ run then some m else q.trace.accepted
                                       found := q.trace.found || decide (3 ≤ run) } })
    if 3 ≤ (s.port p).trace.run then s.judgeTrace p else s

/-- The trail-trace quarter of a frame (R48, R87). -/
def State.traceQuarter (p : PortNo) (x : Received) (s : State) : State :=
  let i := x.number.toNat % 4
  let seg := collarBytes x.info 76 16
  let t := (s.port p).trace
  let parts := if i = 0 then [seg] else if t.parts.length = i then t.parts ++ [seg] else []
  let spoiled := (i != 0 && t.spoiled) || !x.tagOk
  let done := parts.length == 4
  let s := s.setPort p (fun q => { q with trace :=
    { q.trace with parts := if done then [] else parts, spoiled := spoiled, since := q.trace.since + 1 } })
  if done && !spoiled then s.takeTrace p parts.flatten else s

/-- PROT_CH of a frame that passed its tag check (R170). -/
def ProtChannel.take (v : BitVec 64) (c : ProtChannel) : ProtChannel :=
  let run := if v = c.last then c.run + 1 else 1
  { c with last := v, run := run, accepted := if 3 ≤ run then some v else c.accepted
           waiting := if 3 ≤ run then 0 else c.waiting + 1, clean := if 3 ≤ run then c.clean + 1 else 0 }

/-- The seam version of a link and the heartbeat of its cascade channel (R287, R289, R295). -/
def SeamState.take (bytes : List Byte) (x : SeamState) : SeamState :=
  let far := BitVec.ofNat 4 (byteAt bytes 0 / 16)
  let run := if far = x.farMax then x.farRun + 1 else 1
  let hb := BitVec.ofNat 16 (beNat ((bytes.drop 2).take 2))
  { x with farMax := far, farRun := run, farRole := BitVec.ofNat 2 (byteAt bytes 1 / 64)
           version := if 3 ≤ run then (if far < 3 then far else 3) else x.version
           heartbeat := hb, unchanged := if hb = x.heartbeat then x.unchanged + 1 else 0 }

/-- The channels of a frame that passed its tag check: PROT_CH, CASC_CH on a seam link, KEY_CH (R50). A frame that
failed it ends a message being assembled (R458). -/
def State.takeChannels (p : PortNo) (x : Received) (s : State) : State :=
  if !x.tagOk then s.setLink p (fun l => { l with assembly := none })
  else
    let q := s.port p
    let s := s.setPort p (fun q => { q with protRx := q.protRx.take (collarField x.info 92 8) })
    let s := s.setLink p (LinkState.assemble (collarBytes x.info 116 8))
    -- the cascade listens to an authenticated partner alone (R30)
    if q.settings.role = .seam && 2 ≤ (x.info.versionFormat.extractLsb' 6 2).toNat && q.link.keyed && !q.has .auth then
      let old := s.casc.seams.find? (fun y => y.port == p)
      let s := { s with casc := { s.casc with
        seams := updateFirst (fun y => y.port == p) (SeamState.take (collarBytes x.info 100 16)) s.casc.seams
        heartbeat := BitVec.ofNat 16 (beNat (collarBytes x.info 102 2)) } }
      match old, s.casc.seams.find? (fun y => y.port == p) with
      | some a, some b => s.raiseState a.version.toNat b.version.toNat 268 1 p.val
      | _, _ => s
    else s

/-- KID of a frame that passed its tag check (R464). -/
def State.takeKid (p : PortNo) (x : Received) (s : State) : State :=
  if !x.tagOk then s
  else
    let kid := kidOf x.info.versionFormat
    let now := s.clock.tick
    s.setLink p (fun l =>
      let moved := l.rxKid != kid
      let l := { l with rxKid := kid }
      if moved && l.bothMoved then { l with movedAt := some now } else l)

/-- How many slots a received map marks invalid. -/
def invalidSlots (m : BitVec 256) : Nat := 256 - popCount m 256

/-- The threshold of the group that a port is in (R153); 257 for a port in none. -/
def State.invalidThreshold (s : State) (p : PortNo) : Nat :=
  match s.prot.groups.toList.find? (fun g =>
    match g with | some g => g.protect == p || g.working.contains p | none => false) with
  | some (some g) => g.settings.threshold
  | _ => 257

/-- The protect port of a 1:N group whose far end bridges nothing and does not stop its port: it carries nothing, and its map marks
every slot invalid (R173). -/
def State.protectIdle (s : State) (p : PortNo) : Bool :=
  s.prot.groups.toList.any (fun g =>
    match g with
    | some g => g.oneToN && g.protect == p && farBridged ((s.port p).protRx.accepted.getD 0) == 0 && !(s.port p).farStopped
    | none => false)

/-- The invalid-slots condition of a group member (R156). The protect port of a 1:N group is not judged by it while
it carries nothing (DEDUCED, log 47: R173 gives such frames an empty map, and R167 to R172 a working protect). -/
def State.judgeInvalidSlots (p : PortNo) (x : Received) (s : State) : State :=
  if !x.tagOk then s
  else if s.protectIdle p then s.setPort p (fun q => { q with invalidRun := 0, validRun := 0, invalidCond := false })
  else
    let above := s.invalidThreshold p ≤ invalidSlots x.info.validity
    s.setPort p (fun q =>
      let bad := if above then q.invalidRun + 1 else 0
      let good := if above then 0 else q.validRun + 1
      { q with invalidRun := bad, validRun := good
               invalidCond := if 8 ≤ bad then true else if 8 ≤ good then false else q.invalidCond })

/-- Half a tick's width and a tick's width in 50 ps units. -/
def tickUnits : Int := 10000

/-- θ of an envelope frame, and its bounds since the last report (R81, R115). -/
def Port.noteTheta (n : BitVec 64) (th : Int) (q : Port) : Port :=
  { q with theta := th, thetaSeen := true
           thetaMin := if q.thetaSeen then min q.thetaMin th else th, thetaMax := if q.thetaSeen then max q.thetaMax th else th
           thetaPast := (n, th) :: (q.thetaPast.take 4194303) }

/-- Whether the frequency estimate exceeds 1 × 10⁻⁵ in size, whatever its sign (R82; DESIGN CHOICE, log 54). -/
def Port.offFrequency (n : BitVec 64) (th : Int) (q : Port) : Bool :=
  match q.thetaPast.find? (fun x => x.1 == n - 4194304) with
  | some (_, old) => 4194304 * tickUnits < (th - old).natAbs * 100000
  | none => false

/-- Put an envelope frame into the alignment buffer, which holds 18 (R79, R114). -/
def Port.bufferFrame (e : Envelope) (q : Port) : Port :=
  { q with buffer := lastN 18 (q.buffer.filter (fun x => x.number != e.number) ++ [e]) }

/-- Declare ULS. -/
def State.declareUls (p : PortNo) (s : State) : State := s.setDefect p .uls true

/-- Record `n` slips, which concern the input frames from `frame` on (R69, R81, R82). -/
def State.slipBy (p : PortNo) (d : Int) (n : Nat) (frame : BitVec 64) (s : State) : State :=
  let k := min n 32
  let frames := (List.range k).map (fun i => frame + BitVec.ofNat 64 (n - k + i))
  (s.setPort p (fun q =>
    ({ q with slip := d, sinceSlip := 0, slipFrames := lastN 32 (q.slipFrames ++ frames) }).count .slips n)).declareUls p

/-- Write envelope frame `e`, whose number is the source's, under its input frame number; slip where its arrival is
outside the accepted range (R81, R113). Only an UP port slips; in other states a frame outside is not written. A frame that is
late by several frames makes that many slips at once (DESIGN CHOICE, log 55). -/
def State.storeEnvelope (p : PortNo) (e : Envelope) (theta : Int) (s : State) : State :=
  let q := s.port p
  let off := q.offFrequency e.number theta
  let s := s.setPort p (fun q => { (q.noteTheta e.number theta) with sinceSlip := q.sinceSlip + 1 })
  let s := if off then s.declareUls p else s
  let shifted := theta - tickUnits * q.slip
  let input : BitVec 64 := e.number + BitVec.ofInt 64 q.slip
  if shifted ≤ -tickUnits && decide (-(q.settings.window.val + 2 : Int) * tickUnits < shifted) then
    s.setPort p (Port.bufferFrame { e with number := input })
  else if q.mode != .up then s
  else if -tickUnits < shifted then
    -- late: the input frame stays empty, and the frame is written under the next number that its arrival allows
    let n := ((shifted + tickUnits + (tickUnits - 1)) / tickUnits).toNat
    let s := s.slipBy p (q.slip + n) n input
    s.setPort p (Port.bufferFrame { e with number := input + BitVec.ofNat 64 n })
  else s.slipBy p (q.slip - 1) 1 input

/-- The slots of a line frame in stream order (R46), with the pleat decision acted on. -/
def streamSlots (b : BitVec 50368) (pleat : Pleat) (v : Nat) : List (BitVec 192) :=
  let slots := slotsOf (bodyPayload b)
  match pleat with
  | .normal => slots
  | .increment => slots.take v ++ slots.drop (v + 1)
  | .decrement => bodyNegPleat b :: slots

/-- The pointer processor: decide, act on, ignore, jump (R75 to R78). -/
def PointerState.step (tagOk : Bool) (value : Nat) (vote : Pleat) (t : PointerState) : Pleat × Bool × Bool × PointerState :=
  -- answer: the pleat acted on, a rule violation (any decision in the 3 frames after an adjustment), a jump, and the
  -- state for the next frame
  let t := { t with sinceAdjust := t.sinceAdjust + 1 }
  let allowed := match vote with | .increment => decide (t.value < 255) | .decrement => decide (0 < t.value) | .normal => false
  let early := vote != .normal && decide (t.sinceAdjust < 4)
  let wants := vote != .normal && value == t.value && allowed && !early
  if wants then
    let v := match vote with | .increment => t.value + 1 | .decrement => t.value - 1 | .normal => t.value
    (vote, false, false, { t with value := v, sinceAdjust := 0, jumpRun := 0, disagree := 0, equalRun := t.equalRun + 1 })
  else if value == t.value then
    (.normal, early, false, { t with jumpRun := if tagOk then 0 else t.jumpRun, disagree := 0, equalRun := t.equalRun + 1 })
  else
    let run := if !tagOk then t.jumpRun else if t.jumpRun != 0 && t.jumpValue == value then t.jumpRun + 1 else 1
    if tagOk && 3 ≤ run then
      (.normal, early, true, { t with value := value, jumpRun := 0, disagree := 0, equalRun := 1 })
    else
      (.normal, early, false,
        { t with jumpValue := if tagOk then value else t.jumpValue, jumpRun := run
                 disagree := t.disagree + 1, equalRun := 0 })

/-- Reassemble envelope frames (R42, R44, R45, R77, R79). -/
def State.takeSlots (p : PortNo) (x : Received) (pleat : Pleat) (v : Nat) (jumped : Bool) (theta : Int) (s : State) : State :=
  let q := s.port p
  let stream := streamSlots x.body pleat v
  let lop := q.has .lop
  -- the envelope frame that the last line frame began
  let s :=
    match q.part with
    | some e =>
      if !jumped && !lop && e.number + 1 == x.number && e.slots + v == 256 then
        let payload := e.payload ||| payloadOfSlots (List.replicate (256 - v) 0 ++ stream.take v)
        let late : BitVec 256 := if x.tagOk then 0 else BitVec.ofNat 256 (2 ^ v - 1)
        s.storeEnvelope p { number := e.number, payload := payload, validity := e.validity, unauth := late
                            tagFailed := e.tagFailed, aux := e.aux } theta
      else s
    | none => s
  let rest := (stream.drop v).take 256
  let aux := if x.tagOk then bodyAux x.body else 0
  if lop then s.setPort p (fun q => { q with part := none })
  else if rest.length = 256 then
    (s.setPort p (fun q => { q with part := none })).storeEnvelope p
      (Envelope.mk x.number (payloadOfSlots rest) x.info.validity 0 (!x.tagOk) aux) theta
  else
    let e := PartialEnvelope.mk x.number (payloadOfSlots (rest ++ List.replicate (256 - rest.length) 0)) rest.length
      x.info.validity (!x.tagOk) aux
    s.setPort p (fun q => { q with part := some e })

/-- The pointer of a frame, its counters and the LOP defect, then its slots (R75 to R79). The first current value after the entry
into SYNC is that of the first frame in SYNC, whether or not its tag passes (DESIGN CHOICE, log 57). -/
def State.takePointer (p : PortNo) (x : Received) (theta : Int) (s : State) : State :=
  let q := s.port p
  let value := x.info.pointer.toNat
  let t0 := if q.pointer.known then q.pointer else { q.pointer with value := value, known := true }
  let (pleat, violation, jumped, t) := t0.step x.tagOk value (pleatVote x.info.pleatBits)
  -- the value by which this frame's slots stand: the one before its own adjustment, or the one just adopted
  let v := if jumped then t.value else t0.value
  let s := s.setPort p (fun q =>
    let q := { q with pointer := t, jumpFirst := if t.jumpRun = 1 && x.tagOk then x.number else q.jumpFirst }
    let q := if violation then q.count .violations 1 else q
    let q := if jumped then q.count .jumps 1 else q
    match pleat with
    | .normal => q
    | .increment => q.count .increments 1
    | .decrement => q.count .decrements 1)
  let s :=
    if jumped then
      -- the envelope frames begun since the first frame of the run are absent
      let gone (n : BitVec 64) : Bool :=
        let m := n - BitVec.ofInt 64 (s.port p).slip
        ((s.port p).jumpFirst - 1 < m) && (m < x.number)
      (s.setPort p (fun q => { q with part := none, buffer := q.buffer.filter (fun e => !gone e.number) })).setDefect p .lop false
    else s
  let s := if 8 ≤ t.disagree then s.setDefect p .lop true else s
  let s := if (s.port p).has .lop && 3 ≤ t.equalRun then s.setDefect p .lop false else s
  s.takeSlots p x pleat v jumped theta

/-- The processing of a frame once it is opened (R66). -/
def State.takeFrame (p : PortNo) (theta : Int) (cws : List FecOut) (x : Received) (s : State) : State :=
  let s := (s.tally 1 p.val 1 1).setPort p (Port.countFec cws)
  let s := s.numberFrame p x
  let s := ((s.judgeTag p x).judgeCrc p x).countRei p x
  let s := (s.takeIndications p x).judgeRole p x
  let s := s.traceQuarter p x
  let s := (s.takeChannels p x).takeKid p x
  (s.judgeInvalidSlots p x).takePointer p x theta

/-- A frame delimited in SYNC, its codewords decoded (R66, R73). -/
def State.receiveCodewords (p : PortNo) (theta : Int) (cws : List FecOut) (s : State) : State :=
  s.takeFrame p theta cws ((s.port p).openCodewords cws)

/-- A frame delimited in SYNC (R66, R73). -/
def State.receiveFrame (p : PortNo) (f : LineFrame) (s : State) : State :=
  s.receiveCodewords p f.theta (decodeLine f.bits)

/-- The aligner enters SYNC: LOF clears, trace acceptance starts, and a key agreement starts when the port holds K0
alone (R71, R83, R88, R461). -/
def State.enterSync (p : PortNo) (s : State) : State :=
  let s := s.setPort p (fun q => { q with aligner := .sync, confirms := 0, misses := 0, pointer := .fresh, part := none })
  let s := (s.setDefect p .lof false).startTrace p
  let l := (s.port p).link
  if l.agreement.isNone && !l.keyed && l.retryAt.isNone && !l.waiting then s.startAgreement p false else s

/-- The aligner and what it delimits (R71, R72, R73). The fourth frame in a row without a hit leaves SYNC and is not processed
(DESIGN CHOICE, log 49). -/
def State.receiveLine (p : PortNo) (f : LineFrame) (s : State) : State :=
  let q := s.port p
  if !q.receiving || q.has .los then s
  else
    match q.aligner with
    | .hunt =>
      if !fawExact f.bits then s.setPort p (fun q => { q with candidates := q.candidates.filter (· != f.position) })
      else if q.candidates.contains f.position then
        s.setPort p (fun q => { q with aligner := .presync, position := f.position, candidates := [], confirms := 0
                                       number := rawNumber f.bits })
      else s.setPort p (fun q => { q with candidates := f.position :: q.candidates })
    | .presync =>
      if f.position != q.position then s
      else if fawExact f.bits && rawNumber f.bits == q.number + 1 then
        let s := s.setPort p (fun q => { q with confirms := q.confirms + 1 })
        if 2 ≤ q.confirms + 1 then (s.enterSync p).receiveFrame p f
        else s.setPort p (fun q => { q with number := q.number + 1 })
      else s.setPort p (fun q => { q with aligner := .hunt, candidates := [], confirms := 0 })
    | .sync =>
      if f.position != q.position then s
      else
        let misses := if fawHit f.bits then 0 else q.misses + 1
        if 4 ≤ misses then s.loseAlignment p
        else (s.setPort p (fun q => { q with misses := misses })).receiveFrame p f

/-- LINE_FRAME_RECEIVED (R66). -/
def execLineFrameReceived (p : PortNo) (f : LineFrame) (s : State) : Host.Outcome State Fault Refusal :=
  .next (s.settled (s.receiveLine p f))

/-- LOS_DECLARE: 2 consecutive ticks without signal or clock recovery; the aligner goes to HUNT (R71, R83). -/
def State.declareLos (p : PortNo) (s : State) : State :=
  if (s.port p).receiving then (s.setDefect p .los true).loseAlignment p else s

def execLosDeclare (p : PortNo) (s : State) : Host.Outcome State Fault Refusal := .next (s.settled (s.declareLos p))

/-- LOS_CLEAR: signal and clock recovery for 8 consecutive ticks (R83). -/
def execLosClear (p : PortNo) (s : State) : Host.Outcome State Fault Refusal := .next (s.settled (s.setDefect p .los false))

/-- The denominator of the symbol error ratio (R70). -/
def serSymbols : Nat := 65536 * 5440

/-- The end of an SD window (R70): SD_SET and SD_CLEAR are m × 10⁻ᵉ. -/
def State.endSdWindow (p : PortNo) (s : State) : State :=
  let q := s.port p
  let n := q.winSymbols + 16 * q.winBad
  let above := q.sdSet.1.val * serSymbols < n * 10 ^ q.sdSet.2.val
  let under := n * 10 ^ q.sdClear.2.val < q.sdClear.1.val * serSymbols
  let s := s.setPort p (fun q => { q with winSymbols := 0, winBad := 0, lastSer := n })
  if above then s.setDefect p .sd true else if under then s.setDefect p .sd false else s

def execSdWindowEnd (p : PortNo) (s : State) : Host.Outcome State Fault Refusal := .next (s.settled (s.endSdWindow p))

/-- ULS clears when d is 0 and no slip has occurred for the last 2^22 frames (R82). -/
def State.clearUls (p : PortNo) (s : State) : State :=
  let q := s.port p
  if q.slip = 0 ∧ 4194304 ≤ q.sinceSlip then s.setDefect p .uls false else s

def execUlsClear (p : PortNo) (s : State) : Host.Outcome State Fault Refusal := .next (s.settled (s.clearUls p))

/-- TIM when no message has been accepted within 256 frames of the start of acceptance (R88). -/
def State.traceTimeout (p : PortNo) (s : State) : State :=
  let q := s.port p
  if q.checksRun ∧ q.aligner = .sync ∧ q.trace.found = false ∧ 256 ≤ q.trace.since then s.setDefect p .tim true else s

def execTimAcceptTimeout (p : PortNo) (s : State) : Host.Outcome State Fault Refusal := .next (s.settled (s.traceTimeout p))

/-- Whether a defect that drives RDI stands (R83, R85). -/
def Port.rdiDefect (q : Port) : Bool :=
  q.has .los || q.has .lof || q.has .lop || q.has .auth || q.has .tim || q.has .role

/-- RDI is cleared once no such defect stands and its 8 frames have passed (R85). -/
def Transmitter.endRdi (defect : Bool) (t : Transmitter) : Transmitter :=
  if !defect && t.rdiHold == 0 then { t with rdi := false } else t

def execRdiHoldEnd (p : PortNo) (s : State) : Host.Outcome State Fault Refusal :=
  .next (s.settled (s.setPort p (fun q => { q with tx := q.tx.endRdi q.rdiDefect })))

/-- TRAINING, or a resuming STOPPED port, becomes UP when all of R92 holds (R91, R92, R96). -/
def State.portUp (p : PortNo) (s : State) : State :=
  let q := s.port p
  if (q.mode = .training ∨ (q.mode = .stopped ∧ q.resuming = true)) ∧ q.unmet = 0 then
    (s.setPort p (fun q => { q with resuming := false, slip := 0, sinceSlip := 0 })).setPortMode p .up
  else s

def execPortUp (p : PortNo) (s : State) : Host.Outcome State Fault Refusal := .next (s.settled (s.portUp p))

/-- TRAINING for 2 s: one event that names the unmet conditions (R92, R473). -/
def State.trainingTimeout (p : PortNo) (s : State) : State :=
  let q := s.port p
  if q.mode = .training ∧ q.trainEvent = false ∧ q.entered + 4000000 ≤ s.clock.tick then
    (s.setPort p (fun q => { q with trainEvent := true })).raise (portSource p) 14 .occurrence p.val q.unmet 0
  else s

def execTrainingTimeout (p : PortNo) (s : State) : Host.Outcome State Fault Refusal := .next (s.settled (s.trainingTimeout p))

/-- A port enabled under tinder service that has not met R92 within 200 ms enters TINDER (R91). -/
def State.tinderTimeout (p : PortNo) (s : State) : State :=
  let q := s.port p
  if q.mode = .training ∧ q.fastTrain = true ∧ s.host.service = 1 ∧ q.entered + 400000 ≤ s.clock.tick then s.setPortMode p .tinder else s

def execTinderTrainTimeout (p : PortNo) (s : State) : Host.Outcome State Fault Refusal := .next (s.settled (s.tinderTimeout p))

end Sys2Proof.Machine
end

