-- ==== Sys2Proof/Machine/Security.lean ====
section
/-! DEFINITION. The security core: key-channel messages and the timers of an agreement (R459, R463 to R465), nonces and
tokens (R400, R403, R453), images (R451), attestation (R455), and unlocks with zeroisation (R467, R468). -/
namespace Sys2Proof.Machine

/-- Change the security core's state. -/
def State.setSec (f : SecurityState → SecurityState) (s : State) : State := { s with sec := f s.sec }

/-- A key-channel message, by its type (R459, R465). -/
def State.keyMessage (p : PortNo) (m : KeyMessage) (s : State) : State :=
  if (s.port p).mode == .down then s
  else
    let s := s.setLink p (fun l => if l.assembled = some m then { l with assembled := none } else l)
    match m.type.toNat with
    | 1 => s.takeHello p m
    | 2 => s.takeAuth p m
    | 3 => s.takeConfirm p m
    | 4 => if (s.port p).link.agreement.isSome then s.failAgreement p (byteAt m.bytes 2) false else s
    | _ => s

/-- KEY_MESSAGE_RECEIVED (R459). -/
def execKeyMessageReceived (p : PortNo) (m : KeyMessage) (s : State) : Host.Outcome State Fault Refusal :=
  .next (s.settled (s.keyMessage p m))

/-- AGREEMENT_TIMEOUT: not ready within 200 ms of its first HELLO (R463). -/
def State.agreementExpiry (p : PortNo) (s : State) : State :=
  match (s.port p).link.agreement with
  | some a => if !a.ready && a.started + 400000 ≤ s.clock.tick then s.failAgreement p 4 true else s
  | none => s

def execAgreementTimeout (p : PortNo) (s : State) : Host.Outcome State Fault Refusal := .next (s.settled (s.agreementExpiry p))

/-- AGREEMENT_RETRY: the back-off wait has passed (R465). -/
def State.agreementRetry (p : PortNo) (s : State) : State :=
  match (s.port p).link.retryAt with
  | some t =>
    if t ≤ s.clock.tick && (s.port p).mode != .down && (s.port p).link.agreement.isNone then s.startAgreement p false else s
  | none => s

def execAgreementRetry (p : PortNo) (s : State) : Host.Outcome State Fault Refusal := .next (s.settled (s.agreementRetry p))

/-- Whether the current key of a transmitter has reached its limit (R456, R464). -/
def LinkState.exhausted (l : LinkState) : Bool :=
  match l.txKey with
  | some k => decide (2147483648 ≤ k.frames)
  | none => false

/-- KEY_EXHAUSTED: with no key ready the port raises an event each second; with one, the next frame moves to it (R464). -/
def State.keyExhausted (p : PortNo) (s : State) : State :=
  let l := (s.port p).link
  let now := s.clock.tick
  if l.exhausted && l.ready.isNone && (l.lastExhausted = 0 || l.lastExhausted + second ≤ now) then
    (s.setLink p (fun l => { l with lastExhausted := now })).raise (linkSource p) 2 .occurrence p.val 0 0
  else s

def execKeyExhausted (p : PortNo) (s : State) : Host.Outcome State Fault Refusal := .next (s.settled (s.keyExhausted p))

/-- OLD_KEY_ERASE: 64 frames after both directions have moved (R464). -/
def State.eraseOldKeys (p : PortNo) (s : State) : State :=
  match (s.port p).link.movedAt with
  | some t =>
    if t + 64 ≤ s.clock.tick then
      let s := s.setLink p (fun l =>
        { l with movedAt := none, rxSlots := l.rxSlots.set (otherSlot l.rxKid) none
                 txSlots := l.txSlots.set (otherSlot l.txKid) none })
      if (s.port p).link.agreement.isNone then s.startAgreement p false else s
    else s
  | none => s

def execOldKeyErase (p : PortNo) (s : State) : Host.Outcome State Fault Refusal := .next (s.settled (s.eraseOldKeys p))

/-- How long a nonce lives: 60 s (R403). -/
def nonceTicks : Nat := 120000000

/-- SEC_NONCE: a fifth live nonce invalidates the oldest (R403). -/
def State.issueNonce (s : State) : BitVec 256 × State :=
  let (r, s) := s.draw
  let v : BitVec 256 := r.extractLsb' 128 256
  let above := 4 ≤ s.sec.nonces.length
  let due := s.clock.tick + nonceTicks
  let s := s.setSec (fun x => { x with nonces := lastN 3 x.nonces ++ [{ value := v, expiry := due }] })
  (v, s.raiseIf above 330 3 .occurrence oneUnit 1 0)

/-- NONCE_EXPIRY (R403). -/
def State.nonceExpiry (v : BitVec 256) (s : State) : State :=
  let gone (x : Nonce) : Bool := x.value == v && decide (x.expiry ≤ s.clock.tick)
  if s.sec.nonces.any gone then
    (s.setSec (fun x => { x with nonces := x.nonces.filter (fun n => !gone n) })).raise 330 2 .occurrence oneUnit 1 0
  else s

def execNonceExpiry (nonce : BitVec 256) (s : State) : Host.Outcome State Fault Refusal := .next (s.settled (s.nonceExpiry nonce))

/-- The nonce field of a token, as a value. -/
def tokenNonce (bs : List Byte) : BitVec 256 := bitsOf 256 ((bs.drop 56).take 32)

/-- The nonce of a token is live (R400, R403). -/
def State.nonceLive (s : State) (v : BitVec 256) : Bool :=
  s.sec.nonces.any (fun n => n.value == v && decide (s.clock.tick < n.expiry))

/-- A token, accepted or refused, uses up its nonce (R400, R403, R454). -/
def State.useNonce (v : BitVec 256) (s : State) : State :=
  s.setSec (fun x => { x with nonces := x.nonces.filter (fun n => n.value != v) })

/-- A token is refused, with its event (R469). -/
def State.tokenRefused (c : CommandRef) (st : Status) (detail : Nat) (s : State) : State :=
  (s.raise 330 1 .refused oneUnit 0 0).complete c st detail []

/-- Why an owner authorisation token is refused, but for its ARGUMENT (R400): status and DETAIL. -/
def State.tokenFault (s : State) (purpose : String) (bs : List Byte) : Option (Status × Nat) :=
  if byteAt bs 0 != 1 then some (.errRange, detailBuffer 0)
  else if !isZero bs 1 3 then some (.errRange, detailBuffer 1)
  else
    match s.sec.owner with
    | none => some (.errState, 0)
    | some key =>
      let good := (bs.drop 4).take 4 == ascii purpose && (bs.drop 8).take 48 == deviceId && s.nonceLive (tokenNonce bs)
        && signatureOk key (bs.take 96) ((bs.drop 96).take 96)
      if good then none else some (.errAuth, 0)

/-- LOG_CLEAR with its token (R401). -/
def State.clearByToken (c : CommandRef) (bs : List Byte) (s : State) : State :=
  let upTo := field bs 88 8
  let fault := s.tokenFault "LCLR" bs
  let s := s.useNonce (tokenNonce bs)
  match fault with
  | some (st, d) => s.tokenRefused c st d
  | none =>
    if s.ev.log.isEmpty then s.complete c .errState 0 []
    else if s.ev.nextIndex ≤ upTo then s.complete c .errRange (detailBuffer 88) []
    else (s.complete c .ok 0 (leBytes 8 upTo)).clearLog upTo (keyId (s.sec.owner.getD [])) c

/-- SET or CLEAR of "capture key unavailable" when it changes (R450, R469). -/
def State.noteCaptureKey (was : Bool) (s : State) : State := s.raiseFlag (!was) (!s.captureKeyReady) 333 1 oneUnit

/-- The debug access port opens (R467). -/
def State.openDebug (s : State) : State :=
  let was := s.captureKeyReady
  let s := (s.setSec (fun x => { x with debugOpen := true })).raiseSev 332 1 .occurrence 15 oneUnit 0 0
  s.noteCaptureKey was

/-- Whether an erased location reads back other than 0 (R468): a free value. -/
def State.zeroiseFails (s : State) : Bool := Config.zeroiseFails s.fresh

/-- Zeroisation, then scan (R468, R536): keys and security SRAM are erased and read back; scan opens only where every read-back
gives 0. -/
def State.openScan (s : State) : State :=
  let was := s.captureKeyReady
  let failed := s.zeroiseFails
  let s := (List.finRange 512).foldl (fun (s : State) (p : PortNo) => s.setLink p (fun l =>
    { l.erase with assembly := l.assembly })) s
  let s := s.setSec (fun x =>
    { x with keysDerived := false, nonces := [], work := [], running := false, scanOpen := !failed, scanned := x.scanned || !failed })
  let s := { s with fresh := s.fresh + 1 }
  let s := s.raiseSev 332 3 .occurrence 15 oneUnit (bit failed) 0
  (if failed then s else s.raiseSev 332 2 .occurrence 15 oneUnit 0 0).noteCaptureKey was

/-- DEBUG_UNLOCK with its token (R405, R467, R468). -/
def State.unlockByToken (c : CommandRef) (bs : List Byte) (s : State) : State :=
  let argument := field bs 88 8
  let fault := s.tokenFault "DBGU" bs
  let s := s.useNonce (tokenNonce bs)
  match fault with
  | some (st, d) => s.tokenRefused c st d
  | none =>
    if argument = 1 then (s.complete c .ok 0 []).openDebug
    else if argument = 2 then
      if s.host.service = 4 && !s.zeroiseFails then (s.complete c .ok 0 []).openScan
      else if s.host.service = 4 then (s.complete c .errState 0 []).openScan
      else s.complete c .errState 0 []
    else s.complete c .errRange (detailBuffer 88) []

/-- The length of an ownership transfer token (R453): SIGNER is 1 when no owner is enrolled. -/
def State.transferLength (s : State) : Nat := if s.sec.owner.isSome then 1152 else 1864

/-- Every check of R453 and R454 on an ownership transfer token. -/
def State.transferOk (s : State) (bs : List Byte) : Bool :=
  let count := byteAt bs 5
  let signer := byteAt bs 6
  let newKey := (bs.drop 96).take 96
  let key : Option (List Byte) :=
    match s.sec.owner with
    | some k => if signer = 2 then some k else none
    | none =>
      if signer = 1 then
        match chainKey s ((bs.drop 1152).take 712) with
        | some (10, k) => some k
        | _ => none
      else none
  bs.take 4 == ascii "KOWN" && byteAt bs 4 == 1 && decide (count ≤ 8) && byteAt bs 7 == 0 && (bs.drop 8).take 48 == deviceId
    && s.nonceLive (tokenNonce bs) && field bs 88 4 == (s.sec.ownerEpoch + 1).toNat && isZero bs 92 4
    && isZero bs (192 + 96 * count) (768 - 96 * count) && signatureOk newKey (bs.take 960) ((bs.drop 960).take 96)
    && (match key with | some k => signatureOk k (bs.take 1056) ((bs.drop 1056).take 96) | none => false)

/-- The effects of an ownership transfer, in their order (R454). -/
def State.takeOwner (bs : List Byte) (s : State) : State :=
  let was := s.captureKeyReady
  let at_ := BitVec.ofNat 64 s.rtcNow
  let live := s.sec.nonces.length
  let s := s.setSec (fun x =>
    { x with
      blobValid := true, owner := some ((bs.drop 96).take 96), ownerEpoch := x.ownerEpoch + 1
      anchors := (List.range (byteAt bs 5)).map (fun i => (bs.drop (192 + 96 * i)).take 96)
      keysDerived := true, derivedAt := at_, nonces := [], debugOpen := false, scanOpen := false, resumptions := [] })
  let s := s.raiseSev 329 1 .occurrence 15 oneUnit s.sec.ownerEpoch.toNat 0
  let s := s.raise 329 3 .occurrence oneUnit s.sec.ownerEpoch.toNat 0
  let s := (s.raiseIf (decide (0 < live)) 330 3 .occurrence oneUnit live 0).noteCaptureKey was
  s.writeKeyObjects

/-- OWNER_TRANSFER with its token (R405, R454). -/
def State.transferByToken (c : CommandRef) (bs : List Byte) (s : State) : State :=
  let s := if s.sec.owner.isSome then s else s.noteChainCheck
  let ok := s.transferOk bs
  let s := s.useNonce (tokenNonce bs)
  if ok then ((s.takeOwner bs).complete c .ok 0 []).commit c else s.tokenRefused c .errAuth 0

/-- The image that a byte string holds, when it verifies as the given KIND (R451). -/
def State.verifiedImage (s : State) (kind : Nat) (bs : List Byte) : Option ImageInfo :=
  let secLen := field bs 32 8
  let mainLen := field bs 88 8
  let sec := (bs.drop 1064).take secLen
  let main := (bs.drop (1064 + secLen)).take mainLen
  let version := field bs 8 4
  let floor := if kind = 1 then s.sec.rollbackBundle else s.sec.rollbackLibrary
  let library := kind = 2
  let fixed := bs.take 4 == ascii "KIMG" && byteAt bs 4 == 1 && byteAt bs 5 == kind && isZero bs 17 15 && isZero bs 144 112
    && decide (version ≤ 64) && (!library || (isZero bs 12 5 && secLen == 0)) && decide (1064 + secLen + mainLen ≤ bs.length)
  let hashes := (bs.drop 40).take 48 == bytes384 (sha384 sec) && (bs.drop 96).take 48 == bytes384 (sha384 main)
  let signed := match chainKey s ((bs.drop 256).take 712) with
    | some (9, key) => signatureOk key (bs.take 256) ((bs.drop 968).take 96)
    | _ => false
  if fixed && hashes && signed && decide (floor ≤ version) then
    some { version := BitVec.ofNat 16 (field bs 6 2), securityVersion := version, journalRead := BitVec.ofNat 32 (field bs 12 4)
           journalWrite := BitVec.ofNat 8 (byteAt bs 16), secHash := sha384 sec, mainHash := sha384 main }
  else none

/-- ENGINE_IMAGE_LOAD's image has been checked (R377, R451). -/
def State.loadLibrary (c : CommandRef) (bs : List Byte) (s : State) : State :=
  let s := (s.setEmber (fun x => { x with imageLoad := none })).noteChainCheck
  match s.verifiedImage 2 bs with
  | none => (s.raise 128 7 .refused oneUnit 0 0).completeJob c .errAuth 0 []
  | some x =>
    if 262144 < bs.length then s.completeJob c .errResource 0 []
    else
      let s := (s.setEmber (fun y => { y with library := some x })).advanceRollback 2 x.securityVersion
      s.completeJob c .ok 0 (leBytes 2 x.version.toNat)

/-- The journal format in force: the one that the active image writes (R436). -/
def State.journalFormat (s : State) : Nat := (s.core s.activeCore).image.journalWrite.toNat

/-- FW_STAGE's image has been checked and its slot written (R412, R436). -/
def State.stageImage (c : CommandRef) (bs : List Byte) (s : State) : State :=
  let slot := s.otherImageSlot
  let s := s.noteChainCheck
  match s.verifiedImage 1 bs with
  | none => s.completeJob c .errAuth 0 []
  | some x =>
    if 4194304 < bs.length then s.completeJob c .errResource 0 []
    else if !x.journalRead.getLsbD s.journalFormat then s.completeJob c .errVersion 0 []
    else
      let s := s.setMgmt (fun m => { m with slots := m.slots.set slot ⟨some x⟩, staged := 1 })
      s.completeJob c .ok 0 (leBytes 2 x.version.toNat)

/-- The verification that a command waits for has ended. -/
def State.finishWork (w : SecurityWork) (s : State) : State :=
  match w.opcode.toNat with
  | 0x0707 => s.loadLibrary w.request.ref w.data
  | 0x0A04 => s.clearByToken w.request.ref w.data
  | 0x0B04 => s.transferByToken w.request.ref w.data
  | 0x0B05 => s.unlockByToken w.request.ref w.data
  | 0x0F01 => s.stageImage w.request.ref w.data
  | _ => s

/-- The security core has finished a job (R377, R412, R462). -/
def State.securityDone (x : SecurityJob) (s : State) : State :=
  match x with
  | .agreement p => s.finishAuthCheck p
  | .command c t =>
    match s.sec.work.find? (fun w => w.request.channel == c && w.request.token == t) with
    | none => s
    | some w =>
      (s.setSec (fun y => { y with work := y.work.filter (fun v => v.request.ref != w.request.ref) })).finishWork w

/-- SECURITY_CHECK_DONE (R462). -/
def execSecurityCheckDone (x : SecurityJob) (s : State) : Host.Outcome State Fault Refusal := .next (s.settled (s.securityDone x))

/-- Whether the ROM accepts an unlock token: its own nonce, and the owner's signature or, with no owner, one of a vendor
transfer key whose chain follows the token (R400, R452, R467). -/
def State.romTokenOk (s : State) (bs : List Byte) : Bool :=
  let key : Option (List Byte) := match s.sec.owner with
    | some k => some k
    | none =>
      match chainKey s (bs.drop 192) with
      | some (10, k) => some k
      | _ => none
  byteAt bs 0 == 1 && isZero bs 1 3 && (bs.drop 4).take 4 == ascii "DBGU" && (bs.drop 8).take 48 == deviceId
    && s.sec.jtagNonce == some (tokenNonce bs)
    && (match key with | some k => signatureOk k (bs.take 96) ((bs.drop 96).take 96) | none => false)

/-- A request through the JTAG mailbox, which only the ROM in recovery answers (R452, R467, R533). -/
def State.jtagRequest (x : JtagRequest) (s : State) : State :=
  if !s.sec.romRecovery then s
  else
    match x with
    | .nonce =>
      let (r, s) := s.draw
      s.setSec (fun y => { y with jtagNonce := some (r.extractLsb' 128 256) })
    | .unlock bs =>
      let ok := s.romTokenOk bs
      let s := s.setSec (fun y => { y with jtagNonce := none })
      if !ok then s.raise 330 1 .refused oneUnit 0 0
      else if field bs 88 8 = 1 then s.openDebug
      else if field bs 88 8 = 2 then s.openScan
      else s.raise 330 1 .refused oneUnit 0 0
    | .bist => s.startBist 4 fullSlices none

/-- JTAG_MAILBOX_REQUEST (R467). -/
def execJtagMailboxRequest (x : JtagRequest) (s : State) : Host.Outcome State Fault Refusal := .next (s.settled (s.jtagRequest x))

/-- The DEBUG code of SEC_STATUS (R407). -/
def State.debugCode (s : State) : Nat := if s.sec.scanOpen then 2 else bit s.sec.debugOpen

/-- A FIRMWARE entry of an attestation report (R455). -/
def firmwareEntry (kind : Nat) (image : Option ImageInfo) (hash : ImageInfo → BitVec 384) : List Byte :=
  match image with
  | none => zeros 64
  | some x => leBytes 1 kind ++ zeros 1 ++ leBytes 2 x.version.toNat ++ leBytes 4 x.securityVersion ++ bytes384 (hash x) ++ zeros 8

/-- The sections of an attestation report, in bit order (R455). -/
def State.reportSections (s : State) (scope : Nat) : List Byte :=
  let running (i : Fin 2) : Option ImageInfo := match (s.core i).mode with | .off | .fault => none | _ => some (s.core i).image
  let rom : ImageInfo := { (default : ImageInfo) with mainHash := Config.romHash }
  let firmware := firmwareEntry 0 (some rom) (·.mainHash) ++ firmwareEntry 1 (some s.mgmt.securityFw) (·.secHash)
    ++ firmwareEntry 1 (running 0) (·.mainHash) ++ firmwareEntry 1 (running 1) (·.mainHash)
    ++ firmwareEntry 1 s.mgmt.slots[(0 : Fin 2)].content (·.mainHash) ++ firmwareEntry 1 s.mgmt.slots[(1 : Fin 2)].content (·.mainHash)
    ++ firmwareEntry 2 s.ember.library (·.mainHash) ++ zeros 64
    ++ (List.finRange 8).flatMap (fun c => leBytes 2 s.ember.clusters[c].library.toNat)
  let owner := (match s.sec.owner with | some k => keyId k | none => zeros 48) ++ leBytes 1 s.sec.anchors.length ++ zeros 7
    ++ padTo 384 (s.sec.anchors.flatMap keyId)
  let mask (f : PortNo → Bool) : List Byte :=
    leBytes 64 (((List.finRange 512).filter f).map (fun p => 2 ^ p.val)).sum
  let links := mask (fun p => (s.port p).link.keyed) ++ mask (fun p => (s.port p).settings.role == .seam)
  let fuses := leBytes 4 s.sec.rollbackBundle ++ leBytes 4 s.sec.rollbackLibrary ++ [s.sec.lifecycle] ++ zeros 7
  let take (i : Nat) (x : List Byte) : List Byte := if (scope / 2 ^ i) % 2 = 1 then x else []
  take 0 firmware ++ take 1 owner ++ take 2 links ++ take 3 fuses

/-- The length of a report (R455). -/
def reportLength (scope : Nat) : Nat :=
  264 + 528 * (scope % 2) + 440 * (scope / 2 % 2) + 128 * (scope / 4 % 2) + 16 * (scope / 8 % 2)

/-- The signed attestation report (R455). -/
def State.attestation (s : State) (scope : Nat) (nonce : List Byte) : List Byte :=
  let scalar := derivedScalar "KLXATT" s.sec.ownerEpoch
  let body := ascii "KLXATTR1" ++ leBytes 4 scope ++ leBytes 4 (reportLength scope) ++ deviceId
    ++ keyId (publicKey scalar) ++ padTo 32 nonce ++ leBytes 8 s.clock.frame.toNat ++ leBytes 8 s.rtcNow
    ++ leBytes 4 s.sec.ownerEpoch.toNat ++ leBytes 1 s.dpllCode.toNat ++ leBytes 1 s.debugCode ++ zeros 2
    ++ s.reportSections scope
  body ++ ecdsaSign scalar body

/-- The owner certificate chain (R404): the identity key certifies the owner key (DESIGN CHOICE, log 41: the spec does
not say who signs it). -/
def State.ownerCertificate (s : State) (key : List Byte) : List Byte :=
  let body := ascii "KCRT" ++ [1, 6] ++ zeros 2 ++ leBytes 8 s.sec.derivedAt.toNat ++ List.replicate 8 (0xFF : Byte) ++ deviceId
    ++ padTo 32 (leBytes 16 Config.serial.toNat) ++ key ++ zeros 56
  body ++ ecdsaSign Config.identityKey body

/-- The chain that CERT_READ writes (R404). -/
def State.certificates (s : State) (which : Nat) : List Byte :=
  match which with
  | 0 => identityChainBytes
  | 1 => chainOf 3 (derivedCertificate 4 "KLXATT" s ++ Config.identityChain)
  | 2 => s.captureChain
  | _ => match s.sec.owner with
    | some k => chainOf 3 (s.ownerCertificate k ++ Config.identityChain)
    | none => []

/-- Ports whose link uses session keys both ways, and ports with a LINK_REKEY in progress (R407). -/
def State.keyedPorts (s : State) : Nat := (s.ports.toList.filter (fun q => q.link.keyed)).length
def State.rekeyingPorts (s : State) : Nat := (s.ports.toList.filter (fun q => q.link.rekey.isSome)).length

end Sys2Proof.Machine
end

