-- ==== Sys2Proof/Machine/Perf.lean ====
section
/-! DEFINITION. Performance counters, snapshots and precise sampling (chapter 20). -/
namespace Sys2Proof.Machine

/-- Change the counters. -/
def State.setPerf (f : PerfState → PerfState) (s : State) : State := { s with perf := f s.perf }

/-- The kinds of R542: how many instances, how many events. -/
def perfKind : Nat → Nat × Nat
  | 1 => (512, 7) | 2 => (4, 3) | 3 => (8, 6) | 4 => (1, 6) | 5 => (1, 4) | 6 => (16, 4) | 7 => (4, 4) | 8 => (1, 4)
  | 9 => (14, 3) | 10 => (1, 4) | 11 => (4, 3) | 12 => (2, 3) | 13 => (1, 3) | _ => (0, 0)

/-- The signals of R542; the other events are increments. -/
def perfSignal (kind event : Nat) : Bool :=
  [(1, 6), (3, 3), (5, 3), (7, 4), (12, 3), (13, 2)].contains (kind, event)

/-- The domain of a block (R553); none for one that no listed domain holds. -/
def perfDomain (kind inst : Nat) : Option (Fin 56) :=
  match kind with
  | 1 => some ⟨inst / 16 % 32, by omega⟩
  | 2 => some ⟨40 + inst % 4, by omega⟩
  | 3 => some ⟨32 + inst % 8, by omega⟩
  | 4 | 5 => some 48
  | 7 => if inst = 0 then some 44 else if inst = 1 then some 45 else some 46
  | 10 => some 52
  | 11 => some 51
  | 12 => some ⟨49 + inst % 2, by omega⟩
  | 13 => some 53
  | _ => none

/-- Whether a block's domain is ON (R544). -/
def State.perfOn (s : State) (kind inst : Nat) : Bool := match perfDomain kind inst with | some d => s.domainOn d | none => true

/-- Whether a block is marked unusable (R538, R540, R543). -/
def State.perfMarked (s : State) (kind inst : Nat) : Bool :=
  match kind with
  | 1 | 2 | 6 => s.marked kind inst
  | 4 | 5 => s.marked 4 0
  | 7 => if inst < 2 then s.marked 8 inst else s.marked 9 (inst - 2)
  | _ => false

/-- The level of a signal over the present tick period (R542). -/
def State.perfLevel (s : State) (kind inst event : Nat) : Bool :=
  match kind, event with
  | 1, 6 => match s.ports[inst]? with | some q => (q.defects &&& 0x3F) != 0 | none => false
  | 3, 3 => (List.finRange 1024).any (fun e => e.val / 128 == inst && !s.ember.engines[e].fifo.isEmpty)
  | 5, 3 => !s.cap.captures.isEmpty
  | 13, 2 => s.dpll.slewing
  | _, _ => false

/-- How often an increment event of R542 has occurred; none for one that the model does not show (log 42). -/
def State.perfTotal (s : State) (kind inst event : Nat) : Option Nat :=
  let clusterSum (f : Engine → Nat) : Nat :=
    (((List.finRange 1024).filter (fun e => e.val / 128 == inst)).map (fun e => f s.ember.engines[e])).sum
  let port (f : Port → Nat) : Nat := (s.ports[inst]?.map f).getD 0
  match kind, event with
  | 1, 2 => some (port (fun q => q.counters[PortCounter.tagFailures.index].toNat))
  | 1, 3 => some (port (fun q => q.counters[PortCounter.uncorrectable.index].toNat))
  | 1, 4 => some ((s.perf.windows[inst]?.map (·.inTotal)).getD 0)
  | 1, 5 => some ((s.perf.windows[inst]?.map (·.outTotal)).getD 0)
  | 1, 7 => some (port (fun q =>
      q.counters[PortCounter.increments.index].toNat + q.counters[PortCounter.decrements.index].toNat))
  | 2, 2 => some ((s.map.mismatches.filter (fun m => m.1.1.val == inst)).map (fun m => m.2.1)).sum
  | 3, 1 => some (clusterSum (fun g => g.dwells.toNat))
  | 3, 2 => some (clusterSum (fun g => g.sparks.toNat))
  | 3, 4 => some (clusterSum (fun g => g.written.toNat))
  | 3, 5 => some ((s.ember.clusters[inst]?.map (fun c => c.dropped.toNat)).getD 0)
  | 5, 2 => some (s.cap.bytesStored / 4096)
  | 5, 4 => some s.cap.gapFrames
  | 6, 3 => some ((s.fabric.collisions[inst]?.map (·.toNat)).getD 0)
  | 10, 4 => some s.ev.msixSent.length
  | 3, 6 | 9, 2 | 10, 1 | 10, 2 | 11, 1 => none
  | 7, _ | 8, _ | 12, _ => none
  | _, _ => some (assocGet (kind, inst, event) 0 s.perf.totals)

/-- A selected counter over the tick period that ends (R542, R544, R545). -/
def State.stepCounter (s : State) (c : PerfCounter) : PerfCounter :=
  let kind := c.block.toNat / 1024
  let inst := c.block.toNat % 1024
  let event := c.event.toNat
  if event = 0 then c
  else
    let on := s.perfOn kind inst
    let level := on && s.perfLevel kind inst event
    let cycles := 512 + s.dpll.extraCycles
    let total := s.perfTotal kind inst event
    let amount : Nat :=
      if !on then 0
      else match total with
      | none => Config.eventCount kind inst event s.clock.tick
      | some n =>
        if perfSignal kind event then (if c.level then cycles * bit level else bit (level && !c.last)) else n - c.base
    { c with value := c.value + BitVec.ofNat 48 amount, base := total.getD 0, last := level, idle := c.idle || !on
             overflow := c.overflow || decide (2 ^ 48 ≤ c.value.toNat + amount) }

/-- What only the present tick period shows: entries carrying traffic per pass, frames that the spark terms decide, NVMe
commands outstanding per core cycle (R542). -/
def State.tallyTick (s : State) : State :=
  let entries (k : Fin 4) : Nat := (s.map.active.plane.filter (fun e => e.1 / 262144 == k.val)).length
  let plane (s : State) (k : Fin 4) : State := match s.map.planes[k].mode with
    | .off | .fault => s
    | _ => s.tally 2 k.val 1 (entries k)
  let s := (List.finRange 4).foldl plane s
  let armed := (s.cap.active.channels.filter (fun c => c.2.spark && s.cap.channels[c.1].mode != .disarmed)).length
  let s := s.tally 4 0 3 armed
  s.cap.commands.foldl (fun (s : State) (b : NvmeCommand) => s.tally 11 (s.rootPort b.drive) 3 512) s

/-- Every counter over the tick period that ends; a wrap raises its event (R545). -/
def State.stepCounters (s : State) : State :=
  let s := s.tallyTick
  let old := s.perf.counters
  let new := old.map s.stepCounter
  let s := s.setPerf (fun x => { x with counters := new })
  ((List.finRange 256).filter (fun i => new[i].value < old[i].value)).foldl
    (fun (s : State) (i : Fin 256) => s.raise 456 1 .occurrence i.val 0 0) s

/-- The window counters of a port over one tick: input frame `n`, and the output frame that has just been assembled
(R549). -/
def State.stepWindow (s : State) (n : BitVec 64) (p : PortNo) : PortWindow :=
  let w := s.perf.windows[p]
  let q := s.port p
  let sends := match q.mode with | .up => true | .stopped => q.resuming | _ => false
  let out := match q.out with | some o => if sends then popCount o.validity 256 else 0 | none => 0
  let add48 (v : BitVec 48) (n : Nat) : BitVec 48 := BitVec.ofNat 48 (min (v.toNat + n) (2 ^ 48 - 1))
  let w := { w with outValid := add48 w.outValid out, outTotal := w.outTotal + out }
  match (q.inputFrame n).filter (fun e => !e.tagFailed) with
  | some e =>
    let k := popCount (e.validity &&& ~~~ e.unauth) 256
    { w with inValid := add48 w.inValid k, inTotal := w.inTotal + k }
  | none => { w with inAbsent := if w.inAbsent = BitVec.allOnes 32 then w.inAbsent else w.inAbsent + 1 }

def State.stepWindows (n : BitVec 64) (s : State) : State :=
  s.setPerf (fun x => { x with windows := Vector.ofFn (fun p : PortNo => s.stepWindow n p) })

/-- A counter entry (R548). -/
def PerfCounter.bytes (c : PerfCounter) : List Byte :=
  leBytes 8 c.value.toNat ++ leBytes 2 c.block.toNat ++ leBytes 2 c.event.toNat
    ++ leBytes 1 (packBits [c.overflow, c.level, c.idle, c.isNew]) ++ zeros 3

/-- A port entry (R549). -/
def PortWindow.bytes (w : PortWindow) : List Byte := leBytes 6 w.inValid.toNat ++ leBytes 6 w.outValid.toNat ++ leBytes 4 w.inAbsent.toNat

/-- The snapshot that a latch now takes (R547); `moved` says that a step skipped the named tick. -/
def State.snapshotImage (s : State) (moved : Bool) : List Byte :=
  let x := s.perf
  let since := if x.latched then x.lastLatch else s.rst.tinderAt
  leBytes 1 1 ++ leBytes 1 (packBits [x.stepSeen || moved, !x.latched, !s.traceable]) ++ zeros 6
    ++ leBytes 8 s.clock.frame.toNat ++ leBytes 8 (s.clock.tick - since) ++ leBytes 8 s.rtcNow
    ++ x.counters.toList.flatMap PerfCounter.bytes ++ x.windows.toList.flatMap PortWindow.bytes
    ++ s.fabric.collisions.toList.flatMap (fun c => leBytes 4 c.toNat)

/-- The bytes of a snapshot (R546). -/
def snapshotBytes : Nat := 12384

/-- The hardware latch at a tick: every snapshot that is due takes its image (R546, R549). -/
def State.latchSnapshots (s : State) : State :=
  let now := s.clock.frame
  let due (x : Snapshot) : Bool := x.image.isNone && decide (x.frame ≤ now)
  if s.perf.snapshots.any due then
    let moved (x : Snapshot) : Bool := x.frame != now
    let late := s.perf.snapshots.any (fun x => due x && moved x)
    let tick := s.clock.tick
    let taken (x : Snapshot) : Snapshot := if due x then { x with image := some (s.snapshotImage (moved x)), frame := now } else x
    let s := s.setPerf (fun y =>
      { y with
        snapshots := y.snapshots.map taken, latched := true, lastLatch := tick, stepSeen := false
        counters := y.counters.map (fun c => { c with isNew := false, idle := false })
        windows := y.windows.map (fun w => { w with inValid := 0, outValid := 0, inAbsent := 0 }) })
    s.raiseIf late 457 1 .occurrence oneUnit (now.toNat % 4294967296) (now.toNat / 4294967296)
  else s

/-- PERF_SNAPSHOT_LATCH: the snapshots that the latch has taken are written to their buffers (R546). -/
def State.writeSnapshots (s : State) : State :=
  let done := s.perf.snapshots.filter (fun x => x.image.isSome)
  let s := s.setPerf (fun y => { y with snapshots := y.snapshots.filter (fun x => x.image.isNone) })
  done.foldl (fun (s : State) (x : Snapshot) =>
    s.writeBuffer x.command (x.image.getD []) (leBytes 8 x.frame.toNat ++ leBytes 4 snapshotBytes)) s

def execPerfSnapshotLatch (s : State) : Host.Outcome State Fault Refusal := .next (s.settled s.writeSnapshots)

/-- A counter stopped and cleared (R542, R543). -/
def PerfCounter.cleared : PerfCounter :=
  { value := 0, base := 0, block := 0, event := 0, level := false, overflow := false, isNew := false, idle := false, last := false }

/-- PERF_SELECT takes effect (R543, R544). -/
def State.selectCounter (i : Nat) (block event : Nat) (level : Bool) (s : State) : State :=
  let kind := block / 1024
  let inst := block % 1024
  let c : PerfCounter :=
    if event = 0 then { PerfCounter.cleared with isNew := true }
    else
      { PerfCounter.cleared with
        block := BitVec.ofNat 16 block, event := BitVec.ofNat 16 event, level := level, isNew := true
        base := (s.perfTotal kind inst event).getD 0, last := s.perfLevel kind inst event }
  s.setPerf (fun x => { x with counters := x.counters.setIfInBounds i c })

/-- How many counters a block instance has, but for counter `i` (R543). -/
def State.countersOf (s : State) (block i : Nat) : Nat :=
  ((List.finRange 256).filter (fun k =>
    k.val != i && s.perf.counters[k].event != 0 && s.perf.counters[k].block.toNat == block)).length

/-- Whether the core of a sampling job runs (R550). -/
def State.coreRuns (s : State) (core : Nat) : Bool :=
  let managed (i : Fin 2) : Bool := match (s.core i).mode with | .off | .fault => false | _ => true
  if core = 0 then managed 0
  else if core = 1 then managed 1
  else if core = 2 ∨ core = 3 then s.domainOn 46 && !(s.mgmt.solverFailed[core - 2]?.getD true)
  else
    match s.ember.engines[core - 256]?, s.ember.clusters[(core - 256) / 128]? with
    | some e, some c => c.mode == .running && !e.out
    | _, _ => false

/-- The cores that CORE may name (R550). -/
def sampleCore (core : Nat) : Bool := decide (core ≤ 3) || (decide (256 ≤ core) && decide (core < 1280))

/-- A sampling job ends with the samples taken so far, at once when there are none (R550). -/
def State.endSample (j : SampleJob) (s : State) : State :=
  let s := s.setPerf (fun x => { x with jobs := x.jobs.filter (fun k => k.command != j.command) })
  let s := s.raiseIf (decide (0 < j.skipped)) 458 3 .occurrence j.core.toNat j.skipped 0
  if j.taken = 0 then s.complete j.command .ok 0 (zeros 8) else s.writeBuffer j.command j.samples (leBytes 4 j.taken)

/-- Jobs whose core has faulted or stopped end at once (R550). -/
def State.endStoppedSamples (s : State) : State :=
  (s.perf.jobs.filter (fun j => !s.coreRuns j.core.toNat)).foldl (fun (s : State) (j : SampleJob) =>
    (s.raise 458 2 .occurrence j.core.toNat 0 0).endSample j) s

/-- A sample (R551). -/
def SampleJob.sample (j : SampleJob) (frame : BitVec 64) (x : CoreSample) : List Byte :=
  leBytes 8 frame.toNat ++ leBytes 8 x.instr.toNat ++ leBytes 8 x.data.toNat ++ leBytes 4 x.latency.toNat
    ++ leBytes 2 x.core.toNat ++ leBytes 1 (x.flags.toNat + 32 * bit j.skipMark) ++ leBytes 1 x.target.val

/-- SAMPLE_TAKEN: a retired load or store of a sampled core; every PERIOD-th one is due. A sample drains in 64 of the 512
core cycles of a tick period, so that eight of one period are taken and a ninth is skipped (R550; log 43). -/
def State.sampleTaken (x : CoreSample) (s : State) : State :=
  match s.perf.jobs.find? (fun j => j.core == x.core) with
  | none => s
  | some j =>
    if !s.coreRuns x.core.toNat then s
    else
      let seen := j.seen + 1
      let frame := s.clock.frame
      let now := s.clock.tick
      let inTick := if j.lastTick = now then j.inTick else 0
      let j' : SampleJob :=
        if seen < j.period then { j with seen := seen }
        else if 8 ≤ inTick then { j with seen := 0, skipped := j.skipped + 1, skipMark := true }
        else { j with seen := 0, samples := j.samples ++ j.sample frame x, taken := j.taken + 1, skipMark := false,
                         inTick := inTick + 1, lastTick := now }
      let s := s.setPerf (fun y => { y with jobs := updateFirst (fun k => k.core == x.core) (fun _ => j') y.jobs })
      if j.count ≤ j'.taken then s.endSample j' else s

/-- SAMPLE_TAKEN (R550). -/
def execSampleTaken (x : CoreSample) (s : State) : Host.Outcome State Fault Refusal := .next (s.settled (s.sampleTaken x))

/-- SAMPLE_JOB_TIMEOUT: 10 s after acceptance (R550). -/
def State.sampleTimeout (core : BitVec 16) (s : State) : State :=
  match s.perf.jobs.find? (fun j => j.core == core) with
  | none => s
  | some j =>
    if j.started + 10 * second ≤ s.clock.tick then (s.raise 458 1 .occurrence core.toNat 0 0).endSample j else s

def execSampleJobTimeout (core : BitVec 16) (s : State) : Host.Outcome State Fault Refusal := .next (s.settled (s.sampleTimeout core))

end Sys2Proof.Machine
end

