-- ==== Sys2Proof/Machine/SysCommands.lean ====
section
/-! DEFINITION. The SYS family of host commands (R338 to R344). -/
namespace Sys2Proof.Machine

/-- The WCI versions that firmware 2.4 serves (R322). -/
def servedVersions : List (BitVec 16) := [0x0100, 0x0101, 0x0102, 0x0103, 0x0200, 0x0201, 0x0202, 0x0203, 0x0204]

/-- The answer to CHANNEL_OPEN: the highest served version no higher than the host's highest, unless it is below the
host's lowest (R322). -/
def negotiate (high low : BitVec 16) : Option (BitVec 16) :=
  match (servedVersions.filter (fun v => v ≤ high)).getLast? with
  | some v => if low ≤ v then some v else none
  | none => none

/-- CHANNEL_OPEN (R322, R339). -/
def cmdChannelOpen : Command :=
  { Command.base 0x0101 0x0100 .u 4 4 with
    range := fun r => firstBad [(!r.zero 2 2, 2)]
    check := fun r _ s =>
      match negotiate r.version (BitVec.ofNat 16 (r.u 0 2)) with
      | none => .refuse .errVersion 0 []
      | some v => if (s.chan r.channel).awaiting then .refuse .errState 0 [] else .done (leBytes 2 v.toNat)
    now := fun r _ s =>
      match negotiate r.version (BitVec.ofNat 16 (r.u 0 2)) with
      | some v => s.setChan r.channel (fun ch => { ch with mode := .opened, version := v })
      | none => s }

/-- The engine library that runs: that of the first RUNNING cluster, else the stored one (R340). -/
def State.engineLibrary (s : State) : BitVec 16 :=
  match s.ember.clusters.toList.find? (fun c => c.mode == .running) with
  | some c => c.library
  | none => match s.ember.library with | some x => x.version | none => 0

/-- DEVICE_INFO (R340). -/
def cmdDeviceInfo : Command :=
  { Command.base 0x0102 0x0100 .u 0 80 with
    check := fun _ _ s => .done
      (deviceId ++ leBytes 16 Config.serial.toNat ++ leBytes 2 s.firmware.toNat ++ leBytes 2 s.mgmt.securityFw.version.toNat
        ++ leBytes 2 s.engineLibrary.toNat ++ leBytes 2 0x0100 ++ leBytes 2 0x0204 ++ [3, 3, 2] ++ zeros 3) }

/-- A recovery-log entry (R328). -/
def RecoveryEntry.bytes (e : RecoveryEntry) : List Byte :=
  leBytes 8 e.token.toNat ++ leBytes 2 e.opcode.toNat ++ leBytes 1 e.channel.val ++ zeros 1
    ++ leBytes 2 (if e.committed then 3 else 4) ++ zeros 2

/-- The recovery log (R328). -/
def RecoveryLog.bytes (l : RecoveryLog) : List Byte :=
  [1, l.source] ++ zeros 2 ++ leBytes 4 l.entries.length ++ leBytes 8 l.startFrame.toNat ++ leBytes 8 l.lossRtc.toNat ++ zeros 8
    ++ l.entries.flatMap RecoveryEntry.bytes

/-- The log that is pending, when one is. -/
def State.pendingLog (s : State) : Option RecoveryLog := if s.host.recoveryPending then s.host.recovery else none

/-- RECOVERY_READ (R341). -/
def cmdRecoveryRead : Command :=
  { Command.base 0x0103 0x0100 .n 8 8 with
    desc := true
    check := fun _ n s =>
      match s.pendingLog with
      | none => .refuse .errState 0 []
      | some l =>
        let bs := l.bytes
        if n < bs.length then .refuse .errLength detailList [] else .write bs (leBytes 4 bs.length) }

/-- RECOVERY_ACK (R342). -/
def cmdRecoveryAck : Command :=
  { Command.base 0x0104 0x0100 .n 8 0 with
    check := fun r _ s =>
      match s.pendingLog with
      | none => .refuse .errState 0 []
      | some l => if r.u 0 8 != l.startFrame.toNat then .refuse .errConflict 0 [] else .done []
    later := some (fun _ _ s =>
      (s.setHost (fun h => { h with recoveryPending := false })).raiseIf s.host.recoveryPending 305 4 .occurrence oneUnit 0 0) }

/-- The job that a ticket names, while its token stays in its channel's window (R338). -/
def State.ticketEntry (s : State) (t : Nat) : Option TokenEntry :=
  if t = 0 then none
  else s.host.channels.toList.findSome? (fun ch => ch.window.find? (fun e => e.ticket.toNat == t))

/-- The results of JOB_STATUS (R343). -/
def TokenEntry.jobResults (e : TokenEntry) (now : Nat) : List Byte :=
  let elapsed := if e.jobState = 0 then 0 else now - e.startTick
  leBytes 2 e.opcode.toNat ++ [e.jobState, e.reason] ++ leBytes 2 e.status.code
    ++ leBytes 2 (if e.bound = 0 then 0 else min 1000 (elapsed * 1000 / e.bound)) ++ leBytes 4 elapsed ++ zeros 4

/-- JOB_STATUS (R343). -/
def cmdJobStatus : Command :=
  { Command.base 0x0105 0x0100 .u 4 16 with
    check := fun r _ s =>
      match s.ticketEntry (r.u 0 4) with
      | none => .refuse .errRange 0 []
      | some e => .done (e.jobResults s.clock.tick) }

/-- The CONFIRM word (R344, R411, R413). -/
def confirmWord : Nat := 0xA55A

/-- WARM_RESET (R344). -/
def cmdWarmReset : Command :=
  { Command.base 0x0106 0x0103 .n 4 0 with
    range := fun r => firstBad [(r.u 0 4 != confirmWord, 0)]
    check := fun _ _ s =>
      if s.mgmt.warmReset.isSome || s.host.service = 0 || s.host.service = 3 then .refuse .errState 0 [] else .accept []
    now := fun r _ s => s.setMgmt (fun m => { m with warmReset := some r.ref })
    later := some (fun r _ s => s.warmReset (some r.ref)) }

end Sys2Proof.Machine
end

