-- ==== Sys2Proof/Machine/PortCommands.lean ====
section
/-! DEFINITION. The PORT family of host commands (R345 to R349). -/
namespace Sys2Proof

/-- The port field at an offset (R337), and whether its reserved bits are not 0. -/
def Request.port (r : Request) (off : Nat) : PortNo := Fin.ofNat 512 (r.u off 2)
def Request.badPort (r : Request) (off : Nat) : Bool := decide (512 ≤ r.u off 2)

end Sys2Proof

namespace Sys2Proof.Machine

/-- The result FRAME for a change that applies at T+1 (R345). -/
def State.nextFrame (s : State) : List Byte := leBytes 8 (s.clock.frame + 1).toNat

/-- The layout of the port state commands: PORT and 2 reserved bytes. -/
def portRange (r : Request) : Option Nat := firstBad [(r.badPort 0, 0), (!r.zero 2 2, 2)]

/-- Whether the settings of R95's second class may be staged: DOWN, or STOPPED and not resuming. -/
def Port.takesStaged (q : Port) : Bool := q.mode == .down || (q.mode == .stopped && !q.resuming)

/-- PORT_ENABLE (R345, R540). -/
def cmdPortEnable : Command :=
  { Command.base 0x0201 0x0100 .n 4 8 with
    range := portRange
    check := fun r _ s =>
      let p := r.port 0
      if !s.domainOn (laneGroup p) then .refuse .errState 0 []
      else if (s.port p).mode != .down then .done (zeros 8)
      else if s.portMarked p then .refuse .errUnusable 0 []
      else if !s.stagedOk p then .refuse .errConflict 0 []
      else .done s.nextFrame
    later := some (fun r _ s => if (s.port (r.port 0)).mode == .down then s.enablePort (r.port 0) else s) }

/-- PORT_DISABLE removes a port from the wake set of its lane group (R560). -/
def State.dropWake (p : PortNo) (s : State) : State :=
  { s with pwr := { s.pwr with wakeSets := s.pwr.wakeSets.mapFinIdx (fun g w _ => if g = p.val / 16 then w.filter (· != p) else w) } }

/-- PORT_DISABLE (R345, R560). -/
def cmdPortDisable : Command :=
  { Command.base 0x0202 0x0100 .n 4 8 with
    range := portRange
    check := fun r _ s => if (s.port (r.port 0)).mode == .down then .done (zeros 8) else .done s.nextFrame
    later := some (fun r _ s =>
      let s := s.dropWake (r.port 0)
      if (s.port (r.port 0)).mode == .down then s else s.portDown (r.port 0)) }

/-- PORT_STOP (R96, R345). -/
def cmdPortStop : Command :=
  { Command.base 0x0203 0x0100 .u 4 8 with
    range := portRange
    check := fun r _ s =>
      let q := s.port (r.port 0)
      if q.mode == .down then .refuse .errState 0 []
      else if q.mode == .stopped && !q.resuming then .done (zeros 8)
      else .done s.nextFrame
    later := some (fun r _ s => if (s.port (r.port 0)).takesStaged then s else s.stopPort (r.port 0)) }

/-- PORT_RESTART (R96, R345). -/
def cmdPortRestart : Command :=
  { Command.base 0x0204 0x0100 .u 4 8 with
    range := portRange
    check := fun r _ s =>
      let q := s.port (r.port 0)
      if q.mode != .stopped then .refuse .errState 0 []
      else if q.resuming then .done (leBytes 8 q.frameMark.toNat)
      else if !s.stagedOk (r.port 0) then .refuse .errConflict 0 []
      else .done s.nextFrame
    later := some (fun r _ s =>
      let q := s.port (r.port 0)
      if q.mode == .stopped && !q.resuming then s.restartPort (r.port 0) else s) }

/-- A name is printable ASCII, padded at its end with 00h (R48, R346). -/
def nameOk (bs : List Byte) : Bool :=
  let name := bs.takeWhile (· != 0)
  name.all (fun b => decide (0x20 ≤ b.toNat) && decide (b.toNat ≤ 0x7E)) && (bs.drop name.length).all (· == 0)

/-- The 34 bytes of a trace identifier: the name, then the port as it is sent (R48, R346). -/
def traceOf (r : Request) : List Byte := padTo 32 ((r.payload.drop 4).take 32) ++ beBytes 2 (r.u 36 2)

/-- The value m × 10⁻ᵉ of a threshold against another (R70): whether the first is below the second. -/
def thresholdBelow (m1 e1 m2 e2 : Nat) : Bool := decide (m1 * 10 ^ e2 < m2 * 10 ^ e1)

/-- The first field of PORT_SET that is out of range (R70, R346). -/
def portSetRange (r : Request) : Option Nat :=
  let b (i : Nat) : Nat := r.u (4 + i) 1
  let rest (n : Nat) : Bool × Nat := (!r.zero (4 + n) (40 - n), 4 + n)
  let upTo (lo hi : Nat) : List (Bool × Nat) := [(decide (b 0 < lo) || decide (hi < b 0), 4), rest 1]
  let value : List (Bool × Nat) :=
    match r.u 2 1 with
    | 1 | 2 => [(!nameOk ((r.payload.drop 4).take 32), 4), rest 34]
    | 3 => [(b 0 = 0 || 9 < b 0, 4), (b 1 < 3 || 8 < b 1, 5), (b 2 = 0 || 9 < b 2, 6), (b 3 < 3 || 8 < b 3, 7),
            (!thresholdBelow (b 2) (b 3) (b 0) (b 1), 7), rest 4]
    | 4 => upTo 1 3
    | 5 => upTo 0 2
    | 6 => upTo 0 16
    | 7 => upTo 0 15
    | 8 => upTo 0 2
    | _ => []
  firstBad ([(r.badPort 0, 0), (r.u 2 1 = 0 || 8 < r.u 2 1, 2), (!r.zero 3 1, 3)] ++ value)

/-- The role of a ROLE value (R346). -/
def roleOf (n : Nat) : PortRole := match n with | 0 => .unused | 1 => .line | _ => .seam

/-- A setting takes effect or is staged (R89, R95, R346). -/
def State.setPortSetting (r : Request) (s : State) : State :=
  let p := r.port 0
  let v := r.u 4 1
  let stage (f : StagedSettings → StagedSettings) : State := s.setPort p (fun q => { q with staged := f q.staged })
  match r.u 2 1 with
  | 1 => s.setPort p (fun q => { q with txTrace := traceOf r })
  | 2 => (s.setPort p (fun q => { q with partner := traceOf r })).judgeTrace p
  | 3 => s.setPort p (fun q =>
      { q with sdSet := (Fin.ofNat 10 v, Fin.ofNat 9 (r.u 5 1)), sdClear := (Fin.ofNat 10 (r.u 6 1), Fin.ofNat 9 (r.u 7 1)) })
  | 4 => stage (fun x => { x with version := some (BitVec.ofNat 2 v) })
  | 5 => stage (fun x => { x with role := some (roleOf v) })
  | 6 => stage (fun x => { x with window := some (Fin.ofNat 17 v) })
  | 7 => stage (fun x => { x with txPreset := some (Fin.ofNat 16 v) })
  | 8 => stage (fun x => { x with rxAdapt := some (Fin.ofNat 3 v) })
  | _ => s

/-- PORT_SET (R346, R540). -/
def cmdPortSet : Command :=
  { Command.base 0x0205 0x0100 .n 44 0 with
    range := portSetRange
    check := fun r _ s =>
      let staged := decide (4 ≤ r.u 2 1)
      if staged && !(s.port (r.port 0)).takesStaged then .refuse .errState 0 []
      else if r.u 2 1 = 5 && s.portMarked (r.port 0) then .refuse .errUnusable 0 []
      else .done []
    later := some (fun r _ s => s.setPortSetting r) }

/-- PORT_FORMATS (R347). -/
def cmdPortFormats : Command :=
  { Command.base 0x0206 0x0100 .n 260 0 with
    range := fun r => firstBad [(r.badPort 0, 0), (1 < r.u 2 1, 2), (!r.zero 3 1, 3)]
      <|> (List.range 256).findSome? (fun i => if 6 < r.u (4 + i) 1 then some (4 + i) else none)
    check := fun r _ s => if (s.port (r.port 0)).takesStaged then .done [] else .refuse .errState 0 []
    later := some (fun r _ s =>
      let v : Vector (Fin 7) 256 := Vector.ofFn (fun i => Fin.ofNat 7 (r.u (4 + i.val) 1))
      s.setPort (r.port 0) (fun q =>
        { q with staged := if r.u 2 1 = 0 then { q.staged with inFormats := some v } else { q.staged with outFormats := some v } })) }

/-- The bundles that PORT_BUNDLES declares: first slot and length (R347). -/
def bundlesOf (r : Request) : List (Fin 256 × Nat) :=
  (List.range (r.u 4 2)).map (fun i => (Fin.ofNat 256 (r.u (8 + 2 * i) 1), r.u (9 + 2 * i) 1 + 1))

/-- PORT_BUNDLES (R62, R347). -/
def cmdPortBundles : Command :=
  { Command.base 0x0207 0x0100 .n 520 0 with
    range := fun r => firstBad [(r.badPort 0, 0), (1 < r.u 2 1, 2), (!r.zero 3 1, 3), (256 < r.u 4 2, 4), (!r.zero 6 2, 6)]
      <|> (List.range 256).findSome? (fun i =>
        if i < r.u 4 2 then (if 256 < r.u (8 + 2 * i) 1 + r.u (9 + 2 * i) 1 + 1 then some (9 + 2 * i) else none)
        else if !r.zero (8 + 2 * i) 1 then some (8 + 2 * i)
        else if !r.zero (9 + 2 * i) 1 then some (9 + 2 * i) else none)
    check := fun r _ s =>
      let q := s.port (r.port 0)
      let formats := if r.u 2 1 = 0 then q.nextSettings.inFormats else q.nextSettings.outFormats
      if !q.takesStaged then .refuse .errState 0 []
      else if bundlesOverlap (bundlesOf r) || bundlesMixed (bundlesOf r) formats then .refuse .errConflict 0 []
      else .done []
    later := some (fun r _ s =>
      s.setPort (r.port 0) (fun q =>
        { q with staged := if r.u 2 1 = 0 then { q.staged with inBundles := some (bundlesOf r) }
                           else { q.staged with outBundles := some (bundlesOf r) } })) }

/-- Whether a port holds a staged setting (R348). -/
def StagedSettings.any (x : StagedSettings) : Bool :=
  x.version.isSome || x.role.isSome || x.window.isSome || x.txPreset.isSome || x.rxAdapt.isSome || x.inFormats.isSome
    || x.outFormats.isSome || x.inBundles.isSome || x.outBundles.isSome

/-- The code of ALIGNER (R348). -/
def AlignerMode.code : AlignerMode → Nat
  | .hunt => 0 | .presync => 1 | .sync => 2

/-- The newest input frame in the buffer. -/
def Port.newestFrame (q : Port) : Nat := (q.buffer.map (fun e => e.number.toNat)).foldl max 0

/-- The 80 bytes of a port's status (R113, R115, R348). -/
def Port.status (q : Port) : List Byte :=
  let early : Int := -((q.settings.window.val : Int) + 2) * 10000
  leBytes 1 q.mode.code ++ leBytes 1 q.aligner.code ++ leBytes 2 q.defects.toNat
    ++ leBytes 2 (packBits [q.rdiRx, q.farStopped, q.farUls, q.staged.any, q.link.keyed]) ++ leBytes 1 q.rxVersion.toNat
    ++ leBytes 1 q.pointer.value ++ leSigned 4 q.slip ++ leSigned 4 q.theta
    ++ leSigned 4 (if q.thetaSeen then q.thetaMin else q.theta) ++ leSigned 4 (if q.thetaSeen then q.thetaMax else q.theta)
    ++ leSigned 4 early ++ leSigned 4 (-10000) ++ leBytes 8 q.newestFrame
    ++ padTo 34 ((q.trace.accepted.map traceIdentifier).getD []) ++ zeros 6

/-- A status read restarts the minimum and the maximum of θ (R115, R348). -/
def Port.restartTheta (q : Port) : Port := { q with thetaSeen := false }

/-- PORT_STATUS (R348). -/
def cmdPortStatus : Command :=
  { Command.base 0x0208 0x0100 .u 4 80 with
    range := portRange
    check := fun r _ s => .done (s.port (r.port 0)).status
    now := fun r _ s => s.setPort (r.port 0) Port.restartTheta }

/-- PORT_COUNTERS (R349). -/
def cmdPortCounters : Command :=
  { Command.base 0x0209 0x0100 .n 4 104 with
    range := portRange
    check := fun r _ s =>
      let q := s.port (r.port 0)
      .done (q.counters.toList.flatMap (fun v => leBytes 8 v.toNat)
        ++ leBytes 4 (floatWord ((q.lastSer : Rat) / ((serSymbols : Nat) : Rat))).toNat ++ zeros 4) }

/-- PORT_STATUS_ALL (R348). -/
def cmdPortStatusAll : Command :=
  { Command.base 0x020A 0x0101 .b 8 0 with
    desc := true
    check := fun _ n s =>
      if n < 40960 then .refuse .errLength detailList [] else .acceptWrite (s.ports.toList.flatMap Port.status) []
    now := fun _ _ s => { s with ports := s.ports.map Port.restartTheta } }

end Sys2Proof.Machine
end

