-- ==== Sys2Proof/Machine/MapCommands.lean ====
section
/-! DEFINITION. The MAP family of host commands (R350 to R356). -/
namespace Sys2Proof.Machine

/-- The payload of a command that only names its buffer: the descriptor address. -/
def jobCommand (opcode since : BitVec 16) (raw : Bool) : Command :=
  { Command.base opcode since .n 8 272 with
    full := true
    desc := true
    check := fun _ n s =>
      if s.map.shadowMode == .mirror then .jobRead true 400000 n
      else if s.map.shadowMode == .mirroring && s.map.queued.isNone then .jobRead false 0 n
      else .refuse .errState 0 []
    now := fun r _ s => s.acceptJob r.ref raw
    arrived := fun r bs s => s.jobInput r.ref bs }

/-- MAP_SOLVE and MAP_RAW_LOAD (R135, R350). -/
def cmdMapSolve : Command := jobCommand 0x0301 0x0100 false
def cmdMapRawLoad : Command := jobCommand 0x0302 0x0102 true

/-- MAP_CANCEL_JOB (R133, R351). -/
def cmdMapCancelJob : Command :=
  { Command.base 0x0303 0x0100 .u 4 0 with
    check := fun r _ s => if s.mapTicket (r.u 0 4) then .done [] else .refuse .errState 0 []
    later := some (fun r _ s => s.cancelJob (r.u 0 4)) }

/-- MAP_CANCEL_BANK (R351). -/
def cmdMapCancelBank : Command :=
  { Command.base 0x0304 0x0100 .u 0 0 with
    check := fun _ _ s => if s.map.shadowMode == .ready then .done [] else .refuse .errState 0 []
    later := some (fun _ _ s => if s.map.shadowMode == .ready then s.startMirroring else s) }

/-- The swap frame that a MAP_SWAP asks for: the earliest, or the one it names (R141, R352). -/
def swapFrame (r : Request) (s : State) : BitVec 64 :=
  if r.u 0 1 = 0 then s.earliestSwap else BitVec.ofNat 64 (r.u 8 8)

/-- Whether a named swap frame is admitted (R141). -/
def State.swapFrameOk (s : State) (f : Nat) : Bool :=
  decide (s.clock.frame.toNat + s.swapLead ≤ f) && decide (f ≤ s.clock.frame.toNat + 8589934592)

/-- A cascade swap is open on the device: its bank is staged for one, or it is the master of one (R290, R352). -/
def State.cascadeSwapOpen (s : State) : Bool := s.casc.staged.isSome || (s.isMaster && s.casc.swap.isSome)

/-- A CASC_LEAVE accepted in this tick period waits for T+1 (R337, R369): the device is then STANDALONE. -/
def State.leavingCascade (s : State) : Bool := s.deferred.any (fun d => d.opcode == 0x0602)

/-- MAP_SWAP (R141, R142, R290, R352). -/
def cmdMapSwap : Command :=
  { Command.base 0x0305 0x0100 .u 16 16 with
    full := true
    persist := true
    range := fun r => firstBad [(1 < r.u 0 1, 0), (!r.zero 1 7, 1), (r.u 0 1 = 0 && r.u 8 8 != 0, 8)]
    check := fun r _ s =>
      if s.map.shadowMode != .ready || s.casc.mode == .joining || s.casc.mode == .flywheel then .refuse .errState 0 []
      else if s.casc.mode == .joined && s.cascadeSwapOpen then .refuse .errState 0 []
      else if r.u 0 1 = 1 && !s.swapFrameOk (r.u 8 8) then .refuse .errRange 8 []
      else if s.casc.mode == .joined then .accept []
      else .accept (leBytes 8 (swapFrame r s).toNat)
    now := fun r _ s =>
      if s.casc.mode == .joined && !s.leavingCascade then
        s.requestSwap (if r.u 0 1 = 1 then some (BitVec.ofNat 64 (r.u 8 8)) else none) r.persist (some r.ref)
      else
        let f := if s.leavingCascade && r.u 0 1 = 0 then s.clock.frame + 8 else swapFrame r s
        s.scheduleSwap f r.persist (some r.ref) }

/-- A scheduled swap that a cancel of this interval can withdraw (R143). -/
def State.cancellable (s : State) : Option MapSwap :=
  match s.map.swap with
  | some w =>
    if s.map.shadowMode == .scheduled && !w.latched && decide (s.clock.frame.toNat + 8 ≤ w.frame.toNat) then some w else none
  | none => none

/-- The swap is withdrawn: READY again, and its command ends with ERR_STATE (R143). -/
def State.cancelSwap (s : State) : State :=
  match s.cancellable with
  | some w =>
    let s := { s with map := { s.map with swap := none, shadowMode := .ready } }
    match w.command with
    | some c => s.complete c .errState 0 (leBytes 8 w.frame.toNat ++ leBytes 8 s.map.active.generation.toNat)
    | none => s
  | none => s

/-- MAP_SWAP_CANCEL (R143, R352). -/
def cmdMapSwapCancel : Command :=
  { Command.base 0x0306 0x0100 .u 0 0 with
    check := fun _ _ s =>
      if s.casc.mode == .joined || s.casc.staged.isSome || s.cancellable.isNone then .refuse .errState 0 [] else .done []
    now := fun _ _ s => s.cancelSwap }

/-- What MAP_READ returns (R150, R353): its length and its bytes; none where the shadow bank cannot be read. -/
def State.mapOutput (s : State) (what : Nat) : Option (Nat × List Byte × BitVec 64) :=
  match what with
  | 0 => some (s.map.active.imageLength, s.map.active.image, s.map.active.generation)
  | 1 =>
    match s.map.shadowMode with
    | .mirroring | .building | .held => none
    | _ => some (s.map.shadow.imageLength, s.map.shadow.image, s.map.shadow.generation)
  | _ =>
    let bs := listBytes s.map.active.generation s.map.active.list
    some (bs.length, bs, s.map.active.generation)

/-- MAP_READ (R150, R353). -/
def cmdMapRead : Command :=
  { Command.base 0x0307 0x0100 .b 16 16 with
    desc := true
    range := fun r => firstBad [(2 < r.u 8 1, 8), (!r.zero 9 7, 9)]
    check := fun r n s =>
      match s.mapOutput (r.u 8 1) with
      | none => .refuse .errState 0 []
      | some (size, bs, gen) =>
        if n < size then .refuse .errLength detailList [] else .acceptWrite bs (leBytes 8 size ++ leBytes 8 gen.toNat) }

/-- The row of R105 in force. -/
def State.fabricProperty (s : State) : Nat :=
  if s.planesOn.length = 4 then 0 else if s.planesOn.length = 3 then 1 else 2

/-- The code of a shadow-bank state (R354). -/
def ShadowMode.code : ShadowMode → Nat
  | .mirroring => 0 | .mirror => 1 | .building => 2 | .ready => 3 | .scheduled => 4 | .held => 5

/-- The byte of PLANE_STATE (R354). -/
def Plane.statusByte (q : Plane) : Byte := BitVec.ofNat 8 (q.mode.code + 128 * bit q.unusable)

/-- The results of MAP_STATUS (R354). -/
def State.mapStatus (s : State) : List Byte :=
  leBytes 8 s.map.active.generation.toNat ++ leBytes 8 s.persistGeneration
    ++ leBytes 1 s.map.shadowMode.code ++ leBytes 1 s.fabricProperty ++ s.map.planes.toList.map Plane.statusByte ++ zeros 2
    ++ leBytes 8 (match s.map.swap with | some w => w.frame.toNat | none => 0)
    ++ leBytes 4 (s.ticketOf s.map.job) ++ leBytes 4 (s.ticketOf s.map.queued)
    ++ leBytes 4 s.map.active.egress.length ++ leBytes 4 (s.map.active.pairs.map (·.id)).eraseDups.length
    ++ leBytes 4 (match s.casc.staged, s.casc.swap with
        | some g, _ => g.id.toNat
        | none, some w => w.id.toNat
        | none, none => 0) ++ zeros 4

/-- MAP_STATUS (R354). -/
def cmdMapStatus : Command :=
  { Command.base 0x0308 0x0100 .u 0 56 with check := fun _ _ s => .done s.mapStatus }

/-- MAP_PERSIST (R148, R355). -/
def cmdMapPersist : Command :=
  { Command.base 0x0309 0x0102 .n 0 8 with
    persist := true
    check := fun _ _ _ => .accept []
    now := fun r _ s =>
      ({ s with map := { s.map with persistWaits := s.map.persistWaits ++ [(r.ref, s.map.active.generation)] } }).startPersist }

/-- The plane that PLANE_SET names. -/
def planeField (r : Request) : Fin 4 := Fin.ofNat 4 (r.u 0 1)

/-- What a PLANE_SET asks of a plane (R356): hold, act, or refuse. -/
def State.planeReply (k : Fin 4) (on : Bool) (s : State) : Reply :=
  let q := s.map.planes[k]
  let held : Reply := .acceptDone [] (q.statusByte :: zeros 7)
  match on, q.mode with
  | true, .on => held
  | true, .off => if q.unusable then .refuse .errUnusable 0 [] else .accept []
  | true, _ => if q.unusable then .refuse .errUnusable 0 [] else .refuse .errState 0 []
  | false, .off => held
  | false, .fault => .accept []
  | false, .on => if s.map.shadowMode == .mirror || s.map.shadowMode == .mirroring then .accept [] else .refuse .errState 0 []
  | false, _ => .refuse .errState 0 []

/-- PLANE_SET takes effect (R107, R108, R356). A plane that reached the state asked for meanwhile answers at once. -/
def State.setPlaneRequest (k : Fin 4) (on : Bool) (c : CommandRef) (s : State) : State :=
  let q := s.map.planes[k]
  match on, q.mode with
  | true, .off => if q.wanted then s.setPlane k (fun q => { q with commands := q.commands ++ [c] }) else s.wakePlane k c
  | true, .on => s.complete c .ok 0 [q.statusByte]
  | true, .testing => s.setPlane k (fun q => { q with commands := q.commands ++ [c] })
  | true, _ => s.complete c .errUnusable 0 [q.statusByte]
  | false, .off => s.complete c .ok 0 [q.statusByte]
  | false, .draining => s.setPlane k (fun q => { q with commands := q.commands ++ [c] })
  | false, .testing => s.complete c .errState 0 [q.statusByte]
  | false, _ => s.drainPlane k c

/-- PLANE_SET (R356). -/
def cmdPlaneSet : Command :=
  { Command.base 0x030A 0x0102 .n 4 8 with
    full := true
    range := fun r => firstBad [(3 < r.u 0 1, 0), (1 < r.u 1 1, 1), (!r.zero 2 2, 2)]
    check := fun r _ s => s.planeReply (planeField r) (r.u 1 1 = 1)
    later := some (fun r _ s =>
      -- a plane that already held the state was answered at once
      if (s.chan r.channel).find r.token |>.any (fun e => e.status.isFinal) then s
      else s.setPlaneRequest (planeField r) (r.u 1 1 = 1) r.ref) }

end Sys2Proof.Machine
end

