-- ==== Sys2Proof/Machine/ProtCommands.lean ====
section
/-! DEFINITION. The PROT family of host commands (R357 to R360). -/
namespace Sys2Proof.Machine

/-- A protection group that a payload names at offset 0. -/
def groupField (r : Request) : Fin 256 := Fin.ofNat 256 (r.u 0 1)

/-- The number of working members of a declaration. -/
def memberCount (r : Request) : Nat := r.u 2 1

/-- The first field of GROUP_DECLARE that is out of range (R357). -/
def groupDeclareRange (r : Request) : Option Nat :=
  firstBad [(1 < r.u 1 1, 1), (memberCount r = 0 || (if r.u 1 1 = 0 then 1 else 15) < memberCount r, 2), (1 < r.u 3 1, 3),
      (r.u 6 1 = 0 || 12 < r.u 6 1, 6), (1 < r.u 7 1, 7), (r.u 8 2 = 0 || 256 < r.u 8 2, 8), (r.u 10 2 = 0, 10),
      (r.badPort 12, 12), (!r.zero 14 2, 14)]
    <|> (List.range 15).findSome? (fun i =>
      if (if i < memberCount r then r.badPort (16 + 2 * i) else !r.zero (16 + 2 * i) 2) then some (16 + 2 * i) else none)
    <|> firstBad [(!r.zero 46 2, 46)]

/-- The group that a GROUP_DECLARE describes (R153, R357). -/
def declaredGroup (r : Request) : ProtGroup :=
  { oneToN := r.u 1 1 = 1, protect := r.port 12, working := (List.range (memberCount r)).map (fun i => r.port (16 + 2 * i))
    tag := BitVec.ofNat 16 (r.u 10 2)
    settings := { revertive := r.u 3 1 = 1, holdOff := r.u 4 2, wtr := r.u 6 1, sdCrit := r.u 7 1 = 1, threshold := r.u 8 2 }
    unit := .idle }

/-- The members of a group: the protect port, then the working ports (R152). -/
def ProtGroup.members (g : ProtGroup) : List PortNo := g.protect :: g.working

/-- The ports that are endpoints of the active bank, or of a READY, SCHEDULED or BUILDING shadow bank (R146). -/
def State.endpointPorts (s : State) : List PortNo :=
  let shadow :=
    match s.map.shadowMode with
    | .ready | .scheduled => s.map.shadow.list
    | .building =>
      match s.map.job with
      | some j =>
        match j.checked with
        | some (.list xs _ _) => xs
        | some (.raw b) => b.list
        | _ => []
      | none => []
    | _ => []
  (s.map.active.list ++ shadow).flatMap Connection.ports

/-- Whether two ports declare the same slot formats and bundles (R153). -/
def PortSettings.sameFormats (a b : PortSettings) : Bool :=
  let same (x y : List (Fin 256 × Nat)) : Bool := x.length == y.length && x.all (fun e => y.contains e)
  a.inFormats.toList == b.inFormats.toList && a.outFormats.toList == b.outFormats.toList && same a.inBundles b.inBundles && same a.outBundles b.outBundles

/-- The cases of R153 and R146 in which a declaration is refused. -/
def State.groupConflict (s : State) (g : ProtGroup) : Bool :=
  let taken := s.prot.groups.toList.flatMap (fun x => match x with | some x => x.members | none => [])
  !noRepeats g.members || g.members.any (fun p => taken.contains p)
    || g.members.any (fun p => (s.port p).settings.role != .line)
    || s.endpointPorts.contains g.protect
    || g.members.any (fun p => !(s.port p).settings.sameFormats (s.port g.protect).settings)

/-- GROUP_DECLARE (R153, R357). -/
def cmdGroupDeclare : Command :=
  { Command.base 0x0401 0x0100 .n 48 0 with
    range := groupDeclareRange
    check := fun r _ s =>
      if s.prot.groups[groupField r].isSome || s.groupConflict (declaredGroup r) then .refuse .errConflict 0 [] else .done []
    later := some (fun r _ s =>
      { s with prot := { s.prot with groups := s.prot.groups.set (groupField r) (some (declaredGroup r)) } }) }

/-- Change a declared group. -/
def State.setGroup (i : Fin 256) (f : ProtGroup → ProtGroup) (s : State) : State :=
  { s with prot := { s.prot with groups := s.prot.groups.set i (s.prot.groups[i].map f) } }

/-- GROUP_MODIFY (R153, R357). -/
def cmdGroupModify : Command :=
  { Command.base 0x0402 0x0100 .n 12 0 with
    range := fun r => firstBad [(1 < r.u 1 1, 1), (r.u 4 1 = 0 || 12 < r.u 4 1, 4), (1 < r.u 5 1, 5),
      (r.u 6 2 = 0 || 256 < r.u 6 2, 6), (!r.zero 8 4, 8)]
    check := fun r _ s => if s.prot.groups[groupField r].isNone then .refuse .errState 0 [] else .done []
    later := some (fun r _ s => s.setGroup (groupField r) (fun g =>
      { g with settings := { revertive := r.u 1 1 = 1, holdOff := r.u 2 2, wtr := r.u 4 1, sdCrit := r.u 5 1 = 1, threshold := r.u 6 2 } })) }

/-- Whether a group may be deleted: working selected, nothing bridged beyond the permanent 1+1 bridge (R154). -/
def ProtGroup.atRest (g : ProtGroup) : Bool := g.unit.selected == 0 && (!g.oneToN || g.unit.bridged == 0)

/-- GROUP_DELETE (R154, R357). -/
def cmdGroupDelete : Command :=
  { Command.base 0x0403 0x0100 .n 4 0 with
    range := fun r => firstBad [(!r.zero 1 3, 1)]
    check := fun r _ s =>
      match s.prot.groups[groupField r] with
      | some g => if g.atRest then .done [] else .refuse .errState 0 []
      | none => .refuse .errState 0 []
    later := some (fun r _ s => { s with prot := { s.prot with groups := s.prot.groups.set (groupField r) none } }) }

/-- The group or pair that a payload names: TARGET and ID (R358, R360). -/
def protTarget (r : Request) (pair : Bool) : ProtTarget :=
  if pair then .pair (BitVec.ofNat 32 (r.u 4 4)) else .group (Fin.ofNat 256 (r.u 4 4))

/-- The unit of a declared group, or of a pair that the active bank holds (R358). -/
def State.heldUnit (s : State) (t : ProtTarget) : Option ProtUnit :=
  match t with
  | .group g => s.prot.groups[g].map (·.unit)
  | .pair id => if s.map.active.pairs.any (fun e => e.id == id) then some (assocGet id ProtUnit.idle s.prot.pairUnits) else none

/-- The number of working members of a target. -/
def State.targetMembers (s : State) (t : ProtTarget) : Nat :=
  match t with
  | .group g => match s.prot.groups[g] with | some g => g.working.length | none => 15
  | .pair _ => 1

/-- Whether a target is a 1:N group, whose far end's requests count (R169, R171). -/
def State.targetOneToN (s : State) (t : ProtTarget) : Bool :=
  match t with
  | .group g => match s.prot.groups[g] with | some g => g.oneToN | none => false
  | .pair _ => false

/-- Whether a target reverts (R153, R155). -/
def State.targetReverts (s : State) (t : ProtTarget) : Bool :=
  match t with
  | .group g => match s.prot.groups[g] with | some g => g.settings.revertive | none => false
  | .pair id => (s.pairSettingsOf id).revertive

/-- Change the unit of a target. -/
def State.setUnit (t : ProtTarget) (f : ProtUnit → ProtUnit) (s : State) : State :=
  match t with
  | .group g => s.setGroup g (fun g => { g with unit := f g.unit })
  | .pair id => { s with prot := { s.prot with pairUnits := assocSet id (f (assocGet id ProtUnit.idle s.prot.pairUnits)) s.prot.pairUnits } }

/-- The effect of a protection command on a unit (R160). -/
def ProtUnit.command (code : Nat) (member : Fin 16) (revertive : Bool) (u : ProtUnit) : ProtUnit :=
  match code with
  | 1 => { u with lo := true }
  | 2 => { u with fs := some member, ms := none }
  | 3 => { u with ms := some member }
  | _ =>
    let held := u.fs.isSome || u.ms.isSome
    { u with lo := false, fs := none, ms := none
             wtr := if held && revertive then none else u.wtr
             dnr := if held && !revertive && 0 < u.selected.val then some u.selected else u.dnr }

/-- PROT_COMMAND (R160, R358). -/
def cmdProtCommand : Command :=
  { Command.base 0x0404 0x0100 .u 8 8 with
    check := fun r _ s =>
      let t := protTarget r (r.u 0 1 = 1)
      let code := r.u 1 1
      let members := s.targetMembers t
      let badMember := if code = 2 ∨ code = 3 then r.u 2 1 = 0 || members < r.u 2 1 else r.u 2 1 != 0
      match firstBad [(1 < r.u 0 1, 0), (code = 0 || 4 < code, 1), (badMember, 2), (!r.zero 3 1, 3),
          (r.u 0 1 = 0 && 255 < r.u 4 4, 4)] with
      | some off => .refuse .errRange off []
      | none =>
        match s.heldUnit t with
        | none => .refuse .errState 0 []
        | some u =>
          let far := if u.protFail || !s.targetOneToN t then none else farRequest (u.far.getD 0)
          let farLo := match far with | some (.lo, _) => true | _ => false
          let farStrong := match far with | some (x, _) => x.strong | none => false
          if (code = 2 && (u.lo || farLo)) || (code = 3 && ((u.decide members s.clock.tick).1.strong || farStrong)) then .refuse .errState 0 []
          else .done s.nextFrame
    later := some (fun r _ s =>
      let t := protTarget r (r.u 0 1 = 1)
      if (s.heldUnit t).isSome then s.setUnit t (ProtUnit.command (r.u 1 1) (Fin.ofNat 16 (r.u 2 1)) (s.targetReverts t)) else s) }

/-- PAIR_SETTINGS (R139, R155, R359). -/
def cmdPairSettings : Command :=
  { Command.base 0x0405 0x0100 .n 12 0 with
    range := fun r =>
      let badPairId := r.u 0 4 = 0 || 0x7FFFFFFF < r.u 0 4
      if r.u 4 1 = 1 then
        firstBad [(badPairId, 0), (!r.zero 5 1, 5), (!r.zero 6 2, 6), (!r.zero 8 1, 8), (!r.zero 9 1, 9), (!r.zero 10 2, 10)]
      else
        firstBad [(badPairId, 0), (1 < r.u 4 1, 4), (1 < r.u 5 1, 5), (r.u 8 1 = 0 || 12 < r.u 8 1, 8), (1 < r.u 9 1, 9), (!r.zero 10 2, 10)]
    later := some (fun r _ s =>
      let id := BitVec.ofNat 32 (r.u 0 4)
      let rest := s.prot.pairSettings.filter (fun x => x.1 != id)
      let x : ProtSettings := { revertive := r.u 5 1 = 1, holdOff := r.u 6 2, wtr := r.u 8 1, sdCrit := r.u 9 1 = 1, threshold := 256 }
      { s with prot := { s.prot with pairSettings := if r.u 4 1 = 1 then rest else (id, x) :: rest } }) }

/-- The ticks that are left of the hold-offs in progress; the longest when there are several (R175). -/
def ProtUnit.holdLeft (now : Nat) (u : ProtUnit) : Nat :=
  ((List.range 16).map (fun i =>
    let left (t : Option Nat) : Nat := match t with | some t => t + (u.hold[i]?).getD 0 - now | none => 0
    max (left ((u.sf[i]?).getD none)) (left ((u.sd[i]?).getD none)))).foldl max 0

/-- The results of PROT_STATUS (R175, R360). -/
def ProtUnit.status (pair : Bool) (now : Nat) (u : ProtUnit) : List Byte :=
  leBytes 1 u.request.code ++ leBytes 1 u.member.val ++ leBytes 1 u.selected.val ++ leBytes 1 (if pair then 0 else u.bridged.val)
    ++ leBytes 1 (packBits [u.notHitless, u.protFail, u.lo, u.fs.isSome, u.ms.isSome]) ++ zeros 3
    ++ leBytes 4 (u.holdLeft now) ++ leBytes 4 (match u.wtr with | some (_, t) => t - now | none => 0)
    ++ leBytes 8 (if pair then 0 else (u.far.getD 0).toNat)
    ++ leBytes 4 u.switches.toNat ++ leBytes 4 u.reverts.toNat ++ leBytes 4 u.rescues.toNat ++ leBytes 4 u.marked.toNat

/-- PROT_STATUS (R360). -/
def cmdProtStatus : Command :=
  { Command.base 0x0406 0x0100 .u 8 40 with
    range := fun r => firstBad [(1 < r.u 0 1, 0), (!r.zero 1 3, 1), (r.u 0 1 = 0 && 255 < r.u 4 4, 4)]
    check := fun r _ s =>
      match s.heldUnit (protTarget r (r.u 0 1 = 1)) with
      | some u => .done (u.status (r.u 0 1 = 1) s.clock.tick)
      | none => .refuse .errState 0 [] }

end Sys2Proof.Machine
end

