-- ==== Sys2Proof/Machine/SyncCommands.lean ====
section
/-! DEFINITION. The SYNC family of host commands (R361 to R367). -/
namespace Sys2Proof.Machine

/-- Whether a signed value lies in a closed range. -/
def within (lo hi v : Int) : Bool := decide (lo ≤ v) && decide (v ≤ hi)

/-- A signed 32-bit field; what it shows of a value outside its range is a free value. -/
def signedField (v : Int) : List Byte :=
  if within (-2147483648) 2147483647 v then leSigned 4 v else leBytes 4 (Config.narrow32 v).toNat

/-- The reference that a payload names at offset 0. -/
def refField (r : Request) : Fin 12 := Fin.ofNat 12 (r.u 0 1)

/-- The first field of REF_DECLARE that is out of range (R250, R361). -/
def refDeclareRange (r : Request) : Option Nat :=
  let index := r.u 0 1
  let kind := r.u 1 1
  let badKind : Bool := if index < 8 then 2 < kind else kind != 0 && kind != 3
  let head := [(decide (11 < index), 0), (badKind, 1)]
  let unused (off n : Nat) : Bool × Nat := (!r.zero off n, off)
  if kind = 0 then
    firstBad (head ++ [unused 2 1, unused 3 1, unused 4 4, unused 8 4, unused 12 4, unused 16 2, unused 18 2, unused 20 4])
  else
    let nominal := r.u 4 4
    let badNominal : Bool := match kind with
      | 1 => 3 < nominal
      | 2 => nominal < 1000 || 800000000 < nominal
      | _ => 511 < nominal
    firstBad (head ++ (
      [(15 < r.u 2 1, 2), ((if kind = 1 then 2 else 0) < r.u 3 1, 3), (badNominal, 4),
       (r.u 8 4 = 0 || 100000 < r.u 8 4, 8), (r.u 12 4 ≤ r.u 8 4 || 100000 < r.u 12 4, 12),
       (r.u 16 2 = 0 || 3600 < r.u 16 2, 16), unused 18 2,
       (if kind = 1 then r.u 20 4 < 50 || 1000000 < r.u 20 4 else r.u 20 4 != 0, 20)] : List (Bool × Nat)))

/-- The kind that a code names (R361). -/
def kindOf (n : Nat) : RefKind := match n with | 1 => .pulse | 2 => .clock | 3 => .line | _ => .none

/-- Whether a declaration changes KIND or NOMINAL of a reference. -/
def changesRef (r : Request) (x : Reference) : Bool := x.kind != kindOf (r.u 1 1) || x.nominal != r.u 4 4

/-- A declaration takes effect: a changed kind or nominal disqualifies the reference (R250). -/
def State.declareRef (r : Request) (s : State) : State :=
  let i := refField r
  let fields (x : Reference) : Reference :=
    { x with
      kind := kindOf (r.u 1 1), nominal := r.u 4 4, priority := r.u 2 1, epochRole := r.u 3 1, accept := r.u 8 4
      reject := r.u 12 4, qualSeconds := r.u 16 2, tolerance := r.u 20 4 }
  let old := s.dpll.refs[i]
  if changesRef r old then
    let now := s.clock.tick
    let s := s.raiseIf old.qualified (refSource i) 2 .occurrence i.val 0 0
    (s.setRef i (fun _ => ((fields { Reference.reset with lastGood := now }).startGate).startQualification now)).judgeEpochSource
  else (s.setRef i fields).judgeEpochSource

/-- REF_DECLARE (R250, R361). -/
def cmdRefDeclare : Command :=
  { Command.base 0x0501 0x0100 .n 24 0 with
    range := refDeclareRange
    check := fun r _ s =>
      let i := refField r
      if s.dpll.selected = some i && changesRef r s.dpll.refs[i] then .refuse .errState 0 []
      else if r.u 3 1 != 0 && (List.finRange 12).any (fun j => j != i && s.dpll.refs[j].epochRole == r.u 3 1) then
        .refuse .errConflict 0 []
      else .done []
    later := some (fun r _ s => s.declareRef r) }

/-- The range of each setting code (R261, R362). -/
def settingRange : Nat → Int × Int
  | 1 => (0, 1) | 2 => (0, 7) | 3 => (0, 7) | 4 => (1, 1000) | 5 => (8, 1024) | 6 => (10, 1000000) | 7 => (1, 100000)
  | 8 => (0, 1) | 9 => (100, 1000000000) | 10 => (-10000000000, 10000000000) | 11 => (1, 604800) | 12 => (1, 3600)
  | _ => (1, 1000)

/-- One timing setting (R261, R362). -/
def TimingSettings.put (code : Nat) (v : Int) (x : TimingSettings) : TimingSettings :=
  let n := v.toNat
  match code with
  | 1 => { x with revertive := v = 1 }
  | 2 => { x with acquireBw := Fin.ofNat 8 n }
  | 3 => { x with lockedBw := Fin.ofNat 8 n }
  | 4 => { x with lockWindow := n }
  | 5 => { x with lockCount := n }
  | 6 => { x with epochWindow := n }
  | 7 => { x with epochPull := n }
  | 8 => { x with autoStep := v = 1 }
  | 9 => { x with stepThreshold := n }
  | 10 => { x with tickOffset := v }
  | 11 => { x with holdoverLimit := n }
  | 12 => { x with historyAverage := n }
  | _ => { x with slewLimit := n }

/-- TIMING_SET (R261, R362). -/
def cmdTimingSet : Command :=
  { Command.base 0x0502 0x0100 .n 12 0 with
    range := fun r => firstBad [(r.u 0 1 = 0 || 13 < r.u 0 1, 0), (!r.zero 1 3, 1),
      (!within (settingRange (r.u 0 1)).1 (settingRange (r.u 0 1)).2 (r.s 4 8), 4)]
    later := some (fun r _ s => s.setDpll (fun d => { d with settings := d.settings.put (r.u 0 1) (r.s 4 8) })) }

/-- A force is set or cleared (R256, R473). -/
def State.forceRef (f : Option (Fin 12)) (s : State) : State :=
  let old := s.dpll.forced
  let s := s.setDpll (fun d => { d with forced := f })
  if old = f then s
  else match f, old with
  | some i, _ => s.raise (refSource i) 4 .set i.val 0 0
  | none, some i => s.raise (refSource i) 4 .clear i.val 0 0
  | none, none => s

/-- REF_FORCE (R256, R363). -/
def cmdRefForce : Command :=
  { Command.base 0x0503 0x0100 .u 4 0 with
    range := fun r => firstBad [(11 < r.u 0 1 && r.u 0 1 != 255, 0), (!r.zero 1 3, 1)]
    check := fun r _ s =>
      if r.u 0 1 != 255 && s.dpll.refs[refField r].kind == .none then .refuse .errState 0 [] else .done []
    later := some (fun r _ s => s.forceRef (if r.u 0 1 = 255 then none else some (refField r))) }

/-- LOOP_OPEN and LOOP_CLOSE (R259, R270, R364). -/
def cmdLoopOpen : Command :=
  { Command.base 0x0504 0x0100 .u 0 0 with later := some (fun _ _ s => s.openLoop) }
def cmdLoopClose : Command :=
  { Command.base 0x0505 0x0100 .u 0 0 with later := some (fun _ _ s => s.closeLoop) }

/-- DCO_WRITE (R270, R364). -/
def cmdDcoWrite : Command :=
  { Command.base 0x0506 0x0100 .u 8 0 with
    range := fun r => firstBad [(!within (-250000000) 250000000 (r.s 0 4), 0), (1 < r.u 4 1, 4), (!r.zero 5 3, 5)]
    check := fun _ _ s => if s.loopWill then .done [] else .refuse .errState 0 []
    later := some (fun r _ s => s.writeDco (r.s 0 4) (r.u 4 1 = 1)) }

/-- TICK_STEP (R264, R267, R365). -/
def cmdTickStep : Command :=
  { Command.base 0x0507 0x0100 .n 0 16 with
    check := fun _ _ s =>
      if (s.casc.mode == .joined && s.casc.role != .master) || s.dpll.epochSource.isNone || s.dpll.hostStep.isSome then
        .refuse .errState 0 []
      else .accept []
    now := fun r _ s => s.setDpll (fun d => { d with hostStep := some (r.ref, s.clock.tick + 2 * second) }) }

/-- Half the period of a pulse output, in 10 ns units (R366). -/
def halfPeriod : Nat → Nat
  | 0 => 25 | 1 => 50000 | 2 => 500000 | 3 => 5000000 | _ => 50000000

/-- The first field of OUTPUT_SET that is out of range (R272, R366). -/
def outputRange (r : Request) : Option Nat :=
  let o := r.u 0 1
  let pulse : Bool := o = 8 || o = 9
  let synth : Bool := o = 6 || o = 7
  firstBad
    [(9 < o, 0), (3 < r.u 1 1, 1), (if pulse then 4 < r.u 2 1 else r.u 2 1 != 0, 2), (!r.zero 3 1, 3),
     (if o < 6 then r.u 4 4 < 3 || 2048000 < r.u 4 4 else r.u 4 4 != 0, 4),
     (if synth then r.u 8 8 < 1000000000 || 800000000000000 < r.u 8 8 else r.u 8 8 != 0, 8),
     (if pulse then r.u 16 4 = 0 || halfPeriod (r.u 2 1) < r.u 16 4 else r.u 16 4 != 0, 16), (!r.zero 20 4, 20),
     (if pulse then !within (-10000000000) 10000000000 (r.s 24 8) else r.s 24 8 != 0, 24)]

/-- The settings that OUTPUT_SET carries (R366). -/
def outputSettings (r : Request) : OutputSettings :=
  { enable := r.u 1 1 % 2 = 1, squelch := r.u 1 1 / 2 = 1, period := r.u 2 1, divider := r.u 4 4, freqUhz := r.u 8 8
    width := r.u 16 4, offset := r.s 24 8 }

/-- OUTPUT_SET: the settings wait for the edge or the instant of R274; a pulse output's lies at least 2 ticks after the
command (R366). -/
def cmdOutputSet : Command :=
  { Command.base 0x0508 0x0100 .n 32 0 with
    range := outputRange
    later := some (fun r _ s =>
      let o : Fin 10 := Fin.ofNat 10 (r.u 0 1)
      let due := if o.val < 8 then s.clock.tick else s.clock.tick + 1
      s.setDpll (fun d => { d with outputs := d.outputs.set o { d.outputs[o] with next := some (outputSettings r, due) } })) }

/-- An index in a status, FFh for none. -/
def indexByte {n : Nat} (i : Option (Fin n)) : List Byte := leBytes 1 (match i with | some i => i.val | none => 255)

/-- The state code of a reference (R367). -/
def Reference.code (x : Reference) : Nat :=
  if x.kind == .none then 0 else if !x.active then 1 else if x.qualified then 3 else if x.disqualified then 4 else 2

/-- Whether the device is in HOLDOVER. -/
def DpllState.inHoldover (d : DpllState) : Bool := d.mode == .holdover || d.mode == .holdoverBeyond

/-- The results of TIMING_STATUS (R367). -/
def State.timingStatus (s : State) : List Byte :=
  let d := s.dpll
  let valid := if d.inHoldover then d.historyValid else s.historyOk
  leBytes 1 s.dpllCode.toNat ++ indexByte d.selected ++ indexByte d.epochSource ++ indexByte d.forced
    ++ leBytes 2 (packBits [s.coarse, d.slewing, d.clamped, d.epochMet, d.holdOscQualified, valid, d.epochHoldover && d.inHoldover,
        d.holdOscMeasured]) ++ zeros 2
    ++ signedField d.epochError ++ signedField d.phaseError ++ leSigned 8 d.outputPpt
    ++ leSigned 8 (if d.holdOscMeasured then d.holdOscPpt else 0)
    ++ leBytes 8 (if d.inHoldover then (s.clock.tick - d.holdoverSince) / second else 0)
    ++ d.refs.toList.flatMap (fun x => leBytes 1 x.code ++ zeros 3 ++ signedField x.offset)

/-- TIMING_STATUS (R367). -/
def cmdTimingStatus : Command :=
  { Command.base 0x0509 0x0100 .u 0 136 with check := fun _ _ s => .done s.timingStatus }

end Sys2Proof.Machine
end

