-- ==== Sys2Proof/Machine/CascCommands.lean ====
section
/-! DEFINITION. The CASC family of host commands (R368 to R372). -/
namespace Sys2Proof.Machine

/-- The counts of a cascade declaration, and the length that they need (R368). -/
def cascMembers (bs : List Byte) : Nat := field bs 10 1
def cascSeams (bs : List Byte) : Nat := field bs 12 2
def seamOffset (bs : List Byte) (j : Nat) : Nat := 32 + 52 * cascMembers bs + 8 * j
def cascLength (bs : List Byte) : Nat := seamOffset bs (cascSeams bs)

/-- The declaration that a buffer holds (R277, R368). -/
def cascDeclaration (bs : List Byte) : CascadeDeclaration :=
  { ownIndex := Fin.ofNat 64 (field bs 1 1), arbiter := field bs 2 1 = 1, domain := BitVec.ofNat 32 (field bs 4 4)
    capable := (Fin.ofNat 64 (field bs 8 1), Fin.ofNat 64 (field bs 9 1))
    members := (List.range (cascMembers bs)).map (fun i =>
      (Fin.ofNat 64 (field bs (32 + 52 * i) 1), padTo 48 ((bs.drop (36 + 52 * i)).take 48)))
    seams := (List.range (cascSeams bs)).map (fun j =>
      let o := seamOffset bs j
      { port := Fin.ofNat 512 (field bs o 2), partner := Fin.ofNat 64 (field bs (o + 2) 1), partnerPort := BitVec.ofNat 16 (field bs (o + 4) 2) })
    roleHours := field bs 14 2, tickDelay := sfield bs 16 4 }

/-- The first field of a declaration that is out of range (R277, R368). -/
def cascRange (bs : List Byte) : Option Nat :=
  let indices := (List.range (cascMembers bs)).map (fun i => field bs (32 + 52 * i) 1)
  firstBad [(field bs 0 1 != 1, 0), (63 < field bs 1 1, 1), (1 < field bs 2 1, 2), (!isZero bs 3 1, 3), (field bs 4 4 = 0, 4),
      (!indices.contains (field bs 8 1), 8), (!indices.contains (field bs 9 1) || field bs 8 1 = field bs 9 1, 9),
      (cascMembers bs = 0 || 64 < cascMembers bs, 10), (!isZero bs 11 1, 11), (512 < cascSeams bs, 12),
      (field bs 14 2 = 0 || 168 < field bs 14 2, 14), (!within (-20000) 20000000 (sfield bs 16 4), 16), (!isZero bs 20 12, 20)]
    <|> (List.range (cascMembers bs)).findSome? (fun i =>
      firstBad [(63 < field bs (32 + 52 * i) 1, 32 + 52 * i), (!isZero bs (33 + 52 * i) 3, 33 + 52 * i)])
    <|> (List.range (cascSeams bs)).findSome? (fun j =>
      let o := seamOffset bs j
      firstBad [(511 < field bs o 2, o), (63 < field bs (o + 2) 1, o + 2), (!isZero bs (o + 3) 1, o + 3),
        (511 < field bs (o + 4) 2, o + 4), (!isZero bs (o + 6) 2, o + 6)])

/-- A port's role is seam link, staged or in force (R368). -/
def Port.seamRole (q : Port) : Bool := q.settings.role == .seam || q.staged.role == some .seam

/-- The declaration shows that its own device is cut off: it names other members and no seam link to any of them. A
declaration names only its own device's links, so that more of the graph of R277 cannot be seen (log 45). -/
def CascadeDeclaration.cutOff (d : CascadeDeclaration) : Bool :=
  let others := (d.members.map (·.1)).filter (fun m => m != d.ownIndex)
  !others.isEmpty && !d.seams.any (fun l => others.contains l.partner)

/-- What a member's entry says, for the two master-capable devices. -/
def CascadeDeclaration.identity (d : CascadeDeclaration) (m : Fin 64) : Option (List Byte) := (d.members.find? (fun x => x.1 == m)).map (·.2)

/-- Whether one declaration changes what R277 fixes outside STANDALONE. -/
def CascadeDeclaration.changesFixed (old new : CascadeDeclaration) : Bool :=
  old.domain != new.domain || old.ownIndex != new.ownIndex || old.capable != new.capable || old.tickDelay != new.tickDelay
    || old.arbiter != new.arbiter || old.identity old.capable.1 != new.identity old.capable.1
    || old.identity old.capable.2 != new.identity old.capable.2

/-- The checks of CASC_DECLARE once its buffer is read (R277, R368). -/
def State.checkDeclaration (bs : List Byte) (s : State) : Reply :=
  let d := cascDeclaration bs
  if bs.length < 32 || bs.length < cascLength bs then .refuse .errLength detailList []
  else match cascRange bs with
  | some o => .refuse .errRange (detailBuffer o) []
  | none =>
    match (List.range (cascSeams bs)).find? (fun j => !(s.port (Fin.ofNat 512 (field bs (seamOffset bs j) 2))).seamRole) with
    | some j => .refuse .errConflict (detailBuffer (seamOffset bs j)) []
    | none =>
      if d.cutOff then .refuse .errConflict 0 []
      else if s.casc.mode != .standalone && (match s.casc.declaration with | some x => x.changesFixed d | none => false) then
        .refuse .errState 0 []
      else .done []

/-- The seam links' channels under a new declaration: those that stay keep what they have heard. -/
def SeamState.renew (old : List SeamState) (d : CascadeDeclaration) : List SeamState :=
  d.seams.map (fun l => (old.find? (fun x => x.port == l.port)).getD { (default : SeamState) with port := l.port })

/-- A declaration stands; on a STANDALONE device it starts JOINING (R278, R368). -/
def State.declareCascade (d : CascadeDeclaration) (s : State) : State :=
  let now := s.clock.tick
  let names := d.members.map (·.1)
  let start := s.casc.mode == .standalone
  let s := s.setCasc (fun c =>
    { c with
      declaration := some d, seams := SeamState.renew c.seams d, joined := c.joined.filter (fun m => names.contains m)
      startedAt := if start then now else c.startedAt, joinSent := if start then false else c.joinSent
      activeHeard := if start then false else c.activeHeard
      roleNext := if start then now + d.roleHours * 3600 * second else c.roleNext })
  if start then s.setCascMode .joining else s

/-- CASC_DECLARE (R277, R368). -/
def cmdCascDeclare : Command :=
  { Command.base 0x0601 0x0101 .n 8 0 with
    desc := true
    check := fun _ n _ => if n < 32 then .refuse .errLength detailList [] else .read n
    onData := fun _ bs s => s.checkDeclaration bs
    later := some (fun _ bs s => s.declareCascade (cascDeclaration bs)) }

/-- CASC_LEAVE (R369). -/
def cmdCascLeave : Command :=
  { Command.base 0x0602 0x0101 .n 0 0 with
    check := fun _ _ s => if s.isMaster || s.casc.staged.isSome then .refuse .errState 0 [] else .done []
    later := some (fun _ _ s => if s.casc.mode == .standalone then s else s.leaveCascade) }

/-- CASC_STAGE (R291, R370). -/
def cmdCascStage : Command :=
  { Command.base 0x0603 0x0101 .u 8 0 with
    range := fun r => firstBad [(r.u 0 4 = 0, 0), (!r.zero 4 4, 4)]
    check := fun _ _ s => if s.map.shadowMode != .ready || s.casc.mode != .joined then .refuse .errState 0 [] else .done []
    later := some (fun r _ s => if s.map.shadowMode == .ready then s.stageBank (BitVec.ofNat 32 (r.u 0 4)) false none else s) }

/-- The members of a participant mask. -/
def participantsOf (mask : Nat) : List (Fin 64) := (List.finRange 64).filter (fun m => mask.testBit m.val)

/-- The declared members. -/
def State.declaredMembers (s : State) : List (Fin 64) :=
  match s.casc.declaration with | some d => d.members.map (·.1) | none => []

/-- CASC_SWAP (R291 to R294, R370). -/
def cmdCascSwap : Command :=
  { Command.base 0x0604 0x0101 .u 24 16 with
    full := true
    persist := true
    range := fun r => firstBad [(r.u 0 4 = 0, 0), (1 < r.u 4 1, 4), (!r.zero 5 3, 5)]
    check := fun r _ s =>
      if (participantsOf (r.u 16 8)).any (fun m => !s.declaredMembers.contains m) then .refuse .errRange 16 []
      else if !s.isMaster || s.casc.swap.isSome then .refuse .errState 0 []
      else if r.u 4 1 = 1 && !(decide (s.clock.frame.toNat + s.swapLead ≤ r.u 8 8) && decide (r.u 8 8 ≤ s.clock.frame.toNat + 8589934592)) then
        .refuse .errRange 8 []
      else .accept []
    now := fun r _ s =>
      let x := BitVec.ofNat 32 (r.u 0 4)
      let named := if r.u 4 1 = 1 then some (BitVec.ofNat 64 (r.u 8 8)) else none
      -- the master's own bank carries the PERSIST flag of the command
      let s := s.setCasc (fun c => { c with staged := c.staged.map (fun g => if g.id = x then { g with persist := r.persist } else g) })
      s.openSwap x (participantsOf (r.u 16 8)) named r.persist (some r.ref) }

/-- The swap that CASC_ABORT can still end: X before its decision (R292, R370). -/
def State.abortable (x : BitVec 32) (s : State) : Option CascadeSwap :=
  match s.casc.swap with
  | some w => if s.isMaster && w.id = x && w.phase == .prepare then some w else none
  | none => none

/-- CASC_ABORT (R292, R370). -/
def cmdCascAbort : Command :=
  { Command.base 0x0605 0x0101 .u 4 0 with
    check := fun r _ s => if (s.abortable (BitVec.ofNat 32 (r.u 0 4))).isSome then .done [] else .refuse .errState 0 []
    later := some (fun r _ s =>
      match s.abortable (BitVec.ofNat 32 (r.u 0 4)) with
      | some w => s.abortSwap w .errState
      | none => s) }

/-- CASC_HANDOVER (R299, R371). -/
def cmdCascHandover : Command :=
  { Command.base 0x0606 0x0103 .n 0 8 with
    check := fun _ _ s =>
      if s.cascadeVersion < 3 then .refuse .errVersion 0 []
      else if !s.isMaster then .refuse .errState 0 []
      else .accept []
    now := fun r _ s => s.askHandover false (some r.ref) }

/-- CASC_RELEASE (R371). -/
def cmdCascRelease : Command :=
  { Command.base 0x0607 0x0103 .n 0 8 with
    check := fun _ _ s => if !s.isMaster || s.casc.swap.isSome then .refuse .errState 0 [] else .accept []
    now := fun r _ s => s.askHandover true (some r.ref) }

/-- The results of CASC_STATUS (R372). -/
def State.cascStatus (s : State) : List Byte :=
  let c := s.casc
  leBytes 1 c.mode.code ++ leBytes 1 c.role.code ++ leBytes 1 s.cascadeVersion ++ indexByte c.master ++ indexByte c.followed
    ++ leBytes 1 (packBits [c.mstInhIn, c.tickPathLost, c.channelPathLost, c.dualMaster] + 16 * c.arbSel.toNat) ++ zeros 2
    ++ leBytes 4 (match c.staged, c.swap with
        | some g, _ => g.id.toNat
        | none, some w => w.id.toNat
        | none, none => 0)
    ++ leBytes 4 c.flywheelTicks.toNat ++ leBytes 8 (memberMask c.joined) ++ zeros 8

/-- CASC_STATUS: the read clears FLYWHEEL_TICKS (R372). -/
def cmdCascStatus : Command :=
  { Command.base 0x0608 0x0101 .u 0 32 with
    check := fun _ _ s => .done s.cascStatus
    now := fun _ _ s => s.setCasc (fun c => { c with flywheelTicks := 0 }) }

end Sys2Proof.Machine
end

