-- ==== Sys2Proof/Machine/StatCommands.lean ====
section
/-! DEFINITION. The STAT family of host commands (R374 to R379). -/
namespace Sys2Proof.Machine

/-- The payload of a bank swap: MODE, 7 reserved bytes, FRAME (R375, R380). -/
def bankSwapRange (r : Request) : Option Nat :=
  firstBad [(1 < r.u 0 1, 0), (!r.zero 1 7, 1), (r.u 0 1 = 0 && r.u 8 8 != 0, 8)]

/-- The frame of a swap of a recipe or trigger bank: R141 with L = 8 (R197, R221). -/
def State.bankFrame (s : State) (r : Request) : Option (BitVec 64) :=
  if r.u 0 1 = 0 then some (s.clock.frame + 8)
  else if decide (s.clock.frame.toNat + 8 ≤ r.u 8 8) && decide (r.u 8 8 ≤ s.clock.frame.toNat + 8589934592) then
    some (BitVec.ofNat 64 (r.u 8 8))
  else none

/-- The answer to a bank swap (R141, R197, R221). -/
def State.bankSwapReply (s : State) (r : Request) (mode : BankMode) : Reply :=
  if mode != .ready then .refuse .errState 0 []
  else match s.bankFrame r with
  | some f => .accept (leBytes 8 f.toNat)
  | none => .refuse .errRange 8 []

/-- Whether a swap can still be withdrawn: its interval begins at tick F−8 or earlier (R143, R197). -/
def State.withdrawable (s : State) (w : Option BankSwap) : Bool :=
  match w with
  | some w => decide (s.clock.frame.toNat + 8 ≤ w.frame.toNat)
  | none => false

/-- The results of a bank swap: F and GENERATION (R375). -/
def bankResults (f : BitVec 64) (gen : BitVec 32) : List Byte := leBytes 8 f.toNat ++ leBytes 4 gen.toNat ++ zeros 4

/-- RECIPE_LOAD (R197, R374). -/
def cmdRecipeLoad : Command :=
  { Command.base 0x0701 0x0200 .n 8 0 with
    full := true
    desc := true
    check := fun _ n s =>
      if s.ember.shadowMode == .empty || s.ember.shadowMode == .ready then .acceptRead n else .refuse .errState 0 []
    now := fun r _ s => s.setEmber (fun x =>
      { x with shadowMode := .loading, load := some { command := r.ref, formats := s.ports.map (fun q => q.settings.inFormats), data := none } })
    arrived := fun r bs s => s.setEmber (fun x =>
      { x with load := x.load.map (fun l => if l.command = r.ref then { l with data := some bs } else l) }) }

/-- RECIPE_SWAP (R197, R198, R375). -/
def cmdRecipeSwap : Command :=
  { Command.base 0x0702 0x0200 .u 16 16 with
    full := true
    persist := true
    range := bankSwapRange
    check := fun r _ s => s.bankSwapReply r s.ember.shadowMode
    now := fun r _ s =>
      match s.bankFrame r with
      | some f => s.setEmber (fun x => { x with shadowMode := .scheduled, swap := some { frame := f, persist := r.persist, command := r.ref } })
      | none => s }

/-- The payload of a bank cancel: WHAT and 3 reserved bytes (R375). -/
def bankCancelRange (r : Request) : Option Nat := firstBad [(1 < r.u 0 1, 0), (!r.zero 1 3, 1)]

/-- Withdraw a recipe swap, or discard a READY set (R143, R197, R375). -/
def State.cancelRecipe (what : Nat) (s : State) : State :=
  if what = 0 then
    match s.ember.swap with
    | some w =>
      if s.withdrawable (some w) then
        (s.setEmber (fun x => { x with swap := none, shadowMode := .ready })).complete w.command .errState 0
          (bankResults w.frame s.ember.generation)
      else s
    | none => s
  else if s.ember.shadowMode == .ready then s.setEmber (fun x => { x with shadow := none, shadowMode := .empty })
  else s

/-- RECIPE_CANCEL (R375). -/
def cmdRecipeCancel : Command :=
  { Command.base 0x0703 0x0200 .u 4 0 with
    full := true
    range := bankCancelRange
    check := fun r _ s =>
      if (if r.u 0 1 = 0 then s.withdrawable s.ember.swap else s.ember.shadowMode == .ready) then .done [] else .refuse .errState 0 []
    now := fun r _ s => s.cancelRecipe (r.u 0 1) }

/-- The payload of a bank read: WHAT at offset 8 and 7 reserved bytes (R375). -/
def bankReadRange (r : Request) : Option Nat := firstBad [(1 < r.u 8 1, 8), (!r.zero 9 7, 9)]

/-- The answer to a bank read: the active set, or the shadow set unless it is EMPTY or LOADING (R375). -/
def bankReadReply (what n size : Nat) (active : List Byte) (gen : BitVec 32) (shadow : Option (List Byte)) : Reply :=
  let out (bs : List Byte) (g : BitVec 32) : Reply :=
    if n < size then .refuse .errLength detailList [] else .acceptWrite bs (leBytes 4 size ++ leBytes 4 g.toNat)
  if what = 0 then out active gen
  else match shadow with
  | some bs => out bs (gen + 1)
  | none => .refuse .errState 0 []

/-- RECIPE_READ (R375). -/
def cmdRecipeRead : Command :=
  { Command.base 0x0704 0x0200 .b 16 8 with
    desc := true
    range := bankReadRange
    check := fun r n s =>
      bankReadReply (r.u 8 1) n recipeSetBytes s.ember.active.bytes s.ember.generation
        (if s.ember.shadowMode == .loading then none else s.ember.shadow.map RecipeSet.bytes) }

/-- RECORD_POST (R204, R376). -/
def cmdRecordPost : Command :=
  { Command.base 0x0705 0x0200 .b 8 8 with
    desc := true
    check := fun _ n s =>
      if n < 24624 || 67108864 < n then .refuse .errLength detailList []
      else if 64 ≤ s.ember.buffers.length then .refuse .errResource 0 []
      else .accept []
    now := fun r n s =>
      (s.setEmber (fun x =>
        { x with buffers := x.buffers ++ [{ command := r.ref, length := n, filled := [], records := 0, firstAt := 0 }] })).pumpRecords }

/-- RECORD_FLUSH (R376). -/
def cmdRecordFlush : Command :=
  { Command.base 0x0706 0x0200 .u 0 4 with
    check := fun _ _ s => .done (leBytes 4 s.ember.buffers.length)
    now := fun _ _ s => s.flushBuffers }

/-- ENGINE_IMAGE_LOAD: the security core verifies the image once it has been read (R377). -/
def cmdEngineImageLoad : Command :=
  { Command.base 0x0707 0x0200 .n 8 8 with
    desc := true
    check := fun _ n s => if s.ember.imageLoad.isSome then .refuse .errState 0 [] else .jobRead true 0 n
    now := fun r _ s => s.setEmber (fun x => { x with imageLoad := some r.ref })
    arrived := fun r bs s => s.setSec (fun y => { y with work := y.work ++ [{ opcode := 0x0707, request := r, data := bs }] }) }

/-- The cluster that a payload names at offset 0. -/
def clusterField (r : Request) : Fin 8 := Fin.ofNat 8 (r.u 0 1)
/-- CLUSTER and 3 reserved bytes (R377). -/
def clusterRange (r : Request) : Option Nat := firstBad [(7 < r.u 0 1, 0), (!r.zero 1 3, 1)]

/-- CLUSTER_STOP (R205, R377). -/
def cmdClusterStop : Command :=
  { Command.base 0x0708 0x0200 .n 4 8 with
    full := true
    range := clusterRange
    check := fun r _ s => if s.ember.clusters[clusterField r].mode == .stopped then .done (zeros 8) else .done s.nextFrame
    later := some (fun r _ s => s.stopCluster (clusterField r)) }

/-- A stopped cluster starts to load the stored image (R205 step 3). -/
def State.restartCluster (c : Fin 8) (ref : CommandRef) (s : State) : State :=
  if s.ember.clusters[c].mode == .stopped then
    (s.setClusterMode c .loading).setCluster c (fun x => { x with restart := some ref })
  else s.complete ref .ok 0 (zeros 8)

/-- CLUSTER_RESTART (R205, R377, R559). -/
def cmdClusterRestart : Command :=
  { Command.base 0x0709 0x0200 .n 4 8 with
    full := true
    range := clusterRange
    check := fun r _ s =>
      let c := clusterField r
      if s.ember.imageLoad.isSome || s.ember.clusters[c].mode == .loading || !s.domainOn (clusterDomain c) then .refuse .errState 0 []
      else if s.ember.clusters[c].mode == .running then .acceptDone [] (zeros 8)
      else .accept []
    later := some (fun r _ s =>
      if (s.chan r.channel).find r.token |>.any (fun e => e.status.isFinal) then s else s.restartCluster (clusterField r) r.ref) }

/-- The spares of a cluster that neither are faulty nor serve a logical engine (R206, R378). -/
def State.sparesLeft (s : State) (c : Fin 8) : Nat :=
  let used := (clusterEngines c).filterMap (fun e => if s.ember.engines[e].out then none else some s.ember.engines[e].physical)
  let faulty := s.ember.clusters[c].faulty
  ((List.finRange 132).filter (fun x => !used.contains x && !faulty.contains x)).length

/-- The logical engines of a cluster that are out of service with no spare (R206, R378). -/
def State.unreplaced (s : State) (c : Fin 8) : List (Fin 1024) :=
  ((clusterEngines c).filter (fun e => s.ember.engines[e].out)).drop (s.sparesLeft c)

/-- The results of CLUSTER_STATUS (R378). -/
def State.clusterStatus (c : Fin 8) (s : State) : List Byte :=
  let x := s.ember.clusters[c]
  let loads := (clusterEngines c).map (fun e => s.ember.active.load e)
  let lost := s.unreplaced c
  let serves (i : Nat) : Nat :=
    match (clusterEngines c).find? (fun e => !s.ember.engines[e].out && s.ember.engines[e].physical.val == 128 + i) with
    | some e => e.val
    | none => 0xFFFF
  leBytes 1 x.mode.code ++ leBytes 1 (s.sparesLeft c) ++ leBytes 1 lost.length ++ zeros 1 ++ leBytes 2 x.library.toNat ++ zeros 2
    ++ leBytes 4 (floatWord (loads.foldl max 0)).toNat ++ leBytes 4 x.dropped.toNat ++ leBytes 8 x.lastChange.toNat
    ++ (List.range 4).flatMap (fun i => leBytes 2 (serves i))
    ++ leBytes 16 ((lost.map (fun e => 2 ^ (e.val % 128))).sum)

/-- CLUSTER_STATUS (R378). -/
def cmdClusterStatus : Command :=
  { Command.base 0x070A 0x0200 .u 4 48 with
    range := clusterRange
    check := fun r _ s => .done (s.clusterStatus (clusterField r)) }

/-- ENGINE_COUNTERS (R207, R379). -/
def cmdEngineCounters : Command :=
  { Command.base 0x070B 0x0200 .u 4 48 with
    range := fun r => firstBad [(1023 < r.u 0 2, 0), (!r.zero 2 2, 2)]
    check := fun r _ s =>
      let e : Fin 1024 := Fin.ofNat 1024 (r.u 0 2)
      let g := s.ember.engines[e]
      .done ([g.dwells, g.written, g.lostTotal, g.sparks, g.refused].flatMap (fun v => leBytes 8 v.toNat)
        ++ leBytes 2 g.physical.val ++ zeros 2 ++ leBytes 4 (floatWord (s.ember.active.load e)).toNat) }

end Sys2Proof.Machine
end

