-- ==== Sys2Proof/Machine/CapCommands.lean ====
section
/-! DEFINITION. The CAP family of host commands (R380 to R392). -/
namespace Sys2Proof.Machine

/-- TRIGGER_LOAD (R220, R221, R380). -/
def cmdTriggerLoad : Command :=
  { Command.base 0x0801 0x0200 .n 8 0 with
    full := true
    desc := true
    check := fun _ n s =>
      if s.cap.shadowMode == .empty || s.cap.shadowMode == .ready then .acceptRead n else .refuse .errState 0 []
    now := fun r _ s =>
      let l : TriggerLoad :=
        { command := r.ref, formats := s.ports.map (fun q => q.settings.inFormats)
          declared := (List.finRange 32).filter (fun n => s.cap.namespaces[n].mode != .undeclared), data := none }
      s.setCap (fun x => { x with shadowMode := .loading, load := some l })
    arrived := fun r bs s => s.setCap (fun x =>
      { x with load := x.load.map (fun l => if l.command = r.ref then { l with data := some bs } else l) }) }

/-- TRIGGER_SWAP (R221, R222, R380). -/
def cmdTriggerSwap : Command :=
  { Command.base 0x0802 0x0200 .u 16 16 with
    full := true
    persist := true
    range := bankSwapRange
    check := fun r _ s => s.bankSwapReply r s.cap.shadowMode
    now := fun r _ s =>
      match s.bankFrame r with
      | some f => s.setCap (fun x => { x with shadowMode := .scheduled, swap := some { frame := f, persist := r.persist, command := r.ref } })
      | none => s }

/-- Withdraw a trigger swap, or discard a READY bank (R143, R221, R380). -/
def State.cancelTrigger (what : Nat) (s : State) : State :=
  if what = 0 then
    match s.cap.swap with
    | some w =>
      if s.withdrawable (some w) then
        (s.setCap (fun x => { x with swap := none, shadowMode := .ready })).complete w.command .errState 0
          (bankResults w.frame s.cap.generation)
      else s
    | none => s
  else if s.cap.shadowMode == .ready then s.setCap (fun x => { x with shadow := none, shadowMode := .empty })
  else s

/-- TRIGGER_CANCEL (R380). -/
def cmdTriggerCancel : Command :=
  { Command.base 0x0803 0x0200 .u 4 0 with
    full := true
    range := bankCancelRange
    check := fun r _ s =>
      if (if r.u 0 1 = 0 then s.withdrawable s.cap.swap else s.cap.shadowMode == .ready) then .done [] else .refuse .errState 0 []
    now := fun r _ s => s.cancelTrigger (r.u 0 1) }

/-- TRIGGER_READ (R380). -/
def cmdTriggerRead : Command :=
  { Command.base 0x0804 0x0200 .b 16 8 with
    desc := true
    range := bankReadRange
    check := fun r n s =>
      bankReadReply (r.u 8 1) n triggerBankBytes s.cap.active.bytes s.cap.generation
        (if s.cap.shadowMode == .loading then none else s.cap.shadow.map TriggerBank.bytes) }

/-- The capture engine is marked unusable (R540). -/
def State.captureMarked (s : State) : Bool := s.marked 4 0

/-- The channels that are not DISARMED at T+1 (R381): after this command, and after a bank swap that takes place then. -/
def State.armedAfter (arm disarm : Nat) (s : State) : Nat :=
  let next (t : Fin 64) : Option ChannelEntry :=
    match s.cap.swap, s.cap.shadow with
    | some w, some b => if w.frame = s.clock.frame + 1 then b.channel t else s.cap.active.channel t
    | _, _ => s.cap.active.channel t
  packBits ((List.finRange 64).map (fun t =>
    ((s.cap.channels[t].mode != .disarmed && !disarm.testBit t.val) || arm.testBit t.val) && (next t).isSome))

/-- CHANNEL_ARM (R209, R381). -/
def cmdChannelArm : Command :=
  { Command.base 0x0805 0x0200 .u 16 8 with
    full := true
    range := fun r => firstBad [(r.u 0 8 &&& r.u 8 8 != 0, 8)]
    check := fun r _ s =>
      if (List.finRange 64).any (fun t => (r.u 0 8).testBit t.val && (s.cap.active.channel t).isNone) then .refuse .errState 0 []
      else if r.u 0 8 != 0 && s.captureMarked then .refuse .errUnusable 0 []
      else .done (leBytes 8 (s.armedAfter (r.u 0 8) (r.u 8 8)))
    later := some (fun r _ s => (List.finRange 64).foldl (fun (s : State) (t : Fin 64) =>
      if (r.u 8 8).testBit t.val then s.disarm t else if (r.u 0 8).testBit t.val then s.arm t else s) s) }

/-- Whether frame `f`, before T, is still held in the ring: written, no gap, and within the ring's depth (R215, R223, R225). -/
def State.heldInRing (s : State) (f : Nat) : Bool :=
  s.cap.ring.any (fun r => r.number.toNat == f && !r.gap) && decide (s.clock.frame.toNat < f + s.ringDepth)

/-- The channel of a payload at offset 0. -/
def channelField (r : Request) : Fin 64 := Fin.ofNat 64 (r.u 0 1)

/-- The trigger frame of a HOST_TRIGGER, and the tick at which it is decided (R215). -/
def State.hostFrame (s : State) (r : Request) : BitVec 64 × BitVec 64 :=
  let t := s.clock.frame
  if r.u 1 1 = 0 then (t, t + 2)
  else
    let f := BitVec.ofNat 64 (r.u 8 8)
    (f, if t ≤ f then f + 2 else t + 2)

/-- HOST_TRIGGER (R215, R382). -/
def cmdHostTrigger : Command :=
  { Command.base 0x0806 0x0200 .u 16 24 with
    full := true
    range := fun r => firstBad [(63 < r.u 0 1, 0), (1 < r.u 1 1, 1), (!r.zero 2 6, 2), (r.u 1 1 = 0 && r.u 8 8 != 0, 8)]
    check := fun r _ s =>
      let c := channelField r
      let f := r.u 8 8
      let now := s.clock.frame.toNat
      if s.captureMarked then .refuse .errUnusable 0 []
      else if r.u 1 1 = 1 && (decide (now + 8589934592 < f) || (decide (f < now) && !s.heldInRing f)) then .refuse .errRange 8 []
      else if s.cap.channels[c].host.isSome || s.cap.channels[c].mode == .disarmed
          || !((s.cap.active.channel c).any (fun e => e.host)) then .refuse .errState 0 []
      else .accept (leBytes 8 (s.hostFrame r).1.toNat)
    now := fun r _ s =>
      s.setTrig (channelField r) (fun c => { c with host := some { command := r.ref, frame := (s.hostFrame r).1, due := (s.hostFrame r).2 } }) }

/-- The capture that a sequence names while it is open (R227). -/
def State.openCapture (s : State) (sequence : Nat) : Option Capture := s.cap.captures.find? (fun c => c.sequence == sequence)

/-- An abort ends the capture in a failure record, unless the trailer has been issued; the command completes with the record
(R231, R383). -/
def State.abortCapture (r : CommandRef) (sequence : Nat) (s : State) : State :=
  match s.openCapture sequence with
  | none => s
  | some c =>
    match c.step with
    | .window | .writing | .flushOne =>
      let c := { c with aborts := c.aborts ++ [r] }
      (s.setCapture c).failCapture c 5
    | .trailer | .flushTwo => s.complete r .errState 0 []

/-- CAPTURE_ABORT (R231, R383). -/
def cmdCaptureAbort : Command :=
  { Command.base 0x0807 0x0200 .u 8 0 with
    full := true
    check := fun r _ s => if (s.openCapture (r.u 0 8)).isSome then .accept [] else .refuse .errState 0 []
    now := fun r _ s => s.abortCapture r.ref (r.u 0 8) }

/-- The results of TRIGGER_STATUS (R384). -/
def TriggerChannel.status (c : TriggerChannel) : List Byte :=
  leBytes 1 c.mode.code ++ leBytes 1 (bit c.waiting.isSome) ++ zeros 2 ++ c.counters.toList.flatMap (fun v => leBytes 4 v.toNat) ++ zeros 4
    ++ leBytes 8 (if c.mode == .rearm then c.rearmEnd.toNat else 0)

/-- TRIGGER_STATUS (R384). -/
def cmdTriggerStatus : Command :=
  { Command.base 0x0808 0x0200 .u 4 48 with
    range := fun r => firstBad [(63 < r.u 0 1, 0), (!r.zero 1 3, 1)]
    check := fun r _ s => .done (s.cap.channels[channelField r]).status }

/-- CAPTURE_STATUS (R385). -/
def cmdCaptureStatus : Command :=
  { Command.base 0x0809 0x0200 .u 0 48 with
    check := fun _ _ s =>
      let c := s.cap
      .done (leBytes 4 s.ringDepth ++ leBytes 2 c.captures.length ++ zeros 2 ++ leBytes 8 c.ringStart.toNat ++ leBytes 8 c.gapFrames
        ++ leBytes 8 c.nextSequence ++ leBytes 8 c.bytesStored ++ leBytes 4 c.failureRecords ++ zeros 4) }

/-- The drive entries of a declaration: their count, and where an entry lies (R386). -/
def driveCount (bs : List Byte) : Nat := field bs 1 1
def driveOffset (i : Nat) : Nat := 16 + 80 * i

/-- The declaration that a buffer holds (R386). -/
def driveSetOf (bs : List Byte) : DriveSet :=
  { split := Vector.ofFn (fun i => Fin.ofNat 4 (field bs (4 + i.val) 1))
    entries := (List.range (driveCount bs)).map (fun i =>
      let o := driveOffset i
      { drive := Fin.ofNat 16 (field bs o 1), rootPort := Fin.ofNat 4 (field bs (o + 1) 1), link := field bs (o + 2) 1
        capacity := BitVec.ofNat 64 (field bs (o + 8) 8), model := BitVec.ofNat 320 (field bs (o + 16) 40)
        serial := BitVec.ofNat 160 (field bs (o + 56) 20) }) }

/-- How many link positions a SPLIT gives (R386). -/
def splitLinks : Nat → Nat
  | 0 => 1 | 1 => 2 | 2 => 4 | _ => 0

/-- The first field of a drive declaration that is out of range (R386). -/
def driveRange (bs : List Byte) : Option Nat :=
  let ascii (o n : Nat) : Bool := ((bs.drop o).take n).all (fun b => decide (0x20 ≤ b.toNat) && decide (b.toNat ≤ 0x7E))
  firstBad [(field bs 0 1 != 1, 0), (16 < driveCount bs, 1), (!isZero bs 2 2, 2), (3 < field bs 4 1, 4), (3 < field bs 5 1, 5),
      (3 < field bs 6 1, 6), (3 < field bs 7 1, 7), (!isZero bs 8 8, 8)]
    <|> (List.range (driveCount bs)).findSome? (fun i =>
      let o := driveOffset i
      let repeated := (List.range i).any (fun j => field bs (driveOffset j) 1 == field bs o 1)
      firstBad [(15 < field bs o 1 || repeated, o), (3 < field bs (o + 1) 1, o + 1),
        (splitLinks (field bs (4 + field bs (o + 1) 1) 1) ≤ field bs (o + 2) 1, o + 2), (!isZero bs (o + 3) 5, o + 3),
        (!ascii (o + 16) 40, o + 16), (!ascii (o + 56) 20, o + 56), (!isZero bs (o + 76) 4, o + 76)])

/-- A drive that holds a SINGLE extent and is dropped or changed: the DETAIL of the refusal (R386). -/
def State.driveConflict (s : State) (bs : List Byte) : Option Nat :=
  let new := driveSetOf bs
  let drives := s.cap.namespaces.toList.flatMap (fun x => if x.mode == .undeclared || x.mirror then [] else x.members.map (·.1))
  drives.findSome? (fun d =>
    match new.entries.findIdx? (fun e => e.drive == d), s.cap.drivesHeld.entries.find? (fun e => e.drive == d) with
    | none, _ => some 0
    | some i, some old =>
      match new.entries[i]? with
      | some e =>
        if e.model != old.model then some (detailBuffer (driveOffset i + 16))
        else if e.serial != old.serial then some (detailBuffer (driveOffset i + 56)) else none
      | none => none
    | some _, none => none)

/-- The checks of DRIVE_DECLARE once its buffer is read (R386). -/
def State.checkDrives (bs : List Byte) (s : State) : Reply :=
  if bs.length < 16 || bs.length < driveOffset (driveCount bs) then .refuse .errLength detailList []
  else match driveRange bs with
  | some o => .refuse .errRange (detailBuffer o) []
  | none =>
    match s.driveConflict bs with
    | some o => .refuse .errConflict o []
    | none => .acceptDone [] []

/-- DRIVE_DECLARE: held at once for the next start of full service, and durable with it (R386). -/
def cmdDriveDeclare : Command :=
  { Command.base 0x080A 0x0200 .n 8 0 with
    desc := true
    persist := true
    check := fun _ n _ => if n < 16 then .refuse .errLength detailList [] else .read n
    onData := fun _ bs s => s.checkDrives bs
    later := some (fun r bs s =>
      (s.setCap (fun c => { c with drivesHeld := driveSetOf bs, drivesDurable := driveSetOf bs })).commit r.ref) }

/-- The namespace that a payload names at offset 0. -/
def nsField (r : Request) : Fin 32 := Fin.ofNat 32 (r.u 0 1)
/-- NAMESPACE and 3 reserved bytes (R388, R389). -/
def nsRange (r : Request) : Option Nat := firstBad [(31 < r.u 0 1, 0), (!r.zero 1 3, 1)]

/-- The members that NAMESPACE_DECLARE lists (R387). -/
def nsMembers (r : Request) : List (Fin 16 × Nat) :=
  (List.range (r.u 2 1)).map (fun i => (Fin.ofNat 16 (r.u (16 + 12 * i) 1), r.u (20 + 12 * i) 8))

/-- The first field of NAMESPACE_DECLARE that is out of range (R387). -/
def nsDeclareRange (r : Request) : Option Nat :=
  let count := r.u 2 1
  let mib := 1048576
  firstBad [(31 < r.u 0 1, 0), (1 < r.u 1 1, 1), (count = 0 || 16 < count || (r.u 1 1 = 1 && count % 2 = 1), 2), (!r.zero 3 1, 3),
      (r.u 8 8 < 128 * mib || r.u 8 8 % mib != 0, 8)]
    <|> (List.range 16).findSome? (fun i =>
      let o := 16 + 12 * i
      if i < count then firstBad [(15 < r.u o 1, o), (!r.zero (o + 1) 3, o + 1), (r.u (o + 4) 8 % mib != 0, o + 4)]
      else firstBad [(!r.zero o 1, o), (!r.zero (o + 1) 3, o + 1), (!r.zero (o + 4) 8, o + 4)])

/-- The extents of the declared namespaces: drive, start and length. -/
def State.extents (s : State) : List (Fin 16 × Nat × Nat) :=
  s.cap.namespaces.toList.flatMap (fun x => if x.mode == .undeclared then [] else x.members.map (fun m => (m.1, m.2, x.extent)))

/-- A namespace as NAMESPACE_DECLARE makes it (R387). -/
def declaredNamespace (r : Request) : StoreNamespace :=
  let mirror := decide (r.u 1 1 = 1)
  { (default : StoreNamespace) with
    mode := .undeclared, mirror := mirror, members := nsMembers r, extent := r.u 8 8, retain := r.u 4 4
    superblock := some { mirror := mirror, members := nsMembers r, extent := r.u 8 8, retain := r.u 4 4 } }

/-- The refusals of NAMESPACE_DECLARE (R233, R387, R559). -/
def State.checkNamespace (r : Request) (s : State) : Reply :=
  let ms := nsMembers r
  let extent := r.u 8 8
  let passes := (List.range ms.length).find? (fun i =>
    match ms[i]? with
    | some m => s.cap.drives.entries.any (fun e => e.drive == m.1 && decide (e.capacity.toNat < m.2 + extent))
    | none => false)
  let overlaps := ms.any (fun m => s.extents.any (fun x => x.1 == m.1 && x.2.1 < m.2 + extent && m.2 < x.2.1 + x.2.2))
  let missing := ms.any (fun m => !s.cap.drives.entries.any (fun e => e.drive == m.1))
  let total := ((s.cap.namespaces.toList.filter (fun x => x.mode != .undeclared)).map StoreNamespace.capacity).sum
  if !s.domainOn 51 then .refuse .errState 0 []
  else match passes with
  | some i => .refuse .errRange (20 + 12 * i) []
  | none =>
    if s.cap.namespaces[nsField r].mode != .undeclared || !noRepeats (ms.map (·.1)) || overlaps || missing
        || 2 ^ 48 < total + (declaredNamespace r).capacity then .refuse .errConflict 0 []
    else .accept []

/-- One write and one flush of the store area of every writable member (R387, R388, R392; log 65). -/
def State.areaWrites (s : State) (n : Fin 32) : List (Fin 16 × NvmeOp × List NvmeRange) := s.areaWrite 1 n ++ s.areaFlush n

/-- What a command replaces in the store, kept until it is durable (R24). -/
def State.keepOld (c : CommandRef) (u : StoreUndo) (s : State) : State := s.setCap (fun x => { x with undo := (c, u) :: x.undo })

/-- A namespace is declared; a member on a drive that is not usable is lost at once (R233, R237, R387). -/
def State.declareNamespace (r : Request) (s : State) : State :=
  let n := nsField r
  let s := s.keepOld r.ref (.namespace_ n s.cap.namespaces[n])
  let s := (s.setNs n (fun _ => declaredNamespace r)).setNsMode n .ok
  let s := (nsMembers r).foldl (fun (s : State) (m : Fin 16 × Nat) =>
    if s.cap.driveFailed[m.1] || s.cap.driveBad[m.1] then s.loseMember m.1 n else s) s
  (s.issueNvme (.declare n r.ref) (s.areaWrites n)).taskDone (.declare n r.ref)

/-- NAMESPACE_DECLARE (R387). -/
def cmdNamespaceDeclare : Command :=
  { Command.base 0x080B 0x0200 .n 208 8 with
    full := true
    persist := true
    range := nsDeclareRange
    check := fun r _ s => s.checkNamespace r
    later := some (fun r _ s => s.declareNamespace r) }

/-- A namespace is in use: an open capture, or an enabled channel of a bank, names it, or its declaration is not finished
(R388). -/
def State.namespaceBusy (n : Fin 32) (s : State) : Bool :=
  let names (b : TriggerBank) : Bool := b.channels.any (fun x => x.2.namespace_ == n)
  s.cap.namespaces[n].mode == .undeclared || s.cap.captures.any (fun c => c.entry.namespace_ == n) || names s.cap.active
    || ((s.cap.shadowMode == .ready || s.cap.shadowMode == .scheduled) && (s.cap.shadow.any names))
    || s.cap.commands.any (fun b => match b.task with | .declare k _ => k == n | _ => false)
    || s.cap.queued.any (fun b => match b.task with | .declare k _ => k == n | _ => false)

/-- The deallocation of every extent of a namespace (R388). -/
def State.extentOps (s : State) (n : Fin 32) : List (Fin 16 × NvmeOp × List NvmeRange) :=
  (s.writable n).map (fun m =>
    let start := ((s.cap.namespaces[n].members[m.1]?).map (·.2)).getD 0
    (m.2, .deallocate, [{ log := 0, lba := start / 4096, blocks := s.cap.namespaces[n].extent / 4096 }]))

/-- A namespace is deleted (R388). -/
def State.deleteNamespace (n : Fin 32) (c : CommandRef) (s : State) : State :=
  let area := s.extentOps n ++ s.areaWrites n
  let s := s.keepOld c (.namespace_ n s.cap.namespaces[n])
  let keys := (s.cap.keyWrites.filter (fun k => k.ns == n)).map (fun k => k.sequence)
  let s := keys.foldl (fun s k => s.dropTask (.object k)) s
  let s := s.setCap (fun c => { c with keyWrites := c.keyWrites.filter (fun k => k.ns != n) })
  let s := (s.setNsMode n .undeclared).setNs n (fun _ => { (default : StoreNamespace) with mode := .undeclared })
  ((s.complete c .ok 0 []).issueNvme (.delete c) area).taskDone (.delete c)

/-- NAMESPACE_DELETE (R388). -/
def cmdNamespaceDelete : Command :=
  { Command.base 0x080C 0x0200 .n 4 0 with
    full := true
    persist := true
    range := nsRange
    check := fun r _ s =>
      let n := nsField r
      if !s.domainOn 51 || s.namespaceBusy n then .refuse .errState 0 []
      else if s.cap.namespaces[n].objects.any (fun o => o.pinned) then .refuse .errConflict 0 []
      else .accept []
    later := some (fun r _ s => s.deleteNamespace (nsField r) r.ref) }

/-- The results of STORE_STATUS (R389). -/
def State.storeStatus (n : Fin 32) (s : State) : List Byte :=
  let x := s.cap.namespaces[n]
  let held := x.objects.filter (fun o => o.inLog)
  let open_ := ((s.openRanges n).map (·.2)).sum
  leBytes 1 x.mode.code ++ leBytes 1 (bit x.mirror) ++ leBytes 1 x.members.length ++ zeros 1
    ++ leBytes 2 ((x.failed.eraseDups.map (fun i => 2 ^ i)).sum) ++ leBytes 2 x.rebuild ++ leBytes 4 x.retain ++ zeros 4
    ++ leBytes 8 x.capacity ++ leBytes 8 x.head ++ leBytes 8 ((held.map (fun o => o.length)).sum + open_)
    ++ leBytes 8 ((held.filter (fun o => o.pinned)).map (fun o => o.length)).sum ++ leBytes 8 held.length
    ++ leBytes 2 (x.objects.filter (fun o => o.inArea)).length ++ leBytes 2 x.overwritten ++ zeros 4

/-- STORE_STATUS (R389). -/
def cmdStoreStatus : Command :=
  { Command.base 0x080D 0x0200 .u 4 64 with
    range := nsRange
    check := fun r _ s => .done (s.storeStatus (nsField r)) }

/-- The OBJECT_LIST entry of a stored object, and of an open capture (R390). -/
def StoredObject.entry (n : Nat) (o : StoredObject) : List Byte :=
  leBytes 8 o.sequence ++ leBytes 1 n ++ leBytes 1 o.kind ++ leBytes 1 (if o.kind = 2 then 2 else 1) ++ leBytes 1 (o.flags + bit o.pinned)
    ++ leBytes 1 o.channel ++ leBytes 1 o.reason ++ zeros 2 ++ leBytes 8 o.offset ++ leBytes 8 o.length ++ leBytes 8 o.trigger.toNat
    ++ leBytes 8 o.sealRtc
def Capture.entry_ (c : Capture) : List Byte :=
  leBytes 8 c.sequence ++ leBytes 1 c.entry.namespace_.val ++ leBytes 1 (if c.failing.isSome then 2 else 1) ++ [0]
    ++ leBytes 1 (listFlags c.shortPre c.shortPost (c.frames.any (fun f => f.gap)) false + bit c.pinned)
    ++ leBytes 1 c.channel.val ++ leBytes 1 (c.failing.getD 0) ++ zeros 2 ++ leBytes 8 c.offset ++ leBytes 8 c.length ++ leBytes 8 c.trigger.frame.toNat ++ zeros 8

/-- Every known sequence with its namespace and its OBJECT_LIST entry, in increasing order (R390). -/
def State.knownObjects (s : State) : List (Nat × Nat × List Byte) :=
  let stored := (List.finRange 32).flatMap (fun n =>
    s.cap.namespaces[n].objects.map (fun o => (o.sequence, n.val, o.entry n.val)))
  let open_ := s.cap.captures.map (fun c => (c.sequence, c.entry.namespace_.val, c.entry_))
  (stored ++ open_).mergeSort (fun a b => a.1 ≤ b.1)

/-- OBJECT_LIST (R390). -/
def cmdObjectList : Command :=
  { Command.base 0x080E 0x0200 .b 24 8 with
    desc := true
    range := fun r => firstBad [(r.u 16 4 = 0 || 65536 < r.u 16 4, 16), (31 < r.u 20 1 && r.u 20 1 != 255, 20), (!r.zero 21 3, 21)]
    check := fun r n s =>
      let xs := (s.knownObjects.filter (fun x => decide (r.u 8 8 ≤ x.1) && (r.u 20 1 == 255 || r.u 20 1 == x.2.1))).take (r.u 16 4)
      let bs := xs.flatMap (fun x => x.2.2)
      if n < bs.length then .refuse .errLength detailList [] else .acceptWrite bs (leBytes 4 xs.length) }

/-- The stored object or failure record of a sequence, with its namespace. -/
def State.findObject (s : State) (sequence : Nat) : Option (Fin 32 × StoredObject) :=
  (List.finRange 32).findSome? (fun n =>
    (s.cap.namespaces[n].objects.find? (fun o => o.sequence == sequence)).map (fun o => (n, o)))

/-- The Read commands of an OBJECT_READ: of the range in the log, or of the failure area when the log holds no copy (R232,
R391); of the pairs of a mirror one member serves. -/
def State.startRead (r : Request) (s : State) : State :=
  match s.findObject (r.u 8 8) with
  | none => s
  | some (n, o) =>
    let lo := o.offset + r.u 16 8
    let x := s.cap.namespaces[n]
    let serves (m : Nat) : Bool := !x.mirror || m % 2 == 0 || x.failed.contains (m - 1)
    let start (m : Nat) : Nat := ((x.members[m]?).map (·.2)).getD 0
    let log := ((s.writable n).filter (fun m => serves m.1)).map (fun m => (m.2, NvmeOp.read, x.pieces m.1 lo (lo + r.u 24 4)))
    let area := (((s.writable n).take 1).map (fun m =>
      (m.2, NvmeOp.read, [{ log := 0, lba := start m.1 / 4096, blocks := r.u 24 4 / 4096 : NvmeRange }])))
    (s.issueNvme (.read r) (if o.inLog then log else area)).taskDone (.read r)

/-- OBJECT_READ (R391, R559). -/
def cmdObjectRead : Command :=
  { Command.base 0x080F 0x0200 .b 32 8 with
    desc := true
    range := fun r => firstBad [(r.u 16 8 % 4096 != 0, 16), (r.u 24 4 < 4096 || 268435456 < r.u 24 4 || r.u 24 4 % 4096 != 0, 24), (!r.zero 28 4, 28)]
    check := fun r n s =>
      if !s.domainOn 51 then .refuse .errState 0 []
      else match s.findObject (r.u 8 8), s.openCapture (r.u 8 8) with
      | none, none => .refuse .errRange 8 []
      | none, some c => if c.length < r.u 16 8 + r.u 24 4 then .refuse .errRange 24 [] else .refuse .errState 0 []
      | some (_, o), _ =>
        if o.length < r.u 16 8 + r.u 24 4 then .refuse .errRange 24 []
        else if n < r.u 24 4 then .refuse .errLength detailList []
        else .accept []
    now := fun r _ s => s.startRead r }

/-- Pin or unpin a stored object or an open capture (R235, R392). -/
def State.pinObject (sequence : Nat) (on : Bool) (s : State) : State :=
  let mark (o : StoredObject) : StoredObject := if o.sequence == sequence then { o with pinned := on } else o
  s.setCap (fun c =>
    { c with
      namespaces := c.namespaces.map (fun x => { x with objects := x.objects.map mark })
      captures := c.captures.map (fun y => if y.sequence == sequence then { y with pinned := on } else y) })

/-- The namespace of a known sequence. -/
def State.objectNamespace (s : State) (sequence : Nat) : Option (Fin 32) :=
  match s.findObject sequence with
  | some x => some x.1
  | none => (s.openCapture sequence).map (fun c => c.entry.namespace_)

/-- OBJECT_PIN takes effect, and its change goes to the store area (R392). -/
def State.applyPin (r : Request) (s : State) : State :=
  let sequence := r.u 0 8
  match s.objectNamespace sequence with
  | none => s.complete r.ref .errState 0 []
  | some n =>
    let old := s.findObject sequence
    let pinned := match old with | some x => x.2.pinned | none => ((s.openCapture sequence).map (fun c => c.pinned)).getD false
    let s := match r.u 8 1, old with
      | 2, some x =>
        ((s.keepOld r.ref (.object n x.2)).setNs n (fun x => { x with objects := x.objects.filter (fun o => o.sequence != sequence) })).deallocateLog
          n (if x.2.inLog then [(x.2.offset, x.2.length)] else [])
      | 2, none => s
      | k, _ => (s.keepOld r.ref (.pin sequence pinned)).pinObject sequence (k = 0)
    ((s.complete r.ref .ok 0 []).issueNvme (.storeArea r.ref) (s.areaWrites n)).taskDone (.storeArea r.ref)

/-- OBJECT_PIN (R234, R235, R392, R559). -/
def cmdObjectPin : Command :=
  { Command.base 0x0810 0x0200 .n 16 0 with
    full := true
    persist := true
    range := fun r => firstBad [(2 < r.u 8 1, 8), (!r.zero 9 7, 9)]
    check := fun r _ s =>
      let sequence := r.u 0 8
      if !s.domainOn 51 then .refuse .errState 0 []
      else match s.findObject sequence with
      | some (n, o) =>
        let young := decide (s.rtcNow ≤ o.sealRtc + s.cap.namespaces[n].retain)
        if r.u 8 1 = 2 && (o.pinned || young || s.underRead sequence) then .refuse .errState 0 [] else .accept []
      | none =>
        if (s.openCapture sequence).isNone then .refuse .errRange 0 []
        else if r.u 8 1 = 2 then .refuse .errState 0 [] else .accept []
    later := some (fun r _ s => s.applyPin r) }

end Sys2Proof.Machine
end

