-- ==== Sys2Proof/Machine/ServiceCommands.lean ====
section
/-! DEFINITION. The TIME, LOG, SEC, TEST, PERF, PWR and FW families of host commands (R393 to R415). -/
namespace Sys2Proof.Machine

/-- The results of RTC_READ (R394). -/
def State.rtcResults (s : State) : List Byte :=
  let r := s.rtc
  leBytes 8 r.seconds.toNat ++ leBytes 8 s.clock.frame.toNat ++ leBytes 2 r.taiUtc.toNat
    ++ leBytes 1 (packBits [r.valid, r.oscStopped, r.vbatLow, r.leap != 0, r.leap == 2]) ++ zeros 1 ++ r.taiCalendar ++ r.utcCalendar

/-- RTC_READ (R394). -/
def cmdRtcRead : Command :=
  { Command.base 0x0901 0x0100 .u 0 36 with check := fun _ _ s => .done s.rtcResults }

/-- The VALUE of RTC_SET (R395). -/
def clockValue (r : Request) : List Byte := (r.payload.drop 8).take 8

/-- RTC_SET (R395, R499): a refused value is an event with the value. -/
def cmdRtcSet : Command :=
  { Command.base 0x0902 0x0100 .n 16 0 with
    range := fun r =>
      firstBad [(2 < r.u 0 1, 0), (!r.zero 1 7, 1), (r.u 0 1 = 0 && lastSecond < r.u 8 8, 8),
        (r.u 0 1 != 0 && (r.u 8 2 < 2000 || 2399 < r.u 8 2), 8), (r.u 0 1 != 0 && !r.zero 15 1, 15)]
    check := fun r _ s =>
      match s.rtc.instant (r.u 0 1) (clockValue r) with
      | .ok _ => .done []
      | .error .errRange => .refuse .errRange 8 []
      | .error st => .refuse st 0 []
    later := some (fun r _ s => match s.rtc.instant (r.u 0 1) (clockValue r) with | .ok n => s.setClock n | .error _ => s)
    refused := fun r _ s => s.raise 426 3 .refused oneUnit (r.u 8 4) (r.u 12 4) }

/-- LEAP_SET (R396). -/
def cmdLeapSet : Command :=
  { Command.base 0x0903 0x0100 .n 16 0 with
    range := fun r => firstBad [(!within (-1000) 1000 (r.s 0 2), 0), (2 < r.u 2 1, 2), (!r.zero 3 5, 3), (r.u 2 1 = 0 && !r.zero 8 8, 8)]
    check := fun r _ s =>
      let post : Int := if r.u 2 1 = 1 then r.s 0 2 + 1 else r.s 0 2 - 1
      if r.u 2 1 != 0 && ((r.u 8 8 : Int) - post) % 86400 != 0 then .refuse .errDate 0 []
      else if r.u 2 1 != 0 && decide (r.u 8 8 ≤ s.rtcNow) then .refuse .errRange 8 []
      else .done []
    later := some (fun r _ s => s.setLeap (r.s 0 2) (r.u 2 1) (r.u 8 8)) }

/-- NEWEST: one less than the index that the next record takes, modulo 2^64 (R397). -/
def EventState.newest (e : EventState) : List Byte := leBytes 8 (e.nextIndex + 18446744073709551615)

/-- LOG_STATUS (R397). -/
def cmdLogStatus : Command :=
  { Command.base 0x0A01 0x0100 .u 0 32 with
    check := fun _ _ s =>
      let e := s.ev
      .done (leBytes 8 e.oldest ++ e.newest ++ leBytes 8 e.lost ++ leBytes 2 (min e.buffer.length 4096)
        ++ leBytes 1 (packBits [e.frozenUntil.isSome, e.retention.isSome && e.retentionOk]) ++ zeros 1 ++ leBytes 4 s.freezeLeft) }

/-- LOG_FREEZE (R398). -/
def cmdLogFreeze : Command :=
  { Command.base 0x0A02 0x0100 .n 4 8 with
    range := fun r => firstBad [(1 < r.u 0 1, 0), (!r.zero 1 1, 1),
      (if r.u 0 1 = 0 then r.u 2 2 = 0 || 600 < r.u 2 2 else r.u 2 2 != 0, 2)]
    check := fun _ _ s => .done s.ev.newest
    later := some (fun r _ s => if r.u 0 1 = 1 then s.thaw else if s.ev.powerFailing then s else s.freeze (r.u 2 2)) }

/-- LOG_READ: a read of AREA 0 holds flushes until its buffer has been written (R399). -/
def cmdLogRead : Command :=
  { Command.base 0x0A03 0x0100 .b 24 16 with
    desc := true
    range := fun r => firstBad [
      (r.u 20 1 = 1 && 4095 < r.u 8 8, 8), (r.u 20 1 = 2 && 63 < r.u 8 8, 8), (r.u 16 4 = 0 || 65536 < r.u 16 4, 16),
      (2 < r.u 20 1, 20), (!r.zero 21 3, 21)]
    check := fun r n s =>
      if n < 32 * r.u 16 4 then .refuse .errLength detailList []
      else
        let x := s.ev.readArea (r.u 20 1) (r.u 8 8) (r.u 16 4)
        .acceptWrite (x.2.flatMap EventRecord.bytes) (leBytes 8 x.1 ++ leBytes 4 x.2.length ++ zeros 4)
    -- a read that returns no record ends at once and holds nothing
    now := fun r _ s =>
      let until_ := s.clock.tick + 100000
      if r.u 20 1 = 0 && !(s.ev.readArea 0 (r.u 8 8) (r.u 16 4)).2.isEmpty then
        s.setEv (fun e => { e with holds := e.holds + 1, holdsUntil := until_ })
      else s }

/-- The length of an owner authorisation token (R400). -/
def tokenLength : Nat := 192

/-- The security core takes what a command has read from its buffer (R377, R405, R412). -/
def State.giveSecurity (opcode : BitVec 16) (r : Request) (bs : List Byte) (s : State) : State :=
  s.setSec (fun y => { y with work := y.work ++ [{ opcode := opcode, request := r, data := bs }] })

/-- LOG_CLEAR (R401). -/
def cmdLogClear : Command :=
  { Command.base 0x0A04 0x0103 .n 8 8 with
    desc := true
    persist := true
    check := fun _ _ s => if s.ev.log.isEmpty then .refuse .errState 0 [] else .acceptRead tokenLength
    arrived := State.giveSecurity 0x0A04 }

/-- EVT_ROUTE (R402, R475). -/
def cmdEvtRoute : Command :=
  { Command.base 0x0A05 0x0100 .n 8 0 with
    range := fun r => firstBad [(487 < r.u 0 2, 0), (15 < r.u 2 1, 2), (15 < r.u 3 1, 3), (15 < r.u 4 1, 4), (3 < r.u 5 1, 5), (!r.zero 6 2, 6)]
    later := some (fun r _ s =>
      let x : Route :=
        { enable := r.u 5 1 % 2 == 1, queue := r.u 5 1 / 2 == 1, vector := BitVec.ofNat 4 (r.u 2 1)
          pins := BitVec.ofNat 4 (r.u 3 1), minSeverity := BitVec.ofNat 4 (r.u 4 1) }
      s.setEv (fun e => { e with routes := e.routes.setIfInBounds (r.u 0 2) x })) }

/-- SEC_NONCE (R403). -/
def cmdSecNonce : Command :=
  { Command.base 0x0B01 0x0103 .u 0 40 with
    check := fun _ _ s => .done (leBytes 32 s.issueNonce.1.toNat ++ leBytes 8 (s.clock.frame + BitVec.ofNat 64 nonceTicks).toNat)
    now := fun _ _ s => s.issueNonce.2 }

/-- A command that writes one structure to its buffer and answers its length (R404). -/
def structureReply (n : Nat) (bs : List Byte) : Reply :=
  if n < bs.length then .refuse .errLength detailList [] else .acceptWrite bs (leBytes 4 bs.length ++ zeros 4)

/-- CERT_READ (R404). -/
def cmdCertRead : Command :=
  { Command.base 0x0B02 0x0103 .n 16 8 with
    desc := true
    range := fun r => firstBad [(3 < r.u 8 1, 8), (!r.zero 9 7, 9)]
    check := fun r n s => if r.u 8 1 = 3 && s.sec.owner.isNone then .refuse .errState 0 [] else structureReply n (s.certificates (r.u 8 1)) }

/-- ATTEST (R404, R455). -/
def cmdAttest : Command :=
  { Command.base 0x0B03 0x0103 .n 48 8 with
    desc := true
    range := fun r => firstBad [(15 < r.u 40 4, 40), (!r.zero 44 4, 44)]
    check := fun r n s => structureReply n (s.attestation (r.u 40 4) ((r.payload.drop 8).take 32))
    now := fun r _ s => s.raise 331 1 .occurrence oneUnit (r.u 40 4) 0 }

/-- OWNER_TRANSFER (R405, R453). -/
def cmdOwnerTransfer : Command :=
  { Command.base 0x0B04 0x0103 .n 8 0 with
    desc := true
    persist := true
    check := fun _ _ s => .acceptRead s.transferLength
    arrived := State.giveSecurity 0x0B04 }

/-- DEBUG_UNLOCK (R405, R467). -/
def cmdDebugUnlock : Command :=
  { Command.base 0x0B05 0x0103 .n 8 0 with
    desc := true
    check := fun _ _ _ => .acceptRead tokenLength
    arrived := State.giveSecurity 0x0B05 }

/-- A port on which LINK_REKEY may start a rekey (R406). -/
def Port.rekeyable (q : Port) : Bool := q.mode == .up && q.link.keyed && q.link.rekey.isNone

/-- LINK_REKEY (R406, R464). -/
def cmdLinkRekey : Command :=
  { Command.base 0x0B06 0x0103 .u 4 8 with
    range := portRange
    check := fun r _ s => if (s.port (r.port 0)).rekeyable then .accept [] else .refuse .errState 0 []
    later := some (fun r _ s =>
      if (s.port (r.port 0)).rekeyable then s.setLink (r.port 0) (fun l => { l with rekey := some r.ref })
      else s.complete r.ref .errState 0 []) }

/-- SEC_STATUS (R407). -/
def cmdSecStatus : Command :=
  { Command.base 0x0B07 0x0103 .u 0 32 with
    check := fun _ _ s =>
      let owner := match s.sec.owner with | some k => (keyId k).take 8 | none => zeros 8
      let capkey := if s.sec.keysDerived then s.capkeyId.take 8 else zeros 8
      .done (leBytes 1 (bit s.sec.owner.isSome) ++ leBytes 1 s.debugCode ++ zeros 2 ++ leBytes 2 s.keyedPorts ++ leBytes 2 s.rekeyingPorts
        ++ owner ++ capkey ++ leBytes 4 s.sec.failures.toNat ++ zeros 4) }

/-- The bound of a BIST_RUN: 108 ms (R534). -/
def bistTicks : Nat := 216000

/-- BIST_RUN (R408, R534); while another self-test runs, it is refused (DESIGN CHOICE, log 46). -/
def cmdBistRun : Command :=
  { Command.base 0x0C01 0x0201 .n 8 32 with
    full := true
    range := fun r => firstBad [(1 < r.u 0 1, 0), ((if r.u 0 1 = 0 then 3 else 7) < r.u 1 1, 1), (!r.zero 2 6, 2)]
    check := fun r _ s =>
      let free := if r.u 0 1 = 0 then s.map.planes[Fin.ofNat 4 (r.u 1 1)].mode == .off
        else s.ember.clusters[Fin.ofNat 8 (r.u 1 1)].mode == .stopped
      if free && s.bist.run.isNone then .job true bistTicks else .refuse .errState 0 []
    now := fun r _ s => s.startBist 3 (unitSlices (8 + r.u 0 1) (r.u 1 1)) (some r.ref) }

/-- A BIST result entry (R537). -/
def BistResult.bytes (e : BistResult) : List Byte :=
  leBytes 1 e.block ++ leBytes 1 e.origin ++ leBytes 2 e.index ++ leBytes 1 e.result ++ leBytes 1 e.slices
    ++ leBytes 2 e.firstBit.toNat ++ leBytes 4 e.fails.toNat ++ zeros 4 ++ leBytes 8 e.address.toNat ++ leBytes 8 e.frame.toNat

/-- BIST_RESULTS (R408, R537). -/
def cmdBistResults : Command :=
  { Command.base 0x0C02 0x0201 .b 8 8 with
    desc := true
    check := fun _ n s =>
      let bs := s.bist.results.flatMap BistResult.bytes
      if n < bs.length then .refuse .errLength detailList []
      else .acceptWrite bs (leBytes 4 bs.length ++ leBytes 4 s.bist.results.length) }

/-- Whether BLOCK and EVENT are in the table of R542; EVENT 0 stops a counter. -/
def perfNamed (block event : Nat) : Bool :=
  let x := perfKind (block / 1024)
  decide (block % 1024 < x.1) && decide (event ≤ x.2)

/-- PERF_SELECT (R409, R543, R544). -/
def cmdPerfSelect : Command :=
  { Command.base 0x0D01 0x0201 .n 8 0 with
    range := fun r =>
      let kind := r.u 2 2 / 1024
      let x := perfKind kind
      firstBad [(255 < r.u 0 2, 0), (x.1 ≤ r.u 2 2 % 1024, 2), (x.2 < r.u 4 2, 4),
        (1 < r.u 6 1 || (r.u 6 1 = 1 && !perfSignal kind (r.u 4 2)), 6), (!r.zero 7 1, 7)]
    check := fun r _ s =>
      let block := r.u 2 2
      if r.u 4 2 != 0 && 16 ≤ s.countersOf block (r.u 0 2) then .refuse .errResource 0 []
      else if s.perfMarked (block / 1024) (block % 1024) then .refuse .errUnusable 0 []
      else .done []
    later := some (fun r _ s => s.selectCounter (r.u 0 2) (r.u 2 2) (r.u 4 2) (r.u 6 1 == 1)) }

/-- The tick of a snapshot: FRAME, or T+2 for 0 (R409). -/
def State.snapshotFrame (s : State) (r : Request) : Nat := if r.u 8 8 = 0 then s.clock.frame.toNat + 2 else r.u 8 8

/-- PERF_SNAPSHOT: a fifth pending snapshot is refused, with its event (R409, R546, R552). -/
def cmdPerfSnapshot : Command :=
  { Command.base 0x0D02 0x0201 .b 24 16 with
    desc := true
    range := fun r => firstBad [(!r.zero 16 8, 16)]
    check := fun r n s =>
      let t := s.clock.frame.toNat
      let f := s.snapshotFrame r
      if f < t + 2 || t + 8589934592 < f then .refuse .errRange 8 []
      else if n < snapshotBytes then .refuse .errLength detailList []
      else if 4 ≤ s.perf.snapshots.length then .refuse .errResource 0 []
      else .accept []
    now := fun r _ s =>
      s.setPerf (fun x => { x with snapshots := x.snapshots ++ [{ command := r.ref, frame := BitVec.ofNat 64 (s.snapshotFrame r), image := none }] })
    refused := fun _ st s => s.raiseIf (st == .errResource) 457 2 .refused oneUnit 0 0 }

/-- PERF_SAMPLE (R409, R550). -/
def cmdPerfSample : Command :=
  { Command.base 0x0D03 0x0201 .b 24 8 with
    desc := true
    range := fun r => firstBad [(!sampleCore (r.u 8 2), 8), (r.u 10 4 = 0, 10), (r.u 14 4 = 0 || 65536 < r.u 14 4, 14), (!r.zero 18 6, 18)]
    check := fun r n s =>
      if n < 32 * r.u 14 4 then .refuse .errLength detailList []
      else if !s.coreRuns (r.u 8 2) || s.perf.jobs.any (fun j => j.core.toNat == r.u 8 2) then .refuse .errState 0 []
      else if 8 ≤ s.perf.jobs.length then .refuse .errResource 0 []
      else .accept []
    now := fun r _ s =>
      let j : SampleJob :=
        { command := r.ref, core := BitVec.ofNat 16 (r.u 8 2), period := r.u 10 4, count := r.u 14 4, seen := 0, started := s.clock.tick
          samples := [], taken := 0, skipped := 0, skipMark := false, inTick := 0, lastTick := 0 }
      s.setPerf (fun x => { x with jobs := x.jobs ++ [j] }) }

/-- The domains that DOMAIN_SET sets (R410). -/
def hostDomain (d : Nat) : Bool := decide (d < 40) || (decide (48 ≤ d) && decide (d ≤ 51))

/-- The state of R410's STATE codes. -/
def domainTarget (n : Nat) : DomainMode := match n with | 0 => .on | 1 => .banked | _ => .off

/-- The state in which a domain will be once every accepted request has been carried out (R557). -/
def State.comingMode (s : State) (d : Fin 56) : DomainMode :=
  match (s.pwr.waiting.filter (fun w => w.domain == d)).getLast?, s.pwr.running with
  | some w, _ => w.target
  | none, some r => if r.domain = d then r.target else s.pwr.modes[d]
  | none, none => s.pwr.modes[d]

/-- A request would leave a combination that R558 forbids. -/
def State.domainConflict (s : State) (d : Fin 56) (target : DomainMode) : Bool :=
  let mode (x : Fin 56) : DomainMode := if x = d then target else s.comingMode x
  let off (x : Fin 56) : Bool := mode x != .on
  let capture := mode 48 != .off && (off 49 || off 50 || off 51)
  let staging := (List.finRange 8).any (fun c => mode (clusterDomain c) == .on) && (off 49 || off 50)
  let seam := decide (d.val < 32) && s.comingMode d == .on && target != .on && s.casc.mode != .standalone
    && (groupPorts d).any (fun p => (s.port p).settings.role == .seam)
  (s.comingMode d == .off && target == .banked) || ((d == 48 || d == 49 || d == 50 || d == 51) && capture)
    || ((d == 49 || d == 50 || (decide (32 ≤ d.val) && decide (d.val < 40))) && staging) || seam

/-- A domain leaves ON while its block is in use (R410). -/
def State.domainInUse (s : State) (d : Fin 56) (target : DomainMode) : Bool :=
  s.comingMode d == .on && target != .on
    && ((decide (32 ≤ d.val) && decide (d.val < 40) && s.ember.clusters[Fin.ofNat 8 d.val].mode != .stopped)
      || (d == 48 && (s.cap.channels.toList.any (fun c => c.mode != .disarmed) || !s.cap.captures.isEmpty)))

/-- DOMAIN_SET (R410, R556 to R558, R563); the domain of a marked capture engine stays OFF (R555). -/
def cmdDomainSet : Command :=
  { Command.base 0x0E01 0x0202 .n 4 8 with
    range := fun r => firstBad [(55 < r.u 0 1, 0), (2 < r.u 1 1, 1), (!r.zero 2 2, 2)]
    check := fun r _ s =>
      let d : Fin 56 := Fin.ofNat 56 (r.u 0 1)
      let target := domainTarget (r.u 1 1)
      if !hostDomain d.val then .refuse .errConflict 0 []
      else if s.domainInUse d target then .refuse .errState 0 []
      else if s.domainConflict d target then .refuse .errConflict 0 []
      else if d == 48 && target != .off && s.captureMarked then .refuse .errUnusable 0 []
      else if s.domainCode d != 3 && s.comingMode d == target && s.pwr.modes[d] == target then
        .acceptDone [] (leBytes 8 s.clock.frame.toNat)
      else .accept []
    later := some (fun r _ s =>
      if (s.chan r.channel).find r.token |>.any (fun e => e.status.isFinal) then s
      else s.requestDomain (Fin.ofNat 56 (r.u 0 1)) (domainTarget (r.u 1 1)) (.host r.ref)) }

/-- POWER_STATUS (R410): the estimate of the power is a free value. -/
def cmdPowerStatus : Command :=
  { Command.base 0x0E02 0x0202 .u 0 64 with
    check := fun _ _ s => .done ((List.finRange 56).map (fun d => BitVec.ofNat 8 (s.domainCode d))
      ++ leBytes 2 (Config.powerEstimate s.fresh).toNat ++ leBytes 2 s.pwr.temperature.toNat ++ zeros 4)
    now := fun _ _ s => { s with fresh := s.fresh + 1 } }

/-- The reason code CANCELLED (R133). -/
def reasonCancelled : Nat := 0x10

/-- Every job that has not ended ends with ERR_STATE and CANCELLED (R411 step 1). -/
def State.cancelJobs (s : State) : State :=
  let gone := mapFailure .errState reasonCancelled [] 0
  let queued := s.map.queued
  let s : State := match queued with
    | some j => ({ s with map := { s.map with queued := none } }).answerJob j gone 0
    | none => s
  let s := s.endJob gone
  let jobs := (List.finRange 8).flatMap (fun c =>
    (((s.chan c).window ++ (s.chan c).left).filter (fun e => e.ticket != 0 && !e.status.isFinal)).map (fun e => (⟨c, e.token⟩ : CommandRef)))
  let s := jobs.foldl (fun (s : State) (c : CommandRef) => s.completeJob c .errState reasonCancelled []) s
  let ended (r : Request) : Bool := jobs.contains r.ref
  let s := s.setHost (fun h => { h with waiting := h.waiting.filter (fun w => !(w.accepted && ended w.request)) })
  let s := s.setSec (fun y => { y with work := y.work.filter (fun w => !ended w.request) })
  let s := s.setEmber (fun x => { x with imageLoad := match x.imageLoad with
    | some c => if jobs.contains c then none else some c
    | none => none })
  match s.bist.run with
  | some b => if b.command.any (fun c => jobs.contains c) then
      (s.setBist (fun x => { x with run := none })).raise 376 1 .clear oneUnit b.origin 0 else s
  | none => s

/-- The windows of the open captures end before the present frame (R411 step 2). -/
def State.cutCaptures (s : State) : State :=
  let f := s.clock.frame.toNat
  let cut (c : Capture) : Capture :=
    if c.step == .window && decide (f ≤ c.last) then { c with last := f - 1, shortPost := true } else c
  s.setCap (fun x => { x with captures := x.captures.map cut })

/-- SERVICE becomes SHUTDOWN (R411 steps 1 and 2). -/
def State.beginShutdown (c : CommandRef) (bist : Bool) (s : State) : State :=
  let s := (s.setRst (fun x => { x with shutdown := some (c, bist) })).setService 3
  let s := (List.finRange 64).foldl (fun (s : State) (t : Fin 64) => s.disarm t) s
  s.cancelJobs.cutCaptures

/-- SHUTDOWN (R411). -/
def cmdShutdown : Command :=
  { Command.base 0x0E03 0x0202 .n 8 0 with
    range := fun r => firstBad [(r.u 0 4 != confirmWord, 0), (1 < r.u 4 1, 4), (!r.zero 5 3, 5)]
    check := fun _ _ s => if s.rst.shutdown.isSome then .refuse .errState 0 [] else .accept []
    later := some (fun r _ s =>
      if s.rst.shutdown.isSome || 3 ≤ s.host.service then s else s.beginShutdown r.ref (r.u 4 1 == 1)) }

/-- FW_STAGE: the slot that is not the boot slot is emptied and written (R412). -/
def cmdFwStage : Command :=
  { Command.base 0x0F01 0x0203 .n 8 8 with
    desc := true
    check := fun _ n s => if s.mgmt.activation.isSome then .refuse .errState 0 [] else .jobRead true 0 n
    now := fun _ _ s => s.setMgmt (fun m => { m with slots := m.slots.set s.otherImageSlot ⟨none⟩, staged := 0 })
    arrived := State.giveSecurity 0x0F01 }

/-- Whether an image serves a WCI version; what images other than 2.4 serve is fixed by the image (R322, R413). -/
def imageServes (x : ImageInfo) (v : BitVec 16) : Bool :=
  if x.version = 0x0204 then servedVersions.contains v else Config.imageServes x.mainHash v

/-- The staged image (R412). -/
def State.stagedImage (s : State) : Option ImageInfo := if s.mgmt.staged = 1 then s.mgmt.slots[s.otherImageSlot].content else none

/-- FW_ACTIVATE (R413, R435). -/
def cmdFwActivate : Command :=
  { Command.base 0x0F02 0x0203 .n 4 8 with
    persist := true
    range := fun r => firstBad [(r.u 0 4 != confirmWord, 0)]
    check := fun _ _ s =>
      match s.stagedImage with
      | none => .refuse .errState 0 []
      | some x =>
        if !s.standbyReady || s.mgmt.activation.isSome then .refuse .errState 0 []
        else if s.host.channels.toList.any (fun ch => ch.mode == .opened && !imageServes x ch.version) then .refuse .errVersion 0 []
        else .accept []
    later := some (fun r _ s =>
      if s.stagedImage.isSome && s.standbyReady && s.mgmt.owner.isSome && s.mgmt.activation.isNone then s.startActivation r.ref
      else s.complete r.ref .errState 0 []) }

/-- A management role swap is asked for; requests that wait already are joined (R414, R434). -/
def State.askRoleSwap (c : CommandRef) (s : State) : State :=
  let now := s.clock.tick
  s.setMgmt (fun m =>
    { m with roleSwap := match m.roleSwap with
      | some (.commanded cs, t) => some (.commanded (cs ++ [c]), t)
      | _ => some (.commanded [c], now) })

/-- The ticks of a role-swap period. -/
def periodTicks (hours : Nat) : Nat := hours * 3600 * second

/-- MGMT_ROLE (R414). -/
def cmdMgmtRole : Command :=
  { Command.base 0x0F03 0x0203 .n 4 8 with
    range := fun r => firstBad [(1 < r.u 0 1, 0), (!r.zero 1 1, 1), (if r.u 0 1 = 1 then r.u 2 2 = 0 || 168 < r.u 2 2 else r.u 2 2 != 0, 2)]
    check := fun r _ s =>
      if r.u 0 1 = 1 then .acceptDone [] (leBytes 8 (s.clock.frame + 1 + BitVec.ofNat 64 (periodTicks (r.u 2 2))).toNat)
      else if !s.standbyReady || s.mgmt.activation.isSome then .refuse .errState 0 []
      else .accept []
    later := some (fun r _ s =>
      if r.u 0 1 = 1 then
        let now := s.clock.tick
        s.setMgmt (fun m => { m with rolePeriodH := r.u 2 2, roleNext := now + periodTicks (r.u 2 2) })
      else s.askRoleSwap r.ref) }

/-- FW_STATUS (R415). -/
def cmdFwStatus : Command :=
  { Command.base 0x0F04 0x0203 .u 0 32 with
    check := fun _ _ s =>
      let m := s.mgmt
      let slot (i : Fin 2) : List Byte := leBytes 2 ((m.slots[i].content.map (fun x => x.version.toNat)).getD 0)
      let core (i : Fin 2) : List Byte := leBytes 2 (match (s.core i).mode with | .off | .fault => 0 | _ => (s.core i).image.version.toNat)
      let next := s.clock.frame + BitVec.ofNat 64 (m.roleNext - s.clock.tick)
      .done (slot 0 ++ slot 1 ++ leBytes 1 m.bootSlot.val ++ leBytes 1 m.staged ++ core 0 ++ core 1 ++ leBytes 2 m.rolePeriodH ++ zeros 4
        ++ leBytes 8 next.toNat ++ zeros 8) }

end Sys2Proof.Machine
end

