-- ==== Sys2Proof/Machine/WciServe.lean ====
section
/-! DEFINITION. The opcodes of the WCI (R597), and the examination, acceptance and answers of requests (R313 to R327,
R335 to R337). -/
namespace Sys2Proof.Machine

/-- The commands of a family by rising opcode (chapters 12 and 13). -/
def commandFamilies : List (List Command) :=
  [ [cmdChannelOpen, cmdDeviceInfo, cmdRecoveryRead, cmdRecoveryAck, cmdJobStatus, cmdWarmReset],
    [cmdPortEnable, cmdPortDisable, cmdPortStop, cmdPortRestart, cmdPortSet, cmdPortFormats, cmdPortBundles, cmdPortStatus,
    cmdPortCounters, cmdPortStatusAll],
    [cmdMapSolve, cmdMapRawLoad, cmdMapCancelJob, cmdMapCancelBank, cmdMapSwap, cmdMapSwapCancel, cmdMapRead, cmdMapStatus,
    cmdMapPersist, cmdPlaneSet],
    [cmdGroupDeclare, cmdGroupModify, cmdGroupDelete, cmdProtCommand, cmdPairSettings, cmdProtStatus],
    [cmdRefDeclare, cmdTimingSet, cmdRefForce, cmdLoopOpen, cmdLoopClose, cmdDcoWrite, cmdTickStep, cmdOutputSet,
    cmdTimingStatus],
    [cmdCascDeclare, cmdCascLeave, cmdCascStage, cmdCascSwap, cmdCascAbort, cmdCascHandover, cmdCascRelease, cmdCascStatus],
    [cmdRecipeLoad, cmdRecipeSwap, cmdRecipeCancel, cmdRecipeRead, cmdRecordPost, cmdRecordFlush, cmdEngineImageLoad,
    cmdClusterStop, cmdClusterRestart, cmdClusterStatus, cmdEngineCounters],
    [cmdTriggerLoad, cmdTriggerSwap, cmdTriggerCancel, cmdTriggerRead, cmdChannelArm, cmdHostTrigger, cmdCaptureAbort,
    cmdTriggerStatus, cmdCaptureStatus, cmdDriveDeclare, cmdNamespaceDeclare, cmdNamespaceDelete, cmdStoreStatus,
    cmdObjectList, cmdObjectRead, cmdObjectPin],
    [cmdRtcRead, cmdRtcSet, cmdLeapSet],
    [cmdLogStatus, cmdLogFreeze, cmdLogRead, cmdLogClear, cmdEvtRoute],
    [cmdSecNonce, cmdCertRead, cmdAttest, cmdOwnerTransfer, cmdDebugUnlock, cmdLinkRekey, cmdSecStatus],
    [cmdBistRun, cmdBistResults],
    [cmdPerfSelect, cmdPerfSnapshot, cmdPerfSample],
    [cmdDomainSet, cmdPowerStatus, cmdShutdown],
    [cmdFwStage, cmdFwActivate, cmdMgmtRole, cmdFwStatus] ]

/-- The command that an opcode names in some served version (R319 step 6, R597). -/
def commandOf (opcode : BitVec 16) : Option Command :=
  commandFamilies.findSome? (fun xs => xs.find? (fun k => k.opcode == opcode))

/-- APPLIED, once the effects of a command that has ended are in place (R325). -/
def State.noteApplied (ref : CommandRef) (s : State) : State :=
  if ((s.chan ref.channel).find ref.token).any (fun e => e.status.isFinal) then s.journal ref .applied else s

/-- The effect of an accepted command, at the tick after the one at which it executed (R337). -/
def State.carryOut (d : DeferredCommand) (s : State) : State :=
  match commandOf d.opcode with
  | none => s
  | some k =>
    match k.later with
    | none => s
    | some f => f d.request d.data s

/-- The effects that are due at the next tick, in their order, each with its APPLIED record (R325, R337). -/
def State.applyDeferred (s : State) : State :=
  s.deferred.foldl (fun (s : State) (d : DeferredCommand) => (s.carryOut d).noteApplied d.request.ref) { s with deferred := [] }

/-- The state against which a command is checked: with the effects of the commands accepted before it, as they take place at the next
tick. -/
def State.ahead (s : State) : State :=
  if s.deferred.isEmpty then s
  else { { s with clock := { tick := s.clock.tick + 1, frame := s.clock.frame + 1 } }.applyDeferred with fresh := s.fresh, clock := s.clock }

/-- A channel takes a request (R313 to R315, R320, R327, R431): not in ERROR, no more than 64 responses held, no service
gap, a management core that runs, no power failure, and no earlier request whose first response is to come. -/
def State.takes (s : State) (c : Fin 8) : Bool :=
  let ch := s.chan c
  ch.mode != .error && decide (ch.held.length ≤ 64) && !s.mgmt.serviceGap && s.mgmt.owner.isSome && s.host.service != 0
    && !s.rst.pwrFailLow && !s.host.waiting.any (fun w => w.request.channel == c && !w.accepted)

/-- VERSION of a response: the negotiated version, or 2.4 while there is none (R316, R322; log 5). -/
def State.answerVersion (s : State) (c : Fin 8) : BitVec 16 := if (s.chan c).version = 0 then 0x0204 else (s.chan c).version

/-- An entry of the request ring has been answered: MBX_REQ_CI passes it (R313). -/
def State.advance (c : Fin 8) (ring : Bool) (s : State) : State :=
  if ring then s.setChan c (fun ch => { ch with reqCi := ch.reqCi + 1 }) else s

/-- A response that is not recorded against the token (R319 steps 1, 2 and 10, R515). -/
def State.answerOnly (opcode : BitVec 16) (r : Request) (ring : Bool) (len : Nat) (st : Status) (detail : Nat) (retryAfter : BitVec 32)
    (s : State) : State :=
  let x : Response :=
    { version := s.answerVersion r.channel, opcode := opcode, sequence := r.sequence, token := r.token, status := st, stage := 0
      persist := r.persist, retryAnswer := false, replayed := false, final := true, noIrq := r.noIrq, retryAfter := retryAfter
      ticket := 0, detail := BitVec.ofNat 32 detail, results := zeros len }
  (s.post r.channel x).advance r.channel ring

/-- The answer to a retry: the latest status and results (R319 step 2, R324, R327). -/
def State.answerRetry (e : TokenEntry) (r : Request) (ring : Bool) (len : Nat) (s : State) : State :=
  let x := e.response false
  let x := { x with
    version := s.answerVersion r.channel, sequence := r.sequence, persist := r.persist, retryAnswer := true, noIrq := r.noIrq
    results := if e.recovery then zeros len else e.results }
  (s.post r.channel x).advance r.channel ring

/-- Whether a request is a retry of a recorded command: its digest, or for an entry of the snapshot its opcode (R324, R327). -/
def TokenEntry.retriedBy (e : TokenEntry) (opcode : BitVec 16) (r : Request) : Bool :=
  match e.digest with
  | some d => d == requestDigest opcode r
  | none => e.opcode == opcode

/-- A request is accepted: ACCEPT is journalled, its token recorded, its first response posted, its entry passed (R313,
R317, R320, R324, R325). -/
def State.letIn (opcode : BitVec 16) (r : Request) (ring : Bool) (st : Status) (detail : Nat) (results : List Byte) (ticket : BitVec 32)
    (s : State) : State :=
  let e : TokenEntry :=
    { token := r.token, opcode := opcode, digest := some (requestDigest opcode r), status := st, stage := 0
      detail := BitVec.ofNat 32 detail, results := results, version := s.answerVersion r.channel, sequence := r.sequence
      persist := r.persist, noIrq := r.noIrq, durable := false, recovery := false, ticket := ticket, jobState := 0, reason := 0
      startTick := 0, bound := 0, acceptedBy := s.activeCore, withdrawn := false }
  let s := (s.journal r.ref .accept).setChan r.channel (fun ch =>
    { ch.record e with busy := ch.busy.filter (fun b => b.1 != r.token) })
  (s.post r.channel (e.response false)).advance r.channel ring

/-- A refusal that is recorded: a DONE with no effects (R319, R325). -/
def State.refuse (opcode : BitVec 16) (r : Request) (ring : Bool) (st : Status) (detail : Nat) (results : List Byte) (s : State) : State :=
  (s.letIn opcode r ring st detail results 0).journal r.ref .done

/-- The next ticket (R338). -/
def State.takeTicket (s : State) : BitVec 32 := if s.host.nextTicket = 0 then 1 else s.host.nextTicket

/-- Wait for a DMA transfer (R318). -/
def State.await (k : Command) (r : Request) (ring accepted : Bool) (w : DmaWait) (s : State) : State :=
  s.setHost (fun h => { h with waiting := h.waiting ++ [{ opcode := k.opcode, request := r, wait := w, accepted := accepted, ring := ring }] })

/-- What an accepted command does at execution, and what it leaves for the next tick (R337). -/
def State.perform (k : Command) (r : Request) (n : Nat) (data : List Byte) (s : State) : State :=
  let s := k.now r n s
  if k.later.isSome then { s with deferred := s.deferred ++ [{ opcode := k.opcode, request := r, data := data }] }
  else s.noteApplied r.ref

/-- A refusal by a command's own checks, with what else it does (R319 step 12). -/
def State.refuseOwn (k : Command) (r : Request) (ring : Bool) (st : Status) (detail : Nat) (results : List Byte) (s : State) : State :=
  k.refused r st (s.refuse k.opcode r ring st detail (padTo k.results results))

/-- PENDING with a ticket (R319, R338, R343). -/
def State.admitJob (k : Command) (r : Request) (ring running : Bool) (bound : Nat) (s : State) : State :=
  let t := s.takeTicket
  let s := (s.setHost (fun h => { h with nextTicket := t + 1 })).letIn k.opcode r ring .pending 0 (zeros k.results) t
  if running then s.startJob r.ref bound else s

/-- The bytes of a command's buffer that a reply reads (R318). -/
def Reply.reads : Reply → Nat
  | .acceptRead n => n
  | .jobRead _ _ n => n
  | .read n => n
  | _ => 0

/-- Answer a request as its command's checks have decided (R319 step 12, R336, R337); `n` is the length of its buffer, `data`
what has been read from it. -/
def State.answer (k : Command) (r : Request) (n : Nat) (data : List Byte) (ring : Bool) (x : Reply) (s : State) : State :=
  let pad := padTo k.results
  let first (st : Status) (results : List Byte) : State := s.letIn k.opcode r ring st 0 (pad results) 0
  if n < x.reads then s.refuseOwn k r ring .errLength detailList []
  else
    match x with
    | .refuse st detail results => s.refuseOwn k r ring st detail results
    | .done results => ((first .ok results).journal r.ref .done).perform k r n data
    | .accept results => (first .accepted results).perform k r n data
    | .acceptDone held results => ((first .accepted held).complete r.ref .ok 0 (pad results)).perform k r n data
    | .acceptRead m => ((first .accepted []).perform k r n data).await k r false true (.input m)
    | .acceptWrite bs results =>
      let s := (first .accepted []).perform k r n data
      if bs.isEmpty then s.complete r.ref .ok 0 (pad results) else s.await k r false true (.output bs (pad results))
    | .job running bound => (s.admitJob k r ring running bound).perform k r n data
    | .jobRead running bound m => ((s.admitJob k r ring running bound).perform k r n data).await k r false true (.input m)
    | .read m => s.await k r ring false (.input m)
    | .write bs results =>
      if bs.isEmpty then ((first .ok results).journal r.ref .done).perform k r n data
      else s.await k r ring false (.output bs (pad results))

/-- The read-only STATUS commands (R411). -/
def statusOpcodes : List (BitVec 16) :=
  [0x0208, 0x020A, 0x0308, 0x0406, 0x0509, 0x0608, 0x070A, 0x0808, 0x0809, 0x080D, 0x0A01, 0x0B07, 0x0E02, 0x0F04]

/-- The commands that execute in SHUTDOWN and HALTED (R411). -/
def Command.always (k : Command) : Bool := [0x0101, 0x0102, 0x0105, 0x0B05].contains k.opcode || statusOpcodes.contains k.opcode

/-- The command's own checks (R319 step 12, R336, R411); `n` is the length of its buffer. -/
def State.checkOwn (k : Command) (r : Request) (n : Nat) (ring : Bool) (s : State) : State :=
  if k.full && s.host.service == 1 then s.refuseOwn k r ring .errState 0 []
  else if 3 ≤ s.host.service && !k.always then s.refuseOwn k r ring .errState 0 []
  else
    match k.range r with
    | some off => s.refuseOwn k r ring .errRange off []
    | none => s.answer k r n [] ring (k.check r n s.ahead)

/-- Steps 3 to 9 of R319: the status and DETAIL of the first that fails. -/
def State.examine (s : State) (opcode : BitVec 16) (k : Option Command) (r : Request) : Option (Status × Nat) :=
  let ch := s.chan r.channel
  let opens := opcode == 0x0101
  if ch.mode != .opened && !opens then some (.errState, 0)
  else if r.version != ch.version && !opens then some (.errVersion, 0)
  else if 4064 < r.payloadLength then some (.errLength, detailHeader)
  else
    match k with
    | none => some (.errOpcode, 0)
    | some k =>
      if ch.version < k.since && !opens then some (.errVersion, 0)
      else if (r.flags &&& (if k.persist then 0xFFF9 else 0xFFFB)) != 0 || r.reserved != 0 then some (.errRange, detailHeader)
      else if r.payloadLength.toNat != k.length || 4096 < r.descCount || (r.descCount != 0) != k.desc then some (.errLength, detailHeader)
      else if !k.cls.admits r.channel then some (.errState, 0)
      else none

/-- The journal retires the records of a command that is final, whose responses are posted and whose token has left the
window (R326). -/
def State.retireJournal (s : State) : State :=
  let keep (j : JournalRecord) : Bool :=
    let ch := s.chan j.command.channel
    (ch.recorded j.command.token).isSome || ch.left.any (fun e => e.token == j.command.token && e.pends)
      || ch.held.any (fun x => x.token == j.command.token)
      || s.host.outbox.any (fun x => x.1 == j.command.channel && x.2.token == j.command.token)
  s.setHost (fun h => { h with journal := h.journal.filter keep })

/-- Capacity to accept now (R320, R326): none is held back from urgent channels; else the normal part of the journal takes a
record, and no RETRY_AFTER given to this token runs. -/
def State.capacity (s : State) (r : Request) : Bool :=
  channelClass r.channel == 0
    || (decide (s.host.journal.length < s.host.journalRoom)
      && !(s.chan r.channel).busy.any (fun b => b.1 == r.token && decide (s.clock.tick < b.2)))

/-- RETRY_AFTER in microseconds: a free value in its range (R317). -/
def State.retryMicros (s : State) : Nat := 100 + (Config.retryAfter s.host.journal.length).toNat % 999901

/-- The state once nothing holds a request back: the journal's old records retired, and no burst of ERR_BUSY open (R320, R326). -/
def State.cleared (r : Request) (s : State) : State :=
  s.retireJournal.setHost (fun h => { h with busyBurst := h.busyBurst.set r.channel false })

/-- ERR_BUSY (R319 step 10, R320). -/
def State.answerBusy (k : Command) (r : Request) (ring : Bool) (s : State) : State :=
  let us := s.retryMicros
  let now := s.clock.tick
  let s := s.setChan r.channel (fun ch =>
    { ch with busy := ch.busy.filter (fun b => b.1 != r.token && decide (now < b.2)) ++ [(r.token, now + 2 * us)] })
  let burst := !s.host.busyBurst[r.channel]
  let s := s.setHost (fun h => { h with busyBurst := h.busyBurst.set r.channel true })
  let s := s.raiseIf (burst && decide (s.host.journalRoom ≤ s.host.journal.length)) 305 1 .occurrence oneUnit s.host.journal.length 0
  (s.raiseIf burst (297 + r.channel.val) 4 .refused r.channel.val 0 0).answerOnly k.opcode r ring k.results .errBusy 0 (BitVec.ofNat 32 us)

/-- The device takes a request (R319): the first check that fails decides the response. -/
def State.serve (opcode : BitVec 16) (k : Option Command) (r : Request) (ring : Bool) (s : State) : State :=
  let len := (k.map (fun x => x.results)).getD 0
  if r.token = 0 then s.answerOnly opcode r ring len .errRange detailHeader 0
  else
    match (s.chan r.channel).recorded r.token with
    | some e =>
      if e.retriedBy opcode r then s.answerRetry e r ring len else s.answerOnly opcode r ring len .errConflict 0 0
    | none =>
      match s.examine opcode k r, k with
      | some (st, detail), _ => s.retireJournal.refuse opcode r ring st detail (zeros len)
      | none, none => s
      | none, some k =>
        if !s.retireJournal.capacity r then s.retireJournal.answerBusy k r ring
        else if k.desc then (s.cleared r).await k r ring false .descriptors
        else (s.cleared r).checkOwn k r 0 ring

/-- The device takes a request, when the channel takes one; else the request waits at the host (log 6). -/
def State.request (k : Command) (r : Request) (s : State) : State :=
  if s.takes r.channel then s.serve k.opcode (some k) r false else s

/-- The descriptors of a list: ADDRESS, BYTE_COUNT and the reserved bytes (R318). -/
def descriptorsOf (bs : List Byte) : List (Nat × Nat × Nat) :=
  (List.range (bs.length / 16)).map (fun i => (field bs (16 * i) 8, field bs (16 * i + 8) 4, field bs (16 * i + 12) 4))

/-- Step 11 of R319 on a list that has been read: why it fails, or the length of the buffer. -/
def descriptorCheck (r : Request) (bs : List Byte) : Except (Status × Nat) Nat :=
  let ds := descriptorsOf bs
  if ds.any (fun d => d.2.1 = 0 || d.2.1 = 0xFFFFFFFF) then .error (.errLength, detailList)
  else if r.u 0 8 % 16 != 0 then .error (.errRange, 0)
  else if ds.any (fun d => d.1 % 8 != 0 || d.2.2 != 0) then .error (.errRange, detailList)
  else .ok (ds.map (fun d => d.2.1)).sum

/-- A LOG_READ of AREA 0 no longer holds flushes (R399). -/
def State.endLogRead (opcode : BitVec 16) (r : Request) (s : State) : State :=
  if opcode = 0x0A03 && r.u 20 1 = 0 then s.setEv (fun e => { e with holds := e.holds - 1 }) else s

/-- The length that a transfer has (R318): the descriptor list, the bytes that the command reads, none that come back. -/
def WaitingCommand.bytes (w : WaitingCommand) : Nat :=
  match w.wait with
  | .descriptors => 16 * w.request.descCount.toNat
  | .input n => n
  | .output _ _ => 0

/-- A waiting command goes on (R318, R319 steps 11 and 12). -/
def State.dmaArrived (w : WaitingCommand) (data : List Byte) (s : State) : State :=
  let r := w.request
  match w.wait, commandOf w.opcode with
  | .output _ results, some k =>
    if w.accepted then (s.complete r.ref .ok 0 results).endLogRead w.opcode r else s.answer k r 0 data w.ring (.done results)
  | .output _ results, none => s.complete r.ref .ok 0 results
  | .descriptors, some k =>
    match descriptorCheck r data with
    | .error (st, detail) => s.refuse k.opcode r w.ring st detail (zeros k.results)
    | .ok n => s.checkOwn k r n w.ring
  | .input _, some k =>
    if w.accepted then k.arrived r data s else s.answer k r data.length data w.ring (k.onData r data s.ahead)
  | _, none => s

/-- HOST_DMA_DONE: a transfer for a waiting command completes. It needs Bus Master Enable, and has its own length (R304,
R318). -/
def State.dmaDone (c : Fin 8) (token : BitVec 64) (data : List Byte) (s : State) : State :=
  let mine (w : WaitingCommand) : Bool := w.request.channel == c && w.request.token == token
  match s.host.waiting.find? mine with
  | none => s
  | some w =>
    if s.host.busMaster && data.length == w.bytes then
      (s.setHost (fun h => { h with waiting := h.waiting.filter (fun x => !(mine x && x == w)) })).dmaArrived w data
    else s

/-- The request that a ring entry holds, with its opcode (R312, R316). -/
def readRequest (c : Fin 8) (bs : List Byte) : BitVec 16 × Request :=
  let len := field bs 6 2
  (BitVec.ofNat 16 (field bs 2 2),
    { channel := c, version := BitVec.ofNat 16 (field bs 0 2), flags := BitVec.ofNat 16 (field bs 4 2)
      payloadLength := BitVec.ofNat 16 len, sequence := BitVec.ofNat 32 (field bs 8 4), token := BitVec.ofNat 64 (field bs 12 8)
      descCount := BitVec.ofNat 16 (field bs 20 2), reserved := BitVec.ofNat 80 (field bs 22 10)
      payload := (bs.drop 32).take (min len 4064) })

/-- Take the next entry of a channel's request ring; an entry with an uncorrectable error is refused (R313, R515). -/
def State.takeEntry (c : Fin 8) (s : State) : State :=
  let at_ := requestAddr c.val ((s.chan c).reqCi.toNat % 64)
  let (opcode, r) := readRequest c (memRead ramDefault s.fabric.cells at_ 4096)
  let last := at_ + 31 + r.payload.length
  let k := commandOf opcode
  if s.fabric.badWords.any (fun w => at_ / 8 ≤ w && w ≤ last / 8) then
    s.answerOnly opcode r true ((k.map (fun x => x.results)).getD 0) .errRange detailHeader 0
  else s.serve opcode k r true

/-- Whether a channel has requests that the device has been told of and can take (R313). -/
def State.hasWork (s : State) (c : Fin 8) : Bool := s.takes c && (s.chan c).rungPi != (s.chan c).reqCi

/-- The channels of a class, in round-robin order from the one after that served last (R321). -/
def State.roundRobin (s : State) (cls : Fin 3) : List (Fin 8) :=
  let xs := (List.finRange 8).filter (fun c => channelClass c == cls.val)
  let last := s.host.served[cls]
  xs.filter (fun c => last < c) ++ xs.filter (fun c => c ≤ last)

/-- The channel that the device serves next: urgent, then normal, then bulk (R321). -/
def State.nextChannel (s : State) : Option (Fin 8) :=
  ((s.roundRobin 0) ++ (s.roundRobin 1) ++ (s.roundRobin 2)).find? (fun c => s.hasWork c)

/-- The class of a channel as an index. -/
def classIndex (c : Fin 8) : Fin 3 := if c.val ≤ 1 then 0 else if c.val ≤ 5 then 1 else 2

/-- Take requests one at a time while a channel has one; each one's responses leave before the next is taken (R313, R321). -/
def State.pump : Nat → State → State
  | 0, s => s
  | n + 1, s =>
    match s.nextChannel with
    | none => s
    | some c => pump n (s.settled ((s.setHost (fun h => { h with served := h.served.set (classIndex c) c })).takeEntry c))

/-- How many requests can stand in the eight rings (R313). -/
def allRings : Nat := 512

/-- MBX_DOORBELL_REQ: the device reads MBX_REQ_PI; in a service gap the doorbell is latched (R313, R431). -/
def State.ringDoorbell (c : Fin 8) (s : State) : State :=
  if s.mgmt.serviceGap then s.setChan c (fun ch => { ch with doorbell := true })
  else if (s.chan c).mode == .error then s
  else s.setChan c (fun ch => { ch with rungPi := ch.reqPi })

/-- Doorbells latched in a service gap are honoured after it (R431). -/
def State.honourDoorbells (s : State) : State :=
  if s.mgmt.serviceGap then s
  else (List.finRange 8).foldl (fun (s : State) (c : Fin 8) =>
    if (s.chan c).doorbell then (s.setChan c (fun ch => { ch with doorbell := false })).ringDoorbell c else s) s

/-- MBX_DOORBELL_REQ, counted as a doorbell write (R313, R542). -/
def execMbxDoorbellReq (c : Fin 8) (s : State) : Host.Outcome State Fault Refusal :=
  .next ((s.settled ((s.tally 10 0 3 1).ringDoorbell c)).pump allRings)

/-- HOST_DMA_DONE (R318): requests that waited behind the command are then taken. -/
def execHostDmaDone (c : Fin 8) (token : BitVec 64) (data : List Byte) (s : State) : Host.Outcome State Fault Refusal :=
  .next ((s.settled (s.dmaDone c token data)).pump allRings)

/-- A write to a register that has no row of its own, by its access code: RO bits do not change, WO and W1C bits act (R4,
R305, R306, R309, R311, R330). The registers with a row act as that row does. -/
def State.registerWrite (off : Nat) (v : BitVec 32) (s : State) : State :=
  if off % 4 != 0 then s.setBar0Err 0
  else if off = 0x18 then s.hostBeat v
  else if off = 0x1C then s.setHost (fun h => { h with hostHeartbeat := { h.hostHeartbeat with timeoutMs := v.setWidth 16 } })
  else if off = 0x28 then s.clearBar0Err v 0
  else if off = 0x30 then s.clearSummary v 0
  else if off = 0x34 then s.writeMask v
  else if off = 0x3C then s.writeQueueCi v
  else if off = 0x40 then if s.ev.queueEnable then s else s.setEv (fun e => { e with queueBaseLo := v.extractLsb' 12 20 })
  else if off = 0x44 then if s.ev.queueEnable then s else s.setEv (fun e => { e with queueBaseHi := v })
  else if off = 0x48 then if v.getLsbD 0 then s.enableQueue else s.setEv (fun e => { e with queueEnable := false })
  else if 0x100 ≤ off ∧ off < 0x140 then
    if off % 8 = 4 then s.semCommand .pcie ⟨(off - 0x100) / 8 % 8, by omega⟩ v.toNat else s
  else if 0x1000 ≤ off ∧ off < 0x1200 then
    let c : Fin 8 := ⟨(off - 0x1000) / 64 % 8, by omega⟩
    match off % 64 with
    | 0x00 => s.writeReqPi c v
    | 0x0C => s.writeRspCi c v
    | 0x10 =>
      let s := s.tally 10 0 3 1
      if v.getLsbD 0 then s.ringDoorbell c else s
    | 0x18 => if v.getLsbD 0 then s.resync c else s
    | 0x04 | 0x08 | 0x14 => s
    | _ => s.setBar0Err 1
  else if 0x8000 ≤ off ∧ off < 0x8100 then
    s.setHost (fun h => { h with msixTable := memWrite 0 h.msixTable (off - 0x8000) (leBytes 4 v.toNat) })
  else if (s.bar0 off).isSome then s
  else s.setBar0Err 1

/-- One 32-bit half of a 64-bit access: performed where the register exists, else UNMAPPED (R305). -/
def State.bar0Half (off : Nat) (v : Option (BitVec 32)) (s : State) : State :=
  if (s.bar0 off).isNone then s.setBar0Err 1
  else match v with
  | some v => s.registerWrite off v
  | none => s

/-- BAR0_BAD_ACCESS (R305): SIZE for another size or alignment, UNMAPPED for the right size outside the map; a 64-bit access
counts as two of 32 bits in address order. An access that R305 performs whole is not this command's, and changes nothing here. -/
def State.badAccess (a : Bar0Access) (s : State) : State :=
  let off := a.offset.toNat
  let n := a.bytes.val
  let read (o : Nat) : List Byte := leBytes 4 ((s.bar0 o).getD 0)
  let answered (bs : List Byte) (s : State) : State :=
    s.setHost (fun h => { h with lastRead := if a.write.isSome then h.lastRead else bs })
  if (n != 4 && n != 8) || off % 4 != 0 then (s.setBar0Err 0) |> answered (zeros n)
  else if n == 4 then (if (s.bar0 off).isNone then (s.setBar0Err 1) |> answered (zeros 4) else s)
  else if (s.bar0 off).isSome && (s.bar0 (off + 4)).isSome then s
  else
    ((s.bar0Half off (a.write.map (fun v => v.extractLsb' 0 32))).bar0Half (off + 4) (a.write.map (fun v => v.extractLsb' 32 32)))
      |> answered (read off ++ read (off + 4))

def execBar0BadAccess (a : Bar0Access) (s : State) : Host.Outcome State Fault Refusal := .next (s.settled (s.badAccess a))

/-- The response doorbell among the bits of a write to MBX_DOORBELL (R311, R313). -/
def doorbellRsp (off : Nat) (v : BitVec 32) : Option (Fin 8) :=
  if 0x1000 ≤ off ∧ off < 0x1200 ∧ off % 64 = 0x10 ∧ v.getLsbD 1 then some ⟨(off - 0x1000) / 64 % 8, by omega⟩ else none

/-- REGISTER_WRITE (R4). -/
def execRegisterWrite (off : BitVec 16) (v : BitVec 32) (s : State) : Host.Outcome State Fault Refusal :=
  let t := s.settled (s.registerWrite off.toNat v)
  let t := match doorbellRsp off.toNat v with
    | some c => t.settledFabric (t.releaseHeld c 64)
    | none => t
  .next (t.pump allRings)

end Sys2Proof.Machine
end

