-- ==== Sys2Proof/Machine/HostCommands.lean ====
section
/-! DEFINITION. The meanings of the host commands of chapters 12 and 13: the device takes the request on its channel, and
the command's own row decides (R319, R335 to R337). -/
namespace Sys2Proof.Machine

/-- CHANNEL_OPEN (R339). -/
def execChannelOpen (r : Request) (s : State) : Host.Outcome State Fault Refusal := .next (s.settled (s.request cmdChannelOpen r))

/-- DEVICE_INFO (R340). -/
def execDeviceInfo (r : Request) (s : State) : Host.Outcome State Fault Refusal := .next (s.settled (s.request cmdDeviceInfo r))

/-- RECOVERY_READ (R341). -/
def execRecoveryRead (r : Request) (s : State) : Host.Outcome State Fault Refusal := .next (s.settled (s.request cmdRecoveryRead r))

/-- RECOVERY_ACK (R342). -/
def execRecoveryAck (r : Request) (s : State) : Host.Outcome State Fault Refusal := .next (s.settled (s.request cmdRecoveryAck r))

/-- JOB_STATUS (R343). -/
def execJobStatus (r : Request) (s : State) : Host.Outcome State Fault Refusal := .next (s.settled (s.request cmdJobStatus r))

/-- WARM_RESET (R344). -/
def execWarmReset (r : Request) (s : State) : Host.Outcome State Fault Refusal := .next (s.settled (s.request cmdWarmReset r))

/-- PORT_ENABLE (R345). -/
def execPortEnable (r : Request) (s : State) : Host.Outcome State Fault Refusal := .next (s.settled (s.request cmdPortEnable r))

/-- PORT_DISABLE (R345). -/
def execPortDisable (r : Request) (s : State) : Host.Outcome State Fault Refusal := .next (s.settled (s.request cmdPortDisable r))

/-- PORT_STOP (R96). -/
def execPortStop (r : Request) (s : State) : Host.Outcome State Fault Refusal := .next (s.settled (s.request cmdPortStop r))

/-- PORT_RESTART (R96). -/
def execPortRestart (r : Request) (s : State) : Host.Outcome State Fault Refusal := .next (s.settled (s.request cmdPortRestart r))

/-- PORT_SET (R346). -/
def execPortSet (r : Request) (s : State) : Host.Outcome State Fault Refusal := .next (s.settled (s.request cmdPortSet r))

/-- PORT_FORMATS (R347). -/
def execPortFormats (r : Request) (s : State) : Host.Outcome State Fault Refusal := .next (s.settled (s.request cmdPortFormats r))

/-- PORT_BUNDLES (R347). -/
def execPortBundles (r : Request) (s : State) : Host.Outcome State Fault Refusal := .next (s.settled (s.request cmdPortBundles r))

/-- PORT_STATUS (R348). -/
def execPortStatus (r : Request) (s : State) : Host.Outcome State Fault Refusal := .next (s.settled (s.request cmdPortStatus r))

/-- PORT_COUNTERS (R349). -/
def execPortCounters (r : Request) (s : State) : Host.Outcome State Fault Refusal := .next (s.settled (s.request cmdPortCounters r))

/-- PORT_STATUS_ALL (R348). -/
def execPortStatusAll (r : Request) (s : State) : Host.Outcome State Fault Refusal := .next (s.settled (s.request cmdPortStatusAll r))

/-- MAP_SOLVE (R350). -/
def execMapSolve (r : Request) (s : State) : Host.Outcome State Fault Refusal := .next (s.settled (s.request cmdMapSolve r))

/-- MAP_RAW_LOAD (R350). -/
def execMapRawLoad (r : Request) (s : State) : Host.Outcome State Fault Refusal := .next (s.settled (s.request cmdMapRawLoad r))

/-- MAP_CANCEL_JOB (R351). -/
def execMapCancelJob (r : Request) (s : State) : Host.Outcome State Fault Refusal := .next (s.settled (s.request cmdMapCancelJob r))

/-- MAP_CANCEL_BANK (R351). -/
def execMapCancelBank (r : Request) (s : State) : Host.Outcome State Fault Refusal := .next (s.settled (s.request cmdMapCancelBank r))

/-- MAP_SWAP (R352). -/
def execMapSwap (r : Request) (s : State) : Host.Outcome State Fault Refusal := .next (s.settled (s.request cmdMapSwap r))

/-- MAP_SWAP_CANCEL (R143). -/
def execMapSwapCancel (r : Request) (s : State) : Host.Outcome State Fault Refusal := .next (s.settled (s.request cmdMapSwapCancel r))

/-- MAP_READ (R353). -/
def execMapRead (r : Request) (s : State) : Host.Outcome State Fault Refusal := .next (s.settled (s.request cmdMapRead r))

/-- MAP_STATUS (R354). -/
def execMapStatus (r : Request) (s : State) : Host.Outcome State Fault Refusal := .next (s.settled (s.request cmdMapStatus r))

/-- MAP_PERSIST (R355). -/
def execMapPersist (r : Request) (s : State) : Host.Outcome State Fault Refusal := .next (s.settled (s.request cmdMapPersist r))

/-- PLANE_SET (R356). -/
def execPlaneSet (r : Request) (s : State) : Host.Outcome State Fault Refusal := .next (s.settled (s.request cmdPlaneSet r))

/-- GROUP_DECLARE (R357). -/
def execGroupDeclare (r : Request) (s : State) : Host.Outcome State Fault Refusal := .next (s.settled (s.request cmdGroupDeclare r))

/-- GROUP_MODIFY (R357). -/
def execGroupModify (r : Request) (s : State) : Host.Outcome State Fault Refusal := .next (s.settled (s.request cmdGroupModify r))

/-- GROUP_DELETE (R154). -/
def execGroupDelete (r : Request) (s : State) : Host.Outcome State Fault Refusal := .next (s.settled (s.request cmdGroupDelete r))

/-- PROT_COMMAND (R160). -/
def execProtCommand (r : Request) (s : State) : Host.Outcome State Fault Refusal := .next (s.settled (s.request cmdProtCommand r))

/-- PAIR_SETTINGS (R359). -/
def execPairSettings (r : Request) (s : State) : Host.Outcome State Fault Refusal := .next (s.settled (s.request cmdPairSettings r))

/-- PROT_STATUS (R360). -/
def execProtStatus (r : Request) (s : State) : Host.Outcome State Fault Refusal := .next (s.settled (s.request cmdProtStatus r))

/-- REF_DECLARE (R361). -/
def execRefDeclare (r : Request) (s : State) : Host.Outcome State Fault Refusal := .next (s.settled (s.request cmdRefDeclare r))

/-- TIMING_SET (R362). -/
def execTimingSet (r : Request) (s : State) : Host.Outcome State Fault Refusal := .next (s.settled (s.request cmdTimingSet r))

/-- REF_FORCE (R363). -/
def execRefForce (r : Request) (s : State) : Host.Outcome State Fault Refusal := .next (s.settled (s.request cmdRefForce r))

/-- LOOP_OPEN (R270). -/
def execLoopOpen (r : Request) (s : State) : Host.Outcome State Fault Refusal := .next (s.settled (s.request cmdLoopOpen r))

/-- LOOP_CLOSE (R259). -/
def execLoopClose (r : Request) (s : State) : Host.Outcome State Fault Refusal := .next (s.settled (s.request cmdLoopClose r))

/-- DCO_WRITE (R270). -/
def execDcoWrite (r : Request) (s : State) : Host.Outcome State Fault Refusal := .next (s.settled (s.request cmdDcoWrite r))

/-- TICK_STEP (R365). -/
def execTickStep (r : Request) (s : State) : Host.Outcome State Fault Refusal := .next (s.settled (s.request cmdTickStep r))

/-- OUTPUT_SET (R366). -/
def execOutputSet (r : Request) (s : State) : Host.Outcome State Fault Refusal := .next (s.settled (s.request cmdOutputSet r))

/-- TIMING_STATUS (R367). -/
def execTimingStatus (r : Request) (s : State) : Host.Outcome State Fault Refusal := .next (s.settled (s.request cmdTimingStatus r))

/-- CASC_DECLARE (R368). -/
def execCascDeclare (r : Request) (s : State) : Host.Outcome State Fault Refusal := .next (s.settled (s.request cmdCascDeclare r))

/-- CASC_LEAVE (R369). -/
def execCascLeave (r : Request) (s : State) : Host.Outcome State Fault Refusal := .next (s.settled (s.request cmdCascLeave r))

/-- CASC_STAGE (R370). -/
def execCascStage (r : Request) (s : State) : Host.Outcome State Fault Refusal := .next (s.settled (s.request cmdCascStage r))

/-- CASC_SWAP (R370). -/
def execCascSwap (r : Request) (s : State) : Host.Outcome State Fault Refusal := .next (s.settled (s.request cmdCascSwap r))

/-- CASC_ABORT (R370). -/
def execCascAbort (r : Request) (s : State) : Host.Outcome State Fault Refusal := .next (s.settled (s.request cmdCascAbort r))

/-- CASC_HANDOVER (R371). -/
def execCascHandover (r : Request) (s : State) : Host.Outcome State Fault Refusal := .next (s.settled (s.request cmdCascHandover r))

/-- CASC_RELEASE (R371). -/
def execCascRelease (r : Request) (s : State) : Host.Outcome State Fault Refusal := .next (s.settled (s.request cmdCascRelease r))

/-- CASC_STATUS (R372). -/
def execCascStatus (r : Request) (s : State) : Host.Outcome State Fault Refusal := .next (s.settled (s.request cmdCascStatus r))

/-- RECIPE_LOAD (R374). -/
def execRecipeLoad (r : Request) (s : State) : Host.Outcome State Fault Refusal := .next (s.settled (s.request cmdRecipeLoad r))

/-- RECIPE_SWAP (R375). -/
def execRecipeSwap (r : Request) (s : State) : Host.Outcome State Fault Refusal := .next (s.settled (s.request cmdRecipeSwap r))

/-- RECIPE_CANCEL (R375). -/
def execRecipeCancel (r : Request) (s : State) : Host.Outcome State Fault Refusal := .next (s.settled (s.request cmdRecipeCancel r))

/-- RECIPE_READ (R375). -/
def execRecipeRead (r : Request) (s : State) : Host.Outcome State Fault Refusal := .next (s.settled (s.request cmdRecipeRead r))

/-- RECORD_POST (R376). -/
def execRecordPost (r : Request) (s : State) : Host.Outcome State Fault Refusal := .next (s.settled (s.request cmdRecordPost r))

/-- RECORD_FLUSH (R376). -/
def execRecordFlush (r : Request) (s : State) : Host.Outcome State Fault Refusal := .next (s.settled (s.request cmdRecordFlush r))

/-- ENGINE_IMAGE_LOAD (R377). -/
def execEngineImageLoad (r : Request) (s : State) : Host.Outcome State Fault Refusal := .next (s.settled (s.request cmdEngineImageLoad r))

/-- CLUSTER_STOP (R205). -/
def execClusterStop (r : Request) (s : State) : Host.Outcome State Fault Refusal := .next (s.settled (s.request cmdClusterStop r))

/-- CLUSTER_RESTART (R205). -/
def execClusterRestart (r : Request) (s : State) : Host.Outcome State Fault Refusal := .next (s.settled (s.request cmdClusterRestart r))

/-- CLUSTER_STATUS (R378). -/
def execClusterStatus (r : Request) (s : State) : Host.Outcome State Fault Refusal := .next (s.settled (s.request cmdClusterStatus r))

/-- ENGINE_COUNTERS (R379). -/
def execEngineCounters (r : Request) (s : State) : Host.Outcome State Fault Refusal := .next (s.settled (s.request cmdEngineCounters r))

/-- TRIGGER_LOAD (R380). -/
def execTriggerLoad (r : Request) (s : State) : Host.Outcome State Fault Refusal := .next (s.settled (s.request cmdTriggerLoad r))

/-- TRIGGER_SWAP (R380). -/
def execTriggerSwap (r : Request) (s : State) : Host.Outcome State Fault Refusal := .next (s.settled (s.request cmdTriggerSwap r))

/-- TRIGGER_CANCEL (R380). -/
def execTriggerCancel (r : Request) (s : State) : Host.Outcome State Fault Refusal := .next (s.settled (s.request cmdTriggerCancel r))

/-- TRIGGER_READ (R380). -/
def execTriggerRead (r : Request) (s : State) : Host.Outcome State Fault Refusal := .next (s.settled (s.request cmdTriggerRead r))

/-- CHANNEL_ARM (R381). -/
def execChannelArm (r : Request) (s : State) : Host.Outcome State Fault Refusal := .next (s.settled (s.request cmdChannelArm r))

/-- HOST_TRIGGER (R382). -/
def execHostTrigger (r : Request) (s : State) : Host.Outcome State Fault Refusal := .next (s.settled (s.request cmdHostTrigger r))

/-- CAPTURE_ABORT (R383). -/
def execCaptureAbort (r : Request) (s : State) : Host.Outcome State Fault Refusal := .next (s.settled (s.request cmdCaptureAbort r))

/-- TRIGGER_STATUS (R384). -/
def execTriggerStatus (r : Request) (s : State) : Host.Outcome State Fault Refusal := .next (s.settled (s.request cmdTriggerStatus r))

/-- CAPTURE_STATUS (R385). -/
def execCaptureStatus (r : Request) (s : State) : Host.Outcome State Fault Refusal := .next (s.settled (s.request cmdCaptureStatus r))

/-- DRIVE_DECLARE (R386). -/
def execDriveDeclare (r : Request) (s : State) : Host.Outcome State Fault Refusal := .next (s.settled (s.request cmdDriveDeclare r))

/-- NAMESPACE_DECLARE (R387). -/
def execNamespaceDeclare (r : Request) (s : State) : Host.Outcome State Fault Refusal := .next (s.settled (s.request cmdNamespaceDeclare r))

/-- NAMESPACE_DELETE (R388). -/
def execNamespaceDelete (r : Request) (s : State) : Host.Outcome State Fault Refusal := .next (s.settled (s.request cmdNamespaceDelete r))

/-- STORE_STATUS (R389). -/
def execStoreStatus (r : Request) (s : State) : Host.Outcome State Fault Refusal := .next (s.settled (s.request cmdStoreStatus r))

/-- OBJECT_LIST (R390). -/
def execObjectList (r : Request) (s : State) : Host.Outcome State Fault Refusal := .next (s.settled (s.request cmdObjectList r))

/-- OBJECT_READ (R391). -/
def execObjectRead (r : Request) (s : State) : Host.Outcome State Fault Refusal := .next (s.settled (s.request cmdObjectRead r))

/-- OBJECT_PIN (R392). -/
def execObjectPin (r : Request) (s : State) : Host.Outcome State Fault Refusal := .next (s.settled (s.request cmdObjectPin r))

/-- RTC_READ (R394). -/
def execRtcRead (r : Request) (s : State) : Host.Outcome State Fault Refusal := .next (s.settled (s.request cmdRtcRead r))

/-- RTC_SET (R395). -/
def execRtcSet (r : Request) (s : State) : Host.Outcome State Fault Refusal := .next (s.settled (s.request cmdRtcSet r))

/-- LEAP_SET (R396). -/
def execLeapSet (r : Request) (s : State) : Host.Outcome State Fault Refusal := .next (s.settled (s.request cmdLeapSet r))

/-- LOG_STATUS (R397). -/
def execLogStatus (r : Request) (s : State) : Host.Outcome State Fault Refusal := .next (s.settled (s.request cmdLogStatus r))

/-- LOG_FREEZE (R398). -/
def execLogFreeze (r : Request) (s : State) : Host.Outcome State Fault Refusal := .next (s.settled (s.request cmdLogFreeze r))

/-- LOG_READ (R399). -/
def execLogRead (r : Request) (s : State) : Host.Outcome State Fault Refusal := .next (s.settled (s.request cmdLogRead r))

/-- LOG_CLEAR (R401). -/
def execLogClear (r : Request) (s : State) : Host.Outcome State Fault Refusal := .next (s.settled (s.request cmdLogClear r))

/-- EVT_ROUTE (R402). -/
def execEvtRoute (r : Request) (s : State) : Host.Outcome State Fault Refusal := .next (s.settled (s.request cmdEvtRoute r))

/-- SEC_NONCE (R403). -/
def execSecNonce (r : Request) (s : State) : Host.Outcome State Fault Refusal := .next (s.settled (s.request cmdSecNonce r))

/-- CERT_READ (R404). -/
def execCertRead (r : Request) (s : State) : Host.Outcome State Fault Refusal := .next (s.settled (s.request cmdCertRead r))

/-- ATTEST (R455). -/
def execAttest (r : Request) (s : State) : Host.Outcome State Fault Refusal := .next (s.settled (s.request cmdAttest r))

/-- OWNER_TRANSFER (R454). -/
def execOwnerTransfer (r : Request) (s : State) : Host.Outcome State Fault Refusal := .next (s.settled (s.request cmdOwnerTransfer r))

/-- DEBUG_UNLOCK (R467). -/
def execDebugUnlock (r : Request) (s : State) : Host.Outcome State Fault Refusal := .next (s.settled (s.request cmdDebugUnlock r))

/-- LINK_REKEY (R406). -/
def execLinkRekey (r : Request) (s : State) : Host.Outcome State Fault Refusal := .next (s.settled (s.request cmdLinkRekey r))

/-- SEC_STATUS (R407). -/
def execSecStatus (r : Request) (s : State) : Host.Outcome State Fault Refusal := .next (s.settled (s.request cmdSecStatus r))

/-- BIST_RUN (R408). -/
def execBistRun (r : Request) (s : State) : Host.Outcome State Fault Refusal := .next (s.settled (s.request cmdBistRun r))

/-- BIST_RESULTS (R537). -/
def execBistResults (r : Request) (s : State) : Host.Outcome State Fault Refusal := .next (s.settled (s.request cmdBistResults r))

/-- PERF_SELECT (R543). -/
def execPerfSelect (r : Request) (s : State) : Host.Outcome State Fault Refusal := .next (s.settled (s.request cmdPerfSelect r))

/-- PERF_SNAPSHOT (R546). -/
def execPerfSnapshot (r : Request) (s : State) : Host.Outcome State Fault Refusal := .next (s.settled (s.request cmdPerfSnapshot r))

/-- PERF_SAMPLE (R550). -/
def execPerfSample (r : Request) (s : State) : Host.Outcome State Fault Refusal := .next (s.settled (s.request cmdPerfSample r))

/-- DOMAIN_SET (R410). -/
def execDomainSet (r : Request) (s : State) : Host.Outcome State Fault Refusal := .next (s.settled (s.request cmdDomainSet r))

/-- POWER_STATUS (R410). -/
def execPowerStatus (r : Request) (s : State) : Host.Outcome State Fault Refusal := .next (s.settled (s.request cmdPowerStatus r))

/-- SHUTDOWN (R411). -/
def execShutdown (r : Request) (s : State) : Host.Outcome State Fault Refusal := .next (s.settled (s.request cmdShutdown r))

/-- FW_STAGE (R412). -/
def execFwStage (r : Request) (s : State) : Host.Outcome State Fault Refusal := .next (s.settled (s.request cmdFwStage r))

/-- FW_ACTIVATE (R435). -/
def execFwActivate (r : Request) (s : State) : Host.Outcome State Fault Refusal := .next (s.settled (s.request cmdFwActivate r))

/-- MGMT_ROLE (R414). -/
def execMgmtRole (r : Request) (s : State) : Host.Outcome State Fault Refusal := .next (s.settled (s.request cmdMgmtRole r))

/-- FW_STATUS (R415). -/
def execFwStatus (r : Request) (s : State) : Host.Outcome State Fault Refusal := .next (s.settled (s.request cmdFwStatus r))

end Sys2Proof.Machine
end

