-- ==== Sys2Proof/Machine/Tick.lean ====
section
/-! DEFINITION. The tick boundary (R7 to R10, R19, R264, R265): what the device does at a tick, in its order. -/
namespace Sys2Proof.Machine

/-- The time after a tick (R9, R264): the frame number advances, or counts on from the old count less the step that the ended
period made; while POR_N or COLD_RST_N is low it stands (R524). -/
def State.nextClock (s : State) : Clock :=
  if s.rst.porLow || s.rst.coldLow then { s.clock with tick := s.clock.tick + 1 }
  else { tick := s.clock.tick + 1, frame := s.clock.frame + 1 - BitVec.ofInt 64 (s.dpll.step.getD 0) }

/-- The frame number advances (R19 step 1). The numbers that a backward step sends again are invalid (R25). -/
def State.advanceFrame (s : State) : State :=
  let old := s.clock.frame
  let k := s.dpll.step.getD 0
  let stepped := s.dpll.step.isSome
  let s := { s with clock := s.nextClock }
  let s := s.setPerf (fun x => { x with stepSeen := x.stepSeen || stepped })
  let s := s.setCasc (fun c => { c with rejoinInvalid := if 0 < k && c.rejoinInvalid < old then old else c.rejoinInvalid })
  s.setDpll (fun d => { d with step := none, extraCycles := 0 })

/-- The recipe swap, and the moment units finish the frame that they have read: with the old set when a step of the count has
skipped the swap's frame, and else with the new one (R178, R182, R198). -/
def State.swapRecipes (s : State) : State :=
  match s.ember.swap with
  | some w => if s.ember.readNow < w.frame then s.takeMoments.takeRecipeSwap else s.takeRecipeSwap.takeMoments
  | none => s.takeMoments

/-- Put a swap into its place by frame number, after those of the same frame (R19, R265). -/
def insertSwap (x : BitVec 64 × Fin 3) : List (BitVec 64 × Fin 3) → List (BitVec 64 × Fin 3)
  | [] => [x]
  | y :: rest => if x.1 < y.1 then x :: y :: rest else y :: insertSwap x rest

/-- The swaps whose frames have come, after a step of the count: connection (0), recipe (1) and trigger (2) swaps in the order
of their frame numbers (R265). -/
def State.swapsCome (s : State) : List (BitVec 64 × Fin 3) :=
  let come (f : Option (BitVec 64)) (k : Fin 3) : List (BitVec 64 × Fin 3) :=
    match f with
    | some n => if n ≤ s.clock.frame then [(n, k)] else []
    | none => []
  (come (s.map.swap.map (·.frame)) 0 ++ come (s.ember.swap.map (·.frame)) 1 ++ come (s.cap.swap.map (·.frame)) 2).foldl
    (fun xs x => insertSwap x xs) []

/-- Take one of them. -/
def State.takeBank (s : State) (x : BitVec 64 × Fin 3) : State :=
  match x.2 with
  | 0 => match s.map.swap with
    | some w => s.takeSwap w
    | none => s
  | 1 => s.swapRecipes
  | 2 => s.takeTriggerSwap

/-- The banks after a step of the count: the swaps that it has skipped, in their order, then the output frames of the new
number, which no pass has assembled, and the swap of the frame that comes next (R142, R265, R266). -/
def State.swapAfterStep (s : State) : State :=
  let xs := s.swapsCome
  let s := xs.foldl State.takeBank s
  let s := if xs.any (fun x => x.2 == 1) then s else s.takeMoments
  let map := s.map.active.generation
  ((s.centrePass s.clock.frame).takeDueSwap).noteInForce map

/-- The banks swap, each only if its own swap is due; the centre pass of the next frame begins now (R19 step 2, R142, R198,
R222). -/
def State.swapBanks (stepped : Bool) (s : State) : State :=
  if stepped then s.swapAfterStep
  else
    let map := s.map.active.generation
    ((s.takeDueSwap.swapRecipes).takeTriggerSwap).noteInForce map

/-- The capture engine finishes the frame that it has read, and the captures go on (R223, R236, R238). -/
def State.finishInput (s : State) : State := s.ringWrite.resumeCaptures.startWriting

/-- Protection selections, timing, the cascade and the state pins at a tick (R19 step 3, R158, R255, R262, R282). -/
def State.stepControl (s : State) : State := s.faultedOff.stepProtection.stepTiming.stepCascade.updateStatePins

/-- The data path at a tick: the centre pass of the next frame, the transmitters of this one, and what the units begin to read
(R57, R98, R178, R466). -/
def State.stepDataPath (s : State) : State :=
  let n := s.clock.frame
  let s := s.setSec (fun x => { x with installs := 0 })
  let s := (s.transmit n).startWaiting
  ((s.centrePass (n + 1)).stepWindows (n + 1)).latchMoments (n + 1)

/-- Housekeeping at a tick: domains, event pins and queue, the RTC, the management cores, sampling, the guarantee and the GPIO
pins (R434, R478, R480, R495, R550, R563, R576). -/
def State.stepService (s : State) : State :=
  s.startDomain.stepPins.queueLossRecord.countSubSeconds.countHeartbeat.tryRoleSwap.endStoppedSamples.judgeGuarantee.updatePins

/-- TICK (R7, R19). While POR_N or COLD_RST_N is low only time and the RTC go on (R524). -/
def State.tickWork (s : State) : State :=
  if s.rst.porLow || s.rst.coldLow then { s with clock := s.nextClock }.countSubSeconds
  else
    let stepped := s.dpll.step.isSome
    let s := s.stepCounters.endPulses.advanceFrame
    let s := s.latchSnapshots.applyDeferred
    ((s.swapBanks stepped).finishInput.stepControl.stepDataPath.stepService).honourDoorbells

/-- What a tick leaves behind: time has gone on by one tick, and the queue and the control fabric's memories stand, but for the
responses posted. -/
def State.settledTick (s t : State) : State :=
  State.settle { t with pending := s.pending, clock := s.nextClock, fabric := { t.fabric with cells := s.fabric.cells }
                        flash := { t.flash with cells := s.flash.cells } }

/-- TICK (R7): after the tick's own work the device takes the requests that wait. -/
def execTick (s : State) : Host.Outcome State Fault Refusal := .next ((s.settledTick s.tickWork).pump allRings)

end Sys2Proof.Machine
end

