-- ==== Sys2Proof/Machine/Dispatch.lean ====
section
/-! DEFINITION. One arm for each command of the block: its meaning. -/
namespace Sys2Proof.Machine

/-- The effect of a command on everything but the queue. -/
def exec (i : Instr) (s : State) : Host.Outcome State Fault Refusal :=
  match i with
  | .channelOpen r => Sys2Proof.Machine.execChannelOpen r s
  | .deviceInfo r => Sys2Proof.Machine.execDeviceInfo r s
  | .recoveryRead r => Sys2Proof.Machine.execRecoveryRead r s
  | .recoveryAck r => Sys2Proof.Machine.execRecoveryAck r s
  | .jobStatus r => Sys2Proof.Machine.execJobStatus r s
  | .warmReset r => Sys2Proof.Machine.execWarmReset r s
  | .portEnable r => Sys2Proof.Machine.execPortEnable r s
  | .portDisable r => Sys2Proof.Machine.execPortDisable r s
  | .portStop r => Sys2Proof.Machine.execPortStop r s
  | .portRestart r => Sys2Proof.Machine.execPortRestart r s
  | .portSet r => Sys2Proof.Machine.execPortSet r s
  | .portFormats r => Sys2Proof.Machine.execPortFormats r s
  | .portBundles r => Sys2Proof.Machine.execPortBundles r s
  | .portStatus r => Sys2Proof.Machine.execPortStatus r s
  | .portCounters r => Sys2Proof.Machine.execPortCounters r s
  | .portStatusAll r => Sys2Proof.Machine.execPortStatusAll r s
  | .mapSolve r => Sys2Proof.Machine.execMapSolve r s
  | .mapRawLoad r => Sys2Proof.Machine.execMapRawLoad r s
  | .mapCancelJob r => Sys2Proof.Machine.execMapCancelJob r s
  | .mapCancelBank r => Sys2Proof.Machine.execMapCancelBank r s
  | .mapSwap r => Sys2Proof.Machine.execMapSwap r s
  | .mapSwapCancel r => Sys2Proof.Machine.execMapSwapCancel r s
  | .mapRead r => Sys2Proof.Machine.execMapRead r s
  | .mapStatus r => Sys2Proof.Machine.execMapStatus r s
  | .mapPersist r => Sys2Proof.Machine.execMapPersist r s
  | .planeSet r => Sys2Proof.Machine.execPlaneSet r s
  | .groupDeclare r => Sys2Proof.Machine.execGroupDeclare r s
  | .groupModify r => Sys2Proof.Machine.execGroupModify r s
  | .groupDelete r => Sys2Proof.Machine.execGroupDelete r s
  | .protCommand r => Sys2Proof.Machine.execProtCommand r s
  | .pairSettings r => Sys2Proof.Machine.execPairSettings r s
  | .protStatus r => Sys2Proof.Machine.execProtStatus r s
  | .refDeclare r => Sys2Proof.Machine.execRefDeclare r s
  | .timingSet r => Sys2Proof.Machine.execTimingSet r s
  | .refForce r => Sys2Proof.Machine.execRefForce r s
  | .loopOpen r => Sys2Proof.Machine.execLoopOpen r s
  | .loopClose r => Sys2Proof.Machine.execLoopClose r s
  | .dcoWrite r => Sys2Proof.Machine.execDcoWrite r s
  | .tickStep r => Sys2Proof.Machine.execTickStep r s
  | .outputSet r => Sys2Proof.Machine.execOutputSet r s
  | .timingStatus r => Sys2Proof.Machine.execTimingStatus r s
  | .cascDeclare r => Sys2Proof.Machine.execCascDeclare r s
  | .cascLeave r => Sys2Proof.Machine.execCascLeave r s
  | .cascStage r => Sys2Proof.Machine.execCascStage r s
  | .cascSwap r => Sys2Proof.Machine.execCascSwap r s
  | .cascAbort r => Sys2Proof.Machine.execCascAbort r s
  | .cascHandover r => Sys2Proof.Machine.execCascHandover r s
  | .cascRelease r => Sys2Proof.Machine.execCascRelease r s
  | .cascStatus r => Sys2Proof.Machine.execCascStatus r s
  | .recipeLoad r => Sys2Proof.Machine.execRecipeLoad r s
  | .recipeSwap r => Sys2Proof.Machine.execRecipeSwap r s
  | .recipeCancel r => Sys2Proof.Machine.execRecipeCancel r s
  | .recipeRead r => Sys2Proof.Machine.execRecipeRead r s
  | .recordPost r => Sys2Proof.Machine.execRecordPost r s
  | .recordFlush r => Sys2Proof.Machine.execRecordFlush r s
  | .engineImageLoad r => Sys2Proof.Machine.execEngineImageLoad r s
  | .clusterStop r => Sys2Proof.Machine.execClusterStop r s
  | .clusterRestart r => Sys2Proof.Machine.execClusterRestart r s
  | .clusterStatus r => Sys2Proof.Machine.execClusterStatus r s
  | .engineCounters r => Sys2Proof.Machine.execEngineCounters r s
  | .triggerLoad r => Sys2Proof.Machine.execTriggerLoad r s
  | .triggerSwap r => Sys2Proof.Machine.execTriggerSwap r s
  | .triggerCancel r => Sys2Proof.Machine.execTriggerCancel r s
  | .triggerRead r => Sys2Proof.Machine.execTriggerRead r s
  | .channelArm r => Sys2Proof.Machine.execChannelArm r s
  | .hostTrigger r => Sys2Proof.Machine.execHostTrigger r s
  | .captureAbort r => Sys2Proof.Machine.execCaptureAbort r s
  | .triggerStatus r => Sys2Proof.Machine.execTriggerStatus r s
  | .captureStatus r => Sys2Proof.Machine.execCaptureStatus r s
  | .driveDeclare r => Sys2Proof.Machine.execDriveDeclare r s
  | .namespaceDeclare r => Sys2Proof.Machine.execNamespaceDeclare r s
  | .namespaceDelete r => Sys2Proof.Machine.execNamespaceDelete r s
  | .storeStatus r => Sys2Proof.Machine.execStoreStatus r s
  | .objectList r => Sys2Proof.Machine.execObjectList r s
  | .objectRead r => Sys2Proof.Machine.execObjectRead r s
  | .objectPin r => Sys2Proof.Machine.execObjectPin r s
  | .rtcRead r => Sys2Proof.Machine.execRtcRead r s
  | .rtcSet r => Sys2Proof.Machine.execRtcSet r s
  | .leapSet r => Sys2Proof.Machine.execLeapSet r s
  | .logStatus r => Sys2Proof.Machine.execLogStatus r s
  | .logFreeze r => Sys2Proof.Machine.execLogFreeze r s
  | .logRead r => Sys2Proof.Machine.execLogRead r s
  | .logClear r => Sys2Proof.Machine.execLogClear r s
  | .evtRoute r => Sys2Proof.Machine.execEvtRoute r s
  | .secNonce r => Sys2Proof.Machine.execSecNonce r s
  | .certRead r => Sys2Proof.Machine.execCertRead r s
  | .attest r => Sys2Proof.Machine.execAttest r s
  | .ownerTransfer r => Sys2Proof.Machine.execOwnerTransfer r s
  | .debugUnlock r => Sys2Proof.Machine.execDebugUnlock r s
  | .linkRekey r => Sys2Proof.Machine.execLinkRekey r s
  | .secStatus r => Sys2Proof.Machine.execSecStatus r s
  | .bistRun r => Sys2Proof.Machine.execBistRun r s
  | .bistResults r => Sys2Proof.Machine.execBistResults r s
  | .perfSelect r => Sys2Proof.Machine.execPerfSelect r s
  | .perfSnapshot r => Sys2Proof.Machine.execPerfSnapshot r s
  | .perfSample r => Sys2Proof.Machine.execPerfSample r s
  | .domainSet r => Sys2Proof.Machine.execDomainSet r s
  | .powerStatus r => Sys2Proof.Machine.execPowerStatus r s
  | .shutdown r => Sys2Proof.Machine.execShutdown r s
  | .fwStage r => Sys2Proof.Machine.execFwStage r s
  | .fwActivate r => Sys2Proof.Machine.execFwActivate r s
  | .mgmtRole r => Sys2Proof.Machine.execMgmtRole r s
  | .fwStatus r => Sys2Proof.Machine.execFwStatus r s
  | .mbxDoorbellReq c => Sys2Proof.Machine.execMbxDoorbellReq c s
  | .mbxDoorbellRsp c => Sys2Proof.Machine.execMbxDoorbellRsp c s
  | .mbxReqPiWrite c v => Sys2Proof.Machine.execMbxReqPiWrite c v s
  | .mbxRspCiWrite c v => Sys2Proof.Machine.execMbxRspCiWrite c v s
  | .mbxResync c => Sys2Proof.Machine.execMbxResync c s
  | .heldResponsePosted c => Sys2Proof.Machine.execHeldResponsePosted c s
  | .bar0BadAccess a => Sys2Proof.Machine.execBar0BadAccess a s
  | .bar2ResponseWrite c entry => Sys2Proof.Machine.execBar2ResponseWrite c entry s
  | .registerWrite off v => Sys2Proof.Machine.execRegisterWrite off v s
  | .hostHeartbeatWrite v => Sys2Proof.Machine.execHostHeartbeatWrite v s
  | .hostHbTimeoutExpiry => Sys2Proof.Machine.execHostHbTimeoutExpiry s
  | .setWinsCntRead sameCycle => Sys2Proof.Machine.execSetWinsCntRead sameCycle s
  | .bar0ErrClear v hwSet => Sys2Proof.Machine.execBar0ErrClear v hwSet s
  | .evtSummaryClear v hwSet => Sys2Proof.Machine.execEvtSummaryClear v hwSet s
  | .evtMaskWrite v => Sys2Proof.Machine.execEvtMaskWrite v s
  | .evtQueueCiWrite v => Sys2Proof.Machine.execEvtQueueCiWrite v s
  | .evtQueueEnable => Sys2Proof.Machine.execEvtQueueEnable s
  | .semAcquire path n tag => Sys2Proof.Machine.execSemAcquire path n tag s
  | .semRelease path n tag => Sys2Proof.Machine.execSemRelease path n tag s
  | .semMAcquire core n tag => Sys2Proof.Machine.execSemMAcquire core n tag s
  | .semMRelease core n tag => Sys2Proof.Machine.execSemMRelease core n tag s
  | .hostPortReset => Sys2Proof.Machine.execHostPortReset s
  | .hotReset => Sys2Proof.Machine.execHotReset s
  | .flr => Sys2Proof.Machine.execFlr s
  | .hostLinkTrained width gen => Sys2Proof.Machine.execHostLinkTrained width gen s
  | .i2cTargetWrite off data => Sys2Proof.Machine.execI2cTargetWrite off data s
  | .i2cTargetRead off count => Sys2Proof.Machine.execI2cTargetRead off count s
  | .i2cTargetTimeout => Sys2Proof.Machine.execI2cTargetTimeout s
  | .bmcHeartbeatWrite v => Sys2Proof.Machine.execBmcHeartbeatWrite v s
  | .bmcHbTimeoutExpiry => Sys2Proof.Machine.execBmcHbTimeoutExpiry s
  | .i2cControllerTransfer x o => Sys2Proof.Machine.execI2cControllerTransfer x o s
  | .i2cControllerRetry o => Sys2Proof.Machine.execI2cControllerRetry o s
  | .busStuck => Sys2Proof.Machine.execBusStuck s
  | .porNAssert suppliesHeld => Sys2Proof.Machine.execPorNAssert suppliesHeld s
  | .porNRelease straps b => Sys2Proof.Machine.execPorNRelease straps b s
  | .coldRstNAssert suppliesHeld => Sys2Proof.Machine.execColdRstNAssert suppliesHeld s
  | .coldRstNRelease b => Sys2Proof.Machine.execColdRstNRelease b s
  | .warmRstNAssert => Sys2Proof.Machine.execWarmRstNAssert s
  | .tinderServiceStart => Sys2Proof.Machine.execTinderServiceStart s
  | .fullServiceStart b => Sys2Proof.Machine.execFullServiceStart b s
  | .shutdownSequence => Sys2Proof.Machine.execShutdownSequence s
  | .bistSliceDone x => Sys2Proof.Machine.execBistSliceDone x s
  | .bistSliceTimeout => Sys2Proof.Machine.execBistSliceTimeout s
  | .pwrFailNAssert => Sys2Proof.Machine.execPwrFailNAssert s
  | .powerFailFlushPage => Sys2Proof.Machine.execPowerFailFlushPage s
  | .supplyOutOfRange supply => Sys2Proof.Machine.execSupplyOutOfRange supply s
  | .conditionsRestored => Sys2Proof.Machine.execConditionsRestored s
  | .temperatureThreshold t => Sys2Proof.Machine.execTemperatureThreshold t s
  | .vbatCheck millivolts => Sys2Proof.Machine.execVbatCheck millivolts s
  | .aoDomainReset => Sys2Proof.Machine.execAoDomainReset s
  | .rtcOscStop => Sys2Proof.Machine.execRtcOscStop s
  | .rtcOscResume => Sys2Proof.Machine.execRtcOscResume s
  | .rtcSecond => Sys2Proof.Machine.execRtcSecond s
  | .rtcAlignment => Sys2Proof.Machine.execRtcAlignment s
  | .rtcTrimUpdate offset => Sys2Proof.Machine.execRtcTrimUpdate offset s
  | .leapApplied => Sys2Proof.Machine.execLeapApplied s
  | .tick => Sys2Proof.Machine.execTick s
  | .lineFrameReceived p f => Sys2Proof.Machine.execLineFrameReceived p f s
  | .losDeclare p => Sys2Proof.Machine.execLosDeclare p s
  | .losClear p => Sys2Proof.Machine.execLosClear p s
  | .sdWindowEnd p => Sys2Proof.Machine.execSdWindowEnd p s
  | .ulsClear p => Sys2Proof.Machine.execUlsClear p s
  | .timAcceptTimeout p => Sys2Proof.Machine.execTimAcceptTimeout p s
  | .rdiHoldEnd p => Sys2Proof.Machine.execRdiHoldEnd p s
  | .portUp p => Sys2Proof.Machine.execPortUp p s
  | .trainingTimeout p => Sys2Proof.Machine.execTrainingTimeout p s
  | .tinderTrainTimeout p => Sys2Proof.Machine.execTinderTrainTimeout p s
  | .holdOffExpiry tgt member => Sys2Proof.Machine.execHoldOffExpiry tgt member s
  | .wtrExpiry tgt => Sys2Proof.Machine.execWtrExpiry tgt s
  | .protFailTimeout g => Sys2Proof.Machine.execProtFailTimeout g s
  | .planeTestPassed k => Sys2Proof.Machine.execPlaneTestPassed k s
  | .planeDrained k => Sys2Proof.Machine.execPlaneDrained k s
  | .bankScrub found => Sys2Proof.Machine.execBankScrub found s
  | .mirroringDone => Sys2Proof.Machine.execMirroringDone s
  | .solverJobDone core => Sys2Proof.Machine.execSolverJobDone core s
  | .solverTimeLimit => Sys2Proof.Machine.execSolverTimeLimit s
  | .rawMapVerified => Sys2Proof.Machine.execRawMapVerified s
  | .swapLatch => Sys2Proof.Machine.execSwapLatch s
  | .swapTakesPlace => Sys2Proof.Machine.execSwapTakesPlace s
  | .swapComplete => Sys2Proof.Machine.execSwapComplete s
  | .persistDone => Sys2Proof.Machine.execPersistDone s
  | .solverCoreFailure k => Sys2Proof.Machine.execSolverCoreFailure k s
  | .solverCoreRepair k => Sys2Proof.Machine.execSolverCoreRepair k s
  | .recipeCheckDone => Sys2Proof.Machine.execRecipeCheckDone s
  | .recipeSwapTakesPlace => Sys2Proof.Machine.execRecipeSwapTakesPlace s
  | .recipePersistDone => Sys2Proof.Machine.execRecipePersistDone s
  | .triggerCheckDone => Sys2Proof.Machine.execTriggerCheckDone s
  | .triggerSwapTakesPlace => Sys2Proof.Machine.execTriggerSwapTakesPlace s
  | .triggerPersistDone => Sys2Proof.Machine.execTriggerPersistDone s
  | .dwellEnd e => Sys2Proof.Machine.execDwellEnd e s
  | .reportIntervalEnd e => Sys2Proof.Machine.execReportIntervalEnd e s
  | .tinderDwellEnd e => Sys2Proof.Machine.execTinderDwellEnd e s
  | .recordBufferTimeout => Sys2Proof.Machine.execRecordBufferTimeout s
  | .sparkArrival e => Sys2Proof.Machine.execSparkArrival e s
  | .engineFault e => Sys2Proof.Machine.execEngineFault e s
  | .spareInService e => Sys2Proof.Machine.execSpareInService e s
  | .clusterLoadingDone c => Sys2Proof.Machine.execClusterLoadingDone c s
  | .sparkDecision t => Sys2Proof.Machine.execSparkDecision t s
  | .trigInEdge k => Sys2Proof.Machine.execTrigInEdge k s
  | .pinDecision t => Sys2Proof.Machine.execPinDecision t s
  | .hostTriggerDecision t => Sys2Proof.Machine.execHostTriggerDecision t s
  | .trigOutPulse o => Sys2Proof.Machine.execTrigOutPulse o s
  | .rearmEnd t => Sys2Proof.Machine.execRearmEnd t s
  | .nvmeCommandComplete cid => Sys2Proof.Machine.execNvmeCommandComplete cid s
  | .driveWriteError d => Sys2Proof.Machine.execDriveWriteError d s
  | .mirrorRebuildDone n => Sys2Proof.Machine.execMirrorRebuildDone n s
  | .indexCheckpoint n => Sys2Proof.Machine.execIndexCheckpoint n s
  | .refPulse k m => Sys2Proof.Machine.execRefPulse k m s
  | .refActivityLost k => Sys2Proof.Machine.execRefActivityLost k s
  | .refActivityPresent k => Sys2Proof.Machine.execRefActivityPresent k s
  | .refGateEnd k offset => Sys2Proof.Machine.execRefGateEnd k offset s
  | .refQualified k => Sys2Proof.Machine.execRefQualified k s
  | .holdOscQualified => Sys2Proof.Machine.execHoldOscQualified s
  | .holdOscGateEnd ppt => Sys2Proof.Machine.execHoldOscGateEnd ppt s
  | .phaseDetectorUpdate phase reference => Sys2Proof.Machine.execPhaseDetectorUpdate phase reference s
  | .holdoverLimitExpiry => Sys2Proof.Machine.execHoldoverLimitExpiry s
  | .dcoWatchdogExpiry => Sys2Proof.Machine.execDcoWatchdogExpiry s
  | .tickStepTimeout => Sys2Proof.Machine.execTickStepTimeout s
  | .outputChangeApplied o => Sys2Proof.Machine.execOutputChangeApplied o s
  | .tickWordReceived input levels arrival => Sys2Proof.Machine.execTickWordReceived input levels arrival s
  | .tickWordMissing => Sys2Proof.Machine.execTickWordMissing s
  | .flywheelDeclare => Sys2Proof.Machine.execFlywheelDeclare s
  | .cascMessageReceived p m => Sys2Proof.Machine.execCascMessageReceived p m s
  | .masterStartTimeout => Sys2Proof.Machine.execMasterStartTimeout s
  | .cascPrepareTimeout => Sys2Proof.Machine.execCascPrepareTimeout s
  | .cascDecisionCheck => Sys2Proof.Machine.execCascDecisionCheck s
  | .cascCompleteTimeout => Sys2Proof.Machine.execCascCompleteTimeout s
  | .tickPathLoss => Sys2Proof.Machine.execTickPathLoss s
  | .channelPathLoss => Sys2Proof.Machine.execChannelPathLoss s
  | .arbSelDecision sel => Sys2Proof.Machine.execArbSelDecision sel s
  | .roleSwapPeriod => Sys2Proof.Machine.execRoleSwapPeriod s
  | .handoverTick => Sys2Proof.Machine.execHandoverTick s
  | .keyMessageReceived p m => Sys2Proof.Machine.execKeyMessageReceived p m s
  | .agreementTimeout p => Sys2Proof.Machine.execAgreementTimeout p s
  | .agreementRetry p => Sys2Proof.Machine.execAgreementRetry p s
  | .keyExhausted p => Sys2Proof.Machine.execKeyExhausted p s
  | .oldKeyErase p => Sys2Proof.Machine.execOldKeyErase p s
  | .nonceExpiry nonce => Sys2Proof.Machine.execNonceExpiry nonce s
  | .watchdogWrite core => Sys2Proof.Machine.execWatchdogWrite core s
  | .watchdogExpiry core => Sys2Proof.Machine.execWatchdogExpiry core s
  | .beatPathLoss core path => Sys2Proof.Machine.execBeatPathLoss core path s
  | .faultReport kind => Sys2Proof.Machine.execFaultReport kind s
  | .arbiterGrant => Sys2Proof.Machine.execArbiterGrant s
  | .arbiterProbeAnswer => Sys2Proof.Machine.execArbiterProbeAnswer s
  | .arbiterSilentTimeout => Sys2Proof.Machine.execArbiterSilentTimeout s
  | .mgmtOwnerRelease m => Sys2Proof.Machine.execMgmtOwnerRelease m s
  | .coreRepower core => Sys2Proof.Machine.execCoreRepower core s
  | .coreBooted core passed => Sys2Proof.Machine.execCoreBooted core passed s
  | .coreStandbyReached core => Sys2Proof.Machine.execCoreStandbyReached core s
  | .periodicRoleSwap => Sys2Proof.Machine.execPeriodicRoleSwap s
  | .activationResyncTimeout => Sys2Proof.Machine.execActivationResyncTimeout s
  | .eflashErase m sector => Sys2Proof.Machine.execEflashErase m sector s
  | .eflashProgram m page data => Sys2Proof.Machine.execEflashProgram m page data s
  | .eflashEraseDone o => Sys2Proof.Machine.execEflashEraseDone o s
  | .eflashProgramDone o => Sys2Proof.Machine.execEflashProgramDone o s
  | .fabricAccess accesses => Sys2Proof.Machine.execFabricAccess accesses s
  | .bridgeTimeout a => Sys2Proof.Machine.execBridgeTimeout a s
  | .patrolScrub found => Sys2Proof.Machine.execPatrolScrub found s
  | .eventFlush => Sys2Proof.Machine.execEventFlush s
  | .eventNRelease b => Sys2Proof.Machine.execEventNRelease b s
  | .logFreezeExpiry => Sys2Proof.Machine.execLogFreezeExpiry s
  | .domainTransitionDone d => Sys2Proof.Machine.execDomainTransitionDone d s
  | .farEndWake p => Sys2Proof.Machine.execFarEndWake p s
  | .domainWaitEvent d => Sys2Proof.Machine.execDomainWaitEvent d s
  | .perfSnapshotLatch => Sys2Proof.Machine.execPerfSnapshotLatch s
  | .sampleTaken x => Sys2Proof.Machine.execSampleTaken x s
  | .sampleJobTimeout core => Sys2Proof.Machine.execSampleJobTimeout core s
  | .gpioWindowEnd pin edges level => Sys2Proof.Machine.execGpioWindowEnd pin edges level s
  | .holdOscActivityLost => Sys2Proof.Machine.execHoldOscActivityLost s
  | .beatPathReturn core path => Sys2Proof.Machine.execBeatPathReturn core path s
  | .hostDmaDone c token data => Sys2Proof.Machine.execHostDmaDone c token data s
  | .securityCheckDone x => Sys2Proof.Machine.execSecurityCheckDone x s
  | .jtagMailboxRequest x => Sys2Proof.Machine.execJtagMailboxRequest x s

end Sys2Proof.Machine
end

