-- ==== Sys2Proof/Safety.lean ====
section
/-! DEFINITION. What holds of every state of a run, and the terms in which the statements speak of a request: when the
device admits it, how it has been answered, and what it has left alone. -/
namespace Sys2Proof.Machine

/-- A memory of the control fabric is in its canonical form. -/
abbrev Memory.wf (m : Cells) : Prop := cellsWf ramDefault m = true

/-- The invariant that every step keeps: the memories of the control fabric and of the eFlash are in their canonical form,
and no response is kept back outside a service gap (R431). -/
structure State.Inv (s : State) : Prop where
  fabric : Memory.wf s.fabric.cells
  flash  : cellsWf flashDefault s.flash.cells = true
  outbox : s.mgmt.serviceGap = false → s.host.outbox = []

/-- The channel takes the request, and none of steps 1 to 10 of R319 stops it; the device's service admits the command
(R313, R319, R320, R322, R335, R336, R411, R597). -/
structure State.Admits (s : State) (k : Command) (r : Request) : Prop where
  takes    : s.takes r.channel = true
  token    : r.token ≠ 0
  fresh    : (s.chan r.channel).recorded r.token = none
  opened   : k.opcode = 0x0101 ∨
    ((s.chan r.channel).mode = .opened ∧ r.version = (s.chan r.channel).version ∧ k.since ≤ r.version)
  header   : r.flags &&& (if k.persist then 0xFFF9 else 0xFFFB) = 0 ∧ r.reserved = 0
  length   : r.payloadLength.toNat = k.length ∧ r.payloadLength ≤ 4064 ∧ (r.descCount = 0 ↔ k.desc = false) ∧ r.descCount ≤ 4096
  cls      : k.cls.admits r.channel = true
  capacity : s.retireJournal.capacity r = true
  service  : (k.full = true → s.host.service ≠ 1) ∧ (3 ≤ s.host.service → k.always = true)

/-- The state against which the device checks an admitted request: the effects of the commands accepted before it are in
place. -/
def State.judged (r : Request) (s : State) : State := (s.cleared r).ahead

/-- The request's token is recorded with a status, a stage and results (R317, R319, R324). -/
def State.Recorded (t : State) (r : Request) (st : Status) (stage : BitVec 8) (results : List Byte) : Prop :=
  ∃ e, (t.chan r.channel).recorded r.token = some e ∧ e.status = st ∧ e.stage = stage ∧ e.results = results

/-- The host port without what the answers to requests change in it. -/
def HostState.still (h : HostState) : HostState :=
  { h with channels := Vector.replicate 8 .reset, waiting := [], outbox := [], nextTicket := 0, busyBurst := Vector.replicate 8 false
           journal := [] }

/-- The step has changed only the channels and the journal, the recorder, the response rings, the effects that wait for the
next tick and the count of free values. -/
structure State.Untouched (s t : State) : Prop where
  pending : t.pending = s.pending
  clock   : t.clock = s.clock
  host    : t.host.still = s.host.still
  rtc     : t.rtc = s.rtc
  flash   : t.flash = s.flash
  ports   : t.ports = s.ports
  map     : t.map = s.map
  prot    : t.prot = s.prot
  dpll    : t.dpll = s.dpll
  casc    : t.casc = s.casc
  mgmt    : t.mgmt = s.mgmt
  sec     : t.sec = s.sec
  ember   : t.ember = s.ember
  cap     : t.cap = s.cap
  pwr     : t.pwr = s.pwr
  rst     : t.rst = s.rst
  bist    : t.bist = s.bist
  perf    : t.perf = s.perf
  gpio    : t.gpio = s.gpio

/-- The answer of an accepted command (R336, R337): its first response is recorded, nothing else of the device has changed, and
what the command does at the next tick, when it does anything then, waits. -/
structure State.Answers (s t : State) (r : Request) (st : Status) (results : List Byte) (later : Option (BitVec 16)) : Prop where
  recorded : t.Recorded r st 0 results
  rest     : s.Untouched t
  later    : t.deferred = s.deferred ++ (match later with | some op => [{ opcode := op, request := r, data := [] }] | none => [])

/-- A command that was accepted before has ended: its completion is recorded with a status and its results, padded to the
length that its row gives (R317, R343). -/
def State.Ended (s t : State) (c : CommandRef) (st : Status) (results : List Byte) : Prop :=
  ∀ e, (s.chan c.channel).recorded c.token = some e → ∃ e', (t.chan c.channel).recorded c.token = some e' ∧ e'.status = st
    ∧ e'.stage = stageCompletion ∧ e'.results = padTo e.results.length results

/-- A command that names a buffer waits for its descriptor list; nothing else has happened (R318, R319 step 11). -/
structure State.AwaitsList (s t : State) (k : Command) (r : Request) : Prop where
  waiting  : t.host.waiting = s.host.waiting
    ++ [{ opcode := k.opcode, request := r, wait := .descriptors, accepted := false, ring := false }]
  rest     : s.Untouched t
  later    : t.deferred = s.deferred
  records  : ∀ j : Fin 8, (t.chan j).window = (s.chan j).window

/-- A refusal by a command's own checks (R319 step 12): it is recorded with its status, its DETAIL and its results, and it has no
effect. -/
structure State.Refuses (s t : State) (r : Request) (st : Status) (detail : Nat) (results : List Byte) : Prop where
  recorded : ∃ e, (t.chan r.channel).recorded r.token = some e ∧ e.status = st ∧ e.stage = 0 ∧ e.detail = BitVec.ofNat 32 detail
    ∧ e.results = results
  rest     : s.Untouched t
  later    : t.deferred = s.deferred

/-- The host has rung no request doorbell that the device has not honoured, and may read and write host memory (R304, R313). -/
def State.ringsQuiet (s : State) : Prop := s.host.busMaster = true ∧ ∀ j : Fin 8, (s.chan j).rungPi = (s.chan j).reqCi

/-- The descriptor list `ds` that arrives for a request is well formed and gives a buffer of `n` bytes, no other doorbell is
open, and nothing else waits under the request's token (R313, R318, R319 step 11). -/
structure State.Lists (s : State) (r : Request) (ds : List Byte) (n : Nat) : Prop where
  quiet : s.ringsQuiet
  idle  : s.host.outbox = []
  apart : ∀ w ∈ s.host.waiting, w.request.channel = r.channel → w.request.token ≠ r.token
  size  : ds.length = 16 * r.descCount.toNat
  list  : descriptorCheck r ds = .ok n

/-- The command waits for a transfer of its buffer (R318). -/
def State.AwaitsBuffer (s t : State) (k : Command) (r : Request) (w : DmaWait) (accepted : Bool) : Prop :=
  t.host.waiting = s.host.waiting ++ [{ opcode := k.opcode, request := r, wait := w, accepted := accepted, ring := false }]

/-- The command is accepted, and ends with OK and its results once its buffer has been written (R336, R375). -/
structure State.Returns (s t : State) (k : Command) (r : Request) (bs results : List Byte) : Prop where
  recorded : t.Recorded r .accepted 0 (zeros k.results)
  rest     : s.Untouched t
  later    : t.deferred = s.deferred
  buffer   : s.AwaitsBuffer t k r (.output bs results) true

/-- The parts of the state that a frame speaks of. -/
inductive Part where
  | clock | host | requests | channels | recorder | rtc | flash | memory | ports | map | prot | dpll | casc | mgmt | sec | ember | cap
  | pwr | rst | bist | perf | gpio | deferred | fresh
  deriving DecidableEq, Repr

/-- The address lies in a response ring of the mailbox window (R312, R508). -/
def inResponseRing (a : Nat) : Prop :=
  ∃ c : Fin 8, responseAddr c.val 0 ≤ a ∧ a < responseAddr c.val 0 + 0x40000

/-- What the posting of responses leaves of a channel. -/
structure Channel.Same (x y : Channel) : Prop where
  window  : y.window = x.window
  left    : y.left = x.left
  mode    : y.mode = x.mode
  version : y.version = x.version
  reqPi   : y.reqPi = x.reqPi
  reqCi   : y.reqCi = x.reqCi
  rspCi   : y.rspCi = x.rspCi
  rungPi  : y.rungPi = x.rungPi

/-- What the production of records leaves of the recorder. -/
structure EventState.Same (x y : EventState) : Prop where
  mask        : y.mask = x.mask
  queueCi     : y.queueCi = x.queueCi
  queueBaseLo : y.queueBaseLo = x.queueBaseLo
  queueBaseHi : y.queueBaseHi = x.queueBaseHi
  queueEnable : y.queueEnable = x.queueEnable
  routes      : y.routes = x.routes
  log         : y.log = x.log
  nextIndex   : y.nextIndex = x.nextIndex
  holds       : y.holds = x.holds
  holdsUntil  : y.holdsUntil = x.holdsUntil
  frozenUntil : y.frozenUntil = x.frozenUntil
  retentionOk : y.retentionOk = x.retentionOk

/-- A part of the state is the same after a step: of the host port what is not a channel's or a waiting request's, of the
channels and the recorder what posted responses and produced records leave alone, of the control fabric every byte outside the
response rings. -/
def Part.Same (s t : State) : Part → Prop
  | .clock => t.clock = s.clock
  | .host => t.host.still = s.host.still
  | .requests => t.host.waiting = s.host.waiting ∧ t.host.nextTicket = s.host.nextTicket
  | .channels => ∀ c : Fin 8, (s.chan c).Same (t.chan c)
  | .recorder => s.ev.Same t.ev
  | .rtc => t.rtc = s.rtc
  | .flash => t.flash = s.flash
  | .memory => Memory.wf s.fabric.cells → ∀ a, ¬ inResponseRing a → memGet ramDefault t.fabric.cells a = memGet ramDefault s.fabric.cells a
  | .ports => t.ports = s.ports
  | .map => t.map = s.map
  | .prot => t.prot = s.prot
  | .dpll => t.dpll = s.dpll
  | .casc => t.casc = s.casc
  | .mgmt => t.mgmt = s.mgmt
  | .sec => t.sec = s.sec
  | .ember => t.ember = s.ember
  | .cap => t.cap = s.cap
  | .pwr => t.pwr = s.pwr
  | .rst => t.rst = s.rst
  | .bist => t.bist = s.bist
  | .perf => t.perf = s.perf
  | .gpio => t.gpio = s.gpio
  | .deferred => t.deferred = s.deferred
  | .fresh => t.fresh = s.fresh

/-- The frame of a step: the queue, and every part that is not listed, are as before. -/
def State.ChangesOnly (s t : State) (parts : List Part) : Prop := t.pending = s.pending ∧ ∀ p, p ∉ parts → Part.Same s t p

/-- The command and the request of a row that is a host command. -/
def hostCommand : Instr → Option (Command × Request)
  | .channelOpen r => some (cmdChannelOpen, r)
  | .deviceInfo r => some (cmdDeviceInfo, r)
  | .recoveryRead r => some (cmdRecoveryRead, r)
  | .recoveryAck r => some (cmdRecoveryAck, r)
  | .jobStatus r => some (cmdJobStatus, r)
  | .warmReset r => some (cmdWarmReset, r)
  | .portEnable r => some (cmdPortEnable, r)
  | .portDisable r => some (cmdPortDisable, r)
  | .portStop r => some (cmdPortStop, r)
  | .portRestart r => some (cmdPortRestart, r)
  | .portSet r => some (cmdPortSet, r)
  | .portFormats r => some (cmdPortFormats, r)
  | .portBundles r => some (cmdPortBundles, r)
  | .portStatus r => some (cmdPortStatus, r)
  | .portCounters r => some (cmdPortCounters, r)
  | .portStatusAll r => some (cmdPortStatusAll, r)
  | .mapSolve r => some (cmdMapSolve, r)
  | .mapRawLoad r => some (cmdMapRawLoad, r)
  | .mapCancelJob r => some (cmdMapCancelJob, r)
  | .mapCancelBank r => some (cmdMapCancelBank, r)
  | .mapSwap r => some (cmdMapSwap, r)
  | .mapSwapCancel r => some (cmdMapSwapCancel, r)
  | .mapRead r => some (cmdMapRead, r)
  | .mapStatus r => some (cmdMapStatus, r)
  | .mapPersist r => some (cmdMapPersist, r)
  | .planeSet r => some (cmdPlaneSet, r)
  | .groupDeclare r => some (cmdGroupDeclare, r)
  | .groupModify r => some (cmdGroupModify, r)
  | .groupDelete r => some (cmdGroupDelete, r)
  | .protCommand r => some (cmdProtCommand, r)
  | .pairSettings r => some (cmdPairSettings, r)
  | .protStatus r => some (cmdProtStatus, r)
  | .refDeclare r => some (cmdRefDeclare, r)
  | .timingSet r => some (cmdTimingSet, r)
  | .refForce r => some (cmdRefForce, r)
  | .loopOpen r => some (cmdLoopOpen, r)
  | .loopClose r => some (cmdLoopClose, r)
  | .dcoWrite r => some (cmdDcoWrite, r)
  | .tickStep r => some (cmdTickStep, r)
  | .outputSet r => some (cmdOutputSet, r)
  | .timingStatus r => some (cmdTimingStatus, r)
  | .cascDeclare r => some (cmdCascDeclare, r)
  | .cascLeave r => some (cmdCascLeave, r)
  | .cascStage r => some (cmdCascStage, r)
  | .cascSwap r => some (cmdCascSwap, r)
  | .cascAbort r => some (cmdCascAbort, r)
  | .cascHandover r => some (cmdCascHandover, r)
  | .cascRelease r => some (cmdCascRelease, r)
  | .cascStatus r => some (cmdCascStatus, r)
  | .recipeLoad r => some (cmdRecipeLoad, r)
  | .recipeSwap r => some (cmdRecipeSwap, r)
  | .recipeCancel r => some (cmdRecipeCancel, r)
  | .recipeRead r => some (cmdRecipeRead, r)
  | .recordPost r => some (cmdRecordPost, r)
  | .recordFlush r => some (cmdRecordFlush, r)
  | .engineImageLoad r => some (cmdEngineImageLoad, r)
  | .clusterStop r => some (cmdClusterStop, r)
  | .clusterRestart r => some (cmdClusterRestart, r)
  | .clusterStatus r => some (cmdClusterStatus, r)
  | .engineCounters r => some (cmdEngineCounters, r)
  | .triggerLoad r => some (cmdTriggerLoad, r)
  | .triggerSwap r => some (cmdTriggerSwap, r)
  | .triggerCancel r => some (cmdTriggerCancel, r)
  | .triggerRead r => some (cmdTriggerRead, r)
  | .channelArm r => some (cmdChannelArm, r)
  | .hostTrigger r => some (cmdHostTrigger, r)
  | .captureAbort r => some (cmdCaptureAbort, r)
  | .triggerStatus r => some (cmdTriggerStatus, r)
  | .captureStatus r => some (cmdCaptureStatus, r)
  | .driveDeclare r => some (cmdDriveDeclare, r)
  | .namespaceDeclare r => some (cmdNamespaceDeclare, r)
  | .namespaceDelete r => some (cmdNamespaceDelete, r)
  | .storeStatus r => some (cmdStoreStatus, r)
  | .objectList r => some (cmdObjectList, r)
  | .objectRead r => some (cmdObjectRead, r)
  | .objectPin r => some (cmdObjectPin, r)
  | .rtcRead r => some (cmdRtcRead, r)
  | .rtcSet r => some (cmdRtcSet, r)
  | .leapSet r => some (cmdLeapSet, r)
  | .logStatus r => some (cmdLogStatus, r)
  | .logFreeze r => some (cmdLogFreeze, r)
  | .logRead r => some (cmdLogRead, r)
  | .logClear r => some (cmdLogClear, r)
  | .evtRoute r => some (cmdEvtRoute, r)
  | .secNonce r => some (cmdSecNonce, r)
  | .certRead r => some (cmdCertRead, r)
  | .attest r => some (cmdAttest, r)
  | .ownerTransfer r => some (cmdOwnerTransfer, r)
  | .debugUnlock r => some (cmdDebugUnlock, r)
  | .linkRekey r => some (cmdLinkRekey, r)
  | .secStatus r => some (cmdSecStatus, r)
  | .bistRun r => some (cmdBistRun, r)
  | .bistResults r => some (cmdBistResults, r)
  | .perfSelect r => some (cmdPerfSelect, r)
  | .perfSnapshot r => some (cmdPerfSnapshot, r)
  | .perfSample r => some (cmdPerfSample, r)
  | .domainSet r => some (cmdDomainSet, r)
  | .powerStatus r => some (cmdPowerStatus, r)
  | .shutdown r => some (cmdShutdown, r)
  | .fwStage r => some (cmdFwStage, r)
  | .fwActivate r => some (cmdFwActivate, r)
  | .mgmtRole r => some (cmdMgmtRole, r)
  | .fwStatus r => some (cmdFwStatus, r)
  | _ => none

/-- The rows that may write or erase bytes of the control fabric outside the response rings, or bytes of the eFlash. -/
def writesBytes : Instr → Bool
  | .hostPortReset | .hotReset | .flr | .fabricAccess _ | .bridgeTimeout _ | .patrolScrub _ | .eflashErase _ _ | .eflashProgram _ _ _
  | .eflashEraseDone _ | .eflashProgramDone _ | .porNAssert _ | .coldRstNAssert _ | .domainTransitionDone _ | .bistSliceDone _
  | .bistSliceTimeout | .shutdownSequence => true
  | _ => false

/-- The rows that move the clock: the tick, and the inputs that reset or start the device. -/
def movesClock : Instr → Bool
  | .tick | .porNAssert _ | .porNRelease _ _ | .coldRstNAssert _ | .coldRstNRelease _ => true
  | _ => false

/-- A response of `bs` leaves on channel `c`: into the next entry of its ring, or behind the responses that are held (R313,
R314). -/
structure State.Posts (s t : State) (c : Fin 8) (bs : List Byte) : Prop where
  ring : (s.chan c).mustHold = false → (t.chan c).rspPi = (s.chan c).rspPi + 1 ∧ (t.chan c).held = []
    ∧ memRead ramDefault t.fabric.cells (responseAddr c.val ((s.chan c).rspPi.toNat % 64)) bs.length = bs
  held : (s.chan c).mustHold = true → (t.chan c).rspPi = (s.chan c).rspPi ∧ ∃ x : Response, x.bytes = bs ∧ (t.chan c).held = (s.chan c).held ++ [x]

/-- No token table has changed: a request has been answered, and nothing of it is recorded (R319, R320). -/
structure State.AnswersOnly (s t : State) : Prop where
  rest    : s.Untouched t
  later   : t.deferred = s.deferred
  records : ∀ j : Fin 8, (t.chan j).window = (s.chan j).window


end Sys2Proof.Machine
end

