-- ==== Sys2Proof/Certificates/Slice0/Obligations.lean ====
section
/-! DEFINITION. The statements for the provers: what the commands of the block do, what they leave alone, and what every step
keeps. -/

open Sys2Proof Sys2Proof.Machine

/-- The events of the always-on domain change its registers and nothing else (R491, R492, R493, R494, R495, R497, R500, R501).
-/
def Obligations.AlwaysOnDomainEventsTakeEffect : Prop := ∀ s : State,
  (∃ t, exec .rtcSecond s = .next t ∧ s.ChangesOnly t [.rtc]
    ∧ t.rtc = { s.rtc with seconds := s.rtc.seconds + 1, subSeconds := 0, secondAt := s.clock.tick }) ∧
  (∀ n, s.timescaleSecond = some n → s.traceable = true → ∃ t, exec .rtcAlignment s = .next t ∧ s.ChangesOnly t [.rtc]
    ∧ t.rtc.seconds = BitVec.ofNat 40 n ∧ t.rtc.subSeconds = 0 ∧ t.rtc.valid = true ∧ t.rtc.oscStopped = false
    ∧ t.rtc.trim = s.rtc.trim) ∧
  ((s.timescaleSecond = none ∨ s.traceable = false) → ∃ t, exec .rtcAlignment s = .next t ∧ s.ChangesOnly t []) ∧
  (∃ t, exec .rtcOscStop s = .next t ∧ s.ChangesOnly t [.rtc]
    ∧ t.rtc = { s.rtc with oscStopped := true, valid := false, crystalDown := true }) ∧
  (∃ t, exec .rtcOscResume s = .next t ∧ s.ChangesOnly t [.rtc] ∧ t.rtc = { s.rtc with crystalDown := false }) ∧
  (∀ offset : Int, s.traceable = true → s.rtc.crystalDown = false → ∃ t, exec (.rtcTrimUpdate offset) s = .next t
    ∧ s.ChangesOnly t [.rtc] ∧ t.rtc = { s.rtc with trim := BitVec.ofInt 32 (max (-2000) (min 2000 (-offset))), settingsOk := true }) ∧
  (∀ mv : Nat, ∃ t, exec (.vbatCheck mv) s = .next t ∧ s.ChangesOnly t [.rtc]
    ∧ (mv < 2200 → t.rtc = { s.rtc with vbatLow := true }) ∧ (2300 < mv → t.rtc = { s.rtc with vbatLow := false })
    ∧ (2200 ≤ mv → mv ≤ 2300 → t.rtc = s.rtc)) ∧
  (∃ t, exec .aoDomainReset s = .next t ∧ s.ChangesOnly t [.rtc, .recorder] ∧ t.rtc.seconds = 0 ∧ t.rtc.valid = false
    ∧ t.rtc.oscStopped = true ∧ t.rtc.taiUtc = 0 ∧ t.rtc.leap = 0 ∧ t.rtc.trim = 0 ∧ t.ev.retentionOk = false) ∧
  (s.rtc.leap ≠ 0 → s.rtc.leapTai.toNat ≤ s.rtc.seconds.toNat → ∃ t, exec .leapApplied s = .next t ∧ s.ChangesOnly t [.rtc]
    ∧ t.rtc = { s.rtc with taiUtc := BitVec.ofInt 16 s.rtc.postLeap, leap := 0, leapTai := 0 })

/-- Semaphores are taken when free, released by their owner, and left alone by anyone else (R330, R331, R442). -/
def Obligations.SemaphoreCommandsFollowTheirOwner : Prop := ∀ s : State,
  (∀ (path : SemPath) (n : Fin 8) (tag : BitVec 16), s.host.sems[n].held = false →
    ∃ t, exec (.semAcquire path n tag) s = .next t ∧ s.ChangesOnly t [.host] ∧ t.host.still = { s.host with
      sems := s.host.sems.set n { held := true, abandoned := s.host.sems[n].abandoned, path := pathCode path, tag := tag } }.still) ∧
  (∀ (path : SemPath) (n : Fin 8) (tag : BitVec 16), s.host.sems[n].held = true →
    ∃ t, exec (.semAcquire path n tag) s = .next t ∧ s.ChangesOnly t []) ∧
  (∀ (path : SemPath) (n : Fin 8) (tag : BitVec 16), s.host.sems[n].held = true → s.host.sems[n].path = pathCode path →
    s.host.sems[n].tag = tag → ∃ t, exec (.semRelease path n tag) s = .next t ∧ s.ChangesOnly t [.host]
      ∧ t.host.still = { s.host with sems := s.host.sems.set n { held := false, abandoned := false, path := 0, tag := 0 } }.still) ∧
  (∀ (path : SemPath) (n : Fin 8) (tag : BitVec 16),
    (s.host.sems[n].held = false ∨ s.host.sems[n].path ≠ pathCode path ∨ s.host.sems[n].tag ≠ tag) →
    ∃ t, exec (.semRelease path n tag) s = .next t ∧ s.ChangesOnly t []) ∧
  (∀ (core : Fin 4) (n : Fin 32) (tag : BitVec 16), s.host.semMs[n].held = false →
    ∃ t, exec (.semMAcquire core n tag) s = .next t ∧ s.ChangesOnly t [.host] ∧ t.host.still = { s.host with
      semMs := s.host.semMs.set n { held := true, abandoned := s.host.semMs[n].abandoned, owner := BitVec.ofNat 3 (core.val + 1), tag := tag } }.still) ∧
  (∀ (core : Fin 4) (n : Fin 32) (tag : BitVec 16), s.host.semMs[n].held = true →
    ∃ t, exec (.semMAcquire core n tag) s = .next t ∧ s.ChangesOnly t []) ∧
  (∀ (core : Fin 4) (n : Fin 32), s.host.semMs[n].held = true → s.host.semMs[n].owner.toNat = core.val + 1 →
    ∃ t, exec (.semMRelease core n s.host.semMs[n].tag) s = .next t ∧ s.ChangesOnly t [.host]
      ∧ t.host.still = { s.host with semMs := s.host.semMs.set n { held := false, abandoned := false, owner := 0, tag := 0 } }.still) ∧
  (∀ (core : Fin 4) (n : Fin 32) (tag : BitVec 16),
    (s.host.semMs[n].held = false ∨ s.host.semMs[n].owner.toNat ≠ core.val + 1) →
    ∃ t, exec (.semMRelease core n tag) s = .next t ∧ s.ChangesOnly t [])

/-- Heartbeats, SET_WINS_CNT and BAR0_ERR take the values that their rules give (R5, R305, R308, R312, R329, R332). -/
def Obligations.HeartbeatAndErrorRegistersFollowTheirRules : Prop := ∀ s : State,
  (∀ v, v ≠ s.host.hostHeartbeat.value → ∃ t, exec (.hostHeartbeatWrite v) s = .next t ∧ s.ChangesOnly t [.host]
    ∧ t.host.still = { s.host with hostHeartbeat := { s.host.hostHeartbeat with value := v, since := s.clock.tick, lost := false } }.still) ∧
  (∃ t, exec (.hostHeartbeatWrite s.host.hostHeartbeat.value) s = .next t ∧ s.ChangesOnly t []) ∧
  (s.host.hostHeartbeat.timeoutMs ≠ 0 → s.host.hostHeartbeat.lost = false →
    s.host.hostHeartbeat.since + 2000 * s.host.hostHeartbeat.timeoutMs.toNat ≤ s.clock.tick →
    ∃ t, exec .hostHbTimeoutExpiry s = .next t ∧ s.ChangesOnly t [.host]
      ∧ t.host.still = { s.host with hostHeartbeat := { s.host.hostHeartbeat with lost := true } }.still) ∧
  (∀ v, v ≠ s.host.bmcHeartbeat.value → ∃ t, exec (.bmcHeartbeatWrite v) s = .next t ∧ s.ChangesOnly t [.host]
    ∧ t.host.still = { s.host with bmcHeartbeat := { s.host.bmcHeartbeat with value := v, since := s.clock.tick, lost := false } }.still) ∧
  (s.host.bmcHeartbeat.timeoutMs ≠ 0 → s.host.bmcHeartbeat.lost = false →
    s.host.bmcHeartbeat.since + 2000 * s.host.bmcHeartbeat.timeoutMs.toNat ≤ s.clock.tick →
    ∃ t, exec .bmcHbTimeoutExpiry s = .next t ∧ s.ChangesOnly t [.host]
      ∧ t.host.still = { s.host with bmcHeartbeat := { s.host.bmcHeartbeat with lost := true } }.still) ∧
  (∀ same : BitVec 32, ∃ t, exec (.setWinsCntRead same) s = .next t ∧ s.ChangesOnly t [.host]
    ∧ t.host.still = { s.host with setWins := same, lastRead := leBytes 4 s.host.setWins.toNat }.still) ∧
  (∀ (v : BitVec 32) (hw : BitVec 3), ∃ t, exec (.bar0ErrClear v hw) s = .next t ∧ s.ChangesOnly t [.host]
    ∧ t.host.still = { s.host with
        bar0Err := (s.host.bar0Err &&& ~~~ v.setWidth 3) ||| hw
        setWins := BitVec.ofNat 32 (min (s.host.setWins.toNat + countOnes (v.setWidth 3 &&& hw)) 0xFFFFFFFF) }.still) ∧
  (∀ a : Bar0Access, (a.bytes.val ≠ 4 ∧ a.bytes.val ≠ 8) ∨ a.offset.toNat % 4 ≠ 0 →
    ∃ t, exec (.bar0BadAccess a) s = .next t ∧ s.ChangesOnly t [.host] ∧ t.host.bar0Err = s.host.bar0Err ||| 1
      ∧ (a.write = none → t.host.lastRead = zeros a.bytes.val)) ∧
  (∀ a : Bar0Access, a.bytes.val = 4 ∨ (a.bytes.val = 8 ∧ s.bar0 (a.offset.toNat + 4) = none) → a.offset.toNat % 4 = 0 →
    s.bar0 a.offset.toNat = none →
    ∃ t, exec (.bar0BadAccess a) s = .next t ∧ s.ChangesOnly t [.host] ∧ t.host.bar0Err = s.host.bar0Err ||| 2
      ∧ (a.write = none → t.host.lastRead = zeros a.bytes.val)) ∧
  (∀ (c : Fin 8) (entry : Fin 64), ∃ t, exec (.bar2ResponseWrite c entry) s = .next t ∧ s.ChangesOnly t [.host]
    ∧ t.host.still = { s.host with bar0Err := s.host.bar0Err ||| 4 }.still)

/-- Ring indices, doorbells, RESYNC and held responses act as the ring protocol says (R313, R314, R315, R431). -/
def Obligations.RingIndexRegistersMoveTheRings : Prop := ∀ (s : State) (c : Fin 8),
  (∀ v : BitVec 32, ringCount v (s.chan c).reqCi ≤ 64 → ∃ t, exec (.mbxReqPiWrite c v) s = .next t ∧ s.ChangesOnly t [.channels]
    ∧ (t.chan c).reqPi = v ∧ (t.chan c).mode = (s.chan c).mode ∧ (t.chan c).reqCi = (s.chan c).reqCi) ∧
  (∀ v : BitVec 32, 64 < ringCount v (s.chan c).reqCi → ∃ t, exec (.mbxReqPiWrite c v) s = .next t ∧ s.ChangesOnly t [.channels]
    ∧ (t.chan c).reqPi = v ∧ (t.chan c).mode = .error) ∧
  (∀ v : BitVec 32, ringCount (s.chan c).rspPi v ≤ 64 → ∃ t, exec (.mbxRspCiWrite c v) s = .next t ∧ s.ChangesOnly t [.channels]
    ∧ (t.chan c).rspCi = v ∧ (t.chan c).mode = (s.chan c).mode) ∧
  (∀ v : BitVec 32, 64 < ringCount (s.chan c).rspPi v → ∃ t, exec (.mbxRspCiWrite c v) s = .next t ∧ s.ChangesOnly t [.channels]
    ∧ (t.chan c).rspCi = v ∧ (t.chan c).mode = .error) ∧
  (s.mgmt.serviceGap = false → (s.chan c).mode ≠ .error → (∀ j : Fin 8, (s.chan j).rungPi = (s.chan j).reqCi) →
    (s.chan c).reqPi = (s.chan c).reqCi → ∃ t, exec (.mbxDoorbellReq c) s = .next t ∧ s.ChangesOnly t [.perf]) ∧
  (s.mgmt.serviceGap = true → (∀ j : Fin 8, (s.chan j).rungPi = (s.chan j).reqCi) →
    ∃ t, exec (.mbxDoorbellReq c) s = .next t ∧ s.ChangesOnly t [.perf] ∧ (t.chan c).doorbell = true) ∧
  ((s.chan c).held = [] → s.host.outbox = [] → ∃ t, exec (.mbxDoorbellRsp c) s = .next t ∧ s.ChangesOnly t [.perf]
    ∧ (t.chan c).rspPi = (s.chan c).rspPi) ∧
  (∀ x rest, (s.chan c).held = x :: rest → (s.chan c).mode ≠ .error → ringCount (s.chan c).rspPi (s.chan c).rspCi < 64 →
    s.mgmt.serviceGap = false → s.host.outbox = [] → ∃ t, exec (.heldResponsePosted c) s = .next t
      ∧ s.ChangesOnly t [] ∧ (t.chan c).held = rest ∧ (t.chan c).rspPi = (s.chan c).rspPi + 1
      ∧ (Memory.wf s.fabric.cells → x.bytes.length ≤ 4096 →
          memRead ramDefault t.fabric.cells (responseAddr c.val ((s.chan c).rspPi.toNat % 64)) x.bytes.length = x.bytes)) ∧
  ((s.chan c).held = [] → s.host.outbox = [] → ∃ t, exec (.heldResponsePosted c) s = .next t ∧ s.ChangesOnly t []
    ∧ (t.chan c).rspPi = (s.chan c).rspPi) ∧
  ((s.chan c).mode = .error → ringCount (s.chan c).rspPi (s.chan c).rspCi ≤ 64 → ∃ t, exec (.mbxResync c) s = .next t
    ∧ s.ChangesOnly t [.channels, .requests] ∧ (t.chan c).reqCi = (s.chan c).reqPi
    ∧ (t.chan c).mode = if (s.chan c).wasOpen then .opened else .unopened) ∧
  ((s.chan c).mode ≠ .error → ∃ t, exec (.mbxResync c) s = .next t ∧ s.ChangesOnly t [])

/-- The interrupt and event-queue registers take the values that their rules give (R309, R329, R477, R480). -/
def Obligations.EventRegistersFollowTheirRules : Prop := ∀ s : State,
  (∀ v : BitVec 32, s.host.outbox = [] → ∃ t, exec (.evtSummaryClear v 0) s = .next t ∧ s.ChangesOnly t []
    ∧ t.ev.summary = s.ev.summary &&& ~~~ v.setWidth 16) ∧
  (∀ (v : BitVec 32) (hw : BitVec 16), ∃ t, exec (.evtSummaryClear v hw) s = .next t ∧ s.ChangesOnly t [.host]
    ∧ t.host.setWins = BitVec.ofNat 32 (min (s.host.setWins.toNat + countOnes (v.setWidth 16 &&& hw)) 0xFFFFFFFF)) ∧
  (∀ v : BitVec 32, ∃ t, exec (.evtMaskWrite v) s = .next t ∧ s.ChangesOnly t [.recorder] ∧ t.ev.mask = v.setWidth 16
    ∧ t.ev.routes = s.ev.routes ∧ t.ev.log = s.ev.log
    ∧ (s.host.outbox = [] → s.host.busMaster = true → ∀ i : Fin 16, s.ev.mask.getLsbD i.val = true → v.getLsbD i.val = false →
        s.ev.summary.getLsbD i.val = true → i ∈ t.ev.msixSent)) ∧
  (∀ v : BitVec 32, (s.ev.queuePi - v).toNat ≤ 1024 → ∃ t, exec (.evtQueueCiWrite v) s = .next t ∧ s.ChangesOnly t [.recorder]
    ∧ t.ev.queueCi = v ∧ t.ev.mask = s.ev.mask ∧ t.ev.routes = s.ev.routes) ∧
  (∀ v : BitVec 32, 1024 < (s.ev.queuePi - v).toNat → ∃ t, exec (.evtQueueCiWrite v) s = .next t ∧ s.ChangesOnly t []) ∧
  (s.ev.queueEnable = false → ∃ t, exec .evtQueueEnable s = .next t ∧ s.ChangesOnly t [.recorder] ∧ t.ev.queueEnable = true
    ∧ t.ev.queueCi = s.ev.queuePi) ∧
  (s.ev.queueEnable = true → ∃ t, exec .evtQueueEnable s = .next t ∧ s.ChangesOnly t [])

/-- A reset of the host port returns BAR0 and BAR2 to their reset values and keeps the tokens (R304, R310, R331). -/
def Obligations.HostPortResetsAndItsLink : Prop := ∀ s : State,
  (∀ i, i = Instr.hostPortReset ∨ i = Instr.hotReset ∨ i = Instr.flr →
    ∃ t, exec i s = .next t ∧ s.ChangesOnly t [.host, .requests, .channels, .recorder, .memory]
      ∧ t.host.busMaster = false ∧ t.host.hostHeartbeat = default ∧ t.host.mgmtHeartbeat = 0 ∧ t.host.setWins = 0
      ∧ t.host.bar0Err = 0 ∧ t.host.msixTable = [] ∧ t.host.bmcHeartbeat = s.host.bmcHeartbeat
      ∧ t.host.linkWidth = (if i = .flr then s.host.linkWidth else 0) ∧ t.host.linkGen = (if i = .flr then s.host.linkGen else 0)
      ∧ t.ev.mask = 0xFFFF ∧ t.ev.queueEnable = false ∧ t.ev.queueCi = 0 ∧ t.ev.queueBaseLo = 0 ∧ t.ev.queueBaseHi = 0
      ∧ t.ev.log = s.ev.log ∧ t.ev.routes = s.ev.routes
      ∧ (∀ c : Fin 8, (t.chan c).mode = .unopened ∧ (t.chan c).version = 0 ∧ (t.chan c).reqPi = 0 ∧ (t.chan c).reqCi = 0
          ∧ (t.chan c).rspCi = 0 ∧ (t.chan c).rungPi = 0 ∧ (t.chan c).window.map (·.token) = (s.chan c).window.map (·.token))
      ∧ (∀ n : Fin 8, t.host.sems[n] = if s.host.sems[n].held = true ∧ s.host.sems[n].path = 1
          then { held := false, abandoned := true, path := 0, tag := 0 } else s.host.sems[n])
      ∧ (Memory.wf s.fabric.cells → ∀ a, memGet ramDefault t.fabric.cells a = if mailboxBase ≤ a ∧ a < mailboxBase + 0x400000 then 0
            else memGet ramDefault s.fabric.cells a)) ∧
  (∀ width gen : Fin 5, ∃ t, exec (.hostLinkTrained width gen) s = .next t ∧ s.ChangesOnly t [.host]
    ∧ t.host.linkWidth = width.val ∧ t.host.linkGen = gen.val ∧ t.host.busMaster = decide (0 < width.val)
    ∧ t.host.bar0Err = s.host.bar0Err ∧ t.host.sems = s.host.sems)

/-- The I²C target's and controller's commands complete with the values that their rules give (R330, R331, R332, R333). -/
def Obligations.BoardBusCommandsFollowTheirRules : Prop := ∀ s : State,
  (∀ b0 b1 b2 b3 : Byte, s.rst.porLow = false → leNat [b0, b1, b2, b3] ≠ s.host.bmcHeartbeat.value.toNat →
    ∃ t, exec (.i2cTargetWrite 0x80 [b0, b1, b2, b3]) s = .next t ∧ s.ChangesOnly t [.host]
      ∧ t.host.bmcHeartbeat.value.toNat = leNat [b0, b1, b2, b3] ∧ t.host.bmcHeartbeat.since = s.clock.tick
      ∧ t.host.bmcHeartbeat.lost = false) ∧
  (∀ b0 b1 b2 b3 : Byte, s.rst.porLow = false →
    ∃ t, exec (.i2cTargetWrite 0x84 [b0, b1, b2, b3]) s = .next t ∧ s.ChangesOnly t [.host]
      ∧ t.host.bmcHeartbeat.timeoutMs.toNat = leNat [b0, b1]) ∧
  (∀ (off : Byte) (data : List Byte), s.rst.porLow = true ∨ off.toNat % 4 ≠ 0 ∨ data.length < 4 →
    ∃ t, exec (.i2cTargetWrite off data) s = .next t ∧ s.ChangesOnly t []) ∧
  (s.rst.porLow = false → ∃ t, exec (.i2cTargetRead 0x80 4) s = .next t ∧ s.ChangesOnly t [.host]
    ∧ t.host.lastRead = leBytes 4 s.host.bmcHeartbeat.value.toNat) ∧
  (s.rst.porLow = false → ∃ t, exec (.i2cTargetRead 0x88 4) s = .next t ∧ s.ChangesOnly t [.host]
    ∧ t.host.lastRead = leBytes 4 s.pwr.temperature.toNat) ∧
  (∀ (off : Byte) (n : Fin 257), s.rst.porLow = true ∨ off.toNat % 4 ≠ 0 →
    ∃ t, exec (.i2cTargetRead off n) s = .next t ∧ s.ChangesOnly t [.host] ∧ t.host.lastRead = []) ∧
  (∃ t, exec .i2cTargetTimeout s = .next t ∧ s.ChangesOnly t [.host] ∧ (∀ n : Fin 8, t.host.sems[n] =
    if s.host.sems[n].held = true ∧ s.host.sems[n].path = 2 then { held := false, abandoned := true, path := 0, tag := 0 }
    else s.host.sems[n])) ∧
  (∀ (x : BoardBusTransfer) (o : BoardBusOutcome), s.host.boardBus.transfer = none → ∃ t, exec (.i2cControllerTransfer x o) s = .next t
    ∧ s.ChangesOnly t [.host]
    ∧ (∀ read, o = .done read → t.host.boardBus.transfer = none ∧ t.host.boardBus.result = 0
        ∧ t.host.boardBus.readData = read.take x.readLen.val)
    ∧ (o = .addressNak → t.host.boardBus.transfer = none ∧ t.host.boardBus.result = 1)
    ∧ (o = .dataNak → t.host.boardBus.transfer = none ∧ t.host.boardBus.result = 2)
    ∧ (o = .busNotFree → t.host.boardBus.transfer = some x)
    ∧ (o = .arbitrationLost → t.host.boardBus.arbLost = s.host.boardBus.arbLost + 1
        ∧ (x.retries.val = 0 → t.host.boardBus.transfer = none ∧ t.host.boardBus.result = 3)
        ∧ (x.retries.val ≠ 0 → t.host.boardBus.transfer = some x ∧ t.host.boardBus.retries = x.retries.val - 1))) ∧
  (∀ x, s.host.boardBus.transfer = some x → s.host.boardBus.retries = 0 →
    ∃ t, exec (.i2cControllerRetry .arbitrationLost) s = .next t ∧ s.ChangesOnly t [.host] ∧ t.host.boardBus.transfer = none
      ∧ t.host.boardBus.result = 3 ∧ t.host.boardBus.arbLost = s.host.boardBus.arbLost + 1) ∧
  (∀ x read, s.host.boardBus.transfer = some x → ∃ t, exec (.i2cControllerRetry (.done read)) s = .next t ∧ s.ChangesOnly t [.host]
    ∧ t.host.boardBus.transfer = none ∧ t.host.boardBus.result = 0 ∧ t.host.boardBus.readData = read.take x.readLen.val) ∧
  (s.host.boardBus.transfer ≠ none → ∃ t, exec .busStuck s = .next t ∧ s.ChangesOnly t [.host] ∧ t.host.boardBus.transfer = none
    ∧ t.host.boardBus.result = 4) ∧
  (s.host.boardBus.transfer = none → ∃ t, exec .busStuck s = .next t ∧ s.ChangesOnly t [])

/-- REGISTER_WRITE stores what a register keeps, leaves read-only bits, and flags an offset outside the map (R4, R305, R306,
R308, R309, R311). -/
def Obligations.RegisterWritesActAsTheirRegistersSay : Prop := ∀ (s : State) (v : BitVec 32),
  (∀ j : Fin 8, (s.chan j).rungPi = (s.chan j).reqCi) →
  (∃ t, exec (.registerWrite 0x1C v) s = .next t ∧ s.ChangesOnly t [.host]
    ∧ t.host.still = { s.host with hostHeartbeat := { s.host.hostHeartbeat with timeoutMs := v.setWidth 16 } }.still) ∧
  (s.ev.queueEnable = false → ∃ t, exec (.registerWrite 0x40 v) s = .next t ∧ s.ChangesOnly t [.recorder]
    ∧ t.ev.queueBaseLo = v.extractLsb' 12 20 ∧ t.ev.queueBaseHi = s.ev.queueBaseHi ∧ t.ev.mask = s.ev.mask) ∧
  (s.ev.queueEnable = false → ∃ t, exec (.registerWrite 0x44 v) s = .next t ∧ s.ChangesOnly t [.recorder]
    ∧ t.ev.queueBaseHi = v ∧ t.ev.queueBaseLo = s.ev.queueBaseLo ∧ t.ev.mask = s.ev.mask) ∧
  (s.ev.queueEnable = true → ∀ off : BitVec 16, off = 0x40 ∨ off = 0x44 →
    ∃ t, exec (.registerWrite off v) s = .next t ∧ s.ChangesOnly t []) ∧
  (∀ off : BitVec 16, off = 0x00 ∨ off = 0x04 ∨ off = 0x08 ∨ off = 0x10 ∨ off = 0x14 ∨ off = 0x20 ∨ off = 0x24 ∨ off = 0x38 →
    ∃ t, exec (.registerWrite off v) s = .next t ∧ s.ChangesOnly t []) ∧
  (∀ off : BitVec 16, off.toNat % 4 ≠ 0 → ∃ t, exec (.registerWrite off v) s = .next t ∧ s.ChangesOnly t [.host]
    ∧ t.host.still = { s.host with bar0Err := s.host.bar0Err ||| 1 }.still) ∧
  (∀ off : BitVec 16, off.toNat % 4 = 0 → 0x9008 ≤ off.toNat → ∃ t, exec (.registerWrite off v) s = .next t ∧ s.ChangesOnly t [.host]
    ∧ t.host.still = { s.host with bar0Err := s.host.bar0Err ||| 2 }.still) ∧
  (exec (.registerWrite 0x100C v) s = exec (.mbxRspCiWrite 0 v) s)

/-- POR_N, COLD_RST_N and WARM_RST_N act as the reset inputs say (R10, R24, R486, R492, R496, R503, R524, R525, R526). -/
def Obligations.ResetInputsRestartTheDevice : Prop := ∀ s : State,
  (∀ (held : Bool) (i : Instr), i = .porNAssert held ∨ i = .coldRstNAssert held → ∃ t, exec i s = .next t
    ∧ t.pending = s.pending ∧ t.clock = s.clock ∧ t.rtc = s.rtc ∧ t.fresh = s.fresh
    ∧ t.host.service = 0 ∧ t.host.busMaster = false ∧ t.host.waiting = [] ∧ t.host.outbox = []
    ∧ t.ports = Vector.replicate 512 .reset ∧ t.prot = .reset ∧ t.dpll = .reset ∧ t.perf = .reset ∧ t.deferred = []
    ∧ t.casc.mode = .standalone ∧ t.map.swap = none ∧ t.cap.channels = CaptureState.reset.channels
    ∧ t.ev.log = s.ev.erased ++ s.ev.log ∧ t.ev.nextIndex = s.ev.nextIndex ∧ t.flash.cells = s.flash.cells ∧ t.sec.owner = s.sec.owner
    ∧ t.mgmt.owner = none ∧ (s.mgmt.staged = 0 → t.mgmt.slots = s.mgmt.slots) ∧ t.cap.namespaces = s.cap.reverted.namespaces
    ∧ (held = false → t.host.journal = [] ∧ t.ev.buffer = [] ∧ ∀ c : Fin 8, (t.chan c).window = [])
    ∧ (held = true → s.rst.porLow = false → s.rst.coldLow = false →
        t.host.journal = s.host.journal ∧ (s.ev.clears = [] → t.ev.buffer = s.ev.buffer) ∧ ∀ c : Fin 8, (t.chan c).window = (s.chan c).window)
    ∧ (i = .porNAssert held → t.rst.porLow = true ∧ t.rst.coldLow = s.rst.coldLow)
    ∧ (i = .coldRstNAssert held → t.rst.coldLow = true ∧ t.rst.porLow = s.rst.porLow)) ∧
  (∀ (x : Straps) (b : BootFindings), s.rst.porLow = false → ∃ t, exec (.porNRelease x b) s = .next t ∧ s.ChangesOnly t []) ∧
  (∀ (x : Straps) (b : BootFindings), s.rst.porLow = true → s.rst.coldLow = true → ∃ t, exec (.porNRelease x b) s = .next t
    ∧ t.clock = s.clock ∧ t.rst = { s.rst with porLow := false, straps := x } ∧ t.host.service = s.host.service ∧ t.ports = s.ports) ∧
  (∀ (x : Straps) (b : BootFindings), s.rst.porLow = true → s.rst.coldLow = false → ∃ t, exec (.porNRelease x b) s = .next t
    ∧ t.clock = { s.clock with frame := BitVec.ofNat 64 (2000000 * s.rtcNow) }
    ∧ t.rst.porLow = false ∧ t.rst.straps = x ∧ t.rst.released = s.clock.tick ∧ (s.sec.lifecycle = 2 → t.host.service = 4)) ∧
  (∀ b : BootFindings, s.rst.coldLow = false → ∃ t, exec (.coldRstNRelease b) s = .next t ∧ s.ChangesOnly t []) ∧
  (∀ b : BootFindings, s.rst.coldLow = true → s.rst.porLow = false → ∃ t, exec (.coldRstNRelease b) s = .next t
    ∧ t.clock = { s.clock with frame := BitVec.ofNat 64 (2000000 * s.rtcNow) }
    ∧ t.rst.coldLow = false ∧ t.rst.straps = s.rst.straps ∧ t.rst.released = s.clock.tick) ∧
  ((s.host.service = 0 ∨ 3 ≤ s.host.service ∨ s.mgmt.warmReset ≠ none) →
    ∃ t, exec .warmRstNAssert s = .next t ∧ s.ChangesOnly t []) ∧
  (s.host.service ≠ 0 → s.host.service < 3 → s.mgmt.warmReset = none →
    ∃ t, exec .warmRstNAssert s = .next t ∧ t.clock = s.clock ∧ t.mgmt.serviceGap = true ∧ t.mgmt.owner = none
      ∧ ∀ i : Fin 2, (s.core i).mode ≠ .off → (s.core i).mode ≠ .fault → (t.core i).mode = .booting)

/-- Tinder service, full service, the end of a shutdown and a power failure take effect as stated (R149, R327, R411, R487,
R503, R526, R531, R532). -/
def Obligations.ServiceStagesAndPowerFailure : Prop := ∀ s : State,
  (s.host.service = 0 → s.mgmt.owner ≠ none → s.rst.porLow = false → s.rst.coldLow = false → s.bist.run = none →
    ∃ t, exec .tinderServiceStart s = .next t ∧ t.host.service = 1 ∧ t.rst.tinderAt = s.clock.tick ∧ t.clock = s.clock) ∧
  (s.host.service ≠ 0 → ∃ t, exec .tinderServiceStart s = .next t ∧ s.ChangesOnly t []) ∧
  (∀ b : FullFindings, s.host.service = 1 → ∃ t, exec (.fullServiceStart b) s = .next t ∧ t.host.service = 2 ∧ t.cap.ring = []
    ∧ t.cap.gapFrames = 0 ∧ t.cap.bytesStored = 0 ∧ t.cap.failureRecords = 0 ∧ t.clock = s.clock) ∧
  (∀ b : FullFindings, s.host.service ≠ 1 → ∃ t, exec (.fullServiceStart b) s = .next t ∧ s.ChangesOnly t []) ∧
  (∀ c, s.rst.shutdown = some (c, false) → s.host.service = 3 → s.cap.captures = [] → s.bist.run = none → s.casc.swap = none →
    ∃ t, exec .shutdownSequence s = .next t ∧ t.host.service = 4 ∧ t.rst.halted = true ∧ t.rst.shutdown = none) ∧
  (∀ c, s.rst.shutdown = some (c, true) → s.host.service = 3 → s.cap.captures = [] → s.bist.run = none → s.casc.swap = none →
    ∃ t, exec .shutdownSequence s = .next t ∧ t.bist.run ≠ none) ∧
  (s.rst.pwrFailLow = false → ∃ t, exec .pwrFailNAssert s = .next t ∧ t.rst.pwrFailLow = true
    ∧ t.rtc.lossFrame = s.clock.frame ∧ t.rtc.lossCount = s.rtc.lossCount + 1 ∧ t.rtc.lossOk = true
    ∧ t.ev.powerFailing = true ∧ t.ev.retentionOk = true ∧ t.ev.frozenUntil = none ∧ t.host.snapshot ≠ none ∧ t.flash.fifo = []
    ∧ t.host.lapseConditions = true) ∧
  (s.rst.pwrFailLow = true → ∃ t, exec .pwrFailNAssert s = .next t ∧ s.ChangesOnly t []) ∧
  (s.ev.powerFailing = true → s.ev.standing = true → s.ev.buffer ≠ [] → s.logProgrammable = true → s.host.outbox = [] →
    ∃ t, exec .powerFailFlushPage s = .next t ∧ s.ChangesOnly t [.recorder] ∧ t.ev.buffer = s.ev.buffer.drop 8
      ∧ t.ev.nextIndex = s.ev.nextIndex + min 8 s.ev.buffer.length)

/-- Domain transitions, temperatures and supplies act on the state as stated (R20, R22, R553, R556, R560, R563, R564, R584).
-/
def Obligations.PowerDomainsTemperatureAndSupplies : Prop := ∀ s : State,
  (∀ r, s.pwr.running = some r → ∃ t, exec (.domainTransitionDone r.domain) s = .next t ∧ t.pwr.running = none
    ∧ t.pwr.modes[r.domain] = r.target ∧ t.pwr.lastEnd = s.clock.tick ∧ t.clock = s.clock) ∧
  (∀ r d, s.pwr.running = some r → d ≠ r.domain → ∃ t, exec (.domainTransitionDone d) s = .next t ∧ s.ChangesOnly t []) ∧
  (∀ (p : PortNo) (g : Fin 32), g.val = p.val / 16 → p ∈ s.pwr.wakeSets[g] → s.pwr.modes[(laneGroup p)] = .banked →
    s.pwr.running = none → s.pwr.waiting = [] → ∃ t, exec (.farEndWake p) s = .next t ∧ s.ChangesOnly t [.pwr]
      ∧ t.pwr.waiting = [{ domain := laneGroup p, target := .on, origins := [.farEnd p], since := s.clock.tick, waited := false, after := false }]
      ∧ t.pwr.modes = s.pwr.modes) ∧
  (∀ w rest, s.pwr.waiting = w :: rest → w.waited = false → w.since + 20000 < s.clock.tick →
    ∃ t, exec (.domainWaitEvent w.domain) s = .next t ∧ s.ChangesOnly t [.pwr] ∧ t.pwr = { s.pwr with waiting := { w with waited := true } :: rest }) ∧
  (∀ i : Fin 7, ∃ t, exec (.supplyOutOfRange i) s = .next t ∧ s.ChangesOnly t [.pwr, .host] ∧ t.host.lapseConditions = true
    ∧ t.pwr.supplyOut = s.pwr.supplyOut.set i true ∧ t.pwr.modes = s.pwr.modes ∧ t.host.sems = s.host.sems) ∧
  (∀ x : BitVec 16, ∃ t, exec (.temperatureThreshold x) s = .next t ∧ s.ChangesOnly t [.pwr, .host] ∧ t.pwr.temperature = x
    ∧ (90 * 16 < x.toInt → t.pwr.warm = true) ∧ (x.toInt < 85 * 16 → t.pwr.warm = false)
    ∧ (95 * 16 < x.toInt → t.pwr.hot = true ∧ t.host.lapseConditions = true) ∧ (x.toInt < 95 * 16 → t.pwr.hot = false)
    ∧ (100 * 16 < x.toInt → t.pwr.critical = true) ∧ (x.toInt < 95 * 16 → t.pwr.critical = false)) ∧
  (s.host.lapseConditions = true → s.pwr.hot = false → s.rst.pwrFailLow = false → ∃ t, exec .conditionsRestored s = .next t
    ∧ s.ChangesOnly t [.pwr, .host] ∧ t.host.lapseConditions = false ∧ t.pwr.supplyOut = Vector.replicate 7 false)

/-- A slice of a self-test ends with its result, or stops at its limit (R534, R535, R537, R539). -/
def Obligations.SelfTestsTakeTheirSlices : Prop := ∀ s : State,
  (∀ (x : SliceResult) r y z rest, s.bist.run = some r → r.slices = y :: z :: rest → ∃ t, exec (.bistSliceDone x) s = .next t
    ∧ s.ChangesOnly t [.bist, .memory] ∧ (y.1 ≠ 9 → y.1 ≠ 11 → s.ChangesOnly t [.bist])
    ∧ ∃ r', t.bist.run = some r' ∧ r'.slices = z :: rest ∧ r'.started = s.clock.tick ∧ r'.origin = r.origin) ∧
  (∀ (x : SliceResult) r y, s.bist.run = some r → r.slices = [y] → r.origin ≠ 2 → r.command = none →
    ∃ t, exec (.bistSliceDone x) s = .next t ∧ t.bist.run = none ∧ t.bist.copy = s.bist.copy + 1 ∧ t.clock = s.clock) ∧
  (∀ r y z rest, s.bist.run = some r → r.slices = y :: z :: rest → r.started + sliceLimit y.1 ≤ s.clock.tick →
    ∃ t, exec .bistSliceTimeout s = .next t ∧ s.ChangesOnly t [.bist, .memory] ∧ (y.1 ≠ 9 → y.1 ≠ 11 → s.ChangesOnly t [.bist])
      ∧ ∃ r', t.bist.run = some r' ∧ r'.slices = z :: rest) ∧
  (∀ r y rest, s.bist.run = some r → r.slices = y :: rest → s.clock.tick < r.started + sliceLimit y.1 →
    ∃ t, exec .bistSliceTimeout s = .next t ∧ t.bist = s.bist) ∧
  (∀ x : SliceResult, s.bist.run = none → ∃ t, exec (.bistSliceDone x) s = .next t ∧ t.bist = s.bist)

/-- Flushes, freezes, EVENT_N pins and GPIO windows take effect as stated (R398, R478, R481, R482, R575, R578). -/
def Obligations.RecorderEventsTakeEffect : Prop := ∀ s : State,
  (s.flushDue = true → s.logProgrammable = true → s.ev.discarded = false → s.ev.clears = [] → s.ev.regionFault = false →
    s.host.outbox = [] → ∃ t, exec .eventFlush s = .next t ∧ s.ChangesOnly t [.recorder]
      ∧ t.ev.buffer = s.ev.buffer.drop 8 ∧ t.ev.nextIndex = s.ev.nextIndex + min 8 s.ev.buffer.length) ∧
  (s.flushDue = false → ∃ t, exec .eventFlush s = .next t ∧ s.ChangesOnly t []) ∧
  (∀ n, s.ev.frozenUntil = some n → n ≤ s.clock.tick → ∃ t, exec .logFreezeExpiry s = .next t ∧ s.ChangesOnly t [.recorder]
    ∧ t.ev.frozenUntil = none ∧ t.ev.log = s.ev.log ∧ t.ev.routes = s.ev.routes) ∧
  (∀ n, s.ev.frozenUntil = some n → s.clock.tick < n → ∃ t, exec .logFreezeExpiry s = .next t ∧ s.ChangesOnly t []) ∧
  (∀ b : Fin 4, s.ev.pins[b].low = true → s.ev.pins[b].lowUntil ≤ s.clock.tick → s.host.outbox = [] →
    ∃ t, exec (.eventNRelease b) s = .next t ∧ s.ChangesOnly t [] ∧ t.ev.pins = s.ev.pins.set b
      { s.ev.pins[b] with low := false, highUntil := s.clock.tick + 1 }) ∧
  (∀ (pin : Fin 32) (edges : Nat) (level : Bool), s.gpio[pin].function = .gpio → ∃ t, exec (.gpioWindowEnd pin edges level) s = .next t
    ∧ s.ChangesOnly t [.gpio, .cap] ∧ t.gpio = s.gpio.set pin { s.gpio[pin] with level := level } ∧ t.cap.channels = s.cap.channels) ∧
  (∀ (pin : Fin 32) (edges : Nat) (level : Bool), s.gpio[pin].function = .led ∨ s.gpio[pin].function = .trigOut →
    ∃ t, exec (.gpioWindowEnd pin edges level) s = .next t ∧ s.ChangesOnly t [])

/-- In HEARTBEAT mode a failure of the ACTIVE core moves OWNER to the STANDBY core, with its cause (R426). -/
def Obligations.FailuresInHeartbeatModeMoveTheOwner : Prop := ∀ (s : State) (o b : Fin 2),
  s.mgmt.arbiterMode = false → s.mgmt.owner = some o → (s.core o).mode = .active → s.standbyCore = some b →
  ((s.core o).marked + 100000 ≤ s.clock.tick → ∃ t, exec (.watchdogExpiry o) s = .next t ∧ t.mgmt.owner = some b
    ∧ t.mgmt.lastCause = .watchdog ∧ (t.core b).mode = .active ∧ t.mgmt.transfers = s.mgmt.transfers + 1 ∧ t.clock = s.clock) ∧
  (∀ path : Fin 2, (s.core o).beatLost[path] = false → (∀ k : Fin 2, k ≠ path → (s.core o).beatLost[k] = true) →
    s.mgmt.pathsDistrusted = false → ∃ t, exec (.beatPathLoss o path) s = .next t ∧ t.mgmt.owner = some b
      ∧ t.mgmt.lastCause = .heartbeatLoss ∧ (t.core b).mode = .active ∧ t.mgmt.transfers = s.mgmt.transfers + 1 ∧ t.clock = s.clock) ∧
  (∀ kind : CoreFault, ∃ t, exec (.faultReport kind) s = .next t ∧ t.mgmt.owner = some b
    ∧ t.mgmt.lastCause = .faultReport ∧ (t.core b).mode = .active ∧ t.mgmt.transfers = s.mgmt.transfers + 1 ∧ t.clock = s.clock)

/-- Grants, probes, silences, releases and lone failures move the interlock as stated (R417, R421, R422, R423, R427, R428,
R429, R434, R443). -/
def Obligations.InterlockAndItsArbiter : Prop := ∀ s : State,
  (∀ i : Fin 2, (s.core i).mode ≠ .off → (s.core i).mode ≠ .fault → ∃ t, exec (.watchdogWrite i) s = .next t ∧ s.ChangesOnly t [.mgmt]
    ∧ t.mgmt = { s.mgmt with cores := s.mgmt.cores.set i { s.mgmt.cores[i] with marked := s.clock.tick } }) ∧
  (∀ i path : Fin 2, (s.core i).beatLost = Vector.replicate 2 false → (s.core i).mode ≠ .off → (s.core i).mode ≠ .fault →
    ∃ t, exec (.beatPathLoss i path) s = .next t ∧ s.ChangesOnly t [.mgmt]
      ∧ t.mgmt = { s.mgmt with cores := s.mgmt.cores.set i { s.mgmt.cores[i] with beatLost := (Vector.replicate 2 false).set path true } }) ∧
  (∀ i path : Fin 2, (s.core i).beatLost[path] = true → ∃ t, exec (.beatPathReturn i path) s = .next t ∧ s.ChangesOnly t [.mgmt]
    ∧ (t.core i).beatLost = (s.core i).beatLost.set path false ∧ t.mgmt.owner = s.mgmt.owner) ∧
  (∀ (x : TakeoverRequest) (b : Fin 2), s.mgmt.takeover = some x → s.standbyCore = some b →
    (∃ t, exec .arbiterGrant s = .next t ∧ t.mgmt.owner = some b ∧ t.mgmt.lastCause = x.cause ∧ t.mgmt.takeover = none
      ∧ t.mgmt.serviceGap = false ∧ (t.core b).mode = .active) ∧
    (x.at_ + 10000 ≤ s.clock.tick → ∃ t, exec .arbiterSilentTimeout s = .next t ∧ t.mgmt.owner = some b ∧ t.mgmt.lastCause = x.cause
      ∧ t.mgmt.takeover = none ∧ t.mgmt.serviceGap = false) ∧
    (x.probed = true → ∃ t, exec .arbiterProbeAnswer s = .next t ∧ s.ChangesOnly t [.mgmt]
      ∧ t.mgmt.serviceGap = false ∧ t.mgmt.takeover = none
      ∧ t.mgmt.pathsDistrusted = true ∧ t.mgmt.owner = s.mgmt.owner ∧ ∀ i : Fin 2, (t.core i).mode = (s.core i).mode)) ∧
  (∀ b : Fin 2, s.mgmt.owner = some 0 → s.standbyCore = some b → b ≠ 0 → ∃ t, exec (.mgmtOwnerRelease .managementA) s = .next t
    ∧ t.mgmt.owner = some b ∧ t.mgmt.lastCause = .plannedSwap ∧ (t.core b).mode = .active ∧ (t.core 0).mode = .syncing) ∧
  (s.mgmt.owner = some 0 → ∃ t, exec (.mgmtOwnerRelease .managementB) s = .next t ∧ s.ChangesOnly t []) ∧
  (∀ (kind : CoreFault) (o : Fin 2), s.mgmt.owner = some o → s.standbyCore = none → (s.core o).failures = [] →
    ∃ t, exec (.faultReport kind) s = .next t ∧ (t.core o).mode = .booting ∧ (t.core o).failures = [s.clock.tick]
      ∧ t.mgmt.serviceGap = true ∧ t.mgmt.owner = some o)

/-- Management cores restart, synchronise and swap their roles as stated (R413, R418, R432, R433, R434, R435, R437). -/
def Obligations.ManagementCoresRestartAndSwap : Prop := ∀ s : State,
  (∀ (i o : Fin 2) (n : Nat), (s.core i).mode = .fault → (s.core i).repowerAt = some n → n ≤ s.clock.tick → (s.core i).unusable = false →
    s.mgmt.owner = some o → ∃ t, exec (.coreRepower i) s = .next t ∧ s.ChangesOnly t [.mgmt, .pwr] ∧ (t.core i).mode = .booting
      ∧ (t.core i).repowerAt = none ∧ (t.core i).marked = s.clock.tick ∧ (t.core i).image = (s.core o).image
      ∧ t.pwr.modes[coreDomain i] = .on) ∧
  (∀ i o : Fin 2, (s.core i).mode = .booting → s.mgmt.owner = some o → o ≠ i → ∃ t, exec (.coreBooted i true) s = .next t
    ∧ s.ChangesOnly t [.mgmt] ∧ (t.core i).mode = .syncing ∧ t.mgmt.owner = some o) ∧
  (∀ i : Fin 2, (s.core i).mode = .booting → s.mgmt.owner = none → s.mgmt.lastOwner = i → ∃ t, exec (.coreBooted i true) s = .next t
    ∧ t.mgmt.owner = some i ∧ (t.core i).mode = .active ∧ t.mgmt.serviceGap = false ∧ t.mgmt.lastCause = s.startCause) ∧
  (∀ i o : Fin 2, (s.core i).mode = .booting → s.mgmt.owner = some o → o ≠ i → s.mgmt.activation = none →
    ∃ t, exec (.coreBooted i false) s = .next t ∧ (t.core i).mode = .fault ∧ t.mgmt.owner = some o
      ∧ t.pwr.modes[coreDomain i] = .off) ∧
  (∀ i o : Fin 2, (s.core i).mode = .syncing → s.mgmt.owner = some o → s.mgmt.activation = none →
    ∃ t, exec (.coreStandbyReached i) s = .next t ∧ s.ChangesOnly t [.mgmt] ∧ (t.core i).mode = .standby ∧ t.mgmt.owner = some o) ∧
  (∀ b o : Fin 2, s.mgmt.roleSwap = none → s.mgmt.roleNext ≤ s.clock.tick → s.mgmt.owner = some o → s.standbyCore = some b → b ≠ o →
    s.mgmt.activation = none → s.roleSwapWaits = false → ∃ t, exec .periodicRoleSwap s = .next t ∧ t.mgmt.owner = some b
      ∧ t.mgmt.lastCause = .plannedSwap ∧ (t.core b).mode = .active ∧ (t.core o).mode = .syncing ∧ t.mgmt.roleSwap = none
      ∧ t.mgmt.roleNext = s.clock.tick + s.mgmt.rolePeriodH * 3600 * second) ∧
  (∀ (a : Activation) (o : Fin 2), s.mgmt.activation = some a → a.step = .otherNew → a.started + 10 * second ≤ s.clock.tick →
    s.mgmt.owner = some o → ∃ t, exec .activationResyncTimeout s = .next t
      ∧ t.mgmt.activation = some { a with step := .rollback, started := s.clock.tick } ∧ (t.core (otherCore o)).mode = .booting
      ∧ (t.core (otherCore o)).image = a.oldImage)

/-- A line frame moves the aligner by R71 to R73, and in SYNC its number and indications are taken (R53, R66, R71, R72, R73,
R74, R85, R94, R170). -/
def Obligations.LineFramesAlignAPortAndAreOpened : Prop := ∀ (s : State) (p : PortNo) (f : LineFrame),
  ((s.port p).mode = .down ∨ (s.port p).has .los = true → ∃ t, exec (.lineFrameReceived p f) s = .next t ∧ s.ChangesOnly t []) ∧
  ((s.port p).mode ≠ .down → (s.port p).has .los = false → ∃ t, exec (.lineFrameReceived p f) s = .next t
    ∧ (∀ q : PortNo, q ≠ p → t.port q = s.port q)
    ∧ ((s.port p).aligner = .hunt → fawExact f.bits = true → (s.port p).candidates.contains f.position = true →
        s.ChangesOnly t [.ports] ∧ (t.port p).aligner = .presync ∧ (t.port p).position = f.position
          ∧ (t.port p).number = rawNumber f.bits ∧ (t.port p).confirms = 0)
    ∧ ((s.port p).aligner = .hunt → fawExact f.bits = true → (s.port p).candidates.contains f.position = false →
        s.ChangesOnly t [.ports] ∧ (t.port p).aligner = .hunt ∧ (t.port p).candidates = f.position :: (s.port p).candidates)
    ∧ ((s.port p).aligner = .presync → f.position = (s.port p).position →
        (fawExact f.bits = false ∨ rawNumber f.bits ≠ (s.port p).number + 1) →
        s.ChangesOnly t [.ports] ∧ (t.port p).aligner = .hunt)
    ∧ ((s.port p).aligner = .presync → f.position = (s.port p).position → fawExact f.bits = true →
        rawNumber f.bits = (s.port p).number + 1 →
        ((s.port p).confirms = 0 → s.ChangesOnly t [.ports] ∧ (t.port p).aligner = .presync ∧ (t.port p).confirms = 1
          ∧ (t.port p).number = (s.port p).number + 1) ∧
        ((s.port p).confirms = 1 → (t.port p).aligner = .sync ∧ (t.port p).has .lof = false))
    ∧ ((s.port p).aligner = .sync → f.position = (s.port p).position → fawHit f.bits = false → (s.port p).misses = 3 →
        s.ChangesOnly t [.ports] ∧ (t.port p).aligner = .hunt ∧ (t.port p).has .lof = true)
    ∧ ((s.port p).aligner = .sync → f.position = (s.port p).position → fawHit f.bits = true →
        s.ChangesOnly t [.ports, .perf, .casc] ∧ (t.port p).aligner = .sync ∧ (t.port p).misses = 0
          ∧ (t.port p).number = ((s.port p).openCodewords (decodeLine f.bits)).number
          ∧ (((s.port p).openCodewords (decodeLine f.bits)).tagOk = false →
              (t.port p).number = (s.port p).number + 1 ∧ (t.port p).rdiRx = (s.port p).rdiRx ∧ (t.port p).protRx = (s.port p).protRx)
          ∧ (∀ x, (s.port p).openCodewords (decodeLine f.bits) = x → x.tagOk = true →
              (t.port p).rdiRx = x.info.indications.getLsbD 7 ∧ (t.port p).farStopped = x.info.indications.getLsbD 5
              ∧ (t.port p).rxVersion = x.info.versionFormat.extractLsb' 6 2
              ∧ (t.port p).protRx = (s.port p).protRx.take (collarField x.info 92 8))))

/-- The defects, the RDI hold and the state of a port change as its timed events say (R70, R71, R82, R83, R85, R88, R91, R92,
R473). -/
def Obligations.PortDefectsAndStatesFollowTheirTimers : Prop := ∀ (s : State) (p : PortNo),
  ((s.port p).mode ≠ .down → ∃ t, exec (.losDeclare p) s = .next t ∧ s.ChangesOnly t [.ports] ∧ (t.port p).has .los = true
    ∧ (t.port p).has .lof = true ∧ (t.port p).has .lop = false ∧ (t.port p).aligner = .hunt ∧ (t.port p).mode = (s.port p).mode
    ∧ ∀ q : PortNo, q ≠ p → t.port q = s.port q) ∧
  ((s.port p).mode = .down → ∃ t, exec (.losDeclare p) s = .next t ∧ s.ChangesOnly t []) ∧
  (∃ t, exec (.losClear p) s = .next t ∧ s.ChangesOnly t [.ports] ∧ (t.port p).has .los = false
    ∧ (∀ d : Defect, d ≠ .los → (t.port p).has d = (s.port p).has d) ∧ (t.port p).mode = (s.port p).mode
    ∧ ∀ q : PortNo, q ≠ p → t.port q = s.port q) ∧
  (∀ n, n = (s.port p).winSymbols + 16 * (s.port p).winBad → ∃ t, exec (.sdWindowEnd p) s = .next t ∧ s.ChangesOnly t [.ports]
    ∧ (t.port p).winSymbols = 0 ∧ (t.port p).winBad = 0 ∧ (t.port p).lastSer = n
    ∧ (t.port p).has .sd = (if (s.port p).sdSet.1.val * (65536 * 5440) < n * 10 ^ (s.port p).sdSet.2.val then true
        else if n * 10 ^ (s.port p).sdClear.2.val < (s.port p).sdClear.1.val * (65536 * 5440) then false else (s.port p).has .sd)
    ∧ (∀ d : Defect, d ≠ .sd → (t.port p).has d = (s.port p).has d) ∧ ∀ q : PortNo, q ≠ p → t.port q = s.port q) ∧
  ((s.port p).slip = 0 → 4194304 ≤ (s.port p).sinceSlip → ∃ t, exec (.ulsClear p) s = .next t ∧ s.ChangesOnly t [.ports]
    ∧ (t.port p).has .uls = false ∧ ∀ d : Defect, d ≠ .uls → (t.port p).has d = (s.port p).has d) ∧
  ((s.port p).slip ≠ 0 ∨ (s.port p).sinceSlip < 4194304 → ∃ t, exec (.ulsClear p) s = .next t ∧ s.ChangesOnly t []) ∧
  ((s.port p).mode ≠ .stopped → (s.port p).aligner = .sync → (s.port p).trace.found = false → 256 ≤ (s.port p).trace.since →
    ∃ t, exec (.timAcceptTimeout p) s = .next t ∧ s.ChangesOnly t [.ports] ∧ (t.port p).has .tim = true
      ∧ ∀ d : Defect, d ≠ .tim → (t.port p).has d = (s.port p).has d) ∧
  ((s.port p).trace.found = true → ∃ t, exec (.timAcceptTimeout p) s = .next t ∧ s.ChangesOnly t []) ∧
  (∃ t, exec (.rdiHoldEnd p) s = .next t ∧ s.ChangesOnly t [.ports]
    ∧ ((s.port p).defects &&& 0x3F = 0 → (s.port p).tx.rdiHold = 0 → (t.port p).tx.rdi = false)
    ∧ ((s.port p).defects &&& 0x3F ≠ 0 ∨ (s.port p).tx.rdiHold ≠ 0 → (t.port p).tx.rdi = (s.port p).tx.rdi)) ∧
  ((s.port p).mode = .training ∨ ((s.port p).mode = .stopped ∧ (s.port p).resuming = true) →
    (s.port p).aligner = .sync → (s.port p).has .lop = false → (s.port p).link.keyed = true → (s.port p).has .auth = false →
    (s.port p).has .role = false → (s.port p).trace.accepted ≠ none → (s.port p).has .tim = false →
    ∃ t, exec (.portUp p) s = .next t ∧ s.ChangesOnly t [.ports] ∧ (t.port p).mode = .up ∧ (t.port p).resuming = false
      ∧ (t.port p).slip = 0 ∧ (t.port p).entered = s.clock.tick ∧ (t.port p).settings = (s.port p).settings
      ∧ ∀ q : PortNo, q ≠ p → t.port q = s.port q) ∧
  ((s.port p).aligner ≠ .sync ∨ (s.port p).has .lop = true ∨ (s.port p).link.keyed = false ∨ (s.port p).has .auth = true
      ∨ (s.port p).has .role = true ∨ (s.port p).trace.accepted = none ∨ (s.port p).has .tim = true →
    ∃ t, exec (.portUp p) s = .next t ∧ s.ChangesOnly t []) ∧
  ((s.port p).mode = .training → (s.port p).trainEvent = false → (s.port p).entered + 4000000 ≤ s.clock.tick →
    ∃ t, exec (.trainingTimeout p) s = .next t ∧ s.ChangesOnly t [.ports] ∧ (t.port p).trainEvent = true
      ∧ (t.port p).mode = .training ∧ (t.port p).defects = (s.port p).defects) ∧
  ((s.port p).mode = .training → (s.port p).fastTrain = true → s.host.service = 1 →
    (s.port p).entered + 400000 ≤ s.clock.tick →
    ∃ t, exec (.tinderTrainTimeout p) s = .next t ∧ s.ChangesOnly t [.ports] ∧ (t.port p).mode = .tinder
      ∧ (t.port p).defects = (s.port p).defects ∧ ∀ q : PortNo, q ≠ p → t.port q = s.port q) ∧
  ((s.port p).mode ≠ .training ∨ s.host.service ≠ 1 → ∃ t, exec (.tinderTrainTimeout p) s = .next t ∧ s.ChangesOnly t [])

/-- Hold-off, wait-to-restore and protocol-failure expiries move a selection as its request says (R155, R156, R157, R158,
R159, R161, R162, R167, R170, R172, R175). -/
def Obligations.ProtectionTimersMoveTheSelection : Prop := ∀ (s : State),
  (∀ (i : Fin 256) (g : ProtGroup), s.prot.groups[i] = some g →
    (∀ t0, g.oneToN = false → g.unit.sf[(1 : Fin 16)] = some t0 → t0 + g.unit.hold[(1 : Fin 16)] ≤ s.clock.tick →
      g.unit.sf[(0 : Fin 16)] = none → g.unit.lo = false → g.unit.fs = none → g.unit.selected = 0 ∨ g.unit.selected = 1 →
      ∃ t g', exec (.holdOffExpiry (.group i) 1) s = .next t ∧ s.ChangesOnly t [.prot] ∧ t.prot.groups[i] = some g'
        ∧ g'.unit.request = .sfW ∧ g'.unit.member = 1 ∧ g'.unit.selected = 1 ∧ g'.unit.ms = none
        ∧ (g.unit.selected = 0 → g'.unit.switches = g.unit.switches + 1 ∧ g'.unit.reverts = g.unit.reverts)
        ∧ g'.settings = g.settings ∧ ∀ j : Fin 256, j ≠ i → t.prot.groups[j] = s.prot.groups[j]) ∧
    (∀ (m : Fin 16) t0, g.oneToN = true → m ≠ 0 → m.val ≤ g.working.length → g.unit.sf[m] = some t0 →
      t0 + g.unit.hold[m] ≤ s.clock.tick → (∀ k : Fin 16, k < m → g.unit.sf[k] = none) → g.unit.lo = false → g.unit.fs = none →
      g.unit.protFail = false → g.unit.selected = 0 → g.unit.bridged = 0 → farRequest (g.unit.far.getD 0) = none →
      ∃ t g', exec (.holdOffExpiry (.group i) m) s = .next t ∧ s.ChangesOnly t [.prot] ∧ t.prot.groups[i] = some g'
        ∧ g'.unit.request = .sfW ∧ g'.unit.member = m ∧ g'.unit.bridged = m
        ∧ g'.unit.selected = (if farBridged (g.unit.far.getD 0) = m then m else 0)
        ∧ g'.settings = g.settings ∧ ∀ j : Fin 256, j ≠ i → t.prot.groups[j] = s.prot.groups[j]) ∧
    (∀ e, g.oneToN = false → g.unit.wtr = some (1, e) → e ≤ s.clock.tick → (∀ k : Fin 16, g.unit.sf[k] = none ∧ g.unit.sd[k] = none) →
      g.unit.selected = 1 → g.unit.lo = false → g.unit.fs = none → g.unit.ms = none → g.unit.dnr = none →
      ∃ t g', exec (.wtrExpiry (.group i)) s = .next t ∧ s.ChangesOnly t [.prot] ∧ t.prot.groups[i] = some g'
        ∧ g'.unit.request = .nr ∧ g'.unit.selected = 0 ∧ g'.unit.wtr = none ∧ g'.unit.reverts = g.unit.reverts + 1
        ∧ g'.unit.switches = g.unit.switches ∧ ∀ j : Fin 256, j ≠ i → t.prot.groups[j] = s.prot.groups[j]) ∧
    (∀ k e, g.unit.wtr = some (k, e) → s.clock.tick < e → ∃ t, exec (.wtrExpiry (.group i)) s = .next t ∧ s.ChangesOnly t []) ∧
    (100000 ≤ g.unit.unanswered → ∃ t g', exec (.protFailTimeout i) s = .next t ∧ s.ChangesOnly t [.prot]
      ∧ t.prot.groups[i] = some g' ∧ g'.unit.protFail = true ∧ g'.settings = g.settings
      ∧ (g.oneToN = true → g'.unit.selected = 0) ∧ ∀ j : Fin 256, j ≠ i → t.prot.groups[j] = s.prot.groups[j]) ∧
    (g.unit.unanswered < 100000 → ∃ t, exec (.protFailTimeout i) s = .next t ∧ s.ChangesOnly t [])) ∧
  (∀ (id : BitVec 32) (x : Connection) (e : Endpoint) (u : ProtUnit), s.map.active.list.find? (fun y => y.id == id) = some x →
    x.protect = some e → s.prot.pairUnits.find? (fun y => y.1 == id) = some (id, u) → u.lo = false → u.fs = none →
    (∀ t0, u.sf[(1 : Fin 16)] = some t0 → t0 + u.hold[(1 : Fin 16)] ≤ s.clock.tick → u.sf[(0 : Fin 16)] = none →
      u.selected = 0 ∨ u.selected = 1 → ∃ t u', exec (.holdOffExpiry (.pair id) 1) s = .next t ∧ s.ChangesOnly t [.prot]
        ∧ t.prot.groups = s.prot.groups ∧ t.prot.pairUnits.find? (fun y => y.1 == id) = some (id, u')
        ∧ u'.request = .sfW ∧ u'.member = 1 ∧ u'.selected = 1) ∧
    (∀ v, u.wtr = some (1, v) → v ≤ s.clock.tick → (∀ k : Fin 16, u.sf[k] = none ∧ u.sd[k] = none) → u.selected = 1 → u.ms = none →
      u.dnr = none → ∃ t u', exec (.wtrExpiry (.pair id)) s = .next t ∧ s.ChangesOnly t [.prot] ∧ t.prot.groups = s.prot.groups
        ∧ t.prot.pairUnits.find? (fun y => y.1 == id) = some (id, u') ∧ u'.request = .nr ∧ u'.selected = 0))

/-- A tested plane goes ON, a drained one OFF, and a bank scrub counts or faults what it finds (R99, R107, R109, R356). -/
def Obligations.PlanesMoveThroughTheirStates : Prop := ∀ (s : State) (k : Fin 4),
  (∀ c, s.map.planes[k].mode = .testing → 65536 ≤ s.map.planes[k].passes → s.map.planes[k].commands = [c] →
    ∃ t, exec (.planeTestPassed k) s = .next t ∧ s.ChangesOnly t [.map, .channels] ∧ t.map.planes[k].mode = .on
      ∧ t.map.planes[k].commands = [] ∧ s.Ended t c .ok [BitVec.ofNat 8 PlaneMode.on.code] ∧ t.map.active = s.map.active
      ∧ t.map.shadow = s.map.shadow ∧ ∀ j : Fin 4, j ≠ k → t.map.planes[j] = s.map.planes[j]) ∧
  (s.map.planes[k].mode = .testing → s.map.planes[k].commands = [] → 65536 ≤ s.map.planes[k].passes →
    ∃ t, exec (.planeTestPassed k) s = .next t ∧ s.ChangesOnly t [.map] ∧ t.map.planes[k].mode = .on) ∧
  (s.map.planes[k].passes < 65536 → ∃ t, exec (.planeTestPassed k) s = .next t ∧ s.ChangesOnly t []) ∧
  (s.map.planes[k].mode = .draining → s.map.active.planesUsed.contains k.val = false →
    (s.map.shadowMode ≠ .scheduled ∧ s.map.swap = none) ∨ s.map.shadow.planesUsed.contains k.val = false →
    s.map.planes[k].commands = [] → s.pwr.waiting = [] → s.pwr.running = none → s.pwr.modes[planeDomain k] = .on →
    ∃ t, exec (.planeDrained k) s = .next t ∧ s.ChangesOnly t [.map, .pwr] ∧ t.map.planes[k].mode = .off
      ∧ (∃ w, t.pwr.waiting = [w] ∧ w.domain = planeDomain k ∧ w.target = .off) ∧ t.map.active = s.map.active) ∧
  (s.map.active.planesUsed.contains k.val = true → ∃ t, exec (.planeDrained k) s = .next t ∧ s.ChangesOnly t []) ∧
  (∃ t, exec (.bankScrub []) s = .next t ∧ s.ChangesOnly t []) ∧
  (∀ x : BankError, x.correctable = true → x.plane = some k → ∃ t, exec (.bankScrub [x]) s = .next t ∧ s.ChangesOnly t [.map, .perf]
    ∧ t.map = { s.map with corrected := s.map.corrected + 1 }) ∧
  (∀ x : BankError, x.correctable = false → x.active = true → x.plane = some k → ∃ t, exec (.bankScrub [x]) s = .next t
    ∧ s.ChangesOnly t [.map] ∧ t.map = { s.map with badPlanes := k :: s.map.badPlanes })

/-- A running map job ends READY with its bank, or fails with its reason and gives the shadow bank back to mirroring (R105,
R108, R131, R132, R133, R134, R135, R136, R140, R350, R438, R559). -/
def Obligations.MapJobsEndAsTheSolverAnswers : Prop := ∀ (s : State),
  (∀ j, s.map.shadowMode = .building → s.map.job = some j → s.solversFailed = false → s.noScratch = false →
    (∀ xs rearrange added, j.checked = some (.list xs rearrange added) →
      (∀ core : Fin 2, s.mgmt.solverFailed[core] = false → ∃ t, exec (.solverJobDone core) s = .next t ∧ s.ChangesOnly t [.map, .channels]
        ∧ t.map.active = s.map.active
        ∧ match (s.jobQuestion j xs rearrange added).answer with
          | some (.built b) => t.map.shadow = b ∧ t.map.shadowMode = .ready ∧ t.map.job = none
              ∧ s.Ended t j.command .ok (jobResults j.base 0 [] b.sharedPairs)
          | some (.failed reason st ids) => t.map.shadowMode = .mirroring ∧ t.map.job = none
              ∧ s.Ended t j.command st (jobResults j.base reason (ids.map (·.toNat)) 0)
          | none => t.map = s.map) ∧
      (j.raw = false → (s.jobQuestion j xs rearrange added).row = (400000, true) → s.map.solverDoubled = false →
        j.started + 400000 ≤ s.clock.tick →
        ∃ t, exec .solverTimeLimit s = .next t ∧ s.ChangesOnly t [.map, .channels] ∧ t.map.shadowMode = .mirroring
          ∧ t.map.job = none ∧ s.Ended t j.command .errResource (jobResults j.base 0x0D [] 0)) ∧
      ((s.jobQuestion j xs rearrange added).row.2 = false → ∃ t, exec .solverTimeLimit s = .next t ∧ s.ChangesOnly t [])) ∧
    (∀ (core : Fin 2) f, s.mgmt.solverFailed[core] = false → j.raw = false → j.checked = some (.bad f) →
      ∃ t, exec (.solverJobDone core) s = .next t ∧ s.ChangesOnly t [.map, .channels]
      ∧ t.map.shadowMode = .mirroring ∧ t.map.job = none ∧ s.Ended t j.command f.status (jobResults j.base f.reason f.offenders 0)) ∧
    (∀ b, j.checked = some (.raw b) → ∃ t, exec .rawMapVerified s = .next t ∧ s.ChangesOnly t [.map, .channels]
      ∧ t.map.shadow = b ∧ t.map.shadowMode = .ready ∧ t.map.job = none ∧ t.map.active = s.map.active
      ∧ s.Ended t j.command .ok (jobResults j.base 0 [] b.sharedPairs)) ∧
    (∀ f, j.raw = true → j.checked = some (.bad f) → ∃ t, exec .rawMapVerified s = .next t ∧ s.ChangesOnly t [.map, .channels]
      ∧ t.map.shadowMode = .mirroring ∧ s.Ended t j.command f.status (jobResults j.base f.reason f.offenders 0))) ∧
  (∀ q b, SolverQuestion.answer q = some (.built b) → b.list = q.list ∧ q.onPlanes b = true ∧ b.twoPositions = true
    ∧ (q.planesOn.length = 4 → b.pairsApart = true)) ∧
  (∀ q reason st ids, SolverQuestion.answer q = some (.failed reason st ids) → q.guaranteed = false
    ∧ ((reason = 0x0B ∧ q.rearrange = false) ∨ (reason = 0x0C ∧ q.holds = false) ∨ reason = 0x0E ∨ (reason = 0x0F ∧ st = .errUnusable))) ∧
  (s.map.shadowMode = .held → s.map.swap = none → s.casc.staged = none → s.casc.mode = .standalone → s.solversFailed = false →
    s.noScratch = false → ∀ core : Fin 2, s.mgmt.solverFailed[core] = false → ∃ t, exec (.solverJobDone core) s = .next t ∧ t.map.active = s.map.active
      ∧ match s.rerouteQuestion.answer with
        | some (.built b) => s.ChangesOnly t [.map] ∧ t.map.shadow = b
            ∧ t.map.swap = some { frame := s.earliestSwap, persist := false, command := none, latched := false }
        | some (.failed _ _ _) => t.map.shadowMode = .mirroring ∧ t.map.rerouteWanted = false
        | none => t.map = s.map) ∧
  (∀ core : Fin 2, s.mgmt.solverFailed[core] = true → s.solversFailed = false → ∃ t, exec (.solverJobDone core) s = .next t ∧ s.ChangesOnly t []) ∧
  (s.map.shadowMode = .mirroring → (s.map.rerouteWanted && s.host.service == 2) = false → ∀ q, s.map.queued = q →
    ∃ t, exec .mirroringDone s = .next t ∧ t.map.shadow = s.map.active ∧ t.map.active = s.map.active
      ∧ (q = none → s.ChangesOnly t [.map] ∧ t.map.shadowMode = .mirror)
      ∧ (∀ j, q = some j → s.ChangesOnly t [.map, .channels] ∧ t.map.shadowMode = .building ∧ t.map.queued = none
          ∧ ∃ j', t.map.job = some j' ∧ j'.command = j.command ∧ j'.base = s.map.active.generation)) ∧
  (s.map.shadowMode = .mirroring → s.map.rerouteWanted = true → s.host.service = 2 → ∃ t, exec .mirroringDone s = .next t
    ∧ s.ChangesOnly t [.map] ∧ t.map.shadowMode = .held ∧ t.map.shadow = s.map.active ∧ t.map.queued = s.map.queued) ∧
  (∀ (i : Fin 2) (j : MapJob), s.map.job = some j → s.mgmt.solverFailed[1 - i] = true → ∃ t, exec (.solverCoreFailure i) s = .next t
    ∧ s.ChangesOnly t [.map, .mgmt, .channels] ∧ t.mgmt.solverFailed[i] = true ∧ t.map.shadowMode = .mirroring ∧ t.map.job = none
    ∧ s.Ended t j.command .errUnusable (jobResults j.base 0 [] 0)) ∧
  (∀ (i : Fin 2) (j : MapJob), s.map.job = some j → s.mgmt.solverFailed[1 - i] = false → ∃ t, exec (.solverCoreFailure i) s = .next t
    ∧ s.ChangesOnly t [.map, .mgmt, .channels] ∧ t.mgmt.solverFailed[i] = true ∧ t.map.solverDoubled = true
    ∧ ∃ j', t.map.job = some j' ∧ j'.command = j.command ∧ j'.started = s.clock.tick + 1) ∧
  (∀ i : Fin 2, s.mgmt.solverFailed[i] = true → s.map.job = none → ∃ t, exec (.solverCoreRepair i) s = .next t
    ∧ s.ChangesOnly t [.map, .mgmt] ∧ t.mgmt.solverFailed[i] = false
    ∧ t.mgmt.solverFailed[1 - i] = s.mgmt.solverFailed[1 - i] ∧ t.map.solverDoubled = s.mgmt.solverFailed[1 - i]) ∧
  (∀ i : Fin 2, s.map.job ≠ none → ∃ t, exec (.solverCoreRepair i) s = .next t ∧ s.ChangesOnly t [])

/-- A swap is latched, exchanges the banks, ends its command when its frame has left, and a persistent write ends (R19, R101,
R136, R142, R147, R148, R355). -/
def Obligations.SwapsExchangeTheBanks : Prop := ∀ (s : State),
  (∀ w, s.map.swap = some w →
    (w.frame ≤ s.clock.frame + 7 → ∃ t, exec .swapLatch s = .next t ∧ s.ChangesOnly t [.map]
      ∧ t.map = { s.map with swap := some { w with latched := true } }) ∧
    (s.clock.frame + 7 < w.frame → ∃ t, exec .swapLatch s = .next t ∧ s.ChangesOnly t []) ∧
    (w.frame ≤ s.clock.frame + 1 → ∃ t, exec .swapTakesPlace s = .next t ∧ s.ChangesOnly t [.map, .prot]
      ∧ t.map.active = { s.map.shadow with generation := s.map.active.generation + 1 } ∧ t.map.shadow = s.map.active
      ∧ t.map.shadowMode = .mirroring ∧ t.map.mirrorSince = s.clock.tick ∧ t.map.swap = none ∧ t.map.leaving = some w
      ∧ t.map.persisting = (if w.persist = true ∧ s.map.persisting = none
          then some { s.map.shadow with generation := s.map.active.generation + 1 } else s.map.persisting)
      ∧ t.prot.groups = s.prot.groups
      ∧ t.prot.pairUnits = s.prot.pairUnits.filter (fun x =>
          keepsPair s.map.active { s.map.shadow with generation := s.map.active.generation + 1 } x.1)) ∧
    (s.clock.frame + 1 < w.frame → ∃ t, exec .swapTakesPlace s = .next t ∧ s.ChangesOnly t [])) ∧
  (∀ w, s.map.leaving = some w → s.casc.staged = none →
    (s.clock.frame < w.frame → ∃ t, exec .swapComplete s = .next t ∧ s.ChangesOnly t []) ∧
    (w.frame ≤ s.clock.frame → ∃ t, exec .swapComplete s = .next t ∧ s.ChangesOnly t [.map, .channels] ∧ t.map.leaving = none
      ∧ t.map.active = s.map.active ∧ t.map.shadow = s.map.shadow
      ∧ t.map.persisting = s.map.persisting
      ∧ (w.command = none → s.ChangesOnly t [.map])
      ∧ ∀ c, w.command = some c → s.Ended t c .ok (leBytes 8 w.frame.toNat ++ leBytes 8 s.map.active.generation.toNat))) ∧
  (∀ b, s.map.persisting = some b →
    (s.map.persistWaits = [] → ∃ t, exec .persistDone s = .next t ∧ s.ChangesOnly t [.map] ∧ t.map.persisting = none
      ∧ t.map.copies = s.map.copies.set s.writtenSlot (some (.of b)) ∧ t.map.active = s.map.active) ∧
    (∀ c e, s.map.persistWaits = [(c, b.generation)] → (s.chan c.channel).recorded c.token = some e →
      ∃ t, exec .persistDone s = .next t ∧ s.ChangesOnly t [.map, .channels] ∧ t.map.persisting = none
        ∧ t.map.copies = s.map.copies.set s.writtenSlot (some (.of b)) ∧ t.map.persistWaits = []
        ∧ (e.opcode = 0x0309 → e.persist = false → s.Ended t c .ok (leBytes 8 b.generation.toNat))
        ∧ (e.opcode ≠ 0x0309 → e.persist = true → e.status = .ok → ∃ e', (t.chan c.channel).recorded c.token = some e'
            ∧ e'.status = .committed ∧ e'.durable = true))) ∧
  (s.map.swap = none → ∃ t, exec .swapTakesPlace s = .next t ∧ s.ChangesOnly t []) ∧
  (s.map.persisting = none → ∃ t, exec .persistDone s = .next t ∧ s.ChangesOnly t [])

/-- A checked recipe set becomes READY or is refused, a due swap puts it in force, and a persistent write commits it (R182,
R196, R197, R198, R374, R375). -/
def Obligations.RecipeBankEventsFollowTheirRules : Prop := ∀ (s : State),
  (∀ l bs, s.ember.load = some l → l.data = some bs →
    (∀ x, checkRecipeSet bs l.formats = .ok x → ∃ t, exec .recipeCheckDone s = .next t ∧ s.ChangesOnly t [.ember, .channels]
      ∧ t.ember = { s.ember with load := none, shadow := some x, shadowMode := .ready } ∧ s.Ended t l.command .ok []) ∧
    (∀ f, checkRecipeSet bs l.formats = .error f → ∃ t, exec .recipeCheckDone s = .next t ∧ s.ChangesOnly t [.ember, .channels]
      ∧ t.ember = { s.ember with load := none, shadowMode := if s.ember.shadow.isSome then .ready else .empty }
      ∧ s.Ended t l.command f.status [])) ∧
  (s.ember.load = none → ∃ t, exec .recipeCheckDone s = .next t ∧ s.ChangesOnly t []) ∧
  (∀ w new, s.ember.swap = some w → s.ember.shadow = some new →
    (w.frame ≤ s.clock.frame → ∃ t, exec .recipeSwapTakesPlace s = .next t ∧ s.ChangesOnly t [.ember, .channels, .requests]
      ∧ t.ember.active = new ∧ t.ember.generation = s.ember.generation + 1 ∧ t.ember.shadow = none ∧ t.ember.shadowMode = .empty
      ∧ t.ember.swap = none ∧ t.ember.persisted = s.ember.persisted
      ∧ t.ember.persistWaits = (if w.persist then s.ember.persistWaits ++ [⟨w.command, new, s.ember.generation + 1⟩] else s.ember.persistWaits)
      ∧ s.Ended t w.command .ok (leBytes 8 w.frame.toNat ++ leBytes 4 (s.ember.generation + 1).toNat ++ zeros 4)) ∧
    (s.clock.frame < w.frame → ∃ t, exec .recipeSwapTakesPlace s = .next t ∧ s.ChangesOnly t [])) ∧
  (∀ w rest e, s.ember.persistWaits = w :: rest → (s.chan w.command.channel).recorded w.command.token = some e → e.persist = true →
    e.status = .ok → ∃ t, exec .recipePersistDone s = .next t ∧ s.ChangesOnly t [.ember, .channels]
      ∧ t.ember = { s.ember with persisted := some (w.set, w.generation), persistWaits := rest }
      ∧ ∃ e', (t.chan w.command.channel).recorded w.command.token = some e' ∧ e'.status = .committed ∧ e'.stage = stageCommitment) ∧
  (s.ember.persistWaits = [] → ∃ t, exec .recipePersistDone s = .next t ∧ s.ChangesOnly t [])

/-- A closed dwell is processed into at most one spark, and a finished interval into one record with the next SEQUENCE (R180,
R187, R190, R192, R193, R200, R203, R204, R207, R376). -/
def Obligations.EmberEnginesMeasureAndReport : Prop := ∀ (s : State) (e : Fin 1024),
  (∀ u d rest r, s.ember.engines[e].units = [u] → u.closed = d :: rest → s.ember.active.recipe u.recipe = some r →
    ∀ f, f = (s.port (enginePort e)).settings.inFormats[(⟨u.unit.val / 4, by omega⟩ : Fin 256)] →
    ∃ t, exec (.dwellEnd e) s = .next t ∧ s.ChangesOnly t [.ember]
      ∧ t.ember.engines[e].units = [(u.process (enginePort e) r f).1]
      ∧ ((u.process (enginePort e) r f).2 = none → t.ember.engines[e].fifo = s.ember.engines[e].fifo
          ∧ t.ember.engines[e].sparks = s.ember.engines[e].sparks)
      ∧ (∀ x, (u.process (enginePort e) r f).2 = some x → s.ember.engines[e].fifo = [] → t.ember.engines[e].fifo = [x]
          ∧ t.ember.engines[e].sparks = s.ember.engines[e].sparks + 1)
      ∧ (∀ x y ys, (u.process (enginePort e) r f).2 = some x → s.ember.engines[e].fifo = y :: ys →
          (s.pwr.modes[clusterDomain (engineCluster e)] = .on → t.ember.engines[e].fifo = ys ++ [x]
            ∧ t.ember.engines[e].collected = s.ember.engines[e].collected ++ [y]
            ∧ t.ember.engines[e].sparks = s.ember.engines[e].sparks + 1) ∧
          (s.pwr.modes[clusterDomain (engineCluster e)] ≠ .on → s.ember.engines[e].fifo.length < 16 →
            t.ember.engines[e].fifo = s.ember.engines[e].fifo ++ [x] ∧ t.ember.engines[e].sparks = s.ember.engines[e].sparks + 1
              ∧ t.ember.engines[e].refused = s.ember.engines[e].refused) ∧
          (s.pwr.modes[clusterDomain (engineCluster e)] ≠ .on → 16 ≤ s.ember.engines[e].fifo.length →
            t.ember.engines[e].fifo = s.ember.engines[e].fifo ∧ t.ember.engines[e].refused = s.ember.engines[e].refused + 1))
      ∧ ∀ j : Fin 1024, j ≠ e → t.ember.engines[j] = s.ember.engines[j]) ∧
  (s.ember.engines[e].units = [] → (∃ t, exec (.dwellEnd e) s = .next t ∧ s.ChangesOnly t [])
    ∧ ∃ t, exec (.reportIntervalEnd e) s = .next t ∧ s.ChangesOnly t []) ∧
  (∀ i r u d, s.ember.active.recipes = [(i, r)] → s.ember.engines[e].units = [u] → u.recipe = i → u.done = [d] →
    s.ember.staging = [] → s.ember.buffers = [] →
    ∃ t, exec (.reportIntervalEnd e) s = .next t ∧ s.ChangesOnly t [.ember] ∧ t.ember.engines[e].units = [{ u with done := [] }]
      ∧ (r.moments = false → r.derived = false → t.ember.staging = []
          ∧ t.ember.engines[e].sequence = s.ember.engines[e].sequence)
      ∧ (r.moments = true ∨ r.derived = true → t.ember.engines[e].sequence = s.ember.engines[e].sequence + 1
          ∧ t.ember.engines[e].lost = 0 ∧ t.ember.engines[e].written = s.ember.engines[e].written + 1
          ∧ ∃ x, t.ember.staging = [x] ∧ x.engine = e ∧ x.bytes.length = 48 + 32 * bit r.moments + 16 * bit r.derived
            ∧ field x.bytes 2 2 = e.val ∧ field x.bytes 4 1 = i.val ∧ field x.bytes 6 2 = 1
            ∧ field x.bytes 8 4 = s.ember.engines[e].sequence.toNat ∧ field x.bytes 12 4 = s.ember.engines[e].lost.toNat
            ∧ field x.bytes 16 8 = d.first.toNat ∧ field x.bytes 24 8 = d.last.toNat)) ∧
  (s.ember.engines[e].tinderDone = [] → ∃ t, exec (.tinderDwellEnd e) s = .next t ∧ s.ChangesOnly t []) ∧
  (∀ d rest, s.ember.engines[e].tinderDone = d :: rest → d.sums ≠ [] → s.ember.staging = [] → s.ember.buffers = [] →
    ∃ t x, exec (.tinderDwellEnd e) s = .next t ∧ s.ChangesOnly t [.ember] ∧ t.ember.engines[e].tinderDone = rest
      ∧ t.ember.engines[e].sequence = s.ember.engines[e].sequence + 1 ∧ t.ember.staging = [x] ∧ x.engine = e
      ∧ x.bytes.length = 1584 ∧ field x.bytes 0 1 = 4 ∧ field x.bytes 16 8 = d.first.toNat ∧ field x.bytes 24 8 = d.last.toNat) ∧
  (∀ b, s.ember.buffers = [b] → s.ember.staging = [] →
    (0 < b.records → b.firstAt + 20000 ≤ s.clock.tick → ∃ t x, exec .recordBufferTimeout s = .next t
      ∧ s.ChangesOnly t [.ember, .requests] ∧ t.ember = { s.ember with buffers := [] } ∧ t.host.waiting = s.host.waiting ++ [x]
      ∧ x.request.channel = b.command.channel ∧ x.request.token = b.command.token
      ∧ x.wait = .output b.filled (leBytes 4 b.filled.length ++ leBytes 4 b.records)) ∧
    (b.records = 0 ∨ s.clock.tick < b.firstAt + 20000 → ∃ t, exec .recordBufferTimeout s = .next t ∧ s.ChangesOnly t [])) ∧
  (s.ember.buffers = [] → ∃ t, exec .recordBufferTimeout s = .next t ∧ s.ChangesOnly t [])

/-- An engine's fault and its spare, a cluster's end of loading, and a spark's arrival act as stated (R193, R205, R206, R210,
R212, R377). -/
def Obligations.EnginesFaultAndSparksArrive : Prop := ∀ (s : State),
  (∀ e : Fin 1024, s.ember.engines[e].out = false → ∃ t, exec (.engineFault e) s = .next t ∧ s.ChangesOnly t [.ember]
    ∧ t.ember.engines[e].out = true ∧ t.ember.engines[e].units = []
    ∧ t.ember.engines[e].lostTotal = s.ember.engines[e].lostTotal + BitVec.ofNat 48 (s.ember.engines[e].unwritten s.ember.active) ∧ t.ember.engines[e].fifo = s.ember.engines[e].fifo
    ∧ s.ember.engines[e].physical ∈ t.ember.clusters[engineCluster e].faulty
    ∧ t.ember.clusters[engineCluster e].mode = s.ember.clusters[engineCluster e].mode
    ∧ ∀ j : Fin 1024, j ≠ e → t.ember.engines[j] = s.ember.engines[j]) ∧
  (∀ e : Fin 1024, s.ember.engines[e].out = true → ∃ t, exec (.engineFault e) s = .next t ∧ s.ChangesOnly t []) ∧
  (∀ (e : Fin 1024) (x : Fin 132), s.ember.engines[e].out = true → s.spareEngine (engineCluster e) = some x →
    ∃ t, exec (.spareInService e) s = .next t ∧ s.ChangesOnly t [.ember] ∧ t.ember.engines[e].out = false
      ∧ t.ember.engines[e].physical = x ∧ ∀ j : Fin 1024, j ≠ e → t.ember.engines[j] = s.ember.engines[j]) ∧
  (∀ e : Fin 1024, s.ember.engines[e].out = false ∨ s.spareEngine (engineCluster e) = none →
    ∃ t, exec (.spareInService e) s = .next t ∧ s.ChangesOnly t []) ∧
  (∀ c : Fin 8, s.ember.clusters[c].mode = .loading → ∃ t, exec (.clusterLoadingDone c) s = .next t
    ∧ s.ChangesOnly t [.ember, .channels] ∧ t.ember.clusters[c].mode = .running ∧ t.ember.clusters[c].lastChange = s.firstRead
    ∧ t.ember.clusters[c].restart = none ∧ t.ember.active = s.ember.active
    ∧ (∀ r, s.ember.clusters[c].restart = some r → s.Ended t r .ok (leBytes 8 s.firstRead.toNat))
    ∧ ∀ d : Fin 8, d ≠ c → t.ember.clusters[d] = s.ember.clusters[d]) ∧
  (∀ c : Fin 8, s.ember.clusters[c].mode ≠ .loading → ∃ t, exec (.clusterLoadingDone c) s = .next t ∧ s.ChangesOnly t []) ∧
  (∀ e : Fin 1024, s.ember.engines[e].fifo = [] → s.ember.engines[e].collected = [] →
    ∃ t, exec (.sparkArrival e) s = .next t ∧ s.ChangesOnly t []) ∧
  (∀ (e : Fin 1024) (x : Spark) (g : Engine) (k : Fin 64) (ch : ChannelEntry), s.ember.engines[e].nextSpark = some (x, g) →
    s.cap.active.channels = [(k, ch)] → ch.matches x = true →
    ∃ t, exec (.sparkArrival e) s = .next t ∧ s.ChangesOnly t [.ember, .cap, .perf] ∧ t.ember.engines[e] = g
      ∧ (∀ y ys, s.ember.engines[e].collected = y :: ys → x = y ∧ g.collected = ys ∧ g.fifo = s.ember.engines[e].fifo)
      ∧ (∀ y ys, s.ember.engines[e].collected = [] → s.ember.engines[e].fifo = y :: ys → x = y ∧ g.collected = [] ∧ g.fifo = ys)
      ∧ (s.cap.channels[k].mode = .disarmed → t.cap.channels[k].history = s.cap.channels[k].history ++ [x])
      ∧ (s.cap.channels[k].mode ≠ .disarmed → s.cap.channels[k].decided = none → s.clock.frame.toNat < x.frame.toNat + 1 + ch.settle →
          t.cap.channels[k].history = s.cap.channels[k].history ++ [x] ∧ t.cap.channels[k].counters = s.cap.channels[k].counters)
      ∧ (s.cap.channels[k].mode ≠ .disarmed → x.frame.toNat + 1 + ch.settle ≤ s.clock.frame.toNat →
          t.cap.channels[k].history = s.cap.channels[k].history
          ∧ t.cap.channels[k].counters[7] = s.cap.channels[k].counters[7] + 1))

/-- A checked trigger bank becomes READY or is refused, a due swap puts it in force, and a persistent write commits it (R220,
R221, R222, R225, R380). -/
def Obligations.TriggerBankEventsFollowTheirRules : Prop := ∀ (s : State),
  (∀ l bs, s.cap.load = some l → l.data = some bs →
    (∀ b, checkTriggerBank s l bs = .ok b → ∃ t, exec .triggerCheckDone s = .next t ∧ s.ChangesOnly t [.cap, .channels]
      ∧ t.cap = { s.cap with load := none, shadow := some b, shadowMode := .ready } ∧ s.Ended t l.command .ok []) ∧
    (∀ f, checkTriggerBank s l bs = .error f → ∃ t, exec .triggerCheckDone s = .next t ∧ s.ChangesOnly t [.cap, .channels]
      ∧ t.cap = { s.cap with load := none, shadowMode := if s.cap.shadow.isSome then .ready else .empty }
      ∧ s.Ended t l.command f.status [])) ∧
  (s.cap.load = none → ∃ t, exec .triggerCheckDone s = .next t ∧ s.ChangesOnly t []) ∧
  (∀ w new, s.cap.swap = some w → s.cap.shadow = some new →
    (w.frame ≤ s.clock.frame → (∀ k : Fin 64, s.cap.channels[k].host = none ∧ s.cap.channels[k].waiting = none
        ∧ s.cap.channels[k].pins.all (fun x => decide (w.frame.toNat ≤ x.1.toNat + 2)) = true
        ∧ w.frame.toNat ≤ (s.cap.channels[k].nextFrame.map fun f => f.toNat + 1 + ((s.cap.active.channel k).map (·.settle)).getD 0).getD w.frame.toNat) →
      ∃ t, exec .triggerSwapTakesPlace s = .next t
      ∧ s.ChangesOnly t [.cap, .channels, .gpio] ∧ t.cap.active = new ∧ t.cap.generation = s.cap.generation + 1
      ∧ t.cap.shadow = none ∧ t.cap.shadowMode = .empty ∧ t.cap.swap = none
      ∧ (∀ k : Fin 64, s.cap.active.channel k = new.channel k → t.cap.channels[k] = s.cap.channels[k])
      ∧ (∀ k : Fin 64, s.cap.active.channel k ≠ new.channel k → t.cap.channels[k].history = []
          ∧ t.cap.channels[k].mode = if s.cap.channels[k].mode ≠ .disarmed ∧ (new.channel k).isSome = true then .armed else .disarmed)
      ∧ t.cap.persistWaits = (if w.persist then s.cap.persistWaits ++ [⟨w.command, new, s.cap.generation + 1⟩] else s.cap.persistWaits)
      ∧ (s.cap.active.set ≠ new.set ∨ s.cap.active.ringGib ≠ new.ringGib → t.cap.ringStart = w.frame ∧ t.cap.ring = [])
      ∧ (s.cap.active.set = new.set → s.cap.active.ringGib = new.ringGib → t.cap.ringStart = s.cap.ringStart
          ∧ t.cap.ring = s.cap.ring)
      ∧ s.Ended t w.command .ok (leBytes 8 w.frame.toNat ++ leBytes 4 (s.cap.generation + 1).toNat ++ zeros 4)) ∧
    (s.clock.frame < w.frame → ∃ t, exec .triggerSwapTakesPlace s = .next t ∧ s.ChangesOnly t [])) ∧
  (∀ w rest e, s.cap.persistWaits = w :: rest → (s.chan w.command.channel).recorded w.command.token = some e → e.persist = true →
    e.status = .ok → ∃ t, exec .triggerPersistDone s = .next t ∧ s.ChangesOnly t [.cap, .channels] ∧ t.cap.persistWaits = rest
      ∧ (∃ armed, t.cap.persisted = some (w.bank, w.generation, armed)
          ∧ ∀ k : Fin 64, armed.getLsbD k.val = decide (s.cap.channels[k].mode ≠ .disarmed))
      ∧ ∃ e', (t.chan w.command.channel).recorded w.command.token = some e' ∧ e'.status = .committed ∧ e'.stage = stageCommitment) ∧
  (s.cap.persistWaits = [] → ∃ t, exec .triggerPersistDone s = .next t ∧ s.ChangesOnly t [])

/-- A due term makes a trigger, which an ARMED channel accepts and a channel in REARM keeps, and REARM ends at E (R211, R213,
R215, R216, R227, R228, R229, R382). -/
def Obligations.TriggersAreDecidedAndAccepted : Prop := ∀ (s : State) (k : Fin 64) (ch : ChannelEntry),
  s.cap.active.channel k = some ch → ch.gate = false → s.marked 4 0 = false →
  (∀ f, s.cap.channels[k].mode ≠ .disarmed → s.cap.channels[k].nextFrame = some f → f.toNat + 1 + ch.settle ≤ s.clock.frame.toNat →
    (((s.cap.channels[k].history.filter (fun x => f.toNat < x.frame.toNat + ch.window)).filter (fun x => x.frame ≤ f)).map
      (Spark.keyOf ch.key)).eraseDups.length < ch.k → ∃ t, exec (.sparkDecision k) s = .next t ∧ s.ChangesOnly t [.cap]
      ∧ t.cap.channels[k].decided = some f ∧ t.cap.channels[k].mode = s.cap.channels[k].mode
      ∧ t.cap.channels[k].counters = s.cap.channels[k].counters ∧ t.cap.captures = s.cap.captures) ∧
  (∀ f, s.cap.channels[k].nextFrame = some f → s.clock.frame.toNat < f.toNat + 1 + ch.settle →
    ∃ t, exec (.sparkDecision k) s = .next t ∧ s.ChangesOnly t []) ∧
  (∀ h, s.cap.channels[k].host = some h → s.clock.frame < h.due →
    ∃ t, exec (.hostTriggerDecision k) s = .next t ∧ s.ChangesOnly t []) ∧
  (∀ h, s.cap.channels[k].host = some h → h.due ≤ s.clock.frame → s.cap.channels[k].created.any (fun x => x.1 == h.frame) = false →
    (s.cap.channels[k].mode = .armed → s.missReason ⟨h.frame, .host h.command, 4, []⟩ = none →
      ∃ t, exec (.hostTriggerDecision k) s = .next t ∧ s.ChangesOnly t [.cap, .channels, .perf, .fresh]
        ∧ t.cap.channels[k].mode = .rearm ∧ t.cap.channels[k].host = none
        ∧ t.cap.channels[k].counters[0] = s.cap.channels[k].counters[0] + 1 ∧ t.cap.nextSequence = s.cap.nextSequence + 1
        ∧ t.cap.channels[k].rearmEnd = BitVec.ofNat 64 (h.frame.toNat + ch.post + ch.rearm + 2)
        ∧ s.Ended t h.command .ok (leBytes 8 h.frame.toNat ++ leBytes 1 0 ++ leBytes 1 0 ++ zeros 6 ++ leBytes 8 s.cap.nextSequence)) ∧
    (s.cap.channels[k].mode = .rearm → s.cap.channels[k].waiting = none →
      ∃ t, exec (.hostTriggerDecision k) s = .next t ∧ s.ChangesOnly t [.cap] ∧ t.cap.channels[k].mode = .rearm
        ∧ t.cap.channels[k].host = none ∧ t.cap.channels[k].waiting = some ⟨h.frame, .host h.command, 4, []⟩
        ∧ t.cap.captures = s.cap.captures)) ∧
  (∀ f i rest, s.cap.channels[k].pins = (f, i) :: rest →
    (s.clock.frame.toNat < f.toNat + 2 → ∃ t, exec (.pinDecision k) s = .next t ∧ s.ChangesOnly t []) ∧
    (f.toNat + 2 ≤ s.clock.frame.toNat → s.cap.channels[k].mode = .armed →
      ch.pin = true → s.cap.channels[k].created.any (fun x => x.1 == f) = false → s.missReason ⟨f, .pin i, 2, []⟩ = none →
      ∃ t, exec (.pinDecision k) s = .next t ∧ s.ChangesOnly t [.cap, .perf, .fresh] ∧ t.cap.channels[k].mode = .rearm
        ∧ t.cap.channels[k].pins = rest ∧ t.cap.nextSequence = s.cap.nextSequence + 1
        ∧ t.cap.channels[k].counters[0] = s.cap.channels[k].counters[0] + 1) ∧
    (f.toNat + 2 ≤ s.clock.frame.toNat → s.cap.channels[k].mode = .armed →
      ch.pin = true → s.cap.channels[k].created.any (fun x => x.1 == f) = true →
      ∃ t, exec (.pinDecision k) s = .next t ∧ s.ChangesOnly t [.cap] ∧ t.cap.channels[k].mode = .armed
        ∧ t.cap.channels[k].counters[6] = s.cap.channels[k].counters[6] + 1 ∧ t.cap.nextSequence = s.cap.nextSequence) ∧
    (f.toNat + 2 ≤ s.clock.frame.toNat → ch.pin = false → ∃ t, exec (.pinDecision k) s = .next t ∧ s.ChangesOnly t [.cap]
      ∧ t.cap.channels = s.cap.channels.set k { s.cap.channels[k] with pins := rest } ∧ t.cap.nextSequence = s.cap.nextSequence)) ∧
  (s.cap.channels[k].mode = .rearm →
    (s.clock.frame < s.cap.channels[k].rearmEnd → ∃ t, exec (.rearmEnd k) s = .next t ∧ s.ChangesOnly t []) ∧
    (s.cap.channels[k].rearmEnd ≤ s.clock.frame → s.cap.channels[k].waiting = none → ∃ t, exec (.rearmEnd k) s = .next t
      ∧ s.ChangesOnly t [.cap] ∧ t.cap.channels[k].mode = .armed ∧ t.cap.channels[k].counters = s.cap.channels[k].counters) ∧
    (∀ x, s.cap.channels[k].rearmEnd ≤ s.clock.frame → s.cap.channels[k].waiting = some x → s.missReason x = none →
      ∃ t, exec (.rearmEnd k) s = .next t ∧ s.ChangesOnly t [.cap, .channels, .perf, .fresh] ∧ t.cap.channels[k].mode = .rearm
        ∧ t.cap.channels[k].waiting = none ∧ t.cap.nextSequence = s.cap.nextSequence + 1)) ∧
  (∀ i : Fin 8, s.gpio[(⟨i.val, by omega⟩ : Fin 32)].function ≠ .trigIn → ∃ t, exec (.trigInEdge i) s = .next t ∧ s.ChangesOnly t []) ∧
  (∀ i : Fin 8, s.gpio[(⟨i.val, by omega⟩ : Fin 32)].function = .trigIn → s.cap.active.channels = [(k, ch)] →
    s.cap.channels[k].pins = [] → ∃ t, exec (.trigInEdge i) s = .next t ∧ s.ChangesOnly t [.cap]
      ∧ t.cap.channels[k].pins = (if ch.pin = true ∧ ch.pinMask.getLsbD i.val = true then [(s.clock.frame, i)] else [])
      ∧ t.cap.channels[k].mode = s.cap.channels[k].mode) ∧
  (∀ o : Fin 8, s.cap.channels[k].pulseAt = some (s.clock.tick, o) →
    s.gpio[(⟨8 + o.val, by omega⟩ : Fin 32)].function = .trigOut → ∃ t, exec (.trigOutPulse o) s = .next t ∧ s.ChangesOnly t [.gpio]
      ∧ t.gpio[(⟨8 + o.val, by omega⟩ : Fin 32)].level = true
      ∧ ∀ j : Fin 32, j.val ≠ 8 + o.val → t.gpio[j] = s.gpio[j]) ∧
  (∀ o : Fin 8, s.gpio[(⟨8 + o.val, by omega⟩ : Fin 32)].function ≠ .trigOut →
    ∃ t, exec (.trigOutPulse o) s = .next t ∧ s.ChangesOnly t [])

/-- The completion of a drive's commands, a drive's failure, a rebuild and a checkpoint act as stated (R232, R233, R236, R237,
R238, R387, R391). -/
def Obligations.StoreCommandsAndDrivesFollowTheirRules : Prop := ∀ (s : State),
  (∀ cid, s.cap.commands.find? (fun b => b.cid == cid) = none → ∃ t, exec (.nvmeCommandComplete cid) s = .next t ∧ s.ChangesOnly t []) ∧
  (∀ b b', s.cap.commands = [b, b'] → b'.cid ≠ b.cid → b'.task = b.task → s.cap.queued = [] →
    ∃ t, exec (.nvmeCommandComplete b.cid) s = .next t ∧ s.ChangesOnly t [.cap, .perf] ∧ t.cap = { s.cap with commands := [b'] }) ∧
  (∀ b, s.cap.commands = [b] → s.cap.queued = [] →
    (∀ n c e, b.task = .declare n c → (s.chan c.channel).recorded c.token = some e → e.persist = false →
      ∃ t, exec (.nvmeCommandComplete b.cid) s = .next t ∧ s.ChangesOnly t [.cap, .channels, .perf]
        ∧ t.cap = { s.cap with commands := [], undo := s.cap.undo.filter (fun u => u.1 != c) }
        ∧ s.Ended t c .ok (leBytes 8 s.cap.namespaces[n].capacity)) ∧
    (∀ r, b.task = .read r → ∃ t x, exec (.nvmeCommandComplete b.cid) s = .next t ∧ s.ChangesOnly t [.cap, .requests, .perf]
      ∧ t.cap = { s.cap with commands := [] } ∧ t.host.waiting = s.host.waiting ++ [x] ∧ x.request = r
      ∧ x.wait = .output (s.readBytes r) (leBytes 4 (r.u 24 4) ++ zeros 4)) ∧
    (∀ c o, b.task = .object c.sequence → s.cap.captures = [c] → c.step = .flushTwo → c.built = some o → c.failing = none →
      ∃ t, exec (.nvmeCommandComplete b.cid) s = .next t ∧ s.ChangesOnly t [.cap, .perf] ∧ t.cap.captures = []
        ∧ t.cap.namespaces[c.entry.namespace_].objects = s.cap.namespaces[c.entry.namespace_].objects ++ [{ o with pinned := c.pinned }]
        ∧ t.cap.bytesStored = s.cap.bytesStored + o.length
        ∧ ∀ n : Fin 32, n ≠ c.entry.namespace_ → t.cap.namespaces[n] = s.cap.namespaces[n]) ∧
    (∀ n i, b.task = .checkpoint n i → s.cap.namespaces[n].mode ≠ .undeclared → ∃ t, exec (.nvmeCommandComplete b.cid) s = .next t
      ∧ s.ChangesOnly t [.cap, .perf]
      ∧ t.cap.namespaces[n].checkpoints = (if i.number % 2 = 0 then s.cap.namespaces[n].checkpoints.set 0 (some i)
          else s.cap.namespaces[n].checkpoints.set 1 (some i))
      ∧ t.cap.namespaces[n].objects = s.cap.namespaces[n].objects)) ∧
  (∀ d : Fin 16, s.cap.driveFailed[d] = true ∨ s.cap.drives.entries.any (fun e => e.drive == d) = false →
    ∃ t, exec (.driveWriteError d) s = .next t ∧ s.ChangesOnly t []) ∧
  (∀ d : Fin 16, s.cap.driveFailed[d] = false → s.cap.drives.entries.any (fun e => e.drive == d) = true →
    s.cap.captures = [] → s.cap.commands = [] → s.cap.queued = [] → ∃ t, exec (.driveWriteError d) s = .next t ∧ s.ChangesOnly t [.cap]
      ∧ t.cap.driveFailed = s.cap.driveFailed.set d true
      ∧ ∀ (n : Fin 32) (m : Nat), s.cap.namespaces[n].members.findIdx? (fun x => x.1 == d) = some m →
          s.cap.namespaces[n].mode = .ok → s.cap.namespaces[n].failed = [] →
          t.cap.namespaces[n].failed = [m]
            ∧ t.cap.namespaces[n].mode = (if s.cap.namespaces[n].mirror then .degraded else .failed)
            ∧ t.cap.namespaces[n].objects = s.cap.namespaces[n].objects) ∧
  (∀ n : Fin 32, s.cap.namespaces[n].mode = .rebuilding → ∀ left, left = s.cap.namespaces[n].failed.filter (s.memberLost n) →
    ∃ t, exec (.mirrorRebuildDone n) s = .next t ∧ s.ChangesOnly t [.cap] ∧ t.cap.namespaces = s.cap.namespaces.set n
      { s.cap.namespaces[n] with mode := if left = [] then .ok else .degraded, failed := left }) ∧
  (∀ n : Fin 32, s.cap.namespaces[n].mode ≠ .rebuilding → ∃ t, exec (.mirrorRebuildDone n) s = .next t ∧ s.ChangesOnly t []) ∧
  (∀ n : Fin 32, 64 ≤ s.cap.namespaces[n].sinceCheckpoint ∨ (0 < s.cap.namespaces[n].sinceCheckpoint ∧
      s.cap.namespaces[n].lastObject + 20000000 ≤ s.clock.tick) → ∃ t, exec (.indexCheckpoint n) s = .next t ∧ s.ChangesOnly t [.cap]
    ∧ t.cap.namespaces[n].sinceCheckpoint = 0 ∧ t.cap.namespaces[n].objects = s.cap.namespaces[n].objects
    ∧ (∀ k : Fin 32, k ≠ n → t.cap.namespaces[k] = s.cap.namespaces[k])
    ∧ ∀ m start, s.writable n = [m] → (s.cap.namespaces[n].members[m.1]?).map (·.2) = some start → s.cap.commands = [] →
        s.cap.queued = [] → ∃ x y i, t.cap.commands = [x, y] ∧ x.drive = m.2 ∧ x.op = .write ∧ x.range = ⟨0, start / 4096, 1⟩
          ∧ y.drive = m.2 ∧ y.op = .flush ∧ x.task = .checkpoint n i ∧ y.task = .checkpoint n i ∧ i.head = s.cap.namespaces[n].head
          ∧ i.known = s.cap.namespaces[n].objects.map (·.sequence)) ∧
  (∀ n : Fin 32, s.cap.namespaces[n].sinceCheckpoint = 0 → ∃ t, exec (.indexCheckpoint n) s = .next t ∧ s.ChangesOnly t [])

/-- A reference gains and loses activity and qualification as its pulses, edges, gates and times say (R250, R251, R252, R253,
R263, R264). -/
def Obligations.ReferencesQualifyAndFail : Prop := ∀ (s : State) (i : Fin 12),
  (s.dpll.refs[i].active = true → s.dpll.refs[i].kind = .clock ∨ s.dpll.refs[i].kind = .line →
    ∃ t, exec (.refActivityLost i) s = .next t ∧ s.ChangesOnly t [.dpll] ∧ t.dpll.refs[i].active = false
      ∧ t.dpll.refs[i].qualified = false ∧ t.dpll.refs[i].disqualified = true ∧ t.dpll.refs[i].goodRun = 0
      ∧ ∀ j : Fin 12, j ≠ i → t.dpll.refs[j] = s.dpll.refs[j]) ∧
  (s.dpll.refs[i].active = false → ∃ t, exec (.refActivityLost i) s = .next t ∧ s.ChangesOnly t []) ∧
  (s.dpll.refs[i].kind = .pulse → 2 * (s.clock.tick - s.dpll.refs[i].lastGood) ≤ 3 * pulseTicks s.dpll.refs[i].nominal →
    ∃ t, exec (.refActivityLost i) s = .next t ∧ s.ChangesOnly t []) ∧
  (s.dpll.refs[i].active = false → (s.dpll.refs[i].kind = .clock ∨ (s.dpll.refs[i].kind = .pulse ∧ 4 ≤ s.dpll.refs[i].goodRun)) →
    ∃ t, exec (.refActivityPresent i) s = .next t ∧ s.ChangesOnly t [.dpll] ∧ t.dpll.refs[i].active = true
      ∧ t.dpll.refs[i].activeSince = s.clock.tick ∧ t.dpll.refs[i].qualSince = s.clock.tick
      ∧ t.dpll.refs[i].qualified = s.dpll.refs[i].qualified ∧ ∀ j : Fin 12, j ≠ i → t.dpll.refs[j] = s.dpll.refs[j]) ∧
  (s.dpll.refs[i].kind = .none → ∃ t, exec (.refActivityPresent i) s = .next t ∧ s.ChangesOnly t []) ∧
  (∀ (x : Int) (a j : Nat), s.dpll.refs[i].kind ≠ .none →
    (a, j) = (if s.dpll.holdOscQualified then (10 * s.dpll.refs[i].gateAccept, 10 * s.dpll.refs[i].gateReject) else (500000, 1000000)) →
    ∃ t, exec (.refGateEnd i x) s = .next t ∧ s.ChangesOnly t [.dpll] ∧ t.dpll.refs[i].offset = x
      ∧ t.dpll.refs[i].gateAccept = s.dpll.refs[i].accept ∧ t.dpll.refs[i].gateReject = s.dpll.refs[i].reject
      ∧ (j < x.natAbs → t.dpll.refs[i].qualified = false ∧ t.dpll.refs[i].qualSince = s.clock.tick)
      ∧ (a < x.natAbs → x.natAbs ≤ j → t.dpll.refs[i].qualified = s.dpll.refs[i].qualified
          ∧ (s.dpll.refs[i].qualified = false → t.dpll.refs[i].qualSince = s.clock.tick))
      ∧ (x.natAbs ≤ a → x.natAbs ≤ j → t.dpll.refs[i].qualified = s.dpll.refs[i].qualified
          ∧ t.dpll.refs[i].qualSince = s.dpll.refs[i].qualSince)) ∧
  (s.dpll.refs[i].kind ≠ .none → s.dpll.refs[i].active = true → s.dpll.refs[i].qualified = false →
    (s.dpll.refs[i].qualSince + 2000000 * s.dpll.refs[i].qualTime ≤ s.clock.tick → ∃ t, exec (.refQualified i) s = .next t
      ∧ s.ChangesOnly t [.dpll] ∧ t.dpll.refs[i].qualified = true ∧ t.dpll.refs[i].disqualified = false
      ∧ ∀ j : Fin 12, j ≠ i → t.dpll.refs[j] = s.dpll.refs[j]) ∧
    (s.clock.tick < s.dpll.refs[i].qualSince + 2000000 * s.dpll.refs[i].qualTime →
      ∃ t, exec (.refQualified i) s = .next t ∧ s.ChangesOnly t [])) ∧
  (∀ (k : Fin 8) (m : PulseMeasure), i.val = k.val →
    (s.dpll.refs[i].kind ≠ .pulse → ∃ t, exec (.refPulse k m) s = .next t ∧ s.ChangesOnly t []) ∧
    (s.dpll.refs[i].kind = .pulse → pulseBad m s.dpll.refs[i] = false → s.dpll.epochSource ≠ some k →
      ∃ t, exec (.refPulse k m) s = .next t ∧ s.ChangesOnly t [.dpll] ∧ t.dpll.refs[i].goodRun = s.dpll.refs[i].goodRun + 1
        ∧ t.dpll.refs[i].badRun = 0 ∧ t.dpll.refs[i].lastGood = s.clock.tick ∧ t.dpll.epochError = s.dpll.epochError
        ∧ (3 ≤ s.dpll.refs[i].goodRun → t.dpll.refs[i].active = true)
        ∧ (s.dpll.refs[i].goodRun < 3 → t.dpll.refs[i].active = s.dpll.refs[i].active)) ∧
    (s.dpll.refs[i].kind = .pulse → pulseBad m s.dpll.refs[i] = true → s.dpll.epochSource = none → s.dpll.refs[i].active = true →
      ∃ t, exec (.refPulse k m) s = .next t ∧ s.ChangesOnly t [.dpll]
        ∧ (1 ≤ s.dpll.refs[i].badRun → s.epochChoice = none → t.dpll.refs[i].active = false ∧ t.dpll.refs[i].qualified = false)
        ∧ (s.dpll.refs[i].badRun = 0 → t.dpll.refs[i].active = true ∧ t.dpll.refs[i].badRun = 1 ∧ t.dpll.refs[i].goodRun = 0)) ∧
    (s.dpll.refs[i].kind = .pulse → pulseBad m s.dpll.refs[i] = false → s.dpll.epochSource = some k → s.dpll.aligned = true →
      s.dpll.epochLost = false → s.dpll.hostStep = none → ∃ t, exec (.refPulse k m) s = .next t ∧ s.ChangesOnly t [.dpll]
        ∧ t.dpll.epochError = s.epochErrorOf s.dpll.refs[i].nominal m.instant ∧ t.dpll.step = s.dpll.step
        ∧ ((s.epochErrorOf s.dpll.refs[i].nominal m.instant).natAbs ≤ 20 * s.dpll.settings.epochWindow →
            t.dpll.epochGoodRun = s.dpll.epochGoodRun + 1 ∧ t.dpll.epochBadRun = 0
            ∧ (2 ≤ s.dpll.epochGoodRun → t.dpll.epochMet = true))
        ∧ (20 * s.dpll.settings.epochWindow < (s.epochErrorOf s.dpll.refs[i].nominal m.instant).natAbs →
            t.dpll.epochBadRun = s.dpll.epochBadRun + 1 ∧ (2 ≤ s.dpll.epochBadRun → t.dpll.epochMet = false))))

/-- The holdover oscillator, the phase detector, the time limits, the outputs and the DPLL's rows act as chapter 9 says (R252,
R254, R258, R259, R260, R268, R270, R271, R274, R365). -/
def Obligations.TimingTimersAndDetectorsActAsStated : Prop := ∀ s : State,
  (s.dpll.holdOscQualified = false → ∃ t, exec .holdOscQualified s = .next t ∧ s.ChangesOnly t [.dpll]
    ∧ t.dpll.holdOscQualified = true ∧ t.dpll.holdOscActive = true ∧ t.dpll.mode = s.dpll.mode
    ∧ ∀ i : Fin 12, t.dpll.refs[i].qualified = s.dpll.refs[i].qualified
        ∧ (s.dpll.refs[i].qualified = false → t.dpll.refs[i].qualSince = s.clock.tick)) ∧
  (s.dpll.holdOscQualified = true → ∃ t, exec .holdOscQualified s = .next t ∧ s.ChangesOnly t []) ∧
  (∀ x : Int, s.dpllCode = 2 → ∃ t, exec (.holdOscGateEnd x) s = .next t ∧ s.ChangesOnly t [.dpll]
    ∧ t.dpll = { s.dpll with holdOscPpt := x, holdOscMeasured := true, holdOscOutput := s.dpll.outputPpt }) ∧
  (∀ x : Int, s.dpllCode ≠ 2 → ∃ t, exec (.holdOscGateEnd x) s = .next t ∧ s.ChangesOnly t []) ∧
  (s.dpll.holdOscQualified = true → ∃ t, exec .holdOscActivityLost s = .next t ∧ s.ChangesOnly t [.dpll]
    ∧ t.dpll.holdOscQualified = false ∧ t.dpll.holdOscActive = false ∧ t.dpll.holdOscMeasured = false ∧ t.dpll.holdOscPpt = 0
    ∧ t.dpll.mode = s.dpll.mode
    ∧ ∀ i : Fin 12, s.dpll.refs[i].qualified = false → t.dpll.refs[i].qualSince = s.clock.tick) ∧
  (∀ (phase : Int) (i : Fin 12), s.dpll.selected ≠ some i → ∃ t, exec (.phaseDetectorUpdate phase i) s = .next t ∧ s.ChangesOnly t []) ∧
  (∀ (phase : Int) (i : Fin 12), s.dpll.selected = some i → ∃ t, exec (.phaseDetectorUpdate phase i) s = .next t
    ∧ s.ChangesOnly t [.dpll, .perf] ∧ t.dpll.phaseError = phase ∧ t.dpll.mode = s.dpll.mode
    ∧ t.dpll.lockRun = (if phase.natAbs ≤ 20 * s.dpll.settings.lockWindow then s.dpll.lockRun + 1 else 0)
    ∧ (s.dpll.mode = .acquire ∨ s.dpll.mode = .locked →
        t.dpll.integrator = (if s.dpll.slewing = true ∨ s.dpll.clamped = true then s.dpll.integrator
          else Config.loopIntegrate (s.loopBandwidth s.dpll.refs[i]) s.dpll.integrator phase)
        ∧ t.dpll.demand = Config.loopDemand (s.loopBandwidth s.dpll.refs[i]) t.dpll.integrator phase)
    ∧ (s.dpll.mode = .freerun ∨ s.dpll.mode = .softloop → t.dpll.demand = s.dpll.demand)) ∧
  (s.dpll.mode = .holdover → s.dpll.holdoverSince + s.dpll.settings.holdoverLimit * 2000000 < s.clock.tick →
    ∃ t, exec .holdoverLimitExpiry s = .next t ∧ s.ChangesOnly t [.dpll] ∧ t.dpll = { s.dpll with holdoverPast := true }) ∧
  (s.clock.tick ≤ s.dpll.holdoverSince + s.dpll.settings.holdoverLimit * 2000000 →
    ∃ t, exec .holdoverLimitExpiry s = .next t ∧ s.ChangesOnly t []) ∧
  (s.dpll.mode = .softloop ∨ s.dpll.mode = .softloopLocked → s.dpll.loopAsk = none → s.dpll.dcoWritten + 20000000 ≤ s.clock.tick →
    ∃ t, exec .dcoWatchdogExpiry s = .next t ∧ s.ChangesOnly t [.dpll] ∧ t.dpll = { s.dpll with loopAsk := some false }) ∧
  (s.clock.tick < s.dpll.dcoWritten + 20000000 → ∃ t, exec .dcoWatchdogExpiry s = .next t ∧ s.ChangesOnly t []) ∧
  (∀ c due, s.dpll.hostStep = some (c, due) →
    (due ≤ s.clock.tick → ∃ t, exec .tickStepTimeout s = .next t ∧ s.ChangesOnly t [.dpll, .channels]
      ∧ t.dpll = { s.dpll with hostStep := none } ∧ s.Ended t c .errState []) ∧
    (s.clock.tick < due → ∃ t, exec .tickStepTimeout s = .next t ∧ s.ChangesOnly t [])) ∧
  (∀ (o : Fin 10) (x : OutputSettings) (due : Nat), s.dpll.outputs[o].next = some (x, due) →
    (due ≤ s.clock.tick → (o.val < 8 ∧ x.enable = false) ∨ s.risingEdge o x s.clock.frame ≠ none →
      ∃ t, exec (.outputChangeApplied o) s = .next t ∧ s.ChangesOnly t [.dpll] ∧ t.dpll.outputs[o].settings = x
        ∧ t.dpll.outputs[o].next = none ∧ ∀ j : Fin 10, j ≠ o → t.dpll.outputs[j] = s.dpll.outputs[j]) ∧
    (s.clock.tick < due → ∃ t, exec (.outputChangeApplied o) s = .next t ∧ s.ChangesOnly t [])) ∧
  (∀ o : Fin 10, s.dpll.outputs[o].next = none → ∃ t, exec (.outputChangeApplied o) s = .next t ∧ s.ChangesOnly t []) ∧
  (∀ lost : Bool, (s.dpll.mode = .softloop → s.dpll.loopAsk = some false → s.dpll.selected ≠ none →
      (s.stepMode lost).dpll.mode = .acquire) ∧
    (s.dpll.loopAsk = some true → s.dpll.dcoFresh = false → s.dpll.declareLock = false → s.dpll.mode = .freerun →
      s.dpll.selected = none → (s.stepMode lost).dpll.mode = .softloop ∧ (s.stepMode lost).dpll.dcoWord = s.dpll.outputPpt) ∧
    (s.slaved = false → (s.dpll.mode = .freerun → s.dpll.selected ≠ none → (s.stepMode lost).dpll.mode = .acquire) ∧
      (s.dpll.mode = .acquire → s.dpll.lockMet = true → s.dpll.epochMet = true →
        (s.stepMode lost).dpll.mode = .locked ∧ (s.stepMode lost).dpll.lockedSince = s.clock.tick) ∧
      (s.dpll.mode = .acquire → s.dpll.lockMet = false → s.dpll.selected = none → s.historyOk = false →
        (s.stepMode lost).dpll.mode = .freerun ∧ (s.stepMode lost).dpll.demand = 0) ∧
      (s.dpll.mode = .locked → lost = true → (s.stepMode lost).dpll.mode = .acquire) ∧
      (s.dpll.mode = .locked → lost = false → s.dpll.selected = none ∨ s.dpll.epochMet = false → s.historyOk = true →
        s.dpll.holdOscQualified = true → (s.stepMode lost).dpll.mode = .holdover
          ∧ (s.stepMode lost).dpll.holdoverSince = s.clock.tick
          ∧ (s.stepMode lost).dpll.epochHoldover = s.dpll.selected.isSome)))

/-- Valid ACTIVE words carry the followed tick, missing words flywheel, and 64 of them declare FLYWHEEL (R278, R281, R282,
R283, R284, R286). -/
def Obligations.TickWordsAreFollowed : Prop := ∀ (s : State) (k : Fin 2),
  (∀ (v : BitVec 512) (arrival : Int), (lineBytes v).any tickCrcOk = false →
    ∃ t, exec (.tickWordReceived k v arrival) s = .next t ∧ s.ChangesOnly t [.casc]
    ∧ t.casc.inputs[k].last = s.casc.inputs[k].last ∧ t.casc.inputs[k].missing = s.casc.inputs[k].missing + 1
    ∧ t.casc.followed = s.casc.followed ∧ t.casc.role = s.casc.role ∧ t.casc.activeHeard = s.casc.activeHeard) ∧
  (∀ (v : BitVec 512) (arrival : Int) (bs : List Byte) (w : TickWord), lineBytes v = some bs → w = readTickWord bs →
    tickCrcOk bs = true → w.contradicts = false → s.casc.inputs[k].numberOk w.frame = true → w.active = true → w.swapOp = 0 →
    w.roleOp = 0 → s.casc.mode ≠ .standalone → s.casc.role ≠ .master → s.casc.handover = none →
    (s.casc.followed = some k → s.casc.missingRun = 0 → s.casc.mode ≠ .flywheel →
      ∃ t, exec (.tickWordReceived k v arrival) s = .next t
      ∧ s.ChangesOnly t [.casc] ∧ t.casc.followed = some k ∧ t.casc.missingRun = 0 ∧ t.casc.master = some w.sender
      ∧ t.casc.masterState = w.state ∧ t.casc.version = w.version ∧ t.casc.mode = s.casc.mode ∧ t.casc.role = s.casc.role
      ∧ t.casc.inputs[k].last = some w ∧ t.casc.inputs[k].missing = 0 ∧ t.casc.tickPathLost = false
      ∧ t.casc.activeHeard = true) ∧
    (s.casc.followed = none → (s.tickPhase w arrival).natAbs ≤ 400 → ∃ t, exec (.tickWordReceived k v arrival) s = .next t
      ∧ s.ChangesOnly t [.casc] ∧ t.casc.followed = some k ∧ t.casc.master = some w.sender
      ∧ t.casc.mode = (if s.casc.mode = .flywheel then .joined else s.casc.mode)) ∧
    (s.casc.followed = none → 400 < (s.tickPhase w arrival).natAbs → ∃ t, exec (.tickWordReceived k v arrival) s = .next t
      ∧ s.ChangesOnly t [.casc, .dpll, .ports] ∧ t.casc.followed = some k
      ∧ t.dpll.step = some (Int.fdiv (-(s.tickPhase w arrival)) 10000))) ∧
  (∀ (w : TickWord) (arrival : Int) d, s.casc.declaration = some d → s.tickPhase w arrival
    = ((w.frame.toNat : Int) - s.clock.frame.toNat) * 10000 - (arrival + d.tickDelay)) ∧
  (s.casc.followed = some k → s.casc.mode ≠ .standalone → s.casc.role ≠ .master → ∃ t, exec .tickWordMissing s = .next t
    ∧ s.ChangesOnly t [.casc, .perf] ∧ t.casc.missingRun = s.casc.missingRun + 1
    ∧ t.casc.inputs[k].missing = s.casc.inputs[k].missing + 1
    ∧ t.casc.flywheelTicks = (if s.casc.flywheelTicks = 0xFFFFFFFF then s.casc.flywheelTicks else s.casc.flywheelTicks + 1)) ∧
  (s.casc.followed = none → ∃ t, exec .tickWordMissing s = .next t ∧ s.ChangesOnly t []) ∧
  (s.casc.mode = .joined → s.casc.role ≠ .master → 64 ≤ s.casc.missingRun → ∃ t, exec .flywheelDeclare s = .next t
    ∧ s.ChangesOnly t [.casc] ∧ t.casc = { s.casc with mode := .flywheel }) ∧
  (s.casc.missingRun < 64 → ∃ t, exec .flywheelDeclare s = .next t ∧ s.ChangesOnly t [])

/-- The master role starts, is taken over, is given by ARB_SEL and moves at a handover tick, as the rules say (R279, R280,
R295, R296, R297, R299). -/
def Obligations.MasterRoleMovesAsStated : Prop := ∀ s : State,
  (s.casc.mode = .joining → s.casc.role ≠ .master → s.masterCapable = true →
    s.casc.activeHeard = false → max s.rst.tinderAt s.casc.startedAt + (if s.rst.straps.masterPref then 200000 else 800000) ≤ s.clock.tick →
    (s.casc.mstInhIn = false → (∀ d, s.casc.declaration = some d → d.arbiter = false) → ∃ t, exec .masterStartTimeout s = .next t
      ∧ s.ChangesOnly t [.casc] ∧ t.casc.role = .master ∧ t.casc.mode = .joined ∧ t.casc.mstActOut = true
      ∧ t.casc.master = some s.ownIndex) ∧
    (s.casc.mstInhIn = true → ∃ t, exec .masterStartTimeout s = .next t ∧ s.ChangesOnly t [.casc]
      ∧ t.casc = { s.casc with role := .standby })) ∧
  (s.casc.mode ≠ .joining → ∃ t, exec .masterStartTimeout s = .next t ∧ s.ChangesOnly t []) ∧
  (s.casc.role = .standby → s.casc.tickPathLost = false → 4 ≤ s.casc.missingRun →
    (s.casc.channelPathLost = false → s.arbiterOn = false → ∃ t, exec .tickPathLoss s = .next t ∧ s.ChangesOnly t [.casc]
      ∧ t.casc = { s.casc with tickPathLost := true }) ∧
    (s.casc.channelPathLost = true → s.casc.mode = .joined → s.casc.mstInhIn = false → s.arbiterOn = false →
      ∃ t, exec .tickPathLoss s = .next t ∧ s.ChangesOnly t [.casc, .dpll, .map, .channels] ∧ t.casc.role = .master
        ∧ t.casc.mode = .joined ∧ t.casc.mstActOut = true ∧ t.casc.followed = none)) ∧
  (s.casc.missingRun < 4 → ∃ t, exec .tickPathLoss s = .next t ∧ s.ChangesOnly t []) ∧
  (s.casc.role = .standby → s.casc.channelPathLost = false → (∀ x ∈ s.casc.seams, 16 ≤ x.unchanged ∨ (s.port x.port).aligner ≠ .sync) →
    (s.casc.tickPathLost = false → s.arbiterOn = false → ∃ t, exec .channelPathLoss s = .next t ∧ s.ChangesOnly t [.casc]
      ∧ t.casc = { s.casc with channelPathLost := true }) ∧
    (s.casc.tickPathLost = true → s.casc.mstInhIn = true → ∃ t, exec .channelPathLoss s = .next t ∧ s.ChangesOnly t [.casc]
      ∧ t.casc = { s.casc with channelPathLost := true })) ∧
  (∀ sel : BitVec 2, s.arbiterOn = false → ∃ t, exec (.arbSelDecision sel) s = .next t ∧ s.ChangesOnly t [.casc]
    ∧ t.casc = { s.casc with arbSel := if sel = 3 then 0 else sel }) ∧
  (s.arbiterOn = true → s.isMaster = true → ∃ t, exec (.arbSelDecision 1) s = .next t ∧ s.ChangesOnly t [.casc]
    ∧ t.casc.role = .standby ∧ t.casc.mstActOut = false ∧ t.casc.arbSel = 1) ∧
  (s.arbiterOn = true → s.casc.role = .standby → s.casc.mode = .joined → s.casc.mstInhIn = false →
    ∃ t, exec (.arbSelDecision 2) s = .next t ∧ s.ChangesOnly t [.casc, .dpll, .map, .channels] ∧ t.casc.role = .master
      ∧ t.casc.mstActOut = true) ∧
  (∀ d, s.casc.declaration = some d → s.isMaster = true → 3 ≤ s.casc.version → s.casc.roleNext ≤ s.clock.tick →
    s.casc.handover = none → s.casc.swap = none → ∃ t h f, exec .roleSwapPeriod s = .next t ∧ s.ChangesOnly t [.casc, .fresh]
      ∧ t.casc.handover = some h ∧ h.tick = some f ∧ h.release = false ∧ 32 ≤ (f - s.clock.frame).toNat
      ∧ (f - s.clock.frame).toNat ≤ 64 ∧ t.casc.roleNext = s.clock.tick + d.roleHours * 3600 * 2000000 ∧ t.casc.role = .master) ∧
  (s.clock.tick < s.casc.roleNext → ∃ t, exec .roleSwapPeriod s = .next t ∧ s.ChangesOnly t []) ∧
  (∀ h f, s.casc.handover = some h → h.tick = some f → h.commands = [] →
    (s.isMaster = true → f ≤ s.clock.frame → ∃ t, exec .handoverTick s = .next t ∧ s.ChangesOnly t [.casc]
      ∧ t.casc.role = .standby ∧ t.casc.mstActOut = false ∧ t.casc.handover = none) ∧
    (s.casc.role = .standby → f + 1 ≤ s.clock.frame → s.casc.mstInhIn = false → ∃ t, exec .handoverTick s = .next t
      ∧ s.ChangesOnly t [.casc, .dpll, .map, .channels] ∧ t.casc.role = .master ∧ t.casc.mstActOut = true) ∧
    (s.clock.frame < f → s.isMaster = true → ∃ t, exec .handoverTick s = .next t ∧ s.ChangesOnly t []))

/-- Cascade messages are taken once, and a cascade swap commits, aborts and closes as its phases say (R278, R287, R288, R291,
R292, R293, R294). -/
def Obligations.CascadeMessagesAndSwapsFollowTheirRules : Prop := ∀ (s : State) (p : PortNo) (m : CascMessage),
  (s.casc.mode = .standalone ∨ (∀ x ∈ s.casc.seams, x.port ≠ p) ∨ s.seamHeard p = false → ∃ t, exec (.cascMessageReceived p m) s = .next t ∧ s.ChangesOnly t []) ∧
  (s.isMaster = false → s.isCopy m.origin m.msgType m.msgId = true → ∃ t, exec (.cascMessageReceived p m) s = .next t
    ∧ s.ChangesOnly t []) ∧
  (∀ d, m.msgType = 2 → s.casc.mode = .joining → s.casc.role ≠ .master → (∃ x ∈ s.casc.seams, x.port = p) →
    s.seamHeard p = true → s.casc.joinSent = true → s.casc.declaration = some d → m.origin = d.capable.1 ∨ m.origin = d.capable.2 →
    m.origin ≠ s.ownIndex → s.isCopy m.origin m.msgType m.msgId = false → ∃ t, exec (.cascMessageReceived p m) s = .next t ∧ s.ChangesOnly t [.casc]
      ∧ t.casc.mode = .joined ∧ t.casc.role = (if s.masterCapable then .standby else .slave) ∧ t.casc.master = some m.origin) ∧
  (∀ w, m.msgType = 3 → s.isMaster = true → m.senderRole ≠ 2 → s.casc.dualMaster = false → (∃ x ∈ s.casc.seams, x.port = p) →
    s.seamHeard p = true →
    m.origin ≠ s.ownIndex → s.isCopy m.origin m.msgType m.msgId = false → s.casc.swap = some w → w.id = m.msgId →
    w.phase = .prepare → m.origin ∈ w.participants → m.origin ∉ w.ready → ∃ t, exec (.cascMessageReceived p m) s = .next t
      ∧ s.ChangesOnly t [.casc] ∧ t.casc.swap = some { w with ready := m.origin :: w.ready }) ∧
  (∀ g, m.msgType = 6 → s.isMaster = false → s.casc.mode ≠ .standalone → (∃ x ∈ s.casc.seams, x.port = p) → m.origin ≠ s.ownIndex →
    s.seamHeard p = true → s.isCopy m.origin m.msgType m.msgId = false → s.casc.staged = some g → g.id = m.msgId → g.frame = none → g.aborted = false →
    ∃ t f, exec (.cascMessageReceived p m) s = .next t ∧ s.ChangesOnly t [.casc, .map]
      ∧ t.casc.staged = some { g with frame := some f } ∧ f.setWidth 48 = m.arg
      ∧ (f - s.clock.frame).toNat < 281474976710656
      ∧ t.map.swap = some { frame := f, persist := g.persist, command := g.command, latched := false }) ∧
  (∀ w c, s.casc.swap = some w → w.phase = .prepare → w.veto = [] → w.command = some c → s.casc.staged = none →
    (w.started + 2000 ≤ s.clock.tick → ∃ t, exec .cascPrepareTimeout s = .next t ∧ s.ChangesOnly t [.casc, .channels]
      ∧ (∃ x, t.casc.swap = some x ∧ x.phase = .aborting ∧ x.abortLeft = 64 ∧ x.id = w.id)
      ∧ s.Ended t c .errState (leBytes 8 (memberMask (w.participants.filter (fun k => !w.ready.contains k))) ++ leBytes 8 0)) ∧
    (s.clock.tick < w.started + 2000 → ∃ t, exec .cascPrepareTimeout s = .next t ∧ s.ChangesOnly t [])) ∧
  (∀ g c, s.casc.staged = some g → g.command = some c → s.isMaster = false → g.frame = none → s.casc.answered = g.id →
    ∃ t, exec .cascDecisionCheck s = .next t ∧ s.ChangesOnly t [.casc, .map, .channels] ∧ t.casc.staged = none ∧ t.map.swap = none
      ∧ t.map.active = s.map.active ∧ s.Ended t c .errState (zeros 8 ++ leBytes 8 s.map.active.generation.toNat)) ∧
  (∀ g f, s.casc.staged = some g → g.frame = some f → ∃ t, exec .cascDecisionCheck s = .next t ∧ s.ChangesOnly t []) ∧
  (∀ w c, s.casc.swap = some w → w.phase = .committed → w.command = some c → s.ownIndex ∉ w.participants →
    w.frame + 20000 ≤ s.clock.frame → ∃ t, exec .cascCompleteTimeout s = .next t ∧ s.ChangesOnly t [.casc, .map, .channels]
      ∧ t.casc.swap = none ∧ s.Ended t c .ok (leBytes 8 w.frame.toNat ++ leBytes 8 0)) ∧
  (s.casc.swap = none → ∃ t, exec .cascCompleteTimeout s = .next t ∧ s.ChangesOnly t [])

/-- Key messages, agreement limits, retries and key life act on the port's link security as stated (R456, R459, R460, R462,
R463, R464, R465, R466). -/
def Obligations.KeyAgreementTimersAndMessagesFollowTheirRules : Prop := ∀ (s : State) (p : PortNo),
  (∀ m, (s.port p).mode = .down → ∃ t, exec (.keyMessageReceived p m) s = .next t ∧ s.ChangesOnly t []) ∧
  (∀ a, (s.port p).link.agreement = some a →
    (∀ i, ((∃ m : KeyMessage, i = Instr.keyMessageReceived p m ∧ (s.port p).mode ≠ .down ∧
          (m.type = 4 ∨ (m.type = 1 ∧ helloVersion m.bytes ≠ 1) ∨
            (m.type = 3 ∧ a.step = .confirm ∧ a.ready = false ∧ s.sec.installs < 32 ∧ ∃ peer, a.peerHello = some peer ∧
              (m.bytes.drop 4).take 48 ≠ confirmMac (s.sharedSecret p a peer) (transcript a.ownHello peer) (!ownIsA a.ownHello peer))))
        ∨ (i = Instr.agreementTimeout p ∧ a.ready = false ∧ a.started + 400000 ≤ s.clock.tick)) →
      ∃ t, exec i s = .next t ∧ s.ChangesOnly t [.ports, .sec] ∧ (t.port p).link.agreement = none
        ∧ (t.port p).link.retryAt = some (s.clock.tick + 2000000 * (s.port p).link.retryWait)
        ∧ (t.port p).link.retryWait = min 60 (2 * (s.port p).link.retryWait) ∧ t.sec.failures = s.sec.failures + 1
        ∧ ((s.port p).link.keyed = false → (t.port p).has .auth = true ∧ (t.port p).authHeld = true)
        ∧ ((s.port p).link.keyed = true → (t.port p).defects = (s.port p).defects)
        ∧ ∀ q : PortNo, q ≠ p → t.port q = s.port q) ∧
    (a.ready = true ∨ s.clock.tick < a.started + 400000 → ∃ t, exec (.agreementTimeout p) s = .next t ∧ s.ChangesOnly t []) ∧
    (∀ (m : KeyMessage) peer, (s.port p).mode ≠ .down → m.type = 3 → a.step = .confirm → a.ready = false → s.sec.installs < 32 →
      a.peerHello = some peer →
      (m.bytes.drop 4).take 48 = confirmMac (s.sharedSecret p a peer) (transcript a.ownHello peer) (!ownIsA a.ownHello peer) →
      ∃ t k, exec (.keyMessageReceived p m) s = .next t ∧ s.ChangesOnly t [.ports, .sec]
        ∧ (t.port p).link.txSlots = (s.port p).link.txSlots.set (otherSlot (s.port p).link.txKid) (some k)
        ∧ k.frames = 0 ∧ k.highest = none ∧ (t.port p).link.ready = some (otherSlot (s.port p).link.txKid)
        ∧ (t.port p).link.txKid = (s.port p).link.txKid ∧ (t.port p).authHeld = false
        ∧ ∀ q : PortNo, q ≠ p → t.port q = s.port q)) ∧
  (∀ m : KeyMessage, m.type = 3 → 32 ≤ s.sec.installs → (s.port p).link.assembled = none →
    ∃ t, exec (.keyMessageReceived p m) s = .next t ∧ s.ChangesOnly t []) ∧
  (∀ n, (s.port p).link.retryAt = some n →
    (n ≤ s.clock.tick → (s.port p).mode ≠ .down → (s.port p).link.agreement = none → s.runningAgreements < 64 →
      ∃ t a, exec (.agreementRetry p) s = .next t ∧ s.ChangesOnly t [.ports, .fresh] ∧ (t.port p).link.agreement = some a
        ∧ a.step = .hello ∧ a.started = s.clock.tick ∧ (t.port p).link.retryAt = none
        ∧ ∀ q : PortNo, q ≠ p → t.port q = s.port q) ∧
    (s.clock.tick < n → ∃ t, exec (.agreementRetry p) s = .next t ∧ s.ChangesOnly t [])) ∧
  (∀ k, (s.port p).link.txKey = some k → (2147483648 ≤ k.frames → (s.port p).link.ready = none → (s.port p).link.lastExhausted = 0 →
      ∃ t, exec (.keyExhausted p) s = .next t ∧ s.ChangesOnly t [.ports]
        ∧ t.port p = { s.port p with link := { (s.port p).link with lastExhausted := s.clock.tick } }) ∧
    (k.frames < 2147483648 → ∃ t, exec (.keyExhausted p) s = .next t ∧ s.ChangesOnly t [])) ∧
  (∀ n, (s.port p).link.movedAt = some n →
    (n + 64 ≤ s.clock.tick → (s.port p).link.agreement ≠ none → ∃ t, exec (.oldKeyErase p) s = .next t ∧ s.ChangesOnly t [.ports]
      ∧ t.port p = { s.port p with link := { (s.port p).link with
          movedAt := none, rxSlots := (s.port p).link.rxSlots.set (otherSlot (s.port p).link.rxKid) none
          txSlots := (s.port p).link.txSlots.set (otherSlot (s.port p).link.txKid) none } }) ∧
    (s.clock.tick < n + 64 → ∃ t, exec (.oldKeyErase p) s = .next t ∧ s.ChangesOnly t []))

/-- Nonces expire, checks end their commands, and the JTAG mailbox answers only in ROM recovery (R403, R412, R436, R451, R452,
R462, R465, R467). -/
def Obligations.SecurityCoreEventsFollowTheirRules : Prop := ∀ s : State,
  (∀ n : Nonce, s.sec.nonces = [n] → (n.expiry ≤ s.clock.tick → ∃ t, exec (.nonceExpiry n.value) s = .next t ∧ s.ChangesOnly t [.sec]
      ∧ t.sec = { s.sec with nonces := [] }) ∧
    (s.clock.tick < n.expiry → ∃ t, exec (.nonceExpiry n.value) s = .next t ∧ s.ChangesOnly t [])) ∧
  (∀ (p : PortNo) (a : Agreement) (peer auth : List Byte) (reason : Nat), (s.port p).link.agreement = some a → a.peerHello = some peer →
    a.peerAuth = some auth → s.rtc.valid = true → s.authFailure p a peer auth = some reason →
    ∃ t, exec (.securityCheckDone (.agreement p)) s = .next t ∧ s.ChangesOnly t [.ports, .sec]
      ∧ (t.port p).link.agreement = none ∧ t.sec.failures = s.sec.failures + 1
      ∧ ((s.port p).link.keyed = false → (t.port p).has .auth = true)) ∧
  (∀ (c : Fin 8) (k : BitVec 64), s.sec.work = [] → ∃ t, exec (.securityCheckDone (.command c k)) s = .next t ∧ s.ChangesOnly t []) ∧
  (∀ w, s.sec.work = [w] → w.opcode = 0x0F01 → s.rtc.valid = true →
    (s.verifiedImage 1 w.data = none → ∃ t, exec (.securityCheckDone (.command w.request.channel w.request.token)) s = .next t
      ∧ s.ChangesOnly t [.sec, .channels] ∧ t.sec = { s.sec with work := [] } ∧ s.Ended t w.request.ref .errAuth []) ∧
    (∀ x, s.verifiedImage 1 w.data = some x → w.data.length ≤ 4194304 → x.journalRead.getLsbD s.journalFormat = true →
      ∃ t, exec (.securityCheckDone (.command w.request.channel w.request.token)) s = .next t
        ∧ s.ChangesOnly t [.sec, .mgmt, .channels] ∧ t.mgmt.slots = s.mgmt.slots.set s.otherImageSlot ⟨some x⟩
        ∧ t.mgmt.staged = 1 ∧ s.Ended t w.request.ref .ok (leBytes 2 x.version.toNat))) ∧
  (∀ x, s.sec.romRecovery = false → ∃ t, exec (.jtagMailboxRequest x) s = .next t ∧ s.ChangesOnly t []) ∧
  (s.sec.romRecovery = true → (∃ t v, exec (.jtagMailboxRequest .nonce) s = .next t ∧ s.ChangesOnly t [.sec, .fresh]
      ∧ t.sec = { s.sec with jtagNonce := some v } ∧ t.fresh = s.fresh + 1) ∧
    ∀ bs, s.romTokenOk bs = false → ∃ t, exec (.jtagMailboxRequest (.unlock bs)) s = .next t ∧ s.ChangesOnly t [.sec]
      ∧ t.sec = { s.sec with jtagNonce := none })

/-- A permitted access reads or writes exactly its bytes, a refused one answers an error, and a hole answers nothing (R439,
R440, R505, R506, R508, R509, R510, R511, R514, R515). -/
def Obligations.FabricAccessesReachTheirTargets : Prop := ∀ (s : State) (x : FabricAccess), s.host.outbox = [] →
  (fabricTarget x.address.toNat = none → ∃ t, exec (.fabricAccess [x]) s = .next t ∧ s.ChangesOnly t []
    ∧ t.fabric = { s.fabric with responses := s.fabric.responses.set (masterCode x.master) (0, false) }) ∧
  (∀ g off, fabricTarget x.address.toNat = some (g, off) →
    ((s.accessRole x.master).reaches g off x.write.isSome && g.takesSize x.address.toNat x.bytes.val) = false →
    ∃ t, exec (.fabricAccess [x]) s = .next t ∧ s.ChangesOnly t [.perf] ∧ t.fabric.cells = s.fabric.cells
      ∧ t.fabric.responses = s.fabric.responses.set (masterCode x.master) (0, true)
      ∧ t.fabric.refusals = s.fabric.refusals + 1) ∧
  (∀ v, x.master = .managementA → s.mgmt.owner = some 0 → x.address.toNat < 0x800000 →
    FabricTarget.takesSize .sram x.address.toNat x.bytes.val = true → x.write = some v → Memory.wf s.fabric.cells →
    ∃ t, exec (.fabricAccess [x]) s = .next t ∧ s.ChangesOnly t [.perf, .mgmt, .memory, .fresh]
      ∧ t.fabric.responses = s.fabric.responses.set (masterCode x.master) (0, false)
      ∧ (∀ i, i < x.bytes.val → t.sramByte (x.address.toNat + i) = (v >>> (8 * i)).setWidth 8)
      ∧ (∀ a, a < x.address.toNat ∨ x.address.toNat + x.bytes.val ≤ a → t.sramByte a = s.sramByte a)
      ∧ t.mgmt = { s.mgmt with lines := t.mgmt.lines }) ∧
  (x.master = .managementA → s.mgmt.owner = some 0 → x.address.toNat < 0x800000 →
    FabricTarget.takesSize .sram x.address.toNat x.bytes.val = true → x.write = none → Memory.wf s.fabric.cells →
    (x.ecc ≠ .uncorrectable → ∃ t, exec (.fabricAccess [x]) s = .next t ∧ s.ChangesOnly t [.perf, .mgmt, .memory, .fresh]
      ∧ t.fabric.responses = s.fabric.responses.set (masterCode x.master)
          (wordOf ((List.range x.bytes.val).map (fun i => s.sramByte (x.address.toNat + i))), false)
      ∧ (∀ a, t.sramByte a = s.sramByte a) ∧ t.mgmt = { s.mgmt with lines := t.mgmt.lines }
      ∧ t.fabric.corrected = s.fabric.corrected + (if x.ecc = .corrected then 1 else 0)) ∧
    (x.ecc = .uncorrectable → ∃ t, exec (.fabricAccess [x]) s = .next t ∧ s.ChangesOnly t [.perf]
      ∧ t.fabric.cells = s.fabric.cells ∧ t.fabric.responses = s.fabric.responses.set (masterCode x.master) (0, true)
      ∧ x.address.toNat / 8 ∈ t.fabric.badWords)) ∧
  (∀ i off, fabricTarget x.address.toNat = some (.bridge i, off) → x.write = none → ∃ t, exec (.bridgeTimeout x) s = .next t
    ∧ s.ChangesOnly t [.perf]
    ∧ t.fabric = { s.fabric with responses := s.fabric.responses.set (masterCode x.master) (0, true) }) ∧
  ((∀ i : Fin 5, (fabricTarget x.address.toNat).map (·.1) ≠ some (.bridge i)) → ∃ t, exec (.bridgeTimeout x) s = .next t ∧ s.ChangesOnly t []) ∧
  (∃ t, exec (.patrolScrub []) s = .next t ∧ s.ChangesOnly t []) ∧
  (∀ w : WordError, w.uncorrectable = false → w.address.toNat < 0x800000 → ∃ t, exec (.patrolScrub [w]) s = .next t
    ∧ s.ChangesOnly t [.perf] ∧ t.fabric = { s.fabric with corrected := s.fabric.corrected + 1 })

/-- eFlash commands enter their free plane, and a verified end erases or programs exactly its bytes (R509, R516, R517, R518,
R519). -/
def Obligations.FlashCommandsAndTheirEnds : Prop := ∀ s : State, s.host.outbox = [] →
  (∀ (m : FabricMaster) (x : Fin 4096), s.flashAllowed m x.val = false → ∃ t, exec (.eflashErase m x) s = .next t
    ∧ s.ChangesOnly t [] ∧ t.fabric.refusals = s.fabric.refusals + 1 ∧ t.fabric.responses = s.fabric.responses.set (masterCode m) (0, true)) ∧
  (∀ (m : FabricMaster) (x : Fin 4096), s.flashAllowed m x.val = true → s.ev.powerFailing = false →
    (s.flash.fifo = [] → s.flash.warned.contains x.val = false → s.flash.busy[(⟨x.val % 4, by omega⟩ : Fin 4)] = none →
      ∃ t, exec (.eflashErase m x) s = .next t ∧ s.ChangesOnly t [.flash]
        ∧ t.flash = { s.flash with busy := s.flash.busy.set (⟨x.val % 4, by omega⟩ : Fin 4) (some (.erase x)) }) ∧
    (s.flash.fifo.length = 16 → ∃ t, exec (.eflashErase m x) s = .next t ∧ s.ChangesOnly t [.flash]
      ∧ t.flash = { s.flash with refusedPush := s.flash.refusedPush + 1 })) ∧
  (∀ (m : FabricMaster) (p : Fin 65536) (d : BitVec 2048), s.flashAllowed m (p.val / 16) = true → s.ev.powerFailing = false →
    s.flash.fifo = [] → s.flash.busy[(⟨p.val / 16 % 4, by omega⟩ : Fin 4)] = none →
    ((memRead flashDefault s.flash.cells (256 * p.val) 256).all (· == flashDefault) = true →
      ∃ t, exec (.eflashProgram m p d) s = .next t ∧ s.ChangesOnly t [.flash]
        ∧ t.flash = { s.flash with busy := s.flash.busy.set (⟨p.val / 16 % 4, by omega⟩ : Fin 4) (some (.program p d)) }) ∧
    ((memRead flashDefault s.flash.cells (256 * p.val) 256).all (· == flashDefault) = false →
      ∃ t, exec (.eflashProgram m p d) s = .next t ∧ s.ChangesOnly t [])) ∧
  (∀ (o : FlashOutcome) (x : Fin 4096), s.flash.busy[o.plane] = some (.erase x) → o.verified = true → s.flash.fifo = [] →
    cellsWf flashDefault s.flash.cells = true → ∃ t, exec (.eflashEraseDone o) s = .next t ∧ s.ChangesOnly t [.flash]
      ∧ t.flash.busy = s.flash.busy.set o.plane none
      ∧ (∀ a, memGet flashDefault t.flash.cells a = if 4096 * x.val ≤ a ∧ a < 4096 * x.val + 4096 then flashDefault
            else memGet flashDefault s.flash.cells a)
      ∧ assocGet x.val 0 t.flash.eraseCounts = assocGet x.val 0 s.flash.eraseCounts + 1 ∧ t.flash.spares = s.flash.spares) ∧
  (∀ (o : FlashOutcome) (p : Fin 65536) (d : BitVec 2048), s.flash.busy[o.plane] = some (.program p d) → o.verified = true →
    s.flash.fifo = [] → cellsWf flashDefault s.flash.cells = true → ∃ t, exec (.eflashProgramDone o) s = .next t
      ∧ s.ChangesOnly t [.flash] ∧ t.flash.busy = s.flash.busy.set o.plane none
      ∧ memRead flashDefault t.flash.cells (256 * p.val) 256 = leBytes 256 d.toNat
      ∧ (∀ a, a < 256 * p.val ∨ 256 * p.val + 256 ≤ a → memGet flashDefault t.flash.cells a = memGet flashDefault s.flash.cells a)) ∧
  (∀ o : FlashOutcome, s.flash.busy[o.plane] = none → (∃ t, exec (.eflashEraseDone o) s = .next t ∧ s.ChangesOnly t [])
    ∧ ∃ t, exec (.eflashProgramDone o) s = .next t ∧ s.ChangesOnly t [])

/-- Latched snapshots go to their buffers, and a due access of a sampled core gives one sample (R546, R550, R551). -/
def Obligations.SnapshotsAndSamplesFollowTheirRules : Prop := ∀ s : State,
  (∀ x image, s.perf.snapshots = [x] → x.image = some image → ∃ t w, exec .perfSnapshotLatch s = .next t
    ∧ s.ChangesOnly t [.perf, .requests] ∧ t.perf = { s.perf with snapshots := [] } ∧ t.host.waiting = s.host.waiting ++ [w]
    ∧ w.request.channel = x.command.channel ∧ w.request.token = x.command.token
    ∧ w.wait = .output image (leBytes 8 x.frame.toNat ++ leBytes 4 snapshotBytes)) ∧
  (s.perf.snapshots = [] → ∃ t, exec .perfSnapshotLatch s = .next t ∧ s.ChangesOnly t []) ∧
  (∀ x : CoreSample, s.perf.jobs = [] → ∃ t, exec (.sampleTaken x) s = .next t ∧ s.ChangesOnly t []) ∧
  (∀ (x : CoreSample) j, s.perf.jobs = [j] → j.core = x.core → s.coreRuns x.core.toNat = true → j.taken < j.count →
    (j.seen + 1 < j.period → ∃ t, exec (.sampleTaken x) s = .next t ∧ s.ChangesOnly t [.perf]
      ∧ t.perf = { s.perf with jobs := [{ j with seen := j.seen + 1 }] }) ∧
    (j.period ≤ j.seen + 1 → j.lastTick ≠ s.clock.tick → j.taken + 1 < j.count → ∃ t, exec (.sampleTaken x) s = .next t
      ∧ s.ChangesOnly t [.perf] ∧ t.perf = { s.perf with jobs := [{ j with
          seen := 0, samples := j.samples ++ j.sample s.clock.frame x, taken := j.taken + 1, skipMark := false
          inTick := 1, lastTick := s.clock.tick }] }) ∧
    (j.period ≤ j.seen + 1 → j.lastTick = s.clock.tick → 8 ≤ j.inTick → ∃ t, exec (.sampleTaken x) s = .next t
      ∧ s.ChangesOnly t [.perf] ∧ t.perf = { s.perf with jobs := [{ j with seen := 0, skipped := j.skipped + 1, skipMark := true }] }) ∧
    (j.period ≤ j.seen + 1 → j.lastTick ≠ s.clock.tick → j.taken + 1 = j.count → ∃ t w, exec (.sampleTaken x) s = .next t
      ∧ s.ChangesOnly t [.perf, .requests] ∧ t.perf = { s.perf with jobs := [] } ∧ t.host.waiting = s.host.waiting ++ [w]
      ∧ w.request.token = j.command.token ∧ w.wait = .output (j.samples ++ j.sample s.clock.frame x) (leBytes 4 (j.taken + 1)))) ∧
  (∀ j, s.perf.jobs = [j] →
    (j.started + 20000000 ≤ s.clock.tick → j.taken = 0 → ∃ t, exec (.sampleJobTimeout j.core) s = .next t ∧ s.ChangesOnly t [.perf, .channels]
      ∧ t.perf = { s.perf with jobs := [] } ∧ s.Ended t j.command .ok []) ∧
    (j.started + 20000000 ≤ s.clock.tick → 0 < j.taken → ∃ t w, exec (.sampleJobTimeout j.core) s = .next t ∧ s.ChangesOnly t [.perf, .requests]
      ∧ t.perf = { s.perf with jobs := [] } ∧ t.host.waiting = s.host.waiting ++ [w] ∧ w.request.token = j.command.token
      ∧ w.wait = .output j.samples (leBytes 4 j.taken)) ∧
    (s.clock.tick < j.started + 20000000 → ∃ t, exec (.sampleJobTimeout j.core) s = .next t ∧ s.ChangesOnly t []))

/-- A tick advances time by one frame less its step, and a finished transfer ends its command (R7, R9, R264, R304, R318,
R524). -/
def Obligations.TicksAndTransfersMoveTimeAndCommands : Prop := ∀ s : State,
  (∃ t, exec .tick s = .next t ∧ t.pending = s.pending ∧ t.clock.tick = s.clock.tick + 1
    ∧ (s.rst.porLow = true ∨ s.rst.coldLow = true → t.clock.frame = s.clock.frame)
    ∧ (s.rst.porLow = false → s.rst.coldLow = false → s.dpll.step = none → t.clock.frame = s.clock.frame + 1)
    ∧ (∀ k : Int, s.rst.porLow = false → s.rst.coldLow = false → s.dpll.step = some k →
        t.clock.frame = s.clock.frame + 1 - BitVec.ofInt 64 k)) ∧
  ((s.rst.porLow = true ∨ s.rst.coldLow = true) → (∀ j : Fin 8, (s.chan j).rungPi = (s.chan j).reqCi) →
    ∃ t, exec .tick s = .next t ∧ s.ChangesOnly t [.clock, .rtc]) ∧
  ((∀ j : Fin 8, (s.chan j).rungPi = (s.chan j).reqCi) → ∀ (c : Fin 8) (k : BitVec 64) (data : List Byte),
    (s.host.waiting = [] → ∃ t, exec (.hostDmaDone c k data) s = .next t ∧ s.ChangesOnly t []) ∧
    (s.host.busMaster = false → ∃ t, exec (.hostDmaDone c k data) s = .next t ∧ s.ChangesOnly t []) ∧
    (∀ w, s.host.waiting = [w] → w.request.channel = c → w.request.token = k → data.length ≠ w.bytes →
      ∃ t, exec (.hostDmaDone c k data) s = .next t ∧ s.ChangesOnly t []) ∧
    (∀ w bs results, s.host.busMaster = true → s.host.waiting = [w] → w.request.channel = c → w.request.token = k → w.accepted = true →
      w.wait = .output bs results → w.opcode ≠ 0x0A03 → ∃ t, exec (.hostDmaDone c k []) s = .next t
        ∧ s.ChangesOnly t [.channels, .requests] ∧ t.host.waiting = [] ∧ s.Ended t w.request.ref .ok results))

/-- The SYS commands open a channel, report the device, the log and a job, and reset it (R322, R338, R339, R340, R341, R342,
R343, R344). -/
def Obligations.SystemCommandsAnswerAndTakeEffect : Prop := ∀ (s v : State) (r : Request), v = s.judged r →
  (s.Admits cmdChannelOpen r → r.zero 2 2 = true →
    (∀ x, negotiate r.version (BitVec.ofNat 16 (r.u 0 2)) = some x → x ∈ servedVersions ∧ x ≤ r.version ∧ BitVec.ofNat 16 (r.u 0 2) ≤ x
      ∧ ∀ y ∈ servedVersions, y ≤ r.version → y ≤ x) ∧
    (∀ x, negotiate r.version (BitVec.ofNat 16 (r.u 0 2)) = some x → (v.chan r.channel).awaiting = false →
      ∃ t, exec (.channelOpen r) s = .next t ∧ t.Recorded r .ok 0 (leBytes 2 x.toNat ++ zeros 2) ∧ s.ChangesOnly t [.channels]
        ∧ (t.chan r.channel).mode = .opened ∧ (t.chan r.channel).version = x ∧ ∀ j, j ≠ r.channel → (s.chan j).Same (t.chan j)) ∧
    ((∀ y ∈ servedVersions, y ≤ r.version → y < BitVec.ofNat 16 (r.u 0 2)) →
      ∃ t, exec (.channelOpen r) s = .next t ∧ s.Refuses t r .errVersion 0 (zeros 4))) ∧
  (s.Admits cmdDeviceInfo r → ∃ t, exec (.deviceInfo r) s = .next t ∧ s.Answers t r .ok
    (padTo 80 (deviceId ++ leBytes 16 Config.serial.toNat ++ leBytes 2 v.firmware.toNat ++ leBytes 2 v.mgmt.securityFw.version.toNat
      ++ leBytes 2 v.engineLibrary.toNat ++ leBytes 2 0x0100 ++ leBytes 2 0x0204 ++ [3, 3, 2])) none) ∧
  (∀ ds n, s.Admits cmdRecoveryRead r → s.Lists r ds n →
    (∀ l, v.pendingLog = some l → l.bytes.length ≤ n → ∃ t u w, exec (.recoveryRead r) s = .next t ∧ s.AwaitsList t cmdRecoveryRead r
      ∧ exec (.hostDmaDone r.channel r.token ds) t = .next u ∧ s.AwaitsBuffer u cmdRecoveryRead r (.output l.bytes (leBytes 4 l.bytes.length ++ zeros 4)) false
      ∧ exec (.hostDmaDone r.channel r.token []) u = .next w ∧ s.Answers w r .ok (leBytes 4 l.bytes.length ++ zeros 4) none) ∧
    (v.pendingLog = none → ∃ t u, exec (.recoveryRead r) s = .next t ∧ s.AwaitsList t cmdRecoveryRead r
      ∧ exec (.hostDmaDone r.channel r.token ds) t = .next u ∧ s.Refuses u r .errState 0 (zeros 8))) ∧
  (s.Admits cmdRecoveryAck r → ∀ l, v.pendingLog = some l →
    (r.u 0 8 = l.startFrame.toNat → ∃ t, exec (.recoveryAck r) s = .next t ∧ s.Answers t r .ok [] (some 0x0104)
      ∧ (v.carryOut ⟨0x0104, r, []⟩).host.recoveryPending = false) ∧
    (r.u 0 8 ≠ l.startFrame.toNat → ∃ t, exec (.recoveryAck r) s = .next t ∧ s.Refuses t r .errConflict 0 [])) ∧
  (s.Admits cmdJobStatus r →
    (∀ e, v.ticketEntry (r.u 0 4) = some e → e.bound = 0 → e.jobState ≠ 0 → ∃ t, exec (.jobStatus r) s = .next t
      ∧ s.Answers t r .ok (leBytes 2 e.opcode.toNat ++ [e.jobState, e.reason] ++ leBytes 2 e.status.code ++ zeros 2
          ++ leBytes 4 (v.clock.tick - e.startTick) ++ zeros 4) none) ∧
    (∀ e, v.ticketEntry (r.u 0 4) = some e → ∃ t, exec (.jobStatus r) s = .next t ∧ s.Answers t r .ok (e.jobResults v.clock.tick) none) ∧
    (v.ticketEntry (r.u 0 4) = none → ∃ t, exec (.jobStatus r) s = .next t ∧ s.Refuses t r .errRange 0 (zeros 16))) ∧
  (s.Admits cmdWarmReset r → r.u 0 4 = 0xA55A →
    (v.mgmt.warmReset = none → v.host.service ≠ 0 → v.host.service ≠ 3 → ∃ t, exec (.warmReset r) s = .next t
      ∧ t.Recorded r .accepted 0 [] ∧ s.ChangesOnly t [.channels, .mgmt, .deferred] ∧ t.mgmt = { s.mgmt with warmReset := some r.ref }
      ∧ t.deferred = s.deferred ++ [⟨0x0106, r, []⟩]
      ∧ (v.carryOut ⟨0x0106, r, []⟩).mgmt.serviceGap = true ∧ (v.carryOut ⟨0x0106, r, []⟩).mgmt.owner = none) ∧
    (v.mgmt.warmReset ≠ none → ∃ t, exec (.warmReset r) s = .next t ∧ s.Refuses t r .errState 0 []))

/-- The PORT commands enable, disable, stop, restart, set and report ports as stated (R62, R95, R96, R337, R345, R346, R347,
R348). -/
def Obligations.PortCommandsAnswerAndTakeEffect : Prop := ∀ (s v : State) (r : Request) (p : PortNo), v = s.judged r → r.u 0 2 = p.val →
  (r.zero 2 2 = true → s.Admits cmdPortEnable r →
    (v.domainOn (laneGroup p) = true → (v.port p).mode = .down → v.portMarked p = false → v.stagedOk p = true →
      ∃ t, exec (.portEnable r) s = .next t ∧ s.Answers t r .ok (leBytes 8 (v.clock.frame + 1).toNat) (some 0x0201)
        ∧ ((v.carryOut ⟨0x0201, r, []⟩).port p).mode = .training
        ∧ ((v.carryOut ⟨0x0201, r, []⟩).port p).settings = (v.port p).nextSettings) ∧
    (v.domainOn (laneGroup p) = true → (v.port p).mode ≠ .down →
      ∃ t, exec (.portEnable r) s = .next t ∧ s.Answers t r .ok (zeros 8) (some 0x0201) ∧ v.carryOut ⟨0x0201, r, []⟩ = v) ∧
    (v.domainOn (laneGroup p) = false → ∃ t, exec (.portEnable r) s = .next t ∧ s.Refuses t r .errState 0 (zeros 8)) ∧
    (v.domainOn (laneGroup p) = true → (v.port p).mode = .down → v.portMarked p = true →
      ∃ t, exec (.portEnable r) s = .next t ∧ s.Refuses t r .errUnusable 0 (zeros 8)) ∧
    (v.domainOn (laneGroup p) = true → (v.port p).mode = .down → v.portMarked p = false → v.stagedOk p = false →
      ∃ t, exec (.portEnable r) s = .next t ∧ s.Refuses t r .errConflict 0 (zeros 8))) ∧
  (r.zero 2 2 = true → s.Admits cmdPortDisable r →
    ((v.port p).mode ≠ .down → ∃ t, exec (.portDisable r) s = .next t
      ∧ s.Answers t r .ok (leBytes 8 (v.clock.frame + 1).toNat) (some 0x0202)
      ∧ ((v.carryOut ⟨0x0202, r, []⟩).port p).mode = .down ∧ ((v.carryOut ⟨0x0202, r, []⟩).port p).staged = .none) ∧
    ((v.port p).mode = .down → ∃ t, exec (.portDisable r) s = .next t ∧ s.Answers t r .ok (zeros 8) (some 0x0202)
      ∧ (v.carryOut ⟨0x0202, r, []⟩).ports = v.ports)) ∧
  (r.zero 2 2 = true → s.Admits cmdPortStop r →
    ((v.port p).takesStaged = false → ∃ t, exec (.portStop r) s = .next t
      ∧ s.Answers t r .ok (leBytes 8 (v.clock.frame + 1).toNat) (some 0x0203)
      ∧ ((v.carryOut ⟨0x0203, r, []⟩).port p).mode = .stopped ∧ ((v.carryOut ⟨0x0203, r, []⟩).port p).resuming = false) ∧
    ((v.port p).mode = .stopped → (v.port p).resuming = false → ∃ t, exec (.portStop r) s = .next t
      ∧ s.Answers t r .ok (zeros 8) (some 0x0203) ∧ v.carryOut ⟨0x0203, r, []⟩ = v) ∧
    ((v.port p).mode = .down → ∃ t, exec (.portStop r) s = .next t ∧ s.Refuses t r .errState 0 (zeros 8))) ∧
  (r.zero 2 2 = true → s.Admits cmdPortRestart r →
    ((v.port p).mode = .stopped → (v.port p).resuming = false → v.stagedOk p = true → ∃ t, exec (.portRestart r) s = .next t
      ∧ s.Answers t r .ok (leBytes 8 (v.clock.frame + 1).toNat) (some 0x0204)
      ∧ ((v.carryOut ⟨0x0204, r, []⟩).port p).settings = (v.port p).nextSettings
      ∧ ((v.port p).staged.retrains = true → ((v.carryOut ⟨0x0204, r, []⟩).port p).mode = .training)
      ∧ ((v.port p).staged.retrains = false → ((v.carryOut ⟨0x0204, r, []⟩).port p).mode = .stopped
          ∧ ((v.carryOut ⟨0x0204, r, []⟩).port p).resuming = true)) ∧
    ((v.port p).mode = .stopped → (v.port p).resuming = true → ∃ t, exec (.portRestart r) s = .next t
      ∧ s.Answers t r .ok (leBytes 8 (v.port p).frameMark.toNat) (some 0x0204) ∧ v.carryOut ⟨0x0204, r, []⟩ = v) ∧
    ((v.port p).mode ≠ .stopped → ∃ t, exec (.portRestart r) s = .next t ∧ s.Refuses t r .errState 0 (zeros 8))) ∧
  (cmdPortSet.range r = none → s.Admits cmdPortSet r →
    (r.u 2 1 ≤ 3 → ∃ t, exec (.portSet r) s = .next t ∧ s.Answers t r .ok [] (some 0x0205)
      ∧ (r.u 2 1 = 1 → (v.carryOut ⟨0x0205, r, []⟩).port p = { v.port p with txTrace := traceOf r })
      ∧ (r.u 2 1 = 2 → ((v.carryOut ⟨0x0205, r, []⟩).port p).partner = traceOf r)
      ∧ (r.u 2 1 = 3 → ((v.carryOut ⟨0x0205, r, []⟩).port p).sdSet.1.val = r.u 4 1 ∧ ((v.carryOut ⟨0x0205, r, []⟩).port p).sdSet.2.val = r.u 5 1
          ∧ ((v.carryOut ⟨0x0205, r, []⟩).port p).sdClear.1.val = r.u 6 1 ∧ ((v.carryOut ⟨0x0205, r, []⟩).port p).sdClear.2.val = r.u 7 1)) ∧
    (4 ≤ r.u 2 1 → (v.port p).takesStaged = true → (r.u 2 1 ≠ 5 ∨ v.portMarked p = false) → ∃ t, exec (.portSet r) s = .next t
      ∧ s.Answers t r .ok [] (some 0x0205) ∧ ((v.carryOut ⟨0x0205, r, []⟩).port p).settings = (v.port p).settings
      ∧ (r.u 2 1 = 5 → ((v.carryOut ⟨0x0205, r, []⟩).port p).staged.role = some (roleOf (r.u 4 1)))
      ∧ (r.u 2 1 = 4 → ((v.carryOut ⟨0x0205, r, []⟩).port p).staged.version = some (BitVec.ofNat 2 (r.u 4 1)))
      ∧ (r.u 2 1 = 6 → ∃ w, ((v.carryOut ⟨0x0205, r, []⟩).port p).staged.window = some w ∧ w.val = r.u 4 1)
      ∧ (r.u 2 1 = 7 → ∃ w, ((v.carryOut ⟨0x0205, r, []⟩).port p).staged.txPreset = some w ∧ w.val = r.u 4 1)
      ∧ (r.u 2 1 = 8 → ∃ w, ((v.carryOut ⟨0x0205, r, []⟩).port p).staged.rxAdapt = some w ∧ w.val = r.u 4 1)) ∧
    (r.u 2 1 = 5 → (v.port p).takesStaged = true → v.portMarked p = true → ∃ t, exec (.portSet r) s = .next t
      ∧ s.Refuses t r .errUnusable 0 []) ∧
    (4 ≤ r.u 2 1 → (v.port p).takesStaged = false → ∃ t, exec (.portSet r) s = .next t ∧ s.Refuses t r .errState 0 [])) ∧
  (cmdPortFormats.range r = none → s.Admits cmdPortFormats r →
    ((v.port p).takesStaged = true → ∃ t, exec (.portFormats r) s = .next t ∧ s.Answers t r .ok [] (some 0x0206)
      ∧ ∃ x : Vector (Fin 7) 256, (∀ i : Fin 256, (x[i]).val = r.u (4 + i.val) 1)
        ∧ (r.u 2 1 = 0 → ((v.carryOut ⟨0x0206, r, []⟩).port p).staged = { (v.port p).staged with inFormats := some x })
        ∧ (r.u 2 1 = 1 → ((v.carryOut ⟨0x0206, r, []⟩).port p).staged = { (v.port p).staged with outFormats := some x })) ∧
    ((v.port p).takesStaged = false → ∃ t, exec (.portFormats r) s = .next t ∧ s.Refuses t r .errState 0 [])) ∧
  (cmdPortBundles.range r = none → s.Admits cmdPortBundles r → ∀ formats,
    formats = (if r.u 2 1 = 0 then (v.port p).nextSettings.inFormats else (v.port p).nextSettings.outFormats) →
    ((v.port p).takesStaged = true → bundlesOverlap (bundlesOf r) = false → bundlesMixed (bundlesOf r) formats = false →
      ∃ t, exec (.portBundles r) s = .next t ∧ s.Answers t r .ok [] (some 0x0207)
        ∧ (r.u 2 1 = 0 → ((v.carryOut ⟨0x0207, r, []⟩).port p).staged = { (v.port p).staged with inBundles := some (bundlesOf r) })
        ∧ (r.u 2 1 = 1 → ((v.carryOut ⟨0x0207, r, []⟩).port p).staged = { (v.port p).staged with outBundles := some (bundlesOf r) })) ∧
    ((v.port p).takesStaged = true → (bundlesOverlap (bundlesOf r) = true ∨ bundlesMixed (bundlesOf r) formats = true) → ∃ t, exec (.portBundles r) s = .next t
      ∧ s.Refuses t r .errConflict 0 [])) ∧
  (r.zero 2 2 = true → s.Admits cmdPortStatus r → ∃ t, exec (.portStatus r) s = .next t ∧ t.Recorded r .ok 0 (v.port p).status
    ∧ s.ChangesOnly t [.channels, .ports] ∧ t.ports = s.ports.set p { s.ports[p] with thetaSeen := false }) ∧
  (∀ ds n, s.Admits cmdPortStatusAll r → s.Lists r ds n →
    (40960 ≤ n → ∃ t u, exec (.portStatusAll r) s = .next t ∧ s.AwaitsList t cmdPortStatusAll r
      ∧ exec (.hostDmaDone r.channel r.token ds) t = .next u ∧ u.Recorded r .accepted 0 []
      ∧ s.AwaitsBuffer u cmdPortStatusAll r (.output (v.ports.toList.flatMap Port.status) []) true
      ∧ s.ChangesOnly u [.channels, .requests, .ports] ∧ u.ports = s.ports.map (fun q => { q with thetaSeen := false })) ∧
    (n < 40960 → ∃ t u, exec (.portStatusAll r) s = .next t ∧ s.AwaitsList t cmdPortStatusAll r
      ∧ exec (.hostDmaDone r.channel r.token ds) t = .next u ∧ s.Refuses u r .errLength 0xFFFFFFFD []))

/-- The MAP commands start and cancel jobs, schedule and withdraw swaps, read, report and set planes (R135, R141, R143, R148,
R150, R290, R350, R351, R352, R353, R354, R356). -/
def Obligations.MapCommandsAnswerAndTakeEffect : Prop := ∀ (s v : State) (r : Request), v = s.judged r →
  (∀ (i : Request → Instr) (k : Command) (raw : Bool), (i = .mapSolve ∧ k = cmdMapSolve ∧ raw = false) ∨ (i = .mapRawLoad ∧ k = cmdMapRawLoad ∧ raw = true) →
    ∀ ds n, s.Admits k r → s.Lists r ds n →
      (v.map.shadowMode = .mirror → ∃ t u, exec (i r) s = .next t ∧ s.AwaitsList t k r ∧ exec (.hostDmaDone r.channel r.token ds) t = .next u
        ∧ s.ChangesOnly u [.channels, .requests, .map]
        ∧ (∃ e, (u.chan r.channel).recorded r.token = some e ∧ e.status = .pending ∧ e.stage = 0 ∧ e.ticket = s.takeTicket
            ∧ e.results = zeros 272 ∧ e.jobState = 1)
        ∧ s.AwaitsBuffer u k r (.input n) true ∧ u.map.active = s.map.active
        ∧ (s.deferred = [] → u.map.shadowMode = .building ∧ ∃ j, u.map.job = some j ∧ j.command = r.ref ∧ j.raw = raw ∧ j.data = none
            ∧ j.base = s.map.active.generation ∧ j.started = s.clock.tick + 1 ∧ ∀ p : PortNo, j.settings[p] = (s.port p).settings)) ∧
      (v.map.shadowMode = .mirroring → v.map.queued = none → ∃ t u, exec (i r) s = .next t ∧ s.AwaitsList t k r
        ∧ exec (.hostDmaDone r.channel r.token ds) t = .next u ∧ s.ChangesOnly u [.channels, .requests, .map]
        ∧ (∃ e, (u.chan r.channel).recorded r.token = some e ∧ e.status = .pending ∧ e.ticket = s.takeTicket)
        ∧ (s.deferred = [] → ∃ j, u.map = { s.map with queued := some j } ∧ j.command = r.ref ∧ j.raw = raw ∧ j.data = none)) ∧
      (v.map.shadowMode ≠ .mirror → (v.map.shadowMode ≠ .mirroring ∨ v.map.queued ≠ none) → ∃ t u, exec (i r) s = .next t ∧ s.AwaitsList t k r
        ∧ exec (.hostDmaDone r.channel r.token ds) t = .next u ∧ s.Refuses u r .errState 0 (zeros 272))) ∧
  (s.Admits cmdMapCancelJob r →
    (∀ j e, v.map.job = some j → (v.chan j.command.channel).recorded j.command.token = some e → e.ticket.toNat = r.u 0 4 →
      ∃ t, exec (.mapCancelJob r) s = .next t ∧ s.Answers t r .ok [] (some 0x0303) ∧ (v.carryOut ⟨0x0303, r, []⟩).map.job = none
        ∧ (v.carryOut ⟨0x0303, r, []⟩).map.shadowMode = .mirroring
        ∧ v.Ended (v.carryOut ⟨0x0303, r, []⟩) j.command .errState (jobResults j.base 0x10 [] 0)) ∧
    (v.mapTicket (r.u 0 4) = false → ∃ t, exec (.mapCancelJob r) s = .next t ∧ s.Refuses t r .errState 0 [])) ∧
  (s.Admits cmdMapCancelBank r →
    (v.map.shadowMode = .ready → ∃ t, exec (.mapCancelBank r) s = .next t ∧ s.Answers t r .ok [] (some 0x0304)
      ∧ (v.carryOut ⟨0x0304, r, []⟩).map.shadowMode = .mirroring) ∧
    (v.map.shadowMode ≠ .ready → ∃ t, exec (.mapCancelBank r) s = .next t ∧ s.Refuses t r .errState 0 [])) ∧
  (s.Admits cmdMapSwap r → cmdMapSwap.range r = none →
    (∀ f : BitVec 64, v.map.shadowMode = .ready → v.casc.mode = .standalone →
      (r.u 0 1 = 0 ∧ f = s.clock.frame + 8) ∨ (r.u 0 1 = 1 ∧ f.toNat = r.u 8 8 ∧ s.clock.frame.toNat + 8 ≤ f.toNat
        ∧ f.toNat ≤ s.clock.frame.toNat + 8589934592) →
      ∃ t, exec (.mapSwap r) s = .next t ∧ t.Recorded r .accepted 0 (leBytes 8 f.toNat ++ zeros 8)
        ∧ s.ChangesOnly t [.channels, .map, .casc] ∧ t.map.active = s.map.active
        ∧ (s.deferred = [] → t.casc = s.casc ∧ t.map = { s.map with
            swap := some { frame := f, persist := r.persist, command := some r.ref, latched := false }, shadowMode := .scheduled })) ∧
    (v.map.shadowMode = .ready → v.casc.mode = .joined → v.cascadeSwapOpen = false → (r.u 0 1 = 0 ∨ v.swapFrameOk (r.u 8 8) = true) →
      ∃ t, exec (.mapSwap r) s = .next t ∧ t.Recorded r .accepted 0 (zeros 16) ∧ s.ChangesOnly t [.channels, .map, .casc]
        ∧ (s.deferred = [] → s.casc.role ≠ .master → t.map = { s.map with shadowMode := .scheduled } ∧ t.casc.staged
            = some { id := s.casc.nextSwapId, frame := none, aborted := false, persist := r.persist, command := some r.ref })) ∧
    (v.map.shadowMode = .ready → v.casc.mode = .standalone → r.u 0 1 = 1 → v.swapFrameOk (r.u 8 8) = false →
      ∃ t, exec (.mapSwap r) s = .next t ∧ s.Refuses t r .errRange 8 (zeros 16)) ∧
    (v.map.shadowMode ≠ .ready → ∃ t, exec (.mapSwap r) s = .next t ∧ s.Refuses t r .errState 0 (zeros 16))) ∧
  (s.Admits cmdMapSwapCancel r →
    (∀ w, v.casc.mode = .standalone → v.casc.staged = none → v.map.shadowMode = .scheduled → v.map.swap = some w →
      w.latched = false → s.clock.frame.toNat + 8 ≤ w.frame.toNat → (∀ x, s.map.swap = some x → x.command ≠ some r.ref) →
      ∃ t, exec (.mapSwapCancel r) s = .next t ∧ t.Recorded r .ok 0 [] ∧ s.ChangesOnly t [.channels, .map]
        ∧ (s.deferred = [] → t.map = { s.map with swap := none, shadowMode := .ready }
          ∧ ∀ c, w.command = some c → (s.chan r.channel).window.length < 512 →
            s.Ended t c .errState (leBytes 8 w.frame.toNat ++ leBytes 8 s.map.active.generation.toNat))) ∧
    ((v.casc.mode = .joined ∨ v.map.swap = none) → ∃ t, exec (.mapSwapCancel r) s = .next t ∧ s.Refuses t r .errState 0 [])) ∧
  (∀ ds n, s.Admits cmdMapRead r → cmdMapRead.range r = none → s.Lists r ds n →
    (∀ size bs gen, v.mapOutput (r.u 8 1) = some (size, bs, gen) → bs ≠ [] → size ≤ n → ∃ t u, exec (.mapRead r) s = .next t
      ∧ s.AwaitsList t cmdMapRead r ∧ exec (.hostDmaDone r.channel r.token ds) t = .next u
      ∧ s.Returns u cmdMapRead r bs (leBytes 8 size ++ leBytes 8 gen.toNat)) ∧
    (v.mapOutput (r.u 8 1) = none → ∃ t u, exec (.mapRead r) s = .next t ∧ s.AwaitsList t cmdMapRead r
      ∧ exec (.hostDmaDone r.channel r.token ds) t = .next u ∧ s.Refuses u r .errState 0 (zeros 16))) ∧
  (s.Admits cmdMapStatus r → ∃ t, exec (.mapStatus r) s = .next t ∧ s.Answers t r .ok (padTo 56 v.mapStatus) none) ∧
  (s.Admits cmdMapPersist r → ∃ t, exec (.mapPersist r) s = .next t ∧ t.Recorded r .accepted 0 (zeros 8) ∧ s.ChangesOnly t [.channels, .map]
    ∧ t.map.persistWaits = s.map.persistWaits ++ [(r.ref, s.map.active.generation)]
    ∧ (s.map.persisting = none → t.map.persisting = some s.map.active ∧ t.map.copies = s.map.copies.set s.writtenSlot none)
    ∧ (s.map.persisting ≠ none → t.map = { s.map with persistWaits := s.map.persistWaits ++ [(r.ref, s.map.active.generation)] })) ∧
  (∀ k : Fin 4, s.Admits cmdPlaneSet r → r.u 0 1 = k.val → r.u 1 1 ≤ 1 → r.zero 2 2 = true →
    (r.u 1 1 = 1 → v.map.planes[k].mode = .off → v.map.planes[k].unusable = false → ∃ t, exec (.planeSet r) s = .next t
      ∧ s.Answers t r .accepted (zeros 8) (some 0x030A)) ∧
    (r.u 1 1 = 0 → v.map.planes[k].mode = .on → (v.map.shadowMode = .mirror ∨ v.map.shadowMode = .mirroring) →
      (v.chan r.channel).find r.token = none → ∃ t, exec (.planeSet r) s = .next t ∧ s.Answers t r .accepted (zeros 8) (some 0x030A)
        ∧ (v.carryOut ⟨0x030A, r, []⟩).map.planes[k].mode = .draining ∧ (v.carryOut ⟨0x030A, r, []⟩).map.rerouteWanted = true) ∧
    ((r.u 1 1 = 1 ∧ v.map.planes[k].mode = .on) ∨ (r.u 1 1 = 0 ∧ v.map.planes[k].mode = .off) → ∃ t, exec (.planeSet r) s = .next t
      ∧ t.Recorded r .ok stageCompletion (v.map.planes[k].statusByte :: zeros 7) ∧ s.ChangesOnly t [.channels, .deferred]) ∧
    (r.u 1 1 = 1 → v.map.planes[k].mode ≠ .on → v.map.planes[k].unusable = true → ∃ t, exec (.planeSet r) s = .next t
      ∧ s.Refuses t r .errUnusable 0 (zeros 8)) ∧
    (r.u 1 1 = 0 → v.map.planes[k].mode = .testing → ∃ t, exec (.planeSet r) s = .next t ∧ s.Refuses t r .errState 0 (zeros 8)))

/-- The PROT commands declare, modify and delete groups, set switches and pairs, and report units (R153, R154, R155, R160,
R357, R358, R359, R360). -/
def Obligations.ProtectionCommandsAnswerAndTakeEffect : Prop := ∀ (s v : State) (r : Request), v = s.judged r →
  (∀ g : Fin 256, s.Admits cmdGroupDeclare r → cmdGroupDeclare.range r = none → r.u 0 1 = g.val →
    (v.prot.groups[g] = none → v.groupConflict (declaredGroup r) = false → ∃ t, exec (.groupDeclare r) s = .next t
      ∧ s.Answers t r .ok [] (some 0x0401)
      ∧ (v.carryOut ⟨0x0401, r, []⟩).prot = { v.prot with groups := v.prot.groups.set g (some (declaredGroup r)) }
      ∧ (declaredGroup r).unit = .idle ∧ (declaredGroup r).protect.val = r.u 12 2 ∧ (declaredGroup r).working.length = r.u 2 1) ∧
    ((v.prot.groups[g] ≠ none ∨ v.groupConflict (declaredGroup r) = true) → ∃ t, exec (.groupDeclare r) s = .next t
      ∧ s.Refuses t r .errConflict 0 [])) ∧
  (∀ g : Fin 256, s.Admits cmdGroupModify r → cmdGroupModify.range r = none → r.u 0 1 = g.val →
    (∀ x, v.prot.groups[g] = some x → ∃ t, exec (.groupModify r) s = .next t ∧ s.Answers t r .ok [] (some 0x0402)
      ∧ (v.carryOut ⟨0x0402, r, []⟩).prot = { v.prot with groups := v.prot.groups.set g (some { x with
          settings := { revertive := decide (r.u 1 1 = 1), holdOff := r.u 2 2, wtr := r.u 4 1, sdCrit := decide (r.u 5 1 = 1), threshold := r.u 6 2 } }) }) ∧
    (v.prot.groups[g] = none → ∃ t, exec (.groupModify r) s = .next t ∧ s.Refuses t r .errState 0 [])) ∧
  (∀ g : Fin 256, s.Admits cmdGroupDelete r → r.zero 1 3 = true → r.u 0 1 = g.val →
    (∀ x, v.prot.groups[g] = some x → x.unit.selected = 0 → (x.oneToN = false ∨ x.unit.bridged = 0) →
      ∃ t, exec (.groupDelete r) s = .next t ∧ s.Answers t r .ok [] (some 0x0403)
        ∧ (v.carryOut ⟨0x0403, r, []⟩).prot = { v.prot with groups := v.prot.groups.set g none }) ∧
    (∀ x, v.prot.groups[g] = some x → (x.unit.selected ≠ 0 ∨ (x.oneToN = true ∧ x.unit.bridged ≠ 0)) →
      ∃ t, exec (.groupDelete r) s = .next t ∧ s.Refuses t r .errState 0 []) ∧
    (v.prot.groups[g] = none → ∃ t, exec (.groupDelete r) s = .next t ∧ s.Refuses t r .errState 0 [])) ∧
  (∀ (x : ProtTarget) (m : Fin 16), s.Admits cmdProtCommand r → (r.u 0 1 = 0 ∧ r.u 4 4 ≤ 255 ∨ r.u 0 1 = 1) → r.zero 3 1 = true →
    x = protTarget r (decide (r.u 0 1 = 1)) → r.u 2 1 = m.val →
    (∀ u, v.heldUnit x = some u →
      (r.u 1 1 = 1 → m = 0 → ∃ t, exec (.protCommand r) s = .next t ∧ s.Answers t r .ok (leBytes 8 (v.clock.frame + 1).toNat) (some 0x0404)
        ∧ (v.carryOut ⟨0x0404, r, []⟩).heldUnit x = some { u with lo := true }) ∧
      (r.u 1 1 = 2 → 1 ≤ m.val → m.val ≤ v.targetMembers x → u.lo = false →
        (v.targetOneToN x = true → u.protFail = false → ∀ q, farRequest (u.far.getD 0) = some q → q.1 ≠ .lo) →
        ∃ t, exec (.protCommand r) s = .next t
        ∧ s.Answers t r .ok (leBytes 8 (v.clock.frame + 1).toNat) (some 0x0404)
        ∧ (v.carryOut ⟨0x0404, r, []⟩).heldUnit x = some { u with fs := some m, ms := none }) ∧
      (r.u 1 1 = 3 → 1 ≤ m.val → m.val ≤ v.targetMembers x → (u.decide (v.targetMembers x) v.clock.tick).1.strong = false →
        (v.targetOneToN x = true → u.protFail = false → ∀ q, farRequest (u.far.getD 0) = some q → q.1.strong = false) →
        ∃ t, exec (.protCommand r) s = .next t ∧ s.Answers t r .ok (leBytes 8 (v.clock.frame + 1).toNat) (some 0x0404)
          ∧ (v.carryOut ⟨0x0404, r, []⟩).heldUnit x = some { u with ms := some m }) ∧
      (r.u 1 1 = 4 → m = 0 → ∃ t u', exec (.protCommand r) s = .next t
        ∧ s.Answers t r .ok (leBytes 8 (v.clock.frame + 1).toNat) (some 0x0404)
        ∧ (v.carryOut ⟨0x0404, r, []⟩).heldUnit x = some u' ∧ u'.lo = false ∧ u'.fs = none ∧ u'.ms = none ∧ u'.selected = u.selected
        ∧ (u.fs = none → u.ms = none → u'.wtr = u.wtr ∧ u'.dnr = u.dnr)) ∧
      (1 ≤ m.val → m.val ≤ v.targetMembers x → (r.u 1 1 = 2 ∧ u.lo = true
          ∨ r.u 1 1 = 3 ∧ ((u.decide (v.targetMembers x) v.clock.tick).1.strong = true
            ∨ v.targetOneToN x = true ∧ u.protFail = false ∧ ∃ q, farRequest (u.far.getD 0) = some q ∧ q.1.strong = true)) →
        ∃ t, exec (.protCommand r) s = .next t ∧ s.Refuses t r .errState 0 (zeros 8))) ∧
    (v.heldUnit x = none → r.u 1 1 = 1 → m = 0 → ∃ t, exec (.protCommand r) s = .next t ∧ s.Refuses t r .errState 0 (zeros 8))) ∧
  (∀ id : BitVec 32, s.Admits cmdPairSettings r → cmdPairSettings.range r = none → r.u 0 4 = id.toNat →
    ∃ t, exec (.pairSettings r) s = .next t ∧ s.Answers t r .ok [] (some 0x0405)
      ∧ (r.u 4 1 = 0 → (v.carryOut ⟨0x0405, r, []⟩).pairSettingsOf id
          = { revertive := decide (r.u 5 1 = 1), holdOff := r.u 6 2, wtr := r.u 8 1, sdCrit := decide (r.u 9 1 = 1), threshold := 256 })
      ∧ (r.u 4 1 = 1 → (v.carryOut ⟨0x0405, r, []⟩).pairSettingsOf id = .defaults)
      ∧ ∀ j, j ≠ id → (v.carryOut ⟨0x0405, r, []⟩).pairSettingsOf j = v.pairSettingsOf j) ∧
  (∀ x : ProtTarget, s.Admits cmdProtStatus r → (r.u 0 1 = 0 ∧ r.u 4 4 ≤ 255 ∨ r.u 0 1 = 1) → r.zero 1 3 = true →
    x = protTarget r (decide (r.u 0 1 = 1)) →
    (∀ u, v.heldUnit x = some u → ∃ t, exec (.protStatus r) s = .next t
      ∧ s.Answers t r .ok (padTo 40 (u.status (decide (r.u 0 1 = 1)) v.clock.tick)) none) ∧
    (v.heldUnit x = none → ∃ t, exec (.protStatus r) s = .next t ∧ s.Refuses t r .errState 0 (zeros 40)))

/-- The SYNC commands declare references, set timing, force, open and close the loop, step and set outputs (R250, R256, R259,
R261, R270, R361, R362, R363, R364, R365, R366, R367). -/
def Obligations.SynchronisationCommandsAnswerAndTakeEffect : Prop := ∀ (s v : State) (r : Request), v = s.judged r →
  (∀ i : Fin 12, s.Admits cmdRefDeclare r → cmdRefDeclare.range r = none → r.u 0 1 = i.val →
    ((v.dpll.selected ≠ some i ∨ changesRef r v.dpll.refs[i] = false) →
      (r.u 3 1 = 0 ∨ ∀ j : Fin 12, j ≠ i → v.dpll.refs[j].epochRole ≠ r.u 3 1) → ∃ t x, exec (.refDeclare r) s = .next t
        ∧ s.Answers t r .ok [] (some 0x0501) ∧ (v.carryOut ⟨0x0501, r, []⟩).dpll.refs = v.dpll.refs.set i x
        ∧ x.kind = kindOf (r.u 1 1) ∧ x.priority = r.u 2 1 ∧ x.epochRole = r.u 3 1 ∧ x.nominal = r.u 4 4 ∧ x.accept = r.u 8 4
        ∧ x.reject = r.u 12 4 ∧ x.qualSeconds = r.u 16 2 ∧ x.tolerance = r.u 20 4
        ∧ (changesRef r v.dpll.refs[i] = true → x.qualified = false)
        ∧ (changesRef r v.dpll.refs[i] = false → x.qualified = v.dpll.refs[i].qualified ∧ x.gateAccept = v.dpll.refs[i].gateAccept)) ∧
    (v.dpll.selected = some i → changesRef r v.dpll.refs[i] = true → ∃ t, exec (.refDeclare r) s = .next t ∧ s.Refuses t r .errState 0 []) ∧
    (∀ j : Fin 12, v.dpll.selected ≠ some i → r.u 3 1 ≠ 0 → j ≠ i → v.dpll.refs[j].epochRole = r.u 3 1 → ∃ t, exec (.refDeclare r) s = .next t
      ∧ s.Refuses t r .errConflict 0 [])) ∧
  (s.Admits cmdTimingSet r → cmdTimingSet.range r = none → ∃ t, exec (.timingSet r) s = .next t ∧ s.Answers t r .ok [] (some 0x0502)
    ∧ (v.carryOut ⟨0x0502, r, []⟩).dpll = { v.dpll with settings := v.dpll.settings.put (r.u 0 1) (r.s 4 8) }
    ∧ (r.u 0 1 = 4 → (v.carryOut ⟨0x0502, r, []⟩).dpll.settings = { v.dpll.settings with lockWindow := (r.s 4 8).toNat })
    ∧ (r.u 0 1 = 10 → (v.carryOut ⟨0x0502, r, []⟩).dpll.settings = { v.dpll.settings with tickOffset := r.s 4 8 })
    ∧ (r.u 0 1 = 11 → (v.carryOut ⟨0x0502, r, []⟩).dpll.settings = { v.dpll.settings with holdoverLimit := (r.s 4 8).toNat })
    ∧ (r.u 0 1 = 13 → (v.carryOut ⟨0x0502, r, []⟩).dpll.settings = { v.dpll.settings with slewLimit := (r.s 4 8).toNat })) ∧
  (s.Admits cmdRefForce r → r.zero 1 3 = true →
    (∀ i : Fin 12, r.u 0 1 = i.val → v.dpll.refs[i].kind ≠ .none → ∃ t, exec (.refForce r) s = .next t ∧ s.Answers t r .ok [] (some 0x0503)
      ∧ (v.carryOut ⟨0x0503, r, []⟩).dpll = { v.dpll with forced := some i }) ∧
    (r.u 0 1 = 255 → ∃ t, exec (.refForce r) s = .next t ∧ s.Answers t r .ok [] (some 0x0503)
      ∧ (v.carryOut ⟨0x0503, r, []⟩).dpll = { v.dpll with forced := none }) ∧
    (∀ i : Fin 12, r.u 0 1 = i.val → v.dpll.refs[i].kind = .none → ∃ t, exec (.refForce r) s = .next t ∧ s.Refuses t r .errState 0 []) ∧
    (11 < r.u 0 1 → r.u 0 1 ≠ 255 → ∃ t, exec (.refForce r) s = .next t ∧ s.Refuses t r .errRange 0 [])) ∧
  (s.Admits cmdLoopOpen r → ∃ t, exec (.loopOpen r) s = .next t ∧ s.Answers t r .ok [] (some 0x0504)
    ∧ (v.loopWill = true → v.carryOut ⟨0x0504, r, []⟩ = v)
    ∧ (v.loopWill = false → v.loopOpen = false → (v.carryOut ⟨0x0504, r, []⟩).dpll
        = { v.dpll with loopAsk := some true, dcoFresh := false, declareLock := false, dcoWritten := v.clock.tick })
    ∧ (v.loopWill = false → v.loopOpen = true → (v.carryOut ⟨0x0504, r, []⟩).dpll = { v.dpll with loopAsk := none })) ∧
  (s.Admits cmdLoopClose r → ∃ t, exec (.loopClose r) s = .next t ∧ s.Answers t r .ok [] (some 0x0505)
    ∧ (v.loopWill = false → v.carryOut ⟨0x0505, r, []⟩ = v)
    ∧ (v.loopWill = true → (v.carryOut ⟨0x0505, r, []⟩).dpll
        = { v.dpll with loopAsk := if v.loopOpen = true then some false else none })) ∧
  (s.Admits cmdDcoWrite r → -250000000 ≤ r.s 0 4 → r.s 0 4 ≤ 250000000 → r.u 4 1 ≤ 1 → r.zero 5 3 = true →
    (v.loopWill = true → ∃ t, exec (.dcoWrite r) s = .next t ∧ s.Answers t r .ok [] (some 0x0506)
      ∧ (v.carryOut ⟨0x0506, r, []⟩).dpll = { v.dpll with
          dcoWord := r.s 0 4, declareLock := decide (r.u 4 1 = 1), dcoWritten := v.clock.tick, dcoFresh := true }) ∧
    (v.loopWill = false → ∃ t, exec (.dcoWrite r) s = .next t ∧ s.Refuses t r .errState 0 [])) ∧
  (s.Admits cmdDcoWrite r → r.s 0 4 < -250000000 ∨ 250000000 < r.s 0 4 → ∃ t, exec (.dcoWrite r) s = .next t ∧ s.Refuses t r .errRange 0 []) ∧
  (s.Admits cmdTickStep r →
    ((v.casc.mode ≠ .joined ∨ v.casc.role = .master) → v.dpll.epochSource ≠ none → v.dpll.hostStep = none → ∃ t, exec (.tickStep r) s = .next t
      ∧ t.Recorded r .accepted 0 (zeros 16) ∧ s.ChangesOnly t [.channels, .dpll]
      ∧ t.dpll = { s.dpll with hostStep := some (r.ref, s.clock.tick + 4000000) }) ∧
    ((v.casc.mode = .joined ∧ v.casc.role ≠ .master ∨ v.dpll.epochSource = none ∨ v.dpll.hostStep ≠ none) →
      ∃ t, exec (.tickStep r) s = .next t ∧ s.Refuses t r .errState 0 (zeros 16))) ∧
  (∀ o : Fin 10, s.Admits cmdOutputSet r → cmdOutputSet.range r = none → r.u 0 1 = o.val → ∃ t, exec (.outputSet r) s = .next t
    ∧ s.Answers t r .ok [] (some 0x0508) ∧ ∃ x due, (v.carryOut ⟨0x0508, r, []⟩).dpll.outputs = v.dpll.outputs.set o { v.dpll.outputs[o] with next := some (x, due) }
      ∧ v.clock.tick ≤ due ∧ due ≤ v.clock.tick + 1 ∧ x.divider = r.u 4 4 ∧ x.freqUhz = r.u 8 8 ∧ x.width = r.u 16 4 ∧ x.offset = r.s 24 8
      ∧ x.period = r.u 2 1 ∧ x.enable = (BitVec.ofNat 8 (r.u 1 1)).getLsbD 0 ∧ x.squelch = (BitVec.ofNat 8 (r.u 1 1)).getLsbD 1) ∧
  (s.Admits cmdTimingStatus r → ∃ t, exec (.timingStatus r) s = .next t ∧ s.Answers t r .ok (padTo 136 v.timingStatus) none)

/-- The CASC commands declare, leave, stage, swap, abort, hand over, release and report the cascade (R277, R278, R291, R292,
R299, R368, R369, R370, R371, R372). -/
def Obligations.CascadeCommandsAnswerAndTakeEffect : Prop := ∀ (s v : State) (r : Request), v = s.judged r →
  (∀ ds n bs, s.Admits cmdCascDeclare r → s.Lists r ds n → bs.length = n → 32 ≤ n →
    (cascLength bs ≤ n → cascRange bs = none →
      (∀ j, j < cascSeams bs → (v.port (Fin.ofNat 512 (field bs (seamOffset bs j) 2))).seamRole = true) →
      (cascDeclaration bs).cutOff = false → v.casc.mode = .standalone → ∃ t u w, exec (.cascDeclare r) s = .next t
        ∧ s.AwaitsList t cmdCascDeclare r ∧ exec (.hostDmaDone r.channel r.token ds) t = .next u
        ∧ s.AwaitsBuffer u cmdCascDeclare r (.input n) false ∧ exec (.hostDmaDone r.channel r.token bs) u = .next w
        ∧ w.Recorded r .ok 0 [] ∧ s.Untouched w ∧ w.deferred = s.deferred ++ [⟨0x0601, r, bs⟩]
        ∧ (v.carryOut ⟨0x0601, r, bs⟩).casc.declaration = some (cascDeclaration bs) ∧ (v.carryOut ⟨0x0601, r, bs⟩).casc.mode = .joining
        ∧ (v.carryOut ⟨0x0601, r, bs⟩).casc.startedAt = v.clock.tick) ∧
    (∀ o, cascLength bs ≤ n → cascRange bs = some o → ∃ t u w, exec (.cascDeclare r) s = .next t
      ∧ s.AwaitsList t cmdCascDeclare r ∧ exec (.hostDmaDone r.channel r.token ds) t = .next u
      ∧ s.AwaitsBuffer u cmdCascDeclare r (.input n) false ∧ exec (.hostDmaDone r.channel r.token bs) u = .next w
      ∧ s.Refuses w r .errRange (0x80000000 + o) [])) ∧
  (s.Admits cmdCascLeave r →
    (v.isMaster = false → v.casc.staged = none → ∃ t, exec (.cascLeave r) s = .next t ∧ s.Answers t r .ok [] (some 0x0602)
      ∧ (v.carryOut ⟨0x0602, r, []⟩).casc.mode = .standalone
      ∧ (v.casc.mode ≠ .standalone → (v.carryOut ⟨0x0602, r, []⟩).casc.declaration = none)) ∧
    ((v.isMaster = true ∨ v.casc.staged ≠ none) → ∃ t, exec (.cascLeave r) s = .next t ∧ s.Refuses t r .errState 0 [])) ∧
  (∀ x : BitVec 32, s.Admits cmdCascStage r → r.u 0 4 = x.toNat → x ≠ 0 → r.zero 4 4 = true →
    (v.map.shadowMode = .ready → v.casc.mode = .joined → ∃ t, exec (.cascStage r) s = .next t ∧ s.Answers t r .ok [] (some 0x0603)
      ∧ (v.carryOut ⟨0x0603, r, []⟩).casc = { v.casc with staged := some { id := x, frame := none, aborted := false, persist := false, command := none } }
      ∧ (v.carryOut ⟨0x0603, r, []⟩).map = { v.map with shadowMode := .scheduled }) ∧
    ((v.map.shadowMode ≠ .ready ∨ v.casc.mode ≠ .joined) → ∃ t, exec (.cascStage r) s = .next t ∧ s.Refuses t r .errState 0 [])) ∧
  (∀ x : BitVec 32, s.Admits cmdCascSwap r → r.u 0 4 = x.toNat → x ≠ 0 → r.u 4 1 ≤ 1 → r.zero 5 3 = true →
    ((∀ m : Fin 64, (r.u 16 8).testBit m.val = true → m ∈ v.declaredMembers) → v.isMaster = true → v.casc.swap = none →
      (r.u 4 1 = 0 ∨ v.swapFrameOk (r.u 8 8) = true) → ∃ t w, exec (.cascSwap r) s = .next t ∧ t.Recorded r .accepted 0 (zeros 16)
        ∧ s.ChangesOnly t [.channels, .casc] ∧ t.casc.swap = some w ∧ w.id = x ∧ w.phase = .prepare ∧ w.started = s.clock.tick
        ∧ w.command = some r.ref ∧ w.persist = r.persist ∧ (∀ m : Fin 64, m ∈ w.participants ↔ (r.u 16 8).testBit m.val = true)
        ∧ (r.u 4 1 = 1 → w.named = some (BitVec.ofNat 64 (r.u 8 8)))) ∧
    (∀ m : Fin 64, (r.u 16 8).testBit m.val = true → m ∉ v.declaredMembers → ∃ t, exec (.cascSwap r) s = .next t
      ∧ s.Refuses t r .errRange 16 (zeros 16)) ∧
    ((∀ m : Fin 64, (r.u 16 8).testBit m.val = true → m ∈ v.declaredMembers) → (v.isMaster = false ∨ v.casc.swap ≠ none) →
      ∃ t, exec (.cascSwap r) s = .next t ∧ s.Refuses t r .errState 0 (zeros 16))) ∧
  (∀ x : BitVec 32, s.Admits cmdCascAbort r → r.u 0 4 = x.toNat →
    (∀ w, v.isMaster = true → v.casc.swap = some w → w.id = x → w.phase = .prepare → ∃ t w', exec (.cascAbort r) s = .next t
      ∧ s.Answers t r .ok [] (some 0x0605) ∧ (v.carryOut ⟨0x0605, r, []⟩).casc.swap = some w' ∧ w'.phase = .aborting ∧ w'.id = x) ∧
    ((∀ w, v.casc.swap = some w → w.id ≠ x ∨ w.phase ≠ .prepare) → ∃ t, exec (.cascAbort r) s = .next t ∧ s.Refuses t r .errState 0 [])) ∧
  (s.Admits cmdCascHandover r →
    (3 ≤ v.cascadeVersion → v.isMaster = true → s.casc.handover = none → s.casc.swap = none → ∃ t f, exec (.cascHandover r) s = .next t
      ∧ t.Recorded r .accepted 0 (zeros 8) ∧ s.ChangesOnly t [.channels, .casc, .fresh]
      ∧ t.casc.handover = some { tick := some f, release := false, commands := [r.ref] }
      ∧ 32 ≤ (f - s.clock.frame).toNat ∧ (f - s.clock.frame).toNat ≤ 64) ∧
    (v.cascadeVersion < 3 → ∃ t, exec (.cascHandover r) s = .next t ∧ s.Refuses t r .errVersion 0 (zeros 8)) ∧
    (3 ≤ v.cascadeVersion → v.isMaster = false → ∃ t, exec (.cascHandover r) s = .next t ∧ s.Refuses t r .errState 0 (zeros 8))) ∧
  (s.Admits cmdCascRelease r →
    (v.isMaster = true → v.casc.swap = none → s.casc.handover = none → ∃ t f, exec (.cascRelease r) s = .next t
      ∧ t.Recorded r .accepted 0 (zeros 8) ∧ s.ChangesOnly t [.channels, .casc, .fresh]
      ∧ t.casc.handover = some { tick := some f, release := true, commands := [r.ref] } ∧ 32 ≤ (f - s.clock.frame).toNat) ∧
    ((v.isMaster = false ∨ v.casc.swap ≠ none) → ∃ t, exec (.cascRelease r) s = .next t ∧ s.Refuses t r .errState 0 (zeros 8))) ∧
  (s.Admits cmdCascStatus r → ∃ t, exec (.cascStatus r) s = .next t ∧ t.Recorded r .ok 0 (padTo 32 v.cascStatus)
    ∧ s.ChangesOnly t [.channels, .casc] ∧ t.casc = { s.casc with flywheelTicks := 0 })

/-- The STAT commands load, swap, cancel and read recipes, take record buffers and run the clusters (R143, R197, R204, R205,
R206, R207, R374, R375, R376, R377, R378, R379). -/
def Obligations.EmberCommandsAnswerAndTakeEffect : Prop := ∀ (s v : State) (r : Request), v = s.judged r →
  (∀ ds n bs, s.Admits cmdRecipeLoad r → s.Lists r ds n → bs.length = n → n ≠ 0 →
    ((v.ember.shadowMode = .empty ∨ v.ember.shadowMode = .ready) → ∃ t u w l, exec (.recipeLoad r) s = .next t ∧ s.AwaitsList t cmdRecipeLoad r
      ∧ exec (.hostDmaDone r.channel r.token ds) t = .next u ∧ u.Recorded r .accepted 0 [] ∧ s.AwaitsBuffer u cmdRecipeLoad r (.input n) true
      ∧ s.ChangesOnly u [.channels, .requests, .ember] ∧ u.ember = { s.ember with shadowMode := .loading, load := some l }
      ∧ l.command = r.ref ∧ l.data = none ∧ (∀ p : PortNo, l.formats[p] = (s.port p).settings.inFormats)
      ∧ exec (.hostDmaDone r.channel r.token bs) u = .next w ∧ s.ChangesOnly w [.channels, .ember]
      ∧ w.ember = { s.ember with shadowMode := .loading, load := some { l with data := some bs } }) ∧
    ((v.ember.shadowMode = .loading ∨ v.ember.shadowMode = .scheduled) → ∃ t u, exec (.recipeLoad r) s = .next t
      ∧ s.AwaitsList t cmdRecipeLoad r ∧ exec (.hostDmaDone r.channel r.token ds) t = .next u ∧ s.Refuses u r .errState 0 [])) ∧
  (s.Admits cmdRecipeSwap r → bankSwapRange r = none →
    (∀ f : BitVec 64, v.ember.shadowMode = .ready → (r.u 0 1 = 0 ∧ f = s.clock.frame + 8) ∨ (r.u 0 1 = 1 ∧ f.toNat = r.u 8 8
        ∧ s.clock.frame.toNat + 8 ≤ f.toNat ∧ f.toNat ≤ s.clock.frame.toNat + 8589934592) →
      ∃ t, exec (.recipeSwap r) s = .next t ∧ t.Recorded r .accepted 0 (leBytes 8 f.toNat ++ zeros 8) ∧ s.ChangesOnly t [.channels, .ember]
        ∧ t.ember = { s.ember with shadowMode := .scheduled, swap := some { frame := f, persist := r.persist, command := r.ref } }) ∧
    (v.ember.shadowMode = .ready → r.u 0 1 = 1 → r.u 8 8 < s.clock.frame.toNat + 8 ∨ s.clock.frame.toNat + 8589934592 < r.u 8 8 →
      ∃ t, exec (.recipeSwap r) s = .next t ∧ s.Refuses t r .errRange 8 (zeros 16)) ∧
    (v.ember.shadowMode ≠ .ready → ∃ t, exec (.recipeSwap r) s = .next t ∧ s.Refuses t r .errState 0 (zeros 16))) ∧
  (s.Admits cmdRecipeCancel r → r.zero 1 3 = true →
    (∀ w, r.u 0 1 = 0 → v.ember.swap = some w → s.clock.frame.toNat + 8 ≤ w.frame.toNat →
      (∀ x, s.ember.swap = some x → x.command ≠ r.ref) →
      ∃ t, exec (.recipeCancel r) s = .next t ∧ t.Recorded r .ok 0 [] ∧ s.ChangesOnly t [.channels, .ember]
        ∧ (s.deferred = [] → t.ember = { s.ember with swap := none, shadowMode := .ready }
          ∧ ((s.chan r.channel).window.length < 512 →
            s.Ended t w.command .errState (leBytes 8 w.frame.toNat ++ leBytes 4 s.ember.generation.toNat ++ zeros 4)))) ∧
    (r.u 0 1 = 1 → v.ember.shadowMode = .ready → ∃ t, exec (.recipeCancel r) s = .next t ∧ t.Recorded r .ok 0 []
      ∧ s.ChangesOnly t [.channels, .ember] ∧ (s.deferred = [] → t.ember = { s.ember with shadow := none, shadowMode := .empty })) ∧
    ((r.u 0 1 = 0 ∧ v.ember.swap = none) ∨ (r.u 0 1 = 1 ∧ v.ember.shadowMode ≠ .ready) → ∃ t, exec (.recipeCancel r) s = .next t
      ∧ s.Refuses t r .errState 0 [])) ∧
  (∀ ds n, s.Admits cmdRecipeRead r → r.zero 9 7 = true → s.Lists r ds n →
    (r.u 8 1 = 0 → 142368 ≤ n → ∃ t u, exec (.recipeRead r) s = .next t ∧ s.AwaitsList t cmdRecipeRead r
      ∧ exec (.hostDmaDone r.channel r.token ds) t = .next u
      ∧ s.Returns u cmdRecipeRead r v.ember.active.bytes (leBytes 4 142368 ++ leBytes 4 v.ember.generation.toNat)) ∧
    (∀ x, r.u 8 1 = 1 → 142368 ≤ n → v.ember.shadow = some x → v.ember.shadowMode ≠ .loading → ∃ t u, exec (.recipeRead r) s = .next t
      ∧ s.AwaitsList t cmdRecipeRead r ∧ exec (.hostDmaDone r.channel r.token ds) t = .next u
      ∧ s.Returns u cmdRecipeRead r x.bytes (leBytes 4 142368 ++ leBytes 4 (v.ember.generation + 1).toNat)) ∧
    (r.u 8 1 = 1 → v.ember.shadowMode = .loading ∨ v.ember.shadow = none → ∃ t u, exec (.recipeRead r) s = .next t
      ∧ s.AwaitsList t cmdRecipeRead r ∧ exec (.hostDmaDone r.channel r.token ds) t = .next u ∧ s.Refuses u r .errState 0 (zeros 8)) ∧
    (r.u 8 1 = 0 → n < 142368 → ∃ t u, exec (.recipeRead r) s = .next t ∧ s.AwaitsList t cmdRecipeRead r
      ∧ exec (.hostDmaDone r.channel r.token ds) t = .next u ∧ s.Refuses u r .errLength 0xFFFFFFFD (zeros 8))) ∧
  (∀ ds n, s.Admits cmdRecordPost r → s.Lists r ds n →
    (24624 ≤ n → n ≤ 67108864 → v.ember.buffers.length < 64 → ∃ t u, exec (.recordPost r) s = .next t
      ∧ s.AwaitsList t cmdRecordPost r ∧ exec (.hostDmaDone r.channel r.token ds) t = .next u
      ∧ s.ChangesOnly u [.channels, .requests, .ember]
      ∧ (s.ember.staging = [] → u.Recorded r .accepted 0 (zeros 8) ∧ u.ember = { s.ember with
          buffers := s.ember.buffers ++ [{ command := r.ref, length := n, filled := [], records := 0, firstAt := 0 }] })) ∧
    (n < 24624 ∨ 67108864 < n → ∃ t u, exec (.recordPost r) s = .next t ∧ s.AwaitsList t cmdRecordPost r
      ∧ exec (.hostDmaDone r.channel r.token ds) t = .next u ∧ s.Refuses u r .errLength 0xFFFFFFFD (zeros 8)) ∧
    (24624 ≤ n → n ≤ 67108864 → 64 ≤ v.ember.buffers.length → ∃ t u, exec (.recordPost r) s = .next t ∧ s.AwaitsList t cmdRecordPost r
      ∧ exec (.hostDmaDone r.channel r.token ds) t = .next u ∧ s.Refuses u r .errResource 0 (zeros 8))) ∧
  (s.Admits cmdRecordFlush r → (∀ b ∈ s.ember.buffers, b.command ≠ r.ref) → ∃ t, exec (.recordFlush r) s = .next t
    ∧ t.Recorded r .ok 0 (leBytes 4 v.ember.buffers.length) ∧ s.ChangesOnly t [.channels, .requests, .ember]
    ∧ t.ember = { s.ember with buffers := [] }) ∧
  (∀ ds n bs, s.Admits cmdEngineImageLoad r → s.Lists r ds n → bs.length = n →
    (v.ember.imageLoad = none → ∃ t u w, exec (.engineImageLoad r) s = .next t ∧ s.AwaitsList t cmdEngineImageLoad r
      ∧ exec (.hostDmaDone r.channel r.token ds) t = .next u ∧ u.Recorded r .pending 0 (zeros 8)
      ∧ s.AwaitsBuffer u cmdEngineImageLoad r (.input n) true ∧ s.ChangesOnly u [.channels, .requests, .ember]
      ∧ u.ember = { s.ember with imageLoad := some r.ref } ∧ exec (.hostDmaDone r.channel r.token bs) u = .next w
      ∧ w.sec = { s.sec with work := s.sec.work ++ [{ opcode := 0x0707, request := r, data := bs }] } ∧ w.host.waiting = s.host.waiting) ∧
    (v.ember.imageLoad ≠ none → ∃ t u, exec (.engineImageLoad r) s = .next t ∧ s.AwaitsList t cmdEngineImageLoad r
      ∧ exec (.hostDmaDone r.channel r.token ds) t = .next u ∧ s.Refuses u r .errState 0 (zeros 8))) ∧
  (∀ c : Fin 8, r.u 0 1 = c.val → r.zero 1 3 = true →
    (s.Admits cmdClusterStop r → v.ember.clusters[c].mode ≠ .stopped → ∃ t, exec (.clusterStop r) s = .next t
      ∧ s.Answers t r .ok (leBytes 8 (s.clock.frame + 1).toNat) (some 0x0708)
      ∧ (v.carryOut ⟨0x0708, r, []⟩).ember.clusters[c].mode = .stopped) ∧
    (s.Admits cmdClusterStop r → v.ember.clusters[c].mode = .stopped → ∃ t, exec (.clusterStop r) s = .next t
      ∧ s.Answers t r .ok (zeros 8) (some 0x0708) ∧ v.carryOut ⟨0x0708, r, []⟩ = v) ∧
    (s.Admits cmdClusterRestart r → v.ember.imageLoad = none → v.ember.clusters[c].mode = .stopped → v.domainOn (clusterDomain c) = true →
      (v.chan r.channel).find r.token = none → ∃ t, exec (.clusterRestart r) s = .next t ∧ s.Answers t r .accepted (zeros 8) (some 0x0709)
        ∧ (v.carryOut ⟨0x0709, r, []⟩).ember.clusters[c].mode = .loading
        ∧ (v.carryOut ⟨0x0709, r, []⟩).ember.clusters[c].restart = some r.ref) ∧
    (s.Admits cmdClusterRestart r → v.ember.imageLoad = none → v.ember.clusters[c].mode = .running → v.domainOn (clusterDomain c) = true →
      ∃ t, exec (.clusterRestart r) s = .next t ∧ t.Recorded r .ok stageCompletion (zeros 8) ∧ s.ChangesOnly t [.channels, .deferred]) ∧
    (s.Admits cmdClusterRestart r → v.ember.imageLoad ≠ none ∨ v.ember.clusters[c].mode = .loading ∨ v.domainOn (clusterDomain c) = false →
      ∃ t, exec (.clusterRestart r) s = .next t ∧ s.Refuses t r .errState 0 (zeros 8)) ∧
    (s.Admits cmdClusterStatus r → ∃ t, exec (.clusterStatus r) s = .next t ∧ s.Answers t r .ok (padTo 48 (v.clusterStatus c)) none)) ∧
  (∀ e : Fin 1024, r.u 0 2 = e.val → r.zero 2 2 = true → s.Admits cmdEngineCounters r → ∃ t, exec (.engineCounters r) s = .next t
    ∧ s.Answers t r .ok (leBytes 8 v.ember.engines[e].dwells.toNat ++ leBytes 8 v.ember.engines[e].written.toNat
        ++ leBytes 8 v.ember.engines[e].lostTotal.toNat ++ leBytes 8 v.ember.engines[e].sparks.toNat ++ leBytes 8 v.ember.engines[e].refused.toNat
        ++ leBytes 2 v.ember.engines[e].physical.val ++ zeros 2 ++ leBytes 4 (floatWord (v.ember.active.load e)).toNat) none)

/-- The CAP commands load, swap and cancel triggers, arm channels, trigger from the host and end captures (R143, R209, R215,
R221, R222, R231, R380, R381, R382, R383, R384, R385). -/
def Obligations.TriggerCommandsAnswerAndTakeEffect : Prop := ∀ (s v : State) (r : Request), v = s.judged r →
  (∀ ds n bs, s.Admits cmdTriggerLoad r → s.Lists r ds n → bs.length = n →
    ((v.cap.shadowMode = .empty ∨ v.cap.shadowMode = .ready) → ∃ t u w l, exec (.triggerLoad r) s = .next t ∧ s.AwaitsList t cmdTriggerLoad r
      ∧ exec (.hostDmaDone r.channel r.token ds) t = .next u ∧ u.Recorded r .accepted 0 [] ∧ s.AwaitsBuffer u cmdTriggerLoad r (.input n) true
      ∧ s.ChangesOnly u [.channels, .requests, .cap] ∧ u.cap = { s.cap with shadowMode := .loading, load := some l }
      ∧ l.command = r.ref ∧ l.data = none ∧ (∀ p : PortNo, l.formats[p] = (s.port p).settings.inFormats)
      ∧ (∀ k : Fin 32, k ∈ l.declared ↔ s.cap.namespaces[k].mode ≠ .undeclared)
      ∧ exec (.hostDmaDone r.channel r.token bs) u = .next w ∧ s.ChangesOnly w [.channels, .cap]
      ∧ w.cap = { s.cap with shadowMode := .loading, load := some { l with data := some bs } }) ∧
    ((v.cap.shadowMode = .loading ∨ v.cap.shadowMode = .scheduled) → ∃ t u, exec (.triggerLoad r) s = .next t
      ∧ s.AwaitsList t cmdTriggerLoad r ∧ exec (.hostDmaDone r.channel r.token ds) t = .next u ∧ s.Refuses u r .errState 0 [])) ∧
  (s.Admits cmdTriggerSwap r → bankSwapRange r = none →
    (∀ f : BitVec 64, v.cap.shadowMode = .ready → (r.u 0 1 = 0 ∧ f = s.clock.frame + 8) ∨ (r.u 0 1 = 1 ∧ f.toNat = r.u 8 8
        ∧ s.clock.frame.toNat + 8 ≤ f.toNat ∧ f.toNat ≤ s.clock.frame.toNat + 8589934592) →
      ∃ t, exec (.triggerSwap r) s = .next t ∧ t.Recorded r .accepted 0 (leBytes 8 f.toNat ++ zeros 8) ∧ s.ChangesOnly t [.channels, .cap]
        ∧ t.cap = { s.cap with shadowMode := .scheduled, swap := some { frame := f, persist := r.persist, command := r.ref } }) ∧
    (v.cap.shadowMode = .ready → r.u 0 1 = 1 → r.u 8 8 < s.clock.frame.toNat + 8 ∨ s.clock.frame.toNat + 8589934592 < r.u 8 8 →
      ∃ t, exec (.triggerSwap r) s = .next t ∧ s.Refuses t r .errRange 8 (zeros 16)) ∧
    (v.cap.shadowMode ≠ .ready → ∃ t, exec (.triggerSwap r) s = .next t ∧ s.Refuses t r .errState 0 (zeros 16))) ∧
  (s.Admits cmdTriggerCancel r → r.zero 1 3 = true →
    (∀ w, r.u 0 1 = 0 → v.cap.swap = some w → s.clock.frame.toNat + 8 ≤ w.frame.toNat →
      (∀ x, s.cap.swap = some x → x.command ≠ r.ref) →
      ∃ t, exec (.triggerCancel r) s = .next t ∧ t.Recorded r .ok 0 [] ∧ s.ChangesOnly t [.channels, .cap]
        ∧ (s.deferred = [] → t.cap = { s.cap with swap := none, shadowMode := .ready }
          ∧ ((s.chan r.channel).window.length < 512 →
            s.Ended t w.command .errState (leBytes 8 w.frame.toNat ++ leBytes 4 s.cap.generation.toNat ++ zeros 4)))) ∧
    (r.u 0 1 = 1 → v.cap.shadowMode = .ready → ∃ t, exec (.triggerCancel r) s = .next t ∧ t.Recorded r .ok 0 []
      ∧ s.ChangesOnly t [.channels, .cap] ∧ (s.deferred = [] → t.cap = { s.cap with shadow := none, shadowMode := .empty })) ∧
    ((r.u 0 1 = 0 ∧ v.cap.swap = none) ∨ (r.u 0 1 = 1 ∧ v.cap.shadowMode ≠ .ready) → ∃ t, exec (.triggerCancel r) s = .next t
      ∧ s.Refuses t r .errState 0 [])) ∧
  (∀ ds n, s.Admits cmdTriggerRead r → r.zero 9 7 = true → s.Lists r ds n →
    (r.u 8 1 = 0 → 49184 ≤ n → ∃ t u, exec (.triggerRead r) s = .next t ∧ s.AwaitsList t cmdTriggerRead r
      ∧ exec (.hostDmaDone r.channel r.token ds) t = .next u
      ∧ s.Returns u cmdTriggerRead r v.cap.active.bytes (leBytes 4 49184 ++ leBytes 4 v.cap.generation.toNat)) ∧
    (∀ x, r.u 8 1 = 1 → 49184 ≤ n → v.cap.shadow = some x → v.cap.shadowMode ≠ .loading → ∃ t u, exec (.triggerRead r) s = .next t
      ∧ s.AwaitsList t cmdTriggerRead r ∧ exec (.hostDmaDone r.channel r.token ds) t = .next u
      ∧ s.Returns u cmdTriggerRead r x.bytes (leBytes 4 49184 ++ leBytes 4 (v.cap.generation + 1).toNat)) ∧
    (r.u 8 1 = 1 → v.cap.shadowMode = .loading ∨ v.cap.shadow = none → ∃ t u, exec (.triggerRead r) s = .next t
      ∧ s.AwaitsList t cmdTriggerRead r ∧ exec (.hostDmaDone r.channel r.token ds) t = .next u ∧ s.Refuses u r .errState 0 (zeros 8))) ∧
  (s.Admits cmdChannelArm r → (∀ c : Fin 64, ¬((r.u 0 8).testBit c.val = true ∧ (r.u 8 8).testBit c.val = true)) →
    ((∀ c : Fin 64, (r.u 0 8).testBit c.val = true → (v.cap.active.channel c).isSome = true) → (r.u 0 8 = 0 ∨ v.captureMarked = false) →
      v.cap.swap = none → ∃ t m, exec (.channelArm r) s = .next t ∧ s.Answers t r .ok (leBytes 8 m) (some 0x0805)
        ∧ (∀ c : Fin 64, m.testBit c.val = true ↔ (v.cap.active.channel c).isSome = true ∧ ((r.u 0 8).testBit c.val = true
            ∨ v.cap.channels[c].mode ≠ .disarmed ∧ (r.u 8 8).testBit c.val = false))
        ∧ ∀ c : Fin 64, ((r.u 8 8).testBit c.val = true → (v.carryOut ⟨0x0805, r, []⟩).cap.channels[c].mode = .disarmed)
          ∧ ((r.u 0 8).testBit c.val = true → v.cap.channels[c].mode = .disarmed → (v.carryOut ⟨0x0805, r, []⟩).cap.channels[c].mode = .armed)
          ∧ ((r.u 0 8).testBit c.val = true → v.cap.channels[c].mode ≠ .disarmed → (v.carryOut ⟨0x0805, r, []⟩).cap.channels[c] = v.cap.channels[c])
          ∧ ((r.u 0 8).testBit c.val = false → (r.u 8 8).testBit c.val = false → (v.carryOut ⟨0x0805, r, []⟩).cap.channels[c] = v.cap.channels[c])) ∧
    (∀ c : Fin 64, (r.u 0 8).testBit c.val = true → v.cap.active.channel c = none → ∃ t, exec (.channelArm r) s = .next t
      ∧ s.Refuses t r .errState 0 (zeros 8))) ∧
  (∀ (c : Fin 64) (e : ChannelEntry), s.Admits cmdHostTrigger r → cmdHostTrigger.range r = none → r.u 0 1 = c.val → v.captureMarked = false →
    v.cap.channels[c].mode ≠ .disarmed → v.cap.channels[c].host = none → v.cap.active.channel c = some e → e.host = true →
    (r.u 1 1 = 0 → ∃ t, exec (.hostTrigger r) s = .next t ∧ t.Recorded r .accepted 0 (leBytes 8 s.clock.frame.toNat ++ zeros 16)
      ∧ s.ChangesOnly t [.channels, .cap] ∧ t.cap = { s.cap with
          channels := s.cap.channels.set c { s.cap.channels[c] with host := some { command := r.ref, frame := s.clock.frame, due := s.clock.frame + 2 } } }) ∧
    (∀ f : BitVec 64, r.u 1 1 = 1 → f.toNat = r.u 8 8 → s.clock.frame.toNat ≤ f.toNat → f.toNat ≤ s.clock.frame.toNat + 8589934592 →
      ∃ t, exec (.hostTrigger r) s = .next t ∧ t.Recorded r .accepted 0 (leBytes 8 f.toNat ++ zeros 16) ∧ s.ChangesOnly t [.channels, .cap]
        ∧ t.cap.channels[c].host = some { command := r.ref, frame := f, due := f + 2 })) ∧
  (∀ c : Fin 64, s.Admits cmdHostTrigger r → cmdHostTrigger.range r = none → r.u 0 1 = c.val → v.captureMarked = false → r.u 1 1 = 0 →
    v.cap.channels[c].mode = .disarmed → ∃ t, exec (.hostTrigger r) s = .next t ∧ s.Refuses t r .errState 0 (zeros 24)) ∧
  (s.Admits cmdCaptureAbort r →
    (∀ x, s.openCapture (r.u 0 8) = some x → (v.openCapture (r.u 0 8)).isSome = true → x.failing = none →
      (x.step = .window ∨ x.step = .writing ∨ x.step = .flushOne) → ∃ t, exec (.captureAbort r) s = .next t
        ∧ s.ChangesOnly t [.channels, .cap] ∧ (∀ y ∈ t.cap.captures, y.sequence = x.sequence → y.failing = some 5)
        ∧ (s.writable x.entry.namespace_ ≠ [] → t.Recorded r .accepted 0 [])
        ∧ (s.writable x.entry.namespace_ = [] → s.cap.captures = [x] → x.aborts = [] → t.Recorded r .ok stageCompletion []
          ∧ t.cap.captures = [])) ∧
    (∀ x, s.openCapture (r.u 0 8) = some x → (v.openCapture (r.u 0 8)).isSome = true → (x.step = .trailer ∨ x.step = .flushTwo) →
      ∃ t, exec (.captureAbort r) s = .next t ∧ t.Recorded r .errState stageCompletion [] ∧ s.ChangesOnly t [.channels]) ∧
    (v.openCapture (r.u 0 8) = none → ∃ t, exec (.captureAbort r) s = .next t ∧ s.Refuses t r .errState 0 [])) ∧
  (∀ c : Fin 64, s.Admits cmdTriggerStatus r → r.u 0 1 = c.val → r.zero 1 3 = true → ∃ t, exec (.triggerStatus r) s = .next t
    ∧ s.Answers t r .ok (padTo 48 (v.cap.channels[c]).status) none) ∧
  (s.Admits cmdCaptureStatus r → ∃ t, exec (.captureStatus r) s = .next t
    ∧ s.Answers t r .ok (leBytes 4 v.ringDepth ++ leBytes 2 v.cap.captures.length ++ zeros 2 ++ leBytes 8 v.cap.ringStart.toNat
        ++ leBytes 8 v.cap.gapFrames ++ leBytes 8 v.cap.nextSequence ++ leBytes 8 v.cap.bytesStored ++ leBytes 4 v.cap.failureRecords
        ++ zeros 4) none)

/-- The store commands declare drives and namespaces, delete them, list, read and pin objects as stated (R233, R234, R235,
R386, R387, R388, R389, R390, R391, R392). -/
def Obligations.StoreCommandsAnswerAndTakeEffect : Prop := ∀ (s v : State) (r : Request), v = s.judged r →
  (∀ ds n bs, s.Admits cmdDriveDeclare r → s.Lists r ds n → bs.length = n → 16 ≤ n → driveOffset (driveCount bs) ≤ n →
    (driveRange bs = none → v.driveConflict bs = none → ∃ t u w, exec (.driveDeclare r) s = .next t ∧ s.AwaitsList t cmdDriveDeclare r
      ∧ exec (.hostDmaDone r.channel r.token ds) t = .next u ∧ s.AwaitsBuffer u cmdDriveDeclare r (.input n) false
      ∧ exec (.hostDmaDone r.channel r.token bs) u = .next w ∧ w.Recorded r .ok stageCompletion [] ∧ s.Untouched w
      ∧ w.deferred = s.deferred ++ [⟨0x080A, r, bs⟩]
      ∧ (v.carryOut ⟨0x080A, r, bs⟩).cap = { v.cap with drivesHeld := driveSetOf bs, drivesDurable := driveSetOf bs }) ∧
    (∀ o, driveRange bs = some o → ∃ t u w, exec (.driveDeclare r) s = .next t ∧ s.AwaitsList t cmdDriveDeclare r
      ∧ exec (.hostDmaDone r.channel r.token ds) t = .next u ∧ exec (.hostDmaDone r.channel r.token bs) u = .next w
      ∧ s.Refuses w r .errRange (0x80000000 + o) []) ∧
    (∀ o, driveRange bs = none → v.driveConflict bs = some o → ∃ t u w, exec (.driveDeclare r) s = .next t ∧ s.AwaitsList t cmdDriveDeclare r
      ∧ exec (.hostDmaDone r.channel r.token ds) t = .next u ∧ exec (.hostDmaDone r.channel r.token bs) u = .next w
      ∧ s.Refuses w r .errConflict o [])) ∧
  (∀ n : Fin 32, s.Admits cmdNamespaceDeclare r → nsDeclareRange r = none → r.u 0 1 = n.val → v.domainOn 51 = true →
    (∀ m ∈ nsMembers r, ∀ e ∈ v.cap.drives.entries, e.drive = m.1 → m.2 + r.u 8 8 ≤ e.capacity.toNat) →
    (v.cap.namespaces[n].mode = .undeclared → noRepeats ((nsMembers r).map (·.1)) = true →
      (∀ m ∈ nsMembers r, (∃ e ∈ v.cap.drives.entries, e.drive = m.1) ∧ v.cap.driveFailed[m.1] = false ∧ v.cap.driveBad[m.1] = false
        ∧ ∀ x ∈ v.extents, x.1 = m.1 → x.2.1 + x.2.2 ≤ m.2 ∨ m.2 + r.u 8 8 ≤ x.2.1) →
      ((v.cap.namespaces.toList.filter (fun x => x.mode != .undeclared)).map StoreNamespace.capacity).sum + (declaredNamespace r).capacity ≤ 2 ^ 48 →
      ∃ t, exec (.namespaceDeclare r) s = .next t ∧ s.Answers t r .accepted (zeros 8) (some 0x080B)
        ∧ (v.carryOut ⟨0x080B, r, []⟩).cap.namespaces = v.cap.namespaces.set n { declaredNamespace r with mode := .ok }
        ∧ (declaredNamespace r).members = nsMembers r ∧ (declaredNamespace r).extent = r.u 8 8 ∧ (declaredNamespace r).retain = r.u 4 4
        ∧ (declaredNamespace r).mirror = decide (r.u 1 1 = 1)) ∧
    (v.cap.namespaces[n].mode ≠ .undeclared → ∃ t, exec (.namespaceDeclare r) s = .next t ∧ s.Refuses t r .errConflict 0 (zeros 8))) ∧
  (∀ n : Fin 32, s.Admits cmdNamespaceDelete r → r.zero 1 3 = true → r.u 0 1 = n.val → v.domainOn 51 = true →
    (v.namespaceBusy n = false → (∀ o ∈ v.cap.namespaces[n].objects, o.pinned = false) → ∃ t, exec (.namespaceDelete r) s = .next t
      ∧ s.Answers t r .accepted [] (some 0x080C) ∧ (v.carryOut ⟨0x080C, r, []⟩).cap.namespaces[n].mode = .undeclared
      ∧ (v.carryOut ⟨0x080C, r, []⟩).cap.namespaces[n].objects = []
      ∧ ∀ k : Fin 32, k ≠ n → (v.carryOut ⟨0x080C, r, []⟩).cap.namespaces[k] = v.cap.namespaces[k]) ∧
    (∀ o ∈ v.cap.namespaces[n].objects, o.pinned = true → v.namespaceBusy n = false → ∃ t, exec (.namespaceDelete r) s = .next t
      ∧ s.Refuses t r .errConflict 0 []) ∧
    ((∃ x ∈ v.cap.captures, x.entry.namespace_ = n) → ∃ t, exec (.namespaceDelete r) s = .next t ∧ s.Refuses t r .errState 0 [])) ∧
  (∀ n : Fin 32, s.Admits cmdStoreStatus r → r.zero 1 3 = true → r.u 0 1 = n.val → ∃ t, exec (.storeStatus r) s = .next t
    ∧ s.Answers t r .ok (padTo 64 (v.storeStatus n)) none) ∧
  (∀ ds n xs, s.Admits cmdObjectList r → cmdObjectList.range r = none → s.Lists r ds n →
    xs = (v.knownObjects.filter (fun x => decide (r.u 8 8 ≤ x.1) && (r.u 20 1 == 255 || r.u 20 1 == x.2.1))).take (r.u 16 4) →
    ((xs.flatMap (fun x => x.2.2)).length ≤ n → xs.flatMap (fun x => x.2.2) ≠ [] → ∃ t u, exec (.objectList r) s = .next t
      ∧ s.AwaitsList t cmdObjectList r ∧ exec (.hostDmaDone r.channel r.token ds) t = .next u
      ∧ s.Returns u cmdObjectList r (xs.flatMap (fun x => x.2.2)) (leBytes 4 xs.length ++ zeros 4)) ∧
    (xs = [] → ∃ t u, exec (.objectList r) s = .next t ∧ s.AwaitsList t cmdObjectList r
      ∧ exec (.hostDmaDone r.channel r.token ds) t = .next u ∧ u.Recorded r .ok stageCompletion (zeros 8) ∧ s.Untouched u) ∧
    (n < (xs.flatMap (fun x => x.2.2)).length → ∃ t u, exec (.objectList r) s = .next t ∧ s.AwaitsList t cmdObjectList r
      ∧ exec (.hostDmaDone r.channel r.token ds) t = .next u ∧ s.Refuses u r .errLength 0xFFFFFFFD (zeros 8))) ∧
  (∀ ds n, s.Admits cmdObjectRead r → cmdObjectRead.range r = none → s.Lists r ds n → v.domainOn 51 = true →
    (∀ k o, v.findObject (r.u 8 8) = some (k, o) → r.u 16 8 + r.u 24 4 ≤ o.length → r.u 24 4 ≤ n → ∃ t u, exec (.objectRead r) s = .next t
      ∧ s.AwaitsList t cmdObjectRead r ∧ exec (.hostDmaDone r.channel r.token ds) t = .next u ∧ u.Recorded r .accepted 0 (zeros 8)
      ∧ s.ChangesOnly u [.channels, .requests, .cap] ∧ (s.deferred = [] → u.outstanding (.read r) = true
        ∨ s.AwaitsBuffer u cmdObjectRead r (.output (padTo (r.u 24 4) ((o.content.drop (r.u 16 8)).take (r.u 24 4)))
            (leBytes 4 (r.u 24 4) ++ zeros 4)) true)) ∧
    (v.findObject (r.u 8 8) = none → v.openCapture (r.u 8 8) = none → ∃ t u, exec (.objectRead r) s = .next t
      ∧ s.AwaitsList t cmdObjectRead r ∧ exec (.hostDmaDone r.channel r.token ds) t = .next u ∧ s.Refuses u r .errRange 8 (zeros 8)) ∧
    (∀ c, v.findObject (r.u 8 8) = none → v.openCapture (r.u 8 8) = some c → r.u 16 8 + r.u 24 4 ≤ c.length → ∃ t u, exec (.objectRead r) s = .next t
      ∧ s.AwaitsList t cmdObjectRead r ∧ exec (.hostDmaDone r.channel r.token ds) t = .next u ∧ s.Refuses u r .errState 0 (zeros 8))) ∧
  (∀ k o, s.Admits cmdObjectPin r → r.u 8 1 ≤ 2 → r.zero 9 7 = true → v.domainOn 51 = true → v.findObject (r.u 0 8) = some (k, o) →
    (r.u 8 1 ≤ 1 → ∃ t, exec (.objectPin r) s = .next t ∧ s.Answers t r .accepted [] (some 0x0810)
      ∧ ∀ x ∈ (v.carryOut ⟨0x0810, r, []⟩).cap.namespaces[k].objects, x.sequence = r.u 0 8 → x.pinned = decide (r.u 8 1 = 0)) ∧
    (r.u 8 1 = 2 → o.pinned = false → o.sealRtc + v.cap.namespaces[k].retain < v.rtcNow → v.underRead (r.u 0 8) = false →
      ∃ t, exec (.objectPin r) s = .next t ∧ s.Answers t r .accepted [] (some 0x0810)
        ∧ ∀ x ∈ (v.carryOut ⟨0x0810, r, []⟩).cap.namespaces[k].objects, x.sequence ≠ r.u 0 8 ∧ x ∈ v.cap.namespaces[k].objects) ∧
    (r.u 8 1 = 2 → (o.pinned = true ∨ v.rtcNow ≤ o.sealRtc + v.cap.namespaces[k].retain ∨ v.underRead (r.u 0 8) = true) →
      ∃ t, exec (.objectPin r) s = .next t ∧ s.Refuses t r .errState 0 []))

/-- The TIME and LOG commands read and set the clock, schedule leaps, and freeze, read, clear and route the log (R394, R395,
R396, R397, R398, R399, R401, R402, R475, R481, R499, R501). -/
def Obligations.ClockAndLogCommandsAnswerAndTakeEffect : Prop := ∀ (s v : State) (r : Request), v = s.judged r →
  (s.Admits cmdRtcRead r → ∃ t, exec (.rtcRead r) s = .next t ∧ s.Answers t r .ok (padTo 36 (leBytes 8 v.rtc.seconds.toNat
    ++ leBytes 8 v.clock.frame.toNat ++ leBytes 2 v.rtc.taiUtc.toNat
    ++ leBytes 1 (packBits [v.rtc.valid, v.rtc.oscStopped, v.rtc.vbatLow, v.rtc.leap != 0, v.rtc.leap == 2]) ++ zeros 1
    ++ v.rtc.taiCalendar ++ v.rtc.utcCalendar)) none) ∧
  (s.Admits cmdRtcSet r → r.u 0 1 ≤ 2 → r.zero 1 7 = true →
    (∀ n, cmdRtcSet.range r = none → v.rtc.instant (r.u 0 1) (clockValue r) = .ok n → ∃ t, exec (.rtcSet r) s = .next t
      ∧ s.Answers t r .ok [] (some 0x0902) ∧ (v.carryOut ⟨0x0902, r, []⟩).rtc.seconds = BitVec.ofNat 40 n
      ∧ (v.carryOut ⟨0x0902, r, []⟩).rtc.subSeconds = 0 ∧ (v.carryOut ⟨0x0902, r, []⟩).rtc.valid = true
      ∧ (v.carryOut ⟨0x0902, r, []⟩).clock = v.clock) ∧
    (r.u 0 1 = 0 → r.u 8 8 ≤ 12622780799 → clockValue r = leBytes 8 (r.u 8 8) → v.rtc.instant (r.u 0 1) (clockValue r) = .ok (r.u 8 8)) ∧
    (r.u 0 1 = 0 → 12622780799 < r.u 8 8 → ∃ t, exec (.rtcSet r) s = .next t ∧ s.Refuses t r .errRange 8 []) ∧
    (r.u 0 1 = 1 → 2000 ≤ r.u 8 2 → r.u 8 2 ≤ 2399 → r.u 10 1 = 2 → r.u 11 1 = 30 → r.zero 15 1 = true → ∃ t, exec (.rtcSet r) s = .next t
      ∧ s.Refuses t r .errDate 0 [])) ∧
  (s.Admits cmdLeapSet r → cmdLeapSet.range r = none →
    (r.u 2 1 = 0 → ∃ t, exec (.leapSet r) s = .next t ∧ s.Answers t r .ok [] (some 0x0903)
      ∧ (v.carryOut ⟨0x0903, r, []⟩).rtc = { v.rtc with taiUtc := BitVec.ofInt 16 (r.s 0 2), leap := 0, leapTai := 0, settingsOk := true }) ∧
    (∀ post : Int, r.u 2 1 ≠ 0 → post = (if r.u 2 1 = 1 then r.s 0 2 + 1 else r.s 0 2 - 1) → ((r.u 8 8 : Int) - post) % 86400 = 0 →
      v.rtcNow < r.u 8 8 → ∃ t, exec (.leapSet r) s = .next t ∧ s.Answers t r .ok [] (some 0x0903)
        ∧ (v.carryOut ⟨0x0903, r, []⟩).rtc = { v.rtc with
            taiUtc := BitVec.ofInt 16 (r.s 0 2), leap := BitVec.ofNat 8 (r.u 2 1), leapTai := BitVec.ofNat 64 (r.u 8 8), settingsOk := true }) ∧
    (∀ post : Int, r.u 2 1 ≠ 0 → post = (if r.u 2 1 = 1 then r.s 0 2 + 1 else r.s 0 2 - 1) →
      (((r.u 8 8 : Int) - post) % 86400 ≠ 0 → ∃ t, exec (.leapSet r) s = .next t ∧ s.Refuses t r .errDate 0 []) ∧
      (((r.u 8 8 : Int) - post) % 86400 = 0 → r.u 8 8 ≤ v.rtcNow → ∃ t, exec (.leapSet r) s = .next t ∧ s.Refuses t r .errRange 8 []))) ∧
  (s.Admits cmdLogStatus r → ∃ t, exec (.logStatus r) s = .next t ∧ s.Answers t r .ok (padTo 32 (leBytes 8 v.ev.oldest ++ v.ev.newest
    ++ leBytes 8 v.ev.lost ++ leBytes 2 (min v.ev.buffer.length 4096)
    ++ leBytes 1 (packBits [v.ev.frozenUntil.isSome, v.ev.retention.isSome && v.ev.retentionOk]) ++ zeros 1 ++ leBytes 4 v.freezeLeft)) none) ∧
  (s.Admits cmdLogFreeze r → r.zero 1 1 = true →
    (r.u 0 1 = 0 → 1 ≤ r.u 2 2 → r.u 2 2 ≤ 600 → ∃ t, exec (.logFreeze r) s = .next t ∧ s.Answers t r .ok v.ev.newest (some 0x0A02)
      ∧ (v.ev.powerFailing = false → (v.carryOut ⟨0x0A02, r, []⟩).ev.frozenUntil = some (v.clock.tick + r.u 2 2 * 2000000))) ∧
    (r.u 0 1 = 1 → r.u 2 2 = 0 → ∃ t, exec (.logFreeze r) s = .next t ∧ s.Answers t r .ok v.ev.newest (some 0x0A02)
      ∧ (v.carryOut ⟨0x0A02, r, []⟩).ev.frozenUntil = none) ∧
    (r.u 0 1 = 0 → (r.u 2 2 = 0 ∨ 600 < r.u 2 2) → ∃ t, exec (.logFreeze r) s = .next t ∧ s.Refuses t r .errRange 2 (zeros 8))) ∧
  (∀ ds n first rs, s.Admits cmdLogRead r → cmdLogRead.range r = none → s.Lists r ds n →
    v.ev.readArea (r.u 20 1) (r.u 8 8) (r.u 16 4) = (first, rs) →
    (32 * r.u 16 4 ≤ n → rs ≠ [] → r.u 20 1 = 0 → ∃ t u, exec (.logRead r) s = .next t ∧ s.AwaitsList t cmdLogRead r
      ∧ exec (.hostDmaDone r.channel r.token ds) t = .next u ∧ u.Recorded r .accepted 0 (zeros 16)
      ∧ s.AwaitsBuffer u cmdLogRead r (.output (rs.flatMap EventRecord.bytes) (leBytes 8 first ++ leBytes 4 rs.length ++ zeros 4)) true
      ∧ s.ChangesOnly u [.channels, .requests, .recorder] ∧ u.ev.holds = s.ev.holds + 1 ∧ u.ev.holdsUntil = s.clock.tick + 100000
      ∧ u.ev.log = s.ev.log) ∧
    (32 * r.u 16 4 ≤ n → rs ≠ [] → r.u 20 1 ≠ 0 → ∃ t u, exec (.logRead r) s = .next t ∧ s.AwaitsList t cmdLogRead r
      ∧ exec (.hostDmaDone r.channel r.token ds) t = .next u
      ∧ s.Returns u cmdLogRead r (rs.flatMap EventRecord.bytes) (leBytes 8 first ++ leBytes 4 rs.length ++ zeros 4)) ∧
    (n < 32 * r.u 16 4 → ∃ t u, exec (.logRead r) s = .next t ∧ s.AwaitsList t cmdLogRead r
      ∧ exec (.hostDmaDone r.channel r.token ds) t = .next u ∧ s.Refuses u r .errLength 0xFFFFFFFD (zeros 16))) ∧
  (∀ ds n bs, s.Admits cmdLogClear r → s.Lists r ds n → bs.length = 192 →
    (v.ev.log ≠ [] → 192 ≤ n → ∃ t u w, exec (.logClear r) s = .next t ∧ s.AwaitsList t cmdLogClear r
      ∧ exec (.hostDmaDone r.channel r.token ds) t = .next u ∧ s.Answers u r .accepted (zeros 8) none
      ∧ s.AwaitsBuffer u cmdLogClear r (.input 192) true ∧ exec (.hostDmaDone r.channel r.token bs) u = .next w
      ∧ s.ChangesOnly w [.channels, .sec] ∧ w.sec = { s.sec with work := s.sec.work ++ [{ opcode := 0x0A04, request := r, data := bs }] }) ∧
    (v.ev.log ≠ [] → n < 192 → ∃ t u, exec (.logClear r) s = .next t ∧ s.AwaitsList t cmdLogClear r
      ∧ exec (.hostDmaDone r.channel r.token ds) t = .next u ∧ s.Refuses u r .errLength 0xFFFFFFFD (zeros 8)) ∧
    (v.ev.log = [] → ∃ t u, exec (.logClear r) s = .next t ∧ s.AwaitsList t cmdLogClear r
      ∧ exec (.hostDmaDone r.channel r.token ds) t = .next u ∧ s.Refuses u r .errState 0 (zeros 8))) ∧
  (∀ i : Fin 488, s.Admits cmdEvtRoute r → r.u 0 2 = i.val → r.u 2 1 ≤ 15 → r.u 3 1 ≤ 15 → r.u 4 1 ≤ 15 → r.u 5 1 ≤ 3 → r.zero 6 2 = true →
    ∃ t, exec (.evtRoute r) s = .next t ∧ s.Answers t r .ok [] (some 0x0A05)
      ∧ (v.carryOut ⟨0x0A05, r, []⟩).ev = { v.ev with
          routes := v.ev.routes.set i { enable := decide (r.u 5 1 % 2 = 1), queue := decide (r.u 5 1 / 2 = 1), vector := BitVec.ofNat 4 (r.u 2 1)
                                        pins := BitVec.ofNat 4 (r.u 3 1), minSeverity := BitVec.ofNat 4 (r.u 4 1) } })

/-- The SEC and TEST commands issue nonces, certificates, reports and tokens' work, rekey, and run self-tests (R403, R404,
R405, R406, R407, R408, R455, R464, R534, R537). -/
def Obligations.SecurityAndTestCommandsAnswerAndTakeEffect : Prop := ∀ (s v : State) (r : Request), v = s.judged r →
  (s.Admits cmdSecNonce r → ∃ t x, exec (.secNonce r) s = .next t
    ∧ t.Recorded r .ok 0 (leBytes 32 x.toNat ++ leBytes 8 (v.clock.frame + 120000000).toNat) ∧ s.ChangesOnly t [.channels, .sec, .fresh]
    ∧ t.sec = { s.sec with nonces := lastN 3 s.sec.nonces ++ [{ value := x, expiry := s.clock.tick + 120000000 }] }) ∧
  (∀ ds n, s.Admits cmdCertRead r → r.u 8 1 ≤ 3 → r.zero 9 7 = true → s.Lists r ds n →
    (v.certificates (r.u 8 1) ≠ [] → (r.u 8 1 ≠ 3 ∨ v.sec.owner ≠ none) → (v.certificates (r.u 8 1)).length ≤ n → ∃ t u, exec (.certRead r) s = .next t
      ∧ s.AwaitsList t cmdCertRead r ∧ exec (.hostDmaDone r.channel r.token ds) t = .next u
      ∧ s.Returns u cmdCertRead r (v.certificates (r.u 8 1)) (leBytes 4 (v.certificates (r.u 8 1)).length ++ zeros 4)) ∧
    (r.u 8 1 = 3 → v.sec.owner = none → ∃ t u, exec (.certRead r) s = .next t ∧ s.AwaitsList t cmdCertRead r
      ∧ exec (.hostDmaDone r.channel r.token ds) t = .next u ∧ s.Refuses u r .errState 0 (zeros 8))) ∧
  (∀ ds n report, s.Admits cmdAttest r → r.u 40 4 ≤ 15 → r.zero 44 4 = true → s.Lists r ds n →
    report = v.attestation (r.u 40 4) ((r.payload.drop 8).take 32) →
    (report.length ≤ n → ∃ t u, exec (.attest r) s = .next t ∧ s.AwaitsList t cmdAttest r
      ∧ exec (.hostDmaDone r.channel r.token ds) t = .next u ∧ u.Recorded r .accepted 0 (zeros 8)
      ∧ s.AwaitsBuffer u cmdAttest r (.output report (leBytes 4 report.length ++ zeros 4)) true ∧ s.ChangesOnly u [.channels, .requests]) ∧
    (n < report.length → ∃ t u, exec (.attest r) s = .next t ∧ s.AwaitsList t cmdAttest r
      ∧ exec (.hostDmaDone r.channel r.token ds) t = .next u ∧ s.Refuses u r .errLength 0xFFFFFFFD (zeros 8))) ∧
  (∀ (i : Request → Instr) (k : Command) (op : BitVec 16) (len : Nat),
    (i = .ownerTransfer ∧ k = cmdOwnerTransfer ∧ op = 0x0B04 ∧ len = (if v.sec.owner = none then 1864 else 1152))
      ∨ (i = .debugUnlock ∧ k = cmdDebugUnlock ∧ op = 0x0B05 ∧ len = 192) →
    ∀ ds n bs, s.Admits k r → s.Lists r ds n → bs.length = len →
      (len ≤ n → ∃ t u w, exec (i r) s = .next t ∧ s.AwaitsList t k r ∧ exec (.hostDmaDone r.channel r.token ds) t = .next u
        ∧ s.Answers u r .accepted [] none ∧ s.AwaitsBuffer u k r (.input len) true
        ∧ exec (.hostDmaDone r.channel r.token bs) u = .next w ∧ s.ChangesOnly w [.channels, .sec]
        ∧ w.sec = { s.sec with work := s.sec.work ++ [{ opcode := op, request := r, data := bs }] }) ∧
      (n < len → ∃ t u, exec (i r) s = .next t ∧ s.AwaitsList t k r ∧ exec (.hostDmaDone r.channel r.token ds) t = .next u
        ∧ s.Refuses u r .errLength 0xFFFFFFFD [])) ∧
  (∀ p : PortNo, s.Admits cmdLinkRekey r → r.u 0 2 = p.val → r.zero 2 2 = true →
    ((v.port p).mode = .up → (v.port p).link.keyed = true → (v.port p).link.rekey = none → ∃ t, exec (.linkRekey r) s = .next t
      ∧ s.Answers t r .accepted (zeros 8) (some 0x0B06) ∧ ((v.carryOut ⟨0x0B06, r, []⟩).port p).link.rekey = some r.ref) ∧
    (((v.port p).mode ≠ .up ∨ (v.port p).link.keyed = false ∨ (v.port p).link.rekey ≠ none) → ∃ t, exec (.linkRekey r) s = .next t
      ∧ s.Refuses t r .errState 0 (zeros 8))) ∧
  (s.Admits cmdSecStatus r → ∃ t results, exec (.secStatus r) s = .next t ∧ s.Answers t r .ok (padTo 32 results) none
    ∧ results.take 8 = leBytes 1 (bit v.sec.owner.isSome) ++ leBytes 1 v.debugCode ++ zeros 2 ++ leBytes 2 v.keyedPorts ++ leBytes 2 v.rekeyingPorts) ∧
  (s.Admits cmdBistRun r → r.zero 2 6 = true →
    (∀ k : Fin 4, r.u 0 1 = 0 → r.u 1 1 = k.val → v.map.planes[k].mode = .off → v.bist.run = none → ∃ t, exec (.bistRun r) s = .next t
      ∧ t.Recorded r .pending 0 (zeros 32) ∧ s.ChangesOnly t [.channels, .requests, .bist]
      ∧ t.bist = { s.bist with run := some { origin := 3, slices := unitSlices 8 k.val, started := s.clock.tick, command := some r.ref, results := [] } }) ∧
    (∀ c : Fin 8, r.u 0 1 = 1 → r.u 1 1 = c.val → v.ember.clusters[c].mode = .stopped → v.bist.run = none → ∃ t, exec (.bistRun r) s = .next t
      ∧ t.Recorded r .pending 0 (zeros 32) ∧ s.ChangesOnly t [.channels, .requests, .bist]
      ∧ t.bist = { s.bist with run := some { origin := 3, slices := unitSlices 9 c.val, started := s.clock.tick, command := some r.ref, results := [] } }) ∧
    (∀ k : Fin 4, r.u 0 1 = 0 → r.u 1 1 = k.val → v.map.planes[k].mode ≠ .off → ∃ t, exec (.bistRun r) s = .next t
      ∧ s.Refuses t r .errState 0 (zeros 32)) ∧
    (∀ c : Fin 8, r.u 0 1 = 1 → r.u 1 1 = c.val → v.ember.clusters[c].mode ≠ .stopped → ∃ t, exec (.bistRun r) s = .next t
      ∧ s.Refuses t r .errState 0 (zeros 32))) ∧
  (∀ ds n, s.Admits cmdBistResults r → s.Lists r ds n → v.bist.results ≠ [] →
    ((v.bist.results.flatMap BistResult.bytes).length ≤ n → ∃ t u, exec (.bistResults r) s = .next t ∧ s.AwaitsList t cmdBistResults r
      ∧ exec (.hostDmaDone r.channel r.token ds) t = .next u
      ∧ s.Returns u cmdBistResults r (v.bist.results.flatMap BistResult.bytes)
          (leBytes 4 (v.bist.results.flatMap BistResult.bytes).length ++ leBytes 4 v.bist.results.length)) ∧
    (n < (v.bist.results.flatMap BistResult.bytes).length → ∃ t u, exec (.bistResults r) s = .next t ∧ s.AwaitsList t cmdBistResults r
      ∧ exec (.hostDmaDone r.channel r.token ds) t = .next u ∧ s.Refuses u r .errLength 0xFFFFFFFD (zeros 8)))

/-- The PERF, PWR and FW commands select, snapshot and sample, switch domains, shut down, and stage and activate firmware
(R409, R410, R411, R412, R413, R414, R415, R543, R546, R550). -/
def Obligations.PerformancePowerAndFirmwareCommandsAnswerAndTakeEffect : Prop := ∀ (s v : State) (r : Request), v = s.judged r →
  (∀ i : Fin 256, s.Admits cmdPerfSelect r → cmdPerfSelect.range r = none → r.u 0 2 = i.val →
    (r.u 4 2 ≠ 0 → v.countersOf (r.u 2 2) i.val < 16 → v.perfMarked (r.u 2 2 / 1024) (r.u 2 2 % 1024) = false → ∃ t c, exec (.perfSelect r) s = .next t
      ∧ s.Answers t r .ok [] (some 0x0D01) ∧ (v.carryOut ⟨0x0D01, r, []⟩).perf.counters[i] = c ∧ c.value = 0 ∧ c.block.toNat = r.u 2 2
      ∧ c.event.toNat = r.u 4 2 ∧ (c.level = true ↔ r.u 6 1 = 1) ∧ c.isNew = true ∧ c.overflow = false ∧ c.idle = false) ∧
    (r.u 4 2 = 0 → v.perfMarked (r.u 2 2 / 1024) (r.u 2 2 % 1024) = false → ∃ t, exec (.perfSelect r) s = .next t
      ∧ s.Answers t r .ok [] (some 0x0D01) ∧ (v.carryOut ⟨0x0D01, r, []⟩).perf.counters[i].event = 0
      ∧ (v.carryOut ⟨0x0D01, r, []⟩).perf.counters[i].value = 0) ∧
    (r.u 4 2 ≠ 0 → 16 ≤ v.countersOf (r.u 2 2) i.val → ∃ t, exec (.perfSelect r) s = .next t ∧ s.Refuses t r .errResource 0 []) ∧
    (r.u 4 2 = 0 → v.perfMarked (r.u 2 2 / 1024) (r.u 2 2 % 1024) = true → ∃ t, exec (.perfSelect r) s = .next t ∧ s.Refuses t r .errUnusable 0 [])) ∧
  (∀ ds n f, s.Admits cmdPerfSnapshot r → r.zero 16 8 = true → s.Lists r ds n →
    f = (if r.u 8 8 = 0 then s.clock.frame.toNat + 2 else r.u 8 8) →
    (s.clock.frame.toNat + 2 ≤ f → f ≤ s.clock.frame.toNat + 8589934592 → 12384 ≤ n → v.perf.snapshots.length < 4 → ∃ t u, exec (.perfSnapshot r) s = .next t
      ∧ s.AwaitsList t cmdPerfSnapshot r ∧ exec (.hostDmaDone r.channel r.token ds) t = .next u ∧ u.Recorded r .accepted 0 (zeros 16)
      ∧ s.ChangesOnly u [.channels, .perf]
      ∧ u.perf = { s.perf with snapshots := s.perf.snapshots ++ [{ command := r.ref, frame := BitVec.ofNat 64 f, image := none }] }) ∧
    (f < s.clock.frame.toNat + 2 → ∃ t u, exec (.perfSnapshot r) s = .next t ∧ s.AwaitsList t cmdPerfSnapshot r
      ∧ exec (.hostDmaDone r.channel r.token ds) t = .next u ∧ s.Refuses u r .errRange 8 (zeros 16)) ∧
    (s.clock.frame.toNat + 2 ≤ f → f ≤ s.clock.frame.toNat + 8589934592 → n < 12384 → ∃ t u, exec (.perfSnapshot r) s = .next t
      ∧ s.AwaitsList t cmdPerfSnapshot r ∧ exec (.hostDmaDone r.channel r.token ds) t = .next u
      ∧ s.Refuses u r .errLength 0xFFFFFFFD (zeros 16)) ∧
    (s.clock.frame.toNat + 2 ≤ f → f ≤ s.clock.frame.toNat + 8589934592 → 12384 ≤ n → 4 ≤ v.perf.snapshots.length → ∃ t u,
      exec (.perfSnapshot r) s = .next t ∧ s.AwaitsList t cmdPerfSnapshot r ∧ exec (.hostDmaDone r.channel r.token ds) t = .next u
      ∧ s.Refuses u r .errResource 0 (zeros 16))) ∧
  (∀ ds n, s.Admits cmdPerfSample r → cmdPerfSample.range r = none → s.Lists r ds n →
    (32 * r.u 14 4 ≤ n → v.coreRuns (r.u 8 2) = true → (∀ j ∈ v.perf.jobs, j.core.toNat ≠ r.u 8 2) → v.perf.jobs.length < 8 → ∃ t u j,
      exec (.perfSample r) s = .next t ∧ s.AwaitsList t cmdPerfSample r ∧ exec (.hostDmaDone r.channel r.token ds) t = .next u
      ∧ u.Recorded r .accepted 0 (zeros 8) ∧ s.ChangesOnly u [.channels, .perf] ∧ u.perf = { s.perf with jobs := s.perf.jobs ++ [j] }
      ∧ j.command = r.ref ∧ j.core.toNat = r.u 8 2 ∧ j.period = r.u 10 4 ∧ j.count = r.u 14 4 ∧ j.taken = 0 ∧ j.started = s.clock.tick) ∧
    (n < 32 * r.u 14 4 → ∃ t u, exec (.perfSample r) s = .next t ∧ s.AwaitsList t cmdPerfSample r
      ∧ exec (.hostDmaDone r.channel r.token ds) t = .next u ∧ s.Refuses u r .errLength 0xFFFFFFFD (zeros 8)) ∧
    (32 * r.u 14 4 ≤ n → v.coreRuns (r.u 8 2) = false → ∃ t u, exec (.perfSample r) s = .next t ∧ s.AwaitsList t cmdPerfSample r
      ∧ exec (.hostDmaDone r.channel r.token ds) t = .next u ∧ s.Refuses u r .errState 0 (zeros 8)) ∧
    (32 * r.u 14 4 ≤ n → v.coreRuns (r.u 8 2) = true → (∀ j ∈ v.perf.jobs, j.core.toNat ≠ r.u 8 2) → 8 ≤ v.perf.jobs.length → ∃ t u,
      exec (.perfSample r) s = .next t ∧ s.AwaitsList t cmdPerfSample r ∧ exec (.hostDmaDone r.channel r.token ds) t = .next u
      ∧ s.Refuses u r .errResource 0 (zeros 8))) ∧
  (∀ (d : Fin 56) (m : DomainMode), s.Admits cmdDomainSet r → r.u 0 1 = d.val → r.zero 2 2 = true →
    (r.u 1 1 = 0 ∧ m = .on ∨ r.u 1 1 = 1 ∧ m = .banked ∨ r.u 1 1 = 2 ∧ m = .off) →
    ((40 ≤ d.val ∧ d.val ≤ 47 ∨ 52 ≤ d.val) → ∃ t, exec (.domainSet r) s = .next t ∧ s.Refuses t r .errConflict 0 (zeros 8)) ∧
    ((d.val < 40 ∨ 48 ≤ d.val ∧ d.val ≤ 51) →
      (v.domainInUse d m = true → ∃ t, exec (.domainSet r) s = .next t ∧ s.Refuses t r .errState 0 (zeros 8)) ∧
      (v.domainInUse d m = false → v.domainConflict d m = true → ∃ t, exec (.domainSet r) s = .next t ∧ s.Refuses t r .errConflict 0 (zeros 8)) ∧
      (v.domainInUse d m = false → v.domainConflict d m = false → (d.val ≠ 48 ∨ m = .off ∨ v.captureMarked = false) →
        v.pwr.waiting = [] → v.pwr.running = none →
        (v.pwr.modes[d] = m → ∃ t, exec (.domainSet r) s = .next t ∧ t.Recorded r .ok stageCompletion (leBytes 8 v.clock.frame.toNat)
          ∧ s.ChangesOnly t [.channels, .deferred]) ∧
        (v.pwr.modes[d] ≠ m → (v.chan r.channel).find r.token = none → ∃ t w, exec (.domainSet r) s = .next t
          ∧ s.Answers t r .accepted (zeros 8) (some 0x0E01) ∧ (v.carryOut ⟨0x0E01, r, []⟩).pwr.waiting = [w] ∧ w.domain = d ∧ w.target = m
          ∧ w.origins = [.host r.ref] ∧ (v.carryOut ⟨0x0E01, r, []⟩).pwr.modes = v.pwr.modes)))) ∧
  (s.Admits cmdPowerStatus r → ∃ t w, exec (.powerStatus r) s = .next t
    ∧ t.Recorded r .ok 0 ((List.finRange 56).map (fun d => BitVec.ofNat 8 (v.domainCode d)) ++ leBytes 2 w ++ leBytes 2 v.pwr.temperature.toNat ++ zeros 4)
    ∧ s.ChangesOnly t [.channels, .fresh] ∧ t.fresh = s.fresh + 1) ∧
  (s.Admits cmdShutdown r → r.u 0 4 = 0xA55A → r.u 4 1 ≤ 1 → r.zero 5 3 = true →
    (v.rst.shutdown = none → v.host.service < 3 → ∃ t, exec (.shutdown r) s = .next t ∧ s.Answers t r .accepted [] (some 0x0E03)
      ∧ (v.carryOut ⟨0x0E03, r, []⟩).host.service = 3 ∧ (v.carryOut ⟨0x0E03, r, []⟩).rst.shutdown = some (r.ref, r.u 4 1 == 1)
      ∧ ∀ k : Fin 64, (v.carryOut ⟨0x0E03, r, []⟩).cap.channels[k].mode = .disarmed) ∧
    (v.rst.shutdown ≠ none → ∃ t, exec (.shutdown r) s = .next t ∧ s.Refuses t r .errState 0 [])) ∧
  (∀ ds n bs, s.Admits cmdFwStage r → s.Lists r ds n → bs.length = n →
    (v.mgmt.activation = none → ∃ t u w, exec (.fwStage r) s = .next t ∧ s.AwaitsList t cmdFwStage r
      ∧ exec (.hostDmaDone r.channel r.token ds) t = .next u ∧ u.Recorded r .pending 0 (zeros 8)
      ∧ s.AwaitsBuffer u cmdFwStage r (.input n) true ∧ s.ChangesOnly u [.channels, .requests, .mgmt]
      ∧ u.mgmt = { s.mgmt with slots := s.mgmt.slots.set s.otherImageSlot ⟨none⟩, staged := 0 }
      ∧ exec (.hostDmaDone r.channel r.token bs) u = .next w ∧ w.sec = { s.sec with work := s.sec.work ++ [{ opcode := 0x0F01, request := r, data := bs }] }
      ∧ w.host.waiting = s.host.waiting) ∧
    (v.mgmt.activation ≠ none → ∃ t u, exec (.fwStage r) s = .next t ∧ s.AwaitsList t cmdFwStage r
      ∧ exec (.hostDmaDone r.channel r.token ds) t = .next u ∧ s.Refuses u r .errState 0 (zeros 8))) ∧
  (s.Admits cmdFwActivate r → r.u 0 4 = 0xA55A →
    (∀ x, v.stagedImage = some x → v.standbyReady = true → v.mgmt.owner ≠ none → v.mgmt.activation = none →
      (∀ j : Fin 8, (v.chan j).mode = .opened → imageServes x (v.chan j).version = true) → ∃ t a, exec (.fwActivate r) s = .next t
        ∧ s.Answers t r .accepted (zeros 8) (some 0x0F02) ∧ (v.carryOut ⟨0x0F02, r, []⟩).mgmt.activation = some a ∧ a.newImage = x ∧ a.command = r.ref) ∧
    (∀ x, v.stagedImage = some x → v.standbyReady = true → v.mgmt.activation = none →
      (∃ j : Fin 8, (v.chan j).mode = .opened ∧ imageServes x (v.chan j).version = false) → ∃ t, exec (.fwActivate r) s = .next t
        ∧ s.Refuses t r .errVersion 0 (zeros 8)) ∧
    (v.stagedImage = none ∨ v.standbyReady = false ∨ v.mgmt.activation ≠ none → ∃ t, exec (.fwActivate r) s = .next t
      ∧ s.Refuses t r .errState 0 (zeros 8))) ∧
  (s.Admits cmdMgmtRole r → r.zero 1 1 = true →
    (r.u 0 1 = 1 → 1 ≤ r.u 2 2 → r.u 2 2 ≤ 168 → ∃ t, exec (.mgmtRole r) s = .next t
      ∧ t.Recorded r .ok stageCompletion (leBytes 8 (v.clock.frame + 1 + BitVec.ofNat 64 (r.u 2 2 * 7200000000)).toNat)
      ∧ s.ChangesOnly t [.channels, .deferred] ∧ (v.carryOut ⟨0x0F03, r, []⟩).mgmt.rolePeriodH = r.u 2 2) ∧
    (r.u 0 1 = 0 → r.u 2 2 = 0 → v.standbyReady = true → v.mgmt.activation = none → v.mgmt.roleSwap = none → ∃ t, exec (.mgmtRole r) s = .next t
      ∧ s.Answers t r .accepted (zeros 8) (some 0x0F03) ∧ (v.carryOut ⟨0x0F03, r, []⟩).mgmt.roleSwap = some (.commanded [r.ref], v.clock.tick)) ∧
    (r.u 0 1 = 0 → r.u 2 2 = 0 → v.standbyReady = false ∨ v.mgmt.activation ≠ none → ∃ t, exec (.mgmtRole r) s = .next t
      ∧ s.Refuses t r .errState 0 (zeros 8))) ∧
  (s.Admits cmdFwStatus r → ∃ t results, exec (.fwStatus r) s = .next t ∧ s.Answers t r .ok results none ∧ results.length = 32
    ∧ (∀ i : Fin 2, (results.drop (2 * i.val)).take 2 = leBytes 2 ((v.mgmt.slots[i].content.map (fun x => x.version.toNat)).getD 0))
    ∧ (results.drop 4).take 2 = leBytes 1 v.mgmt.bootSlot.val ++ leBytes 1 v.mgmt.staged)

/-- A step carries out the command at the front of the queue with the queue's rest; an empty queue idles (log 2)
(spec/95_what_each_step_holds.md). -/
def Obligations.StepRunsTheCommandAtTheFront : Prop :=
  (∀ (s : State) (c : Instr) (rest : List Instr), s.pending = c :: rest → step s = exec c { s with pending := rest }) ∧
  (∀ s : State, s.pending = [] → step s = .next s)

/-- Every step of every state answers a next state, and takes exactly the front command from the queue
(spec/95_what_each_step_holds.md). -/
def Obligations.EveryCommandCompletesAndLeavesTheQueue : Prop := ∀ s : State, ∃ t, step s = .next t ∧ t.pending = s.pending.tail

/-- The state right after reset meets the invariant and holds the values that the spec states (R70, R307, R308, R309, R311,
R327, R330, R475, R493, R529, R554, R555). -/
def Obligations.ResetMeetsTheInvariantAndTheSpecsValues : Prop :=
  State.reset.Inv ∧ State.reset.pending = [] ∧ State.reset.host.service = 0 ∧ State.reset.rst.porLow = true ∧
  (∀ j : Fin 8, (State.reset.chan j).mode = .unopened ∧ (State.reset.chan j).reqPi = 0 ∧ (State.reset.chan j).reqCi = 0
    ∧ (State.reset.chan j).rspPi = 0 ∧ (State.reset.chan j).rspCi = 0 ∧ (State.reset.chan j).window = [] ∧ (State.reset.chan j).held = []) ∧
  State.reset.ev.mask = 0xFFFF ∧ State.reset.ev.summary = 0 ∧ State.reset.ev.queuePi = 0 ∧ State.reset.ev.queueCi = 0
  ∧ State.reset.ev.queueEnable = false ∧ State.reset.host.bar0Err = 0 ∧ State.reset.host.setWins = 0 ∧ State.reset.host.busMaster = false ∧
  State.reset.host.snapshotBlank = true ∧ State.reset.host.recoveryPending = false ∧ State.reset.rtc.oscStopped = true ∧
  (∀ p : PortNo, (State.reset.port p).mode = .down ∧ (State.reset.port p).settings.role = .unused ∧ (State.reset.port p).settings.version = 3) ∧
  (∀ g : Fin 256, State.reset.prot.groups[g] = none) ∧ State.reset.map.active.generation = 0 ∧ State.reset.map.active.plane = [] ∧
  (∀ d : Fin 56, State.reset.pwr.modes[d] = .on ↔ d.val = 47 ∨ 52 ≤ d.val) ∧ State.reset.deferred = []

/-- Every step keeps the memories canonical and keeps responses back only in a service gap (R312, R313, R431, R508, R518). -/
def Obligations.EveryStepKeepsTheInvariant : Prop := ∀ s t : State, s.Inv → step s = .next t → t.Inv

/-- Only the rows that write memory change it outside the response rings, and only ticks, resets and starts move time (R7, R9,
R310, R312, R508, R509, R514, R518, R524). -/
def Obligations.MemoryAndTimeChangeOnlyWhereStated : Prop := ∀ (c : Instr) (s t : State), exec c s = .next t →
  (writesBytes c = false → Memory.wf s.fabric.cells → ∀ a, ¬ inResponseRing a → memGet ramDefault t.fabric.cells a = memGet ramDefault s.fabric.cells a) ∧
  (writesBytes c = false → t.flash.cells = s.flash.cells) ∧
  (movesClock c = false → t.clock = s.clock) ∧
  (c = .tick → t.clock.tick = s.clock.tick + 1)

/-- The device examines every host command in the order of R319, and the first failure decides its answer (R313, R316, R318,
R319, R320, R324, R335, R336, R337, R411, R597). -/
def Obligations.RequestsAreExaminedInOrder : Prop := ∀ (s : State) (i : Instr) (k : Command) (r : Request) (ch : Channel),
  hostCommand i = some (k, r) → ch = s.chan r.channel →
  (s.takes r.channel = false ∨ r.token = 0 ∨ ch.recorded r.token ≠ none → ∃ t, exec i s = .next t ∧ s.AnswersOnly t) ∧
  (s.takes r.channel = true → r.token ≠ 0 → ch.recorded r.token = none →
    ∀ refused : Status → Nat → Prop, refused = (fun st detail => ∃ t, exec i s = .next t ∧ s.Refuses t r st detail (zeros k.results)) →
    (k.opcode ≠ 0x0101 → ch.mode ≠ .opened → refused .errState 0) ∧
    (k.opcode ≠ 0x0101 → ch.mode = .opened → r.version ≠ ch.version → refused .errVersion 0) ∧
    (k.opcode = 0x0101 ∨ ch.mode = .opened ∧ r.version = ch.version →
      (4064 < r.payloadLength → refused .errLength 0xFFFFFFFE) ∧
      (r.payloadLength ≤ 4064 → k.opcode ≠ 0x0101 → ch.version < k.since → refused .errVersion 0) ∧
      (r.payloadLength ≤ 4064 → k.opcode = 0x0101 ∨ k.since ≤ ch.version →
        (r.flags &&& (if k.persist then 0xFFF9 else 0xFFFB) ≠ 0 ∨ r.reserved ≠ 0 → refused .errRange 0xFFFFFFFE) ∧
        (r.flags &&& (if k.persist then 0xFFF9 else 0xFFFB) = 0 → r.reserved = 0 →
          (r.payloadLength.toNat ≠ k.length ∨ 4096 < r.descCount ∨ (r.descCount = 0 ↔ k.desc = true) → refused .errLength 0xFFFFFFFE) ∧
          (r.payloadLength.toNat = k.length → r.descCount ≤ 4096 → (r.descCount = 0 ↔ k.desc = false) →
            (k.cls.admits r.channel = false → refused .errState 0) ∧
            (k.cls.admits r.channel = true → s.retireJournal.capacity r = false → ∃ t, exec i s = .next t ∧ s.AnswersOnly t) ∧
            (k.cls.admits r.channel = true → s.retireJournal.capacity r = true →
              (k.desc = true → ∃ t, exec i s = .next t ∧ s.AwaitsList t k r) ∧
              (k.desc = false → k.full = true → s.host.service = 1 → refused .errState 0) ∧
              (k.desc = false → 3 ≤ s.host.service → k.always = false → refused .errState 0) ∧
              (∀ off, k.desc = false → (k.full = true → s.host.service ≠ 1) → (3 ≤ s.host.service → k.always = true) → k.range r = some off →
                refused .errRange off)))))))

/-- A response is written whole into the next entry of its channel's ring, or held in order while the ring is full (R312,
R313, R314, R316, R317, R319, R324, R598). -/
def Obligations.ResponsesReachTheirRing : Prop := ∀ (s : State) (i : Instr) (k : Command) (r : Request),
  hostCommand i = some (k, r) → s.takes r.channel = true → s.host.outbox = [] → Memory.wf s.fabric.cells →
  ∀ head : BitVec 16 → Nat → Nat → List Byte, head = (fun op flags len => leBytes 2 (s.answerVersion r.channel).toNat ++ leBytes 2 op.toNat
    ++ leBytes 2 flags ++ leBytes 2 (16 + len) ++ leBytes 4 r.sequence.toNat) →
  (r.token = 0 → ∃ t, exec i s = .next t ∧ s.Posts t r.channel (head k.opcode (if r.persist then 35 else 33) k.results ++ zeros 20
    ++ leBytes 2 0x8005 ++ zeros 10 ++ leBytes 4 0xFFFFFFFE ++ zeros k.results)) ∧
  (∀ e, r.token ≠ 0 → (s.chan r.channel).recorded r.token = some e → e.retriedBy k.opcode r = false → ∃ t, exec i s = .next t
    ∧ s.Posts t r.channel (head k.opcode (if r.persist then 35 else 33) k.results ++ leBytes 8 r.token.toNat ++ zeros 12
      ++ leBytes 2 0x8009 ++ zeros 14 ++ zeros k.results)) ∧
  (∀ e flags, r.token ≠ 0 → (s.chan r.channel).recorded r.token = some e → e.retriedBy k.opcode r = true → e.recovery = false →
    e.results.length ≤ 4048 → flags = 9 + (if r.persist then 2 else 0) + (if e.status.isFinal ∧ ¬ (e.persist = true ∧ e.status = .ok) then 32 else 0) →
    ∃ t, exec i s = .next t ∧ s.Posts t r.channel (head e.opcode flags e.results.length ++ leBytes 8 r.token.toNat ++ zeros 12
      ++ leBytes 2 e.status.code ++ leBytes 1 e.stage.toNat ++ zeros 1 ++ zeros 4 ++ leBytes 4 e.ticket.toNat ++ leBytes 4 e.detail.toNat ++ e.results))

/-- The TAI calendar of RTC_READ is the Gregorian date and time of the second count, from 2000 to 2399 (R393, R498). -/
def Obligations.CalendarValuesAreGregorian : Prop := ∀ (s v : State) (r : Request), v = s.judged r → s.Admits cmdRtcRead r →
  ∀ (leap : Nat → Prop) (yearDays : Nat → Nat) (monthDays : Nat → List Nat) (bytes : Nat → Nat → Nat → Nat → Nat → Nat → List Byte),
    (∀ y, leap y ↔ y % 4 = 0 ∧ ¬ (y % 100 = 0 ∧ y % 400 ≠ 0)) →
    (∀ y, (leap y → yearDays y = 366 ∧ monthDays y = [31, 29, 31, 30, 31, 30, 31, 31, 30, 31, 30, 31])
      ∧ (¬ leap y → yearDays y = 365 ∧ monthDays y = [31, 28, 31, 30, 31, 30, 31, 31, 30, 31, 30, 31])) →
    bytes = (fun y m d h mi x => leBytes 2 y ++ leBytes 1 m ++ leBytes 1 d ++ leBytes 1 h ++ leBytes 1 mi ++ leBytes 1 x ++ zeros 1) →
    ∃ t results, exec (.rtcRead r) s = .next t ∧ s.Answers t r .ok results none ∧
      (v.rtc.seconds.toNat ≤ 12622780799 → ∃ y m d h mi x, (results.drop 20).take 8 = bytes y m d h mi x ∧ 2000 ≤ y ∧ y ≤ 2399
        ∧ 1 ≤ m ∧ m ≤ 12 ∧ 1 ≤ d ∧ d ≤ (monthDays y).getD (m - 1) 0 ∧ h ≤ 23 ∧ mi ≤ 59 ∧ x ≤ 59
        ∧ v.rtc.seconds.toNat = 86400 * (((List.range (y - 2000)).map (fun n => yearDays (2000 + n))).sum + ((monthDays y).take (m - 1)).sum + (d - 1))
            + 3600 * h + 60 * mi + x) ∧
      (v.rtc.seconds.toNat = 0 → (results.drop 20).take 8 = bytes 2000 1 1 0 0 0) ∧
      (v.rtc.seconds.toNat = 12622780799 → (results.drop 20).take 8 = bytes 2399 12 31 23 59 59)

/-- PORT_COUNTERS returns a port's twelve receive counters and its last window's SER, and clears nothing (R349). -/
def Obligations.PortCountersReportTheReceiveCounters : Prop := ∀ (s v : State) (r : Request) (p : PortNo), v = s.judged r → r.u 0 2 = p.val →
  r.zero 2 2 = true → s.Admits cmdPortCounters r → ∀ count : PortCounter → List Byte,
  count = (fun c => leBytes 8 ((v.port p).counters[c.index]).toNat) → ∃ t, exec (.portCounters r) s = .next t
    ∧ s.Answers t r .ok (count .correctedSymbols ++ count .correctedCodewords ++ count .uncorrectable ++ count .tagFailures ++ count .crcFailures
        ++ count .increments ++ count .decrements ++ count .violations ++ count .jumps ++ count .slips ++ count .rei ++ count .reiTag
        ++ leBytes 4 (floatWord (((v.port p).lastSer : Rat) / ((serSymbols : Nat) : Rat))).toNat ++ zeros 4) none
    ∧ t.ports = s.ports
end

