-- ==== Sys2Proof/Laws/State.lean ====
section
/-! SUPPORT. What each update of the state changes, field by field, and that it leaves every other field as it was. -/
namespace Sys2Proof.Machine

@[simp] theorem State.setRtc_pending (f : RtcState → RtcState) (s : State) : (s.setRtc f).pending = s.pending := rfl
@[simp] theorem State.setRtc_clock (f : RtcState → RtcState) (s : State) : (s.setRtc f).clock = s.clock := rfl
@[simp] theorem State.setRtc_host (f : RtcState → RtcState) (s : State) : (s.setRtc f).host = s.host := rfl
@[simp] theorem State.setRtc_ev (f : RtcState → RtcState) (s : State) : (s.setRtc f).ev = s.ev := rfl
@[simp] theorem State.setRtc_rtc (f : RtcState → RtcState) (s : State) : (s.setRtc f).rtc = f s.rtc := rfl
@[simp] theorem State.setRtc_flash (f : RtcState → RtcState) (s : State) : (s.setRtc f).flash = s.flash := rfl
@[simp] theorem State.setRtc_fabric (f : RtcState → RtcState) (s : State) : (s.setRtc f).fabric = s.fabric := rfl
@[simp] theorem State.setRtc_ports (f : RtcState → RtcState) (s : State) : (s.setRtc f).ports = s.ports := rfl
@[simp] theorem State.setRtc_map (f : RtcState → RtcState) (s : State) : (s.setRtc f).map = s.map := rfl
@[simp] theorem State.setRtc_prot (f : RtcState → RtcState) (s : State) : (s.setRtc f).prot = s.prot := rfl
@[simp] theorem State.setRtc_dpll (f : RtcState → RtcState) (s : State) : (s.setRtc f).dpll = s.dpll := rfl
@[simp] theorem State.setRtc_casc (f : RtcState → RtcState) (s : State) : (s.setRtc f).casc = s.casc := rfl
@[simp] theorem State.setRtc_mgmt (f : RtcState → RtcState) (s : State) : (s.setRtc f).mgmt = s.mgmt := rfl
@[simp] theorem State.setRtc_sec (f : RtcState → RtcState) (s : State) : (s.setRtc f).sec = s.sec := rfl
@[simp] theorem State.setRtc_ember (f : RtcState → RtcState) (s : State) : (s.setRtc f).ember = s.ember := rfl
@[simp] theorem State.setRtc_cap (f : RtcState → RtcState) (s : State) : (s.setRtc f).cap = s.cap := rfl
@[simp] theorem State.setRtc_pwr (f : RtcState → RtcState) (s : State) : (s.setRtc f).pwr = s.pwr := rfl
@[simp] theorem State.setRtc_rst (f : RtcState → RtcState) (s : State) : (s.setRtc f).rst = s.rst := rfl
@[simp] theorem State.setRtc_bist (f : RtcState → RtcState) (s : State) : (s.setRtc f).bist = s.bist := rfl
@[simp] theorem State.setRtc_perf (f : RtcState → RtcState) (s : State) : (s.setRtc f).perf = s.perf := rfl
@[simp] theorem State.setRtc_gpio (f : RtcState → RtcState) (s : State) : (s.setRtc f).gpio = s.gpio := rfl
@[simp] theorem State.setRtc_deferred (f : RtcState → RtcState) (s : State) : (s.setRtc f).deferred = s.deferred := rfl
@[simp] theorem State.setRtc_fresh (f : RtcState → RtcState) (s : State) : (s.setRtc f).fresh = s.fresh := rfl

@[simp] theorem State.setRst_pending (f : ResetState → ResetState) (s : State) : (s.setRst f).pending = s.pending := rfl
@[simp] theorem State.setRst_clock (f : ResetState → ResetState) (s : State) : (s.setRst f).clock = s.clock := rfl
@[simp] theorem State.setRst_host (f : ResetState → ResetState) (s : State) : (s.setRst f).host = s.host := rfl
@[simp] theorem State.setRst_ev (f : ResetState → ResetState) (s : State) : (s.setRst f).ev = s.ev := rfl
@[simp] theorem State.setRst_rtc (f : ResetState → ResetState) (s : State) : (s.setRst f).rtc = s.rtc := rfl
@[simp] theorem State.setRst_flash (f : ResetState → ResetState) (s : State) : (s.setRst f).flash = s.flash := rfl
@[simp] theorem State.setRst_fabric (f : ResetState → ResetState) (s : State) : (s.setRst f).fabric = s.fabric := rfl
@[simp] theorem State.setRst_ports (f : ResetState → ResetState) (s : State) : (s.setRst f).ports = s.ports := rfl
@[simp] theorem State.setRst_map (f : ResetState → ResetState) (s : State) : (s.setRst f).map = s.map := rfl
@[simp] theorem State.setRst_prot (f : ResetState → ResetState) (s : State) : (s.setRst f).prot = s.prot := rfl
@[simp] theorem State.setRst_dpll (f : ResetState → ResetState) (s : State) : (s.setRst f).dpll = s.dpll := rfl
@[simp] theorem State.setRst_casc (f : ResetState → ResetState) (s : State) : (s.setRst f).casc = s.casc := rfl
@[simp] theorem State.setRst_mgmt (f : ResetState → ResetState) (s : State) : (s.setRst f).mgmt = s.mgmt := rfl
@[simp] theorem State.setRst_sec (f : ResetState → ResetState) (s : State) : (s.setRst f).sec = s.sec := rfl
@[simp] theorem State.setRst_ember (f : ResetState → ResetState) (s : State) : (s.setRst f).ember = s.ember := rfl
@[simp] theorem State.setRst_cap (f : ResetState → ResetState) (s : State) : (s.setRst f).cap = s.cap := rfl
@[simp] theorem State.setRst_pwr (f : ResetState → ResetState) (s : State) : (s.setRst f).pwr = s.pwr := rfl
@[simp] theorem State.setRst_rst (f : ResetState → ResetState) (s : State) : (s.setRst f).rst = f s.rst := rfl
@[simp] theorem State.setRst_bist (f : ResetState → ResetState) (s : State) : (s.setRst f).bist = s.bist := rfl
@[simp] theorem State.setRst_perf (f : ResetState → ResetState) (s : State) : (s.setRst f).perf = s.perf := rfl
@[simp] theorem State.setRst_gpio (f : ResetState → ResetState) (s : State) : (s.setRst f).gpio = s.gpio := rfl
@[simp] theorem State.setRst_deferred (f : ResetState → ResetState) (s : State) : (s.setRst f).deferred = s.deferred := rfl
@[simp] theorem State.setRst_fresh (f : ResetState → ResetState) (s : State) : (s.setRst f).fresh = s.fresh := rfl

@[simp] theorem State.setCasc_pending (f : CascadeState → CascadeState) (s : State) : (s.setCasc f).pending = s.pending := rfl
@[simp] theorem State.setCasc_clock (f : CascadeState → CascadeState) (s : State) : (s.setCasc f).clock = s.clock := rfl
@[simp] theorem State.setCasc_host (f : CascadeState → CascadeState) (s : State) : (s.setCasc f).host = s.host := rfl
@[simp] theorem State.setCasc_ev (f : CascadeState → CascadeState) (s : State) : (s.setCasc f).ev = s.ev := rfl
@[simp] theorem State.setCasc_rtc (f : CascadeState → CascadeState) (s : State) : (s.setCasc f).rtc = s.rtc := rfl
@[simp] theorem State.setCasc_flash (f : CascadeState → CascadeState) (s : State) : (s.setCasc f).flash = s.flash := rfl
@[simp] theorem State.setCasc_fabric (f : CascadeState → CascadeState) (s : State) : (s.setCasc f).fabric = s.fabric := rfl
@[simp] theorem State.setCasc_ports (f : CascadeState → CascadeState) (s : State) : (s.setCasc f).ports = s.ports := rfl
@[simp] theorem State.setCasc_map (f : CascadeState → CascadeState) (s : State) : (s.setCasc f).map = s.map := rfl
@[simp] theorem State.setCasc_prot (f : CascadeState → CascadeState) (s : State) : (s.setCasc f).prot = s.prot := rfl
@[simp] theorem State.setCasc_dpll (f : CascadeState → CascadeState) (s : State) : (s.setCasc f).dpll = s.dpll := rfl
@[simp] theorem State.setCasc_casc (f : CascadeState → CascadeState) (s : State) : (s.setCasc f).casc = f s.casc := rfl
@[simp] theorem State.setCasc_mgmt (f : CascadeState → CascadeState) (s : State) : (s.setCasc f).mgmt = s.mgmt := rfl
@[simp] theorem State.setCasc_sec (f : CascadeState → CascadeState) (s : State) : (s.setCasc f).sec = s.sec := rfl
@[simp] theorem State.setCasc_ember (f : CascadeState → CascadeState) (s : State) : (s.setCasc f).ember = s.ember := rfl
@[simp] theorem State.setCasc_cap (f : CascadeState → CascadeState) (s : State) : (s.setCasc f).cap = s.cap := rfl
@[simp] theorem State.setCasc_pwr (f : CascadeState → CascadeState) (s : State) : (s.setCasc f).pwr = s.pwr := rfl
@[simp] theorem State.setCasc_rst (f : CascadeState → CascadeState) (s : State) : (s.setCasc f).rst = s.rst := rfl
@[simp] theorem State.setCasc_bist (f : CascadeState → CascadeState) (s : State) : (s.setCasc f).bist = s.bist := rfl
@[simp] theorem State.setCasc_perf (f : CascadeState → CascadeState) (s : State) : (s.setCasc f).perf = s.perf := rfl
@[simp] theorem State.setCasc_gpio (f : CascadeState → CascadeState) (s : State) : (s.setCasc f).gpio = s.gpio := rfl
@[simp] theorem State.setCasc_deferred (f : CascadeState → CascadeState) (s : State) : (s.setCasc f).deferred = s.deferred := rfl
@[simp] theorem State.setCasc_fresh (f : CascadeState → CascadeState) (s : State) : (s.setCasc f).fresh = s.fresh := rfl

@[simp] theorem State.setEmber_pending (f : EmberState → EmberState) (s : State) : (s.setEmber f).pending = s.pending := rfl
@[simp] theorem State.setEmber_clock (f : EmberState → EmberState) (s : State) : (s.setEmber f).clock = s.clock := rfl
@[simp] theorem State.setEmber_host (f : EmberState → EmberState) (s : State) : (s.setEmber f).host = s.host := rfl
@[simp] theorem State.setEmber_ev (f : EmberState → EmberState) (s : State) : (s.setEmber f).ev = s.ev := rfl
@[simp] theorem State.setEmber_rtc (f : EmberState → EmberState) (s : State) : (s.setEmber f).rtc = s.rtc := rfl
@[simp] theorem State.setEmber_flash (f : EmberState → EmberState) (s : State) : (s.setEmber f).flash = s.flash := rfl
@[simp] theorem State.setEmber_fabric (f : EmberState → EmberState) (s : State) : (s.setEmber f).fabric = s.fabric := rfl
@[simp] theorem State.setEmber_ports (f : EmberState → EmberState) (s : State) : (s.setEmber f).ports = s.ports := rfl
@[simp] theorem State.setEmber_map (f : EmberState → EmberState) (s : State) : (s.setEmber f).map = s.map := rfl
@[simp] theorem State.setEmber_prot (f : EmberState → EmberState) (s : State) : (s.setEmber f).prot = s.prot := rfl
@[simp] theorem State.setEmber_dpll (f : EmberState → EmberState) (s : State) : (s.setEmber f).dpll = s.dpll := rfl
@[simp] theorem State.setEmber_casc (f : EmberState → EmberState) (s : State) : (s.setEmber f).casc = s.casc := rfl
@[simp] theorem State.setEmber_mgmt (f : EmberState → EmberState) (s : State) : (s.setEmber f).mgmt = s.mgmt := rfl
@[simp] theorem State.setEmber_sec (f : EmberState → EmberState) (s : State) : (s.setEmber f).sec = s.sec := rfl
@[simp] theorem State.setEmber_ember (f : EmberState → EmberState) (s : State) : (s.setEmber f).ember = f s.ember := rfl
@[simp] theorem State.setEmber_cap (f : EmberState → EmberState) (s : State) : (s.setEmber f).cap = s.cap := rfl
@[simp] theorem State.setEmber_pwr (f : EmberState → EmberState) (s : State) : (s.setEmber f).pwr = s.pwr := rfl
@[simp] theorem State.setEmber_rst (f : EmberState → EmberState) (s : State) : (s.setEmber f).rst = s.rst := rfl
@[simp] theorem State.setEmber_bist (f : EmberState → EmberState) (s : State) : (s.setEmber f).bist = s.bist := rfl
@[simp] theorem State.setEmber_perf (f : EmberState → EmberState) (s : State) : (s.setEmber f).perf = s.perf := rfl
@[simp] theorem State.setEmber_gpio (f : EmberState → EmberState) (s : State) : (s.setEmber f).gpio = s.gpio := rfl
@[simp] theorem State.setEmber_deferred (f : EmberState → EmberState) (s : State) : (s.setEmber f).deferred = s.deferred := rfl
@[simp] theorem State.setEmber_fresh (f : EmberState → EmberState) (s : State) : (s.setEmber f).fresh = s.fresh := rfl

@[simp] theorem State.setFabric_pending (f : FabricState → FabricState) (s : State) : (s.setFabric f).pending = s.pending := rfl
@[simp] theorem State.setFabric_clock (f : FabricState → FabricState) (s : State) : (s.setFabric f).clock = s.clock := rfl
@[simp] theorem State.setFabric_host (f : FabricState → FabricState) (s : State) : (s.setFabric f).host = s.host := rfl
@[simp] theorem State.setFabric_ev (f : FabricState → FabricState) (s : State) : (s.setFabric f).ev = s.ev := rfl
@[simp] theorem State.setFabric_rtc (f : FabricState → FabricState) (s : State) : (s.setFabric f).rtc = s.rtc := rfl
@[simp] theorem State.setFabric_flash (f : FabricState → FabricState) (s : State) : (s.setFabric f).flash = s.flash := rfl
@[simp] theorem State.setFabric_fabric (f : FabricState → FabricState) (s : State) : (s.setFabric f).fabric = f s.fabric := rfl
@[simp] theorem State.setFabric_ports (f : FabricState → FabricState) (s : State) : (s.setFabric f).ports = s.ports := rfl
@[simp] theorem State.setFabric_map (f : FabricState → FabricState) (s : State) : (s.setFabric f).map = s.map := rfl
@[simp] theorem State.setFabric_prot (f : FabricState → FabricState) (s : State) : (s.setFabric f).prot = s.prot := rfl
@[simp] theorem State.setFabric_dpll (f : FabricState → FabricState) (s : State) : (s.setFabric f).dpll = s.dpll := rfl
@[simp] theorem State.setFabric_casc (f : FabricState → FabricState) (s : State) : (s.setFabric f).casc = s.casc := rfl
@[simp] theorem State.setFabric_mgmt (f : FabricState → FabricState) (s : State) : (s.setFabric f).mgmt = s.mgmt := rfl
@[simp] theorem State.setFabric_sec (f : FabricState → FabricState) (s : State) : (s.setFabric f).sec = s.sec := rfl
@[simp] theorem State.setFabric_ember (f : FabricState → FabricState) (s : State) : (s.setFabric f).ember = s.ember := rfl
@[simp] theorem State.setFabric_cap (f : FabricState → FabricState) (s : State) : (s.setFabric f).cap = s.cap := rfl
@[simp] theorem State.setFabric_pwr (f : FabricState → FabricState) (s : State) : (s.setFabric f).pwr = s.pwr := rfl
@[simp] theorem State.setFabric_rst (f : FabricState → FabricState) (s : State) : (s.setFabric f).rst = s.rst := rfl
@[simp] theorem State.setFabric_bist (f : FabricState → FabricState) (s : State) : (s.setFabric f).bist = s.bist := rfl
@[simp] theorem State.setFabric_perf (f : FabricState → FabricState) (s : State) : (s.setFabric f).perf = s.perf := rfl
@[simp] theorem State.setFabric_gpio (f : FabricState → FabricState) (s : State) : (s.setFabric f).gpio = s.gpio := rfl
@[simp] theorem State.setFabric_deferred (f : FabricState → FabricState) (s : State) : (s.setFabric f).deferred = s.deferred := rfl
@[simp] theorem State.setFabric_fresh (f : FabricState → FabricState) (s : State) : (s.setFabric f).fresh = s.fresh := rfl

@[simp] theorem State.setFlash_pending (f : FlashState → FlashState) (s : State) : (s.setFlash f).pending = s.pending := rfl
@[simp] theorem State.setFlash_clock (f : FlashState → FlashState) (s : State) : (s.setFlash f).clock = s.clock := rfl
@[simp] theorem State.setFlash_host (f : FlashState → FlashState) (s : State) : (s.setFlash f).host = s.host := rfl
@[simp] theorem State.setFlash_ev (f : FlashState → FlashState) (s : State) : (s.setFlash f).ev = s.ev := rfl
@[simp] theorem State.setFlash_rtc (f : FlashState → FlashState) (s : State) : (s.setFlash f).rtc = s.rtc := rfl
@[simp] theorem State.setFlash_flash (f : FlashState → FlashState) (s : State) : (s.setFlash f).flash = f s.flash := rfl
@[simp] theorem State.setFlash_fabric (f : FlashState → FlashState) (s : State) : (s.setFlash f).fabric = s.fabric := rfl
@[simp] theorem State.setFlash_ports (f : FlashState → FlashState) (s : State) : (s.setFlash f).ports = s.ports := rfl
@[simp] theorem State.setFlash_map (f : FlashState → FlashState) (s : State) : (s.setFlash f).map = s.map := rfl
@[simp] theorem State.setFlash_prot (f : FlashState → FlashState) (s : State) : (s.setFlash f).prot = s.prot := rfl
@[simp] theorem State.setFlash_dpll (f : FlashState → FlashState) (s : State) : (s.setFlash f).dpll = s.dpll := rfl
@[simp] theorem State.setFlash_casc (f : FlashState → FlashState) (s : State) : (s.setFlash f).casc = s.casc := rfl
@[simp] theorem State.setFlash_mgmt (f : FlashState → FlashState) (s : State) : (s.setFlash f).mgmt = s.mgmt := rfl
@[simp] theorem State.setFlash_sec (f : FlashState → FlashState) (s : State) : (s.setFlash f).sec = s.sec := rfl
@[simp] theorem State.setFlash_ember (f : FlashState → FlashState) (s : State) : (s.setFlash f).ember = s.ember := rfl
@[simp] theorem State.setFlash_cap (f : FlashState → FlashState) (s : State) : (s.setFlash f).cap = s.cap := rfl
@[simp] theorem State.setFlash_pwr (f : FlashState → FlashState) (s : State) : (s.setFlash f).pwr = s.pwr := rfl
@[simp] theorem State.setFlash_rst (f : FlashState → FlashState) (s : State) : (s.setFlash f).rst = s.rst := rfl
@[simp] theorem State.setFlash_bist (f : FlashState → FlashState) (s : State) : (s.setFlash f).bist = s.bist := rfl
@[simp] theorem State.setFlash_perf (f : FlashState → FlashState) (s : State) : (s.setFlash f).perf = s.perf := rfl
@[simp] theorem State.setFlash_gpio (f : FlashState → FlashState) (s : State) : (s.setFlash f).gpio = s.gpio := rfl
@[simp] theorem State.setFlash_deferred (f : FlashState → FlashState) (s : State) : (s.setFlash f).deferred = s.deferred := rfl
@[simp] theorem State.setFlash_fresh (f : FlashState → FlashState) (s : State) : (s.setFlash f).fresh = s.fresh := rfl

@[simp] theorem State.setHost_pending (f : HostState → HostState) (s : State) : (s.setHost f).pending = s.pending := rfl
@[simp] theorem State.setHost_clock (f : HostState → HostState) (s : State) : (s.setHost f).clock = s.clock := rfl
@[simp] theorem State.setHost_host (f : HostState → HostState) (s : State) : (s.setHost f).host = f s.host := rfl
@[simp] theorem State.setHost_ev (f : HostState → HostState) (s : State) : (s.setHost f).ev = s.ev := rfl
@[simp] theorem State.setHost_rtc (f : HostState → HostState) (s : State) : (s.setHost f).rtc = s.rtc := rfl
@[simp] theorem State.setHost_flash (f : HostState → HostState) (s : State) : (s.setHost f).flash = s.flash := rfl
@[simp] theorem State.setHost_fabric (f : HostState → HostState) (s : State) : (s.setHost f).fabric = s.fabric := rfl
@[simp] theorem State.setHost_ports (f : HostState → HostState) (s : State) : (s.setHost f).ports = s.ports := rfl
@[simp] theorem State.setHost_map (f : HostState → HostState) (s : State) : (s.setHost f).map = s.map := rfl
@[simp] theorem State.setHost_prot (f : HostState → HostState) (s : State) : (s.setHost f).prot = s.prot := rfl
@[simp] theorem State.setHost_dpll (f : HostState → HostState) (s : State) : (s.setHost f).dpll = s.dpll := rfl
@[simp] theorem State.setHost_casc (f : HostState → HostState) (s : State) : (s.setHost f).casc = s.casc := rfl
@[simp] theorem State.setHost_mgmt (f : HostState → HostState) (s : State) : (s.setHost f).mgmt = s.mgmt := rfl
@[simp] theorem State.setHost_sec (f : HostState → HostState) (s : State) : (s.setHost f).sec = s.sec := rfl
@[simp] theorem State.setHost_ember (f : HostState → HostState) (s : State) : (s.setHost f).ember = s.ember := rfl
@[simp] theorem State.setHost_cap (f : HostState → HostState) (s : State) : (s.setHost f).cap = s.cap := rfl
@[simp] theorem State.setHost_pwr (f : HostState → HostState) (s : State) : (s.setHost f).pwr = s.pwr := rfl
@[simp] theorem State.setHost_rst (f : HostState → HostState) (s : State) : (s.setHost f).rst = s.rst := rfl
@[simp] theorem State.setHost_bist (f : HostState → HostState) (s : State) : (s.setHost f).bist = s.bist := rfl
@[simp] theorem State.setHost_perf (f : HostState → HostState) (s : State) : (s.setHost f).perf = s.perf := rfl
@[simp] theorem State.setHost_gpio (f : HostState → HostState) (s : State) : (s.setHost f).gpio = s.gpio := rfl
@[simp] theorem State.setHost_deferred (f : HostState → HostState) (s : State) : (s.setHost f).deferred = s.deferred := rfl
@[simp] theorem State.setHost_fresh (f : HostState → HostState) (s : State) : (s.setHost f).fresh = s.fresh := rfl

@[simp] theorem State.setMgmt_pending (f : ManagementState → ManagementState) (s : State) : (s.setMgmt f).pending = s.pending := rfl
@[simp] theorem State.setMgmt_clock (f : ManagementState → ManagementState) (s : State) : (s.setMgmt f).clock = s.clock := rfl
@[simp] theorem State.setMgmt_host (f : ManagementState → ManagementState) (s : State) : (s.setMgmt f).host = s.host := rfl
@[simp] theorem State.setMgmt_ev (f : ManagementState → ManagementState) (s : State) : (s.setMgmt f).ev = s.ev := rfl
@[simp] theorem State.setMgmt_rtc (f : ManagementState → ManagementState) (s : State) : (s.setMgmt f).rtc = s.rtc := rfl
@[simp] theorem State.setMgmt_flash (f : ManagementState → ManagementState) (s : State) : (s.setMgmt f).flash = s.flash := rfl
@[simp] theorem State.setMgmt_fabric (f : ManagementState → ManagementState) (s : State) : (s.setMgmt f).fabric = s.fabric := rfl
@[simp] theorem State.setMgmt_ports (f : ManagementState → ManagementState) (s : State) : (s.setMgmt f).ports = s.ports := rfl
@[simp] theorem State.setMgmt_map (f : ManagementState → ManagementState) (s : State) : (s.setMgmt f).map = s.map := rfl
@[simp] theorem State.setMgmt_prot (f : ManagementState → ManagementState) (s : State) : (s.setMgmt f).prot = s.prot := rfl
@[simp] theorem State.setMgmt_dpll (f : ManagementState → ManagementState) (s : State) : (s.setMgmt f).dpll = s.dpll := rfl
@[simp] theorem State.setMgmt_casc (f : ManagementState → ManagementState) (s : State) : (s.setMgmt f).casc = s.casc := rfl
@[simp] theorem State.setMgmt_mgmt (f : ManagementState → ManagementState) (s : State) : (s.setMgmt f).mgmt = f s.mgmt := rfl
@[simp] theorem State.setMgmt_sec (f : ManagementState → ManagementState) (s : State) : (s.setMgmt f).sec = s.sec := rfl
@[simp] theorem State.setMgmt_ember (f : ManagementState → ManagementState) (s : State) : (s.setMgmt f).ember = s.ember := rfl
@[simp] theorem State.setMgmt_cap (f : ManagementState → ManagementState) (s : State) : (s.setMgmt f).cap = s.cap := rfl
@[simp] theorem State.setMgmt_pwr (f : ManagementState → ManagementState) (s : State) : (s.setMgmt f).pwr = s.pwr := rfl
@[simp] theorem State.setMgmt_rst (f : ManagementState → ManagementState) (s : State) : (s.setMgmt f).rst = s.rst := rfl
@[simp] theorem State.setMgmt_bist (f : ManagementState → ManagementState) (s : State) : (s.setMgmt f).bist = s.bist := rfl
@[simp] theorem State.setMgmt_perf (f : ManagementState → ManagementState) (s : State) : (s.setMgmt f).perf = s.perf := rfl
@[simp] theorem State.setMgmt_gpio (f : ManagementState → ManagementState) (s : State) : (s.setMgmt f).gpio = s.gpio := rfl
@[simp] theorem State.setMgmt_deferred (f : ManagementState → ManagementState) (s : State) : (s.setMgmt f).deferred = s.deferred := rfl
@[simp] theorem State.setMgmt_fresh (f : ManagementState → ManagementState) (s : State) : (s.setMgmt f).fresh = s.fresh := rfl

@[simp] theorem State.setPerf_pending (f : PerfState → PerfState) (s : State) : (s.setPerf f).pending = s.pending := rfl
@[simp] theorem State.setPerf_clock (f : PerfState → PerfState) (s : State) : (s.setPerf f).clock = s.clock := rfl
@[simp] theorem State.setPerf_host (f : PerfState → PerfState) (s : State) : (s.setPerf f).host = s.host := rfl
@[simp] theorem State.setPerf_ev (f : PerfState → PerfState) (s : State) : (s.setPerf f).ev = s.ev := rfl
@[simp] theorem State.setPerf_rtc (f : PerfState → PerfState) (s : State) : (s.setPerf f).rtc = s.rtc := rfl
@[simp] theorem State.setPerf_flash (f : PerfState → PerfState) (s : State) : (s.setPerf f).flash = s.flash := rfl
@[simp] theorem State.setPerf_fabric (f : PerfState → PerfState) (s : State) : (s.setPerf f).fabric = s.fabric := rfl
@[simp] theorem State.setPerf_ports (f : PerfState → PerfState) (s : State) : (s.setPerf f).ports = s.ports := rfl
@[simp] theorem State.setPerf_map (f : PerfState → PerfState) (s : State) : (s.setPerf f).map = s.map := rfl
@[simp] theorem State.setPerf_prot (f : PerfState → PerfState) (s : State) : (s.setPerf f).prot = s.prot := rfl
@[simp] theorem State.setPerf_dpll (f : PerfState → PerfState) (s : State) : (s.setPerf f).dpll = s.dpll := rfl
@[simp] theorem State.setPerf_casc (f : PerfState → PerfState) (s : State) : (s.setPerf f).casc = s.casc := rfl
@[simp] theorem State.setPerf_mgmt (f : PerfState → PerfState) (s : State) : (s.setPerf f).mgmt = s.mgmt := rfl
@[simp] theorem State.setPerf_sec (f : PerfState → PerfState) (s : State) : (s.setPerf f).sec = s.sec := rfl
@[simp] theorem State.setPerf_ember (f : PerfState → PerfState) (s : State) : (s.setPerf f).ember = s.ember := rfl
@[simp] theorem State.setPerf_cap (f : PerfState → PerfState) (s : State) : (s.setPerf f).cap = s.cap := rfl
@[simp] theorem State.setPerf_pwr (f : PerfState → PerfState) (s : State) : (s.setPerf f).pwr = s.pwr := rfl
@[simp] theorem State.setPerf_rst (f : PerfState → PerfState) (s : State) : (s.setPerf f).rst = s.rst := rfl
@[simp] theorem State.setPerf_bist (f : PerfState → PerfState) (s : State) : (s.setPerf f).bist = s.bist := rfl
@[simp] theorem State.setPerf_perf (f : PerfState → PerfState) (s : State) : (s.setPerf f).perf = f s.perf := rfl
@[simp] theorem State.setPerf_gpio (f : PerfState → PerfState) (s : State) : (s.setPerf f).gpio = s.gpio := rfl
@[simp] theorem State.setPerf_deferred (f : PerfState → PerfState) (s : State) : (s.setPerf f).deferred = s.deferred := rfl
@[simp] theorem State.setPerf_fresh (f : PerfState → PerfState) (s : State) : (s.setPerf f).fresh = s.fresh := rfl

@[simp] theorem State.setEv_pending (f : EventState → EventState) (s : State) : (s.setEv f).pending = s.pending := rfl
@[simp] theorem State.setEv_clock (f : EventState → EventState) (s : State) : (s.setEv f).clock = s.clock := rfl
@[simp] theorem State.setEv_host (f : EventState → EventState) (s : State) : (s.setEv f).host = s.host := rfl
@[simp] theorem State.setEv_ev (f : EventState → EventState) (s : State) : (s.setEv f).ev = f s.ev := rfl
@[simp] theorem State.setEv_rtc (f : EventState → EventState) (s : State) : (s.setEv f).rtc = s.rtc := rfl
@[simp] theorem State.setEv_flash (f : EventState → EventState) (s : State) : (s.setEv f).flash = s.flash := rfl
@[simp] theorem State.setEv_fabric (f : EventState → EventState) (s : State) : (s.setEv f).fabric = s.fabric := rfl
@[simp] theorem State.setEv_ports (f : EventState → EventState) (s : State) : (s.setEv f).ports = s.ports := rfl
@[simp] theorem State.setEv_map (f : EventState → EventState) (s : State) : (s.setEv f).map = s.map := rfl
@[simp] theorem State.setEv_prot (f : EventState → EventState) (s : State) : (s.setEv f).prot = s.prot := rfl
@[simp] theorem State.setEv_dpll (f : EventState → EventState) (s : State) : (s.setEv f).dpll = s.dpll := rfl
@[simp] theorem State.setEv_casc (f : EventState → EventState) (s : State) : (s.setEv f).casc = s.casc := rfl
@[simp] theorem State.setEv_mgmt (f : EventState → EventState) (s : State) : (s.setEv f).mgmt = s.mgmt := rfl
@[simp] theorem State.setEv_sec (f : EventState → EventState) (s : State) : (s.setEv f).sec = s.sec := rfl
@[simp] theorem State.setEv_ember (f : EventState → EventState) (s : State) : (s.setEv f).ember = s.ember := rfl
@[simp] theorem State.setEv_cap (f : EventState → EventState) (s : State) : (s.setEv f).cap = s.cap := rfl
@[simp] theorem State.setEv_pwr (f : EventState → EventState) (s : State) : (s.setEv f).pwr = s.pwr := rfl
@[simp] theorem State.setEv_rst (f : EventState → EventState) (s : State) : (s.setEv f).rst = s.rst := rfl
@[simp] theorem State.setEv_bist (f : EventState → EventState) (s : State) : (s.setEv f).bist = s.bist := rfl
@[simp] theorem State.setEv_perf (f : EventState → EventState) (s : State) : (s.setEv f).perf = s.perf := rfl
@[simp] theorem State.setEv_gpio (f : EventState → EventState) (s : State) : (s.setEv f).gpio = s.gpio := rfl
@[simp] theorem State.setEv_deferred (f : EventState → EventState) (s : State) : (s.setEv f).deferred = s.deferred := rfl
@[simp] theorem State.setEv_fresh (f : EventState → EventState) (s : State) : (s.setEv f).fresh = s.fresh := rfl

@[simp] theorem State.setSec_pending (f : SecurityState → SecurityState) (s : State) : (s.setSec f).pending = s.pending := rfl
@[simp] theorem State.setSec_clock (f : SecurityState → SecurityState) (s : State) : (s.setSec f).clock = s.clock := rfl
@[simp] theorem State.setSec_host (f : SecurityState → SecurityState) (s : State) : (s.setSec f).host = s.host := rfl
@[simp] theorem State.setSec_ev (f : SecurityState → SecurityState) (s : State) : (s.setSec f).ev = s.ev := rfl
@[simp] theorem State.setSec_rtc (f : SecurityState → SecurityState) (s : State) : (s.setSec f).rtc = s.rtc := rfl
@[simp] theorem State.setSec_flash (f : SecurityState → SecurityState) (s : State) : (s.setSec f).flash = s.flash := rfl
@[simp] theorem State.setSec_fabric (f : SecurityState → SecurityState) (s : State) : (s.setSec f).fabric = s.fabric := rfl
@[simp] theorem State.setSec_ports (f : SecurityState → SecurityState) (s : State) : (s.setSec f).ports = s.ports := rfl
@[simp] theorem State.setSec_map (f : SecurityState → SecurityState) (s : State) : (s.setSec f).map = s.map := rfl
@[simp] theorem State.setSec_prot (f : SecurityState → SecurityState) (s : State) : (s.setSec f).prot = s.prot := rfl
@[simp] theorem State.setSec_dpll (f : SecurityState → SecurityState) (s : State) : (s.setSec f).dpll = s.dpll := rfl
@[simp] theorem State.setSec_casc (f : SecurityState → SecurityState) (s : State) : (s.setSec f).casc = s.casc := rfl
@[simp] theorem State.setSec_mgmt (f : SecurityState → SecurityState) (s : State) : (s.setSec f).mgmt = s.mgmt := rfl
@[simp] theorem State.setSec_sec (f : SecurityState → SecurityState) (s : State) : (s.setSec f).sec = f s.sec := rfl
@[simp] theorem State.setSec_ember (f : SecurityState → SecurityState) (s : State) : (s.setSec f).ember = s.ember := rfl
@[simp] theorem State.setSec_cap (f : SecurityState → SecurityState) (s : State) : (s.setSec f).cap = s.cap := rfl
@[simp] theorem State.setSec_pwr (f : SecurityState → SecurityState) (s : State) : (s.setSec f).pwr = s.pwr := rfl
@[simp] theorem State.setSec_rst (f : SecurityState → SecurityState) (s : State) : (s.setSec f).rst = s.rst := rfl
@[simp] theorem State.setSec_bist (f : SecurityState → SecurityState) (s : State) : (s.setSec f).bist = s.bist := rfl
@[simp] theorem State.setSec_perf (f : SecurityState → SecurityState) (s : State) : (s.setSec f).perf = s.perf := rfl
@[simp] theorem State.setSec_gpio (f : SecurityState → SecurityState) (s : State) : (s.setSec f).gpio = s.gpio := rfl
@[simp] theorem State.setSec_deferred (f : SecurityState → SecurityState) (s : State) : (s.setSec f).deferred = s.deferred := rfl
@[simp] theorem State.setSec_fresh (f : SecurityState → SecurityState) (s : State) : (s.setSec f).fresh = s.fresh := rfl

@[simp] theorem State.setBist_pending (f : BistState → BistState) (s : State) : (s.setBist f).pending = s.pending := rfl
@[simp] theorem State.setBist_clock (f : BistState → BistState) (s : State) : (s.setBist f).clock = s.clock := rfl
@[simp] theorem State.setBist_host (f : BistState → BistState) (s : State) : (s.setBist f).host = s.host := rfl
@[simp] theorem State.setBist_ev (f : BistState → BistState) (s : State) : (s.setBist f).ev = s.ev := rfl
@[simp] theorem State.setBist_rtc (f : BistState → BistState) (s : State) : (s.setBist f).rtc = s.rtc := rfl
@[simp] theorem State.setBist_flash (f : BistState → BistState) (s : State) : (s.setBist f).flash = s.flash := rfl
@[simp] theorem State.setBist_fabric (f : BistState → BistState) (s : State) : (s.setBist f).fabric = s.fabric := rfl
@[simp] theorem State.setBist_ports (f : BistState → BistState) (s : State) : (s.setBist f).ports = s.ports := rfl
@[simp] theorem State.setBist_map (f : BistState → BistState) (s : State) : (s.setBist f).map = s.map := rfl
@[simp] theorem State.setBist_prot (f : BistState → BistState) (s : State) : (s.setBist f).prot = s.prot := rfl
@[simp] theorem State.setBist_dpll (f : BistState → BistState) (s : State) : (s.setBist f).dpll = s.dpll := rfl
@[simp] theorem State.setBist_casc (f : BistState → BistState) (s : State) : (s.setBist f).casc = s.casc := rfl
@[simp] theorem State.setBist_mgmt (f : BistState → BistState) (s : State) : (s.setBist f).mgmt = s.mgmt := rfl
@[simp] theorem State.setBist_sec (f : BistState → BistState) (s : State) : (s.setBist f).sec = s.sec := rfl
@[simp] theorem State.setBist_ember (f : BistState → BistState) (s : State) : (s.setBist f).ember = s.ember := rfl
@[simp] theorem State.setBist_cap (f : BistState → BistState) (s : State) : (s.setBist f).cap = s.cap := rfl
@[simp] theorem State.setBist_pwr (f : BistState → BistState) (s : State) : (s.setBist f).pwr = s.pwr := rfl
@[simp] theorem State.setBist_rst (f : BistState → BistState) (s : State) : (s.setBist f).rst = s.rst := rfl
@[simp] theorem State.setBist_bist (f : BistState → BistState) (s : State) : (s.setBist f).bist = f s.bist := rfl
@[simp] theorem State.setBist_perf (f : BistState → BistState) (s : State) : (s.setBist f).perf = s.perf := rfl
@[simp] theorem State.setBist_gpio (f : BistState → BistState) (s : State) : (s.setBist f).gpio = s.gpio := rfl
@[simp] theorem State.setBist_deferred (f : BistState → BistState) (s : State) : (s.setBist f).deferred = s.deferred := rfl
@[simp] theorem State.setBist_fresh (f : BistState → BistState) (s : State) : (s.setBist f).fresh = s.fresh := rfl

@[simp] theorem State.setCap_pending (f : CaptureState → CaptureState) (s : State) : (s.setCap f).pending = s.pending := rfl
@[simp] theorem State.setCap_clock (f : CaptureState → CaptureState) (s : State) : (s.setCap f).clock = s.clock := rfl
@[simp] theorem State.setCap_host (f : CaptureState → CaptureState) (s : State) : (s.setCap f).host = s.host := rfl
@[simp] theorem State.setCap_ev (f : CaptureState → CaptureState) (s : State) : (s.setCap f).ev = s.ev := rfl
@[simp] theorem State.setCap_rtc (f : CaptureState → CaptureState) (s : State) : (s.setCap f).rtc = s.rtc := rfl
@[simp] theorem State.setCap_flash (f : CaptureState → CaptureState) (s : State) : (s.setCap f).flash = s.flash := rfl
@[simp] theorem State.setCap_fabric (f : CaptureState → CaptureState) (s : State) : (s.setCap f).fabric = s.fabric := rfl
@[simp] theorem State.setCap_ports (f : CaptureState → CaptureState) (s : State) : (s.setCap f).ports = s.ports := rfl
@[simp] theorem State.setCap_map (f : CaptureState → CaptureState) (s : State) : (s.setCap f).map = s.map := rfl
@[simp] theorem State.setCap_prot (f : CaptureState → CaptureState) (s : State) : (s.setCap f).prot = s.prot := rfl
@[simp] theorem State.setCap_dpll (f : CaptureState → CaptureState) (s : State) : (s.setCap f).dpll = s.dpll := rfl
@[simp] theorem State.setCap_casc (f : CaptureState → CaptureState) (s : State) : (s.setCap f).casc = s.casc := rfl
@[simp] theorem State.setCap_mgmt (f : CaptureState → CaptureState) (s : State) : (s.setCap f).mgmt = s.mgmt := rfl
@[simp] theorem State.setCap_sec (f : CaptureState → CaptureState) (s : State) : (s.setCap f).sec = s.sec := rfl
@[simp] theorem State.setCap_ember (f : CaptureState → CaptureState) (s : State) : (s.setCap f).ember = s.ember := rfl
@[simp] theorem State.setCap_cap (f : CaptureState → CaptureState) (s : State) : (s.setCap f).cap = f s.cap := rfl
@[simp] theorem State.setCap_pwr (f : CaptureState → CaptureState) (s : State) : (s.setCap f).pwr = s.pwr := rfl
@[simp] theorem State.setCap_rst (f : CaptureState → CaptureState) (s : State) : (s.setCap f).rst = s.rst := rfl
@[simp] theorem State.setCap_bist (f : CaptureState → CaptureState) (s : State) : (s.setCap f).bist = s.bist := rfl
@[simp] theorem State.setCap_perf (f : CaptureState → CaptureState) (s : State) : (s.setCap f).perf = s.perf := rfl
@[simp] theorem State.setCap_gpio (f : CaptureState → CaptureState) (s : State) : (s.setCap f).gpio = s.gpio := rfl
@[simp] theorem State.setCap_deferred (f : CaptureState → CaptureState) (s : State) : (s.setCap f).deferred = s.deferred := rfl
@[simp] theorem State.setCap_fresh (f : CaptureState → CaptureState) (s : State) : (s.setCap f).fresh = s.fresh := rfl

@[simp] theorem State.setDpll_pending (f : DpllState → DpllState) (s : State) : (s.setDpll f).pending = s.pending := rfl
@[simp] theorem State.setDpll_clock (f : DpllState → DpllState) (s : State) : (s.setDpll f).clock = s.clock := rfl
@[simp] theorem State.setDpll_host (f : DpllState → DpllState) (s : State) : (s.setDpll f).host = s.host := rfl
@[simp] theorem State.setDpll_ev (f : DpllState → DpllState) (s : State) : (s.setDpll f).ev = s.ev := rfl
@[simp] theorem State.setDpll_rtc (f : DpllState → DpllState) (s : State) : (s.setDpll f).rtc = s.rtc := rfl
@[simp] theorem State.setDpll_flash (f : DpllState → DpllState) (s : State) : (s.setDpll f).flash = s.flash := rfl
@[simp] theorem State.setDpll_fabric (f : DpllState → DpllState) (s : State) : (s.setDpll f).fabric = s.fabric := rfl
@[simp] theorem State.setDpll_ports (f : DpllState → DpllState) (s : State) : (s.setDpll f).ports = s.ports := rfl
@[simp] theorem State.setDpll_map (f : DpllState → DpllState) (s : State) : (s.setDpll f).map = s.map := rfl
@[simp] theorem State.setDpll_prot (f : DpllState → DpllState) (s : State) : (s.setDpll f).prot = s.prot := rfl
@[simp] theorem State.setDpll_dpll (f : DpllState → DpllState) (s : State) : (s.setDpll f).dpll = f s.dpll := rfl
@[simp] theorem State.setDpll_casc (f : DpllState → DpllState) (s : State) : (s.setDpll f).casc = s.casc := rfl
@[simp] theorem State.setDpll_mgmt (f : DpllState → DpllState) (s : State) : (s.setDpll f).mgmt = s.mgmt := rfl
@[simp] theorem State.setDpll_sec (f : DpllState → DpllState) (s : State) : (s.setDpll f).sec = s.sec := rfl
@[simp] theorem State.setDpll_ember (f : DpllState → DpllState) (s : State) : (s.setDpll f).ember = s.ember := rfl
@[simp] theorem State.setDpll_cap (f : DpllState → DpllState) (s : State) : (s.setDpll f).cap = s.cap := rfl
@[simp] theorem State.setDpll_pwr (f : DpllState → DpllState) (s : State) : (s.setDpll f).pwr = s.pwr := rfl
@[simp] theorem State.setDpll_rst (f : DpllState → DpllState) (s : State) : (s.setDpll f).rst = s.rst := rfl
@[simp] theorem State.setDpll_bist (f : DpllState → DpllState) (s : State) : (s.setDpll f).bist = s.bist := rfl
@[simp] theorem State.setDpll_perf (f : DpllState → DpllState) (s : State) : (s.setDpll f).perf = s.perf := rfl
@[simp] theorem State.setDpll_gpio (f : DpllState → DpllState) (s : State) : (s.setDpll f).gpio = s.gpio := rfl
@[simp] theorem State.setDpll_deferred (f : DpllState → DpllState) (s : State) : (s.setDpll f).deferred = s.deferred := rfl
@[simp] theorem State.setDpll_fresh (f : DpllState → DpllState) (s : State) : (s.setDpll f).fresh = s.fresh := rfl

@[simp] theorem State.setChan_pending (c : Fin 8) (f : Channel → Channel) (s : State) : (s.setChan c f).pending = s.pending := rfl
@[simp] theorem State.setChan_clock (c : Fin 8) (f : Channel → Channel) (s : State) : (s.setChan c f).clock = s.clock := rfl
@[simp] theorem State.setChan_host (c : Fin 8) (f : Channel → Channel) (s : State) : (s.setChan c f).host = { s.host with channels := s.host.channels.set c (f s.host.channels[c]) } := rfl
@[simp] theorem State.setChan_ev (c : Fin 8) (f : Channel → Channel) (s : State) : (s.setChan c f).ev = s.ev := rfl
@[simp] theorem State.setChan_rtc (c : Fin 8) (f : Channel → Channel) (s : State) : (s.setChan c f).rtc = s.rtc := rfl
@[simp] theorem State.setChan_flash (c : Fin 8) (f : Channel → Channel) (s : State) : (s.setChan c f).flash = s.flash := rfl
@[simp] theorem State.setChan_fabric (c : Fin 8) (f : Channel → Channel) (s : State) : (s.setChan c f).fabric = s.fabric := rfl
@[simp] theorem State.setChan_ports (c : Fin 8) (f : Channel → Channel) (s : State) : (s.setChan c f).ports = s.ports := rfl
@[simp] theorem State.setChan_map (c : Fin 8) (f : Channel → Channel) (s : State) : (s.setChan c f).map = s.map := rfl
@[simp] theorem State.setChan_prot (c : Fin 8) (f : Channel → Channel) (s : State) : (s.setChan c f).prot = s.prot := rfl
@[simp] theorem State.setChan_dpll (c : Fin 8) (f : Channel → Channel) (s : State) : (s.setChan c f).dpll = s.dpll := rfl
@[simp] theorem State.setChan_casc (c : Fin 8) (f : Channel → Channel) (s : State) : (s.setChan c f).casc = s.casc := rfl
@[simp] theorem State.setChan_mgmt (c : Fin 8) (f : Channel → Channel) (s : State) : (s.setChan c f).mgmt = s.mgmt := rfl
@[simp] theorem State.setChan_sec (c : Fin 8) (f : Channel → Channel) (s : State) : (s.setChan c f).sec = s.sec := rfl
@[simp] theorem State.setChan_ember (c : Fin 8) (f : Channel → Channel) (s : State) : (s.setChan c f).ember = s.ember := rfl
@[simp] theorem State.setChan_cap (c : Fin 8) (f : Channel → Channel) (s : State) : (s.setChan c f).cap = s.cap := rfl
@[simp] theorem State.setChan_pwr (c : Fin 8) (f : Channel → Channel) (s : State) : (s.setChan c f).pwr = s.pwr := rfl
@[simp] theorem State.setChan_rst (c : Fin 8) (f : Channel → Channel) (s : State) : (s.setChan c f).rst = s.rst := rfl
@[simp] theorem State.setChan_bist (c : Fin 8) (f : Channel → Channel) (s : State) : (s.setChan c f).bist = s.bist := rfl
@[simp] theorem State.setChan_perf (c : Fin 8) (f : Channel → Channel) (s : State) : (s.setChan c f).perf = s.perf := rfl
@[simp] theorem State.setChan_gpio (c : Fin 8) (f : Channel → Channel) (s : State) : (s.setChan c f).gpio = s.gpio := rfl
@[simp] theorem State.setChan_deferred (c : Fin 8) (f : Channel → Channel) (s : State) : (s.setChan c f).deferred = s.deferred := rfl
@[simp] theorem State.setChan_fresh (c : Fin 8) (f : Channel → Channel) (s : State) : (s.setChan c f).fresh = s.fresh := rfl

@[simp] theorem State.journal_pending (r : CommandRef) (k : JournalKind) (s : State) : (s.journal r k).pending = s.pending := rfl
@[simp] theorem State.journal_clock (r : CommandRef) (k : JournalKind) (s : State) : (s.journal r k).clock = s.clock := rfl
@[simp] theorem State.journal_host (r : CommandRef) (k : JournalKind) (s : State) : (s.journal r k).host = { s.host with journal := s.host.journal ++ [⟨r, k⟩] } := rfl
@[simp] theorem State.journal_ev (r : CommandRef) (k : JournalKind) (s : State) : (s.journal r k).ev = s.ev := rfl
@[simp] theorem State.journal_rtc (r : CommandRef) (k : JournalKind) (s : State) : (s.journal r k).rtc = s.rtc := rfl
@[simp] theorem State.journal_flash (r : CommandRef) (k : JournalKind) (s : State) : (s.journal r k).flash = s.flash := rfl
@[simp] theorem State.journal_fabric (r : CommandRef) (k : JournalKind) (s : State) : (s.journal r k).fabric = s.fabric := rfl
@[simp] theorem State.journal_ports (r : CommandRef) (k : JournalKind) (s : State) : (s.journal r k).ports = s.ports := rfl
@[simp] theorem State.journal_map (r : CommandRef) (k : JournalKind) (s : State) : (s.journal r k).map = s.map := rfl
@[simp] theorem State.journal_prot (r : CommandRef) (k : JournalKind) (s : State) : (s.journal r k).prot = s.prot := rfl
@[simp] theorem State.journal_dpll (r : CommandRef) (k : JournalKind) (s : State) : (s.journal r k).dpll = s.dpll := rfl
@[simp] theorem State.journal_casc (r : CommandRef) (k : JournalKind) (s : State) : (s.journal r k).casc = s.casc := rfl
@[simp] theorem State.journal_mgmt (r : CommandRef) (k : JournalKind) (s : State) : (s.journal r k).mgmt = s.mgmt := rfl
@[simp] theorem State.journal_sec (r : CommandRef) (k : JournalKind) (s : State) : (s.journal r k).sec = s.sec := rfl
@[simp] theorem State.journal_ember (r : CommandRef) (k : JournalKind) (s : State) : (s.journal r k).ember = s.ember := rfl
@[simp] theorem State.journal_cap (r : CommandRef) (k : JournalKind) (s : State) : (s.journal r k).cap = s.cap := rfl
@[simp] theorem State.journal_pwr (r : CommandRef) (k : JournalKind) (s : State) : (s.journal r k).pwr = s.pwr := rfl
@[simp] theorem State.journal_rst (r : CommandRef) (k : JournalKind) (s : State) : (s.journal r k).rst = s.rst := rfl
@[simp] theorem State.journal_bist (r : CommandRef) (k : JournalKind) (s : State) : (s.journal r k).bist = s.bist := rfl
@[simp] theorem State.journal_perf (r : CommandRef) (k : JournalKind) (s : State) : (s.journal r k).perf = s.perf := rfl
@[simp] theorem State.journal_gpio (r : CommandRef) (k : JournalKind) (s : State) : (s.journal r k).gpio = s.gpio := rfl
@[simp] theorem State.journal_deferred (r : CommandRef) (k : JournalKind) (s : State) : (s.journal r k).deferred = s.deferred := rfl
@[simp] theorem State.journal_fresh (r : CommandRef) (k : JournalKind) (s : State) : (s.journal r k).fresh = s.fresh := rfl

@[simp] theorem State.post_pending (c : Fin 8) (x : Response) (s : State) : (s.post c x).pending = s.pending := rfl
@[simp] theorem State.post_clock (c : Fin 8) (x : Response) (s : State) : (s.post c x).clock = s.clock := rfl
@[simp] theorem State.post_host (c : Fin 8) (x : Response) (s : State) : (s.post c x).host = { s.host with outbox := s.host.outbox ++ [(c, x)] } := rfl
@[simp] theorem State.post_ev (c : Fin 8) (x : Response) (s : State) : (s.post c x).ev = s.ev := rfl
@[simp] theorem State.post_rtc (c : Fin 8) (x : Response) (s : State) : (s.post c x).rtc = s.rtc := rfl
@[simp] theorem State.post_flash (c : Fin 8) (x : Response) (s : State) : (s.post c x).flash = s.flash := rfl
@[simp] theorem State.post_fabric (c : Fin 8) (x : Response) (s : State) : (s.post c x).fabric = s.fabric := rfl
@[simp] theorem State.post_ports (c : Fin 8) (x : Response) (s : State) : (s.post c x).ports = s.ports := rfl
@[simp] theorem State.post_map (c : Fin 8) (x : Response) (s : State) : (s.post c x).map = s.map := rfl
@[simp] theorem State.post_prot (c : Fin 8) (x : Response) (s : State) : (s.post c x).prot = s.prot := rfl
@[simp] theorem State.post_dpll (c : Fin 8) (x : Response) (s : State) : (s.post c x).dpll = s.dpll := rfl
@[simp] theorem State.post_casc (c : Fin 8) (x : Response) (s : State) : (s.post c x).casc = s.casc := rfl
@[simp] theorem State.post_mgmt (c : Fin 8) (x : Response) (s : State) : (s.post c x).mgmt = s.mgmt := rfl
@[simp] theorem State.post_sec (c : Fin 8) (x : Response) (s : State) : (s.post c x).sec = s.sec := rfl
@[simp] theorem State.post_ember (c : Fin 8) (x : Response) (s : State) : (s.post c x).ember = s.ember := rfl
@[simp] theorem State.post_cap (c : Fin 8) (x : Response) (s : State) : (s.post c x).cap = s.cap := rfl
@[simp] theorem State.post_pwr (c : Fin 8) (x : Response) (s : State) : (s.post c x).pwr = s.pwr := rfl
@[simp] theorem State.post_rst (c : Fin 8) (x : Response) (s : State) : (s.post c x).rst = s.rst := rfl
@[simp] theorem State.post_bist (c : Fin 8) (x : Response) (s : State) : (s.post c x).bist = s.bist := rfl
@[simp] theorem State.post_perf (c : Fin 8) (x : Response) (s : State) : (s.post c x).perf = s.perf := rfl
@[simp] theorem State.post_gpio (c : Fin 8) (x : Response) (s : State) : (s.post c x).gpio = s.gpio := rfl
@[simp] theorem State.post_deferred (c : Fin 8) (x : Response) (s : State) : (s.post c x).deferred = s.deferred := rfl
@[simp] theorem State.post_fresh (c : Fin 8) (x : Response) (s : State) : (s.post c x).fresh = s.fresh := rfl

@[simp] theorem State.setPort_pending (p : PortNo) (f : Port → Port) (s : State) : (s.setPort p f).pending = s.pending := rfl
@[simp] theorem State.setPort_clock (p : PortNo) (f : Port → Port) (s : State) : (s.setPort p f).clock = s.clock := rfl
@[simp] theorem State.setPort_host (p : PortNo) (f : Port → Port) (s : State) : (s.setPort p f).host = s.host := rfl
@[simp] theorem State.setPort_ev (p : PortNo) (f : Port → Port) (s : State) : (s.setPort p f).ev = s.ev := rfl
@[simp] theorem State.setPort_rtc (p : PortNo) (f : Port → Port) (s : State) : (s.setPort p f).rtc = s.rtc := rfl
@[simp] theorem State.setPort_flash (p : PortNo) (f : Port → Port) (s : State) : (s.setPort p f).flash = s.flash := rfl
@[simp] theorem State.setPort_fabric (p : PortNo) (f : Port → Port) (s : State) : (s.setPort p f).fabric = s.fabric := rfl
@[simp] theorem State.setPort_ports (p : PortNo) (f : Port → Port) (s : State) : (s.setPort p f).ports = s.ports.set p (f s.ports[p]) := rfl
@[simp] theorem State.setPort_map (p : PortNo) (f : Port → Port) (s : State) : (s.setPort p f).map = s.map := rfl
@[simp] theorem State.setPort_prot (p : PortNo) (f : Port → Port) (s : State) : (s.setPort p f).prot = s.prot := rfl
@[simp] theorem State.setPort_dpll (p : PortNo) (f : Port → Port) (s : State) : (s.setPort p f).dpll = s.dpll := rfl
@[simp] theorem State.setPort_casc (p : PortNo) (f : Port → Port) (s : State) : (s.setPort p f).casc = s.casc := rfl
@[simp] theorem State.setPort_mgmt (p : PortNo) (f : Port → Port) (s : State) : (s.setPort p f).mgmt = s.mgmt := rfl
@[simp] theorem State.setPort_sec (p : PortNo) (f : Port → Port) (s : State) : (s.setPort p f).sec = s.sec := rfl
@[simp] theorem State.setPort_ember (p : PortNo) (f : Port → Port) (s : State) : (s.setPort p f).ember = s.ember := rfl
@[simp] theorem State.setPort_cap (p : PortNo) (f : Port → Port) (s : State) : (s.setPort p f).cap = s.cap := rfl
@[simp] theorem State.setPort_pwr (p : PortNo) (f : Port → Port) (s : State) : (s.setPort p f).pwr = s.pwr := rfl
@[simp] theorem State.setPort_rst (p : PortNo) (f : Port → Port) (s : State) : (s.setPort p f).rst = s.rst := rfl
@[simp] theorem State.setPort_bist (p : PortNo) (f : Port → Port) (s : State) : (s.setPort p f).bist = s.bist := rfl
@[simp] theorem State.setPort_perf (p : PortNo) (f : Port → Port) (s : State) : (s.setPort p f).perf = s.perf := rfl
@[simp] theorem State.setPort_gpio (p : PortNo) (f : Port → Port) (s : State) : (s.setPort p f).gpio = s.gpio := rfl
@[simp] theorem State.setPort_deferred (p : PortNo) (f : Port → Port) (s : State) : (s.setPort p f).deferred = s.deferred := rfl
@[simp] theorem State.setPort_fresh (p : PortNo) (f : Port → Port) (s : State) : (s.setPort p f).fresh = s.fresh := rfl

@[simp] theorem State.setEngine_pending (e : Fin 1024) (f : Engine → Engine) (s : State) : (s.setEngine e f).pending = s.pending := rfl
@[simp] theorem State.setEngine_clock (e : Fin 1024) (f : Engine → Engine) (s : State) : (s.setEngine e f).clock = s.clock := rfl
@[simp] theorem State.setEngine_host (e : Fin 1024) (f : Engine → Engine) (s : State) : (s.setEngine e f).host = s.host := rfl
@[simp] theorem State.setEngine_ev (e : Fin 1024) (f : Engine → Engine) (s : State) : (s.setEngine e f).ev = s.ev := rfl
@[simp] theorem State.setEngine_rtc (e : Fin 1024) (f : Engine → Engine) (s : State) : (s.setEngine e f).rtc = s.rtc := rfl
@[simp] theorem State.setEngine_flash (e : Fin 1024) (f : Engine → Engine) (s : State) : (s.setEngine e f).flash = s.flash := rfl
@[simp] theorem State.setEngine_fabric (e : Fin 1024) (f : Engine → Engine) (s : State) : (s.setEngine e f).fabric = s.fabric := rfl
@[simp] theorem State.setEngine_ports (e : Fin 1024) (f : Engine → Engine) (s : State) : (s.setEngine e f).ports = s.ports := rfl
@[simp] theorem State.setEngine_map (e : Fin 1024) (f : Engine → Engine) (s : State) : (s.setEngine e f).map = s.map := rfl
@[simp] theorem State.setEngine_prot (e : Fin 1024) (f : Engine → Engine) (s : State) : (s.setEngine e f).prot = s.prot := rfl
@[simp] theorem State.setEngine_dpll (e : Fin 1024) (f : Engine → Engine) (s : State) : (s.setEngine e f).dpll = s.dpll := rfl
@[simp] theorem State.setEngine_casc (e : Fin 1024) (f : Engine → Engine) (s : State) : (s.setEngine e f).casc = s.casc := rfl
@[simp] theorem State.setEngine_mgmt (e : Fin 1024) (f : Engine → Engine) (s : State) : (s.setEngine e f).mgmt = s.mgmt := rfl
@[simp] theorem State.setEngine_sec (e : Fin 1024) (f : Engine → Engine) (s : State) : (s.setEngine e f).sec = s.sec := rfl
@[simp] theorem State.setEngine_ember (e : Fin 1024) (f : Engine → Engine) (s : State) : (s.setEngine e f).ember = { s.ember with engines := s.ember.engines.set e (f s.ember.engines[e]) } := rfl
@[simp] theorem State.setEngine_cap (e : Fin 1024) (f : Engine → Engine) (s : State) : (s.setEngine e f).cap = s.cap := rfl
@[simp] theorem State.setEngine_pwr (e : Fin 1024) (f : Engine → Engine) (s : State) : (s.setEngine e f).pwr = s.pwr := rfl
@[simp] theorem State.setEngine_rst (e : Fin 1024) (f : Engine → Engine) (s : State) : (s.setEngine e f).rst = s.rst := rfl
@[simp] theorem State.setEngine_bist (e : Fin 1024) (f : Engine → Engine) (s : State) : (s.setEngine e f).bist = s.bist := rfl
@[simp] theorem State.setEngine_perf (e : Fin 1024) (f : Engine → Engine) (s : State) : (s.setEngine e f).perf = s.perf := rfl
@[simp] theorem State.setEngine_gpio (e : Fin 1024) (f : Engine → Engine) (s : State) : (s.setEngine e f).gpio = s.gpio := rfl
@[simp] theorem State.setEngine_deferred (e : Fin 1024) (f : Engine → Engine) (s : State) : (s.setEngine e f).deferred = s.deferred := rfl
@[simp] theorem State.setEngine_fresh (e : Fin 1024) (f : Engine → Engine) (s : State) : (s.setEngine e f).fresh = s.fresh := rfl

@[simp] theorem State.setCluster_pending (c : Fin 8) (f : Cluster → Cluster) (s : State) : (s.setCluster c f).pending = s.pending := rfl
@[simp] theorem State.setCluster_clock (c : Fin 8) (f : Cluster → Cluster) (s : State) : (s.setCluster c f).clock = s.clock := rfl
@[simp] theorem State.setCluster_host (c : Fin 8) (f : Cluster → Cluster) (s : State) : (s.setCluster c f).host = s.host := rfl
@[simp] theorem State.setCluster_ev (c : Fin 8) (f : Cluster → Cluster) (s : State) : (s.setCluster c f).ev = s.ev := rfl
@[simp] theorem State.setCluster_rtc (c : Fin 8) (f : Cluster → Cluster) (s : State) : (s.setCluster c f).rtc = s.rtc := rfl
@[simp] theorem State.setCluster_flash (c : Fin 8) (f : Cluster → Cluster) (s : State) : (s.setCluster c f).flash = s.flash := rfl
@[simp] theorem State.setCluster_fabric (c : Fin 8) (f : Cluster → Cluster) (s : State) : (s.setCluster c f).fabric = s.fabric := rfl
@[simp] theorem State.setCluster_ports (c : Fin 8) (f : Cluster → Cluster) (s : State) : (s.setCluster c f).ports = s.ports := rfl
@[simp] theorem State.setCluster_map (c : Fin 8) (f : Cluster → Cluster) (s : State) : (s.setCluster c f).map = s.map := rfl
@[simp] theorem State.setCluster_prot (c : Fin 8) (f : Cluster → Cluster) (s : State) : (s.setCluster c f).prot = s.prot := rfl
@[simp] theorem State.setCluster_dpll (c : Fin 8) (f : Cluster → Cluster) (s : State) : (s.setCluster c f).dpll = s.dpll := rfl
@[simp] theorem State.setCluster_casc (c : Fin 8) (f : Cluster → Cluster) (s : State) : (s.setCluster c f).casc = s.casc := rfl
@[simp] theorem State.setCluster_mgmt (c : Fin 8) (f : Cluster → Cluster) (s : State) : (s.setCluster c f).mgmt = s.mgmt := rfl
@[simp] theorem State.setCluster_sec (c : Fin 8) (f : Cluster → Cluster) (s : State) : (s.setCluster c f).sec = s.sec := rfl
@[simp] theorem State.setCluster_ember (c : Fin 8) (f : Cluster → Cluster) (s : State) : (s.setCluster c f).ember = { s.ember with clusters := s.ember.clusters.set c (f s.ember.clusters[c]) } := rfl
@[simp] theorem State.setCluster_cap (c : Fin 8) (f : Cluster → Cluster) (s : State) : (s.setCluster c f).cap = s.cap := rfl
@[simp] theorem State.setCluster_pwr (c : Fin 8) (f : Cluster → Cluster) (s : State) : (s.setCluster c f).pwr = s.pwr := rfl
@[simp] theorem State.setCluster_rst (c : Fin 8) (f : Cluster → Cluster) (s : State) : (s.setCluster c f).rst = s.rst := rfl
@[simp] theorem State.setCluster_bist (c : Fin 8) (f : Cluster → Cluster) (s : State) : (s.setCluster c f).bist = s.bist := rfl
@[simp] theorem State.setCluster_perf (c : Fin 8) (f : Cluster → Cluster) (s : State) : (s.setCluster c f).perf = s.perf := rfl
@[simp] theorem State.setCluster_gpio (c : Fin 8) (f : Cluster → Cluster) (s : State) : (s.setCluster c f).gpio = s.gpio := rfl
@[simp] theorem State.setCluster_deferred (c : Fin 8) (f : Cluster → Cluster) (s : State) : (s.setCluster c f).deferred = s.deferred := rfl
@[simp] theorem State.setCluster_fresh (c : Fin 8) (f : Cluster → Cluster) (s : State) : (s.setCluster c f).fresh = s.fresh := rfl

@[simp] theorem State.setPlane_pending (k : Fin 4) (f : Plane → Plane) (s : State) : (s.setPlane k f).pending = s.pending := rfl
@[simp] theorem State.setPlane_clock (k : Fin 4) (f : Plane → Plane) (s : State) : (s.setPlane k f).clock = s.clock := rfl
@[simp] theorem State.setPlane_host (k : Fin 4) (f : Plane → Plane) (s : State) : (s.setPlane k f).host = s.host := rfl
@[simp] theorem State.setPlane_ev (k : Fin 4) (f : Plane → Plane) (s : State) : (s.setPlane k f).ev = s.ev := rfl
@[simp] theorem State.setPlane_rtc (k : Fin 4) (f : Plane → Plane) (s : State) : (s.setPlane k f).rtc = s.rtc := rfl
@[simp] theorem State.setPlane_flash (k : Fin 4) (f : Plane → Plane) (s : State) : (s.setPlane k f).flash = s.flash := rfl
@[simp] theorem State.setPlane_fabric (k : Fin 4) (f : Plane → Plane) (s : State) : (s.setPlane k f).fabric = s.fabric := rfl
@[simp] theorem State.setPlane_ports (k : Fin 4) (f : Plane → Plane) (s : State) : (s.setPlane k f).ports = s.ports := rfl
@[simp] theorem State.setPlane_map (k : Fin 4) (f : Plane → Plane) (s : State) : (s.setPlane k f).map = { s.map with planes := s.map.planes.set k (f s.map.planes[k]) } := rfl
@[simp] theorem State.setPlane_prot (k : Fin 4) (f : Plane → Plane) (s : State) : (s.setPlane k f).prot = s.prot := rfl
@[simp] theorem State.setPlane_dpll (k : Fin 4) (f : Plane → Plane) (s : State) : (s.setPlane k f).dpll = s.dpll := rfl
@[simp] theorem State.setPlane_casc (k : Fin 4) (f : Plane → Plane) (s : State) : (s.setPlane k f).casc = s.casc := rfl
@[simp] theorem State.setPlane_mgmt (k : Fin 4) (f : Plane → Plane) (s : State) : (s.setPlane k f).mgmt = s.mgmt := rfl
@[simp] theorem State.setPlane_sec (k : Fin 4) (f : Plane → Plane) (s : State) : (s.setPlane k f).sec = s.sec := rfl
@[simp] theorem State.setPlane_ember (k : Fin 4) (f : Plane → Plane) (s : State) : (s.setPlane k f).ember = s.ember := rfl
@[simp] theorem State.setPlane_cap (k : Fin 4) (f : Plane → Plane) (s : State) : (s.setPlane k f).cap = s.cap := rfl
@[simp] theorem State.setPlane_pwr (k : Fin 4) (f : Plane → Plane) (s : State) : (s.setPlane k f).pwr = s.pwr := rfl
@[simp] theorem State.setPlane_rst (k : Fin 4) (f : Plane → Plane) (s : State) : (s.setPlane k f).rst = s.rst := rfl
@[simp] theorem State.setPlane_bist (k : Fin 4) (f : Plane → Plane) (s : State) : (s.setPlane k f).bist = s.bist := rfl
@[simp] theorem State.setPlane_perf (k : Fin 4) (f : Plane → Plane) (s : State) : (s.setPlane k f).perf = s.perf := rfl
@[simp] theorem State.setPlane_gpio (k : Fin 4) (f : Plane → Plane) (s : State) : (s.setPlane k f).gpio = s.gpio := rfl
@[simp] theorem State.setPlane_deferred (k : Fin 4) (f : Plane → Plane) (s : State) : (s.setPlane k f).deferred = s.deferred := rfl
@[simp] theorem State.setPlane_fresh (k : Fin 4) (f : Plane → Plane) (s : State) : (s.setPlane k f).fresh = s.fresh := rfl

@[simp] theorem State.setPin_pending (i : Fin 32) (f : GpioPin → GpioPin) (s : State) : (s.setPin i f).pending = s.pending := rfl
@[simp] theorem State.setPin_clock (i : Fin 32) (f : GpioPin → GpioPin) (s : State) : (s.setPin i f).clock = s.clock := rfl
@[simp] theorem State.setPin_host (i : Fin 32) (f : GpioPin → GpioPin) (s : State) : (s.setPin i f).host = s.host := rfl
@[simp] theorem State.setPin_ev (i : Fin 32) (f : GpioPin → GpioPin) (s : State) : (s.setPin i f).ev = s.ev := rfl
@[simp] theorem State.setPin_rtc (i : Fin 32) (f : GpioPin → GpioPin) (s : State) : (s.setPin i f).rtc = s.rtc := rfl
@[simp] theorem State.setPin_flash (i : Fin 32) (f : GpioPin → GpioPin) (s : State) : (s.setPin i f).flash = s.flash := rfl
@[simp] theorem State.setPin_fabric (i : Fin 32) (f : GpioPin → GpioPin) (s : State) : (s.setPin i f).fabric = s.fabric := rfl
@[simp] theorem State.setPin_ports (i : Fin 32) (f : GpioPin → GpioPin) (s : State) : (s.setPin i f).ports = s.ports := rfl
@[simp] theorem State.setPin_map (i : Fin 32) (f : GpioPin → GpioPin) (s : State) : (s.setPin i f).map = s.map := rfl
@[simp] theorem State.setPin_prot (i : Fin 32) (f : GpioPin → GpioPin) (s : State) : (s.setPin i f).prot = s.prot := rfl
@[simp] theorem State.setPin_dpll (i : Fin 32) (f : GpioPin → GpioPin) (s : State) : (s.setPin i f).dpll = s.dpll := rfl
@[simp] theorem State.setPin_casc (i : Fin 32) (f : GpioPin → GpioPin) (s : State) : (s.setPin i f).casc = s.casc := rfl
@[simp] theorem State.setPin_mgmt (i : Fin 32) (f : GpioPin → GpioPin) (s : State) : (s.setPin i f).mgmt = s.mgmt := rfl
@[simp] theorem State.setPin_sec (i : Fin 32) (f : GpioPin → GpioPin) (s : State) : (s.setPin i f).sec = s.sec := rfl
@[simp] theorem State.setPin_ember (i : Fin 32) (f : GpioPin → GpioPin) (s : State) : (s.setPin i f).ember = s.ember := rfl
@[simp] theorem State.setPin_cap (i : Fin 32) (f : GpioPin → GpioPin) (s : State) : (s.setPin i f).cap = s.cap := rfl
@[simp] theorem State.setPin_pwr (i : Fin 32) (f : GpioPin → GpioPin) (s : State) : (s.setPin i f).pwr = s.pwr := rfl
@[simp] theorem State.setPin_rst (i : Fin 32) (f : GpioPin → GpioPin) (s : State) : (s.setPin i f).rst = s.rst := rfl
@[simp] theorem State.setPin_bist (i : Fin 32) (f : GpioPin → GpioPin) (s : State) : (s.setPin i f).bist = s.bist := rfl
@[simp] theorem State.setPin_perf (i : Fin 32) (f : GpioPin → GpioPin) (s : State) : (s.setPin i f).perf = s.perf := rfl
@[simp] theorem State.setPin_gpio (i : Fin 32) (f : GpioPin → GpioPin) (s : State) : (s.setPin i f).gpio = s.gpio.set i (f s.gpio[i]) := rfl
@[simp] theorem State.setPin_deferred (i : Fin 32) (f : GpioPin → GpioPin) (s : State) : (s.setPin i f).deferred = s.deferred := rfl
@[simp] theorem State.setPin_fresh (i : Fin 32) (f : GpioPin → GpioPin) (s : State) : (s.setPin i f).fresh = s.fresh := rfl

@[simp] theorem State.setBus_pending (f : BoardBus → BoardBus) (s : State) : (s.setBus f).pending = s.pending := rfl
@[simp] theorem State.setBus_clock (f : BoardBus → BoardBus) (s : State) : (s.setBus f).clock = s.clock := rfl
@[simp] theorem State.setBus_host (f : BoardBus → BoardBus) (s : State) : (s.setBus f).host = { s.host with boardBus := f s.host.boardBus } := rfl
@[simp] theorem State.setBus_ev (f : BoardBus → BoardBus) (s : State) : (s.setBus f).ev = s.ev := rfl
@[simp] theorem State.setBus_rtc (f : BoardBus → BoardBus) (s : State) : (s.setBus f).rtc = s.rtc := rfl
@[simp] theorem State.setBus_flash (f : BoardBus → BoardBus) (s : State) : (s.setBus f).flash = s.flash := rfl
@[simp] theorem State.setBus_fabric (f : BoardBus → BoardBus) (s : State) : (s.setBus f).fabric = s.fabric := rfl
@[simp] theorem State.setBus_ports (f : BoardBus → BoardBus) (s : State) : (s.setBus f).ports = s.ports := rfl
@[simp] theorem State.setBus_map (f : BoardBus → BoardBus) (s : State) : (s.setBus f).map = s.map := rfl
@[simp] theorem State.setBus_prot (f : BoardBus → BoardBus) (s : State) : (s.setBus f).prot = s.prot := rfl
@[simp] theorem State.setBus_dpll (f : BoardBus → BoardBus) (s : State) : (s.setBus f).dpll = s.dpll := rfl
@[simp] theorem State.setBus_casc (f : BoardBus → BoardBus) (s : State) : (s.setBus f).casc = s.casc := rfl
@[simp] theorem State.setBus_mgmt (f : BoardBus → BoardBus) (s : State) : (s.setBus f).mgmt = s.mgmt := rfl
@[simp] theorem State.setBus_sec (f : BoardBus → BoardBus) (s : State) : (s.setBus f).sec = s.sec := rfl
@[simp] theorem State.setBus_ember (f : BoardBus → BoardBus) (s : State) : (s.setBus f).ember = s.ember := rfl
@[simp] theorem State.setBus_cap (f : BoardBus → BoardBus) (s : State) : (s.setBus f).cap = s.cap := rfl
@[simp] theorem State.setBus_pwr (f : BoardBus → BoardBus) (s : State) : (s.setBus f).pwr = s.pwr := rfl
@[simp] theorem State.setBus_rst (f : BoardBus → BoardBus) (s : State) : (s.setBus f).rst = s.rst := rfl
@[simp] theorem State.setBus_bist (f : BoardBus → BoardBus) (s : State) : (s.setBus f).bist = s.bist := rfl
@[simp] theorem State.setBus_perf (f : BoardBus → BoardBus) (s : State) : (s.setBus f).perf = s.perf := rfl
@[simp] theorem State.setBus_gpio (f : BoardBus → BoardBus) (s : State) : (s.setBus f).gpio = s.gpio := rfl
@[simp] theorem State.setBus_deferred (f : BoardBus → BoardBus) (s : State) : (s.setBus f).deferred = s.deferred := rfl
@[simp] theorem State.setBus_fresh (f : BoardBus → BoardBus) (s : State) : (s.setBus f).fresh = s.fresh := rfl

@[simp] theorem State.setCore_pending (i : Fin 2) (f : ManagementCore → ManagementCore) (s : State) : (s.setCore i f).pending = s.pending := rfl
@[simp] theorem State.setCore_clock (i : Fin 2) (f : ManagementCore → ManagementCore) (s : State) : (s.setCore i f).clock = s.clock := rfl
@[simp] theorem State.setCore_host (i : Fin 2) (f : ManagementCore → ManagementCore) (s : State) : (s.setCore i f).host = s.host := rfl
@[simp] theorem State.setCore_ev (i : Fin 2) (f : ManagementCore → ManagementCore) (s : State) : (s.setCore i f).ev = s.ev := rfl
@[simp] theorem State.setCore_rtc (i : Fin 2) (f : ManagementCore → ManagementCore) (s : State) : (s.setCore i f).rtc = s.rtc := rfl
@[simp] theorem State.setCore_flash (i : Fin 2) (f : ManagementCore → ManagementCore) (s : State) : (s.setCore i f).flash = s.flash := rfl
@[simp] theorem State.setCore_fabric (i : Fin 2) (f : ManagementCore → ManagementCore) (s : State) : (s.setCore i f).fabric = s.fabric := rfl
@[simp] theorem State.setCore_ports (i : Fin 2) (f : ManagementCore → ManagementCore) (s : State) : (s.setCore i f).ports = s.ports := rfl
@[simp] theorem State.setCore_map (i : Fin 2) (f : ManagementCore → ManagementCore) (s : State) : (s.setCore i f).map = s.map := rfl
@[simp] theorem State.setCore_prot (i : Fin 2) (f : ManagementCore → ManagementCore) (s : State) : (s.setCore i f).prot = s.prot := rfl
@[simp] theorem State.setCore_dpll (i : Fin 2) (f : ManagementCore → ManagementCore) (s : State) : (s.setCore i f).dpll = s.dpll := rfl
@[simp] theorem State.setCore_casc (i : Fin 2) (f : ManagementCore → ManagementCore) (s : State) : (s.setCore i f).casc = s.casc := rfl
@[simp] theorem State.setCore_mgmt (i : Fin 2) (f : ManagementCore → ManagementCore) (s : State) : (s.setCore i f).mgmt = { s.mgmt with cores := s.mgmt.cores.set i (f s.mgmt.cores[i]) } := rfl
@[simp] theorem State.setCore_sec (i : Fin 2) (f : ManagementCore → ManagementCore) (s : State) : (s.setCore i f).sec = s.sec := rfl
@[simp] theorem State.setCore_ember (i : Fin 2) (f : ManagementCore → ManagementCore) (s : State) : (s.setCore i f).ember = s.ember := rfl
@[simp] theorem State.setCore_cap (i : Fin 2) (f : ManagementCore → ManagementCore) (s : State) : (s.setCore i f).cap = s.cap := rfl
@[simp] theorem State.setCore_pwr (i : Fin 2) (f : ManagementCore → ManagementCore) (s : State) : (s.setCore i f).pwr = s.pwr := rfl
@[simp] theorem State.setCore_rst (i : Fin 2) (f : ManagementCore → ManagementCore) (s : State) : (s.setCore i f).rst = s.rst := rfl
@[simp] theorem State.setCore_bist (i : Fin 2) (f : ManagementCore → ManagementCore) (s : State) : (s.setCore i f).bist = s.bist := rfl
@[simp] theorem State.setCore_perf (i : Fin 2) (f : ManagementCore → ManagementCore) (s : State) : (s.setCore i f).perf = s.perf := rfl
@[simp] theorem State.setCore_gpio (i : Fin 2) (f : ManagementCore → ManagementCore) (s : State) : (s.setCore i f).gpio = s.gpio := rfl
@[simp] theorem State.setCore_deferred (i : Fin 2) (f : ManagementCore → ManagementCore) (s : State) : (s.setCore i f).deferred = s.deferred := rfl
@[simp] theorem State.setCore_fresh (i : Fin 2) (f : ManagementCore → ManagementCore) (s : State) : (s.setCore i f).fresh = s.fresh := rfl

@[simp] theorem State.putDomain_pending (d : Fin 56) (m : DomainMode) (s : State) : (s.putDomain d m).pending = s.pending := rfl
@[simp] theorem State.putDomain_clock (d : Fin 56) (m : DomainMode) (s : State) : (s.putDomain d m).clock = s.clock := rfl
@[simp] theorem State.putDomain_host (d : Fin 56) (m : DomainMode) (s : State) : (s.putDomain d m).host = s.host := rfl
@[simp] theorem State.putDomain_ev (d : Fin 56) (m : DomainMode) (s : State) : (s.putDomain d m).ev = s.ev := rfl
@[simp] theorem State.putDomain_rtc (d : Fin 56) (m : DomainMode) (s : State) : (s.putDomain d m).rtc = s.rtc := rfl
@[simp] theorem State.putDomain_flash (d : Fin 56) (m : DomainMode) (s : State) : (s.putDomain d m).flash = s.flash := rfl
@[simp] theorem State.putDomain_fabric (d : Fin 56) (m : DomainMode) (s : State) : (s.putDomain d m).fabric = s.fabric := rfl
@[simp] theorem State.putDomain_ports (d : Fin 56) (m : DomainMode) (s : State) : (s.putDomain d m).ports = s.ports := rfl
@[simp] theorem State.putDomain_map (d : Fin 56) (m : DomainMode) (s : State) : (s.putDomain d m).map = s.map := rfl
@[simp] theorem State.putDomain_prot (d : Fin 56) (m : DomainMode) (s : State) : (s.putDomain d m).prot = s.prot := rfl
@[simp] theorem State.putDomain_dpll (d : Fin 56) (m : DomainMode) (s : State) : (s.putDomain d m).dpll = s.dpll := rfl
@[simp] theorem State.putDomain_casc (d : Fin 56) (m : DomainMode) (s : State) : (s.putDomain d m).casc = s.casc := rfl
@[simp] theorem State.putDomain_mgmt (d : Fin 56) (m : DomainMode) (s : State) : (s.putDomain d m).mgmt = s.mgmt := rfl
@[simp] theorem State.putDomain_sec (d : Fin 56) (m : DomainMode) (s : State) : (s.putDomain d m).sec = s.sec := rfl
@[simp] theorem State.putDomain_ember (d : Fin 56) (m : DomainMode) (s : State) : (s.putDomain d m).ember = s.ember := rfl
@[simp] theorem State.putDomain_cap (d : Fin 56) (m : DomainMode) (s : State) : (s.putDomain d m).cap = s.cap := rfl
@[simp] theorem State.putDomain_pwr (d : Fin 56) (m : DomainMode) (s : State) : (s.putDomain d m).pwr = { s.pwr with modes := s.pwr.modes.set d m, storageSince := if d.val = 51 && m == .on then s.clock.tick else s.pwr.storageSince } := rfl
@[simp] theorem State.putDomain_rst (d : Fin 56) (m : DomainMode) (s : State) : (s.putDomain d m).rst = s.rst := rfl
@[simp] theorem State.putDomain_bist (d : Fin 56) (m : DomainMode) (s : State) : (s.putDomain d m).bist = s.bist := rfl
@[simp] theorem State.putDomain_perf (d : Fin 56) (m : DomainMode) (s : State) : (s.putDomain d m).perf = s.perf := rfl
@[simp] theorem State.putDomain_gpio (d : Fin 56) (m : DomainMode) (s : State) : (s.putDomain d m).gpio = s.gpio := rfl
@[simp] theorem State.putDomain_deferred (d : Fin 56) (m : DomainMode) (s : State) : (s.putDomain d m).deferred = s.deferred := rfl
@[simp] theorem State.putDomain_fresh (d : Fin 56) (m : DomainMode) (s : State) : (s.putDomain d m).fresh = s.fresh := rfl

@[simp] theorem State.setRef_pending (i : Fin 12) (f : Reference → Reference) (s : State) : (s.setRef i f).pending = s.pending := rfl
@[simp] theorem State.setRef_clock (i : Fin 12) (f : Reference → Reference) (s : State) : (s.setRef i f).clock = s.clock := rfl
@[simp] theorem State.setRef_host (i : Fin 12) (f : Reference → Reference) (s : State) : (s.setRef i f).host = s.host := rfl
@[simp] theorem State.setRef_ev (i : Fin 12) (f : Reference → Reference) (s : State) : (s.setRef i f).ev = s.ev := rfl
@[simp] theorem State.setRef_rtc (i : Fin 12) (f : Reference → Reference) (s : State) : (s.setRef i f).rtc = s.rtc := rfl
@[simp] theorem State.setRef_flash (i : Fin 12) (f : Reference → Reference) (s : State) : (s.setRef i f).flash = s.flash := rfl
@[simp] theorem State.setRef_fabric (i : Fin 12) (f : Reference → Reference) (s : State) : (s.setRef i f).fabric = s.fabric := rfl
@[simp] theorem State.setRef_ports (i : Fin 12) (f : Reference → Reference) (s : State) : (s.setRef i f).ports = s.ports := rfl
@[simp] theorem State.setRef_map (i : Fin 12) (f : Reference → Reference) (s : State) : (s.setRef i f).map = s.map := rfl
@[simp] theorem State.setRef_prot (i : Fin 12) (f : Reference → Reference) (s : State) : (s.setRef i f).prot = s.prot := rfl
@[simp] theorem State.setRef_dpll (i : Fin 12) (f : Reference → Reference) (s : State) : (s.setRef i f).dpll = { s.dpll with refs := s.dpll.refs.set i (f s.dpll.refs[i]) } := rfl
@[simp] theorem State.setRef_casc (i : Fin 12) (f : Reference → Reference) (s : State) : (s.setRef i f).casc = s.casc := rfl
@[simp] theorem State.setRef_mgmt (i : Fin 12) (f : Reference → Reference) (s : State) : (s.setRef i f).mgmt = s.mgmt := rfl
@[simp] theorem State.setRef_sec (i : Fin 12) (f : Reference → Reference) (s : State) : (s.setRef i f).sec = s.sec := rfl
@[simp] theorem State.setRef_ember (i : Fin 12) (f : Reference → Reference) (s : State) : (s.setRef i f).ember = s.ember := rfl
@[simp] theorem State.setRef_cap (i : Fin 12) (f : Reference → Reference) (s : State) : (s.setRef i f).cap = s.cap := rfl
@[simp] theorem State.setRef_pwr (i : Fin 12) (f : Reference → Reference) (s : State) : (s.setRef i f).pwr = s.pwr := rfl
@[simp] theorem State.setRef_rst (i : Fin 12) (f : Reference → Reference) (s : State) : (s.setRef i f).rst = s.rst := rfl
@[simp] theorem State.setRef_bist (i : Fin 12) (f : Reference → Reference) (s : State) : (s.setRef i f).bist = s.bist := rfl
@[simp] theorem State.setRef_perf (i : Fin 12) (f : Reference → Reference) (s : State) : (s.setRef i f).perf = s.perf := rfl
@[simp] theorem State.setRef_gpio (i : Fin 12) (f : Reference → Reference) (s : State) : (s.setRef i f).gpio = s.gpio := rfl
@[simp] theorem State.setRef_deferred (i : Fin 12) (f : Reference → Reference) (s : State) : (s.setRef i f).deferred = s.deferred := rfl
@[simp] theorem State.setRef_fresh (i : Fin 12) (f : Reference → Reference) (s : State) : (s.setRef i f).fresh = s.fresh := rfl

@[simp] theorem State.setTrig_pending (t : Fin 64) (f : TriggerChannel → TriggerChannel) (s : State) : (s.setTrig t f).pending = s.pending := rfl
@[simp] theorem State.setTrig_clock (t : Fin 64) (f : TriggerChannel → TriggerChannel) (s : State) : (s.setTrig t f).clock = s.clock := rfl
@[simp] theorem State.setTrig_host (t : Fin 64) (f : TriggerChannel → TriggerChannel) (s : State) : (s.setTrig t f).host = s.host := rfl
@[simp] theorem State.setTrig_ev (t : Fin 64) (f : TriggerChannel → TriggerChannel) (s : State) : (s.setTrig t f).ev = s.ev := rfl
@[simp] theorem State.setTrig_rtc (t : Fin 64) (f : TriggerChannel → TriggerChannel) (s : State) : (s.setTrig t f).rtc = s.rtc := rfl
@[simp] theorem State.setTrig_flash (t : Fin 64) (f : TriggerChannel → TriggerChannel) (s : State) : (s.setTrig t f).flash = s.flash := rfl
@[simp] theorem State.setTrig_fabric (t : Fin 64) (f : TriggerChannel → TriggerChannel) (s : State) : (s.setTrig t f).fabric = s.fabric := rfl
@[simp] theorem State.setTrig_ports (t : Fin 64) (f : TriggerChannel → TriggerChannel) (s : State) : (s.setTrig t f).ports = s.ports := rfl
@[simp] theorem State.setTrig_map (t : Fin 64) (f : TriggerChannel → TriggerChannel) (s : State) : (s.setTrig t f).map = s.map := rfl
@[simp] theorem State.setTrig_prot (t : Fin 64) (f : TriggerChannel → TriggerChannel) (s : State) : (s.setTrig t f).prot = s.prot := rfl
@[simp] theorem State.setTrig_dpll (t : Fin 64) (f : TriggerChannel → TriggerChannel) (s : State) : (s.setTrig t f).dpll = s.dpll := rfl
@[simp] theorem State.setTrig_casc (t : Fin 64) (f : TriggerChannel → TriggerChannel) (s : State) : (s.setTrig t f).casc = s.casc := rfl
@[simp] theorem State.setTrig_mgmt (t : Fin 64) (f : TriggerChannel → TriggerChannel) (s : State) : (s.setTrig t f).mgmt = s.mgmt := rfl
@[simp] theorem State.setTrig_sec (t : Fin 64) (f : TriggerChannel → TriggerChannel) (s : State) : (s.setTrig t f).sec = s.sec := rfl
@[simp] theorem State.setTrig_ember (t : Fin 64) (f : TriggerChannel → TriggerChannel) (s : State) : (s.setTrig t f).ember = s.ember := rfl
@[simp] theorem State.setTrig_cap (t : Fin 64) (f : TriggerChannel → TriggerChannel) (s : State) : (s.setTrig t f).cap = { s.cap with channels := s.cap.channels.set t (f s.cap.channels[t]) } := rfl
@[simp] theorem State.setTrig_pwr (t : Fin 64) (f : TriggerChannel → TriggerChannel) (s : State) : (s.setTrig t f).pwr = s.pwr := rfl
@[simp] theorem State.setTrig_rst (t : Fin 64) (f : TriggerChannel → TriggerChannel) (s : State) : (s.setTrig t f).rst = s.rst := rfl
@[simp] theorem State.setTrig_bist (t : Fin 64) (f : TriggerChannel → TriggerChannel) (s : State) : (s.setTrig t f).bist = s.bist := rfl
@[simp] theorem State.setTrig_perf (t : Fin 64) (f : TriggerChannel → TriggerChannel) (s : State) : (s.setTrig t f).perf = s.perf := rfl
@[simp] theorem State.setTrig_gpio (t : Fin 64) (f : TriggerChannel → TriggerChannel) (s : State) : (s.setTrig t f).gpio = s.gpio := rfl
@[simp] theorem State.setTrig_deferred (t : Fin 64) (f : TriggerChannel → TriggerChannel) (s : State) : (s.setTrig t f).deferred = s.deferred := rfl
@[simp] theorem State.setTrig_fresh (t : Fin 64) (f : TriggerChannel → TriggerChannel) (s : State) : (s.setTrig t f).fresh = s.fresh := rfl

@[simp] theorem State.tally_pending (kind inst event amount : Nat) (s : State) : (s.tally kind inst event amount).pending = s.pending := rfl
@[simp] theorem State.tally_clock (kind inst event amount : Nat) (s : State) : (s.tally kind inst event amount).clock = s.clock := rfl
@[simp] theorem State.tally_host (kind inst event amount : Nat) (s : State) : (s.tally kind inst event amount).host = s.host := rfl
@[simp] theorem State.tally_ev (kind inst event amount : Nat) (s : State) : (s.tally kind inst event amount).ev = s.ev := rfl
@[simp] theorem State.tally_rtc (kind inst event amount : Nat) (s : State) : (s.tally kind inst event amount).rtc = s.rtc := rfl
@[simp] theorem State.tally_flash (kind inst event amount : Nat) (s : State) : (s.tally kind inst event amount).flash = s.flash := rfl
@[simp] theorem State.tally_fabric (kind inst event amount : Nat) (s : State) : (s.tally kind inst event amount).fabric = s.fabric := rfl
@[simp] theorem State.tally_ports (kind inst event amount : Nat) (s : State) : (s.tally kind inst event amount).ports = s.ports := rfl
@[simp] theorem State.tally_map (kind inst event amount : Nat) (s : State) : (s.tally kind inst event amount).map = s.map := rfl
@[simp] theorem State.tally_prot (kind inst event amount : Nat) (s : State) : (s.tally kind inst event amount).prot = s.prot := rfl
@[simp] theorem State.tally_dpll (kind inst event amount : Nat) (s : State) : (s.tally kind inst event amount).dpll = s.dpll := rfl
@[simp] theorem State.tally_casc (kind inst event amount : Nat) (s : State) : (s.tally kind inst event amount).casc = s.casc := rfl
@[simp] theorem State.tally_mgmt (kind inst event amount : Nat) (s : State) : (s.tally kind inst event amount).mgmt = s.mgmt := rfl
@[simp] theorem State.tally_sec (kind inst event amount : Nat) (s : State) : (s.tally kind inst event amount).sec = s.sec := rfl
@[simp] theorem State.tally_ember (kind inst event amount : Nat) (s : State) : (s.tally kind inst event amount).ember = s.ember := rfl
@[simp] theorem State.tally_cap (kind inst event amount : Nat) (s : State) : (s.tally kind inst event amount).cap = s.cap := rfl
@[simp] theorem State.tally_pwr (kind inst event amount : Nat) (s : State) : (s.tally kind inst event amount).pwr = s.pwr := rfl
@[simp] theorem State.tally_rst (kind inst event amount : Nat) (s : State) : (s.tally kind inst event amount).rst = s.rst := rfl
@[simp] theorem State.tally_bist (kind inst event amount : Nat) (s : State) : (s.tally kind inst event amount).bist = s.bist := rfl
@[simp] theorem State.tally_gpio (kind inst event amount : Nat) (s : State) : (s.tally kind inst event amount).gpio = s.gpio := rfl
@[simp] theorem State.tally_deferred (kind inst event amount : Nat) (s : State) : (s.tally kind inst event amount).deferred = s.deferred := rfl
@[simp] theorem State.tally_fresh (kind inst event amount : Nat) (s : State) : (s.tally kind inst event amount).fresh = s.fresh := rfl

@[simp] theorem State.setRtc_chan (f : RtcState → RtcState) (j : Fin 8) (s : State) : (s.setRtc f).chan j = s.chan j := rfl
@[simp] theorem State.setRtc_port (f : RtcState → RtcState) (j : PortNo) (s : State) : (s.setRtc f).port j = s.port j := rfl
@[simp] theorem State.setRtc_core (f : RtcState → RtcState) (j : Fin 2) (s : State) : (s.setRtc f).core j = s.core j := rfl
@[simp] theorem State.setRst_chan (f : ResetState → ResetState) (j : Fin 8) (s : State) : (s.setRst f).chan j = s.chan j := rfl
@[simp] theorem State.setRst_port (f : ResetState → ResetState) (j : PortNo) (s : State) : (s.setRst f).port j = s.port j := rfl
@[simp] theorem State.setRst_core (f : ResetState → ResetState) (j : Fin 2) (s : State) : (s.setRst f).core j = s.core j := rfl
@[simp] theorem State.setCasc_chan (f : CascadeState → CascadeState) (j : Fin 8) (s : State) : (s.setCasc f).chan j = s.chan j := rfl
@[simp] theorem State.setCasc_port (f : CascadeState → CascadeState) (j : PortNo) (s : State) : (s.setCasc f).port j = s.port j := rfl
@[simp] theorem State.setCasc_core (f : CascadeState → CascadeState) (j : Fin 2) (s : State) : (s.setCasc f).core j = s.core j := rfl
@[simp] theorem State.setEmber_chan (f : EmberState → EmberState) (j : Fin 8) (s : State) : (s.setEmber f).chan j = s.chan j := rfl
@[simp] theorem State.setEmber_port (f : EmberState → EmberState) (j : PortNo) (s : State) : (s.setEmber f).port j = s.port j := rfl
@[simp] theorem State.setEmber_core (f : EmberState → EmberState) (j : Fin 2) (s : State) : (s.setEmber f).core j = s.core j := rfl
@[simp] theorem State.setFabric_chan (f : FabricState → FabricState) (j : Fin 8) (s : State) : (s.setFabric f).chan j = s.chan j := rfl
@[simp] theorem State.setFabric_port (f : FabricState → FabricState) (j : PortNo) (s : State) : (s.setFabric f).port j = s.port j := rfl
@[simp] theorem State.setFabric_core (f : FabricState → FabricState) (j : Fin 2) (s : State) : (s.setFabric f).core j = s.core j := rfl
@[simp] theorem State.setFlash_chan (f : FlashState → FlashState) (j : Fin 8) (s : State) : (s.setFlash f).chan j = s.chan j := rfl
@[simp] theorem State.setFlash_port (f : FlashState → FlashState) (j : PortNo) (s : State) : (s.setFlash f).port j = s.port j := rfl
@[simp] theorem State.setFlash_core (f : FlashState → FlashState) (j : Fin 2) (s : State) : (s.setFlash f).core j = s.core j := rfl
@[simp] theorem State.setHost_port (f : HostState → HostState) (j : PortNo) (s : State) : (s.setHost f).port j = s.port j := rfl
@[simp] theorem State.setHost_core (f : HostState → HostState) (j : Fin 2) (s : State) : (s.setHost f).core j = s.core j := rfl
@[simp] theorem State.setMgmt_chan (f : ManagementState → ManagementState) (j : Fin 8) (s : State) : (s.setMgmt f).chan j = s.chan j := rfl
@[simp] theorem State.setMgmt_port (f : ManagementState → ManagementState) (j : PortNo) (s : State) : (s.setMgmt f).port j = s.port j := rfl
@[simp] theorem State.setPerf_chan (f : PerfState → PerfState) (j : Fin 8) (s : State) : (s.setPerf f).chan j = s.chan j := rfl
@[simp] theorem State.setPerf_port (f : PerfState → PerfState) (j : PortNo) (s : State) : (s.setPerf f).port j = s.port j := rfl
@[simp] theorem State.setPerf_core (f : PerfState → PerfState) (j : Fin 2) (s : State) : (s.setPerf f).core j = s.core j := rfl
@[simp] theorem State.setEv_chan (f : EventState → EventState) (j : Fin 8) (s : State) : (s.setEv f).chan j = s.chan j := rfl
@[simp] theorem State.setEv_port (f : EventState → EventState) (j : PortNo) (s : State) : (s.setEv f).port j = s.port j := rfl
@[simp] theorem State.setEv_core (f : EventState → EventState) (j : Fin 2) (s : State) : (s.setEv f).core j = s.core j := rfl
@[simp] theorem State.setSec_chan (f : SecurityState → SecurityState) (j : Fin 8) (s : State) : (s.setSec f).chan j = s.chan j := rfl
@[simp] theorem State.setSec_port (f : SecurityState → SecurityState) (j : PortNo) (s : State) : (s.setSec f).port j = s.port j := rfl
@[simp] theorem State.setSec_core (f : SecurityState → SecurityState) (j : Fin 2) (s : State) : (s.setSec f).core j = s.core j := rfl
@[simp] theorem State.setBist_chan (f : BistState → BistState) (j : Fin 8) (s : State) : (s.setBist f).chan j = s.chan j := rfl
@[simp] theorem State.setBist_port (f : BistState → BistState) (j : PortNo) (s : State) : (s.setBist f).port j = s.port j := rfl
@[simp] theorem State.setBist_core (f : BistState → BistState) (j : Fin 2) (s : State) : (s.setBist f).core j = s.core j := rfl
@[simp] theorem State.setCap_chan (f : CaptureState → CaptureState) (j : Fin 8) (s : State) : (s.setCap f).chan j = s.chan j := rfl
@[simp] theorem State.setCap_port (f : CaptureState → CaptureState) (j : PortNo) (s : State) : (s.setCap f).port j = s.port j := rfl
@[simp] theorem State.setCap_core (f : CaptureState → CaptureState) (j : Fin 2) (s : State) : (s.setCap f).core j = s.core j := rfl
@[simp] theorem State.setDpll_chan (f : DpllState → DpllState) (j : Fin 8) (s : State) : (s.setDpll f).chan j = s.chan j := rfl
@[simp] theorem State.setDpll_port (f : DpllState → DpllState) (j : PortNo) (s : State) : (s.setDpll f).port j = s.port j := rfl
@[simp] theorem State.setDpll_core (f : DpllState → DpllState) (j : Fin 2) (s : State) : (s.setDpll f).core j = s.core j := rfl
@[simp] theorem State.setChan_port (c : Fin 8) (f : Channel → Channel) (j : PortNo) (s : State) : (s.setChan c f).port j = s.port j := rfl
@[simp] theorem State.setChan_core (c : Fin 8) (f : Channel → Channel) (j : Fin 2) (s : State) : (s.setChan c f).core j = s.core j := rfl
@[simp] theorem State.journal_chan (r : CommandRef) (k : JournalKind) (j : Fin 8) (s : State) : (s.journal r k).chan j = s.chan j := rfl
@[simp] theorem State.journal_port (r : CommandRef) (k : JournalKind) (j : PortNo) (s : State) : (s.journal r k).port j = s.port j := rfl
@[simp] theorem State.journal_core (r : CommandRef) (k : JournalKind) (j : Fin 2) (s : State) : (s.journal r k).core j = s.core j := rfl
@[simp] theorem State.post_chan (c : Fin 8) (x : Response) (j : Fin 8) (s : State) : (s.post c x).chan j = s.chan j := rfl
@[simp] theorem State.post_port (c : Fin 8) (x : Response) (j : PortNo) (s : State) : (s.post c x).port j = s.port j := rfl
@[simp] theorem State.post_core (c : Fin 8) (x : Response) (j : Fin 2) (s : State) : (s.post c x).core j = s.core j := rfl
@[simp] theorem State.setPort_chan (p : PortNo) (f : Port → Port) (j : Fin 8) (s : State) : (s.setPort p f).chan j = s.chan j := rfl
@[simp] theorem State.setPort_core (p : PortNo) (f : Port → Port) (j : Fin 2) (s : State) : (s.setPort p f).core j = s.core j := rfl
@[simp] theorem State.setEngine_chan (e : Fin 1024) (f : Engine → Engine) (j : Fin 8) (s : State) : (s.setEngine e f).chan j = s.chan j := rfl
@[simp] theorem State.setEngine_port (e : Fin 1024) (f : Engine → Engine) (j : PortNo) (s : State) : (s.setEngine e f).port j = s.port j := rfl
@[simp] theorem State.setEngine_core (e : Fin 1024) (f : Engine → Engine) (j : Fin 2) (s : State) : (s.setEngine e f).core j = s.core j := rfl
@[simp] theorem State.setCluster_chan (c : Fin 8) (f : Cluster → Cluster) (j : Fin 8) (s : State) : (s.setCluster c f).chan j = s.chan j := rfl
@[simp] theorem State.setCluster_port (c : Fin 8) (f : Cluster → Cluster) (j : PortNo) (s : State) : (s.setCluster c f).port j = s.port j := rfl
@[simp] theorem State.setCluster_core (c : Fin 8) (f : Cluster → Cluster) (j : Fin 2) (s : State) : (s.setCluster c f).core j = s.core j := rfl
@[simp] theorem State.setPlane_chan (k : Fin 4) (f : Plane → Plane) (j : Fin 8) (s : State) : (s.setPlane k f).chan j = s.chan j := rfl
@[simp] theorem State.setPlane_port (k : Fin 4) (f : Plane → Plane) (j : PortNo) (s : State) : (s.setPlane k f).port j = s.port j := rfl
@[simp] theorem State.setPlane_core (k : Fin 4) (f : Plane → Plane) (j : Fin 2) (s : State) : (s.setPlane k f).core j = s.core j := rfl
@[simp] theorem State.setPin_chan (i : Fin 32) (f : GpioPin → GpioPin) (j : Fin 8) (s : State) : (s.setPin i f).chan j = s.chan j := rfl
@[simp] theorem State.setPin_port (i : Fin 32) (f : GpioPin → GpioPin) (j : PortNo) (s : State) : (s.setPin i f).port j = s.port j := rfl
@[simp] theorem State.setPin_core (i : Fin 32) (f : GpioPin → GpioPin) (j : Fin 2) (s : State) : (s.setPin i f).core j = s.core j := rfl
@[simp] theorem State.setBus_chan (f : BoardBus → BoardBus) (j : Fin 8) (s : State) : (s.setBus f).chan j = s.chan j := rfl
@[simp] theorem State.setBus_port (f : BoardBus → BoardBus) (j : PortNo) (s : State) : (s.setBus f).port j = s.port j := rfl
@[simp] theorem State.setBus_core (f : BoardBus → BoardBus) (j : Fin 2) (s : State) : (s.setBus f).core j = s.core j := rfl
@[simp] theorem State.setCore_chan (i : Fin 2) (f : ManagementCore → ManagementCore) (j : Fin 8) (s : State) : (s.setCore i f).chan j = s.chan j := rfl
@[simp] theorem State.setCore_port (i : Fin 2) (f : ManagementCore → ManagementCore) (j : PortNo) (s : State) : (s.setCore i f).port j = s.port j := rfl
@[simp] theorem State.putDomain_chan (d : Fin 56) (m : DomainMode) (j : Fin 8) (s : State) : (s.putDomain d m).chan j = s.chan j := rfl
@[simp] theorem State.putDomain_port (d : Fin 56) (m : DomainMode) (j : PortNo) (s : State) : (s.putDomain d m).port j = s.port j := rfl
@[simp] theorem State.putDomain_core (d : Fin 56) (m : DomainMode) (j : Fin 2) (s : State) : (s.putDomain d m).core j = s.core j := rfl
@[simp] theorem State.setRef_chan (i : Fin 12) (f : Reference → Reference) (j : Fin 8) (s : State) : (s.setRef i f).chan j = s.chan j := rfl
@[simp] theorem State.setRef_port (i : Fin 12) (f : Reference → Reference) (j : PortNo) (s : State) : (s.setRef i f).port j = s.port j := rfl
@[simp] theorem State.setRef_core (i : Fin 12) (f : Reference → Reference) (j : Fin 2) (s : State) : (s.setRef i f).core j = s.core j := rfl
@[simp] theorem State.setTrig_chan (t : Fin 64) (f : TriggerChannel → TriggerChannel) (j : Fin 8) (s : State) : (s.setTrig t f).chan j = s.chan j := rfl
@[simp] theorem State.setTrig_port (t : Fin 64) (f : TriggerChannel → TriggerChannel) (j : PortNo) (s : State) : (s.setTrig t f).port j = s.port j := rfl
@[simp] theorem State.setTrig_core (t : Fin 64) (f : TriggerChannel → TriggerChannel) (j : Fin 2) (s : State) : (s.setTrig t f).core j = s.core j := rfl
@[simp] theorem State.tally_chan (kind inst event amount : Nat) (j : Fin 8) (s : State) : (s.tally kind inst event amount).chan j = s.chan j := rfl
@[simp] theorem State.tally_port (kind inst event amount : Nat) (j : PortNo) (s : State) : (s.tally kind inst event amount).port j = s.port j := rfl
@[simp] theorem State.tally_core (kind inst event amount : Nat) (j : Fin 2) (s : State) : (s.tally kind inst event amount).core j = s.core j := rfl

/-- The channel that an update names takes the new value; every other stays. -/
@[simp] theorem State.setChan_chan (c i : Fin 8) (f : Channel → Channel) (s : State) :
    (s.setChan c f).chan i = if i = c then f (s.chan c) else s.chan i := by
  by_cases h : i = c
  · subst h; simp [State.chan, State.setChan]
  · have h' : (c : Nat) ≠ i := fun e => h (Fin.ext e.symm)
    simp [State.chan, State.setChan, h, Vector.getElem_set_ne, h']

/-- The port that an update names takes the new value; every other stays. -/
@[simp] theorem State.setPort_port (p i : PortNo) (f : Port → Port) (s : State) :
    (s.setPort p f).port i = if i = p then f (s.port p) else s.port i := by
  by_cases h : i = p
  · subst h; simp [State.port, State.setPort]
  · have h' : (p : Nat) ≠ i := fun e => h (Fin.ext e.symm)
    simp [State.port, State.setPort, h, Vector.getElem_set_ne, h']

/-- The management core that an update names takes the new value; the other stays. -/
@[simp] theorem State.setCore_core (c i : Fin 2) (f : ManagementCore → ManagementCore) (s : State) :
    (s.setCore c f).core i = if i = c then f (s.core c) else s.core i := by
  by_cases h : i = c
  · subst h; simp [State.core, State.setCore, State.setMgmt]
  · have h' : (c : Nat) ≠ i := fun e => h (Fin.ext e.symm)
    simp [State.core, State.setCore, State.setMgmt, h, Vector.getElem_set_ne, h']

end Sys2Proof.Machine
end

