-- ==== Sys2Proof/Laws/Events.lean ====
section
/-! SUPPORT. An event changes the recorder and nothing else. -/
namespace Sys2Proof.Machine

@[simp] theorem State.produce_pending (r : EventRecord) (s : State) : (s.produce r).pending = s.pending := by
  unfold State.produce; split <;> rfl
@[simp] theorem State.produce_clock (r : EventRecord) (s : State) : (s.produce r).clock = s.clock := by
  unfold State.produce; split <;> rfl
@[simp] theorem State.produce_host (r : EventRecord) (s : State) : (s.produce r).host = s.host := by
  unfold State.produce; split <;> rfl
@[simp] theorem State.produce_rtc (r : EventRecord) (s : State) : (s.produce r).rtc = s.rtc := by
  unfold State.produce; split <;> rfl
@[simp] theorem State.produce_flash (r : EventRecord) (s : State) : (s.produce r).flash = s.flash := by
  unfold State.produce; split <;> rfl
@[simp] theorem State.produce_fabric (r : EventRecord) (s : State) : (s.produce r).fabric = s.fabric := by
  unfold State.produce; split <;> rfl
@[simp] theorem State.produce_ports (r : EventRecord) (s : State) : (s.produce r).ports = s.ports := by
  unfold State.produce; split <;> rfl
@[simp] theorem State.produce_map (r : EventRecord) (s : State) : (s.produce r).map = s.map := by
  unfold State.produce; split <;> rfl
@[simp] theorem State.produce_prot (r : EventRecord) (s : State) : (s.produce r).prot = s.prot := by
  unfold State.produce; split <;> rfl
@[simp] theorem State.produce_dpll (r : EventRecord) (s : State) : (s.produce r).dpll = s.dpll := by
  unfold State.produce; split <;> rfl
@[simp] theorem State.produce_casc (r : EventRecord) (s : State) : (s.produce r).casc = s.casc := by
  unfold State.produce; split <;> rfl
@[simp] theorem State.produce_mgmt (r : EventRecord) (s : State) : (s.produce r).mgmt = s.mgmt := by
  unfold State.produce; split <;> rfl
@[simp] theorem State.produce_sec (r : EventRecord) (s : State) : (s.produce r).sec = s.sec := by
  unfold State.produce; split <;> rfl
@[simp] theorem State.produce_ember (r : EventRecord) (s : State) : (s.produce r).ember = s.ember := by
  unfold State.produce; split <;> rfl
@[simp] theorem State.produce_cap (r : EventRecord) (s : State) : (s.produce r).cap = s.cap := by
  unfold State.produce; split <;> rfl
@[simp] theorem State.produce_pwr (r : EventRecord) (s : State) : (s.produce r).pwr = s.pwr := by
  unfold State.produce; split <;> rfl
@[simp] theorem State.produce_rst (r : EventRecord) (s : State) : (s.produce r).rst = s.rst := by
  unfold State.produce; split <;> rfl
@[simp] theorem State.produce_bist (r : EventRecord) (s : State) : (s.produce r).bist = s.bist := by
  unfold State.produce; split <;> rfl
@[simp] theorem State.produce_perf (r : EventRecord) (s : State) : (s.produce r).perf = s.perf := by
  unfold State.produce; split <;> rfl
@[simp] theorem State.produce_gpio (r : EventRecord) (s : State) : (s.produce r).gpio = s.gpio := by
  unfold State.produce; split <;> rfl
@[simp] theorem State.produce_deferred (r : EventRecord) (s : State) : (s.produce r).deferred = s.deferred := by
  unfold State.produce; split <;> rfl
@[simp] theorem State.produce_fresh (r : EventRecord) (s : State) : (s.produce r).fresh = s.fresh := by
  unfold State.produce; split <;> rfl
@[simp] theorem State.produce_chan (r : EventRecord) (j : Fin 8) (s : State) : (s.produce r).chan j = s.chan j := by
  simp [State.chan]
@[simp] theorem State.produce_port (r : EventRecord) (j : PortNo) (s : State) : (s.produce r).port j = s.port j := by
  simp [State.port]
@[simp] theorem State.produce_core (r : EventRecord) (j : Fin 2) (s : State) : (s.produce r).core j = s.core j := by
  simp [State.core]

@[simp] theorem State.queueLossRecord_pending (s : State) : (s.queueLossRecord ).pending = s.pending := by
  unfold State.queueLossRecord; split
  · simp
  · rfl
@[simp] theorem State.queueLossRecord_clock (s : State) : (s.queueLossRecord ).clock = s.clock := by
  unfold State.queueLossRecord; split
  · simp
  · rfl
@[simp] theorem State.queueLossRecord_host (s : State) : (s.queueLossRecord ).host = s.host := by
  unfold State.queueLossRecord; split
  · simp
  · rfl
@[simp] theorem State.queueLossRecord_rtc (s : State) : (s.queueLossRecord ).rtc = s.rtc := by
  unfold State.queueLossRecord; split
  · simp
  · rfl
@[simp] theorem State.queueLossRecord_flash (s : State) : (s.queueLossRecord ).flash = s.flash := by
  unfold State.queueLossRecord; split
  · simp
  · rfl
@[simp] theorem State.queueLossRecord_fabric (s : State) : (s.queueLossRecord ).fabric = s.fabric := by
  unfold State.queueLossRecord; split
  · simp
  · rfl
@[simp] theorem State.queueLossRecord_ports (s : State) : (s.queueLossRecord ).ports = s.ports := by
  unfold State.queueLossRecord; split
  · simp
  · rfl
@[simp] theorem State.queueLossRecord_map (s : State) : (s.queueLossRecord ).map = s.map := by
  unfold State.queueLossRecord; split
  · simp
  · rfl
@[simp] theorem State.queueLossRecord_prot (s : State) : (s.queueLossRecord ).prot = s.prot := by
  unfold State.queueLossRecord; split
  · simp
  · rfl
@[simp] theorem State.queueLossRecord_dpll (s : State) : (s.queueLossRecord ).dpll = s.dpll := by
  unfold State.queueLossRecord; split
  · simp
  · rfl
@[simp] theorem State.queueLossRecord_casc (s : State) : (s.queueLossRecord ).casc = s.casc := by
  unfold State.queueLossRecord; split
  · simp
  · rfl
@[simp] theorem State.queueLossRecord_mgmt (s : State) : (s.queueLossRecord ).mgmt = s.mgmt := by
  unfold State.queueLossRecord; split
  · simp
  · rfl
@[simp] theorem State.queueLossRecord_sec (s : State) : (s.queueLossRecord ).sec = s.sec := by
  unfold State.queueLossRecord; split
  · simp
  · rfl
@[simp] theorem State.queueLossRecord_ember (s : State) : (s.queueLossRecord ).ember = s.ember := by
  unfold State.queueLossRecord; split
  · simp
  · rfl
@[simp] theorem State.queueLossRecord_cap (s : State) : (s.queueLossRecord ).cap = s.cap := by
  unfold State.queueLossRecord; split
  · simp
  · rfl
@[simp] theorem State.queueLossRecord_pwr (s : State) : (s.queueLossRecord ).pwr = s.pwr := by
  unfold State.queueLossRecord; split
  · simp
  · rfl
@[simp] theorem State.queueLossRecord_rst (s : State) : (s.queueLossRecord ).rst = s.rst := by
  unfold State.queueLossRecord; split
  · simp
  · rfl
@[simp] theorem State.queueLossRecord_bist (s : State) : (s.queueLossRecord ).bist = s.bist := by
  unfold State.queueLossRecord; split
  · simp
  · rfl
@[simp] theorem State.queueLossRecord_perf (s : State) : (s.queueLossRecord ).perf = s.perf := by
  unfold State.queueLossRecord; split
  · simp
  · rfl
@[simp] theorem State.queueLossRecord_gpio (s : State) : (s.queueLossRecord ).gpio = s.gpio := by
  unfold State.queueLossRecord; split
  · simp
  · rfl
@[simp] theorem State.queueLossRecord_deferred (s : State) : (s.queueLossRecord ).deferred = s.deferred := by
  unfold State.queueLossRecord; split
  · simp
  · rfl
@[simp] theorem State.queueLossRecord_fresh (s : State) : (s.queueLossRecord ).fresh = s.fresh := by
  unfold State.queueLossRecord; split
  · simp
  · rfl
@[simp] theorem State.queueLossRecord_chan  (j : Fin 8) (s : State) : (s.queueLossRecord ).chan j = s.chan j := by
  simp [State.chan]
@[simp] theorem State.queueLossRecord_port  (j : PortNo) (s : State) : (s.queueLossRecord ).port j = s.port j := by
  simp [State.port]
@[simp] theorem State.queueLossRecord_core  (j : Fin 2) (s : State) : (s.queueLossRecord ).core j = s.core j := by
  simp [State.core]

@[simp] theorem State.raiseSev_pending (src item : Nat) (a : Action) (sev p0 p1 p2 : Nat) (s : State) : (s.raiseSev src item a sev p0 p1 p2).pending = s.pending := by
  simp [State.raiseSev]
@[simp] theorem State.raiseSev_clock (src item : Nat) (a : Action) (sev p0 p1 p2 : Nat) (s : State) : (s.raiseSev src item a sev p0 p1 p2).clock = s.clock := by
  simp [State.raiseSev]
@[simp] theorem State.raiseSev_host (src item : Nat) (a : Action) (sev p0 p1 p2 : Nat) (s : State) : (s.raiseSev src item a sev p0 p1 p2).host = s.host := by
  simp [State.raiseSev]
@[simp] theorem State.raiseSev_rtc (src item : Nat) (a : Action) (sev p0 p1 p2 : Nat) (s : State) : (s.raiseSev src item a sev p0 p1 p2).rtc = s.rtc := by
  simp [State.raiseSev]
@[simp] theorem State.raiseSev_flash (src item : Nat) (a : Action) (sev p0 p1 p2 : Nat) (s : State) : (s.raiseSev src item a sev p0 p1 p2).flash = s.flash := by
  simp [State.raiseSev]
@[simp] theorem State.raiseSev_fabric (src item : Nat) (a : Action) (sev p0 p1 p2 : Nat) (s : State) : (s.raiseSev src item a sev p0 p1 p2).fabric = s.fabric := by
  simp [State.raiseSev]
@[simp] theorem State.raiseSev_ports (src item : Nat) (a : Action) (sev p0 p1 p2 : Nat) (s : State) : (s.raiseSev src item a sev p0 p1 p2).ports = s.ports := by
  simp [State.raiseSev]
@[simp] theorem State.raiseSev_map (src item : Nat) (a : Action) (sev p0 p1 p2 : Nat) (s : State) : (s.raiseSev src item a sev p0 p1 p2).map = s.map := by
  simp [State.raiseSev]
@[simp] theorem State.raiseSev_prot (src item : Nat) (a : Action) (sev p0 p1 p2 : Nat) (s : State) : (s.raiseSev src item a sev p0 p1 p2).prot = s.prot := by
  simp [State.raiseSev]
@[simp] theorem State.raiseSev_dpll (src item : Nat) (a : Action) (sev p0 p1 p2 : Nat) (s : State) : (s.raiseSev src item a sev p0 p1 p2).dpll = s.dpll := by
  simp [State.raiseSev]
@[simp] theorem State.raiseSev_casc (src item : Nat) (a : Action) (sev p0 p1 p2 : Nat) (s : State) : (s.raiseSev src item a sev p0 p1 p2).casc = s.casc := by
  simp [State.raiseSev]
@[simp] theorem State.raiseSev_mgmt (src item : Nat) (a : Action) (sev p0 p1 p2 : Nat) (s : State) : (s.raiseSev src item a sev p0 p1 p2).mgmt = s.mgmt := by
  simp [State.raiseSev]
@[simp] theorem State.raiseSev_sec (src item : Nat) (a : Action) (sev p0 p1 p2 : Nat) (s : State) : (s.raiseSev src item a sev p0 p1 p2).sec = s.sec := by
  simp [State.raiseSev]
@[simp] theorem State.raiseSev_ember (src item : Nat) (a : Action) (sev p0 p1 p2 : Nat) (s : State) : (s.raiseSev src item a sev p0 p1 p2).ember = s.ember := by
  simp [State.raiseSev]
@[simp] theorem State.raiseSev_cap (src item : Nat) (a : Action) (sev p0 p1 p2 : Nat) (s : State) : (s.raiseSev src item a sev p0 p1 p2).cap = s.cap := by
  simp [State.raiseSev]
@[simp] theorem State.raiseSev_pwr (src item : Nat) (a : Action) (sev p0 p1 p2 : Nat) (s : State) : (s.raiseSev src item a sev p0 p1 p2).pwr = s.pwr := by
  simp [State.raiseSev]
@[simp] theorem State.raiseSev_rst (src item : Nat) (a : Action) (sev p0 p1 p2 : Nat) (s : State) : (s.raiseSev src item a sev p0 p1 p2).rst = s.rst := by
  simp [State.raiseSev]
@[simp] theorem State.raiseSev_bist (src item : Nat) (a : Action) (sev p0 p1 p2 : Nat) (s : State) : (s.raiseSev src item a sev p0 p1 p2).bist = s.bist := by
  simp [State.raiseSev]
@[simp] theorem State.raiseSev_perf (src item : Nat) (a : Action) (sev p0 p1 p2 : Nat) (s : State) : (s.raiseSev src item a sev p0 p1 p2).perf = s.perf := by
  simp [State.raiseSev]
@[simp] theorem State.raiseSev_gpio (src item : Nat) (a : Action) (sev p0 p1 p2 : Nat) (s : State) : (s.raiseSev src item a sev p0 p1 p2).gpio = s.gpio := by
  simp [State.raiseSev]
@[simp] theorem State.raiseSev_deferred (src item : Nat) (a : Action) (sev p0 p1 p2 : Nat) (s : State) : (s.raiseSev src item a sev p0 p1 p2).deferred = s.deferred := by
  simp [State.raiseSev]
@[simp] theorem State.raiseSev_fresh (src item : Nat) (a : Action) (sev p0 p1 p2 : Nat) (s : State) : (s.raiseSev src item a sev p0 p1 p2).fresh = s.fresh := by
  simp [State.raiseSev]
@[simp] theorem State.raiseSev_chan (src item : Nat) (a : Action) (sev p0 p1 p2 : Nat) (j : Fin 8) (s : State) : (s.raiseSev src item a sev p0 p1 p2).chan j = s.chan j := by
  simp [State.chan]
@[simp] theorem State.raiseSev_port (src item : Nat) (a : Action) (sev p0 p1 p2 : Nat) (j : PortNo) (s : State) : (s.raiseSev src item a sev p0 p1 p2).port j = s.port j := by
  simp [State.port]
@[simp] theorem State.raiseSev_core (src item : Nat) (a : Action) (sev p0 p1 p2 : Nat) (j : Fin 2) (s : State) : (s.raiseSev src item a sev p0 p1 p2).core j = s.core j := by
  simp [State.core]

@[simp] theorem State.raise_pending (src item : Nat) (a : Action) (p0 p1 p2 : Nat) (s : State) : (s.raise src item a p0 p1 p2).pending = s.pending := by
  simp [State.raise]
@[simp] theorem State.raise_clock (src item : Nat) (a : Action) (p0 p1 p2 : Nat) (s : State) : (s.raise src item a p0 p1 p2).clock = s.clock := by
  simp [State.raise]
@[simp] theorem State.raise_host (src item : Nat) (a : Action) (p0 p1 p2 : Nat) (s : State) : (s.raise src item a p0 p1 p2).host = s.host := by
  simp [State.raise]
@[simp] theorem State.raise_rtc (src item : Nat) (a : Action) (p0 p1 p2 : Nat) (s : State) : (s.raise src item a p0 p1 p2).rtc = s.rtc := by
  simp [State.raise]
@[simp] theorem State.raise_flash (src item : Nat) (a : Action) (p0 p1 p2 : Nat) (s : State) : (s.raise src item a p0 p1 p2).flash = s.flash := by
  simp [State.raise]
@[simp] theorem State.raise_fabric (src item : Nat) (a : Action) (p0 p1 p2 : Nat) (s : State) : (s.raise src item a p0 p1 p2).fabric = s.fabric := by
  simp [State.raise]
@[simp] theorem State.raise_ports (src item : Nat) (a : Action) (p0 p1 p2 : Nat) (s : State) : (s.raise src item a p0 p1 p2).ports = s.ports := by
  simp [State.raise]
@[simp] theorem State.raise_map (src item : Nat) (a : Action) (p0 p1 p2 : Nat) (s : State) : (s.raise src item a p0 p1 p2).map = s.map := by
  simp [State.raise]
@[simp] theorem State.raise_prot (src item : Nat) (a : Action) (p0 p1 p2 : Nat) (s : State) : (s.raise src item a p0 p1 p2).prot = s.prot := by
  simp [State.raise]
@[simp] theorem State.raise_dpll (src item : Nat) (a : Action) (p0 p1 p2 : Nat) (s : State) : (s.raise src item a p0 p1 p2).dpll = s.dpll := by
  simp [State.raise]
@[simp] theorem State.raise_casc (src item : Nat) (a : Action) (p0 p1 p2 : Nat) (s : State) : (s.raise src item a p0 p1 p2).casc = s.casc := by
  simp [State.raise]
@[simp] theorem State.raise_mgmt (src item : Nat) (a : Action) (p0 p1 p2 : Nat) (s : State) : (s.raise src item a p0 p1 p2).mgmt = s.mgmt := by
  simp [State.raise]
@[simp] theorem State.raise_sec (src item : Nat) (a : Action) (p0 p1 p2 : Nat) (s : State) : (s.raise src item a p0 p1 p2).sec = s.sec := by
  simp [State.raise]
@[simp] theorem State.raise_ember (src item : Nat) (a : Action) (p0 p1 p2 : Nat) (s : State) : (s.raise src item a p0 p1 p2).ember = s.ember := by
  simp [State.raise]
@[simp] theorem State.raise_cap (src item : Nat) (a : Action) (p0 p1 p2 : Nat) (s : State) : (s.raise src item a p0 p1 p2).cap = s.cap := by
  simp [State.raise]
@[simp] theorem State.raise_pwr (src item : Nat) (a : Action) (p0 p1 p2 : Nat) (s : State) : (s.raise src item a p0 p1 p2).pwr = s.pwr := by
  simp [State.raise]
@[simp] theorem State.raise_rst (src item : Nat) (a : Action) (p0 p1 p2 : Nat) (s : State) : (s.raise src item a p0 p1 p2).rst = s.rst := by
  simp [State.raise]
@[simp] theorem State.raise_bist (src item : Nat) (a : Action) (p0 p1 p2 : Nat) (s : State) : (s.raise src item a p0 p1 p2).bist = s.bist := by
  simp [State.raise]
@[simp] theorem State.raise_perf (src item : Nat) (a : Action) (p0 p1 p2 : Nat) (s : State) : (s.raise src item a p0 p1 p2).perf = s.perf := by
  simp [State.raise]
@[simp] theorem State.raise_gpio (src item : Nat) (a : Action) (p0 p1 p2 : Nat) (s : State) : (s.raise src item a p0 p1 p2).gpio = s.gpio := by
  simp [State.raise]
@[simp] theorem State.raise_deferred (src item : Nat) (a : Action) (p0 p1 p2 : Nat) (s : State) : (s.raise src item a p0 p1 p2).deferred = s.deferred := by
  simp [State.raise]
@[simp] theorem State.raise_fresh (src item : Nat) (a : Action) (p0 p1 p2 : Nat) (s : State) : (s.raise src item a p0 p1 p2).fresh = s.fresh := by
  simp [State.raise]
@[simp] theorem State.raise_chan (src item : Nat) (a : Action) (p0 p1 p2 : Nat) (j : Fin 8) (s : State) : (s.raise src item a p0 p1 p2).chan j = s.chan j := by
  simp [State.chan]
@[simp] theorem State.raise_port (src item : Nat) (a : Action) (p0 p1 p2 : Nat) (j : PortNo) (s : State) : (s.raise src item a p0 p1 p2).port j = s.port j := by
  simp [State.port]
@[simp] theorem State.raise_core (src item : Nat) (a : Action) (p0 p1 p2 : Nat) (j : Fin 2) (s : State) : (s.raise src item a p0 p1 p2).core j = s.core j := by
  simp [State.core]

@[simp] theorem State.raisePair_pending (port item : Nat) (a : Action) (p0 p1 p2 : Nat) (s : State) : (s.raisePair port item a p0 p1 p2).pending = s.pending := by
  simp [State.raisePair]
@[simp] theorem State.raisePair_clock (port item : Nat) (a : Action) (p0 p1 p2 : Nat) (s : State) : (s.raisePair port item a p0 p1 p2).clock = s.clock := by
  simp [State.raisePair]
@[simp] theorem State.raisePair_host (port item : Nat) (a : Action) (p0 p1 p2 : Nat) (s : State) : (s.raisePair port item a p0 p1 p2).host = s.host := by
  simp [State.raisePair]
@[simp] theorem State.raisePair_rtc (port item : Nat) (a : Action) (p0 p1 p2 : Nat) (s : State) : (s.raisePair port item a p0 p1 p2).rtc = s.rtc := by
  simp [State.raisePair]
@[simp] theorem State.raisePair_flash (port item : Nat) (a : Action) (p0 p1 p2 : Nat) (s : State) : (s.raisePair port item a p0 p1 p2).flash = s.flash := by
  simp [State.raisePair]
@[simp] theorem State.raisePair_fabric (port item : Nat) (a : Action) (p0 p1 p2 : Nat) (s : State) : (s.raisePair port item a p0 p1 p2).fabric = s.fabric := by
  simp [State.raisePair]
@[simp] theorem State.raisePair_ports (port item : Nat) (a : Action) (p0 p1 p2 : Nat) (s : State) : (s.raisePair port item a p0 p1 p2).ports = s.ports := by
  simp [State.raisePair]
@[simp] theorem State.raisePair_map (port item : Nat) (a : Action) (p0 p1 p2 : Nat) (s : State) : (s.raisePair port item a p0 p1 p2).map = s.map := by
  simp [State.raisePair]
@[simp] theorem State.raisePair_prot (port item : Nat) (a : Action) (p0 p1 p2 : Nat) (s : State) : (s.raisePair port item a p0 p1 p2).prot = s.prot := by
  simp [State.raisePair]
@[simp] theorem State.raisePair_dpll (port item : Nat) (a : Action) (p0 p1 p2 : Nat) (s : State) : (s.raisePair port item a p0 p1 p2).dpll = s.dpll := by
  simp [State.raisePair]
@[simp] theorem State.raisePair_casc (port item : Nat) (a : Action) (p0 p1 p2 : Nat) (s : State) : (s.raisePair port item a p0 p1 p2).casc = s.casc := by
  simp [State.raisePair]
@[simp] theorem State.raisePair_mgmt (port item : Nat) (a : Action) (p0 p1 p2 : Nat) (s : State) : (s.raisePair port item a p0 p1 p2).mgmt = s.mgmt := by
  simp [State.raisePair]
@[simp] theorem State.raisePair_sec (port item : Nat) (a : Action) (p0 p1 p2 : Nat) (s : State) : (s.raisePair port item a p0 p1 p2).sec = s.sec := by
  simp [State.raisePair]
@[simp] theorem State.raisePair_ember (port item : Nat) (a : Action) (p0 p1 p2 : Nat) (s : State) : (s.raisePair port item a p0 p1 p2).ember = s.ember := by
  simp [State.raisePair]
@[simp] theorem State.raisePair_cap (port item : Nat) (a : Action) (p0 p1 p2 : Nat) (s : State) : (s.raisePair port item a p0 p1 p2).cap = s.cap := by
  simp [State.raisePair]
@[simp] theorem State.raisePair_pwr (port item : Nat) (a : Action) (p0 p1 p2 : Nat) (s : State) : (s.raisePair port item a p0 p1 p2).pwr = s.pwr := by
  simp [State.raisePair]
@[simp] theorem State.raisePair_rst (port item : Nat) (a : Action) (p0 p1 p2 : Nat) (s : State) : (s.raisePair port item a p0 p1 p2).rst = s.rst := by
  simp [State.raisePair]
@[simp] theorem State.raisePair_bist (port item : Nat) (a : Action) (p0 p1 p2 : Nat) (s : State) : (s.raisePair port item a p0 p1 p2).bist = s.bist := by
  simp [State.raisePair]
@[simp] theorem State.raisePair_perf (port item : Nat) (a : Action) (p0 p1 p2 : Nat) (s : State) : (s.raisePair port item a p0 p1 p2).perf = s.perf := by
  simp [State.raisePair]
@[simp] theorem State.raisePair_gpio (port item : Nat) (a : Action) (p0 p1 p2 : Nat) (s : State) : (s.raisePair port item a p0 p1 p2).gpio = s.gpio := by
  simp [State.raisePair]
@[simp] theorem State.raisePair_deferred (port item : Nat) (a : Action) (p0 p1 p2 : Nat) (s : State) : (s.raisePair port item a p0 p1 p2).deferred = s.deferred := by
  simp [State.raisePair]
@[simp] theorem State.raisePair_fresh (port item : Nat) (a : Action) (p0 p1 p2 : Nat) (s : State) : (s.raisePair port item a p0 p1 p2).fresh = s.fresh := by
  simp [State.raisePair]
@[simp] theorem State.raisePair_chan (port item : Nat) (a : Action) (p0 p1 p2 : Nat) (j : Fin 8) (s : State) : (s.raisePair port item a p0 p1 p2).chan j = s.chan j := by
  simp [State.chan]
@[simp] theorem State.raisePair_port (port item : Nat) (a : Action) (p0 p1 p2 : Nat) (j : PortNo) (s : State) : (s.raisePair port item a p0 p1 p2).port j = s.port j := by
  simp [State.port]
@[simp] theorem State.raisePair_core (port item : Nat) (a : Action) (p0 p1 p2 : Nat) (j : Fin 2) (s : State) : (s.raisePair port item a p0 p1 p2).core j = s.core j := by
  simp [State.core]

@[simp] theorem State.raiseIf_pending (c : Bool) (src item : Nat) (a : Action) (p0 p1 p2 : Nat) (s : State) : (s.raiseIf c src item a p0 p1 p2).pending = s.pending := by
  unfold State.raiseIf; split <;> simp
@[simp] theorem State.raiseIf_clock (c : Bool) (src item : Nat) (a : Action) (p0 p1 p2 : Nat) (s : State) : (s.raiseIf c src item a p0 p1 p2).clock = s.clock := by
  unfold State.raiseIf; split <;> simp
@[simp] theorem State.raiseIf_host (c : Bool) (src item : Nat) (a : Action) (p0 p1 p2 : Nat) (s : State) : (s.raiseIf c src item a p0 p1 p2).host = s.host := by
  unfold State.raiseIf; split <;> simp
@[simp] theorem State.raiseIf_rtc (c : Bool) (src item : Nat) (a : Action) (p0 p1 p2 : Nat) (s : State) : (s.raiseIf c src item a p0 p1 p2).rtc = s.rtc := by
  unfold State.raiseIf; split <;> simp
@[simp] theorem State.raiseIf_flash (c : Bool) (src item : Nat) (a : Action) (p0 p1 p2 : Nat) (s : State) : (s.raiseIf c src item a p0 p1 p2).flash = s.flash := by
  unfold State.raiseIf; split <;> simp
@[simp] theorem State.raiseIf_fabric (c : Bool) (src item : Nat) (a : Action) (p0 p1 p2 : Nat) (s : State) : (s.raiseIf c src item a p0 p1 p2).fabric = s.fabric := by
  unfold State.raiseIf; split <;> simp
@[simp] theorem State.raiseIf_ports (c : Bool) (src item : Nat) (a : Action) (p0 p1 p2 : Nat) (s : State) : (s.raiseIf c src item a p0 p1 p2).ports = s.ports := by
  unfold State.raiseIf; split <;> simp
@[simp] theorem State.raiseIf_map (c : Bool) (src item : Nat) (a : Action) (p0 p1 p2 : Nat) (s : State) : (s.raiseIf c src item a p0 p1 p2).map = s.map := by
  unfold State.raiseIf; split <;> simp
@[simp] theorem State.raiseIf_prot (c : Bool) (src item : Nat) (a : Action) (p0 p1 p2 : Nat) (s : State) : (s.raiseIf c src item a p0 p1 p2).prot = s.prot := by
  unfold State.raiseIf; split <;> simp
@[simp] theorem State.raiseIf_dpll (c : Bool) (src item : Nat) (a : Action) (p0 p1 p2 : Nat) (s : State) : (s.raiseIf c src item a p0 p1 p2).dpll = s.dpll := by
  unfold State.raiseIf; split <;> simp
@[simp] theorem State.raiseIf_casc (c : Bool) (src item : Nat) (a : Action) (p0 p1 p2 : Nat) (s : State) : (s.raiseIf c src item a p0 p1 p2).casc = s.casc := by
  unfold State.raiseIf; split <;> simp
@[simp] theorem State.raiseIf_mgmt (c : Bool) (src item : Nat) (a : Action) (p0 p1 p2 : Nat) (s : State) : (s.raiseIf c src item a p0 p1 p2).mgmt = s.mgmt := by
  unfold State.raiseIf; split <;> simp
@[simp] theorem State.raiseIf_sec (c : Bool) (src item : Nat) (a : Action) (p0 p1 p2 : Nat) (s : State) : (s.raiseIf c src item a p0 p1 p2).sec = s.sec := by
  unfold State.raiseIf; split <;> simp
@[simp] theorem State.raiseIf_ember (c : Bool) (src item : Nat) (a : Action) (p0 p1 p2 : Nat) (s : State) : (s.raiseIf c src item a p0 p1 p2).ember = s.ember := by
  unfold State.raiseIf; split <;> simp
@[simp] theorem State.raiseIf_cap (c : Bool) (src item : Nat) (a : Action) (p0 p1 p2 : Nat) (s : State) : (s.raiseIf c src item a p0 p1 p2).cap = s.cap := by
  unfold State.raiseIf; split <;> simp
@[simp] theorem State.raiseIf_pwr (c : Bool) (src item : Nat) (a : Action) (p0 p1 p2 : Nat) (s : State) : (s.raiseIf c src item a p0 p1 p2).pwr = s.pwr := by
  unfold State.raiseIf; split <;> simp
@[simp] theorem State.raiseIf_rst (c : Bool) (src item : Nat) (a : Action) (p0 p1 p2 : Nat) (s : State) : (s.raiseIf c src item a p0 p1 p2).rst = s.rst := by
  unfold State.raiseIf; split <;> simp
@[simp] theorem State.raiseIf_bist (c : Bool) (src item : Nat) (a : Action) (p0 p1 p2 : Nat) (s : State) : (s.raiseIf c src item a p0 p1 p2).bist = s.bist := by
  unfold State.raiseIf; split <;> simp
@[simp] theorem State.raiseIf_perf (c : Bool) (src item : Nat) (a : Action) (p0 p1 p2 : Nat) (s : State) : (s.raiseIf c src item a p0 p1 p2).perf = s.perf := by
  unfold State.raiseIf; split <;> simp
@[simp] theorem State.raiseIf_gpio (c : Bool) (src item : Nat) (a : Action) (p0 p1 p2 : Nat) (s : State) : (s.raiseIf c src item a p0 p1 p2).gpio = s.gpio := by
  unfold State.raiseIf; split <;> simp
@[simp] theorem State.raiseIf_deferred (c : Bool) (src item : Nat) (a : Action) (p0 p1 p2 : Nat) (s : State) : (s.raiseIf c src item a p0 p1 p2).deferred = s.deferred := by
  unfold State.raiseIf; split <;> simp
@[simp] theorem State.raiseIf_fresh (c : Bool) (src item : Nat) (a : Action) (p0 p1 p2 : Nat) (s : State) : (s.raiseIf c src item a p0 p1 p2).fresh = s.fresh := by
  unfold State.raiseIf; split <;> simp
@[simp] theorem State.raiseIf_chan (c : Bool) (src item : Nat) (a : Action) (p0 p1 p2 : Nat) (j : Fin 8) (s : State) : (s.raiseIf c src item a p0 p1 p2).chan j = s.chan j := by
  simp [State.chan]
@[simp] theorem State.raiseIf_port (c : Bool) (src item : Nat) (a : Action) (p0 p1 p2 : Nat) (j : PortNo) (s : State) : (s.raiseIf c src item a p0 p1 p2).port j = s.port j := by
  simp [State.port]
@[simp] theorem State.raiseIf_core (c : Bool) (src item : Nat) (a : Action) (p0 p1 p2 : Nat) (j : Fin 2) (s : State) : (s.raiseIf c src item a p0 p1 p2).core j = s.core j := by
  simp [State.core]

@[simp] theorem State.raiseFlag_pending (old new : Bool) (src item p0 : Nat) (s : State) : (s.raiseFlag old new src item p0).pending = s.pending := by
  unfold State.raiseFlag; split <;> simp
@[simp] theorem State.raiseFlag_clock (old new : Bool) (src item p0 : Nat) (s : State) : (s.raiseFlag old new src item p0).clock = s.clock := by
  unfold State.raiseFlag; split <;> simp
@[simp] theorem State.raiseFlag_host (old new : Bool) (src item p0 : Nat) (s : State) : (s.raiseFlag old new src item p0).host = s.host := by
  unfold State.raiseFlag; split <;> simp
@[simp] theorem State.raiseFlag_rtc (old new : Bool) (src item p0 : Nat) (s : State) : (s.raiseFlag old new src item p0).rtc = s.rtc := by
  unfold State.raiseFlag; split <;> simp
@[simp] theorem State.raiseFlag_flash (old new : Bool) (src item p0 : Nat) (s : State) : (s.raiseFlag old new src item p0).flash = s.flash := by
  unfold State.raiseFlag; split <;> simp
@[simp] theorem State.raiseFlag_fabric (old new : Bool) (src item p0 : Nat) (s : State) : (s.raiseFlag old new src item p0).fabric = s.fabric := by
  unfold State.raiseFlag; split <;> simp
@[simp] theorem State.raiseFlag_ports (old new : Bool) (src item p0 : Nat) (s : State) : (s.raiseFlag old new src item p0).ports = s.ports := by
  unfold State.raiseFlag; split <;> simp
@[simp] theorem State.raiseFlag_map (old new : Bool) (src item p0 : Nat) (s : State) : (s.raiseFlag old new src item p0).map = s.map := by
  unfold State.raiseFlag; split <;> simp
@[simp] theorem State.raiseFlag_prot (old new : Bool) (src item p0 : Nat) (s : State) : (s.raiseFlag old new src item p0).prot = s.prot := by
  unfold State.raiseFlag; split <;> simp
@[simp] theorem State.raiseFlag_dpll (old new : Bool) (src item p0 : Nat) (s : State) : (s.raiseFlag old new src item p0).dpll = s.dpll := by
  unfold State.raiseFlag; split <;> simp
@[simp] theorem State.raiseFlag_casc (old new : Bool) (src item p0 : Nat) (s : State) : (s.raiseFlag old new src item p0).casc = s.casc := by
  unfold State.raiseFlag; split <;> simp
@[simp] theorem State.raiseFlag_mgmt (old new : Bool) (src item p0 : Nat) (s : State) : (s.raiseFlag old new src item p0).mgmt = s.mgmt := by
  unfold State.raiseFlag; split <;> simp
@[simp] theorem State.raiseFlag_sec (old new : Bool) (src item p0 : Nat) (s : State) : (s.raiseFlag old new src item p0).sec = s.sec := by
  unfold State.raiseFlag; split <;> simp
@[simp] theorem State.raiseFlag_ember (old new : Bool) (src item p0 : Nat) (s : State) : (s.raiseFlag old new src item p0).ember = s.ember := by
  unfold State.raiseFlag; split <;> simp
@[simp] theorem State.raiseFlag_cap (old new : Bool) (src item p0 : Nat) (s : State) : (s.raiseFlag old new src item p0).cap = s.cap := by
  unfold State.raiseFlag; split <;> simp
@[simp] theorem State.raiseFlag_pwr (old new : Bool) (src item p0 : Nat) (s : State) : (s.raiseFlag old new src item p0).pwr = s.pwr := by
  unfold State.raiseFlag; split <;> simp
@[simp] theorem State.raiseFlag_rst (old new : Bool) (src item p0 : Nat) (s : State) : (s.raiseFlag old new src item p0).rst = s.rst := by
  unfold State.raiseFlag; split <;> simp
@[simp] theorem State.raiseFlag_bist (old new : Bool) (src item p0 : Nat) (s : State) : (s.raiseFlag old new src item p0).bist = s.bist := by
  unfold State.raiseFlag; split <;> simp
@[simp] theorem State.raiseFlag_perf (old new : Bool) (src item p0 : Nat) (s : State) : (s.raiseFlag old new src item p0).perf = s.perf := by
  unfold State.raiseFlag; split <;> simp
@[simp] theorem State.raiseFlag_gpio (old new : Bool) (src item p0 : Nat) (s : State) : (s.raiseFlag old new src item p0).gpio = s.gpio := by
  unfold State.raiseFlag; split <;> simp
@[simp] theorem State.raiseFlag_deferred (old new : Bool) (src item p0 : Nat) (s : State) : (s.raiseFlag old new src item p0).deferred = s.deferred := by
  unfold State.raiseFlag; split <;> simp
@[simp] theorem State.raiseFlag_fresh (old new : Bool) (src item p0 : Nat) (s : State) : (s.raiseFlag old new src item p0).fresh = s.fresh := by
  unfold State.raiseFlag; split <;> simp
@[simp] theorem State.raiseFlag_chan (old new : Bool) (src item p0 : Nat) (j : Fin 8) (s : State) : (s.raiseFlag old new src item p0).chan j = s.chan j := by
  simp [State.chan]
@[simp] theorem State.raiseFlag_port (old new : Bool) (src item p0 : Nat) (j : PortNo) (s : State) : (s.raiseFlag old new src item p0).port j = s.port j := by
  simp [State.port]
@[simp] theorem State.raiseFlag_core (old new : Bool) (src item p0 : Nat) (j : Fin 2) (s : State) : (s.raiseFlag old new src item p0).core j = s.core j := by
  simp [State.core]

@[simp] theorem State.raiseState_pending (old new : Nat) (src item p0 : Nat) (s : State) : (s.raiseState old new src item p0).pending = s.pending := by
  unfold State.raiseState; split <;> simp
@[simp] theorem State.raiseState_clock (old new : Nat) (src item p0 : Nat) (s : State) : (s.raiseState old new src item p0).clock = s.clock := by
  unfold State.raiseState; split <;> simp
@[simp] theorem State.raiseState_host (old new : Nat) (src item p0 : Nat) (s : State) : (s.raiseState old new src item p0).host = s.host := by
  unfold State.raiseState; split <;> simp
@[simp] theorem State.raiseState_rtc (old new : Nat) (src item p0 : Nat) (s : State) : (s.raiseState old new src item p0).rtc = s.rtc := by
  unfold State.raiseState; split <;> simp
@[simp] theorem State.raiseState_flash (old new : Nat) (src item p0 : Nat) (s : State) : (s.raiseState old new src item p0).flash = s.flash := by
  unfold State.raiseState; split <;> simp
@[simp] theorem State.raiseState_fabric (old new : Nat) (src item p0 : Nat) (s : State) : (s.raiseState old new src item p0).fabric = s.fabric := by
  unfold State.raiseState; split <;> simp
@[simp] theorem State.raiseState_ports (old new : Nat) (src item p0 : Nat) (s : State) : (s.raiseState old new src item p0).ports = s.ports := by
  unfold State.raiseState; split <;> simp
@[simp] theorem State.raiseState_map (old new : Nat) (src item p0 : Nat) (s : State) : (s.raiseState old new src item p0).map = s.map := by
  unfold State.raiseState; split <;> simp
@[simp] theorem State.raiseState_prot (old new : Nat) (src item p0 : Nat) (s : State) : (s.raiseState old new src item p0).prot = s.prot := by
  unfold State.raiseState; split <;> simp
@[simp] theorem State.raiseState_dpll (old new : Nat) (src item p0 : Nat) (s : State) : (s.raiseState old new src item p0).dpll = s.dpll := by
  unfold State.raiseState; split <;> simp
@[simp] theorem State.raiseState_casc (old new : Nat) (src item p0 : Nat) (s : State) : (s.raiseState old new src item p0).casc = s.casc := by
  unfold State.raiseState; split <;> simp
@[simp] theorem State.raiseState_mgmt (old new : Nat) (src item p0 : Nat) (s : State) : (s.raiseState old new src item p0).mgmt = s.mgmt := by
  unfold State.raiseState; split <;> simp
@[simp] theorem State.raiseState_sec (old new : Nat) (src item p0 : Nat) (s : State) : (s.raiseState old new src item p0).sec = s.sec := by
  unfold State.raiseState; split <;> simp
@[simp] theorem State.raiseState_ember (old new : Nat) (src item p0 : Nat) (s : State) : (s.raiseState old new src item p0).ember = s.ember := by
  unfold State.raiseState; split <;> simp
@[simp] theorem State.raiseState_cap (old new : Nat) (src item p0 : Nat) (s : State) : (s.raiseState old new src item p0).cap = s.cap := by
  unfold State.raiseState; split <;> simp
@[simp] theorem State.raiseState_pwr (old new : Nat) (src item p0 : Nat) (s : State) : (s.raiseState old new src item p0).pwr = s.pwr := by
  unfold State.raiseState; split <;> simp
@[simp] theorem State.raiseState_rst (old new : Nat) (src item p0 : Nat) (s : State) : (s.raiseState old new src item p0).rst = s.rst := by
  unfold State.raiseState; split <;> simp
@[simp] theorem State.raiseState_bist (old new : Nat) (src item p0 : Nat) (s : State) : (s.raiseState old new src item p0).bist = s.bist := by
  unfold State.raiseState; split <;> simp
@[simp] theorem State.raiseState_perf (old new : Nat) (src item p0 : Nat) (s : State) : (s.raiseState old new src item p0).perf = s.perf := by
  unfold State.raiseState; split <;> simp
@[simp] theorem State.raiseState_gpio (old new : Nat) (src item p0 : Nat) (s : State) : (s.raiseState old new src item p0).gpio = s.gpio := by
  unfold State.raiseState; split <;> simp
@[simp] theorem State.raiseState_deferred (old new : Nat) (src item p0 : Nat) (s : State) : (s.raiseState old new src item p0).deferred = s.deferred := by
  unfold State.raiseState; split <;> simp
@[simp] theorem State.raiseState_fresh (old new : Nat) (src item p0 : Nat) (s : State) : (s.raiseState old new src item p0).fresh = s.fresh := by
  unfold State.raiseState; split <;> simp
@[simp] theorem State.raiseState_chan (old new : Nat) (src item p0 : Nat) (j : Fin 8) (s : State) : (s.raiseState old new src item p0).chan j = s.chan j := by
  simp [State.chan]
@[simp] theorem State.raiseState_port (old new : Nat) (src item p0 : Nat) (j : PortNo) (s : State) : (s.raiseState old new src item p0).port j = s.port j := by
  simp [State.port]
@[simp] theorem State.raiseState_core (old new : Nat) (src item p0 : Nat) (j : Fin 2) (s : State) : (s.raiseState old new src item p0).core j = s.core j := by
  simp [State.core]

@[simp] theorem State.signalResponse_pending (c : Fin 8) (b : Bool) (s : State) : (s.signalResponse c b).pending = s.pending := by
  unfold State.signalResponse; simp only; split <;> rfl
@[simp] theorem State.signalResponse_clock (c : Fin 8) (b : Bool) (s : State) : (s.signalResponse c b).clock = s.clock := by
  unfold State.signalResponse; simp only; split <;> rfl
@[simp] theorem State.signalResponse_host (c : Fin 8) (b : Bool) (s : State) : (s.signalResponse c b).host = s.host := by
  unfold State.signalResponse; simp only; split <;> rfl
@[simp] theorem State.signalResponse_rtc (c : Fin 8) (b : Bool) (s : State) : (s.signalResponse c b).rtc = s.rtc := by
  unfold State.signalResponse; simp only; split <;> rfl
@[simp] theorem State.signalResponse_flash (c : Fin 8) (b : Bool) (s : State) : (s.signalResponse c b).flash = s.flash := by
  unfold State.signalResponse; simp only; split <;> rfl
@[simp] theorem State.signalResponse_fabric (c : Fin 8) (b : Bool) (s : State) : (s.signalResponse c b).fabric = s.fabric := by
  unfold State.signalResponse; simp only; split <;> rfl
@[simp] theorem State.signalResponse_ports (c : Fin 8) (b : Bool) (s : State) : (s.signalResponse c b).ports = s.ports := by
  unfold State.signalResponse; simp only; split <;> rfl
@[simp] theorem State.signalResponse_map (c : Fin 8) (b : Bool) (s : State) : (s.signalResponse c b).map = s.map := by
  unfold State.signalResponse; simp only; split <;> rfl
@[simp] theorem State.signalResponse_prot (c : Fin 8) (b : Bool) (s : State) : (s.signalResponse c b).prot = s.prot := by
  unfold State.signalResponse; simp only; split <;> rfl
@[simp] theorem State.signalResponse_dpll (c : Fin 8) (b : Bool) (s : State) : (s.signalResponse c b).dpll = s.dpll := by
  unfold State.signalResponse; simp only; split <;> rfl
@[simp] theorem State.signalResponse_casc (c : Fin 8) (b : Bool) (s : State) : (s.signalResponse c b).casc = s.casc := by
  unfold State.signalResponse; simp only; split <;> rfl
@[simp] theorem State.signalResponse_mgmt (c : Fin 8) (b : Bool) (s : State) : (s.signalResponse c b).mgmt = s.mgmt := by
  unfold State.signalResponse; simp only; split <;> rfl
@[simp] theorem State.signalResponse_sec (c : Fin 8) (b : Bool) (s : State) : (s.signalResponse c b).sec = s.sec := by
  unfold State.signalResponse; simp only; split <;> rfl
@[simp] theorem State.signalResponse_ember (c : Fin 8) (b : Bool) (s : State) : (s.signalResponse c b).ember = s.ember := by
  unfold State.signalResponse; simp only; split <;> rfl
@[simp] theorem State.signalResponse_cap (c : Fin 8) (b : Bool) (s : State) : (s.signalResponse c b).cap = s.cap := by
  unfold State.signalResponse; simp only; split <;> rfl
@[simp] theorem State.signalResponse_pwr (c : Fin 8) (b : Bool) (s : State) : (s.signalResponse c b).pwr = s.pwr := by
  unfold State.signalResponse; simp only; split <;> rfl
@[simp] theorem State.signalResponse_rst (c : Fin 8) (b : Bool) (s : State) : (s.signalResponse c b).rst = s.rst := by
  unfold State.signalResponse; simp only; split <;> rfl
@[simp] theorem State.signalResponse_bist (c : Fin 8) (b : Bool) (s : State) : (s.signalResponse c b).bist = s.bist := by
  unfold State.signalResponse; simp only; split <;> rfl
@[simp] theorem State.signalResponse_perf (c : Fin 8) (b : Bool) (s : State) : (s.signalResponse c b).perf = s.perf := by
  unfold State.signalResponse; simp only; split <;> rfl
@[simp] theorem State.signalResponse_gpio (c : Fin 8) (b : Bool) (s : State) : (s.signalResponse c b).gpio = s.gpio := by
  unfold State.signalResponse; simp only; split <;> rfl
@[simp] theorem State.signalResponse_deferred (c : Fin 8) (b : Bool) (s : State) : (s.signalResponse c b).deferred = s.deferred := by
  unfold State.signalResponse; simp only; split <;> rfl
@[simp] theorem State.signalResponse_fresh (c : Fin 8) (b : Bool) (s : State) : (s.signalResponse c b).fresh = s.fresh := by
  unfold State.signalResponse; simp only; split <;> rfl
@[simp] theorem State.signalResponse_chan (c : Fin 8) (b : Bool) (j : Fin 8) (s : State) : (s.signalResponse c b).chan j = s.chan j := by
  simp [State.chan]
@[simp] theorem State.signalResponse_port (c : Fin 8) (b : Bool) (j : PortNo) (s : State) : (s.signalResponse c b).port j = s.port j := by
  simp [State.port]
@[simp] theorem State.signalResponse_core (c : Fin 8) (b : Bool) (j : Fin 2) (s : State) : (s.signalResponse c b).core j = s.core j := by
  simp [State.core]

end Sys2Proof.Machine
end

