-- ==== Sys2Proof/Laws/Memory.lean ====
section
/-! SUPPORT. The sparse memories: what a write leaves at every address, and that every operation keeps the canonical
form. -/
namespace Sys2Proof.Machine

/-- Every address of a canonical list lies above a bound. -/
def allAbove (n : Nat) (m : Cells) : Bool := m.all (fun c => n < c.1)

theorem cellsWf_cons (d v : Byte) (k : Nat) (m : Cells) :
    cellsWf d ((k, v) :: m) = true ↔ v ≠ d ∧ allAbove k m = true ∧ cellsWf d m = true := by
  simp [cellsWf, allAbove, and_assoc]

theorem allAbove_le {j k : Nat} {m : Cells} (h : j ≤ k) (a : allAbove k m = true) : allAbove j m = true := by
  simp only [allAbove, List.all_eq_true, decide_eq_true_eq] at *
  intro c hc
  exact lt_of_le_of_lt h (a c hc)

theorem allAbove_memPut {n a : Nat} (b : Byte) (h : n < a) {m : Cells} (hm : allAbove n m = true) :
    allAbove n (memPut a b m) = true := by
  induction m with
  | nil => simp [memPut, allAbove, h]
  | cons c m ih =>
    obtain ⟨k, v⟩ := c
    simp only [allAbove, List.all_cons, Bool.and_eq_true, decide_eq_true_eq] at hm ih ⊢
    unfold memPut
    split
    · simp [h, hm]
    · split
      · simp [h, hm]
      · simp [hm.1, ih hm.2]

theorem allAbove_memDrop {n a : Nat} {m : Cells} (hm : allAbove n m = true) : allAbove n (memDrop a m) = true := by
  induction m with
  | nil => rfl
  | cons c m ih =>
    obtain ⟨k, v⟩ := c
    simp only [allAbove, List.all_cons, Bool.and_eq_true, decide_eq_true_eq] at hm ih ⊢
    unfold memDrop
    split
    · simp [hm]
    · split
      · exact hm.2
      · simp [hm.1, ih hm.2]

/-- Inserting a cell that differs from the default keeps the canonical form. -/
theorem cellsWf_memPut {d b : Byte} {a : Nat} (hb : b ≠ d) {m : Cells} (hm : cellsWf d m = true) :
    cellsWf d (memPut a b m) = true := by
  induction m with
  | nil => simp [memPut, cellsWf, hb]
  | cons c m ih =>
    obtain ⟨k, v⟩ := c
    rw [cellsWf_cons] at hm
    unfold memPut
    split
    · next h =>
      rw [cellsWf_cons, cellsWf_cons]
      refine ⟨hb, ?_, hm⟩
      have := allAbove_le (Nat.le_of_lt h) hm.2.1
      simp only [allAbove, List.all_cons, Bool.and_eq_true, decide_eq_true_eq] at this ⊢
      exact ⟨h, this⟩
    · split
      · next h => subst h; rw [cellsWf_cons]; exact ⟨hb, hm.2⟩
      · next h1 h2 =>
        rw [cellsWf_cons]
        exact ⟨hm.1, allAbove_memPut b (by omega) hm.2.1, ih hm.2.2⟩

/-- Removing a cell keeps the canonical form. -/
theorem cellsWf_memDrop {d : Byte} {a : Nat} {m : Cells} (hm : cellsWf d m = true) : cellsWf d (memDrop a m) = true := by
  induction m with
  | nil => rfl
  | cons c m ih =>
    obtain ⟨k, v⟩ := c
    have h' := hm
    rw [cellsWf_cons] at hm
    unfold memDrop
    split
    · exact h'
    · split
      · exact hm.2.2
      · rw [cellsWf_cons]
        exact ⟨hm.1, allAbove_memDrop hm.2.1, ih hm.2.2⟩

/-- Writing one byte keeps the canonical form. -/
theorem cellsWf_memSet {d : Byte} (a : Nat) (b : Byte) {m : Cells} (hm : cellsWf d m = true) : cellsWf d (memSet d m a b) = true := by
  unfold memSet
  split
  · exact cellsWf_memDrop hm
  · next h => exact cellsWf_memPut h hm

/-- Writing bytes keeps the canonical form. -/
theorem cellsWf_memWrite {d : Byte} (bs : List Byte) : ∀ (a : Nat) {m : Cells}, cellsWf d m = true → cellsWf d (memWrite d m a bs) = true := by
  induction bs with
  | nil => intro a m h; exact h
  | cons b bs ih => intro a m h; exact ih _ (cellsWf_memSet a b h)

/-- Dropping cells keeps the canonical form. -/
theorem cellsWf_filter {d : Byte} (p : Host.Cell → Bool) {m : Cells} (hm : cellsWf d m = true) : cellsWf d (m.filter p) = true := by
  induction m with
  | nil => rfl
  | cons c m ih =>
    obtain ⟨k, v⟩ := c
    rw [cellsWf_cons] at hm
    rw [List.filter_cons]
    split
    · rw [cellsWf_cons]
      refine ⟨hm.1, ?_, ih hm.2.2⟩
      have := hm.2.1
      simp only [allAbove, List.all_eq_true, decide_eq_true_eq, List.mem_filter] at this ⊢
      exact fun c hc => this c hc.1
    · exact ih hm.2.2

/-- Erasing a range keeps the canonical form. -/
theorem cellsWf_memErase {d : Byte} (a n : Nat) {m : Cells} (hm : cellsWf d m = true) : cellsWf d (memErase m a n) = true :=
  cellsWf_filter _ hm

/-- An address below every cell reads as the default. -/
theorem memGet_of_allAbove {d : Byte} {n a : Nat} {m : Cells} (hm : allAbove n m = true) (h : a ≤ n) : memGet d m a = d := by
  induction m with
  | nil => rfl
  | cons c m ih =>
    obtain ⟨k, v⟩ := c
    simp only [allAbove, List.all_cons, Bool.and_eq_true, decide_eq_true_eq] at hm ih
    have : k ≠ a := by omega
    simp [memGet, this, ih hm.2]

theorem memGet_memPut (d b : Byte) (a x : Nat) (m : Cells) : memGet d (memPut a b m) x = if x = a then b else memGet d m x := by
  induction m with
  | nil => by_cases h : a = x <;> simp [memPut, memGet, h, eq_comm]
  | cons c m ih =>
    obtain ⟨k, v⟩ := c
    unfold memPut
    split
    · by_cases h : a = x
      · simp [memGet, h]
      · simp [memGet, h, Ne.symm h]
    · split
      · next h =>
        subst h
        by_cases h : k = x
        · simp [memGet, h]
        · simp [memGet, h, Ne.symm h]
      · next h1 h2 =>
        by_cases h : k = x
        · have : ¬ x = a := by omega
          simp [memGet, h, this]
        · simp [memGet, h, ih]

theorem memGet_memDrop {d : Byte} {m : Cells} (hm : cellsWf d m = true) (a x : Nat) :
    memGet d (memDrop a m) x = if x = a then d else memGet d m x := by
  induction m with
  | nil => simp [memDrop, memGet]
  | cons c m ih =>
    obtain ⟨k, v⟩ := c
    rw [cellsWf_cons] at hm
    unfold memDrop
    split
    · next h =>
      by_cases e : x = a
      · have : ¬ k = x := by omega
        simp [memGet, e]
        have h2 : ¬ k = a := by omega
        simp [h2, memGet_of_allAbove hm.2.1 (Nat.le_of_lt h)]
      · simp [e]
    · split
      · next h =>
        subst h
        by_cases e : x = k
        · simp [e, memGet_of_allAbove hm.2.1 (Nat.le_refl _)]
        · simp [e, memGet, Ne.symm e]
      · next h1 h2 =>
        by_cases e : k = x
        · have : ¬ x = a := by omega
          simp [memGet, e, this]
        · simp [memGet, e, ih hm.2.2]

/-- A byte that is written reads as the value written; every other byte reads as before. -/
theorem memGet_memSet {d : Byte} {m : Cells} (hm : cellsWf d m = true) (a x : Nat) (b : Byte) :
    memGet d (memSet d m a b) x = if x = a then b else memGet d m x := by
  unfold memSet
  split
  · next h => rw [memGet_memDrop hm, h]
  · exact memGet_memPut d b a x m

/-- Bytes outside a written range read as before. -/
theorem memGet_memWrite_outside {d : Byte} (bs : List Byte) : ∀ (a : Nat) {m : Cells}, cellsWf d m = true → ∀ x, (x < a ∨ a + bs.length ≤ x) →
    memGet d (memWrite d m a bs) x = memGet d m x := by
  induction bs with
  | nil => intro a m _ x _; rfl
  | cons b bs ih =>
    intro a m h x hx
    simp only [List.length_cons] at hx
    rw [memWrite, ih (a + 1) (cellsWf_memSet a b h) x (by omega), memGet_memSet h]
    have : ¬ x = a := by omega
    simp [this]

/-- Bytes inside a written range read as the bytes written. -/
theorem memGet_memWrite_inside {d : Byte} (bs : List Byte) : ∀ (a : Nat) {m : Cells}, cellsWf d m = true → ∀ i (h : i < bs.length),
    memGet d (memWrite d m a bs) (a + i) = bs[i] := by
  induction bs with
  | nil => intro a m _ i h; simp at h
  | cons b bs ih =>
    intro a m hw i h
    rw [memWrite]
    cases i with
    | zero =>
      rw [memGet_memWrite_outside bs (a + 1) (cellsWf_memSet a b hw) (a + 0) (by omega), memGet_memSet hw]
      simp
    | succ j =>
      have e : a + (j + 1) = a + 1 + j := by omega
      rw [e, ih (a + 1) (cellsWf_memSet a b hw) j (by simpa using h)]
      simp

end Sys2Proof.Machine
end

