-- ==== Sys2Proof/Laws/Settle.lean ====
section
/-! SUPPORT. Posting the responses of a step changes the rings, the journal, the held responses and the recorder's signals,
and nothing else. -/
namespace Sys2Proof.Machine

@[simp] theorem EventState.store_mask (r : EventRecord) (n : Nat) (e : EventState) : (e.store r n).mask = e.mask := by
  unfold EventState.store; split
  · rfl
  · simp only; split <;> (unfold EventState.countDiscard; simp only; repeat' split) <;> rfl
@[simp] theorem EventState.deliver_mask (r : EventRecord) (n : Nat) (b : Bool) (e : EventState) : (e.deliver r n b).mask = e.mask := by
  unfold EventState.deliver EventState.setPending EventState.enqueue EventState.pulsePins; simp only; repeat' split
  all_goals rfl
@[simp] theorem State.produce_ev_mask (r : EventRecord) (s : State) : (s.produce r).ev.mask = s.ev.mask := by
  unfold State.produce EventState.suppress; split <;> simp
@[simp] theorem State.queueLossRecord_ev_mask (s : State) : s.queueLossRecord.ev.mask = s.ev.mask := by
  unfold State.queueLossRecord; split <;> simp
@[simp] theorem State.raiseSev_ev_mask (src item : Nat) (a : Action) (sev p0 p1 p2 : Nat) (s : State) : (s.raiseSev src item a sev p0 p1 p2).ev.mask = s.ev.mask := by
  simp [State.raiseSev]
@[simp] theorem State.raise_ev_mask (src item : Nat) (a : Action) (p0 p1 p2 : Nat) (s : State) : (s.raise src item a p0 p1 p2).ev.mask = s.ev.mask := by
  simp [State.raise]
@[simp] theorem State.raisePair_ev_mask (port item : Nat) (a : Action) (p0 p1 p2 : Nat) (s : State) : (s.raisePair port item a p0 p1 p2).ev.mask = s.ev.mask := by
  simp [State.raisePair]
@[simp] theorem State.raiseIf_ev_mask (c : Bool) (src item : Nat) (a : Action) (p0 p1 p2 : Nat) (s : State) : (s.raiseIf c src item a p0 p1 p2).ev.mask = s.ev.mask := by
  unfold State.raiseIf; split <;> simp
@[simp] theorem State.raiseFlag_ev_mask (old new : Bool) (src item p0 : Nat) (s : State) : (s.raiseFlag old new src item p0).ev.mask = s.ev.mask := by
  unfold State.raiseFlag; split <;> simp
@[simp] theorem State.raiseState_ev_mask (old new : Nat) (src item p0 : Nat) (s : State) : (s.raiseState old new src item p0).ev.mask = s.ev.mask := by
  unfold State.raiseState; split <;> simp
@[simp] theorem State.signalResponse_ev_mask (c : Fin 8) (b : Bool) (s : State) : (s.signalResponse c b).ev.mask = s.ev.mask := by
  unfold State.signalResponse EventState.setPending; simp only; split <;> rfl

@[simp] theorem EventState.store_queueBaseLo (r : EventRecord) (n : Nat) (e : EventState) : (e.store r n).queueBaseLo = e.queueBaseLo := by
  unfold EventState.store; split
  · rfl
  · simp only; split <;> (unfold EventState.countDiscard; simp only; repeat' split) <;> rfl
@[simp] theorem EventState.deliver_queueBaseLo (r : EventRecord) (n : Nat) (b : Bool) (e : EventState) : (e.deliver r n b).queueBaseLo = e.queueBaseLo := by
  unfold EventState.deliver EventState.setPending EventState.enqueue EventState.pulsePins; simp only; repeat' split
  all_goals rfl
@[simp] theorem State.produce_ev_queueBaseLo (r : EventRecord) (s : State) : (s.produce r).ev.queueBaseLo = s.ev.queueBaseLo := by
  unfold State.produce EventState.suppress; split <;> simp
@[simp] theorem State.queueLossRecord_ev_queueBaseLo (s : State) : s.queueLossRecord.ev.queueBaseLo = s.ev.queueBaseLo := by
  unfold State.queueLossRecord; split <;> simp
@[simp] theorem State.raiseSev_ev_queueBaseLo (src item : Nat) (a : Action) (sev p0 p1 p2 : Nat) (s : State) : (s.raiseSev src item a sev p0 p1 p2).ev.queueBaseLo = s.ev.queueBaseLo := by
  simp [State.raiseSev]
@[simp] theorem State.raise_ev_queueBaseLo (src item : Nat) (a : Action) (p0 p1 p2 : Nat) (s : State) : (s.raise src item a p0 p1 p2).ev.queueBaseLo = s.ev.queueBaseLo := by
  simp [State.raise]
@[simp] theorem State.raisePair_ev_queueBaseLo (port item : Nat) (a : Action) (p0 p1 p2 : Nat) (s : State) : (s.raisePair port item a p0 p1 p2).ev.queueBaseLo = s.ev.queueBaseLo := by
  simp [State.raisePair]
@[simp] theorem State.raiseIf_ev_queueBaseLo (c : Bool) (src item : Nat) (a : Action) (p0 p1 p2 : Nat) (s : State) : (s.raiseIf c src item a p0 p1 p2).ev.queueBaseLo = s.ev.queueBaseLo := by
  unfold State.raiseIf; split <;> simp
@[simp] theorem State.raiseFlag_ev_queueBaseLo (old new : Bool) (src item p0 : Nat) (s : State) : (s.raiseFlag old new src item p0).ev.queueBaseLo = s.ev.queueBaseLo := by
  unfold State.raiseFlag; split <;> simp
@[simp] theorem State.raiseState_ev_queueBaseLo (old new : Nat) (src item p0 : Nat) (s : State) : (s.raiseState old new src item p0).ev.queueBaseLo = s.ev.queueBaseLo := by
  unfold State.raiseState; split <;> simp
@[simp] theorem State.signalResponse_ev_queueBaseLo (c : Fin 8) (b : Bool) (s : State) : (s.signalResponse c b).ev.queueBaseLo = s.ev.queueBaseLo := by
  unfold State.signalResponse EventState.setPending; simp only; split <;> rfl

@[simp] theorem EventState.store_queueBaseHi (r : EventRecord) (n : Nat) (e : EventState) : (e.store r n).queueBaseHi = e.queueBaseHi := by
  unfold EventState.store; split
  · rfl
  · simp only; split <;> (unfold EventState.countDiscard; simp only; repeat' split) <;> rfl
@[simp] theorem EventState.deliver_queueBaseHi (r : EventRecord) (n : Nat) (b : Bool) (e : EventState) : (e.deliver r n b).queueBaseHi = e.queueBaseHi := by
  unfold EventState.deliver EventState.setPending EventState.enqueue EventState.pulsePins; simp only; repeat' split
  all_goals rfl
@[simp] theorem State.produce_ev_queueBaseHi (r : EventRecord) (s : State) : (s.produce r).ev.queueBaseHi = s.ev.queueBaseHi := by
  unfold State.produce EventState.suppress; split <;> simp
@[simp] theorem State.queueLossRecord_ev_queueBaseHi (s : State) : s.queueLossRecord.ev.queueBaseHi = s.ev.queueBaseHi := by
  unfold State.queueLossRecord; split <;> simp
@[simp] theorem State.raiseSev_ev_queueBaseHi (src item : Nat) (a : Action) (sev p0 p1 p2 : Nat) (s : State) : (s.raiseSev src item a sev p0 p1 p2).ev.queueBaseHi = s.ev.queueBaseHi := by
  simp [State.raiseSev]
@[simp] theorem State.raise_ev_queueBaseHi (src item : Nat) (a : Action) (p0 p1 p2 : Nat) (s : State) : (s.raise src item a p0 p1 p2).ev.queueBaseHi = s.ev.queueBaseHi := by
  simp [State.raise]
@[simp] theorem State.raisePair_ev_queueBaseHi (port item : Nat) (a : Action) (p0 p1 p2 : Nat) (s : State) : (s.raisePair port item a p0 p1 p2).ev.queueBaseHi = s.ev.queueBaseHi := by
  simp [State.raisePair]
@[simp] theorem State.raiseIf_ev_queueBaseHi (c : Bool) (src item : Nat) (a : Action) (p0 p1 p2 : Nat) (s : State) : (s.raiseIf c src item a p0 p1 p2).ev.queueBaseHi = s.ev.queueBaseHi := by
  unfold State.raiseIf; split <;> simp
@[simp] theorem State.raiseFlag_ev_queueBaseHi (old new : Bool) (src item p0 : Nat) (s : State) : (s.raiseFlag old new src item p0).ev.queueBaseHi = s.ev.queueBaseHi := by
  unfold State.raiseFlag; split <;> simp
@[simp] theorem State.raiseState_ev_queueBaseHi (old new : Nat) (src item p0 : Nat) (s : State) : (s.raiseState old new src item p0).ev.queueBaseHi = s.ev.queueBaseHi := by
  unfold State.raiseState; split <;> simp
@[simp] theorem State.signalResponse_ev_queueBaseHi (c : Fin 8) (b : Bool) (s : State) : (s.signalResponse c b).ev.queueBaseHi = s.ev.queueBaseHi := by
  unfold State.signalResponse EventState.setPending; simp only; split <;> rfl

@[simp] theorem EventState.store_queueEnable (r : EventRecord) (n : Nat) (e : EventState) : (e.store r n).queueEnable = e.queueEnable := by
  unfold EventState.store; split
  · rfl
  · simp only; split <;> (unfold EventState.countDiscard; simp only; repeat' split) <;> rfl
@[simp] theorem EventState.deliver_queueEnable (r : EventRecord) (n : Nat) (b : Bool) (e : EventState) : (e.deliver r n b).queueEnable = e.queueEnable := by
  unfold EventState.deliver EventState.setPending EventState.enqueue EventState.pulsePins; simp only; repeat' split
  all_goals rfl
@[simp] theorem State.produce_ev_queueEnable (r : EventRecord) (s : State) : (s.produce r).ev.queueEnable = s.ev.queueEnable := by
  unfold State.produce EventState.suppress; split <;> simp
@[simp] theorem State.queueLossRecord_ev_queueEnable (s : State) : s.queueLossRecord.ev.queueEnable = s.ev.queueEnable := by
  unfold State.queueLossRecord; split <;> simp
@[simp] theorem State.raiseSev_ev_queueEnable (src item : Nat) (a : Action) (sev p0 p1 p2 : Nat) (s : State) : (s.raiseSev src item a sev p0 p1 p2).ev.queueEnable = s.ev.queueEnable := by
  simp [State.raiseSev]
@[simp] theorem State.raise_ev_queueEnable (src item : Nat) (a : Action) (p0 p1 p2 : Nat) (s : State) : (s.raise src item a p0 p1 p2).ev.queueEnable = s.ev.queueEnable := by
  simp [State.raise]
@[simp] theorem State.raisePair_ev_queueEnable (port item : Nat) (a : Action) (p0 p1 p2 : Nat) (s : State) : (s.raisePair port item a p0 p1 p2).ev.queueEnable = s.ev.queueEnable := by
  simp [State.raisePair]
@[simp] theorem State.raiseIf_ev_queueEnable (c : Bool) (src item : Nat) (a : Action) (p0 p1 p2 : Nat) (s : State) : (s.raiseIf c src item a p0 p1 p2).ev.queueEnable = s.ev.queueEnable := by
  unfold State.raiseIf; split <;> simp
@[simp] theorem State.raiseFlag_ev_queueEnable (old new : Bool) (src item p0 : Nat) (s : State) : (s.raiseFlag old new src item p0).ev.queueEnable = s.ev.queueEnable := by
  unfold State.raiseFlag; split <;> simp
@[simp] theorem State.raiseState_ev_queueEnable (old new : Nat) (src item p0 : Nat) (s : State) : (s.raiseState old new src item p0).ev.queueEnable = s.ev.queueEnable := by
  unfold State.raiseState; split <;> simp
@[simp] theorem State.signalResponse_ev_queueEnable (c : Fin 8) (b : Bool) (s : State) : (s.signalResponse c b).ev.queueEnable = s.ev.queueEnable := by
  unfold State.signalResponse EventState.setPending; simp only; split <;> rfl

@[simp] theorem EventState.store_routes (r : EventRecord) (n : Nat) (e : EventState) : (e.store r n).routes = e.routes := by
  unfold EventState.store; split
  · rfl
  · simp only; split <;> (unfold EventState.countDiscard; simp only; repeat' split) <;> rfl
@[simp] theorem EventState.deliver_routes (r : EventRecord) (n : Nat) (b : Bool) (e : EventState) : (e.deliver r n b).routes = e.routes := by
  unfold EventState.deliver EventState.setPending EventState.enqueue EventState.pulsePins; simp only; repeat' split
  all_goals rfl
@[simp] theorem State.produce_ev_routes (r : EventRecord) (s : State) : (s.produce r).ev.routes = s.ev.routes := by
  unfold State.produce EventState.suppress; split <;> simp
@[simp] theorem State.queueLossRecord_ev_routes (s : State) : s.queueLossRecord.ev.routes = s.ev.routes := by
  unfold State.queueLossRecord; split <;> simp
@[simp] theorem State.raiseSev_ev_routes (src item : Nat) (a : Action) (sev p0 p1 p2 : Nat) (s : State) : (s.raiseSev src item a sev p0 p1 p2).ev.routes = s.ev.routes := by
  simp [State.raiseSev]
@[simp] theorem State.raise_ev_routes (src item : Nat) (a : Action) (p0 p1 p2 : Nat) (s : State) : (s.raise src item a p0 p1 p2).ev.routes = s.ev.routes := by
  simp [State.raise]
@[simp] theorem State.raisePair_ev_routes (port item : Nat) (a : Action) (p0 p1 p2 : Nat) (s : State) : (s.raisePair port item a p0 p1 p2).ev.routes = s.ev.routes := by
  simp [State.raisePair]
@[simp] theorem State.raiseIf_ev_routes (c : Bool) (src item : Nat) (a : Action) (p0 p1 p2 : Nat) (s : State) : (s.raiseIf c src item a p0 p1 p2).ev.routes = s.ev.routes := by
  unfold State.raiseIf; split <;> simp
@[simp] theorem State.raiseFlag_ev_routes (old new : Bool) (src item p0 : Nat) (s : State) : (s.raiseFlag old new src item p0).ev.routes = s.ev.routes := by
  unfold State.raiseFlag; split <;> simp
@[simp] theorem State.raiseState_ev_routes (old new : Nat) (src item p0 : Nat) (s : State) : (s.raiseState old new src item p0).ev.routes = s.ev.routes := by
  unfold State.raiseState; split <;> simp
@[simp] theorem State.signalResponse_ev_routes (c : Fin 8) (b : Bool) (s : State) : (s.signalResponse c b).ev.routes = s.ev.routes := by
  unfold State.signalResponse EventState.setPending; simp only; split <;> rfl

@[simp] theorem EventState.store_log (r : EventRecord) (n : Nat) (e : EventState) : (e.store r n).log = e.log := by
  unfold EventState.store; split
  · rfl
  · simp only; split <;> (unfold EventState.countDiscard; simp only; repeat' split) <;> rfl
@[simp] theorem EventState.deliver_log (r : EventRecord) (n : Nat) (b : Bool) (e : EventState) : (e.deliver r n b).log = e.log := by
  unfold EventState.deliver EventState.setPending EventState.enqueue EventState.pulsePins; simp only; repeat' split
  all_goals rfl
@[simp] theorem State.produce_ev_log (r : EventRecord) (s : State) : (s.produce r).ev.log = s.ev.log := by
  unfold State.produce EventState.suppress; split <;> simp
@[simp] theorem State.queueLossRecord_ev_log (s : State) : s.queueLossRecord.ev.log = s.ev.log := by
  unfold State.queueLossRecord; split <;> simp
@[simp] theorem State.raiseSev_ev_log (src item : Nat) (a : Action) (sev p0 p1 p2 : Nat) (s : State) : (s.raiseSev src item a sev p0 p1 p2).ev.log = s.ev.log := by
  simp [State.raiseSev]
@[simp] theorem State.raise_ev_log (src item : Nat) (a : Action) (p0 p1 p2 : Nat) (s : State) : (s.raise src item a p0 p1 p2).ev.log = s.ev.log := by
  simp [State.raise]
@[simp] theorem State.raisePair_ev_log (port item : Nat) (a : Action) (p0 p1 p2 : Nat) (s : State) : (s.raisePair port item a p0 p1 p2).ev.log = s.ev.log := by
  simp [State.raisePair]
@[simp] theorem State.raiseIf_ev_log (c : Bool) (src item : Nat) (a : Action) (p0 p1 p2 : Nat) (s : State) : (s.raiseIf c src item a p0 p1 p2).ev.log = s.ev.log := by
  unfold State.raiseIf; split <;> simp
@[simp] theorem State.raiseFlag_ev_log (old new : Bool) (src item p0 : Nat) (s : State) : (s.raiseFlag old new src item p0).ev.log = s.ev.log := by
  unfold State.raiseFlag; split <;> simp
@[simp] theorem State.raiseState_ev_log (old new : Nat) (src item p0 : Nat) (s : State) : (s.raiseState old new src item p0).ev.log = s.ev.log := by
  unfold State.raiseState; split <;> simp
@[simp] theorem State.signalResponse_ev_log (c : Fin 8) (b : Bool) (s : State) : (s.signalResponse c b).ev.log = s.ev.log := by
  unfold State.signalResponse EventState.setPending; simp only; split <;> rfl

@[simp] theorem EventState.store_nextIndex (r : EventRecord) (n : Nat) (e : EventState) : (e.store r n).nextIndex = e.nextIndex := by
  unfold EventState.store; split
  · rfl
  · simp only; split <;> (unfold EventState.countDiscard; simp only; repeat' split) <;> rfl
@[simp] theorem EventState.deliver_nextIndex (r : EventRecord) (n : Nat) (b : Bool) (e : EventState) : (e.deliver r n b).nextIndex = e.nextIndex := by
  unfold EventState.deliver EventState.setPending EventState.enqueue EventState.pulsePins; simp only; repeat' split
  all_goals rfl
@[simp] theorem State.produce_ev_nextIndex (r : EventRecord) (s : State) : (s.produce r).ev.nextIndex = s.ev.nextIndex := by
  unfold State.produce EventState.suppress; split <;> simp
@[simp] theorem State.queueLossRecord_ev_nextIndex (s : State) : s.queueLossRecord.ev.nextIndex = s.ev.nextIndex := by
  unfold State.queueLossRecord; split <;> simp
@[simp] theorem State.raiseSev_ev_nextIndex (src item : Nat) (a : Action) (sev p0 p1 p2 : Nat) (s : State) : (s.raiseSev src item a sev p0 p1 p2).ev.nextIndex = s.ev.nextIndex := by
  simp [State.raiseSev]
@[simp] theorem State.raise_ev_nextIndex (src item : Nat) (a : Action) (p0 p1 p2 : Nat) (s : State) : (s.raise src item a p0 p1 p2).ev.nextIndex = s.ev.nextIndex := by
  simp [State.raise]
@[simp] theorem State.raisePair_ev_nextIndex (port item : Nat) (a : Action) (p0 p1 p2 : Nat) (s : State) : (s.raisePair port item a p0 p1 p2).ev.nextIndex = s.ev.nextIndex := by
  simp [State.raisePair]
@[simp] theorem State.raiseIf_ev_nextIndex (c : Bool) (src item : Nat) (a : Action) (p0 p1 p2 : Nat) (s : State) : (s.raiseIf c src item a p0 p1 p2).ev.nextIndex = s.ev.nextIndex := by
  unfold State.raiseIf; split <;> simp
@[simp] theorem State.raiseFlag_ev_nextIndex (old new : Bool) (src item p0 : Nat) (s : State) : (s.raiseFlag old new src item p0).ev.nextIndex = s.ev.nextIndex := by
  unfold State.raiseFlag; split <;> simp
@[simp] theorem State.raiseState_ev_nextIndex (old new : Nat) (src item p0 : Nat) (s : State) : (s.raiseState old new src item p0).ev.nextIndex = s.ev.nextIndex := by
  unfold State.raiseState; split <;> simp
@[simp] theorem State.signalResponse_ev_nextIndex (c : Fin 8) (b : Bool) (s : State) : (s.signalResponse c b).ev.nextIndex = s.ev.nextIndex := by
  unfold State.signalResponse EventState.setPending; simp only; split <;> rfl

@[simp] theorem EventState.store_headPage (r : EventRecord) (n : Nat) (e : EventState) : (e.store r n).headPage = e.headPage := by
  unfold EventState.store; split
  · rfl
  · simp only; split <;> (unfold EventState.countDiscard; simp only; repeat' split) <;> rfl
@[simp] theorem EventState.deliver_headPage (r : EventRecord) (n : Nat) (b : Bool) (e : EventState) : (e.deliver r n b).headPage = e.headPage := by
  unfold EventState.deliver EventState.setPending EventState.enqueue EventState.pulsePins; simp only; repeat' split
  all_goals rfl
@[simp] theorem State.produce_ev_headPage (r : EventRecord) (s : State) : (s.produce r).ev.headPage = s.ev.headPage := by
  unfold State.produce EventState.suppress; split <;> simp
@[simp] theorem State.queueLossRecord_ev_headPage (s : State) : s.queueLossRecord.ev.headPage = s.ev.headPage := by
  unfold State.queueLossRecord; split <;> simp
@[simp] theorem State.raiseSev_ev_headPage (src item : Nat) (a : Action) (sev p0 p1 p2 : Nat) (s : State) : (s.raiseSev src item a sev p0 p1 p2).ev.headPage = s.ev.headPage := by
  simp [State.raiseSev]
@[simp] theorem State.raise_ev_headPage (src item : Nat) (a : Action) (p0 p1 p2 : Nat) (s : State) : (s.raise src item a p0 p1 p2).ev.headPage = s.ev.headPage := by
  simp [State.raise]
@[simp] theorem State.raisePair_ev_headPage (port item : Nat) (a : Action) (p0 p1 p2 : Nat) (s : State) : (s.raisePair port item a p0 p1 p2).ev.headPage = s.ev.headPage := by
  simp [State.raisePair]
@[simp] theorem State.raiseIf_ev_headPage (c : Bool) (src item : Nat) (a : Action) (p0 p1 p2 : Nat) (s : State) : (s.raiseIf c src item a p0 p1 p2).ev.headPage = s.ev.headPage := by
  unfold State.raiseIf; split <;> simp
@[simp] theorem State.raiseFlag_ev_headPage (old new : Bool) (src item p0 : Nat) (s : State) : (s.raiseFlag old new src item p0).ev.headPage = s.ev.headPage := by
  unfold State.raiseFlag; split <;> simp
@[simp] theorem State.raiseState_ev_headPage (old new : Nat) (src item p0 : Nat) (s : State) : (s.raiseState old new src item p0).ev.headPage = s.ev.headPage := by
  unfold State.raiseState; split <;> simp
@[simp] theorem State.signalResponse_ev_headPage (c : Fin 8) (b : Bool) (s : State) : (s.signalResponse c b).ev.headPage = s.ev.headPage := by
  unfold State.signalResponse EventState.setPending; simp only; split <;> rfl

@[simp] theorem EventState.store_standing (r : EventRecord) (n : Nat) (e : EventState) : (e.store r n).standing = e.standing := by
  unfold EventState.store; split
  · rfl
  · simp only; split <;> (unfold EventState.countDiscard; simp only; repeat' split) <;> rfl
@[simp] theorem EventState.deliver_standing (r : EventRecord) (n : Nat) (b : Bool) (e : EventState) : (e.deliver r n b).standing = e.standing := by
  unfold EventState.deliver EventState.setPending EventState.enqueue EventState.pulsePins; simp only; repeat' split
  all_goals rfl
@[simp] theorem State.produce_ev_standing (r : EventRecord) (s : State) : (s.produce r).ev.standing = s.ev.standing := by
  unfold State.produce EventState.suppress; split <;> simp
@[simp] theorem State.queueLossRecord_ev_standing (s : State) : s.queueLossRecord.ev.standing = s.ev.standing := by
  unfold State.queueLossRecord; split <;> simp
@[simp] theorem State.raiseSev_ev_standing (src item : Nat) (a : Action) (sev p0 p1 p2 : Nat) (s : State) : (s.raiseSev src item a sev p0 p1 p2).ev.standing = s.ev.standing := by
  simp [State.raiseSev]
@[simp] theorem State.raise_ev_standing (src item : Nat) (a : Action) (p0 p1 p2 : Nat) (s : State) : (s.raise src item a p0 p1 p2).ev.standing = s.ev.standing := by
  simp [State.raise]
@[simp] theorem State.raisePair_ev_standing (port item : Nat) (a : Action) (p0 p1 p2 : Nat) (s : State) : (s.raisePair port item a p0 p1 p2).ev.standing = s.ev.standing := by
  simp [State.raisePair]
@[simp] theorem State.raiseIf_ev_standing (c : Bool) (src item : Nat) (a : Action) (p0 p1 p2 : Nat) (s : State) : (s.raiseIf c src item a p0 p1 p2).ev.standing = s.ev.standing := by
  unfold State.raiseIf; split <;> simp
@[simp] theorem State.raiseFlag_ev_standing (old new : Bool) (src item p0 : Nat) (s : State) : (s.raiseFlag old new src item p0).ev.standing = s.ev.standing := by
  unfold State.raiseFlag; split <;> simp
@[simp] theorem State.raiseState_ev_standing (old new : Nat) (src item p0 : Nat) (s : State) : (s.raiseState old new src item p0).ev.standing = s.ev.standing := by
  unfold State.raiseState; split <;> simp
@[simp] theorem State.signalResponse_ev_standing (c : Fin 8) (b : Bool) (s : State) : (s.signalResponse c b).ev.standing = s.ev.standing := by
  unfold State.signalResponse EventState.setPending; simp only; split <;> rfl

@[simp] theorem EventState.store_frozenUntil (r : EventRecord) (n : Nat) (e : EventState) : (e.store r n).frozenUntil = e.frozenUntil := by
  unfold EventState.store; split
  · rfl
  · simp only; split <;> (unfold EventState.countDiscard; simp only; repeat' split) <;> rfl
@[simp] theorem EventState.deliver_frozenUntil (r : EventRecord) (n : Nat) (b : Bool) (e : EventState) : (e.deliver r n b).frozenUntil = e.frozenUntil := by
  unfold EventState.deliver EventState.setPending EventState.enqueue EventState.pulsePins; simp only; repeat' split
  all_goals rfl
@[simp] theorem State.produce_ev_frozenUntil (r : EventRecord) (s : State) : (s.produce r).ev.frozenUntil = s.ev.frozenUntil := by
  unfold State.produce EventState.suppress; split <;> simp
@[simp] theorem State.queueLossRecord_ev_frozenUntil (s : State) : s.queueLossRecord.ev.frozenUntil = s.ev.frozenUntil := by
  unfold State.queueLossRecord; split <;> simp
@[simp] theorem State.raiseSev_ev_frozenUntil (src item : Nat) (a : Action) (sev p0 p1 p2 : Nat) (s : State) : (s.raiseSev src item a sev p0 p1 p2).ev.frozenUntil = s.ev.frozenUntil := by
  simp [State.raiseSev]
@[simp] theorem State.raise_ev_frozenUntil (src item : Nat) (a : Action) (p0 p1 p2 : Nat) (s : State) : (s.raise src item a p0 p1 p2).ev.frozenUntil = s.ev.frozenUntil := by
  simp [State.raise]
@[simp] theorem State.raisePair_ev_frozenUntil (port item : Nat) (a : Action) (p0 p1 p2 : Nat) (s : State) : (s.raisePair port item a p0 p1 p2).ev.frozenUntil = s.ev.frozenUntil := by
  simp [State.raisePair]
@[simp] theorem State.raiseIf_ev_frozenUntil (c : Bool) (src item : Nat) (a : Action) (p0 p1 p2 : Nat) (s : State) : (s.raiseIf c src item a p0 p1 p2).ev.frozenUntil = s.ev.frozenUntil := by
  unfold State.raiseIf; split <;> simp
@[simp] theorem State.raiseFlag_ev_frozenUntil (old new : Bool) (src item p0 : Nat) (s : State) : (s.raiseFlag old new src item p0).ev.frozenUntil = s.ev.frozenUntil := by
  unfold State.raiseFlag; split <;> simp
@[simp] theorem State.raiseState_ev_frozenUntil (old new : Nat) (src item p0 : Nat) (s : State) : (s.raiseState old new src item p0).ev.frozenUntil = s.ev.frozenUntil := by
  unfold State.raiseState; split <;> simp
@[simp] theorem State.signalResponse_ev_frozenUntil (c : Fin 8) (b : Bool) (s : State) : (s.signalResponse c b).ev.frozenUntil = s.ev.frozenUntil := by
  unfold State.signalResponse EventState.setPending; simp only; split <;> rfl

@[simp] theorem EventState.store_holds (r : EventRecord) (n : Nat) (e : EventState) : (e.store r n).holds = e.holds := by
  unfold EventState.store; split
  · rfl
  · simp only; split <;> (unfold EventState.countDiscard; simp only; repeat' split) <;> rfl
@[simp] theorem EventState.deliver_holds (r : EventRecord) (n : Nat) (b : Bool) (e : EventState) : (e.deliver r n b).holds = e.holds := by
  unfold EventState.deliver EventState.setPending EventState.enqueue EventState.pulsePins; simp only; repeat' split
  all_goals rfl
@[simp] theorem State.produce_ev_holds (r : EventRecord) (s : State) : (s.produce r).ev.holds = s.ev.holds := by
  unfold State.produce EventState.suppress; split <;> simp
@[simp] theorem State.queueLossRecord_ev_holds (s : State) : s.queueLossRecord.ev.holds = s.ev.holds := by
  unfold State.queueLossRecord; split <;> simp
@[simp] theorem State.raiseSev_ev_holds (src item : Nat) (a : Action) (sev p0 p1 p2 : Nat) (s : State) : (s.raiseSev src item a sev p0 p1 p2).ev.holds = s.ev.holds := by
  simp [State.raiseSev]
@[simp] theorem State.raise_ev_holds (src item : Nat) (a : Action) (p0 p1 p2 : Nat) (s : State) : (s.raise src item a p0 p1 p2).ev.holds = s.ev.holds := by
  simp [State.raise]
@[simp] theorem State.raisePair_ev_holds (port item : Nat) (a : Action) (p0 p1 p2 : Nat) (s : State) : (s.raisePair port item a p0 p1 p2).ev.holds = s.ev.holds := by
  simp [State.raisePair]
@[simp] theorem State.raiseIf_ev_holds (c : Bool) (src item : Nat) (a : Action) (p0 p1 p2 : Nat) (s : State) : (s.raiseIf c src item a p0 p1 p2).ev.holds = s.ev.holds := by
  unfold State.raiseIf; split <;> simp
@[simp] theorem State.raiseFlag_ev_holds (old new : Bool) (src item p0 : Nat) (s : State) : (s.raiseFlag old new src item p0).ev.holds = s.ev.holds := by
  unfold State.raiseFlag; split <;> simp
@[simp] theorem State.raiseState_ev_holds (old new : Nat) (src item p0 : Nat) (s : State) : (s.raiseState old new src item p0).ev.holds = s.ev.holds := by
  unfold State.raiseState; split <;> simp
@[simp] theorem State.signalResponse_ev_holds (c : Fin 8) (b : Bool) (s : State) : (s.signalResponse c b).ev.holds = s.ev.holds := by
  unfold State.signalResponse EventState.setPending; simp only; split <;> rfl

@[simp] theorem EventState.store_holdsUntil (r : EventRecord) (n : Nat) (e : EventState) : (e.store r n).holdsUntil = e.holdsUntil := by
  unfold EventState.store; split
  · rfl
  · simp only; split <;> (unfold EventState.countDiscard; simp only; repeat' split) <;> rfl
@[simp] theorem EventState.deliver_holdsUntil (r : EventRecord) (n : Nat) (b : Bool) (e : EventState) : (e.deliver r n b).holdsUntil = e.holdsUntil := by
  unfold EventState.deliver EventState.setPending EventState.enqueue EventState.pulsePins; simp only; repeat' split
  all_goals rfl
@[simp] theorem State.produce_ev_holdsUntil (r : EventRecord) (s : State) : (s.produce r).ev.holdsUntil = s.ev.holdsUntil := by
  unfold State.produce EventState.suppress; split <;> simp
@[simp] theorem State.queueLossRecord_ev_holdsUntil (s : State) : s.queueLossRecord.ev.holdsUntil = s.ev.holdsUntil := by
  unfold State.queueLossRecord; split <;> simp
@[simp] theorem State.raiseSev_ev_holdsUntil (src item : Nat) (a : Action) (sev p0 p1 p2 : Nat) (s : State) : (s.raiseSev src item a sev p0 p1 p2).ev.holdsUntil = s.ev.holdsUntil := by
  simp [State.raiseSev]
@[simp] theorem State.raise_ev_holdsUntil (src item : Nat) (a : Action) (p0 p1 p2 : Nat) (s : State) : (s.raise src item a p0 p1 p2).ev.holdsUntil = s.ev.holdsUntil := by
  simp [State.raise]
@[simp] theorem State.raisePair_ev_holdsUntil (port item : Nat) (a : Action) (p0 p1 p2 : Nat) (s : State) : (s.raisePair port item a p0 p1 p2).ev.holdsUntil = s.ev.holdsUntil := by
  simp [State.raisePair]
@[simp] theorem State.raiseIf_ev_holdsUntil (c : Bool) (src item : Nat) (a : Action) (p0 p1 p2 : Nat) (s : State) : (s.raiseIf c src item a p0 p1 p2).ev.holdsUntil = s.ev.holdsUntil := by
  unfold State.raiseIf; split <;> simp
@[simp] theorem State.raiseFlag_ev_holdsUntil (old new : Bool) (src item p0 : Nat) (s : State) : (s.raiseFlag old new src item p0).ev.holdsUntil = s.ev.holdsUntil := by
  unfold State.raiseFlag; split <;> simp
@[simp] theorem State.raiseState_ev_holdsUntil (old new : Nat) (src item p0 : Nat) (s : State) : (s.raiseState old new src item p0).ev.holdsUntil = s.ev.holdsUntil := by
  unfold State.raiseState; split <;> simp
@[simp] theorem State.signalResponse_ev_holdsUntil (c : Fin 8) (b : Bool) (s : State) : (s.signalResponse c b).ev.holdsUntil = s.ev.holdsUntil := by
  unfold State.signalResponse EventState.setPending; simp only; split <;> rfl

@[simp] theorem EventState.store_powerFailing (r : EventRecord) (n : Nat) (e : EventState) : (e.store r n).powerFailing = e.powerFailing := by
  unfold EventState.store; split
  · rfl
  · simp only; split <;> (unfold EventState.countDiscard; simp only; repeat' split) <;> rfl
@[simp] theorem EventState.deliver_powerFailing (r : EventRecord) (n : Nat) (b : Bool) (e : EventState) : (e.deliver r n b).powerFailing = e.powerFailing := by
  unfold EventState.deliver EventState.setPending EventState.enqueue EventState.pulsePins; simp only; repeat' split
  all_goals rfl
@[simp] theorem State.produce_ev_powerFailing (r : EventRecord) (s : State) : (s.produce r).ev.powerFailing = s.ev.powerFailing := by
  unfold State.produce EventState.suppress; split <;> simp
@[simp] theorem State.queueLossRecord_ev_powerFailing (s : State) : s.queueLossRecord.ev.powerFailing = s.ev.powerFailing := by
  unfold State.queueLossRecord; split <;> simp
@[simp] theorem State.raiseSev_ev_powerFailing (src item : Nat) (a : Action) (sev p0 p1 p2 : Nat) (s : State) : (s.raiseSev src item a sev p0 p1 p2).ev.powerFailing = s.ev.powerFailing := by
  simp [State.raiseSev]
@[simp] theorem State.raise_ev_powerFailing (src item : Nat) (a : Action) (p0 p1 p2 : Nat) (s : State) : (s.raise src item a p0 p1 p2).ev.powerFailing = s.ev.powerFailing := by
  simp [State.raise]
@[simp] theorem State.raisePair_ev_powerFailing (port item : Nat) (a : Action) (p0 p1 p2 : Nat) (s : State) : (s.raisePair port item a p0 p1 p2).ev.powerFailing = s.ev.powerFailing := by
  simp [State.raisePair]
@[simp] theorem State.raiseIf_ev_powerFailing (c : Bool) (src item : Nat) (a : Action) (p0 p1 p2 : Nat) (s : State) : (s.raiseIf c src item a p0 p1 p2).ev.powerFailing = s.ev.powerFailing := by
  unfold State.raiseIf; split <;> simp
@[simp] theorem State.raiseFlag_ev_powerFailing (old new : Bool) (src item p0 : Nat) (s : State) : (s.raiseFlag old new src item p0).ev.powerFailing = s.ev.powerFailing := by
  unfold State.raiseFlag; split <;> simp
@[simp] theorem State.raiseState_ev_powerFailing (old new : Nat) (src item p0 : Nat) (s : State) : (s.raiseState old new src item p0).ev.powerFailing = s.ev.powerFailing := by
  unfold State.raiseState; split <;> simp
@[simp] theorem State.signalResponse_ev_powerFailing (c : Fin 8) (b : Bool) (s : State) : (s.signalResponse c b).ev.powerFailing = s.ev.powerFailing := by
  unfold State.signalResponse EventState.setPending; simp only; split <;> rfl

@[simp] theorem EventState.store_regionFault (r : EventRecord) (n : Nat) (e : EventState) : (e.store r n).regionFault = e.regionFault := by
  unfold EventState.store; split
  · rfl
  · simp only; split <;> (unfold EventState.countDiscard; simp only; repeat' split) <;> rfl
@[simp] theorem EventState.deliver_regionFault (r : EventRecord) (n : Nat) (b : Bool) (e : EventState) : (e.deliver r n b).regionFault = e.regionFault := by
  unfold EventState.deliver EventState.setPending EventState.enqueue EventState.pulsePins; simp only; repeat' split
  all_goals rfl
@[simp] theorem State.produce_ev_regionFault (r : EventRecord) (s : State) : (s.produce r).ev.regionFault = s.ev.regionFault := by
  unfold State.produce EventState.suppress; split <;> simp
@[simp] theorem State.queueLossRecord_ev_regionFault (s : State) : s.queueLossRecord.ev.regionFault = s.ev.regionFault := by
  unfold State.queueLossRecord; split <;> simp
@[simp] theorem State.raiseSev_ev_regionFault (src item : Nat) (a : Action) (sev p0 p1 p2 : Nat) (s : State) : (s.raiseSev src item a sev p0 p1 p2).ev.regionFault = s.ev.regionFault := by
  simp [State.raiseSev]
@[simp] theorem State.raise_ev_regionFault (src item : Nat) (a : Action) (p0 p1 p2 : Nat) (s : State) : (s.raise src item a p0 p1 p2).ev.regionFault = s.ev.regionFault := by
  simp [State.raise]
@[simp] theorem State.raisePair_ev_regionFault (port item : Nat) (a : Action) (p0 p1 p2 : Nat) (s : State) : (s.raisePair port item a p0 p1 p2).ev.regionFault = s.ev.regionFault := by
  simp [State.raisePair]
@[simp] theorem State.raiseIf_ev_regionFault (c : Bool) (src item : Nat) (a : Action) (p0 p1 p2 : Nat) (s : State) : (s.raiseIf c src item a p0 p1 p2).ev.regionFault = s.ev.regionFault := by
  unfold State.raiseIf; split <;> simp
@[simp] theorem State.raiseFlag_ev_regionFault (old new : Bool) (src item p0 : Nat) (s : State) : (s.raiseFlag old new src item p0).ev.regionFault = s.ev.regionFault := by
  unfold State.raiseFlag; split <;> simp
@[simp] theorem State.raiseState_ev_regionFault (old new : Nat) (src item p0 : Nat) (s : State) : (s.raiseState old new src item p0).ev.regionFault = s.ev.regionFault := by
  unfold State.raiseState; split <;> simp
@[simp] theorem State.signalResponse_ev_regionFault (c : Fin 8) (b : Bool) (s : State) : (s.signalResponse c b).ev.regionFault = s.ev.regionFault := by
  unfold State.signalResponse EventState.setPending; simp only; split <;> rfl

@[simp] theorem EventState.store_clears (r : EventRecord) (n : Nat) (e : EventState) : (e.store r n).clears = e.clears := by
  unfold EventState.store; split
  · rfl
  · simp only; split <;> (unfold EventState.countDiscard; simp only; repeat' split) <;> rfl
@[simp] theorem EventState.deliver_clears (r : EventRecord) (n : Nat) (b : Bool) (e : EventState) : (e.deliver r n b).clears = e.clears := by
  unfold EventState.deliver EventState.setPending EventState.enqueue EventState.pulsePins; simp only; repeat' split
  all_goals rfl
@[simp] theorem State.produce_ev_clears (r : EventRecord) (s : State) : (s.produce r).ev.clears = s.ev.clears := by
  unfold State.produce EventState.suppress; split <;> simp
@[simp] theorem State.queueLossRecord_ev_clears (s : State) : s.queueLossRecord.ev.clears = s.ev.clears := by
  unfold State.queueLossRecord; split <;> simp
@[simp] theorem State.raiseSev_ev_clears (src item : Nat) (a : Action) (sev p0 p1 p2 : Nat) (s : State) : (s.raiseSev src item a sev p0 p1 p2).ev.clears = s.ev.clears := by
  simp [State.raiseSev]
@[simp] theorem State.raise_ev_clears (src item : Nat) (a : Action) (p0 p1 p2 : Nat) (s : State) : (s.raise src item a p0 p1 p2).ev.clears = s.ev.clears := by
  simp [State.raise]
@[simp] theorem State.raisePair_ev_clears (port item : Nat) (a : Action) (p0 p1 p2 : Nat) (s : State) : (s.raisePair port item a p0 p1 p2).ev.clears = s.ev.clears := by
  simp [State.raisePair]
@[simp] theorem State.raiseIf_ev_clears (c : Bool) (src item : Nat) (a : Action) (p0 p1 p2 : Nat) (s : State) : (s.raiseIf c src item a p0 p1 p2).ev.clears = s.ev.clears := by
  unfold State.raiseIf; split <;> simp
@[simp] theorem State.raiseFlag_ev_clears (old new : Bool) (src item p0 : Nat) (s : State) : (s.raiseFlag old new src item p0).ev.clears = s.ev.clears := by
  unfold State.raiseFlag; split <;> simp
@[simp] theorem State.raiseState_ev_clears (old new : Nat) (src item p0 : Nat) (s : State) : (s.raiseState old new src item p0).ev.clears = s.ev.clears := by
  unfold State.raiseState; split <;> simp
@[simp] theorem State.signalResponse_ev_clears (c : Fin 8) (b : Bool) (s : State) : (s.signalResponse c b).ev.clears = s.ev.clears := by
  unfold State.signalResponse EventState.setPending; simp only; split <;> rfl

@[simp] theorem EventState.store_retentionOk (r : EventRecord) (n : Nat) (e : EventState) : (e.store r n).retentionOk = e.retentionOk := by
  unfold EventState.store; split
  · rfl
  · simp only; split <;> (unfold EventState.countDiscard; simp only; repeat' split) <;> rfl
@[simp] theorem EventState.deliver_retentionOk (r : EventRecord) (n : Nat) (b : Bool) (e : EventState) : (e.deliver r n b).retentionOk = e.retentionOk := by
  unfold EventState.deliver EventState.setPending EventState.enqueue EventState.pulsePins; simp only; repeat' split
  all_goals rfl
@[simp] theorem State.produce_ev_retentionOk (r : EventRecord) (s : State) : (s.produce r).ev.retentionOk = s.ev.retentionOk := by
  unfold State.produce EventState.suppress; split <;> simp
@[simp] theorem State.queueLossRecord_ev_retentionOk (s : State) : s.queueLossRecord.ev.retentionOk = s.ev.retentionOk := by
  unfold State.queueLossRecord; split <;> simp
@[simp] theorem State.raiseSev_ev_retentionOk (src item : Nat) (a : Action) (sev p0 p1 p2 : Nat) (s : State) : (s.raiseSev src item a sev p0 p1 p2).ev.retentionOk = s.ev.retentionOk := by
  simp [State.raiseSev]
@[simp] theorem State.raise_ev_retentionOk (src item : Nat) (a : Action) (p0 p1 p2 : Nat) (s : State) : (s.raise src item a p0 p1 p2).ev.retentionOk = s.ev.retentionOk := by
  simp [State.raise]
@[simp] theorem State.raisePair_ev_retentionOk (port item : Nat) (a : Action) (p0 p1 p2 : Nat) (s : State) : (s.raisePair port item a p0 p1 p2).ev.retentionOk = s.ev.retentionOk := by
  simp [State.raisePair]
@[simp] theorem State.raiseIf_ev_retentionOk (c : Bool) (src item : Nat) (a : Action) (p0 p1 p2 : Nat) (s : State) : (s.raiseIf c src item a p0 p1 p2).ev.retentionOk = s.ev.retentionOk := by
  unfold State.raiseIf; split <;> simp
@[simp] theorem State.raiseFlag_ev_retentionOk (old new : Bool) (src item p0 : Nat) (s : State) : (s.raiseFlag old new src item p0).ev.retentionOk = s.ev.retentionOk := by
  unfold State.raiseFlag; split <;> simp
@[simp] theorem State.raiseState_ev_retentionOk (old new : Nat) (src item p0 : Nat) (s : State) : (s.raiseState old new src item p0).ev.retentionOk = s.ev.retentionOk := by
  unfold State.raiseState; split <;> simp
@[simp] theorem State.signalResponse_ev_retentionOk (c : Fin 8) (b : Bool) (s : State) : (s.signalResponse c b).ev.retentionOk = s.ev.retentionOk := by
  unfold State.signalResponse EventState.setPending; simp only; split <;> rfl

@[simp] theorem EventState.store_queueCi (r : EventRecord) (n : Nat) (e : EventState) : (e.store r n).queueCi = e.queueCi := by
  unfold EventState.store; split
  · rfl
  · simp only; split <;> (unfold EventState.countDiscard; simp only; repeat' split) <;> rfl
@[simp] theorem EventState.deliver_queueCi (r : EventRecord) (n : Nat) (b : Bool) (e : EventState) : (e.deliver r n b).queueCi = e.queueCi := by
  unfold EventState.deliver EventState.setPending EventState.enqueue EventState.pulsePins; simp only; repeat' split
  all_goals rfl
@[simp] theorem State.produce_ev_queueCi (r : EventRecord) (s : State) : (s.produce r).ev.queueCi = s.ev.queueCi := by
  unfold State.produce EventState.suppress; split <;> simp
@[simp] theorem State.queueLossRecord_ev_queueCi (s : State) : s.queueLossRecord.ev.queueCi = s.ev.queueCi := by
  unfold State.queueLossRecord; split <;> simp
@[simp] theorem State.raiseSev_ev_queueCi (src item : Nat) (a : Action) (sev p0 p1 p2 : Nat) (s : State) : (s.raiseSev src item a sev p0 p1 p2).ev.queueCi = s.ev.queueCi := by
  simp [State.raiseSev]
@[simp] theorem State.raise_ev_queueCi (src item : Nat) (a : Action) (p0 p1 p2 : Nat) (s : State) : (s.raise src item a p0 p1 p2).ev.queueCi = s.ev.queueCi := by
  simp [State.raise]
@[simp] theorem State.raisePair_ev_queueCi (port item : Nat) (a : Action) (p0 p1 p2 : Nat) (s : State) : (s.raisePair port item a p0 p1 p2).ev.queueCi = s.ev.queueCi := by
  simp [State.raisePair]
@[simp] theorem State.raiseIf_ev_queueCi (c : Bool) (src item : Nat) (a : Action) (p0 p1 p2 : Nat) (s : State) : (s.raiseIf c src item a p0 p1 p2).ev.queueCi = s.ev.queueCi := by
  unfold State.raiseIf; split <;> simp
@[simp] theorem State.raiseFlag_ev_queueCi (old new : Bool) (src item p0 : Nat) (s : State) : (s.raiseFlag old new src item p0).ev.queueCi = s.ev.queueCi := by
  unfold State.raiseFlag; split <;> simp
@[simp] theorem State.raiseState_ev_queueCi (old new : Nat) (src item p0 : Nat) (s : State) : (s.raiseState old new src item p0).ev.queueCi = s.ev.queueCi := by
  unfold State.raiseState; split <;> simp
@[simp] theorem State.signalResponse_ev_queueCi (c : Fin 8) (b : Bool) (s : State) : (s.signalResponse c b).ev.queueCi = s.ev.queueCi := by
  unfold State.signalResponse EventState.setPending; simp only; split <;> rfl

@[simp] theorem State.writeResponse_pending (c : Fin 8) (x : Response) (s : State) : (s.writeResponse c x).pending = s.pending := by
  simp [State.writeResponse]
@[simp] theorem State.writeResponse_clock (c : Fin 8) (x : Response) (s : State) : (s.writeResponse c x).clock = s.clock := by
  simp [State.writeResponse]
@[simp] theorem State.writeResponse_rtc (c : Fin 8) (x : Response) (s : State) : (s.writeResponse c x).rtc = s.rtc := by
  simp [State.writeResponse]
@[simp] theorem State.writeResponse_flash (c : Fin 8) (x : Response) (s : State) : (s.writeResponse c x).flash = s.flash := by
  simp [State.writeResponse]
@[simp] theorem State.writeResponse_ports (c : Fin 8) (x : Response) (s : State) : (s.writeResponse c x).ports = s.ports := by
  simp [State.writeResponse]
@[simp] theorem State.writeResponse_map (c : Fin 8) (x : Response) (s : State) : (s.writeResponse c x).map = s.map := by
  simp [State.writeResponse]
@[simp] theorem State.writeResponse_prot (c : Fin 8) (x : Response) (s : State) : (s.writeResponse c x).prot = s.prot := by
  simp [State.writeResponse]
@[simp] theorem State.writeResponse_dpll (c : Fin 8) (x : Response) (s : State) : (s.writeResponse c x).dpll = s.dpll := by
  simp [State.writeResponse]
@[simp] theorem State.writeResponse_casc (c : Fin 8) (x : Response) (s : State) : (s.writeResponse c x).casc = s.casc := by
  simp [State.writeResponse]
@[simp] theorem State.writeResponse_mgmt (c : Fin 8) (x : Response) (s : State) : (s.writeResponse c x).mgmt = s.mgmt := by
  simp [State.writeResponse]
@[simp] theorem State.writeResponse_sec (c : Fin 8) (x : Response) (s : State) : (s.writeResponse c x).sec = s.sec := by
  simp [State.writeResponse]
@[simp] theorem State.writeResponse_ember (c : Fin 8) (x : Response) (s : State) : (s.writeResponse c x).ember = s.ember := by
  simp [State.writeResponse]
@[simp] theorem State.writeResponse_cap (c : Fin 8) (x : Response) (s : State) : (s.writeResponse c x).cap = s.cap := by
  simp [State.writeResponse]
@[simp] theorem State.writeResponse_pwr (c : Fin 8) (x : Response) (s : State) : (s.writeResponse c x).pwr = s.pwr := by
  simp [State.writeResponse]
@[simp] theorem State.writeResponse_rst (c : Fin 8) (x : Response) (s : State) : (s.writeResponse c x).rst = s.rst := by
  simp [State.writeResponse]
@[simp] theorem State.writeResponse_bist (c : Fin 8) (x : Response) (s : State) : (s.writeResponse c x).bist = s.bist := by
  simp [State.writeResponse]
@[simp] theorem State.writeResponse_perf (c : Fin 8) (x : Response) (s : State) : (s.writeResponse c x).perf = s.perf := by
  simp [State.writeResponse]
@[simp] theorem State.writeResponse_gpio (c : Fin 8) (x : Response) (s : State) : (s.writeResponse c x).gpio = s.gpio := by
  simp [State.writeResponse]
@[simp] theorem State.writeResponse_deferred (c : Fin 8) (x : Response) (s : State) : (s.writeResponse c x).deferred = s.deferred := by
  simp [State.writeResponse]
@[simp] theorem State.writeResponse_fresh (c : Fin 8) (x : Response) (s : State) : (s.writeResponse c x).fresh = s.fresh := by
  simp [State.writeResponse]
@[simp] theorem State.writeResponse_host_service (c : Fin 8) (x : Response) (s : State) : (s.writeResponse c x).host.service = s.host.service := by
  simp [State.writeResponse]
@[simp] theorem State.writeResponse_host_linkWidth (c : Fin 8) (x : Response) (s : State) : (s.writeResponse c x).host.linkWidth = s.host.linkWidth := by
  simp [State.writeResponse]
@[simp] theorem State.writeResponse_host_linkGen (c : Fin 8) (x : Response) (s : State) : (s.writeResponse c x).host.linkGen = s.host.linkGen := by
  simp [State.writeResponse]
@[simp] theorem State.writeResponse_host_busMaster (c : Fin 8) (x : Response) (s : State) : (s.writeResponse c x).host.busMaster = s.host.busMaster := by
  simp [State.writeResponse]
@[simp] theorem State.writeResponse_host_hostHeartbeat (c : Fin 8) (x : Response) (s : State) : (s.writeResponse c x).host.hostHeartbeat = s.host.hostHeartbeat := by
  simp [State.writeResponse]
@[simp] theorem State.writeResponse_host_bmcHeartbeat (c : Fin 8) (x : Response) (s : State) : (s.writeResponse c x).host.bmcHeartbeat = s.host.bmcHeartbeat := by
  simp [State.writeResponse]
@[simp] theorem State.writeResponse_host_mgmtHeartbeat (c : Fin 8) (x : Response) (s : State) : (s.writeResponse c x).host.mgmtHeartbeat = s.host.mgmtHeartbeat := by
  simp [State.writeResponse]
@[simp] theorem State.writeResponse_host_setWins (c : Fin 8) (x : Response) (s : State) : (s.writeResponse c x).host.setWins = s.host.setWins := by
  simp [State.writeResponse]
@[simp] theorem State.writeResponse_host_bar0Err (c : Fin 8) (x : Response) (s : State) : (s.writeResponse c x).host.bar0Err = s.host.bar0Err := by
  simp [State.writeResponse]
@[simp] theorem State.writeResponse_host_recoveryPending (c : Fin 8) (x : Response) (s : State) : (s.writeResponse c x).host.recoveryPending = s.host.recoveryPending := by
  simp [State.writeResponse]
@[simp] theorem State.writeResponse_host_lapseConditions (c : Fin 8) (x : Response) (s : State) : (s.writeResponse c x).host.lapseConditions = s.host.lapseConditions := by
  simp [State.writeResponse]
@[simp] theorem State.writeResponse_host_lapseTiming (c : Fin 8) (x : Response) (s : State) : (s.writeResponse c x).host.lapseTiming = s.host.lapseTiming := by
  simp [State.writeResponse]
@[simp] theorem State.writeResponse_host_lapseFaults (c : Fin 8) (x : Response) (s : State) : (s.writeResponse c x).host.lapseFaults = s.host.lapseFaults := by
  simp [State.writeResponse]
@[simp] theorem State.writeResponse_host_sems (c : Fin 8) (x : Response) (s : State) : (s.writeResponse c x).host.sems = s.host.sems := by
  simp [State.writeResponse]
@[simp] theorem State.writeResponse_host_semMs (c : Fin 8) (x : Response) (s : State) : (s.writeResponse c x).host.semMs = s.host.semMs := by
  simp [State.writeResponse]
@[simp] theorem State.writeResponse_host_msixTable (c : Fin 8) (x : Response) (s : State) : (s.writeResponse c x).host.msixTable = s.host.msixTable := by
  simp [State.writeResponse]
@[simp] theorem State.writeResponse_host_waiting (c : Fin 8) (x : Response) (s : State) : (s.writeResponse c x).host.waiting = s.host.waiting := by
  simp [State.writeResponse]
@[simp] theorem State.writeResponse_host_nextTicket (c : Fin 8) (x : Response) (s : State) : (s.writeResponse c x).host.nextTicket = s.host.nextTicket := by
  simp [State.writeResponse]
@[simp] theorem State.writeResponse_host_busyBurst (c : Fin 8) (x : Response) (s : State) : (s.writeResponse c x).host.busyBurst = s.host.busyBurst := by
  simp [State.writeResponse]
@[simp] theorem State.writeResponse_host_served (c : Fin 8) (x : Response) (s : State) : (s.writeResponse c x).host.served = s.host.served := by
  simp [State.writeResponse]
@[simp] theorem State.writeResponse_host_journalRoom (c : Fin 8) (x : Response) (s : State) : (s.writeResponse c x).host.journalRoom = s.host.journalRoom := by
  simp [State.writeResponse]
@[simp] theorem State.writeResponse_host_recovery (c : Fin 8) (x : Response) (s : State) : (s.writeResponse c x).host.recovery = s.host.recovery := by
  simp [State.writeResponse]
@[simp] theorem State.writeResponse_host_snapshot (c : Fin 8) (x : Response) (s : State) : (s.writeResponse c x).host.snapshot = s.host.snapshot := by
  simp [State.writeResponse]
@[simp] theorem State.writeResponse_host_snapshotBlank (c : Fin 8) (x : Response) (s : State) : (s.writeResponse c x).host.snapshotBlank = s.host.snapshotBlank := by
  simp [State.writeResponse]
@[simp] theorem State.writeResponse_host_lastRead (c : Fin 8) (x : Response) (s : State) : (s.writeResponse c x).host.lastRead = s.host.lastRead := by
  simp [State.writeResponse]
@[simp] theorem State.writeResponse_host_boardBus (c : Fin 8) (x : Response) (s : State) : (s.writeResponse c x).host.boardBus = s.host.boardBus := by
  simp [State.writeResponse]
@[simp] theorem State.writeResponse_fabric_granted (c : Fin 8) (x : Response) (s : State) : (s.writeResponse c x).fabric.granted = s.fabric.granted := by
  simp [State.writeResponse]
@[simp] theorem State.writeResponse_fabric_collisions (c : Fin 8) (x : Response) (s : State) : (s.writeResponse c x).fabric.collisions = s.fabric.collisions := by
  simp [State.writeResponse]
@[simp] theorem State.writeResponse_fabric_streak (c : Fin 8) (x : Response) (s : State) : (s.writeResponse c x).fabric.streak = s.fabric.streak := by
  simp [State.writeResponse]
@[simp] theorem State.writeResponse_fabric_corrected (c : Fin 8) (x : Response) (s : State) : (s.writeResponse c x).fabric.corrected = s.fabric.corrected := by
  simp [State.writeResponse]
@[simp] theorem State.writeResponse_fabric_refusals (c : Fin 8) (x : Response) (s : State) : (s.writeResponse c x).fabric.refusals = s.fabric.refusals := by
  simp [State.writeResponse]
@[simp] theorem State.writeResponse_fabric_faulty (c : Fin 8) (x : Response) (s : State) : (s.writeResponse c x).fabric.faulty = s.fabric.faulty := by
  simp [State.writeResponse]
@[simp] theorem State.writeResponse_fabric_spareFor (c : Fin 8) (x : Response) (s : State) : (s.writeResponse c x).fabric.spareFor = s.fabric.spareFor := by
  simp [State.writeResponse]
@[simp] theorem State.writeResponse_fabric_badWords (c : Fin 8) (x : Response) (s : State) : (s.writeResponse c x).fabric.badWords = s.fabric.badWords := by
  simp [State.writeResponse]
@[simp] theorem State.writeResponse_fabric_responses (c : Fin 8) (x : Response) (s : State) : (s.writeResponse c x).fabric.responses = s.fabric.responses := by
  simp [State.writeResponse]
@[simp] theorem State.writeResponse_ev_mask (c : Fin 8) (x : Response) (s : State) : (s.writeResponse c x).ev.mask = s.ev.mask := by
  simp [State.writeResponse]
@[simp] theorem State.writeResponse_ev_queueBaseLo (c : Fin 8) (x : Response) (s : State) : (s.writeResponse c x).ev.queueBaseLo = s.ev.queueBaseLo := by
  simp [State.writeResponse]
@[simp] theorem State.writeResponse_ev_queueBaseHi (c : Fin 8) (x : Response) (s : State) : (s.writeResponse c x).ev.queueBaseHi = s.ev.queueBaseHi := by
  simp [State.writeResponse]
@[simp] theorem State.writeResponse_ev_queueEnable (c : Fin 8) (x : Response) (s : State) : (s.writeResponse c x).ev.queueEnable = s.ev.queueEnable := by
  simp [State.writeResponse]
@[simp] theorem State.writeResponse_ev_routes (c : Fin 8) (x : Response) (s : State) : (s.writeResponse c x).ev.routes = s.ev.routes := by
  simp [State.writeResponse]
@[simp] theorem State.writeResponse_ev_log (c : Fin 8) (x : Response) (s : State) : (s.writeResponse c x).ev.log = s.ev.log := by
  simp [State.writeResponse]
@[simp] theorem State.writeResponse_ev_nextIndex (c : Fin 8) (x : Response) (s : State) : (s.writeResponse c x).ev.nextIndex = s.ev.nextIndex := by
  simp [State.writeResponse]
@[simp] theorem State.writeResponse_ev_headPage (c : Fin 8) (x : Response) (s : State) : (s.writeResponse c x).ev.headPage = s.ev.headPage := by
  simp [State.writeResponse]
@[simp] theorem State.writeResponse_ev_standing (c : Fin 8) (x : Response) (s : State) : (s.writeResponse c x).ev.standing = s.ev.standing := by
  simp [State.writeResponse]
@[simp] theorem State.writeResponse_ev_frozenUntil (c : Fin 8) (x : Response) (s : State) : (s.writeResponse c x).ev.frozenUntil = s.ev.frozenUntil := by
  simp [State.writeResponse]
@[simp] theorem State.writeResponse_ev_holds (c : Fin 8) (x : Response) (s : State) : (s.writeResponse c x).ev.holds = s.ev.holds := by
  simp [State.writeResponse]
@[simp] theorem State.writeResponse_ev_holdsUntil (c : Fin 8) (x : Response) (s : State) : (s.writeResponse c x).ev.holdsUntil = s.ev.holdsUntil := by
  simp [State.writeResponse]
@[simp] theorem State.writeResponse_ev_powerFailing (c : Fin 8) (x : Response) (s : State) : (s.writeResponse c x).ev.powerFailing = s.ev.powerFailing := by
  simp [State.writeResponse]
@[simp] theorem State.writeResponse_ev_regionFault (c : Fin 8) (x : Response) (s : State) : (s.writeResponse c x).ev.regionFault = s.ev.regionFault := by
  simp [State.writeResponse]
@[simp] theorem State.writeResponse_ev_clears (c : Fin 8) (x : Response) (s : State) : (s.writeResponse c x).ev.clears = s.ev.clears := by
  simp [State.writeResponse]
@[simp] theorem State.writeResponse_ev_retentionOk (c : Fin 8) (x : Response) (s : State) : (s.writeResponse c x).ev.retentionOk = s.ev.retentionOk := by
  simp [State.writeResponse]
@[simp] theorem State.writeResponse_ev_queueCi (c : Fin 8) (x : Response) (s : State) : (s.writeResponse c x).ev.queueCi = s.ev.queueCi := by
  simp [State.writeResponse]
@[simp] theorem State.writeResponse_port (c : Fin 8) (x : Response) (j : PortNo) (s : State) : (s.writeResponse c x).port j = s.port j := by
  simp [State.port]
@[simp] theorem State.writeResponse_core (c : Fin 8) (x : Response) (j : Fin 2) (s : State) : (s.writeResponse c x).core j = s.core j := by
  simp [State.core]

@[simp] theorem State.putResponse_pending (c : Fin 8) (x : Response) (s : State) : (s.putResponse c x).pending = s.pending := by
  unfold State.putResponse; simp only; split <;> simp
@[simp] theorem State.putResponse_clock (c : Fin 8) (x : Response) (s : State) : (s.putResponse c x).clock = s.clock := by
  unfold State.putResponse; simp only; split <;> simp
@[simp] theorem State.putResponse_rtc (c : Fin 8) (x : Response) (s : State) : (s.putResponse c x).rtc = s.rtc := by
  unfold State.putResponse; simp only; split <;> simp
@[simp] theorem State.putResponse_flash (c : Fin 8) (x : Response) (s : State) : (s.putResponse c x).flash = s.flash := by
  unfold State.putResponse; simp only; split <;> simp
@[simp] theorem State.putResponse_ports (c : Fin 8) (x : Response) (s : State) : (s.putResponse c x).ports = s.ports := by
  unfold State.putResponse; simp only; split <;> simp
@[simp] theorem State.putResponse_map (c : Fin 8) (x : Response) (s : State) : (s.putResponse c x).map = s.map := by
  unfold State.putResponse; simp only; split <;> simp
@[simp] theorem State.putResponse_prot (c : Fin 8) (x : Response) (s : State) : (s.putResponse c x).prot = s.prot := by
  unfold State.putResponse; simp only; split <;> simp
@[simp] theorem State.putResponse_dpll (c : Fin 8) (x : Response) (s : State) : (s.putResponse c x).dpll = s.dpll := by
  unfold State.putResponse; simp only; split <;> simp
@[simp] theorem State.putResponse_casc (c : Fin 8) (x : Response) (s : State) : (s.putResponse c x).casc = s.casc := by
  unfold State.putResponse; simp only; split <;> simp
@[simp] theorem State.putResponse_mgmt (c : Fin 8) (x : Response) (s : State) : (s.putResponse c x).mgmt = s.mgmt := by
  unfold State.putResponse; simp only; split <;> simp
@[simp] theorem State.putResponse_sec (c : Fin 8) (x : Response) (s : State) : (s.putResponse c x).sec = s.sec := by
  unfold State.putResponse; simp only; split <;> simp
@[simp] theorem State.putResponse_ember (c : Fin 8) (x : Response) (s : State) : (s.putResponse c x).ember = s.ember := by
  unfold State.putResponse; simp only; split <;> simp
@[simp] theorem State.putResponse_cap (c : Fin 8) (x : Response) (s : State) : (s.putResponse c x).cap = s.cap := by
  unfold State.putResponse; simp only; split <;> simp
@[simp] theorem State.putResponse_pwr (c : Fin 8) (x : Response) (s : State) : (s.putResponse c x).pwr = s.pwr := by
  unfold State.putResponse; simp only; split <;> simp
@[simp] theorem State.putResponse_rst (c : Fin 8) (x : Response) (s : State) : (s.putResponse c x).rst = s.rst := by
  unfold State.putResponse; simp only; split <;> simp
@[simp] theorem State.putResponse_bist (c : Fin 8) (x : Response) (s : State) : (s.putResponse c x).bist = s.bist := by
  unfold State.putResponse; simp only; split <;> simp
@[simp] theorem State.putResponse_perf (c : Fin 8) (x : Response) (s : State) : (s.putResponse c x).perf = s.perf := by
  unfold State.putResponse; simp only; split <;> simp
@[simp] theorem State.putResponse_gpio (c : Fin 8) (x : Response) (s : State) : (s.putResponse c x).gpio = s.gpio := by
  unfold State.putResponse; simp only; split <;> simp
@[simp] theorem State.putResponse_deferred (c : Fin 8) (x : Response) (s : State) : (s.putResponse c x).deferred = s.deferred := by
  unfold State.putResponse; simp only; split <;> simp
@[simp] theorem State.putResponse_fresh (c : Fin 8) (x : Response) (s : State) : (s.putResponse c x).fresh = s.fresh := by
  unfold State.putResponse; simp only; split <;> simp
@[simp] theorem State.putResponse_host_service (c : Fin 8) (x : Response) (s : State) : (s.putResponse c x).host.service = s.host.service := by
  unfold State.putResponse; simp only; split <;> simp
@[simp] theorem State.putResponse_host_linkWidth (c : Fin 8) (x : Response) (s : State) : (s.putResponse c x).host.linkWidth = s.host.linkWidth := by
  unfold State.putResponse; simp only; split <;> simp
@[simp] theorem State.putResponse_host_linkGen (c : Fin 8) (x : Response) (s : State) : (s.putResponse c x).host.linkGen = s.host.linkGen := by
  unfold State.putResponse; simp only; split <;> simp
@[simp] theorem State.putResponse_host_busMaster (c : Fin 8) (x : Response) (s : State) : (s.putResponse c x).host.busMaster = s.host.busMaster := by
  unfold State.putResponse; simp only; split <;> simp
@[simp] theorem State.putResponse_host_hostHeartbeat (c : Fin 8) (x : Response) (s : State) : (s.putResponse c x).host.hostHeartbeat = s.host.hostHeartbeat := by
  unfold State.putResponse; simp only; split <;> simp
@[simp] theorem State.putResponse_host_bmcHeartbeat (c : Fin 8) (x : Response) (s : State) : (s.putResponse c x).host.bmcHeartbeat = s.host.bmcHeartbeat := by
  unfold State.putResponse; simp only; split <;> simp
@[simp] theorem State.putResponse_host_mgmtHeartbeat (c : Fin 8) (x : Response) (s : State) : (s.putResponse c x).host.mgmtHeartbeat = s.host.mgmtHeartbeat := by
  unfold State.putResponse; simp only; split <;> simp
@[simp] theorem State.putResponse_host_setWins (c : Fin 8) (x : Response) (s : State) : (s.putResponse c x).host.setWins = s.host.setWins := by
  unfold State.putResponse; simp only; split <;> simp
@[simp] theorem State.putResponse_host_bar0Err (c : Fin 8) (x : Response) (s : State) : (s.putResponse c x).host.bar0Err = s.host.bar0Err := by
  unfold State.putResponse; simp only; split <;> simp
@[simp] theorem State.putResponse_host_recoveryPending (c : Fin 8) (x : Response) (s : State) : (s.putResponse c x).host.recoveryPending = s.host.recoveryPending := by
  unfold State.putResponse; simp only; split <;> simp
@[simp] theorem State.putResponse_host_lapseConditions (c : Fin 8) (x : Response) (s : State) : (s.putResponse c x).host.lapseConditions = s.host.lapseConditions := by
  unfold State.putResponse; simp only; split <;> simp
@[simp] theorem State.putResponse_host_lapseTiming (c : Fin 8) (x : Response) (s : State) : (s.putResponse c x).host.lapseTiming = s.host.lapseTiming := by
  unfold State.putResponse; simp only; split <;> simp
@[simp] theorem State.putResponse_host_lapseFaults (c : Fin 8) (x : Response) (s : State) : (s.putResponse c x).host.lapseFaults = s.host.lapseFaults := by
  unfold State.putResponse; simp only; split <;> simp
@[simp] theorem State.putResponse_host_sems (c : Fin 8) (x : Response) (s : State) : (s.putResponse c x).host.sems = s.host.sems := by
  unfold State.putResponse; simp only; split <;> simp
@[simp] theorem State.putResponse_host_semMs (c : Fin 8) (x : Response) (s : State) : (s.putResponse c x).host.semMs = s.host.semMs := by
  unfold State.putResponse; simp only; split <;> simp
@[simp] theorem State.putResponse_host_msixTable (c : Fin 8) (x : Response) (s : State) : (s.putResponse c x).host.msixTable = s.host.msixTable := by
  unfold State.putResponse; simp only; split <;> simp
@[simp] theorem State.putResponse_host_waiting (c : Fin 8) (x : Response) (s : State) : (s.putResponse c x).host.waiting = s.host.waiting := by
  unfold State.putResponse; simp only; split <;> simp
@[simp] theorem State.putResponse_host_nextTicket (c : Fin 8) (x : Response) (s : State) : (s.putResponse c x).host.nextTicket = s.host.nextTicket := by
  unfold State.putResponse; simp only; split <;> simp
@[simp] theorem State.putResponse_host_busyBurst (c : Fin 8) (x : Response) (s : State) : (s.putResponse c x).host.busyBurst = s.host.busyBurst := by
  unfold State.putResponse; simp only; split <;> simp
@[simp] theorem State.putResponse_host_served (c : Fin 8) (x : Response) (s : State) : (s.putResponse c x).host.served = s.host.served := by
  unfold State.putResponse; simp only; split <;> simp
@[simp] theorem State.putResponse_host_journalRoom (c : Fin 8) (x : Response) (s : State) : (s.putResponse c x).host.journalRoom = s.host.journalRoom := by
  unfold State.putResponse; simp only; split <;> simp
@[simp] theorem State.putResponse_host_recovery (c : Fin 8) (x : Response) (s : State) : (s.putResponse c x).host.recovery = s.host.recovery := by
  unfold State.putResponse; simp only; split <;> simp
@[simp] theorem State.putResponse_host_snapshot (c : Fin 8) (x : Response) (s : State) : (s.putResponse c x).host.snapshot = s.host.snapshot := by
  unfold State.putResponse; simp only; split <;> simp
@[simp] theorem State.putResponse_host_snapshotBlank (c : Fin 8) (x : Response) (s : State) : (s.putResponse c x).host.snapshotBlank = s.host.snapshotBlank := by
  unfold State.putResponse; simp only; split <;> simp
@[simp] theorem State.putResponse_host_lastRead (c : Fin 8) (x : Response) (s : State) : (s.putResponse c x).host.lastRead = s.host.lastRead := by
  unfold State.putResponse; simp only; split <;> simp
@[simp] theorem State.putResponse_host_boardBus (c : Fin 8) (x : Response) (s : State) : (s.putResponse c x).host.boardBus = s.host.boardBus := by
  unfold State.putResponse; simp only; split <;> simp
@[simp] theorem State.putResponse_fabric_granted (c : Fin 8) (x : Response) (s : State) : (s.putResponse c x).fabric.granted = s.fabric.granted := by
  unfold State.putResponse; simp only; split <;> simp
@[simp] theorem State.putResponse_fabric_collisions (c : Fin 8) (x : Response) (s : State) : (s.putResponse c x).fabric.collisions = s.fabric.collisions := by
  unfold State.putResponse; simp only; split <;> simp
@[simp] theorem State.putResponse_fabric_streak (c : Fin 8) (x : Response) (s : State) : (s.putResponse c x).fabric.streak = s.fabric.streak := by
  unfold State.putResponse; simp only; split <;> simp
@[simp] theorem State.putResponse_fabric_corrected (c : Fin 8) (x : Response) (s : State) : (s.putResponse c x).fabric.corrected = s.fabric.corrected := by
  unfold State.putResponse; simp only; split <;> simp
@[simp] theorem State.putResponse_fabric_refusals (c : Fin 8) (x : Response) (s : State) : (s.putResponse c x).fabric.refusals = s.fabric.refusals := by
  unfold State.putResponse; simp only; split <;> simp
@[simp] theorem State.putResponse_fabric_faulty (c : Fin 8) (x : Response) (s : State) : (s.putResponse c x).fabric.faulty = s.fabric.faulty := by
  unfold State.putResponse; simp only; split <;> simp
@[simp] theorem State.putResponse_fabric_spareFor (c : Fin 8) (x : Response) (s : State) : (s.putResponse c x).fabric.spareFor = s.fabric.spareFor := by
  unfold State.putResponse; simp only; split <;> simp
@[simp] theorem State.putResponse_fabric_badWords (c : Fin 8) (x : Response) (s : State) : (s.putResponse c x).fabric.badWords = s.fabric.badWords := by
  unfold State.putResponse; simp only; split <;> simp
@[simp] theorem State.putResponse_fabric_responses (c : Fin 8) (x : Response) (s : State) : (s.putResponse c x).fabric.responses = s.fabric.responses := by
  unfold State.putResponse; simp only; split <;> simp
@[simp] theorem State.putResponse_ev_mask (c : Fin 8) (x : Response) (s : State) : (s.putResponse c x).ev.mask = s.ev.mask := by
  unfold State.putResponse; simp only; split <;> simp
@[simp] theorem State.putResponse_ev_queueBaseLo (c : Fin 8) (x : Response) (s : State) : (s.putResponse c x).ev.queueBaseLo = s.ev.queueBaseLo := by
  unfold State.putResponse; simp only; split <;> simp
@[simp] theorem State.putResponse_ev_queueBaseHi (c : Fin 8) (x : Response) (s : State) : (s.putResponse c x).ev.queueBaseHi = s.ev.queueBaseHi := by
  unfold State.putResponse; simp only; split <;> simp
@[simp] theorem State.putResponse_ev_queueEnable (c : Fin 8) (x : Response) (s : State) : (s.putResponse c x).ev.queueEnable = s.ev.queueEnable := by
  unfold State.putResponse; simp only; split <;> simp
@[simp] theorem State.putResponse_ev_routes (c : Fin 8) (x : Response) (s : State) : (s.putResponse c x).ev.routes = s.ev.routes := by
  unfold State.putResponse; simp only; split <;> simp
@[simp] theorem State.putResponse_ev_log (c : Fin 8) (x : Response) (s : State) : (s.putResponse c x).ev.log = s.ev.log := by
  unfold State.putResponse; simp only; split <;> simp
@[simp] theorem State.putResponse_ev_nextIndex (c : Fin 8) (x : Response) (s : State) : (s.putResponse c x).ev.nextIndex = s.ev.nextIndex := by
  unfold State.putResponse; simp only; split <;> simp
@[simp] theorem State.putResponse_ev_headPage (c : Fin 8) (x : Response) (s : State) : (s.putResponse c x).ev.headPage = s.ev.headPage := by
  unfold State.putResponse; simp only; split <;> simp
@[simp] theorem State.putResponse_ev_standing (c : Fin 8) (x : Response) (s : State) : (s.putResponse c x).ev.standing = s.ev.standing := by
  unfold State.putResponse; simp only; split <;> simp
@[simp] theorem State.putResponse_ev_frozenUntil (c : Fin 8) (x : Response) (s : State) : (s.putResponse c x).ev.frozenUntil = s.ev.frozenUntil := by
  unfold State.putResponse; simp only; split <;> simp
@[simp] theorem State.putResponse_ev_holds (c : Fin 8) (x : Response) (s : State) : (s.putResponse c x).ev.holds = s.ev.holds := by
  unfold State.putResponse; simp only; split <;> simp
@[simp] theorem State.putResponse_ev_holdsUntil (c : Fin 8) (x : Response) (s : State) : (s.putResponse c x).ev.holdsUntil = s.ev.holdsUntil := by
  unfold State.putResponse; simp only; split <;> simp
@[simp] theorem State.putResponse_ev_powerFailing (c : Fin 8) (x : Response) (s : State) : (s.putResponse c x).ev.powerFailing = s.ev.powerFailing := by
  unfold State.putResponse; simp only; split <;> simp
@[simp] theorem State.putResponse_ev_regionFault (c : Fin 8) (x : Response) (s : State) : (s.putResponse c x).ev.regionFault = s.ev.regionFault := by
  unfold State.putResponse; simp only; split <;> simp
@[simp] theorem State.putResponse_ev_clears (c : Fin 8) (x : Response) (s : State) : (s.putResponse c x).ev.clears = s.ev.clears := by
  unfold State.putResponse; simp only; split <;> simp
@[simp] theorem State.putResponse_ev_retentionOk (c : Fin 8) (x : Response) (s : State) : (s.putResponse c x).ev.retentionOk = s.ev.retentionOk := by
  unfold State.putResponse; simp only; split <;> simp
@[simp] theorem State.putResponse_ev_queueCi (c : Fin 8) (x : Response) (s : State) : (s.putResponse c x).ev.queueCi = s.ev.queueCi := by
  unfold State.putResponse; simp only; split <;> simp
@[simp] theorem State.putResponse_port (c : Fin 8) (x : Response) (j : PortNo) (s : State) : (s.putResponse c x).port j = s.port j := by
  simp [State.port]
@[simp] theorem State.putResponse_core (c : Fin 8) (x : Response) (j : Fin 2) (s : State) : (s.putResponse c x).core j = s.core j := by
  simp [State.core]

@[simp] theorem State.putResponses_pending (xs : List (Fin 8 × Response)) (s : State) : (State.putResponses xs s).pending = s.pending := by
  induction xs generalizing s with
  | nil => rfl
  | cons x xs ih => simp [State.putResponses, ih]
@[simp] theorem State.putResponses_clock (xs : List (Fin 8 × Response)) (s : State) : (State.putResponses xs s).clock = s.clock := by
  induction xs generalizing s with
  | nil => rfl
  | cons x xs ih => simp [State.putResponses, ih]
@[simp] theorem State.putResponses_rtc (xs : List (Fin 8 × Response)) (s : State) : (State.putResponses xs s).rtc = s.rtc := by
  induction xs generalizing s with
  | nil => rfl
  | cons x xs ih => simp [State.putResponses, ih]
@[simp] theorem State.putResponses_flash (xs : List (Fin 8 × Response)) (s : State) : (State.putResponses xs s).flash = s.flash := by
  induction xs generalizing s with
  | nil => rfl
  | cons x xs ih => simp [State.putResponses, ih]
@[simp] theorem State.putResponses_ports (xs : List (Fin 8 × Response)) (s : State) : (State.putResponses xs s).ports = s.ports := by
  induction xs generalizing s with
  | nil => rfl
  | cons x xs ih => simp [State.putResponses, ih]
@[simp] theorem State.putResponses_map (xs : List (Fin 8 × Response)) (s : State) : (State.putResponses xs s).map = s.map := by
  induction xs generalizing s with
  | nil => rfl
  | cons x xs ih => simp [State.putResponses, ih]
@[simp] theorem State.putResponses_prot (xs : List (Fin 8 × Response)) (s : State) : (State.putResponses xs s).prot = s.prot := by
  induction xs generalizing s with
  | nil => rfl
  | cons x xs ih => simp [State.putResponses, ih]
@[simp] theorem State.putResponses_dpll (xs : List (Fin 8 × Response)) (s : State) : (State.putResponses xs s).dpll = s.dpll := by
  induction xs generalizing s with
  | nil => rfl
  | cons x xs ih => simp [State.putResponses, ih]
@[simp] theorem State.putResponses_casc (xs : List (Fin 8 × Response)) (s : State) : (State.putResponses xs s).casc = s.casc := by
  induction xs generalizing s with
  | nil => rfl
  | cons x xs ih => simp [State.putResponses, ih]
@[simp] theorem State.putResponses_mgmt (xs : List (Fin 8 × Response)) (s : State) : (State.putResponses xs s).mgmt = s.mgmt := by
  induction xs generalizing s with
  | nil => rfl
  | cons x xs ih => simp [State.putResponses, ih]
@[simp] theorem State.putResponses_sec (xs : List (Fin 8 × Response)) (s : State) : (State.putResponses xs s).sec = s.sec := by
  induction xs generalizing s with
  | nil => rfl
  | cons x xs ih => simp [State.putResponses, ih]
@[simp] theorem State.putResponses_ember (xs : List (Fin 8 × Response)) (s : State) : (State.putResponses xs s).ember = s.ember := by
  induction xs generalizing s with
  | nil => rfl
  | cons x xs ih => simp [State.putResponses, ih]
@[simp] theorem State.putResponses_cap (xs : List (Fin 8 × Response)) (s : State) : (State.putResponses xs s).cap = s.cap := by
  induction xs generalizing s with
  | nil => rfl
  | cons x xs ih => simp [State.putResponses, ih]
@[simp] theorem State.putResponses_pwr (xs : List (Fin 8 × Response)) (s : State) : (State.putResponses xs s).pwr = s.pwr := by
  induction xs generalizing s with
  | nil => rfl
  | cons x xs ih => simp [State.putResponses, ih]
@[simp] theorem State.putResponses_rst (xs : List (Fin 8 × Response)) (s : State) : (State.putResponses xs s).rst = s.rst := by
  induction xs generalizing s with
  | nil => rfl
  | cons x xs ih => simp [State.putResponses, ih]
@[simp] theorem State.putResponses_bist (xs : List (Fin 8 × Response)) (s : State) : (State.putResponses xs s).bist = s.bist := by
  induction xs generalizing s with
  | nil => rfl
  | cons x xs ih => simp [State.putResponses, ih]
@[simp] theorem State.putResponses_perf (xs : List (Fin 8 × Response)) (s : State) : (State.putResponses xs s).perf = s.perf := by
  induction xs generalizing s with
  | nil => rfl
  | cons x xs ih => simp [State.putResponses, ih]
@[simp] theorem State.putResponses_gpio (xs : List (Fin 8 × Response)) (s : State) : (State.putResponses xs s).gpio = s.gpio := by
  induction xs generalizing s with
  | nil => rfl
  | cons x xs ih => simp [State.putResponses, ih]
@[simp] theorem State.putResponses_deferred (xs : List (Fin 8 × Response)) (s : State) : (State.putResponses xs s).deferred = s.deferred := by
  induction xs generalizing s with
  | nil => rfl
  | cons x xs ih => simp [State.putResponses, ih]
@[simp] theorem State.putResponses_fresh (xs : List (Fin 8 × Response)) (s : State) : (State.putResponses xs s).fresh = s.fresh := by
  induction xs generalizing s with
  | nil => rfl
  | cons x xs ih => simp [State.putResponses, ih]
@[simp] theorem State.putResponses_host_service (xs : List (Fin 8 × Response)) (s : State) : (State.putResponses xs s).host.service = s.host.service := by
  induction xs generalizing s with
  | nil => rfl
  | cons x xs ih => simp [State.putResponses, ih]
@[simp] theorem State.putResponses_host_linkWidth (xs : List (Fin 8 × Response)) (s : State) : (State.putResponses xs s).host.linkWidth = s.host.linkWidth := by
  induction xs generalizing s with
  | nil => rfl
  | cons x xs ih => simp [State.putResponses, ih]
@[simp] theorem State.putResponses_host_linkGen (xs : List (Fin 8 × Response)) (s : State) : (State.putResponses xs s).host.linkGen = s.host.linkGen := by
  induction xs generalizing s with
  | nil => rfl
  | cons x xs ih => simp [State.putResponses, ih]
@[simp] theorem State.putResponses_host_busMaster (xs : List (Fin 8 × Response)) (s : State) : (State.putResponses xs s).host.busMaster = s.host.busMaster := by
  induction xs generalizing s with
  | nil => rfl
  | cons x xs ih => simp [State.putResponses, ih]
@[simp] theorem State.putResponses_host_hostHeartbeat (xs : List (Fin 8 × Response)) (s : State) : (State.putResponses xs s).host.hostHeartbeat = s.host.hostHeartbeat := by
  induction xs generalizing s with
  | nil => rfl
  | cons x xs ih => simp [State.putResponses, ih]
@[simp] theorem State.putResponses_host_bmcHeartbeat (xs : List (Fin 8 × Response)) (s : State) : (State.putResponses xs s).host.bmcHeartbeat = s.host.bmcHeartbeat := by
  induction xs generalizing s with
  | nil => rfl
  | cons x xs ih => simp [State.putResponses, ih]
@[simp] theorem State.putResponses_host_mgmtHeartbeat (xs : List (Fin 8 × Response)) (s : State) : (State.putResponses xs s).host.mgmtHeartbeat = s.host.mgmtHeartbeat := by
  induction xs generalizing s with
  | nil => rfl
  | cons x xs ih => simp [State.putResponses, ih]
@[simp] theorem State.putResponses_host_setWins (xs : List (Fin 8 × Response)) (s : State) : (State.putResponses xs s).host.setWins = s.host.setWins := by
  induction xs generalizing s with
  | nil => rfl
  | cons x xs ih => simp [State.putResponses, ih]
@[simp] theorem State.putResponses_host_bar0Err (xs : List (Fin 8 × Response)) (s : State) : (State.putResponses xs s).host.bar0Err = s.host.bar0Err := by
  induction xs generalizing s with
  | nil => rfl
  | cons x xs ih => simp [State.putResponses, ih]
@[simp] theorem State.putResponses_host_recoveryPending (xs : List (Fin 8 × Response)) (s : State) : (State.putResponses xs s).host.recoveryPending = s.host.recoveryPending := by
  induction xs generalizing s with
  | nil => rfl
  | cons x xs ih => simp [State.putResponses, ih]
@[simp] theorem State.putResponses_host_lapseConditions (xs : List (Fin 8 × Response)) (s : State) : (State.putResponses xs s).host.lapseConditions = s.host.lapseConditions := by
  induction xs generalizing s with
  | nil => rfl
  | cons x xs ih => simp [State.putResponses, ih]
@[simp] theorem State.putResponses_host_lapseTiming (xs : List (Fin 8 × Response)) (s : State) : (State.putResponses xs s).host.lapseTiming = s.host.lapseTiming := by
  induction xs generalizing s with
  | nil => rfl
  | cons x xs ih => simp [State.putResponses, ih]
@[simp] theorem State.putResponses_host_lapseFaults (xs : List (Fin 8 × Response)) (s : State) : (State.putResponses xs s).host.lapseFaults = s.host.lapseFaults := by
  induction xs generalizing s with
  | nil => rfl
  | cons x xs ih => simp [State.putResponses, ih]
@[simp] theorem State.putResponses_host_sems (xs : List (Fin 8 × Response)) (s : State) : (State.putResponses xs s).host.sems = s.host.sems := by
  induction xs generalizing s with
  | nil => rfl
  | cons x xs ih => simp [State.putResponses, ih]
@[simp] theorem State.putResponses_host_semMs (xs : List (Fin 8 × Response)) (s : State) : (State.putResponses xs s).host.semMs = s.host.semMs := by
  induction xs generalizing s with
  | nil => rfl
  | cons x xs ih => simp [State.putResponses, ih]
@[simp] theorem State.putResponses_host_msixTable (xs : List (Fin 8 × Response)) (s : State) : (State.putResponses xs s).host.msixTable = s.host.msixTable := by
  induction xs generalizing s with
  | nil => rfl
  | cons x xs ih => simp [State.putResponses, ih]
@[simp] theorem State.putResponses_host_waiting (xs : List (Fin 8 × Response)) (s : State) : (State.putResponses xs s).host.waiting = s.host.waiting := by
  induction xs generalizing s with
  | nil => rfl
  | cons x xs ih => simp [State.putResponses, ih]
@[simp] theorem State.putResponses_host_nextTicket (xs : List (Fin 8 × Response)) (s : State) : (State.putResponses xs s).host.nextTicket = s.host.nextTicket := by
  induction xs generalizing s with
  | nil => rfl
  | cons x xs ih => simp [State.putResponses, ih]
@[simp] theorem State.putResponses_host_busyBurst (xs : List (Fin 8 × Response)) (s : State) : (State.putResponses xs s).host.busyBurst = s.host.busyBurst := by
  induction xs generalizing s with
  | nil => rfl
  | cons x xs ih => simp [State.putResponses, ih]
@[simp] theorem State.putResponses_host_served (xs : List (Fin 8 × Response)) (s : State) : (State.putResponses xs s).host.served = s.host.served := by
  induction xs generalizing s with
  | nil => rfl
  | cons x xs ih => simp [State.putResponses, ih]
@[simp] theorem State.putResponses_host_journalRoom (xs : List (Fin 8 × Response)) (s : State) : (State.putResponses xs s).host.journalRoom = s.host.journalRoom := by
  induction xs generalizing s with
  | nil => rfl
  | cons x xs ih => simp [State.putResponses, ih]
@[simp] theorem State.putResponses_host_recovery (xs : List (Fin 8 × Response)) (s : State) : (State.putResponses xs s).host.recovery = s.host.recovery := by
  induction xs generalizing s with
  | nil => rfl
  | cons x xs ih => simp [State.putResponses, ih]
@[simp] theorem State.putResponses_host_snapshot (xs : List (Fin 8 × Response)) (s : State) : (State.putResponses xs s).host.snapshot = s.host.snapshot := by
  induction xs generalizing s with
  | nil => rfl
  | cons x xs ih => simp [State.putResponses, ih]
@[simp] theorem State.putResponses_host_snapshotBlank (xs : List (Fin 8 × Response)) (s : State) : (State.putResponses xs s).host.snapshotBlank = s.host.snapshotBlank := by
  induction xs generalizing s with
  | nil => rfl
  | cons x xs ih => simp [State.putResponses, ih]
@[simp] theorem State.putResponses_host_lastRead (xs : List (Fin 8 × Response)) (s : State) : (State.putResponses xs s).host.lastRead = s.host.lastRead := by
  induction xs generalizing s with
  | nil => rfl
  | cons x xs ih => simp [State.putResponses, ih]
@[simp] theorem State.putResponses_host_boardBus (xs : List (Fin 8 × Response)) (s : State) : (State.putResponses xs s).host.boardBus = s.host.boardBus := by
  induction xs generalizing s with
  | nil => rfl
  | cons x xs ih => simp [State.putResponses, ih]
@[simp] theorem State.putResponses_fabric_granted (xs : List (Fin 8 × Response)) (s : State) : (State.putResponses xs s).fabric.granted = s.fabric.granted := by
  induction xs generalizing s with
  | nil => rfl
  | cons x xs ih => simp [State.putResponses, ih]
@[simp] theorem State.putResponses_fabric_collisions (xs : List (Fin 8 × Response)) (s : State) : (State.putResponses xs s).fabric.collisions = s.fabric.collisions := by
  induction xs generalizing s with
  | nil => rfl
  | cons x xs ih => simp [State.putResponses, ih]
@[simp] theorem State.putResponses_fabric_streak (xs : List (Fin 8 × Response)) (s : State) : (State.putResponses xs s).fabric.streak = s.fabric.streak := by
  induction xs generalizing s with
  | nil => rfl
  | cons x xs ih => simp [State.putResponses, ih]
@[simp] theorem State.putResponses_fabric_corrected (xs : List (Fin 8 × Response)) (s : State) : (State.putResponses xs s).fabric.corrected = s.fabric.corrected := by
  induction xs generalizing s with
  | nil => rfl
  | cons x xs ih => simp [State.putResponses, ih]
@[simp] theorem State.putResponses_fabric_refusals (xs : List (Fin 8 × Response)) (s : State) : (State.putResponses xs s).fabric.refusals = s.fabric.refusals := by
  induction xs generalizing s with
  | nil => rfl
  | cons x xs ih => simp [State.putResponses, ih]
@[simp] theorem State.putResponses_fabric_faulty (xs : List (Fin 8 × Response)) (s : State) : (State.putResponses xs s).fabric.faulty = s.fabric.faulty := by
  induction xs generalizing s with
  | nil => rfl
  | cons x xs ih => simp [State.putResponses, ih]
@[simp] theorem State.putResponses_fabric_spareFor (xs : List (Fin 8 × Response)) (s : State) : (State.putResponses xs s).fabric.spareFor = s.fabric.spareFor := by
  induction xs generalizing s with
  | nil => rfl
  | cons x xs ih => simp [State.putResponses, ih]
@[simp] theorem State.putResponses_fabric_badWords (xs : List (Fin 8 × Response)) (s : State) : (State.putResponses xs s).fabric.badWords = s.fabric.badWords := by
  induction xs generalizing s with
  | nil => rfl
  | cons x xs ih => simp [State.putResponses, ih]
@[simp] theorem State.putResponses_fabric_responses (xs : List (Fin 8 × Response)) (s : State) : (State.putResponses xs s).fabric.responses = s.fabric.responses := by
  induction xs generalizing s with
  | nil => rfl
  | cons x xs ih => simp [State.putResponses, ih]
@[simp] theorem State.putResponses_ev_mask (xs : List (Fin 8 × Response)) (s : State) : (State.putResponses xs s).ev.mask = s.ev.mask := by
  induction xs generalizing s with
  | nil => rfl
  | cons x xs ih => simp [State.putResponses, ih]
@[simp] theorem State.putResponses_ev_queueBaseLo (xs : List (Fin 8 × Response)) (s : State) : (State.putResponses xs s).ev.queueBaseLo = s.ev.queueBaseLo := by
  induction xs generalizing s with
  | nil => rfl
  | cons x xs ih => simp [State.putResponses, ih]
@[simp] theorem State.putResponses_ev_queueBaseHi (xs : List (Fin 8 × Response)) (s : State) : (State.putResponses xs s).ev.queueBaseHi = s.ev.queueBaseHi := by
  induction xs generalizing s with
  | nil => rfl
  | cons x xs ih => simp [State.putResponses, ih]
@[simp] theorem State.putResponses_ev_queueEnable (xs : List (Fin 8 × Response)) (s : State) : (State.putResponses xs s).ev.queueEnable = s.ev.queueEnable := by
  induction xs generalizing s with
  | nil => rfl
  | cons x xs ih => simp [State.putResponses, ih]
@[simp] theorem State.putResponses_ev_routes (xs : List (Fin 8 × Response)) (s : State) : (State.putResponses xs s).ev.routes = s.ev.routes := by
  induction xs generalizing s with
  | nil => rfl
  | cons x xs ih => simp [State.putResponses, ih]
@[simp] theorem State.putResponses_ev_log (xs : List (Fin 8 × Response)) (s : State) : (State.putResponses xs s).ev.log = s.ev.log := by
  induction xs generalizing s with
  | nil => rfl
  | cons x xs ih => simp [State.putResponses, ih]
@[simp] theorem State.putResponses_ev_nextIndex (xs : List (Fin 8 × Response)) (s : State) : (State.putResponses xs s).ev.nextIndex = s.ev.nextIndex := by
  induction xs generalizing s with
  | nil => rfl
  | cons x xs ih => simp [State.putResponses, ih]
@[simp] theorem State.putResponses_ev_headPage (xs : List (Fin 8 × Response)) (s : State) : (State.putResponses xs s).ev.headPage = s.ev.headPage := by
  induction xs generalizing s with
  | nil => rfl
  | cons x xs ih => simp [State.putResponses, ih]
@[simp] theorem State.putResponses_ev_standing (xs : List (Fin 8 × Response)) (s : State) : (State.putResponses xs s).ev.standing = s.ev.standing := by
  induction xs generalizing s with
  | nil => rfl
  | cons x xs ih => simp [State.putResponses, ih]
@[simp] theorem State.putResponses_ev_frozenUntil (xs : List (Fin 8 × Response)) (s : State) : (State.putResponses xs s).ev.frozenUntil = s.ev.frozenUntil := by
  induction xs generalizing s with
  | nil => rfl
  | cons x xs ih => simp [State.putResponses, ih]
@[simp] theorem State.putResponses_ev_holds (xs : List (Fin 8 × Response)) (s : State) : (State.putResponses xs s).ev.holds = s.ev.holds := by
  induction xs generalizing s with
  | nil => rfl
  | cons x xs ih => simp [State.putResponses, ih]
@[simp] theorem State.putResponses_ev_holdsUntil (xs : List (Fin 8 × Response)) (s : State) : (State.putResponses xs s).ev.holdsUntil = s.ev.holdsUntil := by
  induction xs generalizing s with
  | nil => rfl
  | cons x xs ih => simp [State.putResponses, ih]
@[simp] theorem State.putResponses_ev_powerFailing (xs : List (Fin 8 × Response)) (s : State) : (State.putResponses xs s).ev.powerFailing = s.ev.powerFailing := by
  induction xs generalizing s with
  | nil => rfl
  | cons x xs ih => simp [State.putResponses, ih]
@[simp] theorem State.putResponses_ev_regionFault (xs : List (Fin 8 × Response)) (s : State) : (State.putResponses xs s).ev.regionFault = s.ev.regionFault := by
  induction xs generalizing s with
  | nil => rfl
  | cons x xs ih => simp [State.putResponses, ih]
@[simp] theorem State.putResponses_ev_clears (xs : List (Fin 8 × Response)) (s : State) : (State.putResponses xs s).ev.clears = s.ev.clears := by
  induction xs generalizing s with
  | nil => rfl
  | cons x xs ih => simp [State.putResponses, ih]
@[simp] theorem State.putResponses_ev_retentionOk (xs : List (Fin 8 × Response)) (s : State) : (State.putResponses xs s).ev.retentionOk = s.ev.retentionOk := by
  induction xs generalizing s with
  | nil => rfl
  | cons x xs ih => simp [State.putResponses, ih]
@[simp] theorem State.putResponses_ev_queueCi (xs : List (Fin 8 × Response)) (s : State) : (State.putResponses xs s).ev.queueCi = s.ev.queueCi := by
  induction xs generalizing s with
  | nil => rfl
  | cons x xs ih => simp [State.putResponses, ih]

@[simp] theorem State.settle_pending  (s : State) : s.settle.pending = s.pending := by
  unfold State.settle; split <;> simp
@[simp] theorem State.settle_clock  (s : State) : s.settle.clock = s.clock := by
  unfold State.settle; split <;> simp
@[simp] theorem State.settle_rtc  (s : State) : s.settle.rtc = s.rtc := by
  unfold State.settle; split <;> simp
@[simp] theorem State.settle_flash  (s : State) : s.settle.flash = s.flash := by
  unfold State.settle; split <;> simp
@[simp] theorem State.settle_ports  (s : State) : s.settle.ports = s.ports := by
  unfold State.settle; split <;> simp
@[simp] theorem State.settle_map  (s : State) : s.settle.map = s.map := by
  unfold State.settle; split <;> simp
@[simp] theorem State.settle_prot  (s : State) : s.settle.prot = s.prot := by
  unfold State.settle; split <;> simp
@[simp] theorem State.settle_dpll  (s : State) : s.settle.dpll = s.dpll := by
  unfold State.settle; split <;> simp
@[simp] theorem State.settle_casc  (s : State) : s.settle.casc = s.casc := by
  unfold State.settle; split <;> simp
@[simp] theorem State.settle_mgmt  (s : State) : s.settle.mgmt = s.mgmt := by
  unfold State.settle; split <;> simp
@[simp] theorem State.settle_sec  (s : State) : s.settle.sec = s.sec := by
  unfold State.settle; split <;> simp
@[simp] theorem State.settle_ember  (s : State) : s.settle.ember = s.ember := by
  unfold State.settle; split <;> simp
@[simp] theorem State.settle_cap  (s : State) : s.settle.cap = s.cap := by
  unfold State.settle; split <;> simp
@[simp] theorem State.settle_pwr  (s : State) : s.settle.pwr = s.pwr := by
  unfold State.settle; split <;> simp
@[simp] theorem State.settle_rst  (s : State) : s.settle.rst = s.rst := by
  unfold State.settle; split <;> simp
@[simp] theorem State.settle_bist  (s : State) : s.settle.bist = s.bist := by
  unfold State.settle; split <;> simp
@[simp] theorem State.settle_perf  (s : State) : s.settle.perf = s.perf := by
  unfold State.settle; split <;> simp
@[simp] theorem State.settle_gpio  (s : State) : s.settle.gpio = s.gpio := by
  unfold State.settle; split <;> simp
@[simp] theorem State.settle_deferred  (s : State) : s.settle.deferred = s.deferred := by
  unfold State.settle; split <;> simp
@[simp] theorem State.settle_fresh  (s : State) : s.settle.fresh = s.fresh := by
  unfold State.settle; split <;> simp
@[simp] theorem State.settle_host_service  (s : State) : s.settle.host.service = s.host.service := by
  unfold State.settle; split <;> simp
@[simp] theorem State.settle_host_linkWidth  (s : State) : s.settle.host.linkWidth = s.host.linkWidth := by
  unfold State.settle; split <;> simp
@[simp] theorem State.settle_host_linkGen  (s : State) : s.settle.host.linkGen = s.host.linkGen := by
  unfold State.settle; split <;> simp
@[simp] theorem State.settle_host_busMaster  (s : State) : s.settle.host.busMaster = s.host.busMaster := by
  unfold State.settle; split <;> simp
@[simp] theorem State.settle_host_hostHeartbeat  (s : State) : s.settle.host.hostHeartbeat = s.host.hostHeartbeat := by
  unfold State.settle; split <;> simp
@[simp] theorem State.settle_host_bmcHeartbeat  (s : State) : s.settle.host.bmcHeartbeat = s.host.bmcHeartbeat := by
  unfold State.settle; split <;> simp
@[simp] theorem State.settle_host_mgmtHeartbeat  (s : State) : s.settle.host.mgmtHeartbeat = s.host.mgmtHeartbeat := by
  unfold State.settle; split <;> simp
@[simp] theorem State.settle_host_setWins  (s : State) : s.settle.host.setWins = s.host.setWins := by
  unfold State.settle; split <;> simp
@[simp] theorem State.settle_host_bar0Err  (s : State) : s.settle.host.bar0Err = s.host.bar0Err := by
  unfold State.settle; split <;> simp
@[simp] theorem State.settle_host_recoveryPending  (s : State) : s.settle.host.recoveryPending = s.host.recoveryPending := by
  unfold State.settle; split <;> simp
@[simp] theorem State.settle_host_lapseConditions  (s : State) : s.settle.host.lapseConditions = s.host.lapseConditions := by
  unfold State.settle; split <;> simp
@[simp] theorem State.settle_host_lapseTiming  (s : State) : s.settle.host.lapseTiming = s.host.lapseTiming := by
  unfold State.settle; split <;> simp
@[simp] theorem State.settle_host_lapseFaults  (s : State) : s.settle.host.lapseFaults = s.host.lapseFaults := by
  unfold State.settle; split <;> simp
@[simp] theorem State.settle_host_sems  (s : State) : s.settle.host.sems = s.host.sems := by
  unfold State.settle; split <;> simp
@[simp] theorem State.settle_host_semMs  (s : State) : s.settle.host.semMs = s.host.semMs := by
  unfold State.settle; split <;> simp
@[simp] theorem State.settle_host_msixTable  (s : State) : s.settle.host.msixTable = s.host.msixTable := by
  unfold State.settle; split <;> simp
@[simp] theorem State.settle_host_waiting  (s : State) : s.settle.host.waiting = s.host.waiting := by
  unfold State.settle; split <;> simp
@[simp] theorem State.settle_host_nextTicket  (s : State) : s.settle.host.nextTicket = s.host.nextTicket := by
  unfold State.settle; split <;> simp
@[simp] theorem State.settle_host_busyBurst  (s : State) : s.settle.host.busyBurst = s.host.busyBurst := by
  unfold State.settle; split <;> simp
@[simp] theorem State.settle_host_served  (s : State) : s.settle.host.served = s.host.served := by
  unfold State.settle; split <;> simp
@[simp] theorem State.settle_host_journalRoom  (s : State) : s.settle.host.journalRoom = s.host.journalRoom := by
  unfold State.settle; split <;> simp
@[simp] theorem State.settle_host_recovery  (s : State) : s.settle.host.recovery = s.host.recovery := by
  unfold State.settle; split <;> simp
@[simp] theorem State.settle_host_snapshot  (s : State) : s.settle.host.snapshot = s.host.snapshot := by
  unfold State.settle; split <;> simp
@[simp] theorem State.settle_host_snapshotBlank  (s : State) : s.settle.host.snapshotBlank = s.host.snapshotBlank := by
  unfold State.settle; split <;> simp
@[simp] theorem State.settle_host_lastRead  (s : State) : s.settle.host.lastRead = s.host.lastRead := by
  unfold State.settle; split <;> simp
@[simp] theorem State.settle_host_boardBus  (s : State) : s.settle.host.boardBus = s.host.boardBus := by
  unfold State.settle; split <;> simp
@[simp] theorem State.settle_fabric_granted  (s : State) : s.settle.fabric.granted = s.fabric.granted := by
  unfold State.settle; split <;> simp
@[simp] theorem State.settle_fabric_collisions  (s : State) : s.settle.fabric.collisions = s.fabric.collisions := by
  unfold State.settle; split <;> simp
@[simp] theorem State.settle_fabric_streak  (s : State) : s.settle.fabric.streak = s.fabric.streak := by
  unfold State.settle; split <;> simp
@[simp] theorem State.settle_fabric_corrected  (s : State) : s.settle.fabric.corrected = s.fabric.corrected := by
  unfold State.settle; split <;> simp
@[simp] theorem State.settle_fabric_refusals  (s : State) : s.settle.fabric.refusals = s.fabric.refusals := by
  unfold State.settle; split <;> simp
@[simp] theorem State.settle_fabric_faulty  (s : State) : s.settle.fabric.faulty = s.fabric.faulty := by
  unfold State.settle; split <;> simp
@[simp] theorem State.settle_fabric_spareFor  (s : State) : s.settle.fabric.spareFor = s.fabric.spareFor := by
  unfold State.settle; split <;> simp
@[simp] theorem State.settle_fabric_badWords  (s : State) : s.settle.fabric.badWords = s.fabric.badWords := by
  unfold State.settle; split <;> simp
@[simp] theorem State.settle_fabric_responses  (s : State) : s.settle.fabric.responses = s.fabric.responses := by
  unfold State.settle; split <;> simp
@[simp] theorem State.settle_ev_mask  (s : State) : s.settle.ev.mask = s.ev.mask := by
  unfold State.settle; split <;> simp
@[simp] theorem State.settle_ev_queueBaseLo  (s : State) : s.settle.ev.queueBaseLo = s.ev.queueBaseLo := by
  unfold State.settle; split <;> simp
@[simp] theorem State.settle_ev_queueBaseHi  (s : State) : s.settle.ev.queueBaseHi = s.ev.queueBaseHi := by
  unfold State.settle; split <;> simp
@[simp] theorem State.settle_ev_queueEnable  (s : State) : s.settle.ev.queueEnable = s.ev.queueEnable := by
  unfold State.settle; split <;> simp
@[simp] theorem State.settle_ev_routes  (s : State) : s.settle.ev.routes = s.ev.routes := by
  unfold State.settle; split <;> simp
@[simp] theorem State.settle_ev_log  (s : State) : s.settle.ev.log = s.ev.log := by
  unfold State.settle; split <;> simp
@[simp] theorem State.settle_ev_nextIndex  (s : State) : s.settle.ev.nextIndex = s.ev.nextIndex := by
  unfold State.settle; split <;> simp
@[simp] theorem State.settle_ev_headPage  (s : State) : s.settle.ev.headPage = s.ev.headPage := by
  unfold State.settle; split <;> simp
@[simp] theorem State.settle_ev_standing  (s : State) : s.settle.ev.standing = s.ev.standing := by
  unfold State.settle; split <;> simp
@[simp] theorem State.settle_ev_frozenUntil  (s : State) : s.settle.ev.frozenUntil = s.ev.frozenUntil := by
  unfold State.settle; split <;> simp
@[simp] theorem State.settle_ev_holds  (s : State) : s.settle.ev.holds = s.ev.holds := by
  unfold State.settle; split <;> simp
@[simp] theorem State.settle_ev_holdsUntil  (s : State) : s.settle.ev.holdsUntil = s.ev.holdsUntil := by
  unfold State.settle; split <;> simp
@[simp] theorem State.settle_ev_powerFailing  (s : State) : s.settle.ev.powerFailing = s.ev.powerFailing := by
  unfold State.settle; split <;> simp
@[simp] theorem State.settle_ev_regionFault  (s : State) : s.settle.ev.regionFault = s.ev.regionFault := by
  unfold State.settle; split <;> simp
@[simp] theorem State.settle_ev_clears  (s : State) : s.settle.ev.clears = s.ev.clears := by
  unfold State.settle; split <;> simp
@[simp] theorem State.settle_ev_retentionOk  (s : State) : s.settle.ev.retentionOk = s.ev.retentionOk := by
  unfold State.settle; split <;> simp
@[simp] theorem State.settle_ev_queueCi  (s : State) : s.settle.ev.queueCi = s.ev.queueCi := by
  unfold State.settle; split <;> simp
@[simp] theorem State.settle_port  (j : PortNo) (s : State) : s.settle.port j = s.port j := by
  simp [State.port]
@[simp] theorem State.settle_core  (j : Fin 2) (s : State) : s.settle.core j = s.core j := by
  simp [State.core]

@[simp] theorem State.settled_pending (s t : State) : (s.settled t).pending = s.pending := by
  simp [State.settled]
@[simp] theorem State.settled_clock (s t : State) : (s.settled t).clock = s.clock := by
  simp [State.settled]
@[simp] theorem State.settled_rtc (s t : State) : (s.settled t).rtc = t.rtc := by
  simp [State.settled]
@[simp] theorem State.settled_flash (s t : State) : (s.settled t).flash = { t.flash with cells := s.flash.cells } := by
  simp [State.settled]
@[simp] theorem State.settled_ports (s t : State) : (s.settled t).ports = t.ports := by
  simp [State.settled]
@[simp] theorem State.settled_map (s t : State) : (s.settled t).map = t.map := by
  simp [State.settled]
@[simp] theorem State.settled_prot (s t : State) : (s.settled t).prot = t.prot := by
  simp [State.settled]
@[simp] theorem State.settled_dpll (s t : State) : (s.settled t).dpll = t.dpll := by
  simp [State.settled]
@[simp] theorem State.settled_casc (s t : State) : (s.settled t).casc = t.casc := by
  simp [State.settled]
@[simp] theorem State.settled_mgmt (s t : State) : (s.settled t).mgmt = t.mgmt := by
  simp [State.settled]
@[simp] theorem State.settled_sec (s t : State) : (s.settled t).sec = t.sec := by
  simp [State.settled]
@[simp] theorem State.settled_ember (s t : State) : (s.settled t).ember = t.ember := by
  simp [State.settled]
@[simp] theorem State.settled_cap (s t : State) : (s.settled t).cap = t.cap := by
  simp [State.settled]
@[simp] theorem State.settled_pwr (s t : State) : (s.settled t).pwr = t.pwr := by
  simp [State.settled]
@[simp] theorem State.settled_rst (s t : State) : (s.settled t).rst = t.rst := by
  simp [State.settled]
@[simp] theorem State.settled_bist (s t : State) : (s.settled t).bist = t.bist := by
  simp [State.settled]
@[simp] theorem State.settled_perf (s t : State) : (s.settled t).perf = t.perf := by
  simp [State.settled]
@[simp] theorem State.settled_gpio (s t : State) : (s.settled t).gpio = t.gpio := by
  simp [State.settled]
@[simp] theorem State.settled_deferred (s t : State) : (s.settled t).deferred = t.deferred := by
  simp [State.settled]
@[simp] theorem State.settled_fresh (s t : State) : (s.settled t).fresh = t.fresh := by
  simp [State.settled]
@[simp] theorem State.settled_host_service (s t : State) : (s.settled t).host.service = t.host.service := by
  simp [State.settled]
@[simp] theorem State.settled_host_linkWidth (s t : State) : (s.settled t).host.linkWidth = t.host.linkWidth := by
  simp [State.settled]
@[simp] theorem State.settled_host_linkGen (s t : State) : (s.settled t).host.linkGen = t.host.linkGen := by
  simp [State.settled]
@[simp] theorem State.settled_host_busMaster (s t : State) : (s.settled t).host.busMaster = t.host.busMaster := by
  simp [State.settled]
@[simp] theorem State.settled_host_hostHeartbeat (s t : State) : (s.settled t).host.hostHeartbeat = t.host.hostHeartbeat := by
  simp [State.settled]
@[simp] theorem State.settled_host_bmcHeartbeat (s t : State) : (s.settled t).host.bmcHeartbeat = t.host.bmcHeartbeat := by
  simp [State.settled]
@[simp] theorem State.settled_host_mgmtHeartbeat (s t : State) : (s.settled t).host.mgmtHeartbeat = t.host.mgmtHeartbeat := by
  simp [State.settled]
@[simp] theorem State.settled_host_setWins (s t : State) : (s.settled t).host.setWins = t.host.setWins := by
  simp [State.settled]
@[simp] theorem State.settled_host_bar0Err (s t : State) : (s.settled t).host.bar0Err = t.host.bar0Err := by
  simp [State.settled]
@[simp] theorem State.settled_host_recoveryPending (s t : State) : (s.settled t).host.recoveryPending = t.host.recoveryPending := by
  simp [State.settled]
@[simp] theorem State.settled_host_lapseConditions (s t : State) : (s.settled t).host.lapseConditions = t.host.lapseConditions := by
  simp [State.settled]
@[simp] theorem State.settled_host_lapseTiming (s t : State) : (s.settled t).host.lapseTiming = t.host.lapseTiming := by
  simp [State.settled]
@[simp] theorem State.settled_host_lapseFaults (s t : State) : (s.settled t).host.lapseFaults = t.host.lapseFaults := by
  simp [State.settled]
@[simp] theorem State.settled_host_sems (s t : State) : (s.settled t).host.sems = t.host.sems := by
  simp [State.settled]
@[simp] theorem State.settled_host_semMs (s t : State) : (s.settled t).host.semMs = t.host.semMs := by
  simp [State.settled]
@[simp] theorem State.settled_host_msixTable (s t : State) : (s.settled t).host.msixTable = t.host.msixTable := by
  simp [State.settled]
@[simp] theorem State.settled_host_waiting (s t : State) : (s.settled t).host.waiting = t.host.waiting := by
  simp [State.settled]
@[simp] theorem State.settled_host_nextTicket (s t : State) : (s.settled t).host.nextTicket = t.host.nextTicket := by
  simp [State.settled]
@[simp] theorem State.settled_host_busyBurst (s t : State) : (s.settled t).host.busyBurst = t.host.busyBurst := by
  simp [State.settled]
@[simp] theorem State.settled_host_served (s t : State) : (s.settled t).host.served = t.host.served := by
  simp [State.settled]
@[simp] theorem State.settled_host_journalRoom (s t : State) : (s.settled t).host.journalRoom = t.host.journalRoom := by
  simp [State.settled]
@[simp] theorem State.settled_host_recovery (s t : State) : (s.settled t).host.recovery = t.host.recovery := by
  simp [State.settled]
@[simp] theorem State.settled_host_snapshot (s t : State) : (s.settled t).host.snapshot = t.host.snapshot := by
  simp [State.settled]
@[simp] theorem State.settled_host_snapshotBlank (s t : State) : (s.settled t).host.snapshotBlank = t.host.snapshotBlank := by
  simp [State.settled]
@[simp] theorem State.settled_host_lastRead (s t : State) : (s.settled t).host.lastRead = t.host.lastRead := by
  simp [State.settled]
@[simp] theorem State.settled_host_boardBus (s t : State) : (s.settled t).host.boardBus = t.host.boardBus := by
  simp [State.settled]
@[simp] theorem State.settled_fabric_granted (s t : State) : (s.settled t).fabric.granted = s.fabric.granted := by
  simp [State.settled]
@[simp] theorem State.settled_fabric_collisions (s t : State) : (s.settled t).fabric.collisions = s.fabric.collisions := by
  simp [State.settled]
@[simp] theorem State.settled_fabric_streak (s t : State) : (s.settled t).fabric.streak = s.fabric.streak := by
  simp [State.settled]
@[simp] theorem State.settled_fabric_corrected (s t : State) : (s.settled t).fabric.corrected = s.fabric.corrected := by
  simp [State.settled]
@[simp] theorem State.settled_fabric_refusals (s t : State) : (s.settled t).fabric.refusals = s.fabric.refusals := by
  simp [State.settled]
@[simp] theorem State.settled_fabric_faulty (s t : State) : (s.settled t).fabric.faulty = s.fabric.faulty := by
  simp [State.settled]
@[simp] theorem State.settled_fabric_spareFor (s t : State) : (s.settled t).fabric.spareFor = s.fabric.spareFor := by
  simp [State.settled]
@[simp] theorem State.settled_fabric_badWords (s t : State) : (s.settled t).fabric.badWords = s.fabric.badWords := by
  simp [State.settled]
@[simp] theorem State.settled_fabric_responses (s t : State) : (s.settled t).fabric.responses = s.fabric.responses := by
  simp [State.settled]
@[simp] theorem State.settled_ev_mask (s t : State) : (s.settled t).ev.mask = t.ev.mask := by
  simp [State.settled]
@[simp] theorem State.settled_ev_queueBaseLo (s t : State) : (s.settled t).ev.queueBaseLo = t.ev.queueBaseLo := by
  simp [State.settled]
@[simp] theorem State.settled_ev_queueBaseHi (s t : State) : (s.settled t).ev.queueBaseHi = t.ev.queueBaseHi := by
  simp [State.settled]
@[simp] theorem State.settled_ev_queueEnable (s t : State) : (s.settled t).ev.queueEnable = t.ev.queueEnable := by
  simp [State.settled]
@[simp] theorem State.settled_ev_routes (s t : State) : (s.settled t).ev.routes = t.ev.routes := by
  simp [State.settled]
@[simp] theorem State.settled_ev_log (s t : State) : (s.settled t).ev.log = t.ev.log := by
  simp [State.settled]
@[simp] theorem State.settled_ev_nextIndex (s t : State) : (s.settled t).ev.nextIndex = t.ev.nextIndex := by
  simp [State.settled]
@[simp] theorem State.settled_ev_headPage (s t : State) : (s.settled t).ev.headPage = t.ev.headPage := by
  simp [State.settled]
@[simp] theorem State.settled_ev_standing (s t : State) : (s.settled t).ev.standing = t.ev.standing := by
  simp [State.settled]
@[simp] theorem State.settled_ev_frozenUntil (s t : State) : (s.settled t).ev.frozenUntil = t.ev.frozenUntil := by
  simp [State.settled]
@[simp] theorem State.settled_ev_holds (s t : State) : (s.settled t).ev.holds = t.ev.holds := by
  simp [State.settled]
@[simp] theorem State.settled_ev_holdsUntil (s t : State) : (s.settled t).ev.holdsUntil = t.ev.holdsUntil := by
  simp [State.settled]
@[simp] theorem State.settled_ev_powerFailing (s t : State) : (s.settled t).ev.powerFailing = t.ev.powerFailing := by
  simp [State.settled]
@[simp] theorem State.settled_ev_regionFault (s t : State) : (s.settled t).ev.regionFault = t.ev.regionFault := by
  simp [State.settled]
@[simp] theorem State.settled_ev_clears (s t : State) : (s.settled t).ev.clears = t.ev.clears := by
  simp [State.settled]
@[simp] theorem State.settled_ev_retentionOk (s t : State) : (s.settled t).ev.retentionOk = t.ev.retentionOk := by
  simp [State.settled]
@[simp] theorem State.settled_ev_queueCi (s t : State) : (s.settled t).ev.queueCi = t.ev.queueCi := by
  simp [State.settled]
@[simp] theorem State.settled_port (s t : State) (j : PortNo) : (s.settled t).port j = t.port j := by
  simp [State.port]
@[simp] theorem State.settled_core (s t : State) (j : Fin 2) : (s.settled t).core j = t.core j := by
  simp [State.core]

@[simp] theorem State.settledFabric_pending (s t : State) : (s.settledFabric t).pending = s.pending := by
  simp [State.settledFabric]
@[simp] theorem State.settledFabric_clock (s t : State) : (s.settledFabric t).clock = s.clock := by
  simp [State.settledFabric]
@[simp] theorem State.settledFabric_rtc (s t : State) : (s.settledFabric t).rtc = t.rtc := by
  simp [State.settledFabric]
@[simp] theorem State.settledFabric_flash (s t : State) : (s.settledFabric t).flash = t.flash := by
  simp [State.settledFabric]
@[simp] theorem State.settledFabric_ports (s t : State) : (s.settledFabric t).ports = t.ports := by
  simp [State.settledFabric]
@[simp] theorem State.settledFabric_map (s t : State) : (s.settledFabric t).map = t.map := by
  simp [State.settledFabric]
@[simp] theorem State.settledFabric_prot (s t : State) : (s.settledFabric t).prot = t.prot := by
  simp [State.settledFabric]
@[simp] theorem State.settledFabric_dpll (s t : State) : (s.settledFabric t).dpll = t.dpll := by
  simp [State.settledFabric]
@[simp] theorem State.settledFabric_casc (s t : State) : (s.settledFabric t).casc = t.casc := by
  simp [State.settledFabric]
@[simp] theorem State.settledFabric_mgmt (s t : State) : (s.settledFabric t).mgmt = t.mgmt := by
  simp [State.settledFabric]
@[simp] theorem State.settledFabric_sec (s t : State) : (s.settledFabric t).sec = t.sec := by
  simp [State.settledFabric]
@[simp] theorem State.settledFabric_ember (s t : State) : (s.settledFabric t).ember = t.ember := by
  simp [State.settledFabric]
@[simp] theorem State.settledFabric_cap (s t : State) : (s.settledFabric t).cap = t.cap := by
  simp [State.settledFabric]
@[simp] theorem State.settledFabric_pwr (s t : State) : (s.settledFabric t).pwr = t.pwr := by
  simp [State.settledFabric]
@[simp] theorem State.settledFabric_rst (s t : State) : (s.settledFabric t).rst = t.rst := by
  simp [State.settledFabric]
@[simp] theorem State.settledFabric_bist (s t : State) : (s.settledFabric t).bist = t.bist := by
  simp [State.settledFabric]
@[simp] theorem State.settledFabric_perf (s t : State) : (s.settledFabric t).perf = t.perf := by
  simp [State.settledFabric]
@[simp] theorem State.settledFabric_gpio (s t : State) : (s.settledFabric t).gpio = t.gpio := by
  simp [State.settledFabric]
@[simp] theorem State.settledFabric_deferred (s t : State) : (s.settledFabric t).deferred = t.deferred := by
  simp [State.settledFabric]
@[simp] theorem State.settledFabric_fresh (s t : State) : (s.settledFabric t).fresh = t.fresh := by
  simp [State.settledFabric]
@[simp] theorem State.settledFabric_host_service (s t : State) : (s.settledFabric t).host.service = t.host.service := by
  simp [State.settledFabric]
@[simp] theorem State.settledFabric_host_linkWidth (s t : State) : (s.settledFabric t).host.linkWidth = t.host.linkWidth := by
  simp [State.settledFabric]
@[simp] theorem State.settledFabric_host_linkGen (s t : State) : (s.settledFabric t).host.linkGen = t.host.linkGen := by
  simp [State.settledFabric]
@[simp] theorem State.settledFabric_host_busMaster (s t : State) : (s.settledFabric t).host.busMaster = t.host.busMaster := by
  simp [State.settledFabric]
@[simp] theorem State.settledFabric_host_hostHeartbeat (s t : State) : (s.settledFabric t).host.hostHeartbeat = t.host.hostHeartbeat := by
  simp [State.settledFabric]
@[simp] theorem State.settledFabric_host_bmcHeartbeat (s t : State) : (s.settledFabric t).host.bmcHeartbeat = t.host.bmcHeartbeat := by
  simp [State.settledFabric]
@[simp] theorem State.settledFabric_host_mgmtHeartbeat (s t : State) : (s.settledFabric t).host.mgmtHeartbeat = t.host.mgmtHeartbeat := by
  simp [State.settledFabric]
@[simp] theorem State.settledFabric_host_setWins (s t : State) : (s.settledFabric t).host.setWins = t.host.setWins := by
  simp [State.settledFabric]
@[simp] theorem State.settledFabric_host_bar0Err (s t : State) : (s.settledFabric t).host.bar0Err = t.host.bar0Err := by
  simp [State.settledFabric]
@[simp] theorem State.settledFabric_host_recoveryPending (s t : State) : (s.settledFabric t).host.recoveryPending = t.host.recoveryPending := by
  simp [State.settledFabric]
@[simp] theorem State.settledFabric_host_lapseConditions (s t : State) : (s.settledFabric t).host.lapseConditions = t.host.lapseConditions := by
  simp [State.settledFabric]
@[simp] theorem State.settledFabric_host_lapseTiming (s t : State) : (s.settledFabric t).host.lapseTiming = t.host.lapseTiming := by
  simp [State.settledFabric]
@[simp] theorem State.settledFabric_host_lapseFaults (s t : State) : (s.settledFabric t).host.lapseFaults = t.host.lapseFaults := by
  simp [State.settledFabric]
@[simp] theorem State.settledFabric_host_sems (s t : State) : (s.settledFabric t).host.sems = t.host.sems := by
  simp [State.settledFabric]
@[simp] theorem State.settledFabric_host_semMs (s t : State) : (s.settledFabric t).host.semMs = t.host.semMs := by
  simp [State.settledFabric]
@[simp] theorem State.settledFabric_host_msixTable (s t : State) : (s.settledFabric t).host.msixTable = t.host.msixTable := by
  simp [State.settledFabric]
@[simp] theorem State.settledFabric_host_waiting (s t : State) : (s.settledFabric t).host.waiting = t.host.waiting := by
  simp [State.settledFabric]
@[simp] theorem State.settledFabric_host_nextTicket (s t : State) : (s.settledFabric t).host.nextTicket = t.host.nextTicket := by
  simp [State.settledFabric]
@[simp] theorem State.settledFabric_host_busyBurst (s t : State) : (s.settledFabric t).host.busyBurst = t.host.busyBurst := by
  simp [State.settledFabric]
@[simp] theorem State.settledFabric_host_served (s t : State) : (s.settledFabric t).host.served = t.host.served := by
  simp [State.settledFabric]
@[simp] theorem State.settledFabric_host_journalRoom (s t : State) : (s.settledFabric t).host.journalRoom = t.host.journalRoom := by
  simp [State.settledFabric]
@[simp] theorem State.settledFabric_host_recovery (s t : State) : (s.settledFabric t).host.recovery = t.host.recovery := by
  simp [State.settledFabric]
@[simp] theorem State.settledFabric_host_snapshot (s t : State) : (s.settledFabric t).host.snapshot = t.host.snapshot := by
  simp [State.settledFabric]
@[simp] theorem State.settledFabric_host_snapshotBlank (s t : State) : (s.settledFabric t).host.snapshotBlank = t.host.snapshotBlank := by
  simp [State.settledFabric]
@[simp] theorem State.settledFabric_host_lastRead (s t : State) : (s.settledFabric t).host.lastRead = t.host.lastRead := by
  simp [State.settledFabric]
@[simp] theorem State.settledFabric_host_boardBus (s t : State) : (s.settledFabric t).host.boardBus = t.host.boardBus := by
  simp [State.settledFabric]
@[simp] theorem State.settledFabric_fabric_granted (s t : State) : (s.settledFabric t).fabric.granted = t.fabric.granted := by
  simp [State.settledFabric]
@[simp] theorem State.settledFabric_fabric_collisions (s t : State) : (s.settledFabric t).fabric.collisions = t.fabric.collisions := by
  simp [State.settledFabric]
@[simp] theorem State.settledFabric_fabric_streak (s t : State) : (s.settledFabric t).fabric.streak = t.fabric.streak := by
  simp [State.settledFabric]
@[simp] theorem State.settledFabric_fabric_corrected (s t : State) : (s.settledFabric t).fabric.corrected = t.fabric.corrected := by
  simp [State.settledFabric]
@[simp] theorem State.settledFabric_fabric_refusals (s t : State) : (s.settledFabric t).fabric.refusals = t.fabric.refusals := by
  simp [State.settledFabric]
@[simp] theorem State.settledFabric_fabric_faulty (s t : State) : (s.settledFabric t).fabric.faulty = t.fabric.faulty := by
  simp [State.settledFabric]
@[simp] theorem State.settledFabric_fabric_spareFor (s t : State) : (s.settledFabric t).fabric.spareFor = t.fabric.spareFor := by
  simp [State.settledFabric]
@[simp] theorem State.settledFabric_fabric_badWords (s t : State) : (s.settledFabric t).fabric.badWords = t.fabric.badWords := by
  simp [State.settledFabric]
@[simp] theorem State.settledFabric_fabric_responses (s t : State) : (s.settledFabric t).fabric.responses = t.fabric.responses := by
  simp [State.settledFabric]
@[simp] theorem State.settledFabric_ev_mask (s t : State) : (s.settledFabric t).ev.mask = t.ev.mask := by
  simp [State.settledFabric]
@[simp] theorem State.settledFabric_ev_queueBaseLo (s t : State) : (s.settledFabric t).ev.queueBaseLo = t.ev.queueBaseLo := by
  simp [State.settledFabric]
@[simp] theorem State.settledFabric_ev_queueBaseHi (s t : State) : (s.settledFabric t).ev.queueBaseHi = t.ev.queueBaseHi := by
  simp [State.settledFabric]
@[simp] theorem State.settledFabric_ev_queueEnable (s t : State) : (s.settledFabric t).ev.queueEnable = t.ev.queueEnable := by
  simp [State.settledFabric]
@[simp] theorem State.settledFabric_ev_routes (s t : State) : (s.settledFabric t).ev.routes = t.ev.routes := by
  simp [State.settledFabric]
@[simp] theorem State.settledFabric_ev_log (s t : State) : (s.settledFabric t).ev.log = t.ev.log := by
  simp [State.settledFabric]
@[simp] theorem State.settledFabric_ev_nextIndex (s t : State) : (s.settledFabric t).ev.nextIndex = t.ev.nextIndex := by
  simp [State.settledFabric]
@[simp] theorem State.settledFabric_ev_headPage (s t : State) : (s.settledFabric t).ev.headPage = t.ev.headPage := by
  simp [State.settledFabric]
@[simp] theorem State.settledFabric_ev_standing (s t : State) : (s.settledFabric t).ev.standing = t.ev.standing := by
  simp [State.settledFabric]
@[simp] theorem State.settledFabric_ev_frozenUntil (s t : State) : (s.settledFabric t).ev.frozenUntil = t.ev.frozenUntil := by
  simp [State.settledFabric]
@[simp] theorem State.settledFabric_ev_holds (s t : State) : (s.settledFabric t).ev.holds = t.ev.holds := by
  simp [State.settledFabric]
@[simp] theorem State.settledFabric_ev_holdsUntil (s t : State) : (s.settledFabric t).ev.holdsUntil = t.ev.holdsUntil := by
  simp [State.settledFabric]
@[simp] theorem State.settledFabric_ev_powerFailing (s t : State) : (s.settledFabric t).ev.powerFailing = t.ev.powerFailing := by
  simp [State.settledFabric]
@[simp] theorem State.settledFabric_ev_regionFault (s t : State) : (s.settledFabric t).ev.regionFault = t.ev.regionFault := by
  simp [State.settledFabric]
@[simp] theorem State.settledFabric_ev_clears (s t : State) : (s.settledFabric t).ev.clears = t.ev.clears := by
  simp [State.settledFabric]
@[simp] theorem State.settledFabric_ev_retentionOk (s t : State) : (s.settledFabric t).ev.retentionOk = t.ev.retentionOk := by
  simp [State.settledFabric]
@[simp] theorem State.settledFabric_ev_queueCi (s t : State) : (s.settledFabric t).ev.queueCi = t.ev.queueCi := by
  simp [State.settledFabric]
@[simp] theorem State.settledFabric_port (s t : State) (j : PortNo) : (s.settledFabric t).port j = t.port j := by
  simp [State.port]
@[simp] theorem State.settledFabric_core (s t : State) (j : Fin 2) : (s.settledFabric t).core j = t.core j := by
  simp [State.core]

@[simp] theorem State.settledStart_pending (s t : State) : (s.settledStart t).pending = s.pending := by
  simp [State.settledStart]
@[simp] theorem State.settledStart_clock (s t : State) : (s.settledStart t).clock = t.clock := by
  simp [State.settledStart]
@[simp] theorem State.settledStart_rtc (s t : State) : (s.settledStart t).rtc = t.rtc := by
  simp [State.settledStart]
@[simp] theorem State.settledStart_flash (s t : State) : (s.settledStart t).flash = { t.flash with cells := s.flash.cells } := by
  simp [State.settledStart]
@[simp] theorem State.settledStart_ports (s t : State) : (s.settledStart t).ports = t.ports := by
  simp [State.settledStart]
@[simp] theorem State.settledStart_map (s t : State) : (s.settledStart t).map = t.map := by
  simp [State.settledStart]
@[simp] theorem State.settledStart_prot (s t : State) : (s.settledStart t).prot = t.prot := by
  simp [State.settledStart]
@[simp] theorem State.settledStart_dpll (s t : State) : (s.settledStart t).dpll = t.dpll := by
  simp [State.settledStart]
@[simp] theorem State.settledStart_casc (s t : State) : (s.settledStart t).casc = t.casc := by
  simp [State.settledStart]
@[simp] theorem State.settledStart_mgmt (s t : State) : (s.settledStart t).mgmt = t.mgmt := by
  simp [State.settledStart]
@[simp] theorem State.settledStart_sec (s t : State) : (s.settledStart t).sec = t.sec := by
  simp [State.settledStart]
@[simp] theorem State.settledStart_ember (s t : State) : (s.settledStart t).ember = t.ember := by
  simp [State.settledStart]
@[simp] theorem State.settledStart_cap (s t : State) : (s.settledStart t).cap = t.cap := by
  simp [State.settledStart]
@[simp] theorem State.settledStart_pwr (s t : State) : (s.settledStart t).pwr = t.pwr := by
  simp [State.settledStart]
@[simp] theorem State.settledStart_rst (s t : State) : (s.settledStart t).rst = t.rst := by
  simp [State.settledStart]
@[simp] theorem State.settledStart_bist (s t : State) : (s.settledStart t).bist = t.bist := by
  simp [State.settledStart]
@[simp] theorem State.settledStart_perf (s t : State) : (s.settledStart t).perf = t.perf := by
  simp [State.settledStart]
@[simp] theorem State.settledStart_gpio (s t : State) : (s.settledStart t).gpio = t.gpio := by
  simp [State.settledStart]
@[simp] theorem State.settledStart_deferred (s t : State) : (s.settledStart t).deferred = t.deferred := by
  simp [State.settledStart]
@[simp] theorem State.settledStart_fresh (s t : State) : (s.settledStart t).fresh = t.fresh := by
  simp [State.settledStart]
@[simp] theorem State.settledStart_host_service (s t : State) : (s.settledStart t).host.service = t.host.service := by
  simp [State.settledStart]
@[simp] theorem State.settledStart_host_linkWidth (s t : State) : (s.settledStart t).host.linkWidth = t.host.linkWidth := by
  simp [State.settledStart]
@[simp] theorem State.settledStart_host_linkGen (s t : State) : (s.settledStart t).host.linkGen = t.host.linkGen := by
  simp [State.settledStart]
@[simp] theorem State.settledStart_host_busMaster (s t : State) : (s.settledStart t).host.busMaster = t.host.busMaster := by
  simp [State.settledStart]
@[simp] theorem State.settledStart_host_hostHeartbeat (s t : State) : (s.settledStart t).host.hostHeartbeat = t.host.hostHeartbeat := by
  simp [State.settledStart]
@[simp] theorem State.settledStart_host_bmcHeartbeat (s t : State) : (s.settledStart t).host.bmcHeartbeat = t.host.bmcHeartbeat := by
  simp [State.settledStart]
@[simp] theorem State.settledStart_host_mgmtHeartbeat (s t : State) : (s.settledStart t).host.mgmtHeartbeat = t.host.mgmtHeartbeat := by
  simp [State.settledStart]
@[simp] theorem State.settledStart_host_setWins (s t : State) : (s.settledStart t).host.setWins = t.host.setWins := by
  simp [State.settledStart]
@[simp] theorem State.settledStart_host_bar0Err (s t : State) : (s.settledStart t).host.bar0Err = t.host.bar0Err := by
  simp [State.settledStart]
@[simp] theorem State.settledStart_host_recoveryPending (s t : State) : (s.settledStart t).host.recoveryPending = t.host.recoveryPending := by
  simp [State.settledStart]
@[simp] theorem State.settledStart_host_lapseConditions (s t : State) : (s.settledStart t).host.lapseConditions = t.host.lapseConditions := by
  simp [State.settledStart]
@[simp] theorem State.settledStart_host_lapseTiming (s t : State) : (s.settledStart t).host.lapseTiming = t.host.lapseTiming := by
  simp [State.settledStart]
@[simp] theorem State.settledStart_host_lapseFaults (s t : State) : (s.settledStart t).host.lapseFaults = t.host.lapseFaults := by
  simp [State.settledStart]
@[simp] theorem State.settledStart_host_sems (s t : State) : (s.settledStart t).host.sems = t.host.sems := by
  simp [State.settledStart]
@[simp] theorem State.settledStart_host_semMs (s t : State) : (s.settledStart t).host.semMs = t.host.semMs := by
  simp [State.settledStart]
@[simp] theorem State.settledStart_host_msixTable (s t : State) : (s.settledStart t).host.msixTable = t.host.msixTable := by
  simp [State.settledStart]
@[simp] theorem State.settledStart_host_waiting (s t : State) : (s.settledStart t).host.waiting = t.host.waiting := by
  simp [State.settledStart]
@[simp] theorem State.settledStart_host_nextTicket (s t : State) : (s.settledStart t).host.nextTicket = t.host.nextTicket := by
  simp [State.settledStart]
@[simp] theorem State.settledStart_host_busyBurst (s t : State) : (s.settledStart t).host.busyBurst = t.host.busyBurst := by
  simp [State.settledStart]
@[simp] theorem State.settledStart_host_served (s t : State) : (s.settledStart t).host.served = t.host.served := by
  simp [State.settledStart]
@[simp] theorem State.settledStart_host_journalRoom (s t : State) : (s.settledStart t).host.journalRoom = t.host.journalRoom := by
  simp [State.settledStart]
@[simp] theorem State.settledStart_host_recovery (s t : State) : (s.settledStart t).host.recovery = t.host.recovery := by
  simp [State.settledStart]
@[simp] theorem State.settledStart_host_snapshot (s t : State) : (s.settledStart t).host.snapshot = t.host.snapshot := by
  simp [State.settledStart]
@[simp] theorem State.settledStart_host_snapshotBlank (s t : State) : (s.settledStart t).host.snapshotBlank = t.host.snapshotBlank := by
  simp [State.settledStart]
@[simp] theorem State.settledStart_host_lastRead (s t : State) : (s.settledStart t).host.lastRead = t.host.lastRead := by
  simp [State.settledStart]
@[simp] theorem State.settledStart_host_boardBus (s t : State) : (s.settledStart t).host.boardBus = t.host.boardBus := by
  simp [State.settledStart]
@[simp] theorem State.settledStart_fabric_granted (s t : State) : (s.settledStart t).fabric.granted = t.fabric.granted := by
  simp [State.settledStart]
@[simp] theorem State.settledStart_fabric_collisions (s t : State) : (s.settledStart t).fabric.collisions = t.fabric.collisions := by
  simp [State.settledStart]
@[simp] theorem State.settledStart_fabric_streak (s t : State) : (s.settledStart t).fabric.streak = t.fabric.streak := by
  simp [State.settledStart]
@[simp] theorem State.settledStart_fabric_corrected (s t : State) : (s.settledStart t).fabric.corrected = t.fabric.corrected := by
  simp [State.settledStart]
@[simp] theorem State.settledStart_fabric_refusals (s t : State) : (s.settledStart t).fabric.refusals = t.fabric.refusals := by
  simp [State.settledStart]
@[simp] theorem State.settledStart_fabric_faulty (s t : State) : (s.settledStart t).fabric.faulty = t.fabric.faulty := by
  simp [State.settledStart]
@[simp] theorem State.settledStart_fabric_spareFor (s t : State) : (s.settledStart t).fabric.spareFor = t.fabric.spareFor := by
  simp [State.settledStart]
@[simp] theorem State.settledStart_fabric_badWords (s t : State) : (s.settledStart t).fabric.badWords = t.fabric.badWords := by
  simp [State.settledStart]
@[simp] theorem State.settledStart_fabric_responses (s t : State) : (s.settledStart t).fabric.responses = t.fabric.responses := by
  simp [State.settledStart]
@[simp] theorem State.settledStart_ev_mask (s t : State) : (s.settledStart t).ev.mask = t.ev.mask := by
  simp [State.settledStart]
@[simp] theorem State.settledStart_ev_queueBaseLo (s t : State) : (s.settledStart t).ev.queueBaseLo = t.ev.queueBaseLo := by
  simp [State.settledStart]
@[simp] theorem State.settledStart_ev_queueBaseHi (s t : State) : (s.settledStart t).ev.queueBaseHi = t.ev.queueBaseHi := by
  simp [State.settledStart]
@[simp] theorem State.settledStart_ev_queueEnable (s t : State) : (s.settledStart t).ev.queueEnable = t.ev.queueEnable := by
  simp [State.settledStart]
@[simp] theorem State.settledStart_ev_routes (s t : State) : (s.settledStart t).ev.routes = t.ev.routes := by
  simp [State.settledStart]
@[simp] theorem State.settledStart_ev_log (s t : State) : (s.settledStart t).ev.log = t.ev.log := by
  simp [State.settledStart]
@[simp] theorem State.settledStart_ev_nextIndex (s t : State) : (s.settledStart t).ev.nextIndex = t.ev.nextIndex := by
  simp [State.settledStart]
@[simp] theorem State.settledStart_ev_headPage (s t : State) : (s.settledStart t).ev.headPage = t.ev.headPage := by
  simp [State.settledStart]
@[simp] theorem State.settledStart_ev_standing (s t : State) : (s.settledStart t).ev.standing = t.ev.standing := by
  simp [State.settledStart]
@[simp] theorem State.settledStart_ev_frozenUntil (s t : State) : (s.settledStart t).ev.frozenUntil = t.ev.frozenUntil := by
  simp [State.settledStart]
@[simp] theorem State.settledStart_ev_holds (s t : State) : (s.settledStart t).ev.holds = t.ev.holds := by
  simp [State.settledStart]
@[simp] theorem State.settledStart_ev_holdsUntil (s t : State) : (s.settledStart t).ev.holdsUntil = t.ev.holdsUntil := by
  simp [State.settledStart]
@[simp] theorem State.settledStart_ev_powerFailing (s t : State) : (s.settledStart t).ev.powerFailing = t.ev.powerFailing := by
  simp [State.settledStart]
@[simp] theorem State.settledStart_ev_regionFault (s t : State) : (s.settledStart t).ev.regionFault = t.ev.regionFault := by
  simp [State.settledStart]
@[simp] theorem State.settledStart_ev_clears (s t : State) : (s.settledStart t).ev.clears = t.ev.clears := by
  simp [State.settledStart]
@[simp] theorem State.settledStart_ev_retentionOk (s t : State) : (s.settledStart t).ev.retentionOk = t.ev.retentionOk := by
  simp [State.settledStart]
@[simp] theorem State.settledStart_ev_queueCi (s t : State) : (s.settledStart t).ev.queueCi = t.ev.queueCi := by
  simp [State.settledStart]
@[simp] theorem State.settledStart_port (s t : State) (j : PortNo) : (s.settledStart t).port j = t.port j := by
  simp [State.port]
@[simp] theorem State.settledStart_core (s t : State) (j : Fin 2) : (s.settledStart t).core j = t.core j := by
  simp [State.core]

@[simp] theorem State.settledBoot_pending (s t : State) : (s.settledBoot t).pending = s.pending := by
  simp [State.settledBoot]
@[simp] theorem State.settledBoot_clock (s t : State) : (s.settledBoot t).clock = s.clock := by
  simp [State.settledBoot]
@[simp] theorem State.settledBoot_rtc (s t : State) : (s.settledBoot t).rtc = t.rtc := by
  simp [State.settledBoot]
@[simp] theorem State.settledBoot_flash (s t : State) : (s.settledBoot t).flash = { t.flash with cells := s.flash.cells } := by
  simp [State.settledBoot]
@[simp] theorem State.settledBoot_ports (s t : State) : (s.settledBoot t).ports = t.ports := by
  simp [State.settledBoot]
@[simp] theorem State.settledBoot_map (s t : State) : (s.settledBoot t).map = t.map := by
  simp [State.settledBoot]
@[simp] theorem State.settledBoot_prot (s t : State) : (s.settledBoot t).prot = t.prot := by
  simp [State.settledBoot]
@[simp] theorem State.settledBoot_dpll (s t : State) : (s.settledBoot t).dpll = t.dpll := by
  simp [State.settledBoot]
@[simp] theorem State.settledBoot_casc (s t : State) : (s.settledBoot t).casc = t.casc := by
  simp [State.settledBoot]
@[simp] theorem State.settledBoot_mgmt (s t : State) : (s.settledBoot t).mgmt = t.mgmt := by
  simp [State.settledBoot]
@[simp] theorem State.settledBoot_sec (s t : State) : (s.settledBoot t).sec = t.sec := by
  simp [State.settledBoot]
@[simp] theorem State.settledBoot_ember (s t : State) : (s.settledBoot t).ember = t.ember := by
  simp [State.settledBoot]
@[simp] theorem State.settledBoot_cap (s t : State) : (s.settledBoot t).cap = t.cap := by
  simp [State.settledBoot]
@[simp] theorem State.settledBoot_pwr (s t : State) : (s.settledBoot t).pwr = t.pwr := by
  simp [State.settledBoot]
@[simp] theorem State.settledBoot_rst (s t : State) : (s.settledBoot t).rst = t.rst := by
  simp [State.settledBoot]
@[simp] theorem State.settledBoot_bist (s t : State) : (s.settledBoot t).bist = t.bist := by
  simp [State.settledBoot]
@[simp] theorem State.settledBoot_perf (s t : State) : (s.settledBoot t).perf = t.perf := by
  simp [State.settledBoot]
@[simp] theorem State.settledBoot_gpio (s t : State) : (s.settledBoot t).gpio = t.gpio := by
  simp [State.settledBoot]
@[simp] theorem State.settledBoot_deferred (s t : State) : (s.settledBoot t).deferred = t.deferred := by
  simp [State.settledBoot]
@[simp] theorem State.settledBoot_fresh (s t : State) : (s.settledBoot t).fresh = t.fresh := by
  simp [State.settledBoot]
@[simp] theorem State.settledBoot_host_service (s t : State) : (s.settledBoot t).host.service = t.host.service := by
  simp [State.settledBoot]
@[simp] theorem State.settledBoot_host_linkWidth (s t : State) : (s.settledBoot t).host.linkWidth = t.host.linkWidth := by
  simp [State.settledBoot]
@[simp] theorem State.settledBoot_host_linkGen (s t : State) : (s.settledBoot t).host.linkGen = t.host.linkGen := by
  simp [State.settledBoot]
@[simp] theorem State.settledBoot_host_busMaster (s t : State) : (s.settledBoot t).host.busMaster = t.host.busMaster := by
  simp [State.settledBoot]
@[simp] theorem State.settledBoot_host_hostHeartbeat (s t : State) : (s.settledBoot t).host.hostHeartbeat = t.host.hostHeartbeat := by
  simp [State.settledBoot]
@[simp] theorem State.settledBoot_host_bmcHeartbeat (s t : State) : (s.settledBoot t).host.bmcHeartbeat = t.host.bmcHeartbeat := by
  simp [State.settledBoot]
@[simp] theorem State.settledBoot_host_mgmtHeartbeat (s t : State) : (s.settledBoot t).host.mgmtHeartbeat = t.host.mgmtHeartbeat := by
  simp [State.settledBoot]
@[simp] theorem State.settledBoot_host_setWins (s t : State) : (s.settledBoot t).host.setWins = t.host.setWins := by
  simp [State.settledBoot]
@[simp] theorem State.settledBoot_host_bar0Err (s t : State) : (s.settledBoot t).host.bar0Err = t.host.bar0Err := by
  simp [State.settledBoot]
@[simp] theorem State.settledBoot_host_recoveryPending (s t : State) : (s.settledBoot t).host.recoveryPending = t.host.recoveryPending := by
  simp [State.settledBoot]
@[simp] theorem State.settledBoot_host_lapseConditions (s t : State) : (s.settledBoot t).host.lapseConditions = t.host.lapseConditions := by
  simp [State.settledBoot]
@[simp] theorem State.settledBoot_host_lapseTiming (s t : State) : (s.settledBoot t).host.lapseTiming = t.host.lapseTiming := by
  simp [State.settledBoot]
@[simp] theorem State.settledBoot_host_lapseFaults (s t : State) : (s.settledBoot t).host.lapseFaults = t.host.lapseFaults := by
  simp [State.settledBoot]
@[simp] theorem State.settledBoot_host_sems (s t : State) : (s.settledBoot t).host.sems = t.host.sems := by
  simp [State.settledBoot]
@[simp] theorem State.settledBoot_host_semMs (s t : State) : (s.settledBoot t).host.semMs = t.host.semMs := by
  simp [State.settledBoot]
@[simp] theorem State.settledBoot_host_msixTable (s t : State) : (s.settledBoot t).host.msixTable = t.host.msixTable := by
  simp [State.settledBoot]
@[simp] theorem State.settledBoot_host_waiting (s t : State) : (s.settledBoot t).host.waiting = t.host.waiting := by
  simp [State.settledBoot]
@[simp] theorem State.settledBoot_host_nextTicket (s t : State) : (s.settledBoot t).host.nextTicket = t.host.nextTicket := by
  simp [State.settledBoot]
@[simp] theorem State.settledBoot_host_busyBurst (s t : State) : (s.settledBoot t).host.busyBurst = t.host.busyBurst := by
  simp [State.settledBoot]
@[simp] theorem State.settledBoot_host_served (s t : State) : (s.settledBoot t).host.served = t.host.served := by
  simp [State.settledBoot]
@[simp] theorem State.settledBoot_host_journalRoom (s t : State) : (s.settledBoot t).host.journalRoom = t.host.journalRoom := by
  simp [State.settledBoot]
@[simp] theorem State.settledBoot_host_recovery (s t : State) : (s.settledBoot t).host.recovery = t.host.recovery := by
  simp [State.settledBoot]
@[simp] theorem State.settledBoot_host_snapshot (s t : State) : (s.settledBoot t).host.snapshot = t.host.snapshot := by
  simp [State.settledBoot]
@[simp] theorem State.settledBoot_host_snapshotBlank (s t : State) : (s.settledBoot t).host.snapshotBlank = t.host.snapshotBlank := by
  simp [State.settledBoot]
@[simp] theorem State.settledBoot_host_lastRead (s t : State) : (s.settledBoot t).host.lastRead = t.host.lastRead := by
  simp [State.settledBoot]
@[simp] theorem State.settledBoot_host_boardBus (s t : State) : (s.settledBoot t).host.boardBus = t.host.boardBus := by
  simp [State.settledBoot]
@[simp] theorem State.settledBoot_fabric_granted (s t : State) : (s.settledBoot t).fabric.granted = t.fabric.granted := by
  simp [State.settledBoot]
@[simp] theorem State.settledBoot_fabric_collisions (s t : State) : (s.settledBoot t).fabric.collisions = t.fabric.collisions := by
  simp [State.settledBoot]
@[simp] theorem State.settledBoot_fabric_streak (s t : State) : (s.settledBoot t).fabric.streak = t.fabric.streak := by
  simp [State.settledBoot]
@[simp] theorem State.settledBoot_fabric_corrected (s t : State) : (s.settledBoot t).fabric.corrected = t.fabric.corrected := by
  simp [State.settledBoot]
@[simp] theorem State.settledBoot_fabric_refusals (s t : State) : (s.settledBoot t).fabric.refusals = t.fabric.refusals := by
  simp [State.settledBoot]
@[simp] theorem State.settledBoot_fabric_faulty (s t : State) : (s.settledBoot t).fabric.faulty = t.fabric.faulty := by
  simp [State.settledBoot]
@[simp] theorem State.settledBoot_fabric_spareFor (s t : State) : (s.settledBoot t).fabric.spareFor = t.fabric.spareFor := by
  simp [State.settledBoot]
@[simp] theorem State.settledBoot_fabric_badWords (s t : State) : (s.settledBoot t).fabric.badWords = t.fabric.badWords := by
  simp [State.settledBoot]
@[simp] theorem State.settledBoot_fabric_responses (s t : State) : (s.settledBoot t).fabric.responses = t.fabric.responses := by
  simp [State.settledBoot]
@[simp] theorem State.settledBoot_ev_mask (s t : State) : (s.settledBoot t).ev.mask = t.ev.mask := by
  simp [State.settledBoot]
@[simp] theorem State.settledBoot_ev_queueBaseLo (s t : State) : (s.settledBoot t).ev.queueBaseLo = t.ev.queueBaseLo := by
  simp [State.settledBoot]
@[simp] theorem State.settledBoot_ev_queueBaseHi (s t : State) : (s.settledBoot t).ev.queueBaseHi = t.ev.queueBaseHi := by
  simp [State.settledBoot]
@[simp] theorem State.settledBoot_ev_queueEnable (s t : State) : (s.settledBoot t).ev.queueEnable = t.ev.queueEnable := by
  simp [State.settledBoot]
@[simp] theorem State.settledBoot_ev_routes (s t : State) : (s.settledBoot t).ev.routes = t.ev.routes := by
  simp [State.settledBoot]
@[simp] theorem State.settledBoot_ev_log (s t : State) : (s.settledBoot t).ev.log = t.ev.log := by
  simp [State.settledBoot]
@[simp] theorem State.settledBoot_ev_nextIndex (s t : State) : (s.settledBoot t).ev.nextIndex = t.ev.nextIndex := by
  simp [State.settledBoot]
@[simp] theorem State.settledBoot_ev_headPage (s t : State) : (s.settledBoot t).ev.headPage = t.ev.headPage := by
  simp [State.settledBoot]
@[simp] theorem State.settledBoot_ev_standing (s t : State) : (s.settledBoot t).ev.standing = t.ev.standing := by
  simp [State.settledBoot]
@[simp] theorem State.settledBoot_ev_frozenUntil (s t : State) : (s.settledBoot t).ev.frozenUntil = t.ev.frozenUntil := by
  simp [State.settledBoot]
@[simp] theorem State.settledBoot_ev_holds (s t : State) : (s.settledBoot t).ev.holds = t.ev.holds := by
  simp [State.settledBoot]
@[simp] theorem State.settledBoot_ev_holdsUntil (s t : State) : (s.settledBoot t).ev.holdsUntil = t.ev.holdsUntil := by
  simp [State.settledBoot]
@[simp] theorem State.settledBoot_ev_powerFailing (s t : State) : (s.settledBoot t).ev.powerFailing = t.ev.powerFailing := by
  simp [State.settledBoot]
@[simp] theorem State.settledBoot_ev_regionFault (s t : State) : (s.settledBoot t).ev.regionFault = t.ev.regionFault := by
  simp [State.settledBoot]
@[simp] theorem State.settledBoot_ev_clears (s t : State) : (s.settledBoot t).ev.clears = t.ev.clears := by
  simp [State.settledBoot]
@[simp] theorem State.settledBoot_ev_retentionOk (s t : State) : (s.settledBoot t).ev.retentionOk = t.ev.retentionOk := by
  simp [State.settledBoot]
@[simp] theorem State.settledBoot_ev_queueCi (s t : State) : (s.settledBoot t).ev.queueCi = t.ev.queueCi := by
  simp [State.settledBoot]
@[simp] theorem State.settledBoot_port (s t : State) (j : PortNo) : (s.settledBoot t).port j = t.port j := by
  simp [State.port]
@[simp] theorem State.settledBoot_core (s t : State) (j : Fin 2) : (s.settledBoot t).core j = t.core j := by
  simp [State.core]

@[simp] theorem State.settledTick_pending (s t : State) : (s.settledTick t).pending = s.pending := by
  simp [State.settledTick]
@[simp] theorem State.settledTick_clock (s t : State) : (s.settledTick t).clock = s.nextClock := by
  simp [State.settledTick]
@[simp] theorem State.settledTick_rtc (s t : State) : (s.settledTick t).rtc = t.rtc := by
  simp [State.settledTick]
@[simp] theorem State.settledTick_flash (s t : State) : (s.settledTick t).flash = { t.flash with cells := s.flash.cells } := by
  simp [State.settledTick]
@[simp] theorem State.settledTick_ports (s t : State) : (s.settledTick t).ports = t.ports := by
  simp [State.settledTick]
@[simp] theorem State.settledTick_map (s t : State) : (s.settledTick t).map = t.map := by
  simp [State.settledTick]
@[simp] theorem State.settledTick_prot (s t : State) : (s.settledTick t).prot = t.prot := by
  simp [State.settledTick]
@[simp] theorem State.settledTick_dpll (s t : State) : (s.settledTick t).dpll = t.dpll := by
  simp [State.settledTick]
@[simp] theorem State.settledTick_casc (s t : State) : (s.settledTick t).casc = t.casc := by
  simp [State.settledTick]
@[simp] theorem State.settledTick_mgmt (s t : State) : (s.settledTick t).mgmt = t.mgmt := by
  simp [State.settledTick]
@[simp] theorem State.settledTick_sec (s t : State) : (s.settledTick t).sec = t.sec := by
  simp [State.settledTick]
@[simp] theorem State.settledTick_ember (s t : State) : (s.settledTick t).ember = t.ember := by
  simp [State.settledTick]
@[simp] theorem State.settledTick_cap (s t : State) : (s.settledTick t).cap = t.cap := by
  simp [State.settledTick]
@[simp] theorem State.settledTick_pwr (s t : State) : (s.settledTick t).pwr = t.pwr := by
  simp [State.settledTick]
@[simp] theorem State.settledTick_rst (s t : State) : (s.settledTick t).rst = t.rst := by
  simp [State.settledTick]
@[simp] theorem State.settledTick_bist (s t : State) : (s.settledTick t).bist = t.bist := by
  simp [State.settledTick]
@[simp] theorem State.settledTick_perf (s t : State) : (s.settledTick t).perf = t.perf := by
  simp [State.settledTick]
@[simp] theorem State.settledTick_gpio (s t : State) : (s.settledTick t).gpio = t.gpio := by
  simp [State.settledTick]
@[simp] theorem State.settledTick_deferred (s t : State) : (s.settledTick t).deferred = t.deferred := by
  simp [State.settledTick]
@[simp] theorem State.settledTick_fresh (s t : State) : (s.settledTick t).fresh = t.fresh := by
  simp [State.settledTick]
@[simp] theorem State.settledTick_host_service (s t : State) : (s.settledTick t).host.service = t.host.service := by
  simp [State.settledTick]
@[simp] theorem State.settledTick_host_linkWidth (s t : State) : (s.settledTick t).host.linkWidth = t.host.linkWidth := by
  simp [State.settledTick]
@[simp] theorem State.settledTick_host_linkGen (s t : State) : (s.settledTick t).host.linkGen = t.host.linkGen := by
  simp [State.settledTick]
@[simp] theorem State.settledTick_host_busMaster (s t : State) : (s.settledTick t).host.busMaster = t.host.busMaster := by
  simp [State.settledTick]
@[simp] theorem State.settledTick_host_hostHeartbeat (s t : State) : (s.settledTick t).host.hostHeartbeat = t.host.hostHeartbeat := by
  simp [State.settledTick]
@[simp] theorem State.settledTick_host_bmcHeartbeat (s t : State) : (s.settledTick t).host.bmcHeartbeat = t.host.bmcHeartbeat := by
  simp [State.settledTick]
@[simp] theorem State.settledTick_host_mgmtHeartbeat (s t : State) : (s.settledTick t).host.mgmtHeartbeat = t.host.mgmtHeartbeat := by
  simp [State.settledTick]
@[simp] theorem State.settledTick_host_setWins (s t : State) : (s.settledTick t).host.setWins = t.host.setWins := by
  simp [State.settledTick]
@[simp] theorem State.settledTick_host_bar0Err (s t : State) : (s.settledTick t).host.bar0Err = t.host.bar0Err := by
  simp [State.settledTick]
@[simp] theorem State.settledTick_host_recoveryPending (s t : State) : (s.settledTick t).host.recoveryPending = t.host.recoveryPending := by
  simp [State.settledTick]
@[simp] theorem State.settledTick_host_lapseConditions (s t : State) : (s.settledTick t).host.lapseConditions = t.host.lapseConditions := by
  simp [State.settledTick]
@[simp] theorem State.settledTick_host_lapseTiming (s t : State) : (s.settledTick t).host.lapseTiming = t.host.lapseTiming := by
  simp [State.settledTick]
@[simp] theorem State.settledTick_host_lapseFaults (s t : State) : (s.settledTick t).host.lapseFaults = t.host.lapseFaults := by
  simp [State.settledTick]
@[simp] theorem State.settledTick_host_sems (s t : State) : (s.settledTick t).host.sems = t.host.sems := by
  simp [State.settledTick]
@[simp] theorem State.settledTick_host_semMs (s t : State) : (s.settledTick t).host.semMs = t.host.semMs := by
  simp [State.settledTick]
@[simp] theorem State.settledTick_host_msixTable (s t : State) : (s.settledTick t).host.msixTable = t.host.msixTable := by
  simp [State.settledTick]
@[simp] theorem State.settledTick_host_waiting (s t : State) : (s.settledTick t).host.waiting = t.host.waiting := by
  simp [State.settledTick]
@[simp] theorem State.settledTick_host_nextTicket (s t : State) : (s.settledTick t).host.nextTicket = t.host.nextTicket := by
  simp [State.settledTick]
@[simp] theorem State.settledTick_host_busyBurst (s t : State) : (s.settledTick t).host.busyBurst = t.host.busyBurst := by
  simp [State.settledTick]
@[simp] theorem State.settledTick_host_served (s t : State) : (s.settledTick t).host.served = t.host.served := by
  simp [State.settledTick]
@[simp] theorem State.settledTick_host_journalRoom (s t : State) : (s.settledTick t).host.journalRoom = t.host.journalRoom := by
  simp [State.settledTick]
@[simp] theorem State.settledTick_host_recovery (s t : State) : (s.settledTick t).host.recovery = t.host.recovery := by
  simp [State.settledTick]
@[simp] theorem State.settledTick_host_snapshot (s t : State) : (s.settledTick t).host.snapshot = t.host.snapshot := by
  simp [State.settledTick]
@[simp] theorem State.settledTick_host_snapshotBlank (s t : State) : (s.settledTick t).host.snapshotBlank = t.host.snapshotBlank := by
  simp [State.settledTick]
@[simp] theorem State.settledTick_host_lastRead (s t : State) : (s.settledTick t).host.lastRead = t.host.lastRead := by
  simp [State.settledTick]
@[simp] theorem State.settledTick_host_boardBus (s t : State) : (s.settledTick t).host.boardBus = t.host.boardBus := by
  simp [State.settledTick]
@[simp] theorem State.settledTick_fabric_granted (s t : State) : (s.settledTick t).fabric.granted = t.fabric.granted := by
  simp [State.settledTick]
@[simp] theorem State.settledTick_fabric_collisions (s t : State) : (s.settledTick t).fabric.collisions = t.fabric.collisions := by
  simp [State.settledTick]
@[simp] theorem State.settledTick_fabric_streak (s t : State) : (s.settledTick t).fabric.streak = t.fabric.streak := by
  simp [State.settledTick]
@[simp] theorem State.settledTick_fabric_corrected (s t : State) : (s.settledTick t).fabric.corrected = t.fabric.corrected := by
  simp [State.settledTick]
@[simp] theorem State.settledTick_fabric_refusals (s t : State) : (s.settledTick t).fabric.refusals = t.fabric.refusals := by
  simp [State.settledTick]
@[simp] theorem State.settledTick_fabric_faulty (s t : State) : (s.settledTick t).fabric.faulty = t.fabric.faulty := by
  simp [State.settledTick]
@[simp] theorem State.settledTick_fabric_spareFor (s t : State) : (s.settledTick t).fabric.spareFor = t.fabric.spareFor := by
  simp [State.settledTick]
@[simp] theorem State.settledTick_fabric_badWords (s t : State) : (s.settledTick t).fabric.badWords = t.fabric.badWords := by
  simp [State.settledTick]
@[simp] theorem State.settledTick_fabric_responses (s t : State) : (s.settledTick t).fabric.responses = t.fabric.responses := by
  simp [State.settledTick]
@[simp] theorem State.settledTick_ev_mask (s t : State) : (s.settledTick t).ev.mask = t.ev.mask := by
  simp [State.settledTick]
@[simp] theorem State.settledTick_ev_queueBaseLo (s t : State) : (s.settledTick t).ev.queueBaseLo = t.ev.queueBaseLo := by
  simp [State.settledTick]
@[simp] theorem State.settledTick_ev_queueBaseHi (s t : State) : (s.settledTick t).ev.queueBaseHi = t.ev.queueBaseHi := by
  simp [State.settledTick]
@[simp] theorem State.settledTick_ev_queueEnable (s t : State) : (s.settledTick t).ev.queueEnable = t.ev.queueEnable := by
  simp [State.settledTick]
@[simp] theorem State.settledTick_ev_routes (s t : State) : (s.settledTick t).ev.routes = t.ev.routes := by
  simp [State.settledTick]
@[simp] theorem State.settledTick_ev_log (s t : State) : (s.settledTick t).ev.log = t.ev.log := by
  simp [State.settledTick]
@[simp] theorem State.settledTick_ev_nextIndex (s t : State) : (s.settledTick t).ev.nextIndex = t.ev.nextIndex := by
  simp [State.settledTick]
@[simp] theorem State.settledTick_ev_headPage (s t : State) : (s.settledTick t).ev.headPage = t.ev.headPage := by
  simp [State.settledTick]
@[simp] theorem State.settledTick_ev_standing (s t : State) : (s.settledTick t).ev.standing = t.ev.standing := by
  simp [State.settledTick]
@[simp] theorem State.settledTick_ev_frozenUntil (s t : State) : (s.settledTick t).ev.frozenUntil = t.ev.frozenUntil := by
  simp [State.settledTick]
@[simp] theorem State.settledTick_ev_holds (s t : State) : (s.settledTick t).ev.holds = t.ev.holds := by
  simp [State.settledTick]
@[simp] theorem State.settledTick_ev_holdsUntil (s t : State) : (s.settledTick t).ev.holdsUntil = t.ev.holdsUntil := by
  simp [State.settledTick]
@[simp] theorem State.settledTick_ev_powerFailing (s t : State) : (s.settledTick t).ev.powerFailing = t.ev.powerFailing := by
  simp [State.settledTick]
@[simp] theorem State.settledTick_ev_regionFault (s t : State) : (s.settledTick t).ev.regionFault = t.ev.regionFault := by
  simp [State.settledTick]
@[simp] theorem State.settledTick_ev_clears (s t : State) : (s.settledTick t).ev.clears = t.ev.clears := by
  simp [State.settledTick]
@[simp] theorem State.settledTick_ev_retentionOk (s t : State) : (s.settledTick t).ev.retentionOk = t.ev.retentionOk := by
  simp [State.settledTick]
@[simp] theorem State.settledTick_ev_queueCi (s t : State) : (s.settledTick t).ev.queueCi = t.ev.queueCi := by
  simp [State.settledTick]
@[simp] theorem State.settledTick_port (s t : State) (j : PortNo) : (s.settledTick t).port j = t.port j := by
  simp [State.port]
@[simp] theorem State.settledTick_core (s t : State) (j : Fin 2) : (s.settledTick t).core j = t.core j := by
  simp [State.core]

@[simp] theorem State.writeResponse_chan_reqPi (c : Fin 8) (x : Response) (j : Fin 8) (s : State) : ((s.writeResponse c x).chan j).reqPi = (s.chan j).reqPi := by
  unfold State.writeResponse; simp; split
  · rename_i e; subst e; rfl
  · rfl
@[simp] theorem State.putResponse_chan_reqPi (c : Fin 8) (x : Response) (j : Fin 8) (s : State) : ((s.putResponse c x).chan j).reqPi = (s.chan j).reqPi := by
  unfold State.putResponse; simp only; split
  · simp; split
    · rename_i e; subst e; rfl
    · rfl
  · simp
@[simp] theorem State.putResponses_chan_reqPi (xs : List (Fin 8 × Response)) (j : Fin 8) (s : State) : ((State.putResponses xs s).chan j).reqPi = (s.chan j).reqPi := by
  induction xs generalizing s with
  | nil => rfl
  | cons x xs ih => simp [State.putResponses, ih]
@[simp] theorem State.settle_chan_reqPi (j : Fin 8) (s : State) : (s.settle.chan j).reqPi = (s.chan j).reqPi := by
  unfold State.settle; split
  · rfl
  · rw [State.putResponses_chan_reqPi]; rfl
@[simp] theorem State.settled_chan_reqPi (j : Fin 8) (s t : State) : ((s.settled t).chan j).reqPi = (t.chan j).reqPi := by
  rw [State.settled, State.settle_chan_reqPi]; rfl
@[simp] theorem State.settledFabric_chan_reqPi (j : Fin 8) (s t : State) : ((s.settledFabric t).chan j).reqPi = (t.chan j).reqPi := by
  rw [State.settledFabric, State.settle_chan_reqPi]; rfl
@[simp] theorem State.settledStart_chan_reqPi (j : Fin 8) (s t : State) : ((s.settledStart t).chan j).reqPi = (t.chan j).reqPi := by
  rw [State.settledStart, State.settle_chan_reqPi]; rfl
@[simp] theorem State.settledBoot_chan_reqPi (j : Fin 8) (s t : State) : ((s.settledBoot t).chan j).reqPi = (t.chan j).reqPi := by
  rw [State.settledBoot, State.settle_chan_reqPi]; rfl
@[simp] theorem State.settledTick_chan_reqPi (j : Fin 8) (s t : State) : ((s.settledTick t).chan j).reqPi = (t.chan j).reqPi := by
  rw [State.settledTick, State.settle_chan_reqPi]; rfl

@[simp] theorem State.writeResponse_chan_reqCi (c : Fin 8) (x : Response) (j : Fin 8) (s : State) : ((s.writeResponse c x).chan j).reqCi = (s.chan j).reqCi := by
  unfold State.writeResponse; simp; split
  · rename_i e; subst e; rfl
  · rfl
@[simp] theorem State.putResponse_chan_reqCi (c : Fin 8) (x : Response) (j : Fin 8) (s : State) : ((s.putResponse c x).chan j).reqCi = (s.chan j).reqCi := by
  unfold State.putResponse; simp only; split
  · simp; split
    · rename_i e; subst e; rfl
    · rfl
  · simp
@[simp] theorem State.putResponses_chan_reqCi (xs : List (Fin 8 × Response)) (j : Fin 8) (s : State) : ((State.putResponses xs s).chan j).reqCi = (s.chan j).reqCi := by
  induction xs generalizing s with
  | nil => rfl
  | cons x xs ih => simp [State.putResponses, ih]
@[simp] theorem State.settle_chan_reqCi (j : Fin 8) (s : State) : (s.settle.chan j).reqCi = (s.chan j).reqCi := by
  unfold State.settle; split
  · rfl
  · rw [State.putResponses_chan_reqCi]; rfl
@[simp] theorem State.settled_chan_reqCi (j : Fin 8) (s t : State) : ((s.settled t).chan j).reqCi = (t.chan j).reqCi := by
  rw [State.settled, State.settle_chan_reqCi]; rfl
@[simp] theorem State.settledFabric_chan_reqCi (j : Fin 8) (s t : State) : ((s.settledFabric t).chan j).reqCi = (t.chan j).reqCi := by
  rw [State.settledFabric, State.settle_chan_reqCi]; rfl
@[simp] theorem State.settledStart_chan_reqCi (j : Fin 8) (s t : State) : ((s.settledStart t).chan j).reqCi = (t.chan j).reqCi := by
  rw [State.settledStart, State.settle_chan_reqCi]; rfl
@[simp] theorem State.settledBoot_chan_reqCi (j : Fin 8) (s t : State) : ((s.settledBoot t).chan j).reqCi = (t.chan j).reqCi := by
  rw [State.settledBoot, State.settle_chan_reqCi]; rfl
@[simp] theorem State.settledTick_chan_reqCi (j : Fin 8) (s t : State) : ((s.settledTick t).chan j).reqCi = (t.chan j).reqCi := by
  rw [State.settledTick, State.settle_chan_reqCi]; rfl

@[simp] theorem State.writeResponse_chan_rspCi (c : Fin 8) (x : Response) (j : Fin 8) (s : State) : ((s.writeResponse c x).chan j).rspCi = (s.chan j).rspCi := by
  unfold State.writeResponse; simp; split
  · rename_i e; subst e; rfl
  · rfl
@[simp] theorem State.putResponse_chan_rspCi (c : Fin 8) (x : Response) (j : Fin 8) (s : State) : ((s.putResponse c x).chan j).rspCi = (s.chan j).rspCi := by
  unfold State.putResponse; simp only; split
  · simp; split
    · rename_i e; subst e; rfl
    · rfl
  · simp
@[simp] theorem State.putResponses_chan_rspCi (xs : List (Fin 8 × Response)) (j : Fin 8) (s : State) : ((State.putResponses xs s).chan j).rspCi = (s.chan j).rspCi := by
  induction xs generalizing s with
  | nil => rfl
  | cons x xs ih => simp [State.putResponses, ih]
@[simp] theorem State.settle_chan_rspCi (j : Fin 8) (s : State) : (s.settle.chan j).rspCi = (s.chan j).rspCi := by
  unfold State.settle; split
  · rfl
  · rw [State.putResponses_chan_rspCi]; rfl
@[simp] theorem State.settled_chan_rspCi (j : Fin 8) (s t : State) : ((s.settled t).chan j).rspCi = (t.chan j).rspCi := by
  rw [State.settled, State.settle_chan_rspCi]; rfl
@[simp] theorem State.settledFabric_chan_rspCi (j : Fin 8) (s t : State) : ((s.settledFabric t).chan j).rspCi = (t.chan j).rspCi := by
  rw [State.settledFabric, State.settle_chan_rspCi]; rfl
@[simp] theorem State.settledStart_chan_rspCi (j : Fin 8) (s t : State) : ((s.settledStart t).chan j).rspCi = (t.chan j).rspCi := by
  rw [State.settledStart, State.settle_chan_rspCi]; rfl
@[simp] theorem State.settledBoot_chan_rspCi (j : Fin 8) (s t : State) : ((s.settledBoot t).chan j).rspCi = (t.chan j).rspCi := by
  rw [State.settledBoot, State.settle_chan_rspCi]; rfl
@[simp] theorem State.settledTick_chan_rspCi (j : Fin 8) (s t : State) : ((s.settledTick t).chan j).rspCi = (t.chan j).rspCi := by
  rw [State.settledTick, State.settle_chan_rspCi]; rfl

@[simp] theorem State.writeResponse_chan_mode (c : Fin 8) (x : Response) (j : Fin 8) (s : State) : ((s.writeResponse c x).chan j).mode = (s.chan j).mode := by
  unfold State.writeResponse; simp; split
  · rename_i e; subst e; rfl
  · rfl
@[simp] theorem State.putResponse_chan_mode (c : Fin 8) (x : Response) (j : Fin 8) (s : State) : ((s.putResponse c x).chan j).mode = (s.chan j).mode := by
  unfold State.putResponse; simp only; split
  · simp; split
    · rename_i e; subst e; rfl
    · rfl
  · simp
@[simp] theorem State.putResponses_chan_mode (xs : List (Fin 8 × Response)) (j : Fin 8) (s : State) : ((State.putResponses xs s).chan j).mode = (s.chan j).mode := by
  induction xs generalizing s with
  | nil => rfl
  | cons x xs ih => simp [State.putResponses, ih]
@[simp] theorem State.settle_chan_mode (j : Fin 8) (s : State) : (s.settle.chan j).mode = (s.chan j).mode := by
  unfold State.settle; split
  · rfl
  · rw [State.putResponses_chan_mode]; rfl
@[simp] theorem State.settled_chan_mode (j : Fin 8) (s t : State) : ((s.settled t).chan j).mode = (t.chan j).mode := by
  rw [State.settled, State.settle_chan_mode]; rfl
@[simp] theorem State.settledFabric_chan_mode (j : Fin 8) (s t : State) : ((s.settledFabric t).chan j).mode = (t.chan j).mode := by
  rw [State.settledFabric, State.settle_chan_mode]; rfl
@[simp] theorem State.settledStart_chan_mode (j : Fin 8) (s t : State) : ((s.settledStart t).chan j).mode = (t.chan j).mode := by
  rw [State.settledStart, State.settle_chan_mode]; rfl
@[simp] theorem State.settledBoot_chan_mode (j : Fin 8) (s t : State) : ((s.settledBoot t).chan j).mode = (t.chan j).mode := by
  rw [State.settledBoot, State.settle_chan_mode]; rfl
@[simp] theorem State.settledTick_chan_mode (j : Fin 8) (s t : State) : ((s.settledTick t).chan j).mode = (t.chan j).mode := by
  rw [State.settledTick, State.settle_chan_mode]; rfl

@[simp] theorem State.writeResponse_chan_wasOpen (c : Fin 8) (x : Response) (j : Fin 8) (s : State) : ((s.writeResponse c x).chan j).wasOpen = (s.chan j).wasOpen := by
  unfold State.writeResponse; simp; split
  · rename_i e; subst e; rfl
  · rfl
@[simp] theorem State.putResponse_chan_wasOpen (c : Fin 8) (x : Response) (j : Fin 8) (s : State) : ((s.putResponse c x).chan j).wasOpen = (s.chan j).wasOpen := by
  unfold State.putResponse; simp only; split
  · simp; split
    · rename_i e; subst e; rfl
    · rfl
  · simp
@[simp] theorem State.putResponses_chan_wasOpen (xs : List (Fin 8 × Response)) (j : Fin 8) (s : State) : ((State.putResponses xs s).chan j).wasOpen = (s.chan j).wasOpen := by
  induction xs generalizing s with
  | nil => rfl
  | cons x xs ih => simp [State.putResponses, ih]
@[simp] theorem State.settle_chan_wasOpen (j : Fin 8) (s : State) : (s.settle.chan j).wasOpen = (s.chan j).wasOpen := by
  unfold State.settle; split
  · rfl
  · rw [State.putResponses_chan_wasOpen]; rfl
@[simp] theorem State.settled_chan_wasOpen (j : Fin 8) (s t : State) : ((s.settled t).chan j).wasOpen = (t.chan j).wasOpen := by
  rw [State.settled, State.settle_chan_wasOpen]; rfl
@[simp] theorem State.settledFabric_chan_wasOpen (j : Fin 8) (s t : State) : ((s.settledFabric t).chan j).wasOpen = (t.chan j).wasOpen := by
  rw [State.settledFabric, State.settle_chan_wasOpen]; rfl
@[simp] theorem State.settledStart_chan_wasOpen (j : Fin 8) (s t : State) : ((s.settledStart t).chan j).wasOpen = (t.chan j).wasOpen := by
  rw [State.settledStart, State.settle_chan_wasOpen]; rfl
@[simp] theorem State.settledBoot_chan_wasOpen (j : Fin 8) (s t : State) : ((s.settledBoot t).chan j).wasOpen = (t.chan j).wasOpen := by
  rw [State.settledBoot, State.settle_chan_wasOpen]; rfl
@[simp] theorem State.settledTick_chan_wasOpen (j : Fin 8) (s t : State) : ((s.settledTick t).chan j).wasOpen = (t.chan j).wasOpen := by
  rw [State.settledTick, State.settle_chan_wasOpen]; rfl

@[simp] theorem State.writeResponse_chan_version (c : Fin 8) (x : Response) (j : Fin 8) (s : State) : ((s.writeResponse c x).chan j).version = (s.chan j).version := by
  unfold State.writeResponse; simp; split
  · rename_i e; subst e; rfl
  · rfl
@[simp] theorem State.putResponse_chan_version (c : Fin 8) (x : Response) (j : Fin 8) (s : State) : ((s.putResponse c x).chan j).version = (s.chan j).version := by
  unfold State.putResponse; simp only; split
  · simp; split
    · rename_i e; subst e; rfl
    · rfl
  · simp
@[simp] theorem State.putResponses_chan_version (xs : List (Fin 8 × Response)) (j : Fin 8) (s : State) : ((State.putResponses xs s).chan j).version = (s.chan j).version := by
  induction xs generalizing s with
  | nil => rfl
  | cons x xs ih => simp [State.putResponses, ih]
@[simp] theorem State.settle_chan_version (j : Fin 8) (s : State) : (s.settle.chan j).version = (s.chan j).version := by
  unfold State.settle; split
  · rfl
  · rw [State.putResponses_chan_version]; rfl
@[simp] theorem State.settled_chan_version (j : Fin 8) (s t : State) : ((s.settled t).chan j).version = (t.chan j).version := by
  rw [State.settled, State.settle_chan_version]; rfl
@[simp] theorem State.settledFabric_chan_version (j : Fin 8) (s t : State) : ((s.settledFabric t).chan j).version = (t.chan j).version := by
  rw [State.settledFabric, State.settle_chan_version]; rfl
@[simp] theorem State.settledStart_chan_version (j : Fin 8) (s t : State) : ((s.settledStart t).chan j).version = (t.chan j).version := by
  rw [State.settledStart, State.settle_chan_version]; rfl
@[simp] theorem State.settledBoot_chan_version (j : Fin 8) (s t : State) : ((s.settledBoot t).chan j).version = (t.chan j).version := by
  rw [State.settledBoot, State.settle_chan_version]; rfl
@[simp] theorem State.settledTick_chan_version (j : Fin 8) (s t : State) : ((s.settledTick t).chan j).version = (t.chan j).version := by
  rw [State.settledTick, State.settle_chan_version]; rfl

@[simp] theorem State.writeResponse_chan_window (c : Fin 8) (x : Response) (j : Fin 8) (s : State) : ((s.writeResponse c x).chan j).window = (s.chan j).window := by
  unfold State.writeResponse; simp; split
  · rename_i e; subst e; rfl
  · rfl
@[simp] theorem State.putResponse_chan_window (c : Fin 8) (x : Response) (j : Fin 8) (s : State) : ((s.putResponse c x).chan j).window = (s.chan j).window := by
  unfold State.putResponse; simp only; split
  · simp; split
    · rename_i e; subst e; rfl
    · rfl
  · simp
@[simp] theorem State.putResponses_chan_window (xs : List (Fin 8 × Response)) (j : Fin 8) (s : State) : ((State.putResponses xs s).chan j).window = (s.chan j).window := by
  induction xs generalizing s with
  | nil => rfl
  | cons x xs ih => simp [State.putResponses, ih]
@[simp] theorem State.settle_chan_window (j : Fin 8) (s : State) : (s.settle.chan j).window = (s.chan j).window := by
  unfold State.settle; split
  · rfl
  · rw [State.putResponses_chan_window]; rfl
@[simp] theorem State.settled_chan_window (j : Fin 8) (s t : State) : ((s.settled t).chan j).window = (t.chan j).window := by
  rw [State.settled, State.settle_chan_window]; rfl
@[simp] theorem State.settledFabric_chan_window (j : Fin 8) (s t : State) : ((s.settledFabric t).chan j).window = (t.chan j).window := by
  rw [State.settledFabric, State.settle_chan_window]; rfl
@[simp] theorem State.settledStart_chan_window (j : Fin 8) (s t : State) : ((s.settledStart t).chan j).window = (t.chan j).window := by
  rw [State.settledStart, State.settle_chan_window]; rfl
@[simp] theorem State.settledBoot_chan_window (j : Fin 8) (s t : State) : ((s.settledBoot t).chan j).window = (t.chan j).window := by
  rw [State.settledBoot, State.settle_chan_window]; rfl
@[simp] theorem State.settledTick_chan_window (j : Fin 8) (s t : State) : ((s.settledTick t).chan j).window = (t.chan j).window := by
  rw [State.settledTick, State.settle_chan_window]; rfl

@[simp] theorem State.writeResponse_chan_left (c : Fin 8) (x : Response) (j : Fin 8) (s : State) : ((s.writeResponse c x).chan j).left = (s.chan j).left := by
  unfold State.writeResponse; simp; split
  · rename_i e; subst e; rfl
  · rfl
@[simp] theorem State.putResponse_chan_left (c : Fin 8) (x : Response) (j : Fin 8) (s : State) : ((s.putResponse c x).chan j).left = (s.chan j).left := by
  unfold State.putResponse; simp only; split
  · simp; split
    · rename_i e; subst e; rfl
    · rfl
  · simp
@[simp] theorem State.putResponses_chan_left (xs : List (Fin 8 × Response)) (j : Fin 8) (s : State) : ((State.putResponses xs s).chan j).left = (s.chan j).left := by
  induction xs generalizing s with
  | nil => rfl
  | cons x xs ih => simp [State.putResponses, ih]
@[simp] theorem State.settle_chan_left (j : Fin 8) (s : State) : (s.settle.chan j).left = (s.chan j).left := by
  unfold State.settle; split
  · rfl
  · rw [State.putResponses_chan_left]; rfl
@[simp] theorem State.settled_chan_left (j : Fin 8) (s t : State) : ((s.settled t).chan j).left = (t.chan j).left := by
  rw [State.settled, State.settle_chan_left]; rfl
@[simp] theorem State.settledFabric_chan_left (j : Fin 8) (s t : State) : ((s.settledFabric t).chan j).left = (t.chan j).left := by
  rw [State.settledFabric, State.settle_chan_left]; rfl
@[simp] theorem State.settledStart_chan_left (j : Fin 8) (s t : State) : ((s.settledStart t).chan j).left = (t.chan j).left := by
  rw [State.settledStart, State.settle_chan_left]; rfl
@[simp] theorem State.settledBoot_chan_left (j : Fin 8) (s t : State) : ((s.settledBoot t).chan j).left = (t.chan j).left := by
  rw [State.settledBoot, State.settle_chan_left]; rfl
@[simp] theorem State.settledTick_chan_left (j : Fin 8) (s t : State) : ((s.settledTick t).chan j).left = (t.chan j).left := by
  rw [State.settledTick, State.settle_chan_left]; rfl

@[simp] theorem State.writeResponse_chan_busy (c : Fin 8) (x : Response) (j : Fin 8) (s : State) : ((s.writeResponse c x).chan j).busy = (s.chan j).busy := by
  unfold State.writeResponse; simp; split
  · rename_i e; subst e; rfl
  · rfl
@[simp] theorem State.putResponse_chan_busy (c : Fin 8) (x : Response) (j : Fin 8) (s : State) : ((s.putResponse c x).chan j).busy = (s.chan j).busy := by
  unfold State.putResponse; simp only; split
  · simp; split
    · rename_i e; subst e; rfl
    · rfl
  · simp
@[simp] theorem State.putResponses_chan_busy (xs : List (Fin 8 × Response)) (j : Fin 8) (s : State) : ((State.putResponses xs s).chan j).busy = (s.chan j).busy := by
  induction xs generalizing s with
  | nil => rfl
  | cons x xs ih => simp [State.putResponses, ih]
@[simp] theorem State.settle_chan_busy (j : Fin 8) (s : State) : (s.settle.chan j).busy = (s.chan j).busy := by
  unfold State.settle; split
  · rfl
  · rw [State.putResponses_chan_busy]; rfl
@[simp] theorem State.settled_chan_busy (j : Fin 8) (s t : State) : ((s.settled t).chan j).busy = (t.chan j).busy := by
  rw [State.settled, State.settle_chan_busy]; rfl
@[simp] theorem State.settledFabric_chan_busy (j : Fin 8) (s t : State) : ((s.settledFabric t).chan j).busy = (t.chan j).busy := by
  rw [State.settledFabric, State.settle_chan_busy]; rfl
@[simp] theorem State.settledStart_chan_busy (j : Fin 8) (s t : State) : ((s.settledStart t).chan j).busy = (t.chan j).busy := by
  rw [State.settledStart, State.settle_chan_busy]; rfl
@[simp] theorem State.settledBoot_chan_busy (j : Fin 8) (s t : State) : ((s.settledBoot t).chan j).busy = (t.chan j).busy := by
  rw [State.settledBoot, State.settle_chan_busy]; rfl
@[simp] theorem State.settledTick_chan_busy (j : Fin 8) (s t : State) : ((s.settledTick t).chan j).busy = (t.chan j).busy := by
  rw [State.settledTick, State.settle_chan_busy]; rfl

@[simp] theorem State.writeResponse_chan_doorbell (c : Fin 8) (x : Response) (j : Fin 8) (s : State) : ((s.writeResponse c x).chan j).doorbell = (s.chan j).doorbell := by
  unfold State.writeResponse; simp; split
  · rename_i e; subst e; rfl
  · rfl
@[simp] theorem State.putResponse_chan_doorbell (c : Fin 8) (x : Response) (j : Fin 8) (s : State) : ((s.putResponse c x).chan j).doorbell = (s.chan j).doorbell := by
  unfold State.putResponse; simp only; split
  · simp; split
    · rename_i e; subst e; rfl
    · rfl
  · simp
@[simp] theorem State.putResponses_chan_doorbell (xs : List (Fin 8 × Response)) (j : Fin 8) (s : State) : ((State.putResponses xs s).chan j).doorbell = (s.chan j).doorbell := by
  induction xs generalizing s with
  | nil => rfl
  | cons x xs ih => simp [State.putResponses, ih]
@[simp] theorem State.settle_chan_doorbell (j : Fin 8) (s : State) : (s.settle.chan j).doorbell = (s.chan j).doorbell := by
  unfold State.settle; split
  · rfl
  · rw [State.putResponses_chan_doorbell]; rfl
@[simp] theorem State.settled_chan_doorbell (j : Fin 8) (s t : State) : ((s.settled t).chan j).doorbell = (t.chan j).doorbell := by
  rw [State.settled, State.settle_chan_doorbell]; rfl
@[simp] theorem State.settledFabric_chan_doorbell (j : Fin 8) (s t : State) : ((s.settledFabric t).chan j).doorbell = (t.chan j).doorbell := by
  rw [State.settledFabric, State.settle_chan_doorbell]; rfl
@[simp] theorem State.settledStart_chan_doorbell (j : Fin 8) (s t : State) : ((s.settledStart t).chan j).doorbell = (t.chan j).doorbell := by
  rw [State.settledStart, State.settle_chan_doorbell]; rfl
@[simp] theorem State.settledBoot_chan_doorbell (j : Fin 8) (s t : State) : ((s.settledBoot t).chan j).doorbell = (t.chan j).doorbell := by
  rw [State.settledBoot, State.settle_chan_doorbell]; rfl
@[simp] theorem State.settledTick_chan_doorbell (j : Fin 8) (s t : State) : ((s.settledTick t).chan j).doorbell = (t.chan j).doorbell := by
  rw [State.settledTick, State.settle_chan_doorbell]; rfl

@[simp] theorem State.writeResponse_chan_rungPi (c : Fin 8) (x : Response) (j : Fin 8) (s : State) : ((s.writeResponse c x).chan j).rungPi = (s.chan j).rungPi := by
  unfold State.writeResponse; simp; split
  · rename_i e; subst e; rfl
  · rfl
@[simp] theorem State.putResponse_chan_rungPi (c : Fin 8) (x : Response) (j : Fin 8) (s : State) : ((s.putResponse c x).chan j).rungPi = (s.chan j).rungPi := by
  unfold State.putResponse; simp only; split
  · simp; split
    · rename_i e; subst e; rfl
    · rfl
  · simp
@[simp] theorem State.putResponses_chan_rungPi (xs : List (Fin 8 × Response)) (j : Fin 8) (s : State) : ((State.putResponses xs s).chan j).rungPi = (s.chan j).rungPi := by
  induction xs generalizing s with
  | nil => rfl
  | cons x xs ih => simp [State.putResponses, ih]
@[simp] theorem State.settle_chan_rungPi (j : Fin 8) (s : State) : (s.settle.chan j).rungPi = (s.chan j).rungPi := by
  unfold State.settle; split
  · rfl
  · rw [State.putResponses_chan_rungPi]; rfl
@[simp] theorem State.settled_chan_rungPi (j : Fin 8) (s t : State) : ((s.settled t).chan j).rungPi = (t.chan j).rungPi := by
  rw [State.settled, State.settle_chan_rungPi]; rfl
@[simp] theorem State.settledFabric_chan_rungPi (j : Fin 8) (s t : State) : ((s.settledFabric t).chan j).rungPi = (t.chan j).rungPi := by
  rw [State.settledFabric, State.settle_chan_rungPi]; rfl
@[simp] theorem State.settledStart_chan_rungPi (j : Fin 8) (s t : State) : ((s.settledStart t).chan j).rungPi = (t.chan j).rungPi := by
  rw [State.settledStart, State.settle_chan_rungPi]; rfl
@[simp] theorem State.settledBoot_chan_rungPi (j : Fin 8) (s t : State) : ((s.settledBoot t).chan j).rungPi = (t.chan j).rungPi := by
  rw [State.settledBoot, State.settle_chan_rungPi]; rfl
@[simp] theorem State.settledTick_chan_rungPi (j : Fin 8) (s t : State) : ((s.settledTick t).chan j).rungPi = (t.chan j).rungPi := by
  rw [State.settledTick, State.settle_chan_rungPi]; rfl

end Sys2Proof.Machine
end

