-- ==== Sys2Proof/Laws/Answer.lean ====
section
/-! SUPPORT. What the device does with a request that it admits: the command's own checks decide, and each kind of reply
records its status. -/
namespace Sys2Proof.Machine

/-! The channels' records are not touched by posting responses. -/

theorem State.writeResponse_window (c j : Fin 8) (x : Response) (s : State) : ((s.writeResponse c x).chan j).window = (s.chan j).window := by
  simp only [State.writeResponse, State.signalResponse_chan, State.journal_chan, State.setChan_chan]
  split
  · next h => subst h; rfl
  · rfl

theorem State.putResponse_window (c j : Fin 8) (x : Response) (s : State) : ((s.putResponse c x).chan j).window = (s.chan j).window := by
  unfold State.putResponse
  simp only
  split
  · simp only [State.raiseIf_chan, State.setChan_chan]
    split
    · next h => subst h; rfl
    · rfl
  · exact State.writeResponse_window c j x s

theorem State.putResponses_window (xs : List (Fin 8 × Response)) (j : Fin 8) (s : State) :
    ((State.putResponses xs s).chan j).window = (s.chan j).window := by
  induction xs generalizing s with
  | nil => rfl
  | cons x xs ih => rw [State.putResponses, ih, State.putResponse_window]

theorem State.settle_window (j : Fin 8) (s : State) : (s.settle.chan j).window = (s.chan j).window := by
  unfold State.settle
  split
  · rfl
  · rw [State.putResponses_window]; rfl

/-- What a step leaves recorded is what its effects recorded. -/
@[simp] theorem State.settle_recorded (j : Fin 8) (x : BitVec 64) (s : State) : (s.settle.chan j).recorded x = (s.chan j).recorded x := by
  simp only [Channel.recorded, State.settle_window]

@[simp] theorem State.settled_recorded (j : Fin 8) (x : BitVec 64) (s t : State) : ((s.settled t).chan j).recorded x = (t.chan j).recorded x := by
  simp only [State.settled, State.settle_recorded]; rfl

/-- After a step outside a service gap no response is kept back. -/
theorem State.settle_outbox (s : State) (h : s.mgmt.serviceGap = false) : s.settle.host.outbox = [] := by
  have key : ∀ (xs : List (Fin 8 × Response)) (s : State), (State.putResponses xs s).host.outbox = s.host.outbox := by
    intro xs
    induction xs with
    | nil => intro s; rfl
    | cons x xs ih =>
      intro s
      rw [State.putResponses, ih]
      unfold State.putResponse
      simp only
      split
      · simp
      · simp [State.writeResponse]
  unfold State.settle
  simp only [h, Bool.false_eq_true, if_false]
  exact key _ _

/-! The parts of an answer. -/

/-- The host port is still but for the parts that `still` leaves out. -/
theorem HostState.still_eq {a b : HostState} (h : a.still = b.still) : a.still = b.still := h

theorem State.settle_still (s : State) : s.settle.host.still = s.host.still := by
  simp only [HostState.still, State.settle_host_service, State.settle_host_linkWidth,
    State.settle_host_linkGen, State.settle_host_busMaster, State.settle_host_hostHeartbeat, State.settle_host_bmcHeartbeat,
    State.settle_host_mgmtHeartbeat, State.settle_host_setWins, State.settle_host_bar0Err, State.settle_host_recoveryPending,
    State.settle_host_lapseConditions, State.settle_host_lapseTiming, State.settle_host_lapseFaults, State.settle_host_sems,
    State.settle_host_semMs, State.settle_host_msixTable, State.settle_host_served, State.settle_host_journalRoom,
    State.settle_host_recovery, State.settle_host_snapshot, State.settle_host_snapshotBlank, State.settle_host_lastRead,
    State.settle_host_boardBus]

/-- A request that the device admits passes the steps of its examination. -/
theorem State.Admits.examine {s : State} {k : Command} {r : Request} (h : s.Admits k r) : s.examine k.opcode (some k) r = none := by
  obtain ⟨-, -, -, ho, ⟨hf, hr⟩, ⟨hl, hl', hd, hd'⟩, hc, -, -⟩ := h
  have e1 : ¬ ((4064 : BitVec 16) < r.payloadLength) := by bv_omega
  have e2 : ¬ ((4096 : BitVec 16) < r.descCount) := by bv_omega
  have e3 : ((r.descCount != 0) != k.desc) = false := by
    cases hk : k.desc
    · have := hd.2 hk; simp [this]
    · have : r.descCount ≠ 0 := fun e => by simp [hd.1 e] at hk
      rw [bne_iff_ne.2 this]; rfl
  have e4 : ((r.flags &&& (if k.persist then 0xFFF9 else 0xFFFB)) != 0 || r.reserved != 0) = false := by
    rw [hf, hr]; rfl
  have e5 : (r.payloadLength.toNat != k.length || decide (4096 < r.descCount) || (r.descCount != 0) != k.desc) = false := by
    rw [e3, hl, decide_eq_false e2]; simp
  have e6 : (!k.cls.admits r.channel) = false := by rw [hc]; rfl
  unfold State.examine
  simp only [e4, e5, e6, if_neg e1, Bool.false_eq_true, if_false]
  rcases ho with ho | ⟨hm, hv, hs⟩
  · simp [ho]
  · have e7 : ¬ (s.chan r.channel).version < k.since := by rw [← hv]; bv_omega
    simp [hm, hv, e7]

/-- The device clears the way for the request: nothing but the journal and the burst of ERR_BUSY changes. -/
@[simp] theorem State.cleared_chan (r : Request) (j : Fin 8) (s : State) : (s.cleared r).chan j = s.chan j := rfl
@[simp] theorem State.cleared_still (r : Request) (s : State) : (s.cleared r).host.still = s.host.still := rfl

/-- An admitted request without descriptors is judged by its command's own checks. -/
theorem State.Admits.request {s : State} {k : Command} {r : Request} (h : s.Admits k r) (hd : k.desc = false)
    (hr : k.range r = none) : s.request k r = (s.cleared r).answer k r 0 [] false (k.check r 0 (s.judged r)) := by
  have he := h.examine
  obtain ⟨ht, h0, hf, -, -, -, -, hc, hs1, hs2⟩ := h
  have e1 : (k.full && (s.cleared r).host.service == 1) = false := by
    cases hk : k.full
    · rfl
    · exact beq_eq_false_iff_ne.2 (hs1 hk)
  have e2 : (decide (3 ≤ (s.cleared r).host.service) && !k.always) = false := by
    by_cases hk : 3 ≤ s.host.service
    · simp [hs2 hk]
    · have : ¬ 3 ≤ (s.cleared r).host.service := hk
      rw [decide_eq_false this]; rfl
  unfold State.request State.serve
  simp only [ht, if_true, if_neg h0, hf, he, hc, hd, Bool.not_true, Bool.false_eq_true, if_false, State.checkOwn, e1, hr]
  simp only [e2, Bool.false_eq_true, if_false, State.judged]

/-- An admitted request with descriptors waits for its descriptor list. -/
theorem State.Admits.request_desc {s : State} {k : Command} {r : Request} (h : s.Admits k r) (hd : k.desc = true) :
    s.request k r = (s.cleared r).await k r false false .descriptors := by
  have he := h.examine
  obtain ⟨ht, h0, hf, -, -, -, -, hc, -, -⟩ := h
  unfold State.request State.serve
  simp only [ht, if_true, if_neg h0, hf, he, hc, hd, Bool.not_true, Bool.false_eq_true, if_false]

/-- The last of a list is found when nothing before it is. -/
theorem find_lastN (p : TokenEntry → Bool) (e : TokenEntry) (n : Nat) (hn : 0 < n) (xs : List TokenEntry) (h : xs.find? p = none)
    (he : p e = true) : (lastN n (xs ++ [e])).find? p = some e := by
  have : ∀ m, m ≤ xs.length → ((xs ++ [e]).drop m).find? p = some e := by
    intro m hm
    rw [List.drop_append_of_le_length hm, List.find?_append]
    have : (xs.drop m).find? p = none := by
      rw [List.find?_eq_none] at h ⊢
      exact fun x hx => h x (List.mem_of_mem_drop hx)
    simp [this, he]
  unfold lastN
  exact this _ (by simp; omega)

/-- The entry under which an accepted request is recorded (R324). -/
def acceptedEntry (op : BitVec 16) (r : Request) (st : Status) (d : Nat) (res : List Byte) (tk : BitVec 32) (s : State) : TokenEntry :=
  { token := r.token, opcode := op, digest := some (requestDigest op r), status := st, stage := 0
    detail := BitVec.ofNat 32 d, results := res, version := s.answerVersion r.channel, sequence := r.sequence
    persist := r.persist, noIrq := r.noIrq, durable := false, recovery := false, ticket := tk, jobState := 0, reason := 0
    startTick := 0, bound := 0, acceptedBy := s.activeCore, withdrawn := false }

theorem State.letIn_window (op : BitVec 16) (r : Request) (st : Status) (d : Nat) (res : List Byte) (tk : BitVec 32) (s : State) :
    ((s.letIn op r false st d res tk).chan r.channel).window
      = lastN 512 ((s.chan r.channel).window ++ [acceptedEntry op r st d res tk s]) := by
  unfold State.letIn State.advance
  simp only [State.post_chan, State.setChan_chan, if_true, Bool.false_eq_true, if_false, Channel.record, acceptedEntry, State.journal_chan]

/-- A request that is accepted is recorded with its first response. -/
theorem State.letIn_recorded {op : BitVec 16} {r : Request} {st : Status} {d : Nat} {res : List Byte} {tk : BitVec 32} {s : State}
    (h : (s.chan r.channel).recorded r.token = none) :
    ((s.letIn op r false st d res tk).chan r.channel).recorded r.token = some (acceptedEntry op r st d res tk s) := by
  unfold Channel.recorded at h ⊢
  rw [State.letIn_window]
  exact find_lastN _ _ 512 (by decide) _ h (by simp [acceptedEntry])

theorem State.setChan_still (c : Fin 8) (f : Channel → Channel) (s : State) : (s.setChan c f).host.still = s.host.still := by
  simp only [State.setChan_host, HostState.still]
theorem State.post_still (c : Fin 8) (x : Response) (s : State) : (s.post c x).host.still = s.host.still := by
  simp only [State.post_host, HostState.still]
theorem State.journal_still (c : CommandRef) (k : JournalKind) (s : State) : (s.journal c k).host.still = s.host.still := by
  simp only [State.journal_host, HostState.still]

section LetIn
variable (op : BitVec 16) (r : Request) (ring : Bool) (st : Status) (d : Nat) (res : List Byte) (tk : BitVec 32) (s : State)
@[simp] theorem State.letIn_pending : (s.letIn op r ring st d res tk).pending = s.pending := by
  unfold State.letIn State.advance; cases ring <;> simp
@[simp] theorem State.letIn_clock : (s.letIn op r ring st d res tk).clock = s.clock := by
  unfold State.letIn State.advance; cases ring <;> simp
@[simp] theorem State.letIn_ev : (s.letIn op r ring st d res tk).ev = s.ev := by
  unfold State.letIn State.advance; cases ring <;> simp
@[simp] theorem State.letIn_rtc : (s.letIn op r ring st d res tk).rtc = s.rtc := by
  unfold State.letIn State.advance; cases ring <;> simp
@[simp] theorem State.letIn_flash : (s.letIn op r ring st d res tk).flash = s.flash := by
  unfold State.letIn State.advance; cases ring <;> simp
@[simp] theorem State.letIn_fabric : (s.letIn op r ring st d res tk).fabric = s.fabric := by
  unfold State.letIn State.advance; cases ring <;> simp
@[simp] theorem State.letIn_ports : (s.letIn op r ring st d res tk).ports = s.ports := by
  unfold State.letIn State.advance; cases ring <;> simp
@[simp] theorem State.letIn_map : (s.letIn op r ring st d res tk).map = s.map := by
  unfold State.letIn State.advance; cases ring <;> simp
@[simp] theorem State.letIn_prot : (s.letIn op r ring st d res tk).prot = s.prot := by
  unfold State.letIn State.advance; cases ring <;> simp
@[simp] theorem State.letIn_dpll : (s.letIn op r ring st d res tk).dpll = s.dpll := by
  unfold State.letIn State.advance; cases ring <;> simp
@[simp] theorem State.letIn_casc : (s.letIn op r ring st d res tk).casc = s.casc := by
  unfold State.letIn State.advance; cases ring <;> simp
@[simp] theorem State.letIn_mgmt : (s.letIn op r ring st d res tk).mgmt = s.mgmt := by
  unfold State.letIn State.advance; cases ring <;> simp
@[simp] theorem State.letIn_sec : (s.letIn op r ring st d res tk).sec = s.sec := by
  unfold State.letIn State.advance; cases ring <;> simp
@[simp] theorem State.letIn_ember : (s.letIn op r ring st d res tk).ember = s.ember := by
  unfold State.letIn State.advance; cases ring <;> simp
@[simp] theorem State.letIn_cap : (s.letIn op r ring st d res tk).cap = s.cap := by
  unfold State.letIn State.advance; cases ring <;> simp
@[simp] theorem State.letIn_pwr : (s.letIn op r ring st d res tk).pwr = s.pwr := by
  unfold State.letIn State.advance; cases ring <;> simp
@[simp] theorem State.letIn_rst : (s.letIn op r ring st d res tk).rst = s.rst := by
  unfold State.letIn State.advance; cases ring <;> simp
@[simp] theorem State.letIn_bist : (s.letIn op r ring st d res tk).bist = s.bist := by
  unfold State.letIn State.advance; cases ring <;> simp
@[simp] theorem State.letIn_perf : (s.letIn op r ring st d res tk).perf = s.perf := by
  unfold State.letIn State.advance; cases ring <;> simp
@[simp] theorem State.letIn_gpio : (s.letIn op r ring st d res tk).gpio = s.gpio := by
  unfold State.letIn State.advance; cases ring <;> simp
@[simp] theorem State.letIn_deferred : (s.letIn op r ring st d res tk).deferred = s.deferred := by
  unfold State.letIn State.advance; cases ring <;> simp
@[simp] theorem State.letIn_fresh : (s.letIn op r ring st d res tk).fresh = s.fresh := by
  unfold State.letIn State.advance; cases ring <;> simp
theorem State.letIn_still : (s.letIn op r ring st d res tk).host.still = s.host.still := by
  unfold State.letIn State.advance; cases ring <;> simp only [State.setChan_still, State.post_still, State.journal_still, if_true, Bool.false_eq_true, if_false]
end LetIn

/-- A note of APPLIED is a journal record. -/
theorem State.noteApplied_still (c : CommandRef) (s : State) : (s.noteApplied c).host.still = s.host.still := by
  unfold State.noteApplied; split
  · exact State.journal_still _ _ _
  · rfl
@[simp] theorem State.noteApplied_chan (c : CommandRef) (j : Fin 8) (s : State) : (s.noteApplied c).chan j = s.chan j := by
  unfold State.noteApplied; split <;> simp
@[simp] theorem State.noteApplied_pending (c : CommandRef) (s : State) : (s.noteApplied c).pending = s.pending := by
  unfold State.noteApplied; split <;> simp
@[simp] theorem State.noteApplied_clock (c : CommandRef) (s : State) : (s.noteApplied c).clock = s.clock := by
  unfold State.noteApplied; split <;> simp
@[simp] theorem State.noteApplied_ev (c : CommandRef) (s : State) : (s.noteApplied c).ev = s.ev := by
  unfold State.noteApplied; split <;> simp
@[simp] theorem State.noteApplied_rtc (c : CommandRef) (s : State) : (s.noteApplied c).rtc = s.rtc := by
  unfold State.noteApplied; split <;> simp
@[simp] theorem State.noteApplied_flash (c : CommandRef) (s : State) : (s.noteApplied c).flash = s.flash := by
  unfold State.noteApplied; split <;> simp
@[simp] theorem State.noteApplied_fabric (c : CommandRef) (s : State) : (s.noteApplied c).fabric = s.fabric := by
  unfold State.noteApplied; split <;> simp
@[simp] theorem State.noteApplied_ports (c : CommandRef) (s : State) : (s.noteApplied c).ports = s.ports := by
  unfold State.noteApplied; split <;> simp
@[simp] theorem State.noteApplied_map (c : CommandRef) (s : State) : (s.noteApplied c).map = s.map := by
  unfold State.noteApplied; split <;> simp
@[simp] theorem State.noteApplied_prot (c : CommandRef) (s : State) : (s.noteApplied c).prot = s.prot := by
  unfold State.noteApplied; split <;> simp
@[simp] theorem State.noteApplied_dpll (c : CommandRef) (s : State) : (s.noteApplied c).dpll = s.dpll := by
  unfold State.noteApplied; split <;> simp
@[simp] theorem State.noteApplied_casc (c : CommandRef) (s : State) : (s.noteApplied c).casc = s.casc := by
  unfold State.noteApplied; split <;> simp
@[simp] theorem State.noteApplied_mgmt (c : CommandRef) (s : State) : (s.noteApplied c).mgmt = s.mgmt := by
  unfold State.noteApplied; split <;> simp
@[simp] theorem State.noteApplied_sec (c : CommandRef) (s : State) : (s.noteApplied c).sec = s.sec := by
  unfold State.noteApplied; split <;> simp
@[simp] theorem State.noteApplied_ember (c : CommandRef) (s : State) : (s.noteApplied c).ember = s.ember := by
  unfold State.noteApplied; split <;> simp
@[simp] theorem State.noteApplied_cap (c : CommandRef) (s : State) : (s.noteApplied c).cap = s.cap := by
  unfold State.noteApplied; split <;> simp
@[simp] theorem State.noteApplied_pwr (c : CommandRef) (s : State) : (s.noteApplied c).pwr = s.pwr := by
  unfold State.noteApplied; split <;> simp
@[simp] theorem State.noteApplied_rst (c : CommandRef) (s : State) : (s.noteApplied c).rst = s.rst := by
  unfold State.noteApplied; split <;> simp
@[simp] theorem State.noteApplied_bist (c : CommandRef) (s : State) : (s.noteApplied c).bist = s.bist := by
  unfold State.noteApplied; split <;> simp
@[simp] theorem State.noteApplied_perf (c : CommandRef) (s : State) : (s.noteApplied c).perf = s.perf := by
  unfold State.noteApplied; split <;> simp
@[simp] theorem State.noteApplied_gpio (c : CommandRef) (s : State) : (s.noteApplied c).gpio = s.gpio := by
  unfold State.noteApplied; split <;> simp
@[simp] theorem State.noteApplied_deferred (c : CommandRef) (s : State) : (s.noteApplied c).deferred = s.deferred := by
  unfold State.noteApplied; split <;> simp
@[simp] theorem State.noteApplied_fresh (c : CommandRef) (s : State) : (s.noteApplied c).fresh = s.fresh := by
  unfold State.noteApplied; split <;> simp
@[simp] theorem State.cleared_pending (r : Request) (s : State) : (s.cleared r).pending = s.pending := rfl
@[simp] theorem State.cleared_clock (r : Request) (s : State) : (s.cleared r).clock = s.clock := rfl
@[simp] theorem State.cleared_ev (r : Request) (s : State) : (s.cleared r).ev = s.ev := rfl
@[simp] theorem State.cleared_rtc (r : Request) (s : State) : (s.cleared r).rtc = s.rtc := rfl
@[simp] theorem State.cleared_flash (r : Request) (s : State) : (s.cleared r).flash = s.flash := rfl
@[simp] theorem State.cleared_fabric (r : Request) (s : State) : (s.cleared r).fabric = s.fabric := rfl
@[simp] theorem State.cleared_ports (r : Request) (s : State) : (s.cleared r).ports = s.ports := rfl
@[simp] theorem State.cleared_map (r : Request) (s : State) : (s.cleared r).map = s.map := rfl
@[simp] theorem State.cleared_prot (r : Request) (s : State) : (s.cleared r).prot = s.prot := rfl
@[simp] theorem State.cleared_dpll (r : Request) (s : State) : (s.cleared r).dpll = s.dpll := rfl
@[simp] theorem State.cleared_casc (r : Request) (s : State) : (s.cleared r).casc = s.casc := rfl
@[simp] theorem State.cleared_mgmt (r : Request) (s : State) : (s.cleared r).mgmt = s.mgmt := rfl
@[simp] theorem State.cleared_sec (r : Request) (s : State) : (s.cleared r).sec = s.sec := rfl
@[simp] theorem State.cleared_ember (r : Request) (s : State) : (s.cleared r).ember = s.ember := rfl
@[simp] theorem State.cleared_cap (r : Request) (s : State) : (s.cleared r).cap = s.cap := rfl
@[simp] theorem State.cleared_pwr (r : Request) (s : State) : (s.cleared r).pwr = s.pwr := rfl
@[simp] theorem State.cleared_rst (r : Request) (s : State) : (s.cleared r).rst = s.rst := rfl
@[simp] theorem State.cleared_bist (r : Request) (s : State) : (s.cleared r).bist = s.bist := rfl
@[simp] theorem State.cleared_perf (r : Request) (s : State) : (s.cleared r).perf = s.perf := rfl
@[simp] theorem State.cleared_gpio (r : Request) (s : State) : (s.cleared r).gpio = s.gpio := rfl
@[simp] theorem State.cleared_deferred (r : Request) (s : State) : (s.cleared r).deferred = s.deferred := rfl
@[simp] theorem State.cleared_fresh (r : Request) (s : State) : (s.cleared r).fresh = s.fresh := rfl

end Sys2Proof.Machine
end

