-- ==== Sys2Proof/Laws/Frames.lean ====
section
/-! SUPPORT. The frame of a step that posts its responses: what the effects leave alone, the posting leaves alone too. -/
namespace Sys2Proof.Machine

/-- An entry of a response ring lies in the ring. -/
theorem inResponseRing_entry (c : Fin 8) (i k : Nat) (hi : i < 64) (hk : k < 4096) : inResponseRing (responseAddr c.val i + k) := by
  refine ⟨c, ?_, ?_⟩ <;> simp only [responseAddr] <;> omega

/-- Writing a response changes no byte outside the response rings. -/
theorem State.writeResponse_outside (c : Fin 8) (x : Response) (s : State) (hw : Memory.wf s.fabric.cells) :
    Memory.wf (s.writeResponse c x).fabric.cells ∧
      ∀ a, ¬ inResponseRing a → memGet ramDefault (s.writeResponse c x).fabric.cells a = memGet ramDefault s.fabric.cells a := by
  have e : (s.writeResponse c x).fabric.cells
      = memWrite ramDefault s.fabric.cells (responseAddr c.val ((s.chan c).rspPi.toNat % 64)) (x.bytes.take 4096) := by
    simp [State.writeResponse]
  rw [e]
  refine ⟨cellsWf_memWrite _ _ hw, fun a ha => memGet_memWrite_outside _ _ hw _ ?_⟩
  have hl : (x.bytes.take 4096).length ≤ 4096 := List.length_take_le _ _
  by_contra hc
  apply ha
  have : a = responseAddr c.val ((s.chan c).rspPi.toNat % 64) + (a - responseAddr c.val ((s.chan c).rspPi.toNat % 64)) := by omega
  rw [this]
  exact inResponseRing_entry _ _ _ (Nat.mod_lt _ (by decide)) (by omega)

theorem State.putResponse_outside (c : Fin 8) (x : Response) (s : State) (hw : Memory.wf s.fabric.cells) :
    Memory.wf (s.putResponse c x).fabric.cells ∧
      ∀ a, ¬ inResponseRing a → memGet ramDefault (s.putResponse c x).fabric.cells a = memGet ramDefault s.fabric.cells a := by
  unfold State.putResponse
  split
  · rw [State.raiseIf_fabric, State.setChan_fabric]; exact ⟨hw, fun _ _ => rfl⟩
  · exact State.writeResponse_outside c x s hw

theorem State.putResponses_outside (xs : List (Fin 8 × Response)) (s : State) (hw : Memory.wf s.fabric.cells) :
    Memory.wf (State.putResponses xs s).fabric.cells ∧
      ∀ a, ¬ inResponseRing a → memGet ramDefault (State.putResponses xs s).fabric.cells a = memGet ramDefault s.fabric.cells a := by
  induction xs generalizing s with
  | nil => exact ⟨hw, fun _ _ => rfl⟩
  | cons x xs ih =>
    obtain ⟨h1, h2⟩ := State.putResponse_outside x.1 x.2 s hw
    obtain ⟨h3, h4⟩ := ih _ h1
    exact ⟨h3, fun a ha => (h4 a ha).trans (h2 a ha)⟩

/-- Posting the responses of a step keeps the canonical form, and every byte outside the response rings. -/
theorem State.settle_outside (s : State) (hw : Memory.wf s.fabric.cells) :
    Memory.wf s.settle.fabric.cells ∧ ∀ a, ¬ inResponseRing a → memGet ramDefault s.settle.fabric.cells a = memGet ramDefault s.fabric.cells a := by
  unfold State.settle; split
  · exact ⟨hw, fun _ _ => rfl⟩
  · exact State.putResponses_outside s.host.outbox _ hw

/-- Posting the responses of a step keeps what was the same. -/
theorem State.settled_changesOnly {s u : State} {ps : List Part} (h : ∀ p, p ∉ ps → p ≠ .clock → p ≠ .memory → Part.Same s u p) :
    s.ChangesOnly (s.settled u) ps := by
  refine ⟨by simp, fun p hp => ?_⟩
  cases p
  case clock => simp [Part.Same]
  case memory =>
    intro hw
    have hw' : Memory.wf ({ u with pending := s.pending, clock := s.clock, fabric := s.fabric
                                   flash := { u.flash with cells := s.flash.cells } } : State).fabric.cells := hw
    exact (State.settle_outside _ hw').2
  case host => exact (State.settle_still _).trans (h .host hp (by decide) (by decide))
  case requests => simpa [Part.Same] using h .requests hp (by decide) (by decide)
  case channels =>
    intro c
    obtain ⟨h1, h2, h3, h4, h5, h6, h7, h8⟩ := h .channels hp (by decide) (by decide) c
    exact ⟨by simp [h1], by simp [h2], by simp [h3], by simp [h4], by simp [h5], by simp [h6], by simp [h7], by simp [h8]⟩
  case recorder =>
    obtain ⟨h1, h2, h3, h4, h5, h6, h7, h8, h9, h10, h11, h12⟩ := h .recorder hp (by decide) (by decide)
    exact ⟨by simp [h1], by simp [h2], by simp [h3], by simp [h4], by simp [h5], by simp [h6], by simp [h7], by simp [h8], by simp [h9],
      by simp [h10], by simp [h11], by simp [h12]⟩
  case flash =>
    have : u.flash = s.flash := h .flash hp (by decide) (by decide)
    simp [Part.Same, this]
  all_goals (simpa [Part.Same] using h _ hp (by decide) (by decide))

end Sys2Proof.Machine
end

