-- ==== Sys2Proof/Laws/Parts.lean ====
section
/-! SUPPORT. What each update of the state leaves the same, part by part. -/
namespace Sys2Proof.Machine

theorem Part.Same.refl (s : State) (q : Part) : Part.Same s s q := by
  cases q
  case channels => exact fun _ => ⟨rfl, rfl, rfl, rfl, rfl, rfl, rfl, rfl⟩
  case recorder => exact ⟨rfl, rfl, rfl, rfl, rfl, rfl, rfl, rfl, rfl, rfl, rfl, rfl⟩
  case memory => exact fun _ _ _ => rfl
  case requests => exact ⟨rfl, rfl⟩
  all_goals rfl

theorem State.setRtc_same {s u : State} {q : Part} (f : RtcState → RtcState) (h0 : q ≠ .rtc) (h : Part.Same s u q) : Part.Same s (u.setRtc f) q := by
  cases q <;> first | exact h | exact absurd rfl h0

theorem State.setRst_same {s u : State} {q : Part} (f : ResetState → ResetState) (h0 : q ≠ .rst) (h : Part.Same s u q) : Part.Same s (u.setRst f) q := by
  cases q <;> first | exact h | exact absurd rfl h0

theorem State.setCasc_same {s u : State} {q : Part} (f : CascadeState → CascadeState) (h0 : q ≠ .casc) (h : Part.Same s u q) : Part.Same s (u.setCasc f) q := by
  cases q <;> first | exact h | exact absurd rfl h0

theorem State.setEmber_same {s u : State} {q : Part} (f : EmberState → EmberState) (h0 : q ≠ .ember) (h : Part.Same s u q) : Part.Same s (u.setEmber f) q := by
  cases q <;> first | exact h | exact absurd rfl h0

theorem State.setFabric_same {s u : State} {q : Part} (f : FabricState → FabricState) (h0 : q ≠ .memory) (h : Part.Same s u q) : Part.Same s (u.setFabric f) q := by
  cases q <;> first | exact h | exact absurd rfl h0

theorem State.setFlash_same {s u : State} {q : Part} (f : FlashState → FlashState) (h0 : q ≠ .flash) (h : Part.Same s u q) : Part.Same s (u.setFlash f) q := by
  cases q <;> first | exact h | exact absurd rfl h0

theorem State.setHost_same {s u : State} {q : Part} (f : HostState → HostState) (h0 : q ≠ .host) (h1 : q ≠ .requests) (h2 : q ≠ .channels) (h : Part.Same s u q) : Part.Same s (u.setHost f) q := by
  cases q <;> first | exact h | exact absurd rfl h0 | exact absurd rfl h1 | exact absurd rfl h2

theorem State.setMgmt_same {s u : State} {q : Part} (f : ManagementState → ManagementState) (h0 : q ≠ .mgmt) (h : Part.Same s u q) : Part.Same s (u.setMgmt f) q := by
  cases q <;> first | exact h | exact absurd rfl h0

theorem State.setPerf_same {s u : State} {q : Part} (f : PerfState → PerfState) (h0 : q ≠ .perf) (h : Part.Same s u q) : Part.Same s (u.setPerf f) q := by
  cases q <;> first | exact h | exact absurd rfl h0

theorem State.setEv_same {s u : State} {q : Part} (f : EventState → EventState) (h0 : q ≠ .recorder) (h : Part.Same s u q) : Part.Same s (u.setEv f) q := by
  cases q <;> first | exact h | exact absurd rfl h0

theorem State.setSec_same {s u : State} {q : Part} (f : SecurityState → SecurityState) (h0 : q ≠ .sec) (h : Part.Same s u q) : Part.Same s (u.setSec f) q := by
  cases q <;> first | exact h | exact absurd rfl h0

theorem State.setBist_same {s u : State} {q : Part} (f : BistState → BistState) (h0 : q ≠ .bist) (h : Part.Same s u q) : Part.Same s (u.setBist f) q := by
  cases q <;> first | exact h | exact absurd rfl h0

theorem State.setCap_same {s u : State} {q : Part} (f : CaptureState → CaptureState) (h0 : q ≠ .cap) (h : Part.Same s u q) : Part.Same s (u.setCap f) q := by
  cases q <;> first | exact h | exact absurd rfl h0

theorem State.setDpll_same {s u : State} {q : Part} (f : DpllState → DpllState) (h0 : q ≠ .dpll) (h : Part.Same s u q) : Part.Same s (u.setDpll f) q := by
  cases q <;> first | exact h | exact absurd rfl h0

theorem State.setChan_same {s u : State} {q : Part} (c : Fin 8) (f : Channel → Channel) (h0 : q ≠ .channels) (h : Part.Same s u q) : Part.Same s (u.setChan c f) q := by
  cases q <;> first | exact h | exact absurd rfl h0

theorem State.journal_same {s u : State} {q : Part} (r : CommandRef) (k : JournalKind) (h : Part.Same s u q) : Part.Same s (u.journal r k) q := by
  cases q <;> first | exact h

theorem State.post_same {s u : State} {q : Part} (c : Fin 8) (x : Response) (h : Part.Same s u q) : Part.Same s (u.post c x) q := by
  cases q <;> first | exact h

theorem State.setPort_same {s u : State} {q : Part} (p : PortNo) (f : Port → Port) (h0 : q ≠ .ports) (h : Part.Same s u q) : Part.Same s (u.setPort p f) q := by
  cases q <;> first | exact h | exact absurd rfl h0

theorem State.setEngine_same {s u : State} {q : Part} (e : Fin 1024) (f : Engine → Engine) (h0 : q ≠ .ember) (h : Part.Same s u q) : Part.Same s (u.setEngine e f) q := by
  cases q <;> first | exact h | exact absurd rfl h0

theorem State.setCluster_same {s u : State} {q : Part} (c : Fin 8) (f : Cluster → Cluster) (h0 : q ≠ .ember) (h : Part.Same s u q) : Part.Same s (u.setCluster c f) q := by
  cases q <;> first | exact h | exact absurd rfl h0

theorem State.setPlane_same {s u : State} {q : Part} (k : Fin 4) (f : Plane → Plane) (h0 : q ≠ .map) (h : Part.Same s u q) : Part.Same s (u.setPlane k f) q := by
  cases q <;> first | exact h | exact absurd rfl h0

theorem State.setPin_same {s u : State} {q : Part} (i : Fin 32) (f : GpioPin → GpioPin) (h0 : q ≠ .gpio) (h : Part.Same s u q) : Part.Same s (u.setPin i f) q := by
  cases q <;> first | exact h | exact absurd rfl h0

theorem State.setBus_same {s u : State} {q : Part} (f : BoardBus → BoardBus) (h0 : q ≠ .host) (h : Part.Same s u q) : Part.Same s (u.setBus f) q := by
  cases q <;> first | exact h | exact absurd rfl h0

theorem State.setCore_same {s u : State} {q : Part} (i : Fin 2) (f : ManagementCore → ManagementCore) (h0 : q ≠ .mgmt) (h : Part.Same s u q) : Part.Same s (u.setCore i f) q := by
  cases q <;> first | exact h | exact absurd rfl h0

theorem State.putDomain_same {s u : State} {q : Part} (d : Fin 56) (m : DomainMode) (h0 : q ≠ .pwr) (h : Part.Same s u q) : Part.Same s (u.putDomain d m) q := by
  cases q <;> first | exact h | exact absurd rfl h0

theorem State.setRef_same {s u : State} {q : Part} (i : Fin 12) (f : Reference → Reference) (h0 : q ≠ .dpll) (h : Part.Same s u q) : Part.Same s (u.setRef i f) q := by
  cases q <;> first | exact h | exact absurd rfl h0

theorem State.setTrig_same {s u : State} {q : Part} (t : Fin 64) (f : TriggerChannel → TriggerChannel) (h0 : q ≠ .cap) (h : Part.Same s u q) : Part.Same s (u.setTrig t f) q := by
  cases q <;> first | exact h | exact absurd rfl h0

theorem State.tally_same {s u : State} {q : Part} (kind inst event amount : Nat) (h0 : q ≠ .perf) (h : Part.Same s u q) : Part.Same s (u.tally kind inst event amount) q := by
  cases q <;> first | exact h | exact absurd rfl h0

theorem State.produce_same {s u : State} {q : Part} (r : EventRecord) (h : Part.Same s u q) : Part.Same s (u.produce r) q := by
  cases q
  case recorder =>
    obtain ⟨h1, h2, h3, h4, h5, h6, h7, h8, h9, h10, h11, h12⟩ := h
    exact ⟨by simp [h1], by simp [h2], by simp [h3], by simp [h4], by simp [h5], by simp [h6], by simp [h7], by simp [h8], by simp [h9], by simp [h10], by simp [h11], by simp [h12]⟩
  case channels =>
    intro c
    rw [State.produce_chan]; exact h c
  all_goals (simpa [Part.Same] using h)

theorem State.queueLossRecord_same {s u : State} {q : Part}  (h : Part.Same s u q) : Part.Same s (u.queueLossRecord) q := by
  cases q
  case recorder =>
    obtain ⟨h1, h2, h3, h4, h5, h6, h7, h8, h9, h10, h11, h12⟩ := h
    exact ⟨by simp [h1], by simp [h2], by simp [h3], by simp [h4], by simp [h5], by simp [h6], by simp [h7], by simp [h8], by simp [h9], by simp [h10], by simp [h11], by simp [h12]⟩
  case channels =>
    intro c
    rw [State.queueLossRecord_chan]; exact h c
  all_goals (simpa [Part.Same] using h)

theorem State.raiseSev_same {s u : State} {q : Part} (src item : Nat) (a : Action) (sev p0 p1 p2 : Nat) (h : Part.Same s u q) : Part.Same s (u.raiseSev src item a sev p0 p1 p2) q := by
  cases q
  case recorder =>
    obtain ⟨h1, h2, h3, h4, h5, h6, h7, h8, h9, h10, h11, h12⟩ := h
    exact ⟨by simp [h1], by simp [h2], by simp [h3], by simp [h4], by simp [h5], by simp [h6], by simp [h7], by simp [h8], by simp [h9], by simp [h10], by simp [h11], by simp [h12]⟩
  case channels =>
    intro c
    rw [State.raiseSev_chan]; exact h c
  all_goals (simpa [Part.Same] using h)

theorem State.raise_same {s u : State} {q : Part} (src item : Nat) (a : Action) (p0 p1 p2 : Nat) (h : Part.Same s u q) : Part.Same s (u.raise src item a p0 p1 p2) q := by
  cases q
  case recorder =>
    obtain ⟨h1, h2, h3, h4, h5, h6, h7, h8, h9, h10, h11, h12⟩ := h
    exact ⟨by simp [h1], by simp [h2], by simp [h3], by simp [h4], by simp [h5], by simp [h6], by simp [h7], by simp [h8], by simp [h9], by simp [h10], by simp [h11], by simp [h12]⟩
  case channels =>
    intro c
    rw [State.raise_chan]; exact h c
  all_goals (simpa [Part.Same] using h)

theorem State.raisePair_same {s u : State} {q : Part} (port item : Nat) (a : Action) (p0 p1 p2 : Nat) (h : Part.Same s u q) : Part.Same s (u.raisePair port item a p0 p1 p2) q := by
  cases q
  case recorder =>
    obtain ⟨h1, h2, h3, h4, h5, h6, h7, h8, h9, h10, h11, h12⟩ := h
    exact ⟨by simp [h1], by simp [h2], by simp [h3], by simp [h4], by simp [h5], by simp [h6], by simp [h7], by simp [h8], by simp [h9], by simp [h10], by simp [h11], by simp [h12]⟩
  case channels =>
    intro c
    rw [State.raisePair_chan]; exact h c
  all_goals (simpa [Part.Same] using h)

theorem State.raiseIf_same {s u : State} {q : Part} (c : Bool) (src item : Nat) (a : Action) (p0 p1 p2 : Nat) (h : Part.Same s u q) : Part.Same s (u.raiseIf c src item a p0 p1 p2) q := by
  cases q
  case recorder =>
    obtain ⟨h1, h2, h3, h4, h5, h6, h7, h8, h9, h10, h11, h12⟩ := h
    exact ⟨by simp [h1], by simp [h2], by simp [h3], by simp [h4], by simp [h5], by simp [h6], by simp [h7], by simp [h8], by simp [h9], by simp [h10], by simp [h11], by simp [h12]⟩
  case channels =>
    intro c
    rw [State.raiseIf_chan]; exact h c
  all_goals (simpa [Part.Same] using h)

theorem State.raiseFlag_same {s u : State} {q : Part} (old new : Bool) (src item p0 : Nat) (h : Part.Same s u q) : Part.Same s (u.raiseFlag old new src item p0) q := by
  cases q
  case recorder =>
    obtain ⟨h1, h2, h3, h4, h5, h6, h7, h8, h9, h10, h11, h12⟩ := h
    exact ⟨by simp [h1], by simp [h2], by simp [h3], by simp [h4], by simp [h5], by simp [h6], by simp [h7], by simp [h8], by simp [h9], by simp [h10], by simp [h11], by simp [h12]⟩
  case channels =>
    intro c
    rw [State.raiseFlag_chan]; exact h c
  all_goals (simpa [Part.Same] using h)

theorem State.raiseState_same {s u : State} {q : Part} (old new : Nat) (src item p0 : Nat) (h : Part.Same s u q) : Part.Same s (u.raiseState old new src item p0) q := by
  cases q
  case recorder =>
    obtain ⟨h1, h2, h3, h4, h5, h6, h7, h8, h9, h10, h11, h12⟩ := h
    exact ⟨by simp [h1], by simp [h2], by simp [h3], by simp [h4], by simp [h5], by simp [h6], by simp [h7], by simp [h8], by simp [h9], by simp [h10], by simp [h11], by simp [h12]⟩
  case channels =>
    intro c
    rw [State.raiseState_chan]; exact h c
  all_goals (simpa [Part.Same] using h)

theorem State.signalResponse_same {s u : State} {q : Part} (c : Fin 8) (b : Bool) (h : Part.Same s u q) : Part.Same s (u.signalResponse c b) q := by
  cases q
  case recorder =>
    obtain ⟨h1, h2, h3, h4, h5, h6, h7, h8, h9, h10, h11, h12⟩ := h
    exact ⟨by simp [h1], by simp [h2], by simp [h3], by simp [h4], by simp [h5], by simp [h6], by simp [h7], by simp [h8], by simp [h9], by simp [h10], by simp [h11], by simp [h12]⟩
  case channels =>
    intro c
    rw [State.signalResponse_chan]; exact h c
  all_goals (simpa [Part.Same] using h)

theorem State.setGroup_same {s u : State} {q : Part} (i : Fin 256) (f : ProtGroup → ProtGroup) (h0 : q ≠ .prot) (h : Part.Same s u q) : Part.Same s (u.setGroup i f) q := by
  cases q <;> first | exact h | exact absurd rfl h0

theorem State.setUnit_same {s u : State} {q : Part} (x : ProtTarget) (f : ProtUnit → ProtUnit) (h0 : q ≠ .prot) (h : Part.Same s u q) : Part.Same s (u.setUnit x f) q := by
  unfold State.setUnit; split
  · exact State.setGroup_same _ _ h0 h
  · cases q <;> first | exact h | exact absurd rfl h0

/-- An update of the host port leaves what it says it leaves. -/
theorem State.setHost_keeps {s u : State} {q : Part} (f : HostState → HostState) (h0 : q = .host → (f u.host).still = u.host.still)
    (h1 : q = .requests → (f u.host).waiting = u.host.waiting ∧ (f u.host).nextTicket = u.host.nextTicket)
    (h2 : q = .channels → (f u.host).channels = u.host.channels) (h : Part.Same s u q) : Part.Same s (u.setHost f) q := by
  cases q
  case host => exact (h0 rfl).trans h
  case requests => exact ⟨(h1 rfl).1.trans h.1, (h1 rfl).2.trans h.2⟩
  case channels =>
    intro c
    have e : (u.setHost f).chan c = u.chan c := congrArg (fun v : Vector Channel 8 => v[c]) (h2 rfl)
    rw [e]; exact h c
  all_goals exact h

/-- An update of the recorder leaves what it says it leaves. -/
theorem State.setEv_keeps {s u : State} {q : Part} (f : EventState → EventState) (h0 : q = .recorder → u.ev.Same (f u.ev))
    (h : Part.Same s u q) : Part.Same s (u.setEv f) q := by
  cases q
  case recorder =>
    obtain ⟨h1, h2, h3, h4, h5, h6, h7, h8, h9, h10, h11, h12⟩ := h
    obtain ⟨k1, k2, k3, k4, k5, k6, k7, k8, k9, k10, k11, k12⟩ := h0 rfl
    exact ⟨k1.trans h1, k2.trans h2, k3.trans h3, k4.trans h4, k5.trans h5, k6.trans h6, k7.trans h7, k8.trans h8, k9.trans h9,
      k10.trans h10, k11.trans h11, k12.trans h12⟩
  all_goals exact h

theorem State.postEntry_same {s u : State} {q : Part} (c : CommandRef) (h : Part.Same s u q) : Part.Same s (u.postEntry c) q := by
  unfold State.postEntry
  repeat' split
  all_goals exact h

theorem State.complete_same {s u : State} {q : Part} (c : CommandRef) (st : Status) (d : Nat) (res : List Byte) (h0 : q ≠ .channels)
    (h : Part.Same s u q) : Part.Same s (u.complete c st d res) q := by
  unfold State.complete
  exact State.journal_same _ _ (State.postEntry_same _ (State.setChan_same _ _ h0 (State.journal_same _ _ h)))

theorem State.completeJob_same {s u : State} {q : Part} (c : CommandRef) (st : Status) (reason : Nat) (res : List Byte) (h0 : q ≠ .channels)
    (h : Part.Same s u q) : Part.Same s (u.completeJob c st reason res) q := by
  unfold State.completeJob
  exact State.complete_same _ _ _ _ h0 (State.setChan_same _ _ h0 h)

theorem State.commit_same {s u : State} {q : Part} (c : CommandRef) (h0 : q ≠ .channels) (h : Part.Same s u q) :
    Part.Same s (u.commit c) q := by
  unfold State.commit
  split
  · exact h
  · split
    · exact State.postEntry_same _ (State.setChan_same _ _ h0 (State.journal_same _ _ h))
    · exact State.setChan_same _ _ h0 (State.journal_same _ _ h)

theorem State.startJob_same {s u : State} {q : Part} (c : CommandRef) (n : Nat) (h0 : q ≠ .channels) (h : Part.Same s u q) :
    Part.Same s (u.startJob c n) q := by
  unfold State.startJob; exact State.setChan_same _ _ h0 h

end Sys2Proof.Machine
end

