-- ==== Sys2Proof/Laws/Patterns.lean ====
section
/-! SUPPORT. The response patterns of R336: what an admitted request without effects of its own at execution leaves behind. -/
namespace Sys2Proof.Machine

/-- What waits for the next tick once a command has been accepted (R337). -/
def Command.defers (k : Command) (r : Request) (data : List Byte) : List DeferredCommand :=
  if k.later.isSome then [{ opcode := k.opcode, request := r, data := data }] else []

/-- A state that differs from `s` in the host port alone, and has the same host port but for the answer's parts, is untouched
once its responses have left. -/
theorem State.Untouched.of_settled {s u : State} (hh : u.host.still = s.host.still) (hrtc : u.rtc = s.rtc) (hfl : u.flash = s.flash)
    (hp : u.ports = s.ports) (hm : u.map = s.map) (hpr : u.prot = s.prot) (hd : u.dpll = s.dpll) (hc : u.casc = s.casc)
    (hmg : u.mgmt = s.mgmt) (hse : u.sec = s.sec) (he : u.ember = s.ember) (hca : u.cap = s.cap) (hpw : u.pwr = s.pwr)
    (hr : u.rst = s.rst) (hb : u.bist = s.bist) (hpe : u.perf = s.perf) (hg : u.gpio = s.gpio) : s.Untouched (s.settled u) where
  pending := by simp
  clock   := by simp
  host    := by rw [State.settled, State.settle_still]; exact hh
  rtc     := by simp [hrtc]
  flash   := by simp [hfl]
  ports   := by simp [hp]
  map     := by simp [hm]
  prot    := by simp [hpr]
  dpll    := by simp [hd]
  casc    := by simp [hc]
  mgmt    := by simp [hmg]
  sec     := by simp [hse]
  ember   := by simp [he]
  cap     := by simp [hca]
  pwr     := by simp [hpw]
  rst     := by simp [hr]
  bist    := by simp [hb]
  perf    := by simp [hpe]
  gpio    := by simp [hg]

/-- What `perform` does for a command without effects at execution. -/
theorem State.perform_idle {k : Command} {r : Request} (hnow : k.now = fun _ _ s => s) (n : Nat) (data : List Byte) (s : State) :
    s.perform k r n data = if k.later.isSome then { s with deferred := s.deferred ++ [{ opcode := k.opcode, request := r, data := data }] }
      else s.noteApplied r.ref := by
  unfold State.perform; rw [hnow]

section Perform
variable {k : Command} (hnow : k.now = fun _ _ s => s) (r : Request) (n : Nat) (data : List Byte) (s : State)
include hnow
theorem State.perform_rtc : (s.perform k r n data).rtc = s.rtc := by
  rw [State.perform_idle hnow]; split <;> simp
theorem State.perform_flash : (s.perform k r n data).flash = s.flash := by
  rw [State.perform_idle hnow]; split <;> simp
theorem State.perform_ports : (s.perform k r n data).ports = s.ports := by
  rw [State.perform_idle hnow]; split <;> simp
theorem State.perform_map : (s.perform k r n data).map = s.map := by
  rw [State.perform_idle hnow]; split <;> simp
theorem State.perform_prot : (s.perform k r n data).prot = s.prot := by
  rw [State.perform_idle hnow]; split <;> simp
theorem State.perform_dpll : (s.perform k r n data).dpll = s.dpll := by
  rw [State.perform_idle hnow]; split <;> simp
theorem State.perform_casc : (s.perform k r n data).casc = s.casc := by
  rw [State.perform_idle hnow]; split <;> simp
theorem State.perform_mgmt : (s.perform k r n data).mgmt = s.mgmt := by
  rw [State.perform_idle hnow]; split <;> simp
theorem State.perform_sec : (s.perform k r n data).sec = s.sec := by
  rw [State.perform_idle hnow]; split <;> simp
theorem State.perform_ember : (s.perform k r n data).ember = s.ember := by
  rw [State.perform_idle hnow]; split <;> simp
theorem State.perform_cap : (s.perform k r n data).cap = s.cap := by
  rw [State.perform_idle hnow]; split <;> simp
theorem State.perform_pwr : (s.perform k r n data).pwr = s.pwr := by
  rw [State.perform_idle hnow]; split <;> simp
theorem State.perform_rst : (s.perform k r n data).rst = s.rst := by
  rw [State.perform_idle hnow]; split <;> simp
theorem State.perform_bist : (s.perform k r n data).bist = s.bist := by
  rw [State.perform_idle hnow]; split <;> simp
theorem State.perform_perf : (s.perform k r n data).perf = s.perf := by
  rw [State.perform_idle hnow]; split <;> simp
theorem State.perform_gpio : (s.perform k r n data).gpio = s.gpio := by
  rw [State.perform_idle hnow]; split <;> simp
theorem State.perform_pending : (s.perform k r n data).pending = s.pending := by
  rw [State.perform_idle hnow]; split <;> simp
theorem State.perform_clock : (s.perform k r n data).clock = s.clock := by
  rw [State.perform_idle hnow]; split <;> simp
theorem State.perform_ev : (s.perform k r n data).ev = s.ev := by
  rw [State.perform_idle hnow]; split <;> simp
theorem State.perform_fabric : (s.perform k r n data).fabric = s.fabric := by
  rw [State.perform_idle hnow]; split <;> simp
theorem State.perform_fresh : (s.perform k r n data).fresh = s.fresh := by
  rw [State.perform_idle hnow]; split <;> simp
theorem State.perform_still : (s.perform k r n data).host.still = s.host.still := by
  rw [State.perform_idle hnow]; split
  · rfl
  · exact State.noteApplied_still _ _
theorem State.perform_chan (j : Fin 8) : (s.perform k r n data).chan j = s.chan j := by
  rw [State.perform_idle hnow]; split
  · rfl
  · simp
theorem State.perform_deferred : (s.perform k r n data).deferred = s.deferred ++ k.defers r data := by
  rw [State.perform_idle hnow]; unfold Command.defers; split <;> simp
end Perform

/-- What the first response of an admitted command without effects at execution leaves: its record, and nothing else than the
answer's parts. -/
theorem State.first_idle {s : State} {k : Command} {r : Request} (h : s.Admits k r) (hnow : k.now = fun _ _ s => s) (st : Status)
    (res : List Byte) (n : Nat) (data : List Byte) :
    let u := (s.cleared r).letIn k.opcode r false st 0 res 0
    (s.settled (u.perform k r n data)).Recorded r st 0 res ∧ s.Untouched (s.settled (u.perform k r n data))
      ∧ (s.settled (u.perform k r n data)).deferred = s.deferred ++ k.defers r data := by
  refine ⟨⟨acceptedEntry k.opcode r st 0 res 0 (s.cleared r), ?_, rfl, rfl, rfl⟩, ?_, ?_⟩
  · rw [State.settled_recorded, State.perform_chan hnow]
    exact State.letIn_recorded h.fresh
  · apply State.Untouched.of_settled
    · rw [State.perform_still hnow, State.letIn_still, State.cleared_still]
    · rw [State.perform_rtc hnow, State.letIn_rtc, State.cleared_rtc]
    · rw [State.perform_flash hnow, State.letIn_flash, State.cleared_flash]
    · rw [State.perform_ports hnow, State.letIn_ports, State.cleared_ports]
    · rw [State.perform_map hnow, State.letIn_map, State.cleared_map]
    · rw [State.perform_prot hnow, State.letIn_prot, State.cleared_prot]
    · rw [State.perform_dpll hnow, State.letIn_dpll, State.cleared_dpll]
    · rw [State.perform_casc hnow, State.letIn_casc, State.cleared_casc]
    · rw [State.perform_mgmt hnow, State.letIn_mgmt, State.cleared_mgmt]
    · rw [State.perform_sec hnow, State.letIn_sec, State.cleared_sec]
    · rw [State.perform_ember hnow, State.letIn_ember, State.cleared_ember]
    · rw [State.perform_cap hnow, State.letIn_cap, State.cleared_cap]
    · rw [State.perform_pwr hnow, State.letIn_pwr, State.cleared_pwr]
    · rw [State.perform_rst hnow, State.letIn_rst, State.cleared_rst]
    · rw [State.perform_bist hnow, State.letIn_bist, State.cleared_bist]
    · rw [State.perform_perf hnow, State.letIn_perf, State.cleared_perf]
    · rw [State.perform_gpio hnow, State.letIn_gpio, State.cleared_gpio]
  · rw [State.settled_deferred, State.perform_deferred hnow, State.letIn_deferred, State.cleared_deferred]

/-- Pattern O (R336): the command is answered OK at once, and its effects wait for the next tick. -/
theorem State.Admits.done {s : State} {k : Command} {r : Request} {res : List Byte} (h : s.Admits k r) (hd : k.desc = false)
    (hr : k.range r = none) (hnow : k.now = fun _ _ s => s) (hc : k.check r 0 (s.judged r) = .done res) :
    (s.settled (s.request k r)).Recorded r .ok 0 (padTo k.results res) ∧ s.Untouched (s.settled (s.request k r))
      ∧ (s.settled (s.request k r)).deferred = s.deferred ++ k.defers r [] := by
  rw [h.request hd hr, hc]
  have e : (s.cleared r).answer k r 0 [] false (.done res)
      = (((s.cleared r).letIn k.opcode r false .ok 0 (padTo k.results res) 0).journal r.ref .done).perform k r 0 [] := rfl
  rw [e]
  refine ⟨⟨acceptedEntry k.opcode r .ok 0 (padTo k.results res) 0 (s.cleared r), ?_, rfl, rfl, rfl⟩, ?_, ?_⟩
  · rw [State.settled_recorded, State.perform_chan hnow]
    exact State.letIn_recorded h.fresh
  · apply State.Untouched.of_settled
    · rw [State.perform_still hnow, State.journal_still, State.letIn_still, State.cleared_still]
    · rw [State.perform_rtc hnow, State.journal_rtc, State.letIn_rtc, State.cleared_rtc]
    · rw [State.perform_flash hnow, State.journal_flash, State.letIn_flash, State.cleared_flash]
    · rw [State.perform_ports hnow, State.journal_ports, State.letIn_ports, State.cleared_ports]
    · rw [State.perform_map hnow, State.journal_map, State.letIn_map, State.cleared_map]
    · rw [State.perform_prot hnow, State.journal_prot, State.letIn_prot, State.cleared_prot]
    · rw [State.perform_dpll hnow, State.journal_dpll, State.letIn_dpll, State.cleared_dpll]
    · rw [State.perform_casc hnow, State.journal_casc, State.letIn_casc, State.cleared_casc]
    · rw [State.perform_mgmt hnow, State.journal_mgmt, State.letIn_mgmt, State.cleared_mgmt]
    · rw [State.perform_sec hnow, State.journal_sec, State.letIn_sec, State.cleared_sec]
    · rw [State.perform_ember hnow, State.journal_ember, State.letIn_ember, State.cleared_ember]
    · rw [State.perform_cap hnow, State.journal_cap, State.letIn_cap, State.cleared_cap]
    · rw [State.perform_pwr hnow, State.journal_pwr, State.letIn_pwr, State.cleared_pwr]
    · rw [State.perform_rst hnow, State.journal_rst, State.letIn_rst, State.cleared_rst]
    · rw [State.perform_bist hnow, State.journal_bist, State.letIn_bist, State.cleared_bist]
    · rw [State.perform_perf hnow, State.journal_perf, State.letIn_perf, State.cleared_perf]
    · rw [State.perform_gpio hnow, State.journal_gpio, State.letIn_gpio, State.cleared_gpio]
  · rw [State.settled_deferred, State.perform_deferred hnow, State.journal_deferred, State.letIn_deferred, State.cleared_deferred]

/-- Pattern A (R336): the command is answered ACCEPTED; another step completes it. -/
theorem State.Admits.accept {s : State} {k : Command} {r : Request} {res : List Byte} (h : s.Admits k r) (hd : k.desc = false)
    (hr : k.range r = none) (hnow : k.now = fun _ _ s => s) (hc : k.check r 0 (s.judged r) = .accept res) :
    (s.settled (s.request k r)).Recorded r .accepted 0 (padTo k.results res) ∧ s.Untouched (s.settled (s.request k r))
      ∧ (s.settled (s.request k r)).deferred = s.deferred ++ k.defers r [] := by
  rw [h.request hd hr, hc]
  exact State.first_idle h hnow .accepted (padTo k.results res) 0 []

/-- A command with descriptors waits for its descriptor list (R318, R319 step 11): nothing else has happened. -/
theorem State.Admits.waits {s : State} {k : Command} {r : Request} (h : s.Admits k r) (hd : k.desc = true) :
    (s.settled (s.request k r)).host.waiting
        = s.host.waiting ++ [{ opcode := k.opcode, request := r, wait := .descriptors, accepted := false, ring := false }]
      ∧ s.Untouched (s.settled (s.request k r)) ∧ (s.settled (s.request k r)).deferred = s.deferred
      ∧ (∀ j, ((s.settled (s.request k r)).chan j).window = (s.chan j).window) := by
  rw [h.request_desc hd]
  refine ⟨?_, ?_, ?_, ?_⟩
  · rw [State.settled_host_waiting]; rfl
  · apply State.Untouched.of_settled
    · simp only [State.await, State.setHost_host, HostState.still]; rfl
    · rfl
    · rfl
    · rfl
    · rfl
    · rfl
    · rfl
    · rfl
    · rfl
    · rfl
    · rfl
    · rfl
    · rfl
    · rfl
    · rfl
    · rfl
    · rfl
  · rw [State.settled_deferred]; rfl
  · intro j
    simp only [State.settled, State.settle_window]; rfl

end Sys2Proof.Machine
end

