-- ==== Sys2Proof/Laws/Rings.lean ====
section
/-! SUPPORT. The request rings when no channel has work, and the frame of a step that also writes the control fabric. -/
namespace Sys2Proof.Machine

/-- With no request that the device has been told of, nothing is taken. -/
theorem State.pump_idle {s : State} (h : ∀ j : Fin 8, (s.chan j).rungPi = (s.chan j).reqCi) (n : Nat) : s.pump n = s := by
  have e : s.nextChannel = none := by
    unfold State.nextChannel
    rw [List.find?_eq_none]
    intro c _
    simp [State.hasWork, h c]
  cases n with
  | zero => rfl
  | succ n => unfold State.pump; rw [e]

/-- The responses of a step leave the rings of requests as they are. -/
theorem State.settled_pump_idle {s u : State} (h : ∀ j : Fin 8, (u.chan j).rungPi = (u.chan j).reqCi) (n : Nat) :
    (s.settled u).pump n = s.settled u := by
  apply State.pump_idle
  intro j
  rw [State.settled_chan_rungPi, State.settled_chan_reqCi]; exact h j

/-- The frame of a step that writes the control fabric: what the effects leave alone, the posting leaves alone too. -/
theorem State.settledFabric_changesOnly {s u : State} {ps : List Part} (h : ∀ p, p ∉ ps → p ≠ .clock → p ≠ .memory → Part.Same s u p)
    (hm : .memory ∉ ps → Memory.wf s.fabric.cells → Memory.wf u.fabric.cells ∧
      ∀ a, ¬ inResponseRing a → memGet ramDefault u.fabric.cells a = memGet ramDefault s.fabric.cells a) :
    s.ChangesOnly (s.settledFabric u) ps := by
  refine ⟨by simp, fun p hp => ?_⟩
  cases p
  case clock => simp [Part.Same]
  case memory =>
    intro hw a ha
    obtain ⟨h1, h2⟩ := hm hp hw
    have h1' : Memory.wf ({ u with pending := s.pending, clock := s.clock } : State).fabric.cells := h1
    exact ((State.settle_outside _ h1').2 a ha).trans (h2 a ha)
  case host => exact (State.settle_still _).trans (h .host hp (by decide) (by decide))
  case requests => simpa [Part.Same] using h .requests hp (by decide) (by decide)
  case channels =>
    intro c
    obtain ⟨h1, h2, h3, h4, h5, h6, h7, h8⟩ := h .channels hp (by decide) (by decide) c
    exact ⟨by simp [h1], by simp [h2], by simp [h3], by simp [h4], by simp [h5], by simp [h6], by simp [h7], by simp [h8]⟩
  case recorder =>
    obtain ⟨h1, h2, h3, h4, h5, h6, h7, h8, h9, h10, h11, h12⟩ := h .recorder hp (by decide) (by decide)
    exact ⟨by simp [h1], by simp [h2], by simp [h3], by simp [h4], by simp [h5], by simp [h6], by simp [h7], by simp [h8], by simp [h9],
      by simp [h10], by simp [h11], by simp [h12]⟩
  all_goals (simpa [Part.Same] using h _ hp (by decide) (by decide))

end Sys2Proof.Machine
end

