-- ==== Sys2Proof/Machine/Pins.lean ====
section
/-! DEFINITION. What the device gives its pins other than the GPIO in a state: idle or driven lanes, the storage reset and
clock pins, the timing and cascade pins (R280, R573). A pin is a function of State, so no field holds it. -/
namespace Sys2Proof.Machine

/-- POR_N or COLD_RST_N is low (R524). -/
def State.heldInReset (s : State) : Bool := s.rst.porLow || s.rst.coldLow

/-- The transmit lanes of a port are electrically idle: the port is DOWN (R90, R573). -/
def State.ltxIdle (s : State) (p : PortNo) : Bool := s.heldInReset || (s.port p).mode == .down

/-- The receive lanes of a port are terminated: its lane group is ON (R573). -/
def State.lrxTerminated (s : State) (p : PortNo) : Bool := !s.heldInReset && s.pwr.modes[laneGroup p] == .on

/-- The storage lanes are in use: PD51 is ON (R555, R573). -/
def State.storageLanesOn (s : State) : Bool := !s.heldInReset && s.pwr.modes[(51 : Fin 56)] == .on

/-- Link `m` of root port `k` belongs to the declared split (R232, R386). -/
def State.storageLinkUsed (s : State) (k m : Fin 4) : Bool :=
  s.cap.drives.entries.any (fun e => e.rootPort == k && e.link == m.val)

/-- STO_REFCLK of a link runs (R573). -/
def State.storageClockRuns (s : State) (k m : Fin 4) : Bool := s.storageLanesOn && s.storageLinkUsed k m

/-- STO_PERST_N of a link is high: 1 ms, 2,000 ticks, after its clock is stable, which it is from PD51's entry into ON (R573;
DESIGN CHOICE of the start-up time 0, log 78). -/
def State.storageResetReleased (s : State) (k m : Fin 4) : Bool :=
  s.storageClockRuns k m && decide (s.pwr.storageSince + 2000 ≤ s.clock.tick)

/-- DPLL_STATE[2:0]: low during reset, then the state code (R262, R573). -/
def State.dpllPins (s : State) : BitVec 3 := if s.heldInReset then 0 else s.dpll.statePins

/-- An output carries its signal; otherwise CLKOUT rests with P low and N high, and PPS_OUT low (R274, R573). -/
def State.outputRuns (s : State) (o : Fin 10) : Bool :=
  !s.heldInReset && s.dpll.outputs[o].settings.enable && !s.dpll.outputs[o].squelched

/-- TICK_OUT carries words; otherwise both legs are low (R280, R573). -/
def State.tickOutRuns (s : State) : Bool := !s.heldInReset && s.casc.tickOut.isSome

/-- The level of MST_ACT_OUT_N: low while the device is the master (R280). -/
def State.mstActOutLevel (s : State) : Bool := s.heldInReset || !s.casc.mstActOut

/-- EVENT_N: held low during a low period, released otherwise (R478, R573). -/
def State.eventPinLevel (s : State) (i : Fin 4) : Bool := s.heldInReset || !s.ev.pins[i].low

end Sys2Proof.Machine
end

