-- ==== Sys2Proof/WellFormed.lean ====
section
/-! DEFINITION. Which commands can arise: the operands whose types allow more than the buses, the mailbox entries and
the key channel can carry. -/
namespace Sys2Proof

/-- The payload of an entry is as long as its header says; a mailbox entry is 4 KiB with a header of 32 bytes
(R312), so that it holds at most 4,064 payload bytes whatever length its header states. -/
def Request.wellFormed (r : Request) : Bool := decide (r.payload.length = min r.payloadLength.toNat 4064)

/-- The lengths of an I²C transfer's data (R332, R333), of a key message (R458) and of a host buffer: offsets in a
buffer go up to 67,108,863 (R598). -/
def Instr.wellFormed : Instr → Bool
  | .channelOpen r => r.wellFormed
  | .deviceInfo r => r.wellFormed
  | .recoveryRead r => r.wellFormed
  | .recoveryAck r => r.wellFormed
  | .jobStatus r => r.wellFormed
  | .warmReset r => r.wellFormed
  | .portEnable r => r.wellFormed
  | .portDisable r => r.wellFormed
  | .portStop r => r.wellFormed
  | .portRestart r => r.wellFormed
  | .portSet r => r.wellFormed
  | .portFormats r => r.wellFormed
  | .portBundles r => r.wellFormed
  | .portStatus r => r.wellFormed
  | .portCounters r => r.wellFormed
  | .portStatusAll r => r.wellFormed
  | .mapSolve r => r.wellFormed
  | .mapRawLoad r => r.wellFormed
  | .mapCancelJob r => r.wellFormed
  | .mapCancelBank r => r.wellFormed
  | .mapSwap r => r.wellFormed
  | .mapSwapCancel r => r.wellFormed
  | .mapRead r => r.wellFormed
  | .mapStatus r => r.wellFormed
  | .mapPersist r => r.wellFormed
  | .planeSet r => r.wellFormed
  | .groupDeclare r => r.wellFormed
  | .groupModify r => r.wellFormed
  | .groupDelete r => r.wellFormed
  | .protCommand r => r.wellFormed
  | .pairSettings r => r.wellFormed
  | .protStatus r => r.wellFormed
  | .refDeclare r => r.wellFormed
  | .timingSet r => r.wellFormed
  | .refForce r => r.wellFormed
  | .loopOpen r => r.wellFormed
  | .loopClose r => r.wellFormed
  | .dcoWrite r => r.wellFormed
  | .tickStep r => r.wellFormed
  | .outputSet r => r.wellFormed
  | .timingStatus r => r.wellFormed
  | .cascDeclare r => r.wellFormed
  | .cascLeave r => r.wellFormed
  | .cascStage r => r.wellFormed
  | .cascSwap r => r.wellFormed
  | .cascAbort r => r.wellFormed
  | .cascHandover r => r.wellFormed
  | .cascRelease r => r.wellFormed
  | .cascStatus r => r.wellFormed
  | .recipeLoad r => r.wellFormed
  | .recipeSwap r => r.wellFormed
  | .recipeCancel r => r.wellFormed
  | .recipeRead r => r.wellFormed
  | .recordPost r => r.wellFormed
  | .recordFlush r => r.wellFormed
  | .engineImageLoad r => r.wellFormed
  | .clusterStop r => r.wellFormed
  | .clusterRestart r => r.wellFormed
  | .clusterStatus r => r.wellFormed
  | .engineCounters r => r.wellFormed
  | .triggerLoad r => r.wellFormed
  | .triggerSwap r => r.wellFormed
  | .triggerCancel r => r.wellFormed
  | .triggerRead r => r.wellFormed
  | .channelArm r => r.wellFormed
  | .hostTrigger r => r.wellFormed
  | .captureAbort r => r.wellFormed
  | .triggerStatus r => r.wellFormed
  | .captureStatus r => r.wellFormed
  | .driveDeclare r => r.wellFormed
  | .namespaceDeclare r => r.wellFormed
  | .namespaceDelete r => r.wellFormed
  | .storeStatus r => r.wellFormed
  | .objectList r => r.wellFormed
  | .objectRead r => r.wellFormed
  | .objectPin r => r.wellFormed
  | .rtcRead r => r.wellFormed
  | .rtcSet r => r.wellFormed
  | .leapSet r => r.wellFormed
  | .logStatus r => r.wellFormed
  | .logFreeze r => r.wellFormed
  | .logRead r => r.wellFormed
  | .logClear r => r.wellFormed
  | .evtRoute r => r.wellFormed
  | .secNonce r => r.wellFormed
  | .certRead r => r.wellFormed
  | .attest r => r.wellFormed
  | .ownerTransfer r => r.wellFormed
  | .debugUnlock r => r.wellFormed
  | .linkRekey r => r.wellFormed
  | .secStatus r => r.wellFormed
  | .bistRun r => r.wellFormed
  | .bistResults r => r.wellFormed
  | .perfSelect r => r.wellFormed
  | .perfSnapshot r => r.wellFormed
  | .perfSample r => r.wellFormed
  | .domainSet r => r.wellFormed
  | .powerStatus r => r.wellFormed
  | .shutdown r => r.wellFormed
  | .fwStage r => r.wellFormed
  | .fwActivate r => r.wellFormed
  | .mgmtRole r => r.wellFormed
  | .fwStatus r => r.wellFormed
  | .mbxDoorbellReq _ => true
  | .mbxDoorbellRsp _ => true
  | .mbxReqPiWrite _ _ => true
  | .mbxRspCiWrite _ _ => true
  | .mbxResync _ => true
  | .heldResponsePosted _ => true
  | .bar0BadAccess _ => true
  | .bar2ResponseWrite _ _ => true
  | .registerWrite _ _ => true
  | .hostHeartbeatWrite _ => true
  | .hostHbTimeoutExpiry => true
  | .setWinsCntRead _ => true
  | .bar0ErrClear _ _ => true
  | .evtSummaryClear _ _ => true
  | .evtMaskWrite _ => true
  | .evtQueueCiWrite _ => true
  | .evtQueueEnable => true
  | .semAcquire _ _ _ => true
  | .semRelease _ _ _ => true
  | .semMAcquire _ _ _ => true
  | .semMRelease _ _ _ => true
  | .hostPortReset => true
  | .hotReset => true
  | .flr => true
  | .hostLinkTrained _ _ => true
  | .i2cTargetWrite _ data => decide (data.length ≤ 65536)
  | .i2cTargetRead _ _ => true
  | .i2cTargetTimeout => true
  | .bmcHeartbeatWrite _ => true
  | .bmcHbTimeoutExpiry => true
  | .i2cControllerTransfer x _ => decide (x.data.length ≤ 255)
  | .i2cControllerRetry _ => true
  | .busStuck => true
  | .porNAssert _ => true
  | .porNRelease _ _ => true
  | .coldRstNAssert _ => true
  | .coldRstNRelease _ => true
  | .warmRstNAssert => true
  | .tinderServiceStart => true
  | .fullServiceStart _ => true
  | .shutdownSequence => true
  | .bistSliceDone _ => true
  | .bistSliceTimeout => true
  | .pwrFailNAssert => true
  | .powerFailFlushPage => true
  | .supplyOutOfRange _ => true
  | .conditionsRestored => true
  | .temperatureThreshold _ => true
  | .vbatCheck _ => true
  | .aoDomainReset => true
  | .rtcOscStop => true
  | .rtcOscResume => true
  | .rtcSecond => true
  | .rtcAlignment => true
  | .rtcTrimUpdate _ => true
  | .leapApplied => true
  | .tick => true
  | .lineFrameReceived _ _ => true
  | .losDeclare _ => true
  | .losClear _ => true
  | .sdWindowEnd _ => true
  | .ulsClear _ => true
  | .timAcceptTimeout _ => true
  | .rdiHoldEnd _ => true
  | .portUp _ => true
  | .trainingTimeout _ => true
  | .tinderTrainTimeout _ => true
  | .holdOffExpiry _ _ => true
  | .wtrExpiry _ => true
  | .protFailTimeout _ => true
  | .planeTestPassed _ => true
  | .planeDrained _ => true
  | .bankScrub _ => true
  | .mirroringDone => true
  | .solverJobDone _ => true
  | .solverTimeLimit => true
  | .rawMapVerified => true
  | .swapLatch => true
  | .swapTakesPlace => true
  | .swapComplete => true
  | .persistDone => true
  | .solverCoreFailure _ => true
  | .solverCoreRepair _ => true
  | .recipeCheckDone => true
  | .recipeSwapTakesPlace => true
  | .recipePersistDone => true
  | .triggerCheckDone => true
  | .triggerSwapTakesPlace => true
  | .triggerPersistDone => true
  | .dwellEnd _ => true
  | .reportIntervalEnd _ => true
  | .tinderDwellEnd _ => true
  | .recordBufferTimeout => true
  | .sparkArrival _ => true
  | .engineFault _ => true
  | .spareInService _ => true
  | .clusterLoadingDone _ => true
  | .sparkDecision _ => true
  | .trigInEdge _ => true
  | .pinDecision _ => true
  | .hostTriggerDecision _ => true
  | .trigOutPulse _ => true
  | .rearmEnd _ => true
  | .nvmeCommandComplete _ => true
  | .driveWriteError _ => true
  | .mirrorRebuildDone _ => true
  | .indexCheckpoint _ => true
  | .refPulse _ _ => true
  | .refActivityLost _ => true
  | .refActivityPresent _ => true
  | .refGateEnd _ _ => true
  | .refQualified _ => true
  | .holdOscQualified => true
  | .holdOscGateEnd _ => true
  | .phaseDetectorUpdate _ _ => true
  | .holdoverLimitExpiry => true
  | .dcoWatchdogExpiry => true
  | .tickStepTimeout => true
  | .outputChangeApplied _ => true
  | .tickWordReceived _ _ _ => true
  | .tickWordMissing => true
  | .flywheelDeclare => true
  | .cascMessageReceived _ _ => true
  | .masterStartTimeout => true
  | .cascPrepareTimeout => true
  | .cascDecisionCheck => true
  | .cascCompleteTimeout => true
  | .tickPathLoss => true
  | .channelPathLoss => true
  | .arbSelDecision _ => true
  | .roleSwapPeriod => true
  | .handoverTick => true
  | .keyMessageReceived _ m => decide (m.bytes.length ≤ 4096)
  | .agreementTimeout _ => true
  | .agreementRetry _ => true
  | .keyExhausted _ => true
  | .oldKeyErase _ => true
  | .nonceExpiry _ => true
  | .watchdogWrite _ => true
  | .watchdogExpiry _ => true
  | .beatPathLoss _ _ => true
  | .faultReport _ => true
  | .arbiterGrant => true
  | .arbiterProbeAnswer => true
  | .arbiterSilentTimeout => true
  | .mgmtOwnerRelease _ => true
  | .coreRepower _ => true
  | .coreBooted _ _ => true
  | .coreStandbyReached _ => true
  | .periodicRoleSwap => true
  | .activationResyncTimeout => true
  | .eflashErase _ _ => true
  | .eflashProgram _ _ _ => true
  | .eflashEraseDone _ => true
  | .eflashProgramDone _ => true
  | .fabricAccess accesses => decide (1 ≤ accesses.length ∧ accesses.length ≤ 8)
  | .bridgeTimeout _ => true
  | .patrolScrub _ => true
  | .eventFlush => true
  | .eventNRelease _ => true
  | .logFreezeExpiry => true
  | .domainTransitionDone _ => true
  | .farEndWake _ => true
  | .domainWaitEvent _ => true
  | .perfSnapshotLatch => true
  | .sampleTaken _ => true
  | .sampleJobTimeout _ => true
  | .gpioWindowEnd _ _ _ => true
  | .holdOscActivityLost => true
  | .beatPathReturn _ _ => true
  | .hostDmaDone _ _ data => decide (data.length ≤ 67108864)
  | .securityCheckDone _ => true
  | .jtagMailboxRequest _ => true

end Sys2Proof
end

