-- ==== Sys2Proof/Tests/Slice0.lean ====
section
/-! SUPPORT. The model's own tests: the checks of WellFormed on ill-formed terms, values that the spec writes out, and for every
obligation a witness that its hypotheses are met on concrete states. -/

namespace Sys2Proof.Tests
set_option Elab.async false
open Sys2Proof Sys2Proof.Machine

/-- A state with every domain ON in full service: core A owns, core B stands by, the channels are OPEN at version 2.4. -/
def ready : State :=
  let s := State.reset
  let img : ImageInfo := { (default : ImageInfo) with version := 0x0204 }
  { s with
    clock := { tick := 10000000000, frame := 2000000000000000 }
    host := { s.host with service := 2, busMaster := true, linkWidth := 4, linkGen := 4
                          channels := Vector.replicate 8 { Channel.reset with mode := .opened, wasOpen := true, version := 0x0204 } }
    rtc := { s.rtc with seconds := 1000000000, valid := true, oscStopped := false, domainReset := false }
    mgmt := { s.mgmt with owner := some 0, cores := #v[{ ManagementCore.reset with mode := .active, image := img }, { ManagementCore.reset with mode := .standby, image := img }]
                          slots := #v[⟨some img⟩, ⟨none⟩] }
    map := { s.map with planes := Vector.replicate 4 { (default : Plane) with mode := .on }, shadowMode := .mirror }
    ember := { s.ember with clusters := Vector.replicate 8 { Cluster.reset with mode := .running, library := 0x0301 } }
    pwr := { s.pwr with modes := Vector.replicate 56 .on }
    rst := { s.rst with porLow := false, released := 5000 } }

/-- A request for a command on a channel with a payload. -/
def ask (k : Command) (c : Fin 8) (payload : List Byte) (desc : Nat := if k.desc then 1 else 0) : Request :=
  { channel := c, version := 0x0204, flags := 0, payloadLength := BitVec.ofNat 16 payload.length, sequence := 7, token := 0x55
    descCount := BitVec.ofNat 16 desc, reserved := 0, payload := payload }

/-- One descriptor of `n` bytes. -/
def list1 (n : Nat) : List Byte := leBytes 8 0x1000 ++ leBytes 4 n ++ zeros 4

/-- A recorded command. -/
def entryOf (tok : BitVec 64) (st : Status := .ok) (n : Nat := 0) : TokenEntry :=
  { (default : TokenEntry) with token := tok, status := st, results := zeros n, version := 0x0204, opcode := 0x0103 }

/-- The premises of State.Admits, computed. -/
def admitted (s : State) (k : Command) (r : Request) : Bool :=
  s.takes r.channel && r.token != 0 && ((s.chan r.channel).recorded r.token).isNone
    && (k.opcode == 0x0101 || ((s.chan r.channel).mode == .opened && r.version == (s.chan r.channel).version && decide (k.since ≤ r.version)))
    && (r.flags &&& (if k.persist then 0xFFF9 else 0xFFFB) == 0 && r.reserved == 0)
    && (r.payloadLength.toNat == k.length && decide (r.payloadLength ≤ 4064) && decide (r.descCount = 0 ↔ k.desc = false) && decide (r.descCount ≤ 4096))
    && k.cls.admits r.channel && s.retireJournal.capacity r && (!k.full || s.host.service != 1) && (!decide (3 ≤ s.host.service) || k.always)

theorem admits_of {s : State} {k : Command} {r : Request} (h : admitted s k r = true) : s.Admits k r := by
  simp only [admitted, Bool.and_eq_true, Bool.or_eq_true, bne_iff_ne, beq_iff_eq, decide_eq_true_eq, Bool.not_eq_true', Option.isNone_iff_eq_none,
    decide_eq_false_iff_not] at h
  obtain ⟨⟨⟨⟨⟨⟨⟨⟨⟨h1, h2⟩, h3⟩, h4⟩, h5⟩, h6⟩, h7⟩, h8⟩, h9⟩, h10⟩ := h
  exact ⟨h1, h2, h3, by tauto, h5, by tauto, h7, h8, ⟨fun h => by simpa [h] using h9, fun h => by tauto⟩⟩

/-- The premises of State.Lists, computed. -/
def listed (s : State) (r : Request) (ds : List Byte) (n : Nat) : Bool :=
  s.host.busMaster && decide (∀ j : Fin 8, (s.chan j).rungPi = (s.chan j).reqCi) && s.host.outbox.isEmpty
    && s.host.waiting.all (fun w => w.request.channel != r.channel || w.request.token != r.token)
    && ds.length == 16 * r.descCount.toNat && (match descriptorCheck r ds with | .ok m => m == n | _ => false)

theorem lists_of {s : State} {r : Request} {ds : List Byte} {n : Nat} (h : listed s r ds n = true) : s.Lists r ds n := by
  simp only [listed, Bool.and_eq_true, beq_iff_eq, decide_eq_true_eq, List.isEmpty_iff, List.all_eq_true, Bool.or_eq_true, bne_iff_ne] at h
  obtain ⟨⟨⟨⟨⟨h1, h2⟩, h3⟩, h4⟩, h5⟩, h6⟩ := h
  refine ⟨⟨h1, h2⟩, h3, fun w hw hc => (h4 w hw).resolve_left (fun h => h hc), h5, ?_⟩
  revert h6
  cases descriptorCheck r ds with
  | error _ => simp
  | ok m => simp

theorem of_all {α : Type} {o : Option α} {P : α → Prop} [DecidablePred P] (h : o.all (fun x => decide (P x)) = true) : ∀ x, o = some x → P x := by
  rintro x rfl
  simpa using h


/-! Ill-formed commands, one for each check of WellFormed. -/

def shortRequest : Request := { ask cmdChannelOpen 0 (zeros 4) with payload := zeros 3 }
def noAccess : FabricAccess := default

theorem test_wellformed_refuses_payload_unlike_its_length :
    (Instr.channelOpen shortRequest).wellFormed = false ∧ (Instr.channelOpen (ask cmdChannelOpen 0 (zeros 4))).wellFormed = true := by decide +kernel

theorem test_wellformed_refuses_long_i2c_write : (Instr.i2cTargetWrite 0 (List.replicate 65537 0)).wellFormed = false := by
  simp only [Instr.wellFormed, List.length_replicate]; decide

theorem test_wellformed_refuses_long_i2c_transfer :
    (Instr.i2cControllerTransfer { mode := 0, address := 0x50, data := List.replicate 256 0, readLen := 0, retries := 0 } .addressNak).wellFormed = false := by
  decide +kernel

theorem test_wellformed_refuses_long_key_message : (Instr.keyMessageReceived 0 ⟨1, List.replicate 4097 0⟩).wellFormed = false := by
  simp only [Instr.wellFormed, List.length_replicate]; decide

theorem test_wellformed_refuses_nine_accesses_in_one_cycle : (Instr.fabricAccess (List.replicate 9 noAccess)).wellFormed = false ∧ (Instr.fabricAccess []).wellFormed = false := by
  decide +kernel

theorem test_wellformed_refuses_long_transfer : (Instr.hostDmaDone 0 1 (List.replicate 67108865 0)).wellFormed = false := by
  simp only [Instr.wellFormed, List.length_replicate]; decide

/-- No row of the table has bits (log 1). -/
theorem test_no_word_spells_a_command : decodeTableWord 0 0 = none ∧ State.reset.withFetchWord 32 5 = State.reset := ⟨rfl, rfl⟩

/-- R35: 00b to level 0, 01b to 1, 11b to 2 and 10b to 3, the first pair on the line first; the receiver undoes it. -/
theorem test_pam4_levels :
    (pam4Levels (BitVec.ofNat 54400 (0b00011110 * 2 ^ 54392))).extractLsb' 54392 8 = 0b00011011
      ∧ (pam4Bits (BitVec.ofNat 54400 (0b00011011 * 2 ^ 54392))).extractLsb' 54392 8 = 0b00011110 := by decide +kernel

/-- R281: the sync pattern, 1 high then low, and the word read back from the line; a line that lacks the pattern carries none. -/
theorem test_tick_line_round_trip :
    lineBytes (tickLevels ((zeros 30) ++ [0x81])) = some (zeros 30 ++ [0x81]) ∧ lineBytes 0 = none := by decide +kernel

/-- Published check values of the standards the spec names (log 48): the CRC-32 of R52 (not reflected) of "123456789", and SHA-384 of "abc". -/
theorem test_crc32_check_value : crc32 (ascii "123456789") = 0xFC891918 := by decide +kernel

theorem test_sha384_of_abc :
    sha384 (ascii "abc") = 0xcb00753f45a35e8bb5a03d699ac65007272c32ab0eded1631a8b605a43ff5bed8086072ba1e7cc2358baeca134c825a7 := by decide +kernel

/-- The AES-256 example of FIPS 197. -/
theorem test_aes256_example :
    aesBlock (roundKeys ((List.range 32).map (BitVec.ofNat 8))) ((List.range 16).map (fun i => BitVec.ofNat 8 (17 * i)))
      = [0x8E, 0xA2, 0xB7, 0xCA, 0x51, 0x67, 0x45, 0xBF, 0xEA, 0xFC, 0x49, 0x90, 0x4B, 0x49, 0x60, 0x89] := by decide +kernel

namespace S10
def locked : State := { ready with dpll := { ready.dpll with mode := .locked } }
def offSecond : State := { ready with clock := { ready.clock with frame := 2000000000000001 } }
def leaping : State := { ready with rtc := { ready.rtc with leap := 1, leapTai := 1000000000, taiUtc := 37 } }
def semTaken : State := { ready with host := { ready.host with sems := ready.host.sems.set 7 { held := true, abandoned := true, path := 1, tag := 9 }, semMs := ready.host.semMs.set 31 { held := true, abandoned := false, owner := 4, tag := 9 } } }
def beating : State := { ready with host := { ready.host with hostHeartbeat := { value := 5, timeoutMs := 10, since := ready.clock.tick - 20000, lost := false }, bmcHeartbeat := { value := 6, timeoutMs := 1, since := ready.clock.tick - 2000, lost := false } } }
def w1 : Bar0Access := { bytes := 3, offset := 0, write := none } 
def w2 : Bar0Access := { bytes := 4, offset := 0x9008, write := none } 

theorem witness_AlwaysOnDomainEventsTakeEffect :
    (locked.timescaleSecond = some (1000000000 : Nat) ∧ locked.traceable = true ∧ locked.rtc.crystalDown = false) ∧
    ((offSecond.timescaleSecond = none ∨ offSecond.traceable = false)) ∧
    (leaping.rtc.leap ≠ 0 ∧ leaping.rtc.leapTai.toNat ≤ leaping.rtc.seconds.toNat) :=
  ⟨by decide +kernel, by decide +kernel, by decide +kernel⟩

theorem witness_SemaphoreCommandsFollowTheirOwner :
    (semTaken.host.sems[0].held = false ∧ semTaken.host.sems[7].held = true ∧ semTaken.host.sems[7].path = pathCode (.pcie  : SemPath) ∧ semTaken.host.sems[7].tag = ((9 : BitVec 16)  : BitVec 16) ∧ (semTaken.host.sems[0].held = false ∨ semTaken.host.sems[0].path ≠ pathCode (.pcie  : SemPath) ∨ semTaken.host.sems[0].tag ≠ ((9 : BitVec 16)  : BitVec 16)) ∧ semTaken.host.semMs[0].held = false ∧ semTaken.host.semMs[31].held = true ∧ semTaken.host.semMs[31].owner.toNat = 3 + 1 ∧ (semTaken.host.semMs[0].held = false ∨ semTaken.host.semMs[0].owner.toNat ≠ 0 + 1)) :=
  by decide +kernel

theorem witness_HeartbeatAndErrorRegistersFollowTheirRules :
    (((6 : BitVec 32)  : BitVec 32) ≠ beating.host.hostHeartbeat.value ∧ beating.host.hostHeartbeat.timeoutMs ≠ 0 ∧ beating.host.hostHeartbeat.lost = false ∧ beating.host.hostHeartbeat.since + 2000 * beating.host.hostHeartbeat.timeoutMs.toNat ≤ beating.clock.tick ∧ ((5 : BitVec 32)  : BitVec 32) ≠ beating.host.bmcHeartbeat.value ∧ beating.host.bmcHeartbeat.timeoutMs ≠ 0 ∧ beating.host.bmcHeartbeat.lost = false ∧ beating.host.bmcHeartbeat.since + 2000 * beating.host.bmcHeartbeat.timeoutMs.toNat ≤ beating.clock.tick ∧ (↑w1.bytes ≠ 4 ∧ ↑w1.bytes ≠ 8 ∨ w1.offset.toNat % 4 ≠ 0) ∧ w1.write = none ∧ (↑w2.bytes = 4 ∨ ↑w2.bytes = 8 ∧ beating.bar0 (w2.offset.toNat + 4) = none) ∧ w2.offset.toNat % 4 = 0 ∧ beating.bar0 w2.offset.toNat = none ∧ w2.write = none) :=
  by decide +kernel

end S10

namespace S12
def chn (f : Channel → Channel) : State := ready.setChan 7 f
def resp (n : Nat) : Response := { (default : Response) with results := zeros n }
def rings : State := chn fun c => { c with reqCi := 5, reqPi := 5, rungPi := 5, rspPi := 9, rspCi := 9 }
def gapped : State := { rings with mgmt := { rings.mgmt with serviceGap := true } }
def holding : State := chn fun c => { c with rspPi := 63, rspCi := 0, held := [resp 8, resp 16] }
def errored : State := chn fun c => { c with mode := .error, reqPi := 99, reqCi := 3, rungPi := 3 }
def evs (f : EventState → EventState) : State := { ready with ev := f ready.ev }
def evOn : State := evs fun e => { e with mask := 0xFFFF, summary := 0x8001, queuePi := 1024, queueEnable := true }
def busy : State := { semUsed with fabric := { semUsed.fabric with cells := [(mailboxBase, 7), (mailboxBase + 0x400000, 9)] } }
where semUsed : State := { rings with host := { rings.host with sems := rings.host.sems.set 7 { held := true, abandoned := false, path := 1, tag := 9 } } }
def xfer : BoardBusTransfer := { mode := 2, address := 0x50, data := [1, 2], readLen := 4, retries := 1 }
def xfer0 : BoardBusTransfer := { xfer with retries := 0 }
def bus (n : Nat) : State := { ready with host := { ready.host with boardBus := { ready.host.boardBus with transfer := some xfer, retries := n } } }
def w1 : State := bus 0

theorem witness_RingIndexRegistersMoveTheRings :
    (ringCount ((5 : BitVec 32)  : BitVec 32) (rings.chan 7).reqCi ≤ 64 ∧ 64 < ringCount ((70 : BitVec 32)  : BitVec 32) (rings.chan 7).reqCi ∧ ringCount (rings.chan 7).rspPi ((5 : BitVec 32)  : BitVec 32) ≤ 64 ∧ 64 < ringCount (rings.chan 7).rspPi ((69 : BitVec 32)  : BitVec 32) ∧ rings.mgmt.serviceGap = false ∧ (rings.chan 7).mode ≠ ChannelMode.error ∧ (∀ (j : Fin 8), (rings.chan j).rungPi = (rings.chan j).reqCi) ∧ (rings.chan 7).reqPi = (rings.chan 7).reqCi ∧ (rings.chan 7).held = [] ∧ rings.host.outbox = []) ∧
    (gapped.mgmt.serviceGap = true ∧ (∀ (j : Fin 8), (gapped.chan j).rungPi = (gapped.chan j).reqCi)) ∧
    ((holding.chan 7).held = (resp 8 : Response) :: ([resp 16] : List Response) ∧ (holding.chan 7).mode ≠ ChannelMode.error ∧ ringCount (holding.chan 7).rspPi (holding.chan 7).rspCi < 64 ∧ holding.mgmt.serviceGap = false ∧ holding.host.outbox = [] ∧ Memory.wf holding.fabric.cells ∧ (resp 8 : Response).bytes.length ≤ 4096) ∧
    ((errored.chan 7).mode = ChannelMode.error ∧ ringCount (errored.chan 7).rspPi (errored.chan 7).rspCi ≤ 64) :=
  ⟨by decide +kernel, by decide +kernel, by decide +kernel, by decide +kernel⟩

theorem witness_EventRegistersFollowTheirRules :
    (ready.host.outbox = [] ∧ (ready.ev.queuePi - ((0 : BitVec 32)  : BitVec 32)).toNat ≤ 1024 ∧ ready.ev.queueEnable = false) ∧
    (evOn.host.outbox = [] ∧ evOn.host.busMaster = true ∧ evOn.ev.mask.getLsbD 0 = true ∧ ((0 : BitVec 32)  : BitVec 32).getLsbD 0 = false ∧ evOn.ev.summary.getLsbD 0 = true ∧ 1024 < (evOn.ev.queuePi - (0xFFFFFFFF : BitVec 32)).toNat ∧ evOn.ev.queueEnable = true) :=
  ⟨by decide +kernel, by decide +kernel⟩

theorem witness_HostPortResetsAndItsLink :
    (((.hostPortReset  : Instr) = Instr.hostPortReset ∨ (.hostPortReset  : Instr) = Instr.hotReset ∨ (.hostPortReset  : Instr) = Instr.flr) ∧ Memory.wf busy.fabric.cells) :=
  by decide +kernel

theorem witness_BoardBusCommandsFollowTheirRules :
    (busy.rst.porLow = false ∧ leNat [(1 : Byte), (2 : Byte), (3 : Byte), (4 : Byte)] ≠ busy.host.bmcHeartbeat.value.toNat ∧ (busy.rst.porLow = true ∨ BitVec.toNat ((0x81 : Byte)  : Byte) % 4 ≠ 0 ∨ (zeros 4  : List Byte).length < 4) ∧ (busy.rst.porLow = true ∨ BitVec.toNat ((0x81 : Byte)  : Byte) % 4 ≠ 0) ∧ busy.host.boardBus.transfer = none ∧ (.done [1,2,3,4,5]  : BoardBusOutcome) = BoardBusOutcome.done ([1,2,3,4,5] : List Byte) ∧ (.addressNak  : BoardBusOutcome) = BoardBusOutcome.addressNak ∧ (.dataNak  : BoardBusOutcome) = BoardBusOutcome.dataNak ∧ (.busNotFree  : BoardBusOutcome) = BoardBusOutcome.busNotFree ∧ .arbitrationLost = BoardBusOutcome.arbitrationLost ∧ ↑xfer.retries ≠ 0 ∧ ↑xfer0.retries = 0) ∧
    (w1.host.boardBus.transfer = some xfer ∧ w1.host.boardBus.retries = 0 ∧ w1.host.boardBus.transfer ≠ none) :=
  ⟨by decide +kernel, by decide +kernel⟩

theorem witness_RegisterWritesActAsTheirRegistersSay :
    ((∀ (j : Fin 8), (ready.chan j).rungPi = (ready.chan j).reqCi) ∧ ready.ev.queueEnable = false ∧ (65 : BitVec 16).toNat % 4 ≠ 0 ∧ (36872 : BitVec 16).toNat % 4 = 0 ∧ 36872 ≤ (36872 : BitVec 16).toNat) ∧
    ((∀ (j : Fin 8), (evOn.chan j).rungPi = (evOn.chan j).reqCi) ∧ evOn.ev.queueEnable = true) :=
  ⟨by decide +kernel, by decide +kernel⟩

end S12

namespace S13
def rst (f : ResetState → ResetState) (s : State := ready) : State := { s with rst := f s.rst }
def svc (n : BitVec 4) : State := { ready with host := { ready.host with service := n } }
def evs (f : EventState → EventState) : State := { ready with ev := f ready.ev }
def recs (n : Nat) : List BufferedRecord := List.replicate n { (default : BufferedRecord) with tick := ready.clock.tick - 2000000 }
def pw (f : PowerState → PowerState) : State := { ready with pwr := f ready.pwr }
def req : DomainRequest := { domain := 33, target := .off, origins := [.host ⟨3, 9⟩], since := ready.clock.tick - 20001, waited := false, after := false }
def bist (sl : List (Nat × Nat)) (origin started : Nat) : State := { ready with bist := { ready.bist with run := some { origin := origin, slices := sl, started := started, command := none, results := [] } } }
def pinned (f : PinFunction) : State := { (evs fun e => { e with frozenUntil := some (ready.clock.tick + 1) }) with gpio := ready.gpio.set 31 { ready.gpio[31] with function := f } }
def w1 : State := rst fun r => { r with porLow := true, coldLow := true }
def w2 : State := { (rst fun r => { r with porLow := true }) with sec := { ready.sec with lifecycle := 2 } }
def w3 : State := rst fun r => { r with coldLow := true }
def w4 : State := svc 0
def w5 : State := svc 1
def w6 : State := rst (fun r => { r with shutdown := some (⟨3, 9⟩, false) }) (svc 3)
def w7 : State := rst (fun r => { r with shutdown := some (⟨3, 9⟩, true) }) (svc 3)
def w8 : State := rst (fun r => { r with pwrFailLow := true }) (svc 1)
def w9 : State := evs fun e => { e with powerFailing := true, standing := true, buffer := recs 9 }
def w10 : State := pw fun p => { p with running := some { req with domain := 36, target := .banked } }
def w11 : State := pw fun p => { p with waiting := [req] }
def w12 : State := { (pw fun p => { p with wakeSets := p.wakeSets.set 31 [511], modes := p.modes.set 31 .banked, supplyOut := Vector.replicate 7 true }) with host := { ready.host with lapseConditions := true } }
def w13 : State := bist [(9, 3), (8, 0)] 3 ready.clock.tick
def w14 : State := bist [(8, 3), (8, 0)] 1 (ready.clock.tick - sliceLimit 8)
def w15 : State := bist [(8, 3)] 1 ready.clock.tick
def w16 : State := evs fun e => { e with buffer := recs 1 }
def w17 : State := evs fun e => { e with buffer := recs 8, frozenUntil := some ready.clock.tick, pins := e.pins.set 3 { e.pins[3] with low := true, lowUntil := ready.clock.tick } }
def w18 : State := pinned .gpio
def w19 : State := pinned .led

theorem witness_ResetInputsRestartTheDevice :
    (((Instr.porNAssert true  : Instr) = Instr.porNAssert true ∨ (Instr.porNAssert true  : Instr) = Instr.coldRstNAssert true) ∧ ready.mgmt.staged = 0 ∧ ready.rst.porLow = false ∧ ready.rst.coldLow = false ∧ ready.ev.clears = [] ∧ (Instr.porNAssert true  : Instr) = Instr.porNAssert true ∧ ((Instr.coldRstNAssert true  : Instr) = Instr.porNAssert true ∨ (Instr.coldRstNAssert true  : Instr) = Instr.coldRstNAssert true) ∧ (Instr.coldRstNAssert true  : Instr) = Instr.coldRstNAssert true ∧ ((Instr.porNAssert false  : Instr) = Instr.porNAssert false ∨ (Instr.porNAssert false  : Instr) = Instr.coldRstNAssert false) ∧ ready.host.service ≠ 0 ∧ ready.host.service < 3 ∧ ready.mgmt.warmReset = none) ∧
    (w1.rst.porLow = true ∧ w1.rst.coldLow = true) ∧
    (w2.rst.porLow = true ∧ w2.rst.coldLow = false ∧ w2.sec.lifecycle = 2) ∧
    ((State.reset.host.service = 0 ∨ 3 ≤ State.reset.host.service ∨ State.reset.mgmt.warmReset ≠ none)) ∧
    (w3.rst.coldLow = true ∧ w3.rst.porLow = false) :=
  ⟨by decide +kernel, by decide +kernel, by decide +kernel, by decide +kernel, by decide +kernel⟩

theorem witness_ServiceStagesAndPowerFailure :
    (w4.host.service = 0 ∧ w4.mgmt.owner ≠ none ∧ w4.rst.porLow = false ∧ w4.rst.coldLow = false ∧ w4.bist.run = none ∧ w4.host.service ≠ 1 ∧ w4.rst.pwrFailLow = false) ∧
    (w5.host.service ≠ 0 ∧ w5.host.service = 1) ∧
    (w6.rst.shutdown = some ((⟨3, 9⟩ : CommandRef), false) ∧ w6.host.service = 3 ∧ w6.cap.captures = [] ∧ w6.bist.run = none ∧ w6.casc.swap = none) ∧
    (w7.rst.shutdown = some ((⟨3, 9⟩ : CommandRef), true) ∧ w7.host.service = 3 ∧ w7.cap.captures = [] ∧ w7.bist.run = none ∧ w7.casc.swap = none) ∧
    (w8.rst.pwrFailLow = true) ∧
    (w9.ev.powerFailing = true ∧ w9.ev.standing = true ∧ w9.ev.buffer ≠ [] ∧ w9.logProgrammable = true ∧ w9.host.outbox = []) :=
  ⟨by decide +kernel, by decide +kernel, by decide +kernel, by decide +kernel, by decide +kernel, by decide +kernel⟩

theorem witness_PowerDomainsTemperatureAndSupplies :
    ((w10.pwr.running).isSome = true ∧ 0 ≠ w10.pwr.running.get!.domain ∧ ((1440 : BitVec 16)  : BitVec 16).toInt < 95 * 16 ∧ 90 * 16 < ((1441 : BitVec 16)  : BitVec 16).toInt ∧ ((1359 : BitVec 16)  : BitVec 16).toInt < 85 * 16 ∧ 95 * 16 < ((1521 : BitVec 16)  : BitVec 16).toInt ∧ 100 * 16 < ((1601 : BitVec 16)  : BitVec 16).toInt) ∧
    (w11.pwr.waiting = req :: ([] : List DomainRequest) ∧ req.waited = false ∧ req.since + 20000 < w11.clock.tick) ∧
    (511 ∈ w12.pwr.wakeSets[31] ∧ w12.pwr.modes[laneGroup 511] = DomainMode.banked ∧ w12.pwr.running = none ∧ w12.pwr.waiting = [] ∧ w12.host.lapseConditions = true ∧ w12.pwr.hot = false ∧ w12.rst.pwrFailLow = false) :=
  ⟨by decide +kernel, by decide +kernel, by decide +kernel⟩

theorem witness_SelfTestsTakeTheirSlices :
    ((w13.bist.run).isSome = true ∧ w13.bist.run.get!.slices = ((9, 3) : Nat × Nat) :: ((8, 0) : Nat × Nat) :: ([] : List (Nat × Nat))) ∧
    ((w14.bist.run).isSome = true ∧ w14.bist.run.get!.slices = ((8, 3) : Nat × Nat) :: ((8, 0) : Nat × Nat) :: ([] : List (Nat × Nat)) ∧ ((8, 3) : Nat × Nat).1 ≠ 9 ∧ ((8, 3) : Nat × Nat).1 ≠ 11 ∧ w14.bist.run.get!.started + sliceLimit ((8, 3) : Nat × Nat).1 ≤ w14.clock.tick) ∧
    ((w15.bist.run).isSome = true ∧ w15.bist.run.get!.slices = [((8, 3) : Nat × Nat)] ∧ w15.bist.run.get!.origin ≠ 2 ∧ w15.bist.run.get!.command = none ∧ w15.bist.run.get!.slices = ((8, 3) : Nat × Nat) :: ([] : List (Nat × Nat)) ∧ w15.clock.tick < w15.bist.run.get!.started + sliceLimit ((8, 3) : Nat × Nat).1) ∧
    (ready.bist.run = none) :=
  ⟨by decide +kernel, by decide +kernel, by decide +kernel, by decide +kernel⟩

theorem witness_RecorderEventsTakeEffect :
    (w16.flushDue = true ∧ w16.logProgrammable = true ∧ w16.ev.discarded = false ∧ w16.ev.clears = [] ∧ w16.ev.regionFault = false ∧ w16.host.outbox = [] ∧ w16.gpio[31].function = PinFunction.gpio) ∧
    (w17.flushDue = false ∧ (w17.ev.frozenUntil).isSome = true ∧ w17.ev.frozenUntil.get! ≤ w17.clock.tick ∧ w17.ev.pins[3].low = true ∧ w17.ev.pins[3].lowUntil ≤ w17.clock.tick ∧ w17.host.outbox = []) ∧
    ((w18.ev.frozenUntil).isSome = true ∧ w18.clock.tick < w18.ev.frozenUntil.get!) ∧
    ((w19.gpio[31].function = PinFunction.led ∨ w19.gpio[31].function = PinFunction.trigOut)) :=
  ⟨by decide +kernel, by decide +kernel, by decide +kernel, by decide +kernel⟩

end S13

namespace S14
def tk := ready.clock.tick
def mg (f : ManagementState → ManagementState) : State := { ready with mgmt := f ready.mgmt }
def cores (a b : ManagementCore → ManagementCore) (f : ManagementState → ManagementState := id) : State :=
  mg fun m => f { m with cores := #v[a m.cores[0], b m.cores[1]] }
def asked (p : Bool) (n : Nat) : State := mg fun m => { m with arbiterMode := true, serviceGap := true, takeover := some ⟨.watchdog, n, p⟩ }
def act : Activation := { step := .otherNew, started := tk - 10 * second, oldImage := { (default : ImageInfo) with version := 7 }, newImage := default, command := ⟨3, 9⟩ }
def w1 : State := cores (fun c => { c with marked := tk - 100000, beatLost := #v[true, false] }) id
def w2 : State := cores id (fun c => { c with beatLost := #v[true, false] })
def w3 : State := asked true (tk - 10000)
def w4 : State := cores id (fun c => { c with mode := .off })
def w5 : State := cores id (fun c => { c with mode := .fault, repowerAt := some tk })
def w6 : State := cores id (fun c => { c with mode := .booting })
def w7 : State := cores id (fun c => { c with mode := .booting }) fun m => { m with owner := none, lastOwner := 1 }
def w8 : State := cores id (fun c => { c with mode := .syncing })
def w9 : State := mg fun m => { m with roleNext := tk }
def w10 : State := cores id (fun c => { c with mode := .booting }) fun m => { m with activation := some act }

theorem witness_FailuresInHeartbeatModeMoveTheOwner :
    (w1.mgmt.arbiterMode = false ∧ w1.mgmt.owner = some 0 ∧ (w1.core 0).mode = CoreMode.active ∧ w1.standbyCore = some 1 ∧ (w1.core 0).marked + 100000 ≤ w1.clock.tick ∧ (w1.core 0).beatLost[1] = false ∧ (∀ (k : Fin 2), k ≠ 1 → (w1.core 0).beatLost[k] = true) ∧ w1.mgmt.pathsDistrusted = false) :=
  by decide +kernel

theorem witness_InterlockAndItsArbiter :
    ((w2.core 0).mode ≠ CoreMode.off ∧ (w2.core 0).mode ≠ CoreMode.fault ∧ (w2.core 0).beatLost = Vector.replicate 2 false ∧ (w2.core 1).beatLost[0] = true ∧ w2.mgmt.owner = some 0 ∧ w2.standbyCore = some 1) ∧
    ((w3.mgmt.takeover).isSome = true ∧ w3.standbyCore = some 1 ∧ w3.mgmt.takeover.get!.at_ + 10000 ≤ w3.clock.tick ∧ w3.mgmt.takeover.get!.probed = true) ∧
    ((w4.mgmt.owner).isSome = true ∧ w4.standbyCore = none ∧ (w4.core w4.mgmt.owner.get!).failures = []) :=
  ⟨by decide +kernel, by decide +kernel, by decide +kernel⟩

theorem witness_ManagementCoresRestartAndSwap :
    ((w5.core 1).mode = CoreMode.fault ∧ ((w5.core 1).repowerAt).isSome = true ∧ (w5.core 1).repowerAt.get! ≤ w5.clock.tick ∧ (w5.core 1).unusable = false ∧ w5.mgmt.owner = some 0) ∧
    ((w6.core 1).mode = CoreMode.booting ∧ w6.mgmt.owner = some 0 ∧ w6.mgmt.activation = none) ∧
    ((w7.core 1).mode = CoreMode.booting ∧ w7.mgmt.owner = none ∧ w7.mgmt.lastOwner = 1) ∧
    ((w8.core 1).mode = CoreMode.syncing ∧ w8.mgmt.owner = some 0 ∧ w8.mgmt.activation = none) ∧
    (w9.mgmt.roleSwap = none ∧ w9.mgmt.roleNext ≤ w9.clock.tick ∧ w9.mgmt.owner = some 0 ∧ w9.standbyCore = some 1 ∧ w9.mgmt.activation = none ∧ w9.roleSwapWaits = false) ∧
    (w10.mgmt.activation = some act ∧ act.step = ActivationStep.otherNew ∧ act.started + 10 * second ≤ w10.clock.tick ∧ w10.mgmt.owner = some 0) :=
  ⟨by decide +kernel, by decide +kernel, by decide +kernel, by decide +kernel, by decide +kernel, by decide +kernel⟩

end S14

namespace S15
def tk := ready.clock.tick
def prt (p : PortNo) (f : Port → Port) : State := { ready with ports := ready.ports.set p (f ready.ports[p]) }
def upq (f : Port → Port) : State := prt 511 fun q => f { q with mode := .up, number := 5, position := 7 }
def line (w : BitVec 64) (n : Nat) : LineFrame :=
  { position := 7, levels := pam4Levels ((w ++ (BitVec.ofNat 64 n ^^^ BitVec.ofNat 64 (keystream 64))).setWidth 54400 <<< 54272), theta := 0 }
def exact_ := line faw 6
def missed := line (faw ^^^ 0xF) 6
def hit := line (faw ^^^ 0x7) 6
def key : LinkKey := { newLinkKey 0x1234 3 with highest := some 5 }
def sd (bad : Nat) : State := upq fun q => { q with winSymbols := bad, winBad := 0, sdSet := (1, 5), sdClear := (1, 6), slip := 0, sinceSlip := 4194304, rdiRx := true, defects := 0x40 }
def trained (m : PortMode) (r : Bool) : State := upq fun q => { q with mode := m, resuming := r, aligner := .sync, defects := 0, link := { q.link with rxSlots := q.link.rxSlots.set 0 (some key), txSlots := q.link.txSlots.set 0 (some key) }, trace := { q.trace with accepted := some (zeros 64) }, fastTrain := true, trainEvent := false, entered := tk - 4000000 }
def w1 : State := upq fun q => { q with candidates := [7] }
def w2 : State := upq id
def w3 : State := upq fun q => { q with aligner := .presync }
def w4 : State := upq fun q => { q with aligner := .presync }
def w5 : State := upq fun q => { q with aligner := .presync, confirms := 1 }
def w6 : State := upq fun q => { q with aligner := .sync, misses := 3 }
def w7 : State := upq fun q => { q with aligner := .sync, misses := 3 }
def w8 : State := sd 3566
def w9 : State := upq fun q => { q with slip := 1, sinceSlip := 4194303, aligner := .sync, trace := { q.trace with found := false, since := 256 }, defects := 0x04, tx := { q.tx with rdiHold := 0 } }
def w10 : State := upq fun q => { q with trace := { q.trace with found := true }, defects := 0, tx := { q.tx with rdi := true, rdiHold := 0 } }
def w11 : State := trained .training false
def w12 : State := { (prt 511 fun q => { q with mode := .training, fastTrain := true, entered := tk - 400000 }) with host := { ready.host with service := 1 } }

theorem witness_LineFramesAlignAPortAndAreOpened :
    (((ready.port 511).mode = PortMode.down ∨ (ready.port 511).has Defect.los = true)) ∧
    ((w1.port 511).mode ≠ PortMode.down ∧ (w1.port 511).has Defect.los = false ∧ (w1.port 511).aligner = AlignerMode.hunt ∧ fawExact exact_.bits = true ∧ (w1.port 511).candidates.contains exact_.position = true) ∧
    ((w2.port 511).mode ≠ PortMode.down ∧ (w2.port 511).has Defect.los = false ∧ (w2.port 511).aligner = AlignerMode.hunt ∧ fawExact exact_.bits = true ∧ (w2.port 511).candidates.contains exact_.position = false) ∧
    ((w3.port 511).mode ≠ PortMode.down ∧ (w3.port 511).has Defect.los = false ∧ (w3.port 511).aligner = AlignerMode.presync ∧ hit.position = (w3.port 511).position ∧ (fawExact hit.bits = false ∨ rawNumber hit.bits ≠ (w3.port 511).number + 1)) ∧
    ((w4.port 511).mode ≠ PortMode.down ∧ (w4.port 511).has Defect.los = false ∧ (w4.port 511).aligner = AlignerMode.presync ∧ exact_.position = (w4.port 511).position ∧ fawExact exact_.bits = true ∧ rawNumber exact_.bits = (w4.port 511).number + 1 ∧ (w4.port 511).confirms = 0) ∧
    ((w5.port 511).mode ≠ PortMode.down ∧ (w5.port 511).has Defect.los = false ∧ (w5.port 511).aligner = AlignerMode.presync ∧ exact_.position = (w5.port 511).position ∧ fawExact exact_.bits = true ∧ rawNumber exact_.bits = (w5.port 511).number + 1 ∧ (w5.port 511).confirms = 1) ∧
    ((w6.port 511).mode ≠ PortMode.down ∧ (w6.port 511).has Defect.los = false ∧ (w6.port 511).aligner = AlignerMode.sync ∧ missed.position = (w6.port 511).position ∧ fawHit missed.bits = false ∧ (w6.port 511).misses = 3) ∧
    ((w7.port 511).mode ≠ PortMode.down ∧ (w7.port 511).has Defect.los = false ∧ (w7.port 511).aligner = AlignerMode.sync ∧ hit.position = (w7.port 511).position ∧ fawHit hit.bits = true) :=
  ⟨by decide +kernel, by decide +kernel, by decide +kernel, by decide +kernel, by decide +kernel, by decide +kernel, by decide +kernel, by decide +kernel⟩

theorem witness_PortDefectsAndStatesFollowTheirTimers :
    ((ready.port 511).mode = PortMode.down ∧ (.lof  : Defect) ≠ Defect.los ∧ (.lof  : Defect) ≠ Defect.sd ∧ ((ready.port 511).slip ≠ 0 ∨ (ready.port 511).sinceSlip < 4194304) ∧ (ready.port 511).defects &&& 63 = 0 ∧ (ready.port 511).tx.rdiHold = 0 ∧ ((ready.port 511).aligner ≠ AlignerMode.sync ∨ (ready.port 511).has Defect.lop = true ∨ (ready.port 511).link.keyed = false ∨ (ready.port 511).has Defect.auth = true ∨ (ready.port 511).has Defect.role = true ∨ (ready.port 511).trace.accepted = none ∨ (ready.port 511).has Defect.tim = true) ∧ ((ready.port 511).mode ≠ PortMode.training ∨ ready.host.service ≠ 1)) ∧
    ((w8.port 511).mode ≠ PortMode.down ∧ (w8.port 511).slip = 0 ∧ 4194304 ≤ (w8.port 511).sinceSlip ∧ (.lof  : Defect) ≠ Defect.uls) ∧
    ((w9.port 511).mode ≠ PortMode.stopped ∧ (w9.port 511).aligner = AlignerMode.sync ∧ (w9.port 511).trace.found = false ∧ 256 ≤ (w9.port 511).trace.since ∧ (.lof  : Defect) ≠ Defect.tim ∧ ((w9.port 511).defects &&& 63 ≠ 0 ∨ (w9.port 511).tx.rdiHold ≠ 0)) ∧
    ((w10.port 511).trace.found = true) ∧
    (((w11.port 511).mode = PortMode.training ∨ (w11.port 511).mode = PortMode.stopped ∧ (w11.port 511).resuming = true) ∧ (w11.port 511).aligner = AlignerMode.sync ∧ (w11.port 511).has Defect.lop = false ∧ (w11.port 511).link.keyed = true ∧ (w11.port 511).has Defect.auth = false ∧ (w11.port 511).has Defect.role = false ∧ (w11.port 511).trace.accepted ≠ none ∧ (w11.port 511).has Defect.tim = false ∧ (w11.port 511).mode = PortMode.training ∧ (w11.port 511).trainEvent = false ∧ (w11.port 511).entered + 4000000 ≤ w11.clock.tick) ∧
    ((w12.port 511).mode = PortMode.training ∧ (w12.port 511).fastTrain = true ∧ w12.host.service = 1 ∧ (w12.port 511).entered + 400000 ≤ w12.clock.tick) :=
  ⟨by decide +kernel, by decide +kernel, by decide +kernel, by decide +kernel, by decide +kernel, by decide +kernel⟩

end S15

namespace S16
def grp (o : Bool) (f : ProtUnit → ProtUnit) : State := { ready with prot := { ready.prot with groups := ready.prot.groups.set 9 (some { (default : ProtGroup) with oneToN := o, protect := 5, working := [3, 4], unit := f .idle }) } }
def tk := ready.clock.tick
def con : Connection := { id := 7, kind := 1, source := default, protect := some default, dests := [] }
def pr (f : ProtUnit → ProtUnit) : State := { ready with map := { ready.map with active := { ready.map.active with list := [con] } }, prot := { ready.prot with pairUnits := [(3, .idle), (7, f .idle)] } }
def pl (f : Plane → Plane) (g : MapState → MapState := id) : State := { ready.setChan 3 (fun c => { c with window := [entryOf 0x98 .accepted 8] }) with map := g { ready.map with planes := ready.map.planes.set 2 (f ready.map.planes[2]) } }
def pc : CommandRef := ⟨3, 0x98⟩
def job (ch : Option MapCheck) (raw : Bool := false) : MapJob := { command := pc, raw := raw, data := none, base := 0, started := tk - 400000, checked := ch, settings := ready.ports.map (·.settings), protects := [] }
def sj (j : MapJob) (g : MapState → MapState := id) : State := { ready.setChan 3 (fun c => { c with window := [{ entryOf 0x98 .pending 272 with ticket := 5, jobState := 1 }] }) with map := g { ready.map with job := some j, shadowMode := .building } }
def badf : MapFailure := { status := .errConflict, reason := 3, offenders := [4], detail := 0 }
def th (m : PlaneMode) : MapState → MapState := fun x => { x with planes := Vector.replicate 4 { (default : Plane) with mode := m } }
def ms (m : ShadowMode) (g : MapState → MapState := id) : State := { ready.setChan 3 (fun c => { c with window := [{ entryOf 0x98 .pending 272 with ticket := 5, jobState := 1 }] }) with map := g { ready.map with shadowMode := m } }
def mf (a b : Bool) (s : State) : State := { s with mgmt := { s.mgmt with solverFailed := #v[a, b] } }
def fr := ready.clock.frame
def sw (f : BitVec 64) (p : Bool) (g : MapState → MapState := id) : State := { ready with map := g { ready.map with shadowMode := .scheduled, swap := some ⟨f, p, some pc, false⟩ } }
def lv (f : BitVec 64) (c : Option CommandRef) (st : Status := .accepted) (g : MapState → MapState := id) : State := { ready.setChan 3 (fun c => { c with window := [{ entryOf 0x98 st 16 with opcode := 0x0307 }] }) with map := g { ready.map with leaving := some ⟨f, true, c, false⟩ } }
def w1 : State := grp false fun u => { u with sf := u.sf.set 1 (some (tk - 20)), hold := u.hold.set 1 20 }
def w2 : State := grp true fun u => { u with sf := u.sf.set 2 (some (tk - 20)), hold := u.hold.set 2 20 }
def w3 : State := grp true fun u => { u with unanswered := 100000, selected := 1, bridged := 1, request := .sfW, member := 1 }
def w4 : State := pr fun u => { u with sf := u.sf.set 1 (some (tk - 20)), hold := u.hold.set 1 20 }
def w5 : ProtUnit := ((pr fun u => { u with sf := u.sf.set 1 (some (tk - 20)), hold := u.hold.set 1 20 }).prot.pairUnits[1]!).2
def w6 : State := pl fun p => { p with mode := .testing, passes := 65536, commands := [pc] }
def w7 : State := pl fun p => { p with mode := .testing, passes := 65536 }
def w8 : State := pl fun p => { p with mode := .testing, passes := 65535, commands := [pc] }
def w9 : State := pl fun p => { p with mode := .draining }
def w10 : State := pl (fun p => { p with mode := .draining }) fun m => { m with active := { m.active with plane := [(2*262144, 3)] } }
def w11 : State := sj (job (some (.list [] false [])))
def w12 : State := sj (job (some (.list [con] true []))) (th .off)
def w13 : State := sj (job (some (.bad badf)))
def w14 : State := sj (job (some (.bad badf)) true)
def w15 : State := sj (job (some (.raw { Bank.empty with generation := 3 })) true)
def w16 : Bank := { Bank.empty with generation := 3 }
def w17 : State := ms .held
def w18 : State := ms .mirroring
def w19 : State := ms .mirroring fun m => { m with queued := some (job none) }
def w20 : State := ms .mirroring fun m => { m with queued := some { job none with data := some (zeros 64) }, rerouteWanted := true }
def w21 : State := mf true false (sj (job none))
def w22 : State := mf true true (ms .mirror)
def w23 : State := sw (fr + 8) true
def w24 : State := sw (fr + 7) true
def w25 : State := sw (fr + 1) true
def w26 : State := lv (fr + 1) (some pc)
def w27 : State := lv fr (some pc)
def w28 : State := lv fr none

theorem witness_ProtectionTimersMoveTheSelection :
    ((w1.prot.groups[9]).isSome = true ∧ w1.prot.groups[9].get!.oneToN = false ∧ (w1.prot.groups[9].get!.unit.sf[1]).isSome = true ∧ w1.prot.groups[9].get!.unit.sf[1].get! + w1.prot.groups[9].get!.unit.hold[1] ≤ w1.clock.tick ∧ w1.prot.groups[9].get!.unit.sf[0] = none ∧ w1.prot.groups[9].get!.unit.lo = false ∧ w1.prot.groups[9].get!.unit.fs = none ∧ (w1.prot.groups[9].get!.unit.selected = 0 ∨ w1.prot.groups[9].get!.unit.selected = 1) ∧ w1.prot.groups[9].get!.unit.selected = 0 ∧ w1.prot.groups[9].get!.unit.unanswered < 100000) ∧
    ((w2.prot.groups[9]).isSome = true ∧ w2.prot.groups[9].get!.oneToN = true ∧ 2 ≤ w2.prot.groups[9].get!.working.length ∧ (w2.prot.groups[9].get!.unit.sf[2]).isSome = true ∧ w2.prot.groups[9].get!.unit.sf[2].get! + w2.prot.groups[9].get!.unit.hold[2] ≤ w2.clock.tick ∧ (∀ k : Fin 16, k < 2 → w2.prot.groups[9].get!.unit.sf[k] = none) ∧ w2.prot.groups[9].get!.unit.lo = false ∧ w2.prot.groups[9].get!.unit.fs = none ∧ w2.prot.groups[9].get!.unit.protFail = false ∧ w2.prot.groups[9].get!.unit.selected = 0 ∧ w2.prot.groups[9].get!.unit.bridged = 0 ∧ farRequest (w2.prot.groups[9].get!.unit.far.getD 0) = none) ∧
    ((w3.prot.groups[9]).isSome = true ∧ 100000 ≤ w3.prot.groups[9].get!.unit.unanswered ∧ w3.prot.groups[9].get!.oneToN = true) ∧
    ((List.find? (fun (y : Connection) => y.id == (7 : BitVec 32)) w4.map.active.list).isSome = true ∧ ((List.find? (fun (y : Connection) => y.id == (7 : BitVec 32)) w4.map.active.list).get!.protect).isSome = true ∧ List.find? (fun (y : BitVec 32 × ProtUnit) => y.1 == (7 : BitVec 32)) w4.prot.pairUnits = some ((7 : BitVec 32), w5) ∧ w5.lo = false ∧ w5.fs = none ∧ (w5.sf[1]).isSome = true ∧ w5.sf[1].get! + w5.hold[1] ≤ w4.clock.tick ∧ w5.sf[0] = none ∧ (w5.selected = 0 ∨ w5.selected = 1)) :=
  ⟨by decide +kernel, by decide +kernel, by decide +kernel, by decide +kernel⟩

theorem witness_PlanesMoveThroughTheirStates :
    (w6.map.planes[2].mode = PlaneMode.testing ∧ 65536 ≤ w6.map.planes[2].passes ∧ w6.map.planes[2].commands = [pc]) ∧
    (w7.map.planes[2].mode = PlaneMode.testing ∧ w7.map.planes[2].commands = [] ∧ 65536 ≤ w7.map.planes[2].passes) ∧
    (w8.map.planes[2].passes < 65536) ∧
    (w9.map.planes[2].mode = PlaneMode.draining ∧ w9.map.active.planesUsed.contains 2 = false ∧ (w9.map.shadowMode ≠ ShadowMode.scheduled ∧ w9.map.swap = none ∨ w9.map.shadow.planesUsed.contains 2 = false) ∧ w9.map.planes[2].commands = [] ∧ w9.pwr.waiting = [] ∧ w9.pwr.running = none ∧ w9.pwr.modes[planeDomain 2] = DomainMode.on) ∧
    (w10.map.active.planesUsed.contains 2 = true) ∧
    ((⟨true, some 2, true⟩  : BankError).correctable = true ∧ (⟨true, some 2, true⟩  : BankError).plane = some 2 ∧ (⟨true, some 2, false⟩  : BankError).correctable = false ∧ (⟨true, some 2, false⟩  : BankError).active = true ∧ (⟨true, some 2, false⟩  : BankError).plane = some 2) :=
  ⟨by decide +kernel, by decide +kernel, by decide +kernel, by decide +kernel, by decide +kernel, by decide +kernel⟩

theorem witness_MapJobsEndAsTheSolverAnswers :
    (w11.map.shadowMode = ShadowMode.building ∧ (w11.map.job).isSome = true ∧ w11.solversFailed = false ∧ w11.noScratch = false ∧ w11.map.job.get!.checked = some (MapCheck.list ([] : List Connection) false ([] : List (BitVec 32))) ∧ (w11.jobQuestion w11.map.job.get! ([] : List Connection) false ([] : List (BitVec 32))).row.2 = false ∧ w11.mgmt.solverFailed[1 - 0] = false ∧ w11.map.job ≠ none) ∧
    (w12.map.shadowMode = ShadowMode.building ∧ (w12.map.job).isSome = true ∧ w12.solversFailed = false ∧ w12.noScratch = false ∧ w12.map.job.get!.checked = some (MapCheck.list ([con] : List Connection) true ([] : List (BitVec 32))) ∧ w12.map.job.get!.raw = false ∧ (w12.jobQuestion w12.map.job.get! ([con] : List Connection) true ([] : List (BitVec 32))).row = (400000, true) ∧ w12.map.solverDoubled = false ∧ w12.map.job.get!.started + 400000 ≤ w12.clock.tick) ∧
    (w13.map.shadowMode = ShadowMode.building ∧ (w13.map.job).isSome = true ∧ w13.solversFailed = false ∧ w13.noScratch = false ∧ w13.map.job.get!.raw = false ∧ w13.map.job.get!.checked = some (MapCheck.bad badf)) ∧
    (w14.map.shadowMode = ShadowMode.building ∧ (w14.map.job).isSome = true ∧ w14.solversFailed = false ∧ w14.noScratch = false ∧ w14.map.job.get!.raw = true ∧ w14.map.job.get!.checked = some (MapCheck.bad badf)) ∧
    (w15.map.shadowMode = ShadowMode.building ∧ (w15.map.job).isSome = true ∧ w15.solversFailed = false ∧ w15.noScratch = false ∧ w15.map.job.get!.checked = some (MapCheck.raw w16)) ∧
    (w17.map.shadowMode = ShadowMode.held ∧ w17.map.swap = none ∧ w17.casc.staged = none ∧ w17.casc.mode = CascadeMode.standalone ∧ w17.solversFailed = false ∧ w17.noScratch = false) ∧
    (w18.map.shadowMode = ShadowMode.mirroring ∧ (w18.map.rerouteWanted && w18.host.service == 2) = false ∧ w18.map.queued = none) ∧
    (w19.map.shadowMode = ShadowMode.mirroring ∧ (w19.map.rerouteWanted && w19.host.service == 2) = false ∧ (w19.map.queued).isSome = true) ∧
    (w20.map.shadowMode = ShadowMode.mirroring ∧ w20.map.rerouteWanted = true ∧ w20.host.service = 2) ∧
    ((w21.map.job).isSome = true ∧ w21.mgmt.solverFailed[1 - 1] = true) ∧
    (w22.mgmt.solverFailed[0] = true ∧ w22.map.job = none) :=
  ⟨by decide +kernel, by decide +kernel, by decide +kernel, by decide +kernel, by decide +kernel, by decide +kernel, by decide +kernel, by decide +kernel, by decide +kernel, by decide +kernel, by decide +kernel⟩

theorem witness_SwapsExchangeTheBanks :
    ((w23.map.swap).isSome = true ∧ w23.clock.frame + 7 < w23.map.swap.get!.frame ∧ w23.clock.frame + 1 < w23.map.swap.get!.frame ∧ w23.map.persisting = none) ∧
    ((w24.map.swap).isSome = true ∧ w24.map.swap.get!.frame ≤ w24.clock.frame + 7) ∧
    ((w25.map.swap).isSome = true ∧ w25.map.swap.get!.frame ≤ w25.clock.frame + 1) ∧
    ((w26.map.leaving).isSome = true ∧ w26.casc.staged = none ∧ w26.clock.frame < w26.map.leaving.get!.frame ∧ w26.map.swap = none) ∧
    ((w27.map.leaving).isSome = true ∧ w27.casc.staged = none ∧ w27.map.leaving.get!.frame ≤ w27.clock.frame ∧ (w27.map.leaving.get!.command).isSome = true) ∧
    ((w28.map.leaving).isSome = true ∧ w28.casc.staged = none ∧ w28.map.leaving.get!.frame ≤ w28.clock.frame ∧ w28.map.leaving.get!.command = none) :=
  ⟨by decide +kernel, by decide +kernel, by decide +kernel, by decide +kernel, by decide +kernel, by decide +kernel⟩

end S16

namespace S160
def grp (o : Bool) (f : ProtUnit → ProtUnit) : State := { ready with prot := { ready.prot with groups := ready.prot.groups.set 9 (some { (default : ProtGroup) with oneToN := o, protect := 5, working := [3, 4], unit := f .idle }) } }
def tk := ready.clock.tick
def con : Connection := { id := 7, kind := 1, source := default, protect := some default, dests := [] }
def pr (f : ProtUnit → ProtUnit) : State := { ready with map := { ready.map with active := { ready.map.active with list := [con] } }, prot := { ready.prot with pairUnits := [(3, .idle), (7, f .idle)] } }
def pc : CommandRef := ⟨3, 0x98⟩
def job (ch : Option MapCheck) (raw : Bool := false) : MapJob := { command := pc, raw := raw, data := none, base := 0, started := tk - 400000, checked := ch, settings := ready.ports.map (·.settings), protects := [] }
def sj (j : MapJob) (g : MapState → MapState := id) : State := { ready.setChan 3 (fun c => { c with window := [{ entryOf 0x98 .pending 272 with ticket := 5, jobState := 1 }] }) with map := g { ready.map with job := some j, shadowMode := .building } }
def ms (m : ShadowMode) (g : MapState → MapState := id) : State := { ready.setChan 3 (fun c => { c with window := [{ entryOf 0x98 .pending 272 with ticket := 5, jobState := 1 }] }) with map := g { ready.map with shadowMode := m } }
def mf (a b : Bool) (s : State) : State := { s with mgmt := { s.mgmt with solverFailed := #v[a, b] } }
def fr := ready.clock.frame
def sw (f : BitVec 64) (p : Bool) (g : MapState → MapState := id) : State := { ready with map := g { ready.map with shadowMode := .scheduled, swap := some ⟨f, p, some pc, false⟩ } }
def lv (f : BitVec 64) (c : Option CommandRef) (st : Status := .accepted) (g : MapState → MapState := id) : State := { ready.setChan 3 (fun c => { c with window := [{ entryOf 0x98 st 16 with opcode := 0x0307 }] }) with map := g { ready.map with leaving := some ⟨f, true, c, false⟩ } }
def pg (e : TokenEntry) (ws : List (CommandRef × BitVec 64)) : State := { ready.setChan 3 (fun c => { c with window := [e] }) with map := { ready.map with persisting := some { Bank.empty with generation := 3 }, persistWaits := ws } }
def e9 := { entryOf 0x98 .accepted 8 with opcode := 0x0309 }
def e7 := { entryOf 0x98 .ok 8 with opcode := 0x0307, persist := true }
def w1 : State := grp false fun u => { u with selected := 1, wtr := some (1, tk) }
def w2 : State := grp false fun u => { u with selected := 1, wtr := some (1, tk+1) }
def w3 : State := pr fun u => { u with sf := u.sf.set 1 (some (tk - 20)), hold := u.hold.set 1 20 }
def w4 : ProtUnit := ((pr fun u => { u with sf := u.sf.set 1 (some (tk - 20)), hold := u.hold.set 1 20 }).prot.pairUnits[1]!).2
def w5 : State := pr fun u => { u with selected := 1, wtr := some (1, tk) }
def w6 : ProtUnit := ((pr fun u => { u with selected := 1, wtr := some (1, tk) }).prot.pairUnits[1]!).2
def w7 : State := ms .mirroring fun m => { m with queued := some (job none) }
def w8 : State := ms .mirroring fun m => { m with queued := some { job none with data := some (zeros 64) }, rerouteWanted := true }
def w9 : State := mf true false (sj (job none))
def w10 : State := mf true true (ms .mirror)
def w11 : State := sw (fr + 8) true
def w12 : State := sw (fr + 7) true
def w13 : State := sw (fr + 1) true
def w14 : State := sw (fr) true fun m => { m with persisting := some { Bank.empty with generation := 3 } }
def w15 : State := lv (fr + 1) (some pc)
def w16 : State := lv fr (some pc)
def w17 : State := lv fr none
def w18 : State := pg e9 [(pc, 3)]
def w19 : State := pg e7 [(pc, 3)]

theorem witness_ProtectionTimersMoveTheSelection_2 :
    ((w1.prot.groups[9]).isSome = true ∧ w1.prot.groups[9].get!.oneToN = false ∧ w1.prot.groups[9].get!.unit.wtr = some (1, tk) ∧ tk ≤ w1.clock.tick ∧ (∀ (k : Fin 16), w1.prot.groups[9].get!.unit.sf[k] = none ∧ w1.prot.groups[9].get!.unit.sd[k] = none) ∧ w1.prot.groups[9].get!.unit.selected = 1 ∧ w1.prot.groups[9].get!.unit.lo = false ∧ w1.prot.groups[9].get!.unit.fs = none ∧ w1.prot.groups[9].get!.unit.ms = none ∧ w1.prot.groups[9].get!.unit.dnr = none ∧ w1.prot.groups[9].get!.unit.unanswered < 100000) ∧
    ((w2.prot.groups[9]).isSome = true ∧ w2.prot.groups[9].get!.unit.wtr = some (1, (tk+1 : ℕ)) ∧ w2.clock.tick < (tk+1 : ℕ)) ∧
    (List.find? (fun (y : Connection) => y.id == (7 : BitVec 32)) w3.map.active.list = some con ∧ con.protect = some default ∧ List.find? (fun (y : BitVec 32 × ProtUnit) => y.1 == (7 : BitVec 32)) w3.prot.pairUnits = some ((7 : BitVec 32), w4) ∧ w4.lo = false ∧ w4.fs = none ∧ (w4.sf[1]).isSome = true ∧ w4.sf[1].get! + w4.hold[1] ≤ w3.clock.tick ∧ w4.sf[0] = none ∧ (w4.selected = 0 ∨ w4.selected = 1)) ∧
    (List.find? (fun (y : Connection) => y.id == (7 : BitVec 32)) w5.map.active.list = some con ∧ con.protect = some default ∧ List.find? (fun (y : BitVec 32 × ProtUnit) => y.1 == (7 : BitVec 32)) w5.prot.pairUnits = some ((7 : BitVec 32), w6) ∧ w6.lo = false ∧ w6.fs = none ∧ w6.wtr = some (1, tk) ∧ tk ≤ w5.clock.tick ∧ (∀ (k : Fin 16), w6.sf[k] = none ∧ w6.sd[k] = none) ∧ w6.selected = 1 ∧ w6.ms = none ∧ w6.dnr = none) :=
  ⟨by decide +kernel, by decide +kernel, by decide +kernel, by decide +kernel⟩

theorem witness_MapJobsEndAsTheSolverAnswers_2 :
    (w7.map.shadowMode = ShadowMode.mirroring ∧ (w7.map.rerouteWanted && w7.host.service == 2) = false ∧ (w7.map.queued).isSome = true) ∧
    (w8.map.shadowMode = ShadowMode.mirroring ∧ w8.map.rerouteWanted = true ∧ w8.host.service = 2) ∧
    ((w9.map.job).isSome = true ∧ w9.mgmt.solverFailed[1 - 1] = true ∧ w9.mgmt.solverFailed[1 - 0] = false ∧ w9.map.job ≠ none) ∧
    (w10.mgmt.solverFailed[0] = true ∧ w10.map.job = none) :=
  ⟨by decide +kernel, by decide +kernel, by decide +kernel, by decide +kernel⟩

theorem witness_SwapsExchangeTheBanks_2 :
    ((w11.map.swap).isSome = true ∧ w11.clock.frame + 7 < w11.map.swap.get!.frame ∧ w11.clock.frame + 1 < w11.map.swap.get!.frame ∧ w11.map.persisting = none) ∧
    ((w12.map.swap).isSome = true ∧ w12.map.swap.get!.frame ≤ w12.clock.frame + 7) ∧
    ((w13.map.swap).isSome = true ∧ w13.map.swap.get!.frame ≤ w13.clock.frame + 1) ∧
    ((w14.map.persisting).isSome = true ∧ w14.map.persistWaits = []) ∧
    ((w15.map.leaving).isSome = true ∧ w15.casc.staged = none ∧ w15.clock.frame < w15.map.leaving.get!.frame ∧ w15.map.swap = none) ∧
    ((w16.map.leaving).isSome = true ∧ w16.casc.staged = none ∧ w16.map.leaving.get!.frame ≤ w16.clock.frame ∧ (w16.map.leaving.get!.command).isSome = true) ∧
    ((w17.map.leaving).isSome = true ∧ w17.casc.staged = none ∧ w17.map.leaving.get!.frame ≤ w17.clock.frame ∧ w17.map.leaving.get!.command = none) ∧
    ((w18.map.persisting).isSome = true ∧ w18.map.persistWaits = [(pc, w18.map.persisting.get!.generation)] ∧ (w18.chan pc.channel).recorded pc.token = some e9 ∧ e9.opcode = 777 ∧ e9.persist = false) ∧
    ((w19.map.persisting).isSome = true ∧ w19.map.persistWaits = [(pc, w19.map.persisting.get!.generation)] ∧ (w19.chan pc.channel).recorded pc.token = some e7 ∧ e7.opcode ≠ 777 ∧ e7.persist = true ∧ e7.status = Status.ok) :=
  ⟨by decide +kernel, by decide +kernel, by decide +kernel, by decide +kernel, by decide +kernel, by decide +kernel, by decide +kernel, by decide +kernel, by decide +kernel⟩

end S160

namespace S17
def fr := ready.clock.frame
def tk := ready.clock.tick
def pc : CommandRef := ⟨3, 0x98⟩
def emb (e : TokenEntry) (f : EmberState → EmberState) : State := { ready.setChan 3 (fun c => { c with window := [e] }) with ember := f ready.ember }
def fm : Vector (Vector (Fin 7) 256) 512 := ready.ports.map (fun q => q.settings.inFormats)
def ld (bs : List Byte) := emb (entryOf 0x98 .accepted 0) fun x => { x with load := some { command := pc, formats := fm, data := some bs }, shadowMode := .loading }
def good : List Byte := RecipeSet.bytes ⟨[], []⟩
def swp (f : BitVec 64) (p : Bool) := emb (entryOf 0x98 .accepted 16) fun x => { x with shadow := some ⟨[(3, default)], []⟩, shadowMode := .scheduled, swap := some ⟨f, p, pc⟩ }
def ep := { entryOf 0x98 .ok 16 with persist := true }
def per := emb ep fun x => { x with persistWaits := [⟨pc, ⟨[(3, default)], []⟩, 4⟩, ⟨⟨3, 3⟩, ⟨[(3, default)], []⟩, 4⟩] }
def st : Stage := { kind := .power, compare := .above, avg := 0, lo := 0, hi := 0x3F800000, level := 0, hold := 0 }
def rec_ (m d : Bool) : Recipe := { quarter := false, moments := m, derived := d, tag := 5, dwell := 16, report := 1, shift := 0, stages := [st] }
def mo : Moments := { (default : Moments) with sumP := 1000000, used := 4, samples := 4 }
def cd : ClosedDwell := { moments := mo, last := fr - 5, partialDwell := false, noDwell := false, endsInterval := true, intervalFirst := fr - 20, partialInterval := false }
def un : UnitState := { (default : UnitState) with unit := 12, recipe := 3, closed := [cd], baselines := [none], quiet := [0] }
def eng (f : Engine → Engine) (m d : Bool := true) : State := emb (entryOf 9) fun x => { x with engines := x.engines.set 700 (f x.engines[700]), active := ⟨[(3, rec_ m d)], []⟩ }
def sp (n : Nat) : Spark := { (default : Spark) with frame := fr - 3, unit := Fin.ofNat 1024 n }
def off (s : State) : State := { s with pwr := { s.pwr with modes := Vector.replicate 56 .off } }
def eu (n : Nat) := eng fun g => { g with units := [un], fifo := (List.range n).map sp }
def di : DoneInterval := { sums := { sums := mo, evaluated := 1, sparks := 1, above := [1], format := true }, first := fr - 20, last := fr - 5, partialInterval := false }
def ud : UnitState := { un with closed := [], done := [di] }
def ei (m d : Bool) := eng (fun g => { g with units := [ud], sequence := 77, lost := 3 }) m d
def td : TinderDwell := { first := fr - 20, last := fr - 1, sums := [⟨4, 1, mo⟩], absent := 0, partialDwell := false, untraceable := false }
def rb (n a : Nat) : RecordBuffer := { command := pc, length := 30000, filled := zeros (n*5), records := n, firstAt := a }
def bf (b : RecordBuffer) := emb (entryOf 0x98 .accepted 8) fun x => { x with buffers := [b] }
def cl (r : Option CommandRef) := emb (entryOf 0x98 .accepted 8) fun x => { x with clusters := x.clusters.set 5 { x.clusters[5] with mode := .loading, restart := r } }
def ch : ChannelEntry := { (default : ChannelEntry) with spark := true, stageMask := 255, portMask := BitVec.allOnes 512, settle := 4 }
def spx (f : BitVec 64) : Spark := { (default : Spark) with frame := f, mask := 1 }
def arr (m : TriggerMode) (f : BitVec 64) (col : Bool) : State :=
  let s := eng fun g => if col then { g with collected := [spx f, spx 2], fifo := [spx 3] } else { g with fifo := [spx f, spx 3] }
  { s with cap := { s.cap with active := { s.cap.active with channels := [(5, ch)] }, channels := s.cap.channels.set 5 { s.cap.channels[5] with mode := m, decided := none } } }
def w1 : State := ld good
def w2 : State := ld (zeros 3)
def w3 : State := swp fr true
def w4 : State := swp (fr+1) false
def w5 : List RecipePersist := per.ember.persistWaits.drop 1
def w6 : State := eu 0
def w7 : State := eu 3
def w8 : State := off (eu 3)
def w9 : State := off (eu 16)
def w10 : List Spark := ((List.range 16).map sp).tail
def w11 : State := ei true true
def w12 : State := ei false false
def w13 : State := eng fun g => { g with tinderDone := [td] }
def w14 : State := bf (rb 2 (tk - 20000))
def w15 : State := bf (rb 2 (tk - 19999))
def w16 : State := eng fun g => { g with units := [un, ud], tinderDone := [td], fifo := [sp 4] }
def w17 : State := eng fun g => { g with out := true }
def w18 : State := cl (some pc)
def w19 : State := arr .disarmed (fr-3) true
def w20 : Engine := ((arr .disarmed (fr-3) true).ember.engines[700]).nextSpark.get!.2
def w21 : State := arr .armed (fr-3) false
def w22 : Engine := ((arr .armed (fr-3) false).ember.engines[700]).nextSpark.get!.2
def w23 : State := arr .armed (fr-5) false
def w24 : Engine := ((arr .armed (fr-5) false).ember.engines[700]).nextSpark.get!.2

theorem witness_RecipeBankEventsFollowTheirRules :
    ((w1.ember.load).isSome = true ∧ (w1.ember.load.get!.data).isSome = true ∧ w1.ember.persistWaits = []) ∧
    ((w2.ember.load).isSome = true ∧ (w2.ember.load.get!.data).isSome = true ∧ checkRecipeSet w2.ember.load.get!.data.get! w2.ember.load.get!.formats = Except.error (⟨.errLength, detailList⟩ : BankRefusal)) ∧
    (w3.ember.load = none ∧ (w3.ember.swap).isSome = true ∧ (w3.ember.shadow).isSome = true ∧ w3.ember.swap.get!.frame ≤ w3.clock.frame) ∧
    ((w4.ember.swap).isSome = true ∧ (w4.ember.shadow).isSome = true ∧ w4.clock.frame < w4.ember.swap.get!.frame) ∧
    (per.ember.persistWaits = (per.ember.persistWaits[0]! : RecipePersist) :: w5 ∧ (per.chan (per.ember.persistWaits[0]! : RecipePersist).command.channel).recorded (per.ember.persistWaits[0]! : RecipePersist).command.token = some ep ∧ ep.persist = true ∧ ep.status = Status.ok) :=
  ⟨by decide +kernel, by decide +kernel, by decide +kernel, by decide +kernel, by decide +kernel⟩

theorem witness_EmberEnginesMeasureAndReport :
    (w6.ember.engines[700].units = [un] ∧ un.closed = cd :: ([] : List ClosedDwell) ∧ (w6.ember.active.recipe un.recipe).isSome = true ∧ ((UnitState.process (enginePort 700) (w6.ember.active.recipe un.recipe).get! (w6.port (enginePort 700)).settings.inFormats[(⟨un.unit.val / 4, by decide⟩ : Fin 4)] un).2).isSome = true ∧ w6.ember.engines[700].fifo = [] ∧ w6.ember.engines[700].tinderDone = [] ∧ w6.ember.buffers = []) ∧
    (w7.ember.engines[700].units = [un] ∧ un.closed = cd :: ([] : List ClosedDwell) ∧ (w7.ember.active.recipe un.recipe).isSome = true ∧ ((UnitState.process (enginePort 700) (w7.ember.active.recipe un.recipe).get! (w7.port (enginePort 700)).settings.inFormats[(⟨un.unit.val / 4, by decide⟩ : Fin 4)] un).2).isSome = true ∧ w7.ember.engines[700].fifo = (sp 0 : Spark) :: ([sp 1, sp 2] : List Spark) ∧ w7.pwr.modes[clusterDomain (engineCluster 700)] = DomainMode.on) ∧
    (w8.ember.engines[700].units = [un] ∧ un.closed = cd :: ([] : List ClosedDwell) ∧ (w8.ember.active.recipe un.recipe).isSome = true ∧ ((UnitState.process (enginePort 700) (w8.ember.active.recipe un.recipe).get! (w8.port (enginePort 700)).settings.inFormats[(⟨un.unit.val / 4, by decide⟩ : Fin 4)] un).2).isSome = true ∧ w8.ember.engines[700].fifo = (sp 0 : Spark) :: ([sp 1, sp 2] : List Spark) ∧ w8.pwr.modes[clusterDomain (engineCluster 700)] ≠ DomainMode.on ∧ w8.ember.engines[700].fifo.length < 16) ∧
    (w9.ember.engines[700].units = [un] ∧ un.closed = cd :: ([] : List ClosedDwell) ∧ (w9.ember.active.recipe un.recipe).isSome = true ∧ ((UnitState.process (enginePort 700) (w9.ember.active.recipe un.recipe).get! (w9.port (enginePort 700)).settings.inFormats[(⟨un.unit.val / 4, by decide⟩ : Fin 4)] un).2).isSome = true ∧ w9.ember.engines[700].fifo = (sp 0 : Spark) :: w10 ∧ w9.pwr.modes[clusterDomain (engineCluster 700)] ≠ DomainMode.on ∧ 16 ≤ w9.ember.engines[700].fifo.length) ∧
    (ready.ember.engines[700].units = []) ∧
    (w11.ember.active.recipes = [(3, (rec_ true true : Recipe))] ∧ w11.ember.engines[700].units = [ud] ∧ ud.recipe = 3 ∧ ud.done = [di] ∧ w11.ember.staging = [] ∧ w11.ember.buffers = [] ∧ ((rec_ true true : Recipe).moments = true ∨ (rec_ true true : Recipe).derived = true)) ∧
    (w12.ember.active.recipes = [(3, (rec_ false false : Recipe))] ∧ w12.ember.engines[700].units = [ud] ∧ ud.recipe = 3 ∧ ud.done = [di] ∧ w12.ember.staging = [] ∧ w12.ember.buffers = [] ∧ (rec_ false false : Recipe).moments = false ∧ (rec_ false false : Recipe).derived = false) ∧
    (w13.ember.engines[700].tinderDone = td :: ([] : List TinderDwell) ∧ td.sums ≠ [] ∧ w13.ember.staging = [] ∧ w13.ember.buffers = []) ∧
    (w14.ember.buffers = [(rb 2 (tk - 20000) : RecordBuffer)] ∧ w14.ember.staging = [] ∧ 0 < (rb 2 (tk - 20000) : RecordBuffer).records ∧ (rb 2 (tk - 20000) : RecordBuffer).firstAt + 20000 ≤ w14.clock.tick) ∧
    (w15.ember.buffers = [(rb 2 (tk - 19999) : RecordBuffer)] ∧ w15.ember.staging = [] ∧ ((rb 2 (tk - 19999) : RecordBuffer).records = 0 ∨ w15.clock.tick < (rb 2 (tk - 19999) : RecordBuffer).firstAt + 20000)) :=
  ⟨by decide +kernel, by decide +kernel, by decide +kernel, by decide +kernel, by decide +kernel, by decide +kernel, by decide +kernel, by decide +kernel, by decide +kernel, by decide +kernel⟩

theorem witness_EnginesFaultAndSparksArrive :
    (w16.ember.engines[700].out = false ∧ (w16.ember.engines[700].out = false ∨ w16.spareEngine (engineCluster 700) = none) ∧ w16.ember.clusters[5].mode ≠ ClusterMode.loading) ∧
    (w17.ember.engines[700].out = true ∧ (w17.spareEngine (engineCluster 700)).isSome = true ∧ w17.ember.engines[700].fifo = [] ∧ w17.ember.engines[700].collected = []) ∧
    (w18.ember.clusters[5].mode = ClusterMode.loading ∧ (w18.ember.clusters[5].restart).isSome = true) ∧
    (w19.ember.engines[700].nextSpark = some ((spx (fr-3) : Spark), w20) ∧ w19.cap.active.channels = [(5, ch)] ∧ ch.matches (spx (fr-3) : Spark) = true ∧ w19.ember.engines[700].collected = (spx (fr-3) : Spark) :: ([spx 2] : List Spark) ∧ w19.cap.channels[5].mode = TriggerMode.disarmed) ∧
    (w21.ember.engines[700].nextSpark = some ((spx (fr-3) : Spark), w22) ∧ w21.cap.active.channels = [(5, ch)] ∧ ch.matches (spx (fr-3) : Spark) = true ∧ w21.ember.engines[700].collected = [] ∧ w21.ember.engines[700].fifo = (spx (fr-3) : Spark) :: ([spx 3] : List Spark) ∧ w21.cap.channels[5].mode ≠ TriggerMode.disarmed ∧ w21.cap.channels[5].decided = none ∧ w21.clock.frame.toNat < (spx (fr-3) : Spark).frame.toNat + 1 + ch.settle) ∧
    (w23.ember.engines[700].nextSpark = some ((spx (fr-5) : Spark), w24) ∧ w23.cap.active.channels = [(5, ch)] ∧ ch.matches (spx (fr-5) : Spark) = true ∧ w23.cap.channels[5].mode ≠ TriggerMode.disarmed ∧ (spx (fr-5) : Spark).frame.toNat + 1 + ch.settle ≤ w23.clock.frame.toNat) :=
  ⟨by decide +kernel, by decide +kernel, by decide +kernel, by decide +kernel, by decide +kernel, by decide +kernel⟩

end S17

namespace S18
def fr := ready.clock.frame
def tk := ready.clock.tick
def pc : CommandRef := ⟨3, 0x98⟩
def cap (e : TokenEntry) (f : CaptureState → CaptureState) : State := { ready.setChan 3 (fun c => { c with window := [e] }) with cap := f ready.cap }
def ch : ChannelEntry := { (default : ChannelEntry) with spark := true, host := true, pin := true, pinMask := 4, stageMask := 255, portMask := BitVec.allOnes 512, settle := 4, k := 1, window := 1, pre := 2, post := 3, rearm := 5 }
def bnk (c : List (Fin 64 × ChannelEntry)) : TriggerBank := { ringGib := 1, channels := c, set := [(1,2)] }
def tl (bs : List Byte) : TriggerLoad := { command := pc, formats := ready.ports.map (fun q => q.settings.inFormats), declared := [0], data := some bs }
def lds (bs : List Byte) := cap (entryOf 0x98 .accepted 0) fun x => { x with load := some (tl bs), shadowMode := .loading }
def gb : List Byte := TriggerBank.bytes { ringGib := 1, channels := [], set := [] }
def swp (f : BitVec 64) (p same : Bool) (g : CaptureState → CaptureState := id) := cap (entryOf 0x98 .accepted 16) fun x => g { x with active := bnk [(5, ch), (9, ch)], ring := [default], shadow := some { bnk [(5, ch), (9, { ch with k := 2 }), (11, ch)] with ringGib := if same then 1 else 2 }, shadowMode := .scheduled, swap := some ⟨f, p, pc⟩, channels := (x.channels.set 9 { x.channels[9] with mode := .armed, history := [default], decided := some fr }).set 5 { x.channels[5] with mode := .rearm, history := [default], decided := some fr} }
def ep := { entryOf 0x98 .ok 16 with persist := true }
def per := cap ep fun x => { x with persistWaits := [⟨pc, bnk [], 4⟩], channels := x.channels.set 9 { x.channels[9] with mode := .armed } }
def tr (m : TriggerMode) (f : TriggerChannel → TriggerChannel) (c : ChannelEntry := ch) : State := cap (entryOf 0x98 .accepted 24) fun x => { x with ringOn := true, ringStart := fr - 1000, active := bnk [(5, c)], channels := x.channels.set 5 (f { x.channels[5] with mode := m }), namespaces := x.namespaces.set 0 { x.namespaces[0] with mode := .ok, mirror := false, members := [(2, 0)], extent := 134217728 * 1024 }, drives := { x.drives with entries := [{ (default : DriveEntry) with drive := 2 }] } }
def ch2 : ChannelEntry := { ch with k := 2 }
def sp (f : BitVec 64) : Spark := { (default : Spark) with frame := f }
def spk (f d : BitVec 64) : State := tr .armed (fun c => { c with history := [sp f], decided := some d }) ch2
def ht (d : BitVec 64) : HostTrigger := ⟨pc, d - 2, d⟩
def wt : Trigger := ⟨fr - 2, .host pc, 4, []⟩
def pn (f : BitVec 64) (cr : List (BitVec 64 × Option Nat) := []) (c := ch) := tr .armed (fun x => { x with pins := [(f, 2), (f+1, 2)], created := cr }) c
def gp (n : Fin 32) (f : PinFunction) (s : State) : State := { s with gpio := s.gpio.set n { s.gpio[n] with function := f } }
def w1 : State := lds gb
def w2 : TriggerBank := (match checkTriggerBank (lds gb) (tl gb) gb with | .ok b => b | .error _ => default)
def w3 : State := lds (zeros 4)
def w4 : BankRefusal := (match checkTriggerBank (lds (zeros 4)) (tl (zeros 4)) (zeros 4) with | .ok _ => default | .error f => f)
def w5 : State := swp fr true true
def w6 : State := swp fr false false
def w7 : State := swp (fr+1) false false
def w8 : State := spk (fr - 5) (fr - 6)
def w9 : State := spk (fr - 4) (fr - 5)
def w10 : State := tr .armed fun c => { c with host := some (ht fr) }
def w11 : State := tr .armed fun c => { c with host := some (ht (fr+1)) }
def w12 : State := tr .rearm fun c => { c with host := some (ht fr), rearmEnd := fr + 4 }
def w13 : State := tr .rearm fun c => { c with rearmEnd := fr }
def w14 : State := tr .rearm fun c => { c with rearmEnd := fr, waiting := some wt }
def w15 : State := pn (fr - 2)
def w16 : State := pn (fr - 2) [(fr - 2, none)]
def w17 : State := pn (fr - 1)
def w18 : State := pn (fr - 2) [] { ch with pin := false }
def w19 : ChannelEntry := { ch with pin := false }
def w20 : State := gp 2 .trigIn (tr .armed id)
def w21 : State := gp 11 .trigOut (tr .rearm fun c => { c with pulseAt := some (tk, 3), rearmEnd := fr + 1 })

theorem witness_TriggerBankEventsFollowTheirRules :
    (w1.cap.persistWaits = [] ∧ w1.cap.load = some (tl gb : TriggerLoad) ∧ (tl gb : TriggerLoad).data = some gb) ∧
    (((tl (zeros 4) : TriggerLoad).data = some (zeros 4 : List Byte) ∧ checkTriggerBank w3 (tl (zeros 4) : TriggerLoad) (zeros 4 : List Byte) = Except.error w4) ∧ w3.cap.load = some (tl (zeros 4) : TriggerLoad)) ∧
    (w5.cap.load = none ∧ (w5.cap.swap).isSome = true ∧ (w5.cap.shadow).isSome = true ∧ w5.cap.swap.get!.frame ≤ w5.clock.frame ∧ (∀ (k : Fin 64), w5.cap.channels[k].host = none ∧ w5.cap.channels[k].waiting = none ∧ (w5.cap.channels[k].pins.all fun (x : BitVec 64 × Fin 8) => decide (w5.cap.swap.get!.frame.toNat ≤ x.1.toNat + 2)) = true ∧ w5.cap.swap.get!.frame.toNat ≤ (Option.map (fun (f : BitVec 64) => f.toNat + 1 + (Option.map (fun (x : ChannelEntry) => x.settle) (w5.cap.active.channel k)).getD 0) w5.cap.channels[k].nextFrame).getD w5.cap.swap.get!.frame.toNat) ∧ w5.cap.active.channel 5 = w5.cap.shadow.get!.channel 5 ∧ w5.cap.active.channel 9 ≠ w5.cap.shadow.get!.channel 9 ∧ w5.cap.active.set = w5.cap.shadow.get!.set ∧ w5.cap.active.ringGib = w5.cap.shadow.get!.ringGib) ∧
    ((w6.cap.swap).isSome = true ∧ (w6.cap.shadow).isSome = true ∧ w6.cap.swap.get!.frame ≤ w6.clock.frame ∧ (∀ (k : Fin 64), w6.cap.channels[k].host = none ∧ w6.cap.channels[k].waiting = none ∧ (w6.cap.channels[k].pins.all fun (x : BitVec 64 × Fin 8) => decide (w6.cap.swap.get!.frame.toNat ≤ x.1.toNat + 2)) = true ∧ w6.cap.swap.get!.frame.toNat ≤ (Option.map (fun (f : BitVec 64) => f.toNat + 1 + (Option.map (fun (x : ChannelEntry) => x.settle) (w6.cap.active.channel k)).getD 0) w6.cap.channels[k].nextFrame).getD w6.cap.swap.get!.frame.toNat) ∧ (w6.cap.active.set ≠ w6.cap.shadow.get!.set ∨ w6.cap.active.ringGib ≠ w6.cap.shadow.get!.ringGib)) ∧
    ((w7.cap.swap).isSome = true ∧ (w7.cap.shadow).isSome = true ∧ w7.clock.frame < w7.cap.swap.get!.frame) ∧
    (per.cap.persistWaits = (per.cap.persistWaits[0]! : TriggerPersist) :: ([] : List TriggerPersist) ∧ (per.chan (per.cap.persistWaits[0]! : TriggerPersist).command.channel).recorded (per.cap.persistWaits[0]! : TriggerPersist).command.token = some ep ∧ ep.persist = true ∧ ep.status = Status.ok) :=
  ⟨⟨by decide +kernel, rfl, rfl⟩, ⟨by decide +kernel, rfl⟩, by decide +kernel, by decide +kernel, by decide +kernel, by decide +kernel⟩

theorem witness_TriggersAreDecidedAndAccepted :
    (w8.cap.active.channel 5 = some ch2 ∧ ch2.gate = false ∧ w8.marked 4 0 = false ∧ w8.cap.channels[5].mode ≠ TriggerMode.disarmed ∧ w8.cap.channels[5].nextFrame = some (fr - 5 : BitVec 64) ∧ (fr - 5 : BitVec 64).toNat + 1 + ch2.settle ≤ w8.clock.frame.toNat ∧ (List.map (Spark.keyOf ch2.key) (List.filter (fun (x : Spark) => decide (x.frame ≤ (fr - 5 : BitVec 64))) (List.filter (fun (x : Spark) => decide ((fr - 5 : BitVec 64).toNat < x.frame.toNat + ch2.window)) w8.cap.channels[5].history))).eraseDups.length < ch2.k) ∧
    (w9.cap.active.channel 5 = some ch2 ∧ ch2.gate = false ∧ w9.marked 4 0 = false ∧ w9.cap.channels[5].nextFrame = some (fr - 4 : BitVec 64) ∧ w9.clock.frame.toNat < (fr - 4 : BitVec 64).toNat + 1 + ch2.settle) ∧
    (w10.cap.active.channel 5 = some ch ∧ ch.gate = false ∧ w10.marked 4 0 = false ∧ w10.cap.channels[5].host = some (ht fr : HostTrigger) ∧ (ht fr : HostTrigger).due ≤ w10.clock.frame ∧ (w10.cap.channels[5].created.any fun (x : BitVec 64 × Option ℕ) => x.1 == (ht fr : HostTrigger).frame) = false ∧ w10.cap.channels[5].mode = TriggerMode.armed ∧ w10.missReason { frame := (ht fr : HostTrigger).frame, source := TriggerSource.host (ht fr : HostTrigger).command, sources := 4, merged := [] } = none) ∧
    (w11.cap.active.channel 5 = some ch ∧ ch.gate = false ∧ w11.marked 4 0 = false ∧ w11.cap.channels[5].host = some (ht (fr+1) : HostTrigger) ∧ w11.clock.frame < (ht (fr+1) : HostTrigger).due) ∧
    (w12.cap.active.channel 5 = some ch ∧ ch.gate = false ∧ w12.marked 4 0 = false ∧ w12.cap.channels[5].host = some (ht fr : HostTrigger) ∧ (ht fr : HostTrigger).due ≤ w12.clock.frame ∧ (w12.cap.channels[5].created.any fun (x : BitVec 64 × Option ℕ) => x.1 == (ht fr : HostTrigger).frame) = false ∧ w12.cap.channels[5].mode = TriggerMode.rearm ∧ w12.cap.channels[5].waiting = none ∧ w12.clock.frame < w12.cap.channels[5].rearmEnd) ∧
    (w13.cap.active.channel 5 = some ch ∧ ch.gate = false ∧ w13.marked 4 0 = false ∧ w13.cap.channels[5].mode = TriggerMode.rearm ∧ w13.cap.channels[5].rearmEnd ≤ w13.clock.frame ∧ w13.cap.channels[5].waiting = none) ∧
    (w14.cap.active.channel 5 = some ch ∧ ch.gate = false ∧ w14.marked 4 0 = false ∧ w14.cap.channels[5].mode = TriggerMode.rearm ∧ w14.cap.channels[5].rearmEnd ≤ w14.clock.frame ∧ w14.cap.channels[5].waiting = some wt ∧ w14.missReason wt = none) ∧
    (w15.cap.active.channel 5 = some ch ∧ ch.gate = false ∧ w15.marked 4 0 = false ∧ w15.cap.channels[5].pins = ((fr - 2 : BitVec 64), 2) :: ([(fr - 1, 2)] : List (BitVec 64 × Fin 8)) ∧ (fr - 2 : BitVec 64).toNat + 2 ≤ w15.clock.frame.toNat ∧ w15.cap.channels[5].mode = TriggerMode.armed ∧ ch.pin = true ∧ (w15.cap.channels[5].created.any fun (x : BitVec 64 × Option ℕ) => x.1 == (fr - 2 : BitVec 64)) = false ∧ w15.missReason { frame := (fr - 2 : BitVec 64), source := TriggerSource.pin 2, sources := 2, merged := [] } = none ∧ w15.gpio[(⟨2, by decide⟩ : Fin 32)].function ≠ PinFunction.trigIn) ∧
    (w16.cap.active.channel 5 = some ch ∧ ch.gate = false ∧ w16.marked 4 0 = false ∧ w16.cap.channels[5].pins = ((fr - 2 : BitVec 64), 2) :: ([(fr - 1, 2)] : List (BitVec 64 × Fin 8)) ∧ (fr - 2 : BitVec 64).toNat + 2 ≤ w16.clock.frame.toNat ∧ w16.cap.channels[5].mode = TriggerMode.armed ∧ ch.pin = true ∧ (w16.cap.channels[5].created.any fun (x : BitVec 64 × Option ℕ) => x.1 == (fr - 2 : BitVec 64)) = true) ∧
    (w17.cap.active.channel 5 = some ch ∧ ch.gate = false ∧ w17.marked 4 0 = false ∧ w17.cap.channels[5].pins = ((fr - 1 : BitVec 64), 2) :: ([(fr, 2)] : List (BitVec 64 × Fin 8)) ∧ w17.clock.frame.toNat < (fr - 1 : BitVec 64).toNat + 2) ∧
    (w18.cap.active.channel 5 = some w19 ∧ w19.gate = false ∧ w18.marked 4 0 = false ∧ w18.cap.channels[5].pins = ((fr - 2 : BitVec 64), 2) :: ([(fr - 1, 2)] : List (BitVec 64 × Fin 8)) ∧ (fr - 2 : BitVec 64).toNat + 2 ≤ w18.clock.frame.toNat ∧ w19.pin = false) ∧
    (w20.cap.active.channel 5 = some ch ∧ ch.gate = false ∧ w20.marked 4 0 = false ∧ w20.gpio[(⟨2, by decide⟩ : Fin 32)].function = PinFunction.trigIn ∧ w20.cap.active.channels = [(5, ch)] ∧ w20.cap.channels[5].pins = []) ∧
    (w21.cap.active.channel 5 = some ch ∧ ch.gate = false ∧ w21.marked 4 0 = false ∧ w21.cap.channels[5].pulseAt = some (w21.clock.tick, 3) ∧ w21.gpio[(⟨8 + 3, by decide⟩ : Fin 32)].function = PinFunction.trigOut ∧ w21.gpio[(⟨8 + 4, by decide⟩ : Fin 32)].function ≠ PinFunction.trigOut) :=
  ⟨by decide +kernel, by decide +kernel, by decide +kernel, by decide +kernel, by decide +kernel, by decide +kernel, by decide +kernel, by decide +kernel, by decide +kernel, by decide +kernel, by decide +kernel, by decide +kernel, by decide +kernel⟩

end S18

namespace S181
def tk := ready.clock.tick
def pc : CommandRef := ⟨3, 0x98⟩
def cap (e : TokenEntry) (f : CaptureState → CaptureState) : State := { ready.setChan 3 (fun c => { c with window := [e] }) with cap := f ready.cap }
def nm (t : NvmeTask) (n : Nat := 4) : NvmeCommand := { cid := n, drive := 2, queue := 1, op := .write, range := ⟨0,0,1⟩, task := t }
def ns (m : StoreMode) (mi : Bool) : StoreNamespace := { (default : StoreNamespace) with mode := m, mirror := mi, members := if mi then [(2,0),(4,8192)] else [(2, 4096)], extent := 134217728, head := 99 }
def de (d : Fin 16) : DriveEntry := { (default : DriveEntry) with drive := d }
def st (m : StoreMode) (mi : Bool) (cs : List NvmeCommand) (f : CaptureState → CaptureState := id) := cap (entryOf 0x98 .accepted 8) fun x => f { x with commands := cs, namespaces := x.namespaces.set 7 (ns m mi), drives := { x.drives with entries := [de 2, de 4] } }
def rq : Request := { ask cmdObjectRead 3 (zeros 8 ++ leBytes 8 77 ++ zeros 8 ++ leBytes 4 4096 ++ zeros 4) with token := 0x98 }
def ob_ : StoredObject := { (default : StoredObject) with sequence := 77, length := 8192 }
def cc : Capture := { (default : Capture) with sequence := 77, step := .flushTwo, built := some ob_, pinned := true, entry := { (default : ChannelEntry) with namespace_ := 7 } }
def ix : StoreIndex := ⟨5, 3, [1]⟩
def ck (a l : Nat) := st .ok false [] fun x => { x with namespaces := x.namespaces.set 7 { x.namespaces[7] with sinceCheckpoint := a, lastObject := l, objects := [ob_] } }
def w1 : State := st .ok false [nm .deallocate]
def w2 : State := st .ok false [nm .deallocate, nm .deallocate 9]
def w3 : State := st .ok false [nm (.declare 7 pc)] fun x => { x with undo := [(pc, .pin 3 true)] }
def w4 : State := st .ok false [nm (.read rq)]
def w5 : State := st .ok false [nm (.object 77)] fun x => { x with captures := [cc] }
def w6 : State := st .ok false [nm (.checkpoint 7 ix)]
def w7 : State := st .ok false []
def w8 : State := st .rebuilding true [] fun x => { x with namespaces := x.namespaces.set 7 { x.namespaces[7] with failed := [1] } }
def w9 : State := ck 64 tk

theorem witness_StoreCommandsAndDrivesFollowTheirRules :
    (List.find? (fun (b : NvmeCommand) => b.cid == 5) w1.cap.commands = none ∧ (w1.cap.driveFailed[3] = true ∨ (w1.cap.drives.entries.any fun (e : DriveEntry) => e.drive == 3) = false) ∧ w1.cap.namespaces[7].mode ≠ StoreMode.rebuilding ∧ w1.cap.namespaces[7].sinceCheckpoint = 0) ∧
    (w2.cap.commands = [(nm .deallocate : NvmeCommand), (nm .deallocate 9 : NvmeCommand)] ∧ (nm .deallocate 9 : NvmeCommand).cid ≠ (nm .deallocate : NvmeCommand).cid ∧ (nm .deallocate 9 : NvmeCommand).task = (nm .deallocate : NvmeCommand).task ∧ w2.cap.queued = []) ∧
    (w3.cap.commands = [(nm (.declare 7 pc) : NvmeCommand)] ∧ w3.cap.queued = [] ∧ (nm (.declare 7 pc) : NvmeCommand).task = NvmeTask.declare 7 pc ∧ (w3.chan pc.channel).recorded pc.token = some (entryOf 0x98 .accepted 8 : TokenEntry) ∧ (entryOf 0x98 .accepted 8 : TokenEntry).persist = false) ∧
    (w4.cap.commands = [(nm (.read rq) : NvmeCommand)] ∧ w4.cap.queued = [] ∧ (nm (.read rq) : NvmeCommand).task = NvmeTask.read rq) ∧
    (w5.cap.commands = [(nm (.object 77) : NvmeCommand)] ∧ w5.cap.queued = [] ∧ (nm (.object 77) : NvmeCommand).task = NvmeTask.object cc.sequence ∧ w5.cap.captures = [cc] ∧ cc.step = SealStep.flushTwo ∧ cc.built = some ob_ ∧ cc.failing = none ∧ 8 ≠ cc.entry.namespace_) ∧
    (w6.cap.commands = [(nm (.checkpoint 7 ix) : NvmeCommand)] ∧ w6.cap.queued = [] ∧ (nm (.checkpoint 7 ix) : NvmeCommand).task = NvmeTask.checkpoint 7 ix ∧ w6.cap.namespaces[7].mode ≠ StoreMode.undeclared) ∧
    (w7.cap.driveFailed[2] = false ∧ (w7.cap.drives.entries.any fun (e : DriveEntry) => e.drive == 2) = true ∧ w7.cap.captures = [] ∧ w7.cap.commands = [] ∧ w7.cap.queued = [] ∧ List.findIdx? (fun (x : Fin 16 × ℕ) => x.1 == 2) w7.cap.namespaces[7].members = some 0 ∧ w7.cap.namespaces[7].mode = StoreMode.ok ∧ w7.cap.namespaces[7].failed = []) ∧
    (w8.cap.namespaces[7].mode = StoreMode.rebuilding) ∧
    ((64 ≤ w9.cap.namespaces[7].sinceCheckpoint ∨ 0 < w9.cap.namespaces[7].sinceCheckpoint ∧ w9.cap.namespaces[7].lastObject + 20000000 ≤ w9.clock.tick) ∧ w9.writable 7 = [((0 : Nat), (2 : Fin 16))] ∧ Option.map (fun (x : Fin 16 × ℕ) => x.2) w9.cap.namespaces[7].members[((0 : Nat), (2 : Fin 16)).1]? = some 4096 ∧ w9.cap.commands = [] ∧ w9.cap.queued = []) :=
  ⟨by decide +kernel, by decide +kernel, by decide +kernel, by decide +kernel, by decide +kernel, by decide +kernel, by decide +kernel, by decide +kernel, by decide +kernel⟩

end S181

namespace S19
def tk := ready.clock.tick
def rf (i : Fin 12) (f : Reference → Reference) (g : DpllState → DpllState := id) : State :=
  { ready with dpll := g { ready.dpll with refs := ready.dpll.refs.set i (f ready.dpll.refs[i]) } }
def clk (r : Reference) : Reference := { r with kind := .clock, accept := 92, reject := 120, gateAccept := 50, gateReject := 60, qualTime := 10, active := true, qualified := true, qualSince := tk - 20000000 }
def pls (r : Reference) : Reference := { r with kind := .pulse, nominal := 3, tolerance := 40, lastGood := tk - 3000 }
def okPulse : PulseMeasure := { instant := 100, deviation := 40, highNs := 100 }
def badPulse : PulseMeasure := { instant := 100, deviation := 41, highNs := 100 }
def ep (w : Nat) (i : Int) : State := rf 7 (fun r => { pls r with active := true, qualified := true, epochRole := 1 }) fun d => { d with epochSource := some 7, aligned := true, epochGoodRun := 2, epochBadRun := 2, epochMet := false, settings := { d.settings with epochWindow := w } }
def dp (f : DpllState → DpllState) : State := { ready with dpll := f ready.dpll }
def lockedS (h : Bool) : State := rf 11 clk fun d => { d with mode := .locked, holdOscQualified := true, selected := some 11, lockedSince := tk - 2000000000, lockMet := true, epochMet := h, historyValid := true, holdOscActive := true }
def hs (due : Nat) : State := { ready.setChan 3 (fun c => { c with window := [entryOf 0x98 .accepted 16] }) with dpll := { ready.dpll with hostStep := some (⟨3, 0x98⟩, due) } }
def ox : OutputSettings := { (default : OutputSettings) with enable := false }
def op : OutputSettings := { (default : OutputSettings) with enable := true, period := 3, width := 1 }
def ou (x y : OutputSettings) (due : Nat) : State := dp fun d => { d with outputs := (d.outputs.set 0 { d.outputs[0] with next := some (x, due) }).set 9 { d.outputs[9] with next := some (y, due) } }
def w1 : State := rf 11 clk
def w2 : State := rf 11 clk (fun d => { d with holdOscQualified := true })
def w3 : State := rf 11 (fun r => { clk r with active := false, qualified := false, qualSince := tk - 19999999 })
def w4 : State := rf 11 (fun r => { clk r with qualified := false })
def w5 : State := rf 11 (fun r => { clk r with qualified := false, qualSince := tk - 19999999 })
def w6 : State := rf 7 pls
def w7 : State := rf 7 (fun r => { pls r with goodRun := 3 })
def w8 : State := rf 7 (fun r => { pls r with active := true, badRun := 1 })
def w9 : State := rf 7 (fun r => { pls r with active := true, goodRun := 9 })
def w10 : State := ep 5 0
def w11 : PulseMeasure := { okPulse with instant := 100 }
def w12 : State := ep 5 0
def w13 : PulseMeasure := { okPulse with instant := 101 }
def w14 : State := lockedS true
def w15 : State := lockedS false
def w16 : State := dp fun d => { d with mode := .holdover, settings := { d.settings with holdoverLimit := 3 }, holdoverSince := tk - 6000001 }
def w17 : State := dp fun d => { d with settings := { d.settings with holdoverLimit := 3 }, holdoverSince := tk - 6000000, dcoWritten := tk - 19999999, loopAsk := some true, hostStep := some (⟨3, 0x98⟩, tk) }
def w18 : State := hs (tk + 1)
def w19 : State := rf 11 clk fun d => { d with mode := .softloop, selected := some 11, dcoWritten := tk - 20000000 }
def w20 : State := rf 11 clk fun d => { d with mode := .softloop, selected := some 11, loopAsk := some false }
def w21 : State := rf 11 clk fun d => { d with mode := .freerun, selected := some 11 }
def w22 : State := rf 11 clk fun d => { d with mode := .acquire, selected := some 11, lockMet := true, epochMet := true, slewing := true }
def w23 : State := dp fun d => { d with mode := .acquire }
def w24 : State := ou ox op tk
def w25 : State := ou ox op (tk+1)

theorem witness_ReferencesQualifyAndFail :
    (w1.dpll.refs[11].active = true ∧ (w1.dpll.refs[11].kind = RefKind.clock ∨ w1.dpll.refs[11].kind = RefKind.line)) ∧
    (w2.dpll.refs[11].kind ≠ RefKind.none ∧ (((500 : Nat), ((600 : Nat)  : ℕ)) = if w2.dpll.holdOscQualified = true then (10 * w2.dpll.refs[11].gateAccept, 10 * w2.dpll.refs[11].gateReject) else (500000, 1000000)) ∧ (500 : Nat) < ((600 : Int)  : ℤ).natAbs ∧ ((600 : Int)  : ℤ).natAbs ≤ ((600 : Nat)  : ℕ) ∧ ((600 : Nat)  : ℕ) < ((601 : Int)  : ℤ).natAbs ∧ ((500 : Int)  : ℤ).natAbs ≤ (500 : Nat) ∧ ((500 : Int)  : ℤ).natAbs ≤ ((600 : Nat)  : ℕ)) ∧
    (w3.dpll.refs[11].active = false ∧ (w3.dpll.refs[11].kind = RefKind.clock ∨ w3.dpll.refs[11].kind = RefKind.pulse ∧ 4 ≤ w3.dpll.refs[11].goodRun) ∧ ((0 : Fin 12)  : Fin 12) ≠ 11 ∧ w3.dpll.refs[11].kind ≠ RefKind.none ∧ (((500000 : Nat), ((1000000 : Nat)  : ℕ)) = if w3.dpll.holdOscQualified = true then (10 * w3.dpll.refs[11].gateAccept, 10 * w3.dpll.refs[11].gateReject) else (500000, 1000000)) ∧ (500000 : Nat) < ((500001 : Int)  : ℤ).natAbs ∧ ((500001 : Int)  : ℤ).natAbs ≤ ((1000000 : Nat)  : ℕ) ∧ w3.dpll.refs[11].qualified = false) ∧
    (w4.dpll.refs[11].kind ≠ RefKind.none ∧ w4.dpll.refs[11].active = true ∧ w4.dpll.refs[11].qualified = false ∧ w4.dpll.refs[11].qualSince + 2000000 * w4.dpll.refs[11].qualTime ≤ w4.clock.tick) ∧
    (w5.dpll.refs[11].kind ≠ RefKind.none ∧ w5.dpll.refs[11].active = true ∧ w5.dpll.refs[11].qualified = false ∧ w5.clock.tick < w5.dpll.refs[11].qualSince + 2000000 * w5.dpll.refs[11].qualTime) ∧
    (ready.dpll.refs[11].kind = RefKind.none) ∧
    (w6.dpll.refs[7].kind = RefKind.pulse ∧ 2 * (w6.clock.tick - w6.dpll.refs[7].lastGood) ≤ 3 * pulseTicks w6.dpll.refs[7].nominal ∧ pulseBad okPulse w6.dpll.refs[7] = false ∧ w6.dpll.epochSource ≠ some 7 ∧ w6.dpll.refs[7].goodRun < 3) ∧
    (w7.dpll.refs[7].kind = RefKind.pulse ∧ pulseBad okPulse w7.dpll.refs[7] = false ∧ w7.dpll.epochSource ≠ some 7 ∧ 3 ≤ w7.dpll.refs[7].goodRun) ∧
    (ready.dpll.refs[7].kind ≠ RefKind.pulse) ∧
    (w8.dpll.refs[7].kind = RefKind.pulse ∧ pulseBad badPulse w8.dpll.refs[7] = true ∧ w8.dpll.epochSource = none ∧ w8.dpll.refs[7].active = true ∧ 1 ≤ w8.dpll.refs[7].badRun ∧ w8.epochChoice = none) ∧
    (w9.dpll.refs[7].kind = RefKind.pulse ∧ pulseBad badPulse w9.dpll.refs[7] = true ∧ w9.dpll.epochSource = none ∧ w9.dpll.refs[7].active = true ∧ w9.dpll.refs[7].badRun = 0) ∧
    (w10.dpll.refs[7].kind = RefKind.pulse ∧ pulseBad w11 w10.dpll.refs[7] = false ∧ w10.dpll.epochSource = some 7 ∧ w10.dpll.aligned = true ∧ w10.dpll.epochLost = false ∧ w10.dpll.hostStep = none ∧ (w10.epochErrorOf w10.dpll.refs[7].nominal w11.instant).natAbs ≤ 20 * w10.dpll.settings.epochWindow ∧ 2 ≤ w10.dpll.epochGoodRun) ∧
    (w12.dpll.refs[7].kind = RefKind.pulse ∧ pulseBad w13 w12.dpll.refs[7] = false ∧ w12.dpll.epochSource = some 7 ∧ w12.dpll.aligned = true ∧ w12.dpll.epochLost = false ∧ w12.dpll.hostStep = none ∧ 20 * w12.dpll.settings.epochWindow < (w12.epochErrorOf w12.dpll.refs[7].nominal w13.instant).natAbs ∧ 2 ≤ w12.dpll.epochBadRun) :=
  ⟨by decide +kernel, by decide +kernel, by decide +kernel, by decide +kernel, by decide +kernel, by decide +kernel, by decide +kernel, by decide +kernel, by decide +kernel, by decide +kernel, by decide +kernel, by decide +kernel, by decide +kernel⟩

theorem witness_TimingTimersAndDetectorsActAsStated :
    (ready.dpll.holdOscQualified = false ∧ ready.dpll.refs[0].qualified = false ∧ ready.dpllCode ≠ 2 ∧ ready.dpll.selected = none ∧ ready.dpll.outputs[0].next = none) ∧
    (w14.dpll.holdOscQualified = true ∧ w14.dpllCode = 2 ∧ w14.dpll.selected = some 11 ∧ (w14.dpll.mode = DpllMode.acquire ∨ w14.dpll.mode = DpllMode.locked) ∧ w14.slaved = false ∧ w14.dpll.mode = DpllMode.locked) ∧
    (w15.slaved = false ∧ w15.dpll.mode = DpllMode.locked ∧ (w15.dpll.selected = none ∨ w15.dpll.epochMet = false) ∧ w15.historyOk = true ∧ w15.dpll.holdOscQualified = true) ∧
    (w16.dpll.mode = DpllMode.holdover ∧ w16.dpll.holdoverSince + w16.dpll.settings.holdoverLimit * 2000000 < w16.clock.tick) ∧
    (w17.clock.tick ≤ w17.dpll.holdoverSince + w17.dpll.settings.holdoverLimit * 2000000 ∧ w17.clock.tick < w17.dpll.dcoWritten + 20000000 ∧ w17.dpll.hostStep = some ((⟨3, 0x98⟩ : CommandRef), tk) ∧ tk ≤ w17.clock.tick ∧ w17.dpll.loopAsk = some true ∧ w17.dpll.dcoFresh = false ∧ w17.dpll.declareLock = false ∧ w17.dpll.mode = DpllMode.freerun ∧ w17.dpll.selected = none) ∧
    (w18.dpll.hostStep = some ((⟨3, 0x98⟩ : CommandRef), (tk + 1 : ℕ)) ∧ w18.clock.tick < (tk + 1 : ℕ)) ∧
    (w19.dpll.selected = some 11 ∧ (w19.dpll.mode = DpllMode.freerun ∨ w19.dpll.mode = DpllMode.softloop) ∧ (w19.dpll.mode = DpllMode.softloop ∨ w19.dpll.mode = DpllMode.softloopLocked) ∧ w19.dpll.loopAsk = none ∧ w19.dpll.dcoWritten + 20000000 ≤ w19.clock.tick) ∧
    (w20.dpll.mode = DpllMode.softloop ∧ w20.dpll.loopAsk = some false ∧ w20.dpll.selected ≠ none) ∧
    (w21.slaved = false ∧ w21.dpll.mode = DpllMode.freerun ∧ w21.dpll.selected ≠ none) ∧
    (w22.slaved = false ∧ w22.dpll.mode = DpllMode.acquire ∧ w22.dpll.lockMet = true ∧ w22.dpll.epochMet = true) ∧
    (w23.slaved = false ∧ w23.dpll.mode = DpllMode.acquire ∧ w23.dpll.lockMet = false ∧ w23.dpll.selected = none ∧ w23.historyOk = false) ∧
    (w24.dpll.outputs[0].next = some (ox, tk) ∧ tk ≤ w24.clock.tick ∧ (0 < 8 ∧ ox.enable = false ∨ w24.risingEdge 0 ox w24.clock.frame ≠ none)) ∧
    (w25.dpll.outputs[0].next = some (ox, (tk + 1 : ℕ)) ∧ w25.clock.tick < (tk + 1 : ℕ)) :=
  ⟨by decide +kernel, by decide +kernel, by decide +kernel, by decide +kernel, by decide +kernel, by decide +kernel, by decide +kernel, by decide +kernel, by decide +kernel, by decide +kernel, by decide +kernel, by decide +kernel, by decide +kernel⟩

end S19

namespace S20
def tk := ready.clock.tick
def fr := ready.clock.frame
def dec : CascadeDeclaration := { ownIndex := 1, arbiter := false, domain := 7, capable := (0, 1), members := [(0, []), (1, []), (63, [])], seams := [{ port := 511, partner := 0, partnerPort := 3 }], roleHours := 1, tickDelay := 400 }
def key : LinkKey := newLinkKey 0x1234 3
def casc (f : CascadeState → CascadeState) (d : CascadeDeclaration := dec) : State :=
  { ready with casc := f { ready.casc with declaration := some d, seams := [{ (default : SeamState) with port := 511, version := 3 }] }
               ports := ready.ports.set 511 { ready.ports[511] with link := { ready.ports[511].link with rxSlots := ready.ports[511].link.rxSlots.set 0 (some key), txSlots := ready.ports[511].link.txSlots.set 0 (some key) } } }
def w (n : BitVec 64) : TickWord := { (default : TickWord) with active := true, sender := 0, frame := n, version := 3, state := 2 }
def ln (n : BitVec 64) : BitVec 512 := tickLevels (w n).bytes
def slave (f : Option (Fin 2)) : State := casc fun c => { c with mode := .joined, role := .slave, followed := f }
def stb (f : CascadeState → CascadeState) (d := dec) : State := casc (fun c => f { c with mode := .joined, role := .standby }) d
def arb : CascadeDeclaration := { dec with arbiter := true }
def hnd (f : BitVec 64) : Handover := { tick := some f, release := false, commands := [] }
def msg (t : Byte) (o : Fin 64) (n : BitVec 48 := 0) : CascMessage := { senderRole := 0, sender := 0, msgType := t, origin := o, msgId := 5, arg := n }
def sw (p : CascadePhase) (st : Nat) (ps : List (Fin 64)) : CascadeSwap := { (default : CascadeSwap) with id := 5, participants := ps, phase := p, started := st, command := some ⟨3, 0x98⟩, frame := fr - 20000 }
def mst (x : CascadeSwap) : State := { (casc fun c => { c with mode := .joined, role := .master, swap := some x }).setChan 3 (fun c => { c with window := [entryOf 0x98 .accepted 16] }) with clock := ready.clock }
def stg (c : Option CommandRef) (f : Option (BitVec 64)) : StagedSwap := { id := 5, frame := f, aborted := false, persist := true, command := c }
def part (g : StagedSwap) (a : BitVec 32) : State := { (stb fun c => { c with staged := some g, answered := a }).setChan 3 (fun c => { c with window := [entryOf 0x98 .accepted 16] }) with clock := ready.clock }
def w1 : State := slave (some 1)
def w2 : State := slave none
def w3 : State := slave none
def w4 : State := casc fun c => { c with mode := .joined, role := .slave, missingRun := 64 }
def w5 : State := casc fun c => { c with mode := .joining, role := .standby, startedAt := tk - 800000 }
def w6 : State := casc fun c => { c with mode := .joining, role := .slave, mstInhIn := true, startedAt := tk - 800000 }
def w7 : State := stb fun c => { c with missingRun := 4 }
def w8 : State := stb fun c => { c with missingRun := 4, channelPathLost := true }
def w9 : State := stb fun c => { c with tickPathLost := true, mstInhIn := true, roleNext := tk + 1 }
def w10 : State := casc (fun c => { c with mode := .joined, role := .master, version := 3 }) arb
def w11 : State := stb (fun c => { c with version := 3 }) arb
def w12 : State := casc fun c => { c with mode := .joined, role := .master, handover := some (hnd fr), mstActOut := true }
def w13 : State := casc fun c => { c with mode := .joined, role := .master, handover := some (hnd (fr + 1)), mstActOut := true }
def w14 : State := stb fun c => { c with handover := some (hnd (fr - 1)) }
def w15 : State := stb fun c => { c with seen := [⟨0, 2, 5, tk⟩] }
def w16 : State := casc fun c => { c with mode := .joining, joinSent := true }
def w17 : State := mst (sw .prepare tk [0, 63])
def w18 : State := mst (sw .prepare (tk - 2000) [0, 63])
def w19 : CascadeSwap := sw .prepare (tk - 2000) [0, 63]
def w20 : State := mst (sw .committed tk [0, 63])
def w21 : CascMessage := msg 6 0 (fr.setWidth 48 + 100)
def w22 : State := part (stg none none) 0
def w23 : State := part (stg (some ⟨3, 0x98⟩) none) 5
def w24 : State := part (stg none (some fr)) 5

theorem witness_TickWordsAreFollowed :
    (lineBytes (ln fr : BitVec 512) = some ((w fr).bytes : List Byte) ∧ (w fr : TickWord) = readTickWord ((w fr).bytes : List Byte) ∧ tickCrcOk ((w fr).bytes : List Byte) = true ∧ (w fr : TickWord).contradicts = false ∧ w1.casc.inputs[1].numberOk (w fr : TickWord).frame = true ∧ (w fr : TickWord).active = true ∧ (w fr : TickWord).swapOp = 0 ∧ (w fr : TickWord).roleOp = 0 ∧ w1.casc.mode ≠ CascadeMode.standalone ∧ w1.casc.role ≠ CascadeRole.master ∧ w1.casc.handover = none ∧ w1.casc.followed = some 1 ∧ w1.casc.missingRun = 0 ∧ w1.casc.mode ≠ CascadeMode.flywheel ∧ w1.casc.declaration = some dec ∧ w1.casc.missingRun < 64) ∧
    (lineBytes (ln fr : BitVec 512) = some ((w fr).bytes : List Byte) ∧ (w fr : TickWord) = readTickWord ((w fr).bytes : List Byte) ∧ tickCrcOk ((w fr).bytes : List Byte) = true ∧ (w fr : TickWord).contradicts = false ∧ w2.casc.inputs[1].numberOk (w fr : TickWord).frame = true ∧ (w fr : TickWord).active = true ∧ (w fr : TickWord).swapOp = 0 ∧ (w fr : TickWord).roleOp = 0 ∧ w2.casc.mode ≠ CascadeMode.standalone ∧ w2.casc.role ≠ CascadeRole.master ∧ w2.casc.handover = none ∧ w2.casc.followed = none ∧ (w2.tickPhase (w fr : TickWord) (0 : Int)).natAbs ≤ 400) ∧
    (lineBytes (ln fr : BitVec 512) = some ((w fr).bytes : List Byte) ∧ (w fr : TickWord) = readTickWord ((w fr).bytes : List Byte) ∧ tickCrcOk ((w fr).bytes : List Byte) = true ∧ (w fr : TickWord).contradicts = false ∧ w3.casc.inputs[1].numberOk (w fr : TickWord).frame = true ∧ (w fr : TickWord).active = true ∧ (w fr : TickWord).swapOp = 0 ∧ (w fr : TickWord).roleOp = 0 ∧ w3.casc.mode ≠ CascadeMode.standalone ∧ w3.casc.role ≠ CascadeRole.master ∧ w3.casc.handover = none ∧ w3.casc.followed = none ∧ 400 < (w3.tickPhase (w fr : TickWord) (1 : Int)).natAbs) ∧
    (Option.any tickCrcOk (lineBytes 0) = false) ∧
    (w4.casc.mode = CascadeMode.joined ∧ w4.casc.role ≠ CascadeRole.master ∧ 64 ≤ w4.casc.missingRun) :=
  ⟨by decide +kernel, by decide +kernel, by decide +kernel, by decide +kernel, by decide +kernel⟩

theorem witness_MasterRoleMovesAsStated :
    ((w5.casc.mode = CascadeMode.joining ∧ w5.casc.role ≠ CascadeRole.master ∧ w5.masterCapable = true ∧ w5.casc.activeHeard = false ∧ ((max w5.rst.tinderAt w5.casc.startedAt + if w5.rst.straps.masterPref = true then 200000 else 800000) ≤ w5.clock.tick) ∧ w5.casc.mstInhIn = false ∧ w5.casc.missingRun < 4 ∧ w5.casc.role = CascadeRole.standby ∧ w5.casc.channelPathLost = false ∧ (∀ x ∈ w5.casc.seams, 16 ≤ x.unchanged ∨ (w5.port x.port).aligner ≠ AlignerMode.sync) ∧ w5.casc.tickPathLost = false ∧ w5.arbiterOn = false) ∧ (∀ (d : CascadeDeclaration), w5.casc.declaration = some d → d.arbiter = false)) ∧
    (w6.casc.mode = CascadeMode.joining ∧ w6.casc.role ≠ CascadeRole.master ∧ w6.masterCapable = true ∧ w6.casc.activeHeard = false ∧ ((max w6.rst.tinderAt w6.casc.startedAt + if w6.rst.straps.masterPref = true then 200000 else 800000) ≤ w6.clock.tick) ∧ w6.casc.mstInhIn = true) ∧
    (w7.casc.mode ≠ CascadeMode.joining ∧ w7.casc.role = CascadeRole.standby ∧ w7.casc.tickPathLost = false ∧ 4 ≤ w7.casc.missingRun ∧ w7.casc.channelPathLost = false ∧ w7.arbiterOn = false) ∧
    (w8.casc.role = CascadeRole.standby ∧ w8.casc.tickPathLost = false ∧ 4 ≤ w8.casc.missingRun ∧ w8.casc.channelPathLost = true ∧ w8.casc.mode = CascadeMode.joined ∧ w8.casc.mstInhIn = false ∧ w8.arbiterOn = false) ∧
    (w9.casc.role = CascadeRole.standby ∧ w9.casc.channelPathLost = false ∧ (∀ x ∈ w9.casc.seams, 16 ≤ x.unchanged ∨ (w9.port x.port).aligner ≠ AlignerMode.sync) ∧ w9.casc.tickPathLost = true ∧ w9.casc.mstInhIn = true ∧ w9.clock.tick < w9.casc.roleNext) ∧
    (w10.arbiterOn = true ∧ w10.isMaster = true ∧ w10.casc.declaration = some arb ∧ 3 ≤ w10.casc.version ∧ w10.casc.roleNext ≤ w10.clock.tick ∧ w10.casc.handover = none ∧ w10.casc.swap = none) ∧
    (w11.arbiterOn = true ∧ w11.casc.role = CascadeRole.standby ∧ w11.casc.mode = CascadeMode.joined ∧ w11.casc.mstInhIn = false) ∧
    (w12.casc.handover = some (hnd fr : Handover) ∧ ((hnd fr : Handover).tick).isSome = true ∧ (hnd fr : Handover).commands = [] ∧ w12.isMaster = true ∧ (hnd fr : Handover).tick.get! ≤ w12.clock.frame) ∧
    (w13.casc.handover = some (hnd (fr + 1) : Handover) ∧ ((hnd (fr + 1) : Handover).tick).isSome = true ∧ (hnd (fr + 1) : Handover).commands = [] ∧ w13.clock.frame < (hnd (fr + 1) : Handover).tick.get! ∧ w13.isMaster = true) ∧
    (w14.casc.handover = some (hnd (fr - 1) : Handover) ∧ ((hnd (fr - 1) : Handover).tick).isSome = true ∧ (hnd (fr - 1) : Handover).commands = [] ∧ w14.casc.role = CascadeRole.standby ∧ (hnd (fr - 1) : Handover).tick.get! + 1 ≤ w14.clock.frame ∧ w14.casc.mstInhIn = false) :=
  ⟨⟨by decide +kernel, of_all (by decide +kernel)⟩, by decide +kernel, by decide +kernel, by decide +kernel, by decide +kernel, by decide +kernel, by decide +kernel, by decide +kernel, by decide +kernel, by decide +kernel⟩

theorem witness_CascadeMessagesAndSwapsFollowTheirRules :
    ((ready.casc.mode = CascadeMode.standalone ∨ (∀ x ∈ ready.casc.seams, x.port ≠ 511) ∨ ready.seamHeard 511 = false) ∧ ready.casc.swap = none) ∧
    (w15.isMaster = false ∧ w15.isCopy (msg 2 0 : CascMessage).origin (msg 2 0 : CascMessage).msgType (msg 2 0 : CascMessage).msgId = true) ∧
    ((msg 2 0 : CascMessage).msgType = 2 ∧ w16.casc.mode = CascadeMode.joining ∧ w16.casc.role ≠ CascadeRole.master ∧ (∃ x ∈ w16.casc.seams, x.port = 511) ∧ w16.seamHeard 511 = true ∧ w16.casc.joinSent = true ∧ w16.casc.declaration = some dec ∧ ((msg 2 0 : CascMessage).origin = dec.capable.1 ∨ (msg 2 0 : CascMessage).origin = dec.capable.2) ∧ (msg 2 0 : CascMessage).origin ≠ w16.ownIndex ∧ w16.isCopy (msg 2 0 : CascMessage).origin (msg 2 0 : CascMessage).msgType (msg 2 0 : CascMessage).msgId = false) ∧
    ((msg 3 63 : CascMessage).msgType = 3 ∧ w17.isMaster = true ∧ (msg 3 63 : CascMessage).senderRole ≠ 2 ∧ w17.casc.dualMaster = false ∧ (∃ x ∈ w17.casc.seams, x.port = 511) ∧ w17.seamHeard 511 = true ∧ (msg 3 63 : CascMessage).origin ≠ w17.ownIndex ∧ w17.isCopy (msg 3 63 : CascMessage).origin (msg 3 63 : CascMessage).msgType (msg 3 63 : CascMessage).msgId = false ∧ w17.casc.swap = some (sw .prepare tk [0, 63] : CascadeSwap) ∧ (sw .prepare tk [0, 63] : CascadeSwap).id = (msg 3 63 : CascMessage).msgId ∧ (sw .prepare tk [0, 63] : CascadeSwap).phase = CascadePhase.prepare ∧ (msg 3 63 : CascMessage).origin ∈ (sw .prepare tk [0, 63] : CascadeSwap).participants ∧ (msg 3 63 : CascMessage).origin ∉ (sw .prepare tk [0, 63] : CascadeSwap).ready ∧ (sw .prepare tk [0, 63] : CascadeSwap).veto = [] ∧ (sw .prepare tk [0, 63] : CascadeSwap).command = some (⟨3, 0x98⟩ : CommandRef) ∧ w17.casc.staged = none ∧ w17.clock.tick < (sw .prepare tk [0, 63] : CascadeSwap).started + 2000) ∧
    (w18.casc.swap = some w19 ∧ w19.phase = CascadePhase.prepare ∧ w19.veto = [] ∧ w19.command = some (⟨3, 0x98⟩ : CommandRef) ∧ w18.casc.staged = none ∧ w19.started + 2000 ≤ w18.clock.tick) ∧
    (w20.casc.swap = some (sw .committed tk [0, 63] : CascadeSwap) ∧ (sw .committed tk [0, 63] : CascadeSwap).phase = CascadePhase.committed ∧ (sw .committed tk [0, 63] : CascadeSwap).command = some (⟨3, 0x98⟩ : CommandRef) ∧ w20.ownIndex ∉ (sw .committed tk [0, 63] : CascadeSwap).participants ∧ (sw .committed tk [0, 63] : CascadeSwap).frame + 20000 ≤ w20.clock.frame) ∧
    (w21.msgType = 6 ∧ w22.isMaster = false ∧ w22.casc.mode ≠ CascadeMode.standalone ∧ (∃ x ∈ w22.casc.seams, x.port = 511) ∧ w21.origin ≠ w22.ownIndex ∧ w22.seamHeard 511 = true ∧ w22.isCopy w21.origin w21.msgType w21.msgId = false ∧ w22.casc.staged = some (stg none none : StagedSwap) ∧ (stg none none : StagedSwap).id = w21.msgId ∧ (stg none none : StagedSwap).frame = none ∧ (stg none none : StagedSwap).aborted = false) ∧
    (w23.casc.staged = some (stg (some ⟨3, 0x98⟩) none : StagedSwap) ∧ (stg (some ⟨3, 0x98⟩) none : StagedSwap).command = some (⟨3, 0x98⟩ : CommandRef) ∧ w23.isMaster = false ∧ (stg (some ⟨3, 0x98⟩) none : StagedSwap).frame = none ∧ w23.casc.answered = (stg (some ⟨3, 0x98⟩) none : StagedSwap).id) ∧
    (w24.casc.staged = some (stg none (some fr) : StagedSwap) ∧ ((stg none (some fr) : StagedSwap).frame).isSome = true) :=
  ⟨by decide +kernel, by decide +kernel, by decide +kernel, by decide +kernel, by decide +kernel, by decide +kernel, by decide +kernel, by decide +kernel, by decide +kernel⟩

end S20

namespace S21
def tk := ready.clock.tick
def lk (f : LinkState → LinkState) (m : PortMode := .training) : State :=
  { ready with ports := ready.ports.set 511 { ready.ports[511] with mode := m, link := f ready.ports[511].link } }
def hello (r : Nat) : List Byte := (helloMessage true false 5 3 (beBytes 32 r) (zeros 8) (zeros 96)).bytes
def agr (st : AgreementStep) : Agreement := { form := .full, step := st, started := tk - 400000, ownHello := hello 1, peerHello := some (hello 2), scalar := 5, peerAuth := none, checked := false, peerConfirm := false, ready := false }
def km (t : BitVec 4) (bs : List Byte) : KeyMessage := { type := t, bytes := bs }
def ag (a : Agreement) : State := lk fun l => { l with agreement := some a, retryWait := 40 }
def mac : List Byte := confirmMac ((ag (agr .confirm)).sharedSecret 511 (agr .confirm) (hello 2)) (transcript (hello 1) (hello 2)) (!ownIsA (hello 1) (hello 2))
def goodConfirm := km 3 (zeros 4 ++ mac)
def full32 : State := { ag (agr .confirm) with sec := { ready.sec with installs := 32 } }
def sc (f : SecurityState → SecurityState) (e : TokenEntry := entryOf 0x98 .accepted 8) : State := { ready.setChan 3 (fun c => { c with window := [e] }) with sec := f ready.sec }
def wk : SecurityWork := { opcode := 0x0F01, request := { ask cmdFwStage 3 (zeros 8) with token := 0x98 }, data := zeros 1064 }
def rom : State := sc fun x => { x with romRecovery := true }
def au : Agreement := { agr .auth with peerAuth := some (zeros 200) }
def w1 : State := ag (agr .confirm)
def w2 : Instr := Instr.keyMessageReceived 511 (km 4 (zeros 8)) 
def w3 : State := ag { agr .hello with started := tk - 399999 }
def w4 : Agreement := { agr .hello with started := tk - 399999 }
def w5 : State := ag (agr .confirm)
def w6 : State := lk fun l => { l with retryAt := some tk, movedAt := some (tk - 63), txSlots := l.txSlots.set l.txKid (some { newLinkKey 5 1 with frames := 2147483648 }) }
def w7 : State := lk fun l => { l with retryAt := some (tk + 1), movedAt := some (tk - 64), agreement := some (agr .hello), txSlots := l.txSlots.set l.txKid (some { newLinkKey 5 1 with frames := 2147483647 }) }
def w8 : State := sc fun x => { x with nonces := [⟨7, tk⟩] }
def w9 : State := sc fun x => { x with nonces := [⟨7, tk + 1⟩] }
def w10 : State := sc fun x => { x with work := [wk] }
def w11 : State := lk fun l => { l with agreement := some au }
def w12 : ℕ := ((lk (fun l => { l with agreement := some au })).authFailure 511 au (hello 2) (zeros 200)).get!

theorem witness_KeyAgreementTimersAndMessagesFollowTheirRules :
    ((ready.port 511).mode = PortMode.down) ∧
    (((w1.port 511).link.agreement = some (agr .confirm : Agreement) ∧ (w1.port 511).link.keyed = false) ∧ ((∃ (m : KeyMessage), w2 = Instr.keyMessageReceived 511 m ∧ (w1.port 511).mode ≠ PortMode.down ∧ (m.type = 4 ∨ m.type = 1 ∧ helloVersion m.bytes ≠ 1 ∨ m.type = 3 ∧ (agr .confirm : Agreement).step = AgreementStep.confirm ∧ (agr .confirm : Agreement).ready = false ∧ w1.sec.installs < 32 ∧ ∃ (peer : List Byte), (agr .confirm : Agreement).peerHello = some peer ∧ List.take 48 (List.drop 4 m.bytes) ≠ confirmMac (w1.sharedSecret 511 (agr .confirm : Agreement) peer) (transcript (agr .confirm : Agreement).ownHello peer) !ownIsA (agr .confirm : Agreement).ownHello peer)) ∨ w2 = Instr.agreementTimeout 511 ∧ (agr .confirm : Agreement).ready = false ∧ (agr .confirm : Agreement).started + 400000 ≤ w1.clock.tick)) ∧
    ((w3.port 511).link.agreement = some w4 ∧ (w4.ready = true ∨ w3.clock.tick < w4.started + 400000)) ∧
    ((w5.port 511).link.agreement = some (agr .confirm : Agreement) ∧ (w5.port 511).mode ≠ PortMode.down ∧ goodConfirm.type = 3 ∧ (agr .confirm : Agreement).step = AgreementStep.confirm ∧ (agr .confirm : Agreement).ready = false ∧ w5.sec.installs < 32 ∧ (agr .confirm : Agreement).peerHello = some (hello 2 : List Byte) ∧ List.take 48 (List.drop 4 goodConfirm.bytes) = confirmMac (w5.sharedSecret 511 (agr .confirm : Agreement) (hello 2 : List Byte)) (transcript (agr .confirm : Agreement).ownHello (hello 2 : List Byte)) !ownIsA (agr .confirm : Agreement).ownHello (hello 2 : List Byte)) ∧
    (goodConfirm.type = 3 ∧ 32 ≤ full32.sec.installs ∧ (full32.port 511).link.assembled = none) ∧
    (((w6.port 511).link.retryAt).isSome = true ∧ (w6.port 511).link.retryAt.get! ≤ w6.clock.tick ∧ (w6.port 511).mode ≠ PortMode.down ∧ (w6.port 511).link.agreement = none ∧ w6.runningAgreements < 64 ∧ ((w6.port 511).link.txKey).isSome = true ∧ 2147483648 ≤ (w6.port 511).link.txKey.get!.frames ∧ (w6.port 511).link.ready = none ∧ (w6.port 511).link.lastExhausted = 0 ∧ ((w6.port 511).link.movedAt).isSome = true ∧ w6.clock.tick < (w6.port 511).link.movedAt.get! + 64) ∧
    (((w7.port 511).link.retryAt).isSome = true ∧ w7.clock.tick < (w7.port 511).link.retryAt.get! ∧ ((w7.port 511).link.txKey).isSome = true ∧ (w7.port 511).link.txKey.get!.frames < 2147483648 ∧ ((w7.port 511).link.movedAt).isSome = true ∧ (w7.port 511).link.movedAt.get! + 64 ≤ w7.clock.tick ∧ (w7.port 511).link.agreement ≠ none) :=
  ⟨by decide +kernel, ⟨by decide +kernel, Or.inl ⟨km 4 (zeros 8), rfl, by decide +kernel, Or.inl rfl⟩⟩, by decide +kernel, by decide +kernel, by decide +kernel, by decide +kernel, by decide +kernel⟩

theorem witness_SecurityCoreEventsFollowTheirRules :
    (w8.sec.nonces = [(⟨7, tk⟩ : Nonce)] ∧ (⟨7, tk⟩ : Nonce).expiry ≤ w8.clock.tick ∧ w8.sec.work = [] ∧ w8.sec.romRecovery = false) ∧
    (w9.sec.nonces = [(⟨7, tk + 1⟩ : Nonce)] ∧ w9.clock.tick < (⟨7, tk + 1⟩ : Nonce).expiry) ∧
    (w10.sec.work = [wk] ∧ wk.opcode = 3841 ∧ w10.rtc.valid = true ∧ w10.verifiedImage 1 wk.data = none) ∧
    (rom.sec.romRecovery = true ∧ rom.romTokenOk (zeros 192 : List Byte) = false) ∧
    ((w11.port 511).link.agreement = some au ∧ au.peerHello = some (hello 2 : List Byte) ∧ au.peerAuth = some (zeros 200 : List Byte) ∧ w11.rtc.valid = true ∧ w11.authFailure 511 au (hello 2 : List Byte) (zeros 200 : List Byte) = some w12 ∧ (w11.port 511).link.keyed = false) :=
  ⟨by decide +kernel, by decide +kernel, by decide +kernel, by decide +kernel, by decide +kernel⟩

end S21

namespace S22
def tk := ready.clock.tick
def fr := ready.clock.frame
def ac (a : Nat) (n : Fin 9) (w : Option (BitVec 64)) (e : EccFinding := .clean) (m : FabricMaster := .managementA) : FabricAccess :=
  { master := m, address := BitVec.ofNat 40 a, bytes := n, write := w, ecc := e, collision := false }
def we (a : Nat) (u : Bool) : WordError := { address := BitVec.ofNat 40 a, uncorrectable := u }
def held : State := { ready with fabric := { ready.fabric with cells := [(0x40, 7), (0x43, 9)] } }
def fl (f : FlashState → FlashState) : State := { ready with flash := f ready.flash }
def oc (v : Bool) : FlashOutcome := { plane := 3, verified := v, slow := false }
def pf (f : PerfState → PerfState) : State := { ready.setChan 3 (fun c => { c with window := [entryOf 0x98 .accepted 4] }) with perf := f ready.perf }
def pc : CommandRef := ⟨3, 0x98⟩
def snap : Snapshot := { command := pc, frame := fr, image := some (zeros 8) }
def job (f : SampleJob → SampleJob) : SampleJob := f { (default : SampleJob) with command := pc, core := 0, period := 4, count := 2, seen := 2, started := tk - 20000000 }
def jb (f : SampleJob → SampleJob) : State := pf fun p => { p with jobs := [job f] }
def smp : CoreSample := { (default : CoreSample) with core := 0, latency := 9 }
def low : State := { ready with rst := { ready.rst with porLow := true } }
def wc (bm : Bool) : State := { ready.setChan 3 (fun c => { c with window := [entryOf 0x98 .accepted 4] }) with host := { (ready.setChan 3 (fun c => { c with window := [entryOf 0x98 .accepted 4] })).host with busMaster := bm, waiting := [{ opcode := 0x0F01, request := { ask cmdFwStage 3 (zeros 8) with token := 0x98 }, wait := .output [1,2] (zeros 4), accepted := true, ring := false }] } }
def w1 : FabricAccess := ac 0x7FFFF8 8 (some 1) .clean .debugPort
def w2 : FabricAccess := ac 0x7FFFF8 8 (some 0x1122334455667788)
def w3 : FabricAccess := ac 0x40 4 none .uncorrectable
def w4 : ℕ := ((fabricTarget 0x10000000).map (·.2)).getD 0
def w5 : State := fl fun f => { f with cells := [(256 * 48 + 255, 7)], fifo := List.replicate 16 (.erase 7) }
def w6 : State := fl fun f => { f with cells := [(256 * 48 + 255, 7)] }
def w7 : State := fl fun f => { f with cells := [(4096 * 3, 7), (4096 * 4, 9)], busy := f.busy.set 3 (some (.erase 3)) }
def w8 : State := fl fun f => { f with cells := [(4096 * 3 - 1, 7), (4096 * 4, 9)], busy := f.busy.set 3 (some (.program 48 5)) }
def w9 : State := pf fun p => { p with snapshots := [snap] }
def w10 : State := jb id
def w11 : State := jb fun j => { j with seen := 3 }
def w12 : SampleJob := job fun j => { j with seen := 3 }
def w13 : State := jb fun j => { j with seen := 3, lastTick := tk, inTick := 8, started := tk - 19999999 }
def w14 : SampleJob := job fun j => { j with seen := 3, lastTick := tk, inTick := 8, started := tk - 19999999 }
def w15 : State := jb fun j => { j with seen := 3, taken := 1, samples := zeros 32 }
def w16 : SampleJob := job fun j => { j with seen := 3, taken := 1, samples := zeros 32 }
def w17 : State := { ready with dpll := { ready.dpll with step := some (-3) } }
def w18 : State := wc true
def w19 : WaitingCommand := ((wc true).host.waiting.getLast?.get!)
def w20 : State := wc false

theorem witness_FabricAccessesReachTheirTargets :
    (ready.host.outbox = [] ∧ fabricTarget (ac 0xFFFFFFFFF8 8 none : FabricAccess).address.toNat = none ∧ (∀ (i : Fin 5), Option.map (fun (x : FabricTarget × ℕ) => x.1) (fabricTarget (ac 0xFFFFFFFFF8 8 none : FabricAccess).address.toNat) ≠ some (FabricTarget.bridge i)) ∧ (we 0x7FFFF8 false : WordError).uncorrectable = false ∧ (we 0x7FFFF8 false : WordError).address.toNat < 8388608) ∧
    (ready.host.outbox = [] ∧ fabricTarget w1.address.toNat = some (.sram, 8388600) ∧ ((ready.accessRole w1.master).reaches .sram 8388600 w1.write.isSome && FabricTarget.sram.takesSize w1.address.toNat ↑w1.bytes) = false) ∧
    (ready.host.outbox = [] ∧ w2.master = FabricMaster.managementA ∧ ready.mgmt.owner = some 0 ∧ w2.address.toNat < 8388608 ∧ FabricTarget.sram.takesSize w2.address.toNat ↑w2.bytes = true ∧ (w2.write).isSome = true ∧ Memory.wf ready.fabric.cells ∧ 0 < ↑w2.bytes ∧ (8388599 < w2.address.toNat ∨ w2.address.toNat + ↑w2.bytes ≤ 8388599)) ∧
    (held.host.outbox = [] ∧ (ac 0x40 4 none .corrected : FabricAccess).master = FabricMaster.managementA ∧ held.mgmt.owner = some 0 ∧ (ac 0x40 4 none .corrected : FabricAccess).address.toNat < 8388608 ∧ FabricTarget.sram.takesSize (ac 0x40 4 none .corrected : FabricAccess).address.toNat ↑(ac 0x40 4 none .corrected : FabricAccess).bytes = true ∧ (ac 0x40 4 none .corrected : FabricAccess).write = none ∧ Memory.wf held.fabric.cells ∧ (ac 0x40 4 none .corrected : FabricAccess).ecc ≠ EccFinding.uncorrectable) ∧
    (held.host.outbox = [] ∧ w3.master = FabricMaster.managementA ∧ held.mgmt.owner = some 0 ∧ w3.address.toNat < 8388608 ∧ FabricTarget.sram.takesSize w3.address.toNat ↑w3.bytes = true ∧ w3.write = none ∧ Memory.wf held.fabric.cells ∧ w3.ecc = EccFinding.uncorrectable) ∧
    (held.host.outbox = [] ∧ fabricTarget (ac 0x10000000 4 none : FabricAccess).address.toNat = some (FabricTarget.bridge 0, w4) ∧ (ac 0x10000000 4 none : FabricAccess).write = none) :=
  ⟨by decide +kernel, by decide +kernel, by decide +kernel, by decide +kernel, by decide +kernel, by decide +kernel⟩

theorem witness_FlashCommandsAndTheirEnds :
    (ready.host.outbox = [] ∧ ready.flashAllowed FabricMaster.managementA ↑(4016 : Fin 4096) = false ∧ ready.flashAllowed FabricMaster.managementA ↑((4095 : Fin 4096)  : Fin 4096) = true ∧ ready.ev.powerFailing = false ∧ ready.flash.fifo = [] ∧ ready.flash.warned.contains ↑((4095 : Fin 4096)  : Fin 4096) = false ∧ ready.flash.busy[(⟨↑((4095 : Fin 4096)  : Fin 4096) % 4, by decide⟩ : Fin 4)] = none ∧ ready.flashAllowed FabricMaster.managementA (↑((65535 : Fin 65536)  : Fin 65536) / 16) = true ∧ ready.flash.busy[(⟨↑((65535 : Fin 65536)  : Fin 65536) / 16 % 4, by decide⟩ : Fin 4)] = none ∧ ((memRead flashDefault ready.flash.cells (256 * ↑((65535 : Fin 65536)  : Fin 65536)) 256).all fun (x : Byte) => x == flashDefault) = true ∧ ready.flash.busy[(oc true : FlashOutcome).plane] = none) ∧
    (w5.host.outbox = [] ∧ w5.flashAllowed FabricMaster.managementA 3 = true ∧ w5.ev.powerFailing = false ∧ w5.flash.fifo.length = 16) ∧
    (w6.host.outbox = [] ∧ w6.flashAllowed FabricMaster.managementA (48 / 16) = true ∧ w6.ev.powerFailing = false ∧ w6.flash.fifo = [] ∧ w6.flash.busy[(⟨48 / 16 % 4, by decide⟩ : Fin 4)] = none ∧ ((memRead flashDefault w6.flash.cells (256 * 48) 256).all fun (x : Byte) => x == flashDefault) = false) ∧
    (w7.host.outbox = [] ∧ w7.flash.busy[(oc true : FlashOutcome).plane] = some (FlashCommand.erase 3) ∧ (oc true : FlashOutcome).verified = true ∧ w7.flash.fifo = [] ∧ cellsWf flashDefault w7.flash.cells = true) ∧
    (w8.host.outbox = [] ∧ w8.flash.busy[(oc true : FlashOutcome).plane] = some (FlashCommand.program 48 5) ∧ (oc true : FlashOutcome).verified = true ∧ w8.flash.fifo = [] ∧ cellsWf flashDefault w8.flash.cells = true ∧ ((4096 * 3 - 1  : ℕ) < 256 * 48 ∨ 256 * 48 + 256 ≤ (4096 * 3 - 1  : ℕ))) :=
  ⟨by decide +kernel, by decide +kernel, by decide +kernel, by decide +kernel, by decide +kernel⟩

theorem witness_SnapshotsAndSamplesFollowTheirRules :
    (w9.perf.snapshots = [snap] ∧ snap.image = some (zeros 8 : List Byte) ∧ w9.perf.jobs = []) ∧
    (ready.perf.snapshots = []) ∧
    (w10.perf.jobs = [(job id : SampleJob)] ∧ (job id : SampleJob).core = smp.core ∧ w10.coreRuns smp.core.toNat = true ∧ (job id : SampleJob).taken < (job id : SampleJob).count ∧ (job id : SampleJob).seen + 1 < (job id : SampleJob).period ∧ (job id : SampleJob).started + 20000000 ≤ w10.clock.tick ∧ (job id : SampleJob).taken = 0) ∧
    (w11.perf.jobs = [w12] ∧ w12.core = smp.core ∧ w11.coreRuns smp.core.toNat = true ∧ w12.taken < w12.count ∧ w12.period ≤ w12.seen + 1 ∧ w12.lastTick ≠ w11.clock.tick ∧ w12.taken + 1 < w12.count) ∧
    (w13.perf.jobs = [w14] ∧ w14.core = smp.core ∧ w13.coreRuns smp.core.toNat = true ∧ w14.taken < w14.count ∧ w14.period ≤ w14.seen + 1 ∧ w14.lastTick = w13.clock.tick ∧ 8 ≤ w14.inTick ∧ w13.clock.tick < w14.started + 20000000) ∧
    (w15.perf.jobs = [w16] ∧ w16.core = smp.core ∧ w15.coreRuns smp.core.toNat = true ∧ w16.taken < w16.count ∧ w16.period ≤ w16.seen + 1 ∧ w16.lastTick ≠ w15.clock.tick ∧ w16.taken + 1 = w16.count ∧ w16.started + 20000000 ≤ w15.clock.tick ∧ 0 < w16.taken) :=
  ⟨by decide +kernel, by decide +kernel, by decide +kernel, by decide +kernel, by decide +kernel, by decide +kernel⟩

theorem witness_TicksAndTransfersMoveTimeAndCommands :
    ((low.rst.porLow = true ∨ low.rst.coldLow = true) ∧ (∀ (j : Fin 8), (low.chan j).rungPi = (low.chan j).reqCi) ∧ low.host.waiting = []) ∧
    (ready.rst.porLow = false ∧ ready.rst.coldLow = false ∧ ready.dpll.step = none) ∧
    (w17.rst.porLow = false ∧ w17.rst.coldLow = false ∧ w17.dpll.step = some ((-3 : Int)  : ℤ)) ∧
    ((∀ (j : Fin 8), (w18.chan j).rungPi = (w18.chan j).reqCi) ∧ w18.host.waiting = [w19] ∧ w19.request.channel = 3 ∧ w19.request.token = (0x98 : BitVec 64) ∧ (zeros 3 : List Byte).length ≠ w19.bytes ∧ w18.host.busMaster = true ∧ w19.accepted = true ∧ w19.wait = DmaWait.output ([1,2] : List Byte) (zeros 4 : List Byte) ∧ w19.opcode ≠ 2563) ∧
    ((∀ (j : Fin 8), (w20.chan j).rungPi = (w20.chan j).reqCi) ∧ w20.host.busMaster = false) :=
  ⟨by decide +kernel, by decide +kernel, by decide +kernel, by decide +kernel, by decide +kernel⟩

end S22

namespace S30
def co (lo : Nat) := ask cmdChannelOpen 2 (leBytes 2 lo ++ zeros 2)
def lg : RecoveryLog := { source := 1, startFrame := 77, lossRtc := 5, entries := [⟨5, 0x0201, 3, true⟩] }
def sl := ready.setHost fun h => { h with recoveryPending := true, recovery := some lg }
def n := lg.bytes.length
def sj := ready.setChan 2 fun c => { c with window := [{ entryOf 9 .pending with ticket := 4, jobState := 1, startTick := 5000, opcode := 0x0301 }] }
def w1 : Request := (ask cmdRecoveryRead 2 (zeros 8)) 
def w2 : Request := (ask cmdRecoveryRead 2 (zeros 8)) 
def w3 : Request := (ask cmdRecoveryAck 2 (leBytes 8 77)) 
def w4 : Request := (ask cmdRecoveryAck 2 (leBytes 8 78)) 
def w5 : Request := (ask cmdJobStatus 2 (leBytes 4 4)) 
def w6 : Request := (ask cmdWarmReset 2 (leBytes 4 0xA55A)) 
def w7 : State := (ready.setMgmt fun m => { m with warmReset := some ⟨1,1⟩}) 
def w8 : Request := (ask cmdWarmReset 2 (leBytes 4 0xA55A)) 

theorem witness_SystemCommandsAnswerAndTakeEffect :
    ((((co 0x100)  : Request).zero 2 2 = true ∧ (negotiate ((co 0x100)  : Request).version (BitVec.ofNat 16 (((co 0x100)  : Request).u 0 2))).isSome = true ∧ ((State.judged ((co 0x100)  : Request) ready).chan ((co 0x100)  : Request).channel).awaiting = false ∧ 0 ≠ ((co 0x100)  : Request).channel ∧ (State.judged ((co 0x100)  : Request) ready).ticketEntry (((co 0x100)  : Request).u 0 4) = none) ∧ ready.Admits cmdChannelOpen ((co 0x100)  : Request) ∧ ready.Admits cmdJobStatus ((co 0x100)  : Request)) ∧
    (((co 0x205)  : Request).zero 2 2 = true ∧ ready.Admits cmdChannelOpen ((co 0x205)  : Request) ∧ (∀ y ∈ servedVersions, y ≤ ((co 0x205)  : Request).version → y < BitVec.ofNat 16 (((co 0x205)  : Request).u 0 2))) ∧
    (ready.Admits cmdDeviceInfo ((ask cmdDeviceInfo 2 [])  : Request)) ∧
    ((((State.judged w1 sl).pendingLog).isSome = true ∧ (State.judged w1 sl).pendingLog.get!.bytes.length ≤ n) ∧ sl.Admits cmdRecoveryRead w1 ∧ sl.Lists w1 (list1 n : List Byte) n) ∧
    ((State.judged w2 ready).pendingLog = none ∧ ready.Admits cmdRecoveryRead w2 ∧ ready.Lists w2 (list1 n : List Byte) n) ∧
    ((((State.judged w3 sl).pendingLog).isSome = true ∧ w3.u 0 8 = (State.judged w3 sl).pendingLog.get!.startFrame.toNat) ∧ sl.Admits cmdRecoveryAck w3) ∧
    ((((State.judged w4 sl).pendingLog).isSome = true ∧ w4.u 0 8 ≠ (State.judged w4 sl).pendingLog.get!.startFrame.toNat) ∧ sl.Admits cmdRecoveryAck w4) ∧
    ((((State.judged w5 sj).ticketEntry (w5.u 0 4)).isSome = true ∧ ((State.judged w5 sj).ticketEntry (w5.u 0 4)).get!.bound = 0 ∧ ((State.judged w5 sj).ticketEntry (w5.u 0 4)).get!.jobState ≠ 0) ∧ sj.Admits cmdJobStatus w5) ∧
    ((w6.u 0 4 = 42330 ∧ (State.judged w6 ready).mgmt.warmReset = none ∧ (State.judged w6 ready).host.service ≠ 0 ∧ (State.judged w6 ready).host.service ≠ 3) ∧ ready.Admits cmdWarmReset w6) ∧
    ((w8.u 0 4 = 42330 ∧ (State.judged w8 w7).mgmt.warmReset ≠ none) ∧ w7.Admits cmdWarmReset w8) :=
  ⟨⟨by decide +kernel, admits_of (by decide +kernel), admits_of (by decide +kernel)⟩, ⟨by decide +kernel, admits_of (by decide +kernel), List.forall_iff_forall_mem.1 (by decide +kernel)⟩, admits_of (by decide +kernel), ⟨by decide +kernel, admits_of (by decide +kernel), lists_of (by decide +kernel)⟩, ⟨by decide +kernel, admits_of (by decide +kernel), lists_of (by decide +kernel)⟩, ⟨by decide +kernel, admits_of (by decide +kernel)⟩, ⟨by decide +kernel, admits_of (by decide +kernel)⟩, ⟨by decide +kernel, admits_of (by decide +kernel)⟩, ⟨by decide +kernel, admits_of (by decide +kernel)⟩, ⟨by decide +kernel, admits_of (by decide +kernel)⟩⟩

end S30

namespace S31
def pf (p : Nat) := leBytes 2 p ++ zeros 2
def en := ask cmdPortEnable 3 (pf 511)
def up (m : PortMode) (f : Port → Port := id) := ready.setPort 511 fun q => f { q with mode := m }
def offd := { ready with pwr := { ready.pwr with modes := ready.pwr.modes.set 31 .off } }
def mk := ready.setBist fun x => { x with marks := [(1, 511)] }
def bads := ready.setPort 511 fun q => { q with staged := { q.staged with version := some 3, inFormats := some (Vector.replicate 256 1), inBundles := some [(3, 2)] , role := some .seam} }
def sp := ask cmdPortStop 3 (pf 511)
def rs := ask cmdPortRestart 3 (pf 511)
def ps (a : Nat) (v : List Byte) := ask cmdPortSet 3 (leBytes 2 511 ++ leBytes 1 a ++ zeros 1 ++ padTo 40 v)
def fo (d : Nat) := ask cmdPortFormats 3 (leBytes 2 511 ++ leBytes 1 d ++ zeros 1 ++ List.replicate 256 6)
def bu (d : Nat) (bs : List (Nat × Nat)) := ask cmdPortBundles 3 (leBytes 2 511 ++ leBytes 1 d ++ zeros 1 ++ leBytes 2 bs.length ++ zeros 2 ++ padTo 512 (bs.flatMap fun b => leBytes 1 b.1 ++ leBytes 1 (b.2-1)))
def w1 : State := (up .up) 
def w2 : State := (up .stopped) 
def w3 : State := (up .stopped fun q => { q with resuming := true, frameMark := 88 }) 
def w4 : State := (up .stopped fun q => { q with staged := { q.staged with txPreset := some 3 } }) 
def w5 : State := (up .up) 
def w6 : Request := (ps 2 (List.replicate 34 65)) 
def w7 : State := (up .up) 
def w8 : State := (up .up) 
def w9 : State := (up .up) 
def w10 : State := (up .up) 
def w11 : Request := (ask cmdPortStatusAll 7 (zeros 8)) 

theorem witness_PortCommandsAnswerAndTakeEffect_part2 :
    ((((ps 6 [16])  : Request).u 0 2 = 511 ∧ cmdPortSet.range ((ps 6 [16])  : Request) = none ∧ 4 ≤ ((ps 6 [16])  : Request).u 2 1 ∧ ((State.judged ((ps 6 [16])  : Request) ready).port 511).takesStaged = true ∧ (((ps 6 [16])  : Request).u 2 1 ≠ 5 ∨ (State.judged ((ps 6 [16])  : Request) ready).portMarked 511 = false) ∧ ((ps 6 [16])  : Request).u 2 1 = 6) ∧ ready.Admits cmdPortSet ((ps 6 [16])  : Request)) ∧
    ((((ps 7 [15])  : Request).u 0 2 = 511 ∧ cmdPortSet.range ((ps 7 [15])  : Request) = none ∧ 4 ≤ ((ps 7 [15])  : Request).u 2 1 ∧ ((State.judged ((ps 7 [15])  : Request) ready).port 511).takesStaged = true ∧ (((ps 7 [15])  : Request).u 2 1 ≠ 5 ∨ (State.judged ((ps 7 [15])  : Request) ready).portMarked 511 = false) ∧ ((ps 7 [15])  : Request).u 2 1 = 7) ∧ ready.Admits cmdPortSet ((ps 7 [15])  : Request)) ∧
    ((((ps 8 [2])  : Request).u 0 2 = 511 ∧ cmdPortSet.range ((ps 8 [2])  : Request) = none ∧ 4 ≤ ((ps 8 [2])  : Request).u 2 1 ∧ ((State.judged ((ps 8 [2])  : Request) ready).port 511).takesStaged = true ∧ (((ps 8 [2])  : Request).u 2 1 ≠ 5 ∨ (State.judged ((ps 8 [2])  : Request) ready).portMarked 511 = false) ∧ ((ps 8 [2])  : Request).u 2 1 = 8) ∧ ready.Admits cmdPortSet ((ps 8 [2])  : Request)) ∧
    ((((ps 5 [1])  : Request).u 0 2 = 511 ∧ cmdPortSet.range ((ps 5 [1])  : Request) = none ∧ ((ps 5 [1])  : Request).u 2 1 = 5 ∧ ((State.judged ((ps 5 [1])  : Request) mk).port 511).takesStaged = true ∧ (State.judged ((ps 5 [1])  : Request) mk).portMarked 511 = true) ∧ mk.Admits cmdPortSet ((ps 5 [1])  : Request)) ∧
    ((((ps 8 [2])  : Request).u 0 2 = 511 ∧ cmdPortSet.range ((ps 8 [2])  : Request) = none ∧ 4 ≤ ((ps 8 [2])  : Request).u 2 1 ∧ ((State.judged ((ps 8 [2])  : Request) w9).port 511).takesStaged = false) ∧ w9.Admits cmdPortSet ((ps 8 [2])  : Request)) ∧
    ((((fo 0)  : Request).u 0 2 = 511 ∧ cmdPortFormats.range ((fo 0)  : Request) = none ∧ ((State.judged ((fo 0)  : Request) ready).port 511).takesStaged = true ∧ ((fo 0)  : Request).u 2 1 = 0) ∧ ready.Admits cmdPortFormats ((fo 0)  : Request)) ∧
    ((((fo 1)  : Request).u 0 2 = 511 ∧ cmdPortFormats.range ((fo 1)  : Request) = none ∧ ((State.judged ((fo 1)  : Request) ready).port 511).takesStaged = true ∧ ((fo 1)  : Request).u 2 1 = 1) ∧ ready.Admits cmdPortFormats ((fo 1)  : Request)) ∧
    ((((fo 1)  : Request).u 0 2 = 511 ∧ cmdPortFormats.range ((fo 1)  : Request) = none ∧ ((State.judged ((fo 1)  : Request) w10).port 511).takesStaged = false) ∧ w10.Admits cmdPortFormats ((fo 1)  : Request)) ∧
    (w11.u 0 2 = 0 ∧ ready.Admits cmdPortStatusAll w11 ∧ ready.Lists w11 (list1 40960  : List Byte) 40960 ∧ ready.Lists w11 (list1 40959 : List Byte) 40959) ∧
    ((((bu 0 [(3,2),(255,1)])  : Request).u 0 2 = 511 ∧ cmdPortBundles.range ((bu 0 [(3,2),(255,1)])  : Request) = none ∧ ((State.judged ((bu 0 [(3,2),(255,1)])  : Request) ready).port 511).takesStaged = true ∧ bundlesOverlap (bundlesOf ((bu 0 [(3,2),(255,1)])  : Request)) = false ∧ (bundlesMixed (bundlesOf ((bu 0 [(3,2),(255,1)])  : Request)) (if ((bu 0 [(3,2),(255,1)])  : Request).u 2 1 = 0 then ((State.judged ((bu 0 [(3,2),(255,1)])  : Request) ready).port 511).nextSettings.inFormats else ((State.judged ((bu 0 [(3,2),(255,1)])  : Request) ready).port 511).nextSettings.outFormats) = false) ∧ ((bu 0 [(3,2),(255,1)])  : Request).u 2 1 = 0) ∧ ready.Admits cmdPortBundles ((bu 0 [(3,2),(255,1)])  : Request)) ∧
    ((((bu 1 [(0,256)])  : Request).u 0 2 = 511 ∧ cmdPortBundles.range ((bu 1 [(0,256)])  : Request) = none ∧ ((State.judged ((bu 1 [(0,256)])  : Request) ready).port 511).takesStaged = true ∧ bundlesOverlap (bundlesOf ((bu 1 [(0,256)])  : Request)) = false ∧ (bundlesMixed (bundlesOf ((bu 1 [(0,256)])  : Request)) (if ((bu 1 [(0,256)])  : Request).u 2 1 = 0 then ((State.judged ((bu 1 [(0,256)])  : Request) ready).port 511).nextSettings.inFormats else ((State.judged ((bu 1 [(0,256)])  : Request) ready).port 511).nextSettings.outFormats) = false) ∧ ((bu 1 [(0,256)])  : Request).u 2 1 = 1) ∧ ready.Admits cmdPortBundles ((bu 1 [(0,256)])  : Request)) ∧
    ((((bu 1 [(0,2),(1,4)])  : Request).u 0 2 = 511 ∧ cmdPortBundles.range ((bu 1 [(0,2),(1,4)])  : Request) = none ∧ ((State.judged ((bu 1 [(0,2),(1,4)])  : Request) ready).port 511).takesStaged = true ∧ (bundlesOverlap (bundlesOf ((bu 1 [(0,2),(1,4)])  : Request)) = true ∨ bundlesMixed (bundlesOf ((bu 1 [(0,2),(1,4)])  : Request)) (if ((bu 1 [(0,2),(1,4)])  : Request).u 2 1 = 0 then ((State.judged ((bu 1 [(0,2),(1,4)])  : Request) ready).port 511).nextSettings.inFormats else ((State.judged ((bu 1 [(0,2),(1,4)])  : Request) ready).port 511).nextSettings.outFormats) = true)) ∧ ready.Admits cmdPortBundles ((bu 1 [(0,2),(1,4)])  : Request)) :=
  ⟨⟨by decide +kernel, admits_of (by decide +kernel)⟩, ⟨by decide +kernel, admits_of (by decide +kernel)⟩, ⟨by decide +kernel, admits_of (by decide +kernel)⟩, ⟨by decide +kernel, admits_of (by decide +kernel)⟩, ⟨by decide +kernel, admits_of (by decide +kernel)⟩, ⟨by decide +kernel, admits_of (by decide +kernel)⟩, ⟨by decide +kernel, admits_of (by decide +kernel)⟩, ⟨by decide +kernel, admits_of (by decide +kernel)⟩, ⟨by decide +kernel, admits_of (by decide +kernel), lists_of (by decide +kernel), lists_of (by decide +kernel)⟩, ⟨by decide +kernel, admits_of (by decide +kernel)⟩, ⟨by decide +kernel, admits_of (by decide +kernel)⟩, ⟨by decide +kernel, admits_of (by decide +kernel)⟩⟩

theorem witness_PortCommandsAnswerAndTakeEffect :
    ((en.u 0 2 = 511 ∧ en.zero 2 2 = true ∧ (State.judged en ready).domainOn (laneGroup 511) = true ∧ ((State.judged en ready).port 511).mode = PortMode.down ∧ (State.judged en ready).portMarked 511 = false ∧ (State.judged en ready).stagedOk 511 = true ∧ ((State.judged en ready).port 511).mode ≠ PortMode.stopped) ∧ ready.Admits cmdPortEnable en ∧ ready.Admits cmdPortDisable en ∧ ready.Admits cmdPortStop en ∧ ready.Admits cmdPortRestart en ∧ ready.Admits cmdPortStatus en) ∧
    ((en.u 0 2 = 511 ∧ en.zero 2 2 = true ∧ (State.judged en w1).domainOn (laneGroup 511) = true ∧ ((State.judged en w1).port 511).mode ≠ PortMode.down ∧ ((State.judged en w1).port 511).takesStaged = false) ∧ w1.Admits cmdPortEnable en ∧ w1.Admits cmdPortDisable en ∧ w1.Admits cmdPortStop en) ∧
    ((en.u 0 2 = 511 ∧ en.zero 2 2 = true ∧ (State.judged en offd).domainOn (laneGroup 511) = false) ∧ offd.Admits cmdPortEnable en) ∧
    ((en.u 0 2 = 511 ∧ en.zero 2 2 = true ∧ (State.judged en mk).domainOn (laneGroup 511) = true ∧ ((State.judged en mk).port 511).mode = PortMode.down ∧ (State.judged en mk).portMarked 511 = true) ∧ mk.Admits cmdPortEnable en) ∧
    ((en.u 0 2 = 511 ∧ en.zero 2 2 = true ∧ (State.judged en bads).domainOn (laneGroup 511) = true ∧ ((State.judged en bads).port 511).mode = PortMode.down ∧ (State.judged en bads).portMarked 511 = false ∧ (State.judged en bads).stagedOk 511 = false) ∧ bads.Admits cmdPortEnable en) ∧
    ((sp.u 0 2 = 511 ∧ sp.zero 2 2 = true ∧ ((State.judged sp w2).port 511).mode = PortMode.stopped ∧ ((State.judged sp w2).port 511).resuming = false ∧ (State.judged sp w2).stagedOk 511 = true ∧ ((State.judged sp w2).port 511).staged.retrains = false) ∧ w2.Admits cmdPortStop sp ∧ w2.Admits cmdPortRestart sp) ∧
    ((sp.u 0 2 = 511 ∧ sp.zero 2 2 = true ∧ ((State.judged sp w3).port 511).mode = PortMode.stopped ∧ ((State.judged sp w3).port 511).resuming = true) ∧ w3.Admits cmdPortRestart sp) ∧
    ((rs.u 0 2 = 511 ∧ rs.zero 2 2 = true ∧ ((State.judged rs w4).port 511).mode = PortMode.stopped ∧ ((State.judged rs w4).port 511).resuming = false ∧ (State.judged rs w4).stagedOk 511 = true ∧ ((State.judged rs w4).port 511).staged.retrains = true) ∧ w4.Admits cmdPortRestart rs) ∧
    ((((ps 1 [])  : Request).u 0 2 = 511 ∧ cmdPortSet.range ((ps 1 [])  : Request) = none ∧ ((ps 1 [])  : Request).u 2 1 ≤ 3 ∧ ((ps 1 [])  : Request).u 2 1 = 1) ∧ w5.Admits cmdPortSet ((ps 1 [])  : Request)) ∧
    ((w6.u 0 2 = 511 ∧ cmdPortSet.range w6 = none ∧ w6.u 2 1 ≤ 3 ∧ w6.u 2 1 = 2) ∧ w7.Admits cmdPortSet w6) ∧
    ((((ps 3 [3, 4, 4, 8])  : Request).u 0 2 = 511 ∧ cmdPortSet.range ((ps 3 [3, 4, 4, 8])  : Request) = none ∧ ((ps 3 [3, 4, 4, 8])  : Request).u 2 1 ≤ 3 ∧ ((ps 3 [3, 4, 4, 8])  : Request).u 2 1 = 3) ∧ w8.Admits cmdPortSet ((ps 3 [3, 4, 4, 8])  : Request)) ∧
    ((((ps 4 [2])  : Request).u 0 2 = 511 ∧ cmdPortSet.range ((ps 4 [2])  : Request) = none ∧ 4 ≤ ((ps 4 [2])  : Request).u 2 1 ∧ ((State.judged ((ps 4 [2])  : Request) ready).port 511).takesStaged = true ∧ (((ps 4 [2])  : Request).u 2 1 ≠ 5 ∨ (State.judged ((ps 4 [2])  : Request) ready).portMarked 511 = false) ∧ ((ps 4 [2])  : Request).u 2 1 = 4) ∧ ready.Admits cmdPortSet ((ps 4 [2])  : Request)) ∧
    ((((ps 5 [1])  : Request).u 0 2 = 511 ∧ cmdPortSet.range ((ps 5 [1])  : Request) = none ∧ 4 ≤ ((ps 5 [1])  : Request).u 2 1 ∧ ((State.judged ((ps 5 [1])  : Request) ready).port 511).takesStaged = true ∧ (((ps 5 [1])  : Request).u 2 1 ≠ 5 ∨ (State.judged ((ps 5 [1])  : Request) ready).portMarked 511 = false) ∧ ((ps 5 [1])  : Request).u 2 1 = 5) ∧ ready.Admits cmdPortSet ((ps 5 [1])  : Request)) :=
  ⟨⟨by decide +kernel, admits_of (by decide +kernel), admits_of (by decide +kernel), admits_of (by decide +kernel), admits_of (by decide +kernel), admits_of (by decide +kernel)⟩, ⟨by decide +kernel, admits_of (by decide +kernel), admits_of (by decide +kernel), admits_of (by decide +kernel)⟩, ⟨by decide +kernel, admits_of (by decide +kernel)⟩, ⟨by decide +kernel, admits_of (by decide +kernel)⟩, ⟨by decide +kernel, admits_of (by decide +kernel)⟩, ⟨by decide +kernel, admits_of (by decide +kernel), admits_of (by decide +kernel)⟩, ⟨by decide +kernel, admits_of (by decide +kernel)⟩, ⟨by decide +kernel, admits_of (by decide +kernel)⟩, ⟨by decide +kernel, admits_of (by decide +kernel)⟩, ⟨by decide +kernel, admits_of (by decide +kernel)⟩, ⟨by decide +kernel, admits_of (by decide +kernel)⟩, ⟨by decide +kernel, admits_of (by decide +kernel)⟩, ⟨by decide +kernel, admits_of (by decide +kernel)⟩⟩

end S31

namespace S32
def sh (m : ShadowMode) (f : MapState → MapState := id) := { ready with map := f { ready.map with shadowMode := m } }
def qs := ask cmdMapSolve 3 (zeros 8)
def job : MapJob := { command := ⟨3, 0x99⟩, raw := false, data := none, base := 0, started := 9999999990, checked := none, settings := ready.ports.map (·.settings), protects := [] }
def sjob := (sh .building fun m => { m with job := some job }).setChan 3 fun c => { c with window := [{ entryOf 0x99 .pending 272 with ticket := 5, jobState := 1 }] }
def qc := ask cmdMapCancelJob 3 (leBytes 4 5)
def qb := ask cmdMapCancelBank 3 []
def qw (m f : Nat) := ask cmdMapSwap 3 (leBytes 1 m ++ zeros 7 ++ leBytes 8 f)
def jn := { sh .ready with casc := { ready.casc with mode := .joined, role := .slave } }
def sw := (sh .scheduled fun m => { m with swap := some { frame := ready.clock.frame + 8, persist := false, command := some ⟨3, 0x98⟩, latched := false } }).setChan 3 fun c => { c with window := [entryOf 0x98 .accepted 16] }
def qx := ask cmdMapSwapCancel 3 []
def md (k : Nat) := ask cmdMapRead 7 (zeros 8 ++ leBytes 1 k ++ zeros 7)
def pl (k m : Nat) := ask cmdPlaneSet 3 (leBytes 1 k ++ leBytes 1 m ++ zeros 2)
def po (m : PlaneMode) (u : Bool := false) := sh .mirror fun x => { x with planes := x.planes.set 3 { (default : Plane) with mode := m, unusable := u } }
def w1 : State := (sh .mirroring) 
def w2 : State := (sh .ready) 
def w3 : State := (sh .ready) 
def w4 : State := (sh .ready) 
def w5 : State := (sh .ready) 
def w6 : State := (sh .held) 
def w7 : State := (sh .mirror fun m => { m with persisting := some { Bank.empty with generation := 3 } }) 
def w8 : State := (po .off) 
def w9 : State := (po .off true) 
def w10 : State := (po .on) 
def w11 : State := (po .on) 
def w12 : State := (po .testing) 

theorem witness_MapCommandsAnswerAndTakeEffect_part2 :
    ((cmdMapRead.range ((md 1)  : Request) = none ∧ (State.judged ((md 1)  : Request) w6).mapOutput (((md 1)  : Request).u 8 1) = none) ∧ w6.Admits cmdMapRead ((md 1)  : Request) ∧ w6.Lists ((md 1)  : Request) (list1 6000000 : List Byte) 6000000) ∧
    (w7.map.persisting ≠ none ∧ w7.Admits cmdMapPersist ((ask cmdMapPersist 3 [])  : Request)) ∧
    ((((pl 3 1)  : Request).u 0 1 = ↑(Fin.ofNat 4 (((pl 3 1)  : Request).u 0 1)) ∧ ((pl 3 1)  : Request).u 1 1 ≤ 1 ∧ ((pl 3 1)  : Request).zero 2 2 = true ∧ ((pl 3 1)  : Request).u 1 1 = 1 ∧ (State.judged ((pl 3 1)  : Request) w8).map.planes[Fin.ofNat 4 (((pl 3 1)  : Request).u 0 1)].mode = PlaneMode.off ∧ (State.judged ((pl 3 1)  : Request) w8).map.planes[Fin.ofNat 4 (((pl 3 1)  : Request).u 0 1)].unusable = false) ∧ w8.Admits cmdPlaneSet ((pl 3 1)  : Request)) ∧
    ((((pl 3 1)  : Request).u 0 1 = ↑(Fin.ofNat 4 (((pl 3 1)  : Request).u 0 1)) ∧ ((pl 3 1)  : Request).u 1 1 ≤ 1 ∧ ((pl 3 1)  : Request).zero 2 2 = true ∧ ((pl 3 1)  : Request).u 1 1 = 1 ∧ (State.judged ((pl 3 1)  : Request) w9).map.planes[Fin.ofNat 4 (((pl 3 1)  : Request).u 0 1)].mode ≠ PlaneMode.on ∧ (State.judged ((pl 3 1)  : Request) w9).map.planes[Fin.ofNat 4 (((pl 3 1)  : Request).u 0 1)].unusable = true) ∧ w9.Admits cmdPlaneSet ((pl 3 1)  : Request)) ∧
    ((((pl 3 0)  : Request).u 0 1 = ↑(Fin.ofNat 4 (((pl 3 0)  : Request).u 0 1)) ∧ ((pl 3 0)  : Request).u 1 1 ≤ 1 ∧ ((pl 3 0)  : Request).zero 2 2 = true ∧ ((pl 3 0)  : Request).u 1 1 = 0 ∧ (State.judged ((pl 3 0)  : Request) w10).map.planes[Fin.ofNat 4 (((pl 3 0)  : Request).u 0 1)].mode = PlaneMode.on ∧ ((State.judged ((pl 3 0)  : Request) w10).map.shadowMode = ShadowMode.mirror ∨ (State.judged ((pl 3 0)  : Request) w10).map.shadowMode = ShadowMode.mirroring) ∧ ((State.judged ((pl 3 0)  : Request) w10).chan ((pl 3 0)  : Request).channel).find ((pl 3 0)  : Request).token = none) ∧ w10.Admits cmdPlaneSet ((pl 3 0)  : Request)) ∧
    ((((pl 3 1)  : Request).u 0 1 = ↑(Fin.ofNat 4 (((pl 3 1)  : Request).u 0 1)) ∧ ((pl 3 1)  : Request).u 1 1 ≤ 1 ∧ ((pl 3 1)  : Request).zero 2 2 = true ∧ (((pl 3 1)  : Request).u 1 1 = 1 ∧ (State.judged ((pl 3 1)  : Request) w11).map.planes[Fin.ofNat 4 (((pl 3 1)  : Request).u 0 1)].mode = PlaneMode.on ∨ ((pl 3 1)  : Request).u 1 1 = 0 ∧ (State.judged ((pl 3 1)  : Request) w11).map.planes[Fin.ofNat 4 (((pl 3 1)  : Request).u 0 1)].mode = PlaneMode.off)) ∧ w11.Admits cmdPlaneSet ((pl 3 1)  : Request)) ∧
    ((((pl 3 0)  : Request).u 0 1 = ↑(Fin.ofNat 4 (((pl 3 0)  : Request).u 0 1)) ∧ ((pl 3 0)  : Request).u 1 1 ≤ 1 ∧ ((pl 3 0)  : Request).zero 2 2 = true ∧ ((pl 3 0)  : Request).u 1 1 = 0 ∧ (State.judged ((pl 3 0)  : Request) w12).map.planes[Fin.ofNat 4 (((pl 3 0)  : Request).u 0 1)].mode = PlaneMode.testing) ∧ w12.Admits cmdPlaneSet ((pl 3 0)  : Request)) :=
  ⟨⟨by decide +kernel, admits_of (by decide +kernel), lists_of (by decide +kernel)⟩, ⟨by decide +kernel, admits_of (by decide +kernel)⟩, ⟨by decide +kernel, admits_of (by decide +kernel)⟩, ⟨by decide +kernel, admits_of (by decide +kernel)⟩, ⟨by decide +kernel, admits_of (by decide +kernel)⟩, ⟨by decide +kernel, admits_of (by decide +kernel)⟩, ⟨by decide +kernel, admits_of (by decide +kernel)⟩⟩

theorem witness_MapCommandsAnswerAndTakeEffect :
    (((State.judged qs ready).map.shadowMode = ShadowMode.mirror ∧ ready.deferred = []) ∧ (Instr.mapSolve = Instr.mapSolve ∧ cmdMapSolve = cmdMapSolve ∧ false = false ∨ Instr.mapSolve = Instr.mapRawLoad ∧ cmdMapSolve = cmdMapRawLoad ∧ false = true) ∧ ready.Admits cmdMapSolve qs ∧ ready.Lists qs (list1 64 : List Byte) 64) ∧
    (((State.judged qs w1).map.shadowMode = ShadowMode.mirroring ∧ (State.judged qs w1).map.queued = none) ∧ (Instr.mapSolve = Instr.mapSolve ∧ cmdMapSolve = cmdMapSolve ∧ false = false ∨ Instr.mapSolve = Instr.mapRawLoad ∧ cmdMapSolve = cmdMapRawLoad ∧ false = true) ∧ w1.Admits cmdMapSolve qs ∧ w1.Lists qs (list1 64 : List Byte) 64) ∧
    (((State.judged qs w2).map.shadowMode ≠ ShadowMode.mirror ∧ ((State.judged qs w2).map.shadowMode ≠ ShadowMode.mirroring ∨ (State.judged qs w2).map.queued ≠ none)) ∧ (Instr.mapSolve = Instr.mapSolve ∧ cmdMapSolve = cmdMapSolve ∧ false = false ∨ Instr.mapSolve = Instr.mapRawLoad ∧ cmdMapSolve = cmdMapRawLoad ∧ false = true) ∧ w2.Admits cmdMapSolve qs ∧ w2.Lists qs (list1 64 : List Byte) 64) ∧
    ((((State.judged qc sjob).map.job).isSome = true ∧ (((State.judged qc sjob).chan (State.judged qc sjob).map.job.get!.command.channel).recorded (State.judged qc sjob).map.job.get!.command.token).isSome = true ∧ (((State.judged qc sjob).chan (State.judged qc sjob).map.job.get!.command.channel).recorded (State.judged qc sjob).map.job.get!.command.token).get!.ticket.toNat = qc.u 0 4) ∧ sjob.Admits cmdMapCancelJob qc) ∧
    ((State.judged qc ready).mapTicket (qc.u 0 4) = false ∧ ready.Admits cmdMapCancelJob qc) ∧
    (((State.judged qb w3).map.shadowMode = ShadowMode.ready ∧ ((State.judged qb w3).casc.mode = CascadeMode.joined ∨ (State.judged qb w3).map.swap = none) ∧ w3.map.persisting = none) ∧ w3.Admits cmdMapCancelBank qb ∧ w3.Admits cmdMapSwapCancel qb ∧ w3.Admits cmdMapStatus qb ∧ w3.Admits cmdMapPersist qb) ∧
    ((State.judged qb ready).map.shadowMode ≠ ShadowMode.ready ∧ ready.Admits cmdMapCancelBank qb) ∧
    ((cmdMapSwap.range ((qw 0 0)  : Request) = none ∧ (State.judged ((qw 0 0)  : Request) w4).map.shadowMode = ShadowMode.ready ∧ (State.judged ((qw 0 0)  : Request) w4).casc.mode = CascadeMode.standalone ∧ (((qw 0 0)  : Request).u 0 1 = 0 ∧ (ready.clock.frame + 8 : BitVec 64) = w4.clock.frame + 8 ∨ ((qw 0 0)  : Request).u 0 1 = 1 ∧ (ready.clock.frame + 8 : BitVec 64).toNat = ((qw 0 0)  : Request).u 8 8 ∧ w4.clock.frame.toNat + 8 ≤ (ready.clock.frame + 8 : BitVec 64).toNat ∧ (ready.clock.frame + 8 : BitVec 64).toNat ≤ w4.clock.frame.toNat + 8589934592) ∧ w4.deferred = []) ∧ w4.Admits cmdMapSwap ((qw 0 0)  : Request)) ∧
    ((cmdMapSwap.range ((qw 1 2000000000000007)  : Request) = none ∧ (State.judged ((qw 1 2000000000000007)  : Request) w5).map.shadowMode = ShadowMode.ready ∧ (State.judged ((qw 1 2000000000000007)  : Request) w5).casc.mode = CascadeMode.standalone ∧ ((qw 1 2000000000000007)  : Request).u 0 1 = 1 ∧ (State.judged ((qw 1 2000000000000007)  : Request) w5).swapFrameOk (((qw 1 2000000000000007)  : Request).u 8 8) = false) ∧ w5.Admits cmdMapSwap ((qw 1 2000000000000007)  : Request)) ∧
    ((cmdMapSwap.range ((qw 0 0)  : Request) = none ∧ (State.judged ((qw 0 0)  : Request) jn).map.shadowMode = ShadowMode.ready ∧ (State.judged ((qw 0 0)  : Request) jn).casc.mode = CascadeMode.joined ∧ (State.judged ((qw 0 0)  : Request) jn).cascadeSwapOpen = false ∧ (((qw 0 0)  : Request).u 0 1 = 0 ∨ (State.judged ((qw 0 0)  : Request) jn).swapFrameOk (((qw 0 0)  : Request).u 8 8) = true) ∧ jn.deferred = [] ∧ jn.casc.role ≠ CascadeRole.master) ∧ jn.Admits cmdMapSwap ((qw 0 0)  : Request)) ∧
    ((cmdMapSwap.range ((qw 0 0)  : Request) = none ∧ (State.judged ((qw 0 0)  : Request) ready).map.shadowMode ≠ ShadowMode.ready) ∧ ready.Admits cmdMapSwap ((qw 0 0)  : Request)) ∧
    (((State.judged qx sw).casc.mode = CascadeMode.standalone ∧ (State.judged qx sw).casc.staged = none ∧ (State.judged qx sw).map.shadowMode = ShadowMode.scheduled ∧ ((State.judged qx sw).map.swap).isSome = true ∧ (State.judged qx sw).map.swap.get!.latched = false ∧ sw.clock.frame.toNat + 8 ≤ (State.judged qx sw).map.swap.get!.frame.toNat ∧ sw.deferred = [] ∧ ((State.judged qx sw).map.swap.get!.command).isSome = true ∧ (sw.chan qx.channel).window.length < 512) ∧ sw.Admits cmdMapSwapCancel qx ∧ (∀ (x : MapSwap), sw.map.swap = some x → x.command ≠ some qx.ref)) ∧
    ((cmdMapRead.range ((md 0)  : Request) = none ∧ ready.map.active.image ≠ [] ∧ ready.map.active.imageLength ≤ 6000000) ∧ ready.Admits cmdMapRead ((md 0)  : Request) ∧ ready.Lists ((md 0)  : Request) (list1 6000000 : List Byte) 6000000 ∧ (State.judged ((md 0)  : Request) ready).mapOutput (((md 0)  : Request).u 8 1) = some (ready.map.active.imageLength, ready.map.active.image, 0)) :=
  ⟨⟨by decide +kernel, Or.inl ⟨rfl, rfl, by decide +kernel⟩, admits_of (by decide +kernel), lists_of (by decide +kernel)⟩, ⟨by decide +kernel, Or.inl ⟨rfl, rfl, by decide +kernel⟩, admits_of (by decide +kernel), lists_of (by decide +kernel)⟩, ⟨by decide +kernel, Or.inl ⟨rfl, rfl, by decide +kernel⟩, admits_of (by decide +kernel), lists_of (by decide +kernel)⟩, ⟨by decide +kernel, admits_of (by decide +kernel)⟩, ⟨by decide +kernel, admits_of (by decide +kernel)⟩, ⟨by decide +kernel, admits_of (by decide +kernel), admits_of (by decide +kernel), admits_of (by decide +kernel), admits_of (by decide +kernel)⟩, ⟨by decide +kernel, admits_of (by decide +kernel)⟩, ⟨by decide +kernel, admits_of (by decide +kernel)⟩, ⟨by decide +kernel, admits_of (by decide +kernel)⟩, ⟨by decide +kernel, admits_of (by decide +kernel)⟩, ⟨by decide +kernel, admits_of (by decide +kernel)⟩, ⟨by decide +kernel, admits_of (by decide +kernel), of_all (by decide +kernel)⟩, ⟨by decide +kernel, admits_of (by decide +kernel), lists_of (by decide +kernel), rfl⟩⟩

end S32

namespace S33
def gd (oneN k p w : Nat) := ask cmdGroupDeclare 3 ([255, BitVec.ofNat 8 oneN, BitVec.ofNat 8 k, 1] ++ leBytes 2 100 ++ [5, 0] ++ leBytes 2 256 ++ leBytes 2 1 ++ leBytes 2 p ++ zeros 2 ++ padTo 30 ((List.range k).flatMap fun i => leBytes 2 (w+i)) ++ zeros 2)
def line := { ready with ports := ready.ports.map fun (q : Port) => { q with settings := { q.settings with role := .line } } }
def st (g : Nat) := ProtGroup.mk (g = 1) 511 [0,1] 1 { revertive := true, holdOff := 0, wtr := 5, sdCrit := false, threshold := 256 } .idle
def sg (f : ProtUnit → ProtUnit := id) := { line with prot := { line.prot with groups := line.prot.groups.set 255 (some { st 1 with unit := f (st 1).unit }) } }
def gm := ask cmdGroupModify 3 ([255, 1, 3, 0, 12, 1] ++ leBytes 2 1 ++ zeros 4)
def gx := ask cmdGroupDelete 3 [255, 0, 0, 0]
def pc (t c m id : Nat) := ask cmdProtCommand 3 ([BitVec.ofNat 8 t, BitVec.ofNat 8 c, BitVec.ofNat 8 m, 0] ++ leBytes 4 id)
def pr := { line with map := { line.map with active := { Bank.empty with pairs := [⟨7, 1, 2, 3, 4, 5⟩] } } }
def pp (op : Nat) := ask cmdPairSettings 3 (leBytes 4 7 ++ (if op = 0 then [0, 1] ++ leBytes 2 9 ++ [12, 1] else [1,0,0,0,0,0]) ++ zeros 2)
def pq (t id : Nat) := ask cmdProtStatus 3 ([BitVec.ofNat 8 t, 0, 0, 0] ++ leBytes 4 id)
def w1 : State := (sg) 
def w2 : State := (sg) 
def w3 : State := (sg fun u => { u with bridged := 1 }) 
def w4 : State := (sg) 
def w5 : State := (sg) 
def w6 : State := (sg) 
def w7 : State := (sg fun u => { u with lo := true }) 
def w8 : State := (sg fun u => { u with lo := true }) 

theorem witness_ProtectionCommandsAnswerAndTakeEffect_part2 :
    ((cmdPairSettings.range ((pp 0)  : Request) = none ∧ ((pp 0)  : Request).u 0 4 = (7 : BitVec 32).toNat ∧ ((pp 0)  : Request).u 4 1 = 0 ∧ (8 : BitVec 32) ≠ (7 : BitVec 32)) ∧ pr.Admits cmdPairSettings ((pp 0)  : Request)) ∧
    ((cmdPairSettings.range ((pp 1)  : Request) = none ∧ ((pp 1)  : Request).u 0 4 = (7 : BitVec 32).toNat ∧ ((pp 1)  : Request).u 4 1 = 1) ∧ pr.Admits cmdPairSettings ((pp 1)  : Request)) ∧
    (((((pq 1 7)  : Request).u 0 1 = 0 ∧ ((pq 1 7)  : Request).u 4 4 ≤ 255 ∨ ((pq 1 7)  : Request).u 0 1 = 1) ∧ ((pq 1 7)  : Request).zero 1 3 = true ∧ ((State.judged ((pq 1 7)  : Request) pr).heldUnit (protTarget ((pq 1 7)  : Request) (decide (((pq 1 7)  : Request).u 0 1 = 1)))).isSome = true) ∧ pr.Admits cmdProtStatus ((pq 1 7)  : Request)) ∧
    (((((pq 1 8)  : Request).u 0 1 = 0 ∧ ((pq 1 8)  : Request).u 4 4 ≤ 255 ∨ ((pq 1 8)  : Request).u 0 1 = 1) ∧ ((pq 1 8)  : Request).zero 1 3 = true ∧ (State.judged ((pq 1 8)  : Request) pr).heldUnit (protTarget ((pq 1 8)  : Request) (decide (((pq 1 8)  : Request).u 0 1 = 1))) = none) ∧ pr.Admits cmdProtStatus ((pq 1 8)  : Request)) :=
  ⟨⟨by decide +kernel, admits_of (by decide +kernel)⟩, ⟨by decide +kernel, admits_of (by decide +kernel)⟩, ⟨by decide +kernel, admits_of (by decide +kernel)⟩, ⟨by decide +kernel, admits_of (by decide +kernel)⟩⟩

theorem witness_ProtectionCommandsAnswerAndTakeEffect :
    ((cmdGroupDeclare.range ((gd 0 1 511 0)  : Request) = none ∧ ((gd 0 1 511 0)  : Request).u 0 1 = ↑(Fin.ofNat 256 (((gd 0 1 511 0)  : Request).u 0 1)) ∧ (State.judged ((gd 0 1 511 0)  : Request) line).prot.groups[Fin.ofNat 256 (((gd 0 1 511 0)  : Request).u 0 1)] = none ∧ (State.judged ((gd 0 1 511 0)  : Request) line).groupConflict (declaredGroup ((gd 0 1 511 0)  : Request)) = false) ∧ line.Admits cmdGroupDeclare ((gd 0 1 511 0)  : Request)) ∧
    ((cmdGroupDeclare.range ((gd 1 15 511 0)  : Request) = none ∧ ((gd 1 15 511 0)  : Request).u 0 1 = ↑(Fin.ofNat 256 (((gd 1 15 511 0)  : Request).u 0 1)) ∧ ((State.judged ((gd 1 15 511 0)  : Request) ready).prot.groups[Fin.ofNat 256 (((gd 1 15 511 0)  : Request).u 0 1)] ≠ none ∨ (State.judged ((gd 1 15 511 0)  : Request) ready).groupConflict (declaredGroup ((gd 1 15 511 0)  : Request)) = true)) ∧ ready.Admits cmdGroupDeclare ((gd 1 15 511 0)  : Request)) ∧
    ((cmdGroupModify.range gm = none ∧ gm.u 0 1 = ↑(Fin.ofNat 256 (gm.u 0 1)) ∧ ((State.judged gm w1).prot.groups[Fin.ofNat 256 (gm.u 0 1)]).isSome = true) ∧ w1.Admits cmdGroupModify gm) ∧
    ((cmdGroupModify.range gm = none ∧ gm.u 0 1 = ↑(Fin.ofNat 256 (gm.u 0 1)) ∧ (State.judged gm line).prot.groups[Fin.ofNat 256 (gm.u 0 1)] = none) ∧ line.Admits cmdGroupModify gm) ∧
    ((gx.zero 1 3 = true ∧ gx.u 0 1 = ↑(Fin.ofNat 256 (gx.u 0 1)) ∧ ((State.judged gx w2).prot.groups[Fin.ofNat 256 (gx.u 0 1)]).isSome = true ∧ (State.judged gx w2).prot.groups[Fin.ofNat 256 (gx.u 0 1)].get!.unit.selected = 0 ∧ ((State.judged gx w2).prot.groups[Fin.ofNat 256 (gx.u 0 1)].get!.oneToN = false ∨ (State.judged gx w2).prot.groups[Fin.ofNat 256 (gx.u 0 1)].get!.unit.bridged = 0)) ∧ w2.Admits cmdGroupDelete gx) ∧
    ((gx.zero 1 3 = true ∧ gx.u 0 1 = ↑(Fin.ofNat 256 (gx.u 0 1)) ∧ ((State.judged gx w3).prot.groups[Fin.ofNat 256 (gx.u 0 1)]).isSome = true ∧ ((State.judged gx w3).prot.groups[Fin.ofNat 256 (gx.u 0 1)].get!.unit.selected ≠ 0 ∨ (State.judged gx w3).prot.groups[Fin.ofNat 256 (gx.u 0 1)].get!.oneToN = true ∧ (State.judged gx w3).prot.groups[Fin.ofNat 256 (gx.u 0 1)].get!.unit.bridged ≠ 0)) ∧ w3.Admits cmdGroupDelete gx) ∧
    ((gx.zero 1 3 = true ∧ gx.u 0 1 = ↑(Fin.ofNat 256 (gx.u 0 1)) ∧ (State.judged gx line).prot.groups[Fin.ofNat 256 (gx.u 0 1)] = none) ∧ line.Admits cmdGroupDelete gx) ∧
    (((((pc 0 1 0 255)  : Request).u 0 1 = 0 ∧ ((pc 0 1 0 255)  : Request).u 4 4 ≤ 255 ∨ ((pc 0 1 0 255)  : Request).u 0 1 = 1) ∧ ((pc 0 1 0 255)  : Request).zero 3 1 = true ∧ ((pc 0 1 0 255)  : Request).u 2 1 = ↑(Fin.ofNat 16 (((pc 0 1 0 255)  : Request).u 2 1)) ∧ ((State.judged ((pc 0 1 0 255)  : Request) w4).heldUnit (protTarget ((pc 0 1 0 255)  : Request) (decide (((pc 0 1 0 255)  : Request).u 0 1 = 1)))).isSome = true ∧ ((pc 0 1 0 255)  : Request).u 1 1 = 1 ∧ Fin.ofNat 16 (((pc 0 1 0 255)  : Request).u 2 1) = 0) ∧ w4.Admits cmdProtCommand ((pc 0 1 0 255)  : Request)) ∧
    (((((pc 0 2 2 255)  : Request).u 0 1 = 0 ∧ ((pc 0 2 2 255)  : Request).u 4 4 ≤ 255 ∨ ((pc 0 2 2 255)  : Request).u 0 1 = 1) ∧ ((pc 0 2 2 255)  : Request).zero 3 1 = true ∧ ((pc 0 2 2 255)  : Request).u 2 1 = ↑(Fin.ofNat 16 (((pc 0 2 2 255)  : Request).u 2 1)) ∧ ((State.judged ((pc 0 2 2 255)  : Request) w5).heldUnit (protTarget ((pc 0 2 2 255)  : Request) (decide (((pc 0 2 2 255)  : Request).u 0 1 = 1)))).isSome = true ∧ ((pc 0 2 2 255)  : Request).u 1 1 = 2 ∧ 1 ≤ ↑(Fin.ofNat 16 (((pc 0 2 2 255)  : Request).u 2 1)) ∧ ↑(Fin.ofNat 16 (((pc 0 2 2 255)  : Request).u 2 1)) ≤ (State.judged ((pc 0 2 2 255)  : Request) w5).targetMembers (protTarget ((pc 0 2 2 255)  : Request) (decide (((pc 0 2 2 255)  : Request).u 0 1 = 1))) ∧ ((State.judged ((pc 0 2 2 255)  : Request) w5).heldUnit (protTarget ((pc 0 2 2 255)  : Request) (decide (((pc 0 2 2 255)  : Request).u 0 1 = 1)))).get!.lo = false ∧ ((State.judged ((pc 0 2 2 255)  : Request) w5).targetOneToN (protTarget ((pc 0 2 2 255)  : Request) (decide (((pc 0 2 2 255)  : Request).u 0 1 = 1))) = true → ((State.judged ((pc 0 2 2 255)  : Request) w5).heldUnit (protTarget ((pc 0 2 2 255)  : Request) (decide (((pc 0 2 2 255)  : Request).u 0 1 = 1)))).get!.protFail = false → ∀ (q : ProtRequest × Fin 16), farRequest (((State.judged ((pc 0 2 2 255)  : Request) w5).heldUnit (protTarget ((pc 0 2 2 255)  : Request) (decide (((pc 0 2 2 255)  : Request).u 0 1 = 1)))).get!.far.getD 0) = some q → q.1 ≠ ProtRequest.lo)) ∧ w5.Admits cmdProtCommand ((pc 0 2 2 255)  : Request)) ∧
    (((((pc 0 3 1 255)  : Request).u 0 1 = 0 ∧ ((pc 0 3 1 255)  : Request).u 4 4 ≤ 255 ∨ ((pc 0 3 1 255)  : Request).u 0 1 = 1) ∧ ((pc 0 3 1 255)  : Request).zero 3 1 = true ∧ ((pc 0 3 1 255)  : Request).u 2 1 = ↑(Fin.ofNat 16 (((pc 0 3 1 255)  : Request).u 2 1)) ∧ ((State.judged ((pc 0 3 1 255)  : Request) w6).heldUnit (protTarget ((pc 0 3 1 255)  : Request) (decide (((pc 0 3 1 255)  : Request).u 0 1 = 1)))).isSome = true ∧ ((pc 0 3 1 255)  : Request).u 1 1 = 3 ∧ 1 ≤ ↑(Fin.ofNat 16 (((pc 0 3 1 255)  : Request).u 2 1)) ∧ ↑(Fin.ofNat 16 (((pc 0 3 1 255)  : Request).u 2 1)) ≤ (State.judged ((pc 0 3 1 255)  : Request) w6).targetMembers (protTarget ((pc 0 3 1 255)  : Request) (decide (((pc 0 3 1 255)  : Request).u 0 1 = 1))) ∧ (ProtUnit.decide ((State.judged ((pc 0 3 1 255)  : Request) w6).targetMembers (protTarget ((pc 0 3 1 255)  : Request) (decide (((pc 0 3 1 255)  : Request).u 0 1 = 1)))) (State.judged ((pc 0 3 1 255)  : Request) w6).clock.tick ((State.judged ((pc 0 3 1 255)  : Request) w6).heldUnit (protTarget ((pc 0 3 1 255)  : Request) (decide (((pc 0 3 1 255)  : Request).u 0 1 = 1)))).get!).1.strong = false ∧ ((State.judged ((pc 0 3 1 255)  : Request) w6).targetOneToN (protTarget ((pc 0 3 1 255)  : Request) (decide (((pc 0 3 1 255)  : Request).u 0 1 = 1))) = true → ((State.judged ((pc 0 3 1 255)  : Request) w6).heldUnit (protTarget ((pc 0 3 1 255)  : Request) (decide (((pc 0 3 1 255)  : Request).u 0 1 = 1)))).get!.protFail = false → ∀ (q : ProtRequest × Fin 16), farRequest (((State.judged ((pc 0 3 1 255)  : Request) w6).heldUnit (protTarget ((pc 0 3 1 255)  : Request) (decide (((pc 0 3 1 255)  : Request).u 0 1 = 1)))).get!.far.getD 0) = some q → q.1.strong = false)) ∧ w6.Admits cmdProtCommand ((pc 0 3 1 255)  : Request)) ∧
    (((((pc 0 4 0 255)  : Request).u 0 1 = 0 ∧ ((pc 0 4 0 255)  : Request).u 4 4 ≤ 255 ∨ ((pc 0 4 0 255)  : Request).u 0 1 = 1) ∧ ((pc 0 4 0 255)  : Request).zero 3 1 = true ∧ ((pc 0 4 0 255)  : Request).u 2 1 = ↑(Fin.ofNat 16 (((pc 0 4 0 255)  : Request).u 2 1)) ∧ ((State.judged ((pc 0 4 0 255)  : Request) w7).heldUnit (protTarget ((pc 0 4 0 255)  : Request) (decide (((pc 0 4 0 255)  : Request).u 0 1 = 1)))).isSome = true ∧ ((pc 0 4 0 255)  : Request).u 1 1 = 4 ∧ Fin.ofNat 16 (((pc 0 4 0 255)  : Request).u 2 1) = 0 ∧ ((State.judged ((pc 0 4 0 255)  : Request) w7).heldUnit (protTarget ((pc 0 4 0 255)  : Request) (decide (((pc 0 4 0 255)  : Request).u 0 1 = 1)))).get!.fs = none ∧ ((State.judged ((pc 0 4 0 255)  : Request) w7).heldUnit (protTarget ((pc 0 4 0 255)  : Request) (decide (((pc 0 4 0 255)  : Request).u 0 1 = 1)))).get!.ms = none) ∧ w7.Admits cmdProtCommand ((pc 0 4 0 255)  : Request)) ∧
    (((((pc 0 2 2 255)  : Request).u 0 1 = 0 ∧ ((pc 0 2 2 255)  : Request).u 4 4 ≤ 255 ∨ ((pc 0 2 2 255)  : Request).u 0 1 = 1) ∧ ((pc 0 2 2 255)  : Request).zero 3 1 = true ∧ ((pc 0 2 2 255)  : Request).u 2 1 = ↑(Fin.ofNat 16 (((pc 0 2 2 255)  : Request).u 2 1)) ∧ ((State.judged ((pc 0 2 2 255)  : Request) w8).heldUnit (protTarget ((pc 0 2 2 255)  : Request) (decide (((pc 0 2 2 255)  : Request).u 0 1 = 1)))).isSome = true ∧ 1 ≤ ↑(Fin.ofNat 16 (((pc 0 2 2 255)  : Request).u 2 1)) ∧ ↑(Fin.ofNat 16 (((pc 0 2 2 255)  : Request).u 2 1)) ≤ (State.judged ((pc 0 2 2 255)  : Request) w8).targetMembers (protTarget ((pc 0 2 2 255)  : Request) (decide (((pc 0 2 2 255)  : Request).u 0 1 = 1))) ∧ (((pc 0 2 2 255)  : Request).u 1 1 = 2 ∧ ((State.judged ((pc 0 2 2 255)  : Request) w8).heldUnit (protTarget ((pc 0 2 2 255)  : Request) (decide (((pc 0 2 2 255)  : Request).u 0 1 = 1)))).get!.lo = true ∨ ((pc 0 2 2 255)  : Request).u 1 1 = 3 ∧ ((ProtUnit.decide ((State.judged ((pc 0 2 2 255)  : Request) w8).targetMembers (protTarget ((pc 0 2 2 255)  : Request) (decide (((pc 0 2 2 255)  : Request).u 0 1 = 1)))) (State.judged ((pc 0 2 2 255)  : Request) w8).clock.tick ((State.judged ((pc 0 2 2 255)  : Request) w8).heldUnit (protTarget ((pc 0 2 2 255)  : Request) (decide (((pc 0 2 2 255)  : Request).u 0 1 = 1)))).get!).1.strong = true ∨ (State.judged ((pc 0 2 2 255)  : Request) w8).targetOneToN (protTarget ((pc 0 2 2 255)  : Request) (decide (((pc 0 2 2 255)  : Request).u 0 1 = 1))) = true ∧ ((State.judged ((pc 0 2 2 255)  : Request) w8).heldUnit (protTarget ((pc 0 2 2 255)  : Request) (decide (((pc 0 2 2 255)  : Request).u 0 1 = 1)))).get!.protFail = false ∧ ∃ (q : ProtRequest × Fin 16), farRequest (((State.judged ((pc 0 2 2 255)  : Request) w8).heldUnit (protTarget ((pc 0 2 2 255)  : Request) (decide (((pc 0 2 2 255)  : Request).u 0 1 = 1)))).get!.far.getD 0) = some q ∧ q.1.strong = true))) ∧ w8.Admits cmdProtCommand ((pc 0 2 2 255)  : Request)) ∧
    (((((pc 0 1 0 255)  : Request).u 0 1 = 0 ∧ ((pc 0 1 0 255)  : Request).u 4 4 ≤ 255 ∨ ((pc 0 1 0 255)  : Request).u 0 1 = 1) ∧ ((pc 0 1 0 255)  : Request).zero 3 1 = true ∧ ((pc 0 1 0 255)  : Request).u 2 1 = ↑(Fin.ofNat 16 (((pc 0 1 0 255)  : Request).u 2 1)) ∧ (State.judged ((pc 0 1 0 255)  : Request) line).heldUnit (protTarget ((pc 0 1 0 255)  : Request) (decide (((pc 0 1 0 255)  : Request).u 0 1 = 1))) = none ∧ ((pc 0 1 0 255)  : Request).u 1 1 = 1 ∧ Fin.ofNat 16 (((pc 0 1 0 255)  : Request).u 2 1) = 0) ∧ line.Admits cmdProtCommand ((pc 0 1 0 255)  : Request)) :=
  ⟨⟨by decide +kernel, admits_of (by decide +kernel)⟩, ⟨by decide +kernel, admits_of (by decide +kernel)⟩, ⟨by decide +kernel, admits_of (by decide +kernel)⟩, ⟨by decide +kernel, admits_of (by decide +kernel)⟩, ⟨by decide +kernel, admits_of (by decide +kernel)⟩, ⟨by decide +kernel, admits_of (by decide +kernel)⟩, ⟨by decide +kernel, admits_of (by decide +kernel)⟩, ⟨by decide +kernel, admits_of (by decide +kernel)⟩, ⟨by decide +kernel, admits_of (by decide +kernel)⟩, ⟨by decide +kernel, admits_of (by decide +kernel)⟩, ⟨by decide +kernel, admits_of (by decide +kernel)⟩, ⟨by decide +kernel, admits_of (by decide +kernel)⟩, ⟨by decide +kernel, admits_of (by decide +kernel)⟩⟩

end S33

namespace S34
def rd (i k pr ep nom acc rej q tol : Nat) := ask cmdRefDeclare 3 ([BitVec.ofNat 8 i, BitVec.ofNat 8 k, BitVec.ofNat 8 pr, BitVec.ofNat 8 ep] ++ leBytes 4 nom ++ leBytes 4 acc ++ leBytes 4 rej ++ leBytes 2 q ++ zeros 2 ++ leBytes 4 tol)
def r0 (f : DpllState → DpllState) := ready.setDpll f
def wr (i : Fin 12) (f : Reference → Reference) := ready.setDpll fun d => { d with refs := d.refs.set i (f d.refs[i]) }
def ts (c : Nat) (v : Int) := ask cmdTimingSet 3 (leBytes 1 c ++ zeros 3 ++ leSigned 8 v)
def rf (i : Nat) := ask cmdRefForce 3 (leBytes 1 i ++ zeros 3)
def lo := ask cmdLoopOpen 3 []
def dw (v : Int) (f : Nat) := ask cmdDcoWrite 3 (leSigned 4 v ++ leBytes 1 f ++ zeros 3)
def tk := ask cmdTickStep 3 []
def os (o e per div fr w : Nat) (off : Int) := ask cmdOutputSet 3 ([BitVec.ofNat 8 o, BitVec.ofNat 8 e, BitVec.ofNat 8 per, 0] ++ leBytes 4 div ++ leBytes 8 fr ++ leBytes 4 w ++ zeros 4 ++ leSigned 8 off)
def w1 : State := (wr 0 fun x => {x with kind := .pulse, nominal := 3, qualified := true}) 
def w2 : Request := (rd 0 1 15 1 3 100 200 10 50) 
def w3 : State := (r0 fun d => { d with selected := some 0 }) 
def w4 : State := (wr 3 fun x => { x with epochRole := 1 }) 
def w5 : State := (wr 11 fun x => { x with kind := .line }) 
def w6 : State := (r0 fun d => { d with forced := some 4 }) 
def w7 : State := (r0 fun d => { d with mode := .softloop }) 
def w8 : State := (r0 fun d => { d with mode := .softloop }) 
def w9 : State := (r0 fun d => { d with epochSource := some 7 }) 

theorem witness_SynchronisationCommandsAnswerAndTakeEffect_part2 :
    (((State.judged lo ready).loopWill = false ∧ (State.judged lo ready).loopOpen = false ∧ ((State.judged lo ready).casc.mode = CascadeMode.joined ∧ (State.judged lo ready).casc.role ≠ CascadeRole.master ∨ (State.judged lo ready).dpll.epochSource = none ∨ (State.judged lo ready).dpll.hostStep ≠ none)) ∧ ready.Admits cmdLoopOpen lo ∧ ready.Admits cmdLoopClose lo ∧ ready.Admits cmdTickStep lo ∧ ready.Admits cmdTimingStatus lo) ∧
    ((State.judged lo w7).loopWill = true ∧ w7.Admits cmdLoopOpen lo ∧ w7.Admits cmdLoopClose lo) ∧
    ((-250000000 ≤ ((dw (-250000000) 1)  : Request).s 0 4 ∧ ((dw (-250000000) 1)  : Request).s 0 4 ≤ 250000000 ∧ ((dw (-250000000) 1)  : Request).u 4 1 ≤ 1 ∧ ((dw (-250000000) 1)  : Request).zero 5 3 = true ∧ (State.judged ((dw (-250000000) 1)  : Request) w8).loopWill = true) ∧ w8.Admits cmdDcoWrite ((dw (-250000000) 1)  : Request)) ∧
    ((-250000000 ≤ ((dw 250000000 0)  : Request).s 0 4 ∧ ((dw 250000000 0)  : Request).s 0 4 ≤ 250000000 ∧ ((dw 250000000 0)  : Request).u 4 1 ≤ 1 ∧ ((dw 250000000 0)  : Request).zero 5 3 = true ∧ (State.judged ((dw 250000000 0)  : Request) ready).loopWill = false) ∧ ready.Admits cmdDcoWrite ((dw 250000000 0)  : Request)) ∧
    ((((dw 250000001 0)  : Request).s 0 4 < -250000000 ∨ 250000000 < ((dw 250000001 0)  : Request).s 0 4) ∧ ready.Admits cmdDcoWrite ((dw 250000001 0)  : Request)) ∧
    ((((State.judged tk w9).casc.mode ≠ CascadeMode.joined ∨ (State.judged tk w9).casc.role = CascadeRole.master) ∧ (State.judged tk w9).dpll.epochSource ≠ none ∧ (State.judged tk w9).dpll.hostStep = none) ∧ w9.Admits cmdTickStep tk) ∧
    ((cmdOutputSet.range ((os 0 3 0 3 0 0 0)  : Request) = none ∧ ((os 0 3 0 3 0 0 0)  : Request).u 0 1 = ↑(Fin.ofNat 10 (((os 0 3 0 3 0 0 0)  : Request).u 0 1))) ∧ ready.Admits cmdOutputSet ((os 0 3 0 3 0 0 0)  : Request)) :=
  ⟨⟨by decide +kernel, admits_of (by decide +kernel), admits_of (by decide +kernel), admits_of (by decide +kernel), admits_of (by decide +kernel)⟩, ⟨by decide +kernel, admits_of (by decide +kernel), admits_of (by decide +kernel)⟩, ⟨by decide +kernel, admits_of (by decide +kernel)⟩, ⟨by decide +kernel, admits_of (by decide +kernel)⟩, ⟨by decide +kernel, admits_of (by decide +kernel)⟩, ⟨by decide +kernel, admits_of (by decide +kernel)⟩, ⟨by decide +kernel, admits_of (by decide +kernel)⟩⟩

theorem witness_SynchronisationCommandsAnswerAndTakeEffect :
    ((cmdRefDeclare.range ((rd 0 1 15 1 3 1 2 1 50)  : Request) = none ∧ ((rd 0 1 15 1 3 1 2 1 50)  : Request).u 0 1 = ↑(Fin.ofNat 12 (((rd 0 1 15 1 3 1 2 1 50)  : Request).u 0 1)) ∧ ((State.judged ((rd 0 1 15 1 3 1 2 1 50)  : Request) ready).dpll.selected ≠ some (Fin.ofNat 12 (((rd 0 1 15 1 3 1 2 1 50)  : Request).u 0 1)) ∨ changesRef ((rd 0 1 15 1 3 1 2 1 50)  : Request) (State.judged ((rd 0 1 15 1 3 1 2 1 50)  : Request) ready).dpll.refs[Fin.ofNat 12 (((rd 0 1 15 1 3 1 2 1 50)  : Request).u 0 1)] = false) ∧ (((rd 0 1 15 1 3 1 2 1 50)  : Request).u 3 1 = 0 ∨ ∀ (j : Fin 12), j ≠ Fin.ofNat 12 (((rd 0 1 15 1 3 1 2 1 50)  : Request).u 0 1) → (State.judged ((rd 0 1 15 1 3 1 2 1 50)  : Request) ready).dpll.refs[j].epochRole ≠ ((rd 0 1 15 1 3 1 2 1 50)  : Request).u 3 1) ∧ changesRef ((rd 0 1 15 1 3 1 2 1 50)  : Request) (State.judged ((rd 0 1 15 1 3 1 2 1 50)  : Request) ready).dpll.refs[Fin.ofNat 12 (((rd 0 1 15 1 3 1 2 1 50)  : Request).u 0 1)] = true) ∧ ready.Admits cmdRefDeclare ((rd 0 1 15 1 3 1 2 1 50)  : Request)) ∧
    ((cmdRefDeclare.range w2 = none ∧ w2.u 0 1 = ↑(Fin.ofNat 12 (w2.u 0 1)) ∧ ((State.judged w2 w1).dpll.selected ≠ some (Fin.ofNat 12 (w2.u 0 1)) ∨ changesRef w2 (State.judged w2 w1).dpll.refs[Fin.ofNat 12 (w2.u 0 1)] = false) ∧ (w2.u 3 1 = 0 ∨ ∀ (j : Fin 12), j ≠ Fin.ofNat 12 (w2.u 0 1) → (State.judged w2 w1).dpll.refs[j].epochRole ≠ w2.u 3 1) ∧ changesRef w2 (State.judged w2 w1).dpll.refs[Fin.ofNat 12 (w2.u 0 1)] = false) ∧ w1.Admits cmdRefDeclare w2) ∧
    ((cmdRefDeclare.range ((rd 0 1 15 1 3 1 2 1 50)  : Request) = none ∧ ((rd 0 1 15 1 3 1 2 1 50)  : Request).u 0 1 = ↑(Fin.ofNat 12 (((rd 0 1 15 1 3 1 2 1 50)  : Request).u 0 1)) ∧ (State.judged ((rd 0 1 15 1 3 1 2 1 50)  : Request) w3).dpll.selected = some (Fin.ofNat 12 (((rd 0 1 15 1 3 1 2 1 50)  : Request).u 0 1)) ∧ changesRef ((rd 0 1 15 1 3 1 2 1 50)  : Request) (State.judged ((rd 0 1 15 1 3 1 2 1 50)  : Request) w3).dpll.refs[Fin.ofNat 12 (((rd 0 1 15 1 3 1 2 1 50)  : Request).u 0 1)] = true) ∧ w3.Admits cmdRefDeclare ((rd 0 1 15 1 3 1 2 1 50)  : Request)) ∧
    ((cmdRefDeclare.range ((rd 0 1 15 1 3 1 2 1 50)  : Request) = none ∧ ((rd 0 1 15 1 3 1 2 1 50)  : Request).u 0 1 = ↑(Fin.ofNat 12 (((rd 0 1 15 1 3 1 2 1 50)  : Request).u 0 1)) ∧ (State.judged ((rd 0 1 15 1 3 1 2 1 50)  : Request) w4).dpll.selected ≠ some (Fin.ofNat 12 (((rd 0 1 15 1 3 1 2 1 50)  : Request).u 0 1)) ∧ ((rd 0 1 15 1 3 1 2 1 50)  : Request).u 3 1 ≠ 0 ∧ (3 : Fin 12) ≠ Fin.ofNat 12 (((rd 0 1 15 1 3 1 2 1 50)  : Request).u 0 1) ∧ (State.judged ((rd 0 1 15 1 3 1 2 1 50)  : Request) w4).dpll.refs[(3 : Fin 12)].epochRole = ((rd 0 1 15 1 3 1 2 1 50)  : Request).u 3 1) ∧ w4.Admits cmdRefDeclare ((rd 0 1 15 1 3 1 2 1 50)  : Request)) ∧
    (cmdTimingSet.range ((ts 1 1)  : Request) = none ∧ ready.Admits cmdTimingSet ((ts 1 1)  : Request)) ∧
    ((cmdTimingSet.range ((ts 4 1000)  : Request) = none ∧ ((ts 4 1000)  : Request).u 0 1 = 4) ∧ ready.Admits cmdTimingSet ((ts 4 1000)  : Request)) ∧
    ((cmdTimingSet.range ((ts 10 (-10000000000))  : Request) = none ∧ ((ts 10 (-10000000000))  : Request).u 0 1 = 10) ∧ ready.Admits cmdTimingSet ((ts 10 (-10000000000))  : Request)) ∧
    ((cmdTimingSet.range ((ts 11 604800)  : Request) = none ∧ ((ts 11 604800)  : Request).u 0 1 = 11) ∧ ready.Admits cmdTimingSet ((ts 11 604800)  : Request)) ∧
    ((cmdTimingSet.range ((ts 13 1)  : Request) = none ∧ ((ts 13 1)  : Request).u 0 1 = 13) ∧ ready.Admits cmdTimingSet ((ts 13 1)  : Request)) ∧
    ((((rf 11)  : Request).zero 1 3 = true ∧ ((rf 11)  : Request).u 0 1 = ↑(Fin.ofNat 12 (((rf 11)  : Request).u 0 1)) ∧ (State.judged ((rf 11)  : Request) w5).dpll.refs[Fin.ofNat 12 (((rf 11)  : Request).u 0 1)].kind ≠ RefKind.none) ∧ w5.Admits cmdRefForce ((rf 11)  : Request)) ∧
    ((((rf 255)  : Request).zero 1 3 = true ∧ ((rf 255)  : Request).u 0 1 = 255) ∧ w6.Admits cmdRefForce ((rf 255)  : Request)) ∧
    ((((rf 11)  : Request).zero 1 3 = true ∧ ((rf 11)  : Request).u 0 1 = ↑(Fin.ofNat 12 (((rf 11)  : Request).u 0 1)) ∧ (State.judged ((rf 11)  : Request) ready).dpll.refs[Fin.ofNat 12 (((rf 11)  : Request).u 0 1)].kind = RefKind.none) ∧ ready.Admits cmdRefForce ((rf 11)  : Request)) ∧
    ((((rf 12)  : Request).zero 1 3 = true ∧ 11 < ((rf 12)  : Request).u 0 1 ∧ ((rf 12)  : Request).u 0 1 ≠ 255) ∧ ready.Admits cmdRefForce ((rf 12)  : Request)) :=
  ⟨⟨by decide +kernel, admits_of (by decide +kernel)⟩, ⟨by decide +kernel, admits_of (by decide +kernel)⟩, ⟨by decide +kernel, admits_of (by decide +kernel)⟩, ⟨by decide +kernel, admits_of (by decide +kernel)⟩, ⟨by decide +kernel, admits_of (by decide +kernel)⟩, ⟨by decide +kernel, admits_of (by decide +kernel)⟩, ⟨by decide +kernel, admits_of (by decide +kernel)⟩, ⟨by decide +kernel, admits_of (by decide +kernel)⟩, ⟨by decide +kernel, admits_of (by decide +kernel)⟩, ⟨by decide +kernel, admits_of (by decide +kernel)⟩, ⟨by decide +kernel, admits_of (by decide +kernel)⟩, ⟨by decide +kernel, admits_of (by decide +kernel)⟩, ⟨by decide +kernel, admits_of (by decide +kernel)⟩⟩

end S34

namespace S35
def decl : List Byte := [1, 2, 0, 0] ++ leBytes 4 9 ++ [2, 5, 2, 0] ++ leBytes 2 1 ++ leBytes 2 168 ++ leSigned 4 (-20000) ++ zeros 12
  ++ ([2, 0, 0, 0] ++ List.replicate 48 65) ++ ([5, 0, 0, 0] ++ List.replicate 48 66) ++ (leBytes 2 511 ++ [5, 0] ++ leBytes 2 3 ++ zeros 2)
def seam := ready.setPort 511 fun q => { q with settings := { q.settings with role := .seam } }
def N := decl.length
def qd := ask cmdCascDeclare 3 (zeros 8)
def D := cascDeclaration decl
def cs (f : CascadeState → CascadeState) := { seam with casc := f { seam.casc with declaration := some D, mode := .joined, role := .slave, master := some 5, version := 3, joined := [2,5], nextSwapId := 7 } }
def ms (f : CascadeState → CascadeState := id) := cs fun c => f { c with role := .master, master := some 2 }
def ql := ask cmdCascLeave 3 []
def qg := ask cmdCascStage 3 (leBytes 4 0xFFFFFFFF ++ zeros 4)
def rdy (s : State) : State := { s with map := { s.map with shadowMode := .ready } }
def qw (m f mask : Nat) := ask cmdCascSwap 3 (leBytes 4 8 ++ [BitVec.ofNat 8 m, 0,0,0] ++ leBytes 8 f ++ leBytes 8 mask)
def sw : CascadeSwap := { id := 8, participants := [2,5], named := none, phase := .prepare, started := 5, ready := [2], veto := [], frame := 0, complete := [], durable := [], persist := false, abortLeft := 0, command := some ⟨3, 0x44⟩ }
def qa (x : Nat) := ask cmdCascAbort 3 (leBytes 4 x)
def qh := ask cmdCascHandover 3 []
def w1 : State := (cs id) 
def w2 : State := (ms) 
def w3 : State := (rdy (cs id)) 
def w4 : State := (rdy (ready)) 
def w5 : State := (ms) 
def w6 : State := (ms) 
def w7 : Request := (qw 1 (2000000000000000 + 16) 4) 
def w8 : State := (ms) 
def w9 : State := (cs id) 
def w10 : State := (ms fun c => { c with swap := some sw }) 
def w11 : State := (ms fun c => { c with swap := some sw }) 
def w12 : State := (ms) 

theorem witness_CascadeCommandsAnswerAndTakeEffect_part2 :
    ((3 ≤ (State.judged qh w12).cascadeVersion ∧ (State.judged qh w12).isMaster = true ∧ w12.casc.handover = none ∧ w12.casc.swap = none ∧ (State.judged qh w12).casc.swap = none) ∧ w12.Admits cmdCascHandover qh ∧ w12.Admits cmdCascRelease qh) :=
  ⟨by decide +kernel, admits_of (by decide +kernel), admits_of (by decide +kernel)⟩

theorem witness_CascadeCommandsAnswerAndTakeEffect :
    ((decl.length = N ∧ 32 ≤ N ∧ cascLength decl ≤ N ∧ cascRange decl = none ∧ (∀ j < cascSeams decl, ((State.judged qd seam).port (Fin.ofNat 512 (field decl (seamOffset decl j) 2))).seamRole = true) ∧ (cascDeclaration decl).cutOff = false ∧ (State.judged qd seam).casc.mode = CascadeMode.standalone) ∧ seam.Admits cmdCascDeclare qd ∧ seam.Lists qd (list1 N : List Byte) N) ∧
    ((([1, 2, 7] ++ decl.drop 3 : List Byte).length = N ∧ 32 ≤ N ∧ cascLength ([1, 2, 7] ++ decl.drop 3 : List Byte) ≤ N ∧ (cascRange ([1, 2, 7] ++ decl.drop 3 : List Byte)).isSome = true) ∧ seam.Admits cmdCascDeclare qd ∧ seam.Lists qd (list1 N : List Byte) N) ∧
    (((State.judged ql w1).isMaster = false ∧ (State.judged ql w1).casc.staged = none ∧ (State.judged ql w1).casc.mode ≠ CascadeMode.standalone ∧ 3 ≤ (State.judged ql w1).cascadeVersion ∧ ((State.judged ql w1).isMaster = false ∨ (State.judged ql w1).casc.swap ≠ none)) ∧ w1.Admits cmdCascLeave ql ∧ w1.Admits cmdCascHandover ql ∧ w1.Admits cmdCascRelease ql ∧ w1.Admits cmdCascStatus ql) ∧
    ((State.judged ql ready).cascadeVersion < 3 ∧ ready.Admits cmdCascHandover ql) ∧
    ((((State.judged ql w2).isMaster = true ∨ (State.judged ql w2).casc.staged ≠ none) ∧ 3 ≤ (State.judged ql w2).cascadeVersion ∧ (State.judged ql w2).isMaster = true ∧ w2.casc.handover = none ∧ w2.casc.swap = none ∧ (State.judged ql w2).casc.swap = none) ∧ w2.Admits cmdCascLeave ql ∧ w2.Admits cmdCascHandover ql ∧ w2.Admits cmdCascRelease ql) ∧
    ((qg.u 0 4 = (BitVec.ofNat 32 (qg.u 0 4)).toNat ∧ BitVec.ofNat 32 (qg.u 0 4) ≠ 0 ∧ qg.zero 4 4 = true ∧ (State.judged qg w3).map.shadowMode = ShadowMode.ready ∧ (State.judged qg w3).casc.mode = CascadeMode.joined) ∧ w3.Admits cmdCascStage qg) ∧
    ((qg.u 0 4 = (BitVec.ofNat 32 (qg.u 0 4)).toNat ∧ BitVec.ofNat 32 (qg.u 0 4) ≠ 0 ∧ qg.zero 4 4 = true ∧ ((State.judged qg w4).map.shadowMode ≠ ShadowMode.ready ∨ (State.judged qg w4).casc.mode ≠ CascadeMode.joined)) ∧ w4.Admits cmdCascStage qg) ∧
    ((((qw 0 0 36)  : Request).u 0 4 = (BitVec.ofNat 32 (((qw 0 0 36)  : Request).u 0 4)).toNat ∧ BitVec.ofNat 32 (((qw 0 0 36)  : Request).u 0 4) ≠ 0 ∧ ((qw 0 0 36)  : Request).u 4 1 ≤ 1 ∧ ((qw 0 0 36)  : Request).zero 5 3 = true ∧ (∀ (m : Fin 64), (((qw 0 0 36)  : Request).u 16 8).testBit ↑m = true → m ∈ (State.judged ((qw 0 0 36)  : Request) w5).declaredMembers) ∧ (State.judged ((qw 0 0 36)  : Request) w5).isMaster = true ∧ (State.judged ((qw 0 0 36)  : Request) w5).casc.swap = none ∧ (((qw 0 0 36)  : Request).u 4 1 = 0 ∨ (State.judged ((qw 0 0 36)  : Request) w5).swapFrameOk (((qw 0 0 36)  : Request).u 8 8) = true)) ∧ w5.Admits cmdCascSwap ((qw 0 0 36)  : Request)) ∧
    ((w7.u 0 4 = (BitVec.ofNat 32 (w7.u 0 4)).toNat ∧ BitVec.ofNat 32 (w7.u 0 4) ≠ 0 ∧ w7.u 4 1 ≤ 1 ∧ w7.zero 5 3 = true ∧ (∀ (m : Fin 64), (w7.u 16 8).testBit ↑m = true → m ∈ (State.judged w7 w6).declaredMembers) ∧ (State.judged w7 w6).isMaster = true ∧ (State.judged w7 w6).casc.swap = none ∧ (w7.u 4 1 = 0 ∨ (State.judged w7 w6).swapFrameOk (w7.u 8 8) = true) ∧ w7.u 4 1 = 1) ∧ w6.Admits cmdCascSwap w7) ∧
    ((((qw 0 0 (36+2^63))  : Request).u 0 4 = (BitVec.ofNat 32 (((qw 0 0 (36+2^63))  : Request).u 0 4)).toNat ∧ BitVec.ofNat 32 (((qw 0 0 (36+2^63))  : Request).u 0 4) ≠ 0 ∧ ((qw 0 0 (36+2^63))  : Request).u 4 1 ≤ 1 ∧ ((qw 0 0 (36+2^63))  : Request).zero 5 3 = true ∧ (((qw 0 0 (36+2^63))  : Request).u 16 8).testBit ↑(63 : Fin 64) = true ∧ (63 : Fin 64) ∉ (State.judged ((qw 0 0 (36+2^63))  : Request) w8).declaredMembers) ∧ w8.Admits cmdCascSwap ((qw 0 0 (36+2^63))  : Request)) ∧
    ((((qw 0 0 36)  : Request).u 0 4 = (BitVec.ofNat 32 (((qw 0 0 36)  : Request).u 0 4)).toNat ∧ BitVec.ofNat 32 (((qw 0 0 36)  : Request).u 0 4) ≠ 0 ∧ ((qw 0 0 36)  : Request).u 4 1 ≤ 1 ∧ ((qw 0 0 36)  : Request).zero 5 3 = true ∧ (∀ (m : Fin 64), (((qw 0 0 36)  : Request).u 16 8).testBit ↑m = true → m ∈ (State.judged ((qw 0 0 36)  : Request) w9).declaredMembers) ∧ ((State.judged ((qw 0 0 36)  : Request) w9).isMaster = false ∨ (State.judged ((qw 0 0 36)  : Request) w9).casc.swap ≠ none)) ∧ w9.Admits cmdCascSwap ((qw 0 0 36)  : Request)) ∧
    ((((qa 8)  : Request).u 0 4 = (BitVec.ofNat 32 (((qa 8)  : Request).u 0 4)).toNat ∧ (State.judged ((qa 8)  : Request) w10).isMaster = true ∧ (State.judged ((qa 8)  : Request) w10).casc.swap = some sw ∧ sw.id = BitVec.ofNat 32 (((qa 8)  : Request).u 0 4) ∧ sw.phase = CascadePhase.prepare) ∧ w10.Admits cmdCascAbort ((qa 8)  : Request)) ∧
    (((qa 9)  : Request).u 0 4 = (BitVec.ofNat 32 (((qa 9)  : Request).u 0 4)).toNat ∧ w11.Admits cmdCascAbort ((qa 9)  : Request) ∧ (∀ (w : CascadeSwap), (State.judged ((qa 9)  : Request) w11).casc.swap = some w → w.id ≠ BitVec.ofNat 32 (((qa 9)  : Request).u 0 4) ∨ w.phase ≠ CascadePhase.prepare)) :=
  ⟨⟨by decide +kernel, admits_of (by decide +kernel), lists_of (by decide +kernel)⟩, ⟨by decide +kernel, admits_of (by decide +kernel), lists_of (by decide +kernel)⟩, ⟨by decide +kernel, admits_of (by decide +kernel), admits_of (by decide +kernel), admits_of (by decide +kernel), admits_of (by decide +kernel)⟩, ⟨by decide +kernel, admits_of (by decide +kernel)⟩, ⟨by decide +kernel, admits_of (by decide +kernel), admits_of (by decide +kernel), admits_of (by decide +kernel)⟩, ⟨by decide +kernel, admits_of (by decide +kernel)⟩, ⟨by decide +kernel, admits_of (by decide +kernel)⟩, ⟨by decide +kernel, admits_of (by decide +kernel)⟩, ⟨by decide +kernel, admits_of (by decide +kernel)⟩, ⟨by decide +kernel, admits_of (by decide +kernel)⟩, ⟨by decide +kernel, admits_of (by decide +kernel)⟩, ⟨by decide +kernel, admits_of (by decide +kernel)⟩, ⟨by decide +kernel, admits_of (by decide +kernel), of_all (by decide +kernel)⟩⟩

end S35

namespace S36
def emb (f : EmberState → EmberState) := { ready with ember := f ready.ember }
def sm (m : BankMode) (f : EmberState → EmberState := id) := emb fun x => f { x with shadowMode := m }
def rl := ask cmdRecipeLoad 3 (zeros 8)
def rw_ (m f : Nat) := ask cmdRecipeSwap 3 (leBytes 1 m ++ zeros 7 ++ leBytes 8 f)
def rc (k : Nat) := ask cmdRecipeCancel 3 (leBytes 1 k ++ zeros 3)
def swp := ((sm .scheduled fun x => { x with swap := some ⟨ready.clock.frame + 8, false, ⟨3, 0x98⟩⟩ }).setChan 3 fun c => { c with window := [entryOf 0x98 .accepted 16] })
def rr (k : Nat) := ask cmdRecipeRead 7 (zeros 8 ++ leBytes 1 k ++ zeros 7)
def rp := ask cmdRecordPost 7 (zeros 8)
def ei := ask cmdEngineImageLoad 7 (zeros 8)
def cf (k : Command) (c : Nat) := ask k 7 (leBytes 1 c ++ zeros 3)
def cm (m : ClusterMode) := emb fun x => { x with clusters := x.clusters.set 7 { x.clusters[7] with mode := m } }
def w1 : State := (sm .loading) 
def w2 : State := (sm .ready) 
def w3 : State := (sm .ready) 
def w4 : State := (sm .ready fun x => { x with shadow := some ⟨[], []⟩ }) 
def w5 : State := (sm .ready fun x => { x with shadow := some ⟨[], []⟩ }) 
def w6 : State := (emb fun x => { x with buffers := List.replicate 64 default }) 
def w7 : State := (emb fun x => { x with buffers := [{ (default : RecordBuffer) with command := ⟨7,1⟩ }, { (default : RecordBuffer) with command := ⟨7,2⟩, records := 1, filled := zeros 5 }] }) 
def w8 : State := (emb fun x => { x with imageLoad := some ⟨3, 5⟩ }) 
def w9 : State := (cm .stopped) 
def w10 : State := (cm .loading) 

theorem witness_EmberCommandsAnswerAndTakeEffect_part2 :
    ((∀ b ∈ w7.ember.buffers, b.command ≠ ((ask cmdRecordFlush 7 [])  : Request).ref) ∧ w7.Admits cmdRecordFlush ((ask cmdRecordFlush 7 [])  : Request)) ∧
    (((zeros 9 : List Byte).length = 9 ∧ (State.judged ei w8).ember.imageLoad ≠ none) ∧ w8.Admits cmdEngineImageLoad ei ∧ w8.Lists ei (list1 9 : List Byte) 9) ∧
    ((((cf cmdClusterStop 7)  : Request).u 0 1 = ↑(Fin.ofNat 8 (((cf cmdClusterStop 7)  : Request).u 0 1)) ∧ ((cf cmdClusterStop 7)  : Request).zero 1 3 = true ∧ (State.judged ((cf cmdClusterStop 7)  : Request) w9).ember.clusters[Fin.ofNat 8 (((cf cmdClusterStop 7)  : Request).u 0 1)].mode = ClusterMode.stopped ∧ (State.judged ((cf cmdClusterStop 7)  : Request) w9).ember.imageLoad = none ∧ (State.judged ((cf cmdClusterStop 7)  : Request) w9).domainOn (clusterDomain (Fin.ofNat 8 (((cf cmdClusterStop 7)  : Request).u 0 1))) = true ∧ ((State.judged ((cf cmdClusterStop 7)  : Request) w9).chan ((cf cmdClusterStop 7)  : Request).channel).find ((cf cmdClusterStop 7)  : Request).token = none) ∧ w9.Admits cmdClusterStop ((cf cmdClusterStop 7)  : Request) ∧ w9.Admits cmdClusterRestart ((cf cmdClusterStop 7)  : Request)) ∧
    ((((cf cmdClusterStop 7)  : Request).u 0 1 = ↑(Fin.ofNat 8 (((cf cmdClusterStop 7)  : Request).u 0 1)) ∧ ((cf cmdClusterStop 7)  : Request).zero 1 3 = true ∧ ((State.judged ((cf cmdClusterStop 7)  : Request) w10).ember.imageLoad ≠ none ∨ (State.judged ((cf cmdClusterStop 7)  : Request) w10).ember.clusters[Fin.ofNat 8 (((cf cmdClusterStop 7)  : Request).u 0 1)].mode = ClusterMode.loading ∨ (State.judged ((cf cmdClusterStop 7)  : Request) w10).domainOn (clusterDomain (Fin.ofNat 8 (((cf cmdClusterStop 7)  : Request).u 0 1))) = false)) ∧ w10.Admits cmdClusterRestart ((cf cmdClusterStop 7)  : Request)) :=
  ⟨⟨by decide +kernel, admits_of (by decide +kernel)⟩, ⟨by decide +kernel, admits_of (by decide +kernel), lists_of (by decide +kernel)⟩, ⟨by decide +kernel, admits_of (by decide +kernel), admits_of (by decide +kernel)⟩, ⟨by decide +kernel, admits_of (by decide +kernel)⟩⟩

theorem witness_EmberCommandsAnswerAndTakeEffect :
    (((zeros 10 : List Byte).length = 10 ∧ ((State.judged rl ready).ember.shadowMode = BankMode.empty ∨ (State.judged rl ready).ember.shadowMode = BankMode.ready) ∧ (State.judged rl ready).ember.imageLoad = none) ∧ ready.Admits cmdRecipeLoad rl ∧ ready.Lists rl (list1 10 : List Byte) 10 ∧ ready.Admits cmdEngineImageLoad rl) ∧
    (((zeros 10 : List Byte).length = 10 ∧ ((State.judged rl w1).ember.shadowMode = BankMode.loading ∨ (State.judged rl w1).ember.shadowMode = BankMode.scheduled)) ∧ w1.Admits cmdRecipeLoad rl ∧ w1.Lists rl (list1 10 : List Byte) 10) ∧
    ((bankSwapRange ((rw_ 0 0)  : Request) = none ∧ (State.judged ((rw_ 0 0)  : Request) w2).ember.shadowMode = BankMode.ready ∧ (((rw_ 0 0)  : Request).u 0 1 = 0 ∧ (ready.clock.frame + 8 : BitVec 64) = w2.clock.frame + 8 ∨ ((rw_ 0 0)  : Request).u 0 1 = 1 ∧ (ready.clock.frame + 8 : BitVec 64).toNat = ((rw_ 0 0)  : Request).u 8 8 ∧ w2.clock.frame.toNat + 8 ≤ (ready.clock.frame + 8 : BitVec 64).toNat ∧ (ready.clock.frame + 8 : BitVec 64).toNat ≤ w2.clock.frame.toNat + 8589934592)) ∧ w2.Admits cmdRecipeSwap ((rw_ 0 0)  : Request)) ∧
    ((bankSwapRange ((rw_ 1 2000000000000007)  : Request) = none ∧ (State.judged ((rw_ 1 2000000000000007)  : Request) w3).ember.shadowMode = BankMode.ready ∧ ((rw_ 1 2000000000000007)  : Request).u 0 1 = 1 ∧ (((rw_ 1 2000000000000007)  : Request).u 8 8 < w3.clock.frame.toNat + 8 ∨ w3.clock.frame.toNat + 8589934592 < ((rw_ 1 2000000000000007)  : Request).u 8 8)) ∧ w3.Admits cmdRecipeSwap ((rw_ 1 2000000000000007)  : Request)) ∧
    ((bankSwapRange ((rw_ 1 2000000000000007)  : Request) = none ∧ (State.judged ((rw_ 1 2000000000000007)  : Request) ready).ember.shadowMode ≠ BankMode.ready) ∧ ready.Admits cmdRecipeSwap ((rw_ 1 2000000000000007)  : Request)) ∧
    ((((rc 0)  : Request).zero 1 3 = true ∧ ((rc 0)  : Request).u 0 1 = 0 ∧ ((State.judged ((rc 0)  : Request) swp).ember.swap).isSome = true ∧ swp.clock.frame.toNat + 8 ≤ (State.judged ((rc 0)  : Request) swp).ember.swap.get!.frame.toNat ∧ swp.deferred = [] ∧ (swp.chan ((rc 0)  : Request).channel).window.length < 512 ∧ ((rc 0)  : Request).u 0 1 = ↑(Fin.ofNat 8 (((rc 0)  : Request).u 0 1)) ∧ (State.judged ((rc 0)  : Request) swp).ember.clusters[Fin.ofNat 8 (((rc 0)  : Request).u 0 1)].mode ≠ ClusterMode.stopped ∧ (State.judged ((rc 0)  : Request) swp).ember.imageLoad = none ∧ (State.judged ((rc 0)  : Request) swp).ember.clusters[Fin.ofNat 8 (((rc 0)  : Request).u 0 1)].mode = ClusterMode.running ∧ (State.judged ((rc 0)  : Request) swp).domainOn (clusterDomain (Fin.ofNat 8 (((rc 0)  : Request).u 0 1))) = true ∧ ((rc 0)  : Request).u 0 2 = ↑(Fin.ofNat 1024 (((rc 0)  : Request).u 0 2)) ∧ ((rc 0)  : Request).zero 2 2 = true) ∧ swp.Admits cmdRecipeCancel ((rc 0)  : Request) ∧ (∀ (x : BankSwap), swp.ember.swap = some x → x.command ≠ ((rc 0)  : Request).ref) ∧ swp.Admits cmdClusterStop ((rc 0)  : Request) ∧ swp.Admits cmdClusterRestart ((rc 0)  : Request) ∧ swp.Admits cmdClusterStatus ((rc 0)  : Request) ∧ swp.Admits cmdEngineCounters ((rc 0)  : Request)) ∧
    ((((rc 1)  : Request).zero 1 3 = true ∧ ((rc 1)  : Request).u 0 1 = 1 ∧ (State.judged ((rc 1)  : Request) w4).ember.shadowMode = BankMode.ready ∧ w4.deferred = []) ∧ w4.Admits cmdRecipeCancel ((rc 1)  : Request)) ∧
    ((((rc 0)  : Request).zero 1 3 = true ∧ (((rc 0)  : Request).u 0 1 = 0 ∧ (State.judged ((rc 0)  : Request) ready).ember.swap = none ∨ ((rc 0)  : Request).u 0 1 = 1 ∧ (State.judged ((rc 0)  : Request) ready).ember.shadowMode ≠ BankMode.ready)) ∧ ready.Admits cmdRecipeCancel ((rc 0)  : Request)) ∧
    ((((rr 0)  : Request).zero 9 7 = true ∧ ((rr 0)  : Request).u 8 1 = 0) ∧ ready.Admits cmdRecipeRead ((rr 0)  : Request) ∧ ready.Lists ((rr 0)  : Request) (list1 142368  : List Byte) 142368 ∧ ready.Lists ((rr 0)  : Request) (list1 142367 : List Byte) 142367) ∧
    ((((rr 1)  : Request).zero 9 7 = true ∧ ((rr 1)  : Request).u 8 1 = 1 ∧ ((State.judged ((rr 1)  : Request) w5).ember.shadow).isSome = true ∧ (State.judged ((rr 1)  : Request) w5).ember.shadowMode ≠ BankMode.loading) ∧ w5.Admits cmdRecipeRead ((rr 1)  : Request) ∧ w5.Lists ((rr 1)  : Request) (list1 142368  : List Byte) 142368) ∧
    ((((rr 1)  : Request).zero 9 7 = true ∧ ((rr 1)  : Request).u 8 1 = 1 ∧ ((State.judged ((rr 1)  : Request) ready).ember.shadowMode = BankMode.loading ∨ (State.judged ((rr 1)  : Request) ready).ember.shadow = none)) ∧ ready.Admits cmdRecipeRead ((rr 1)  : Request) ∧ ready.Lists ((rr 1)  : Request) (list1 142368  : List Byte) 142368) ∧
    (((State.judged rp ready).ember.buffers.length < 64 ∧ ready.ember.staging = []) ∧ ready.Admits cmdRecordPost rp ∧ ready.Lists rp (list1 24624  : List Byte) 24624 ∧ ready.Lists rp (list1 24623  : List Byte) 24623) ∧
    (64 ≤ (State.judged rp w6).ember.buffers.length ∧ w6.Admits cmdRecordPost rp ∧ w6.Lists rp (list1 24624  : List Byte) 24624) :=
  ⟨⟨by decide +kernel, admits_of (by decide +kernel), lists_of (by decide +kernel), admits_of (by decide +kernel)⟩, ⟨by decide +kernel, admits_of (by decide +kernel), lists_of (by decide +kernel)⟩, ⟨by decide +kernel, admits_of (by decide +kernel)⟩, ⟨by decide +kernel, admits_of (by decide +kernel)⟩, ⟨by decide +kernel, admits_of (by decide +kernel)⟩, ⟨by decide +kernel, admits_of (by decide +kernel), of_all (by decide +kernel), admits_of (by decide +kernel), admits_of (by decide +kernel), admits_of (by decide +kernel), admits_of (by decide +kernel)⟩, ⟨by decide +kernel, admits_of (by decide +kernel)⟩, ⟨by decide +kernel, admits_of (by decide +kernel)⟩, ⟨by decide +kernel, admits_of (by decide +kernel), lists_of (by decide +kernel), lists_of (by decide +kernel)⟩, ⟨by decide +kernel, admits_of (by decide +kernel), lists_of (by decide +kernel)⟩, ⟨by decide +kernel, admits_of (by decide +kernel), lists_of (by decide +kernel)⟩, ⟨by decide +kernel, admits_of (by decide +kernel), lists_of (by decide +kernel), lists_of (by decide +kernel)⟩, ⟨by decide +kernel, admits_of (by decide +kernel), lists_of (by decide +kernel)⟩⟩

end S36

namespace S37
def cap (f : CaptureState → CaptureState) := { ready with cap := f ready.cap }
def sm (m : BankMode) (f : CaptureState → CaptureState := id) := cap fun x => f { x with shadowMode := m }
def bnk : TriggerBank := { (default : TriggerBank) with channels := [(5, { (default : ChannelEntry) with host := true }), (6, default)] }
def rl := ask cmdTriggerLoad 3 (zeros 8)
def rw_ (m f : Nat) := ask cmdTriggerSwap 3 (leBytes 1 m ++ zeros 7 ++ leBytes 8 f)
def rc (k : Nat) := ask cmdTriggerCancel 3 (leBytes 1 k ++ zeros 3)
def swp := ((sm .scheduled fun x => { x with swap := some ⟨ready.clock.frame + 8, false, ⟨3, 0x98⟩⟩ }).setChan 3 fun c => { c with window := [entryOf 0x98 .accepted 16] })
def rr (k : Nat) := ask cmdTriggerRead 7 (zeros 8 ++ leBytes 1 k ++ zeros 7)
def arm (a d : Nat) := ask cmdChannelArm 3 (leBytes 8 a ++ leBytes 8 d)
def act := cap fun x => { x with active := bnk }
def actA := cap fun x => { x with active := bnk, channels := x.channels.set 5 { x.channels[5] with mode := .armed } }
def actR := cap fun x => { x with active := bnk, channels := (x.channels.set 5 { x.channels[5] with mode := .rearm }).set 6 { x.channels[6] with mode := .armed } }
def ht (c m f : Nat) := ask cmdHostTrigger 3 (leBytes 1 c ++ leBytes 1 m ++ zeros 6 ++ leBytes 8 f)
def cp (st : SealStep) (n : Nat := 77) : Capture := { (default : Capture) with sequence := n, step := st }
def ca := ask cmdCaptureAbort 3 (leBytes 8 77)
def nsx : StoreNamespace := { (default : StoreNamespace) with mode := .ok, members := [(2,0)], extent := 134217728 }
def dr : DriveEntry := { (default : DriveEntry) with drive := 2 }
def wcap (st : SealStep) (l : Bool) := cap fun x => { x with drives := { x.drives with entries := [dr] }, namespaces := x.namespaces.set 0 nsx, captures := [{ cp st with inLog := l }] }
def w1 : State := (sm .loading) 
def w2 : State := (sm .ready) 
def w3 : State := (sm .ready fun x => { x with shadow := some bnk }) 
def w4 : State := (sm .ready fun x => { x with shadow := some bnk }) 
def w5 : ChannelEntry := { (default : ChannelEntry) with host := true }
def w6 : ChannelEntry := { (default : ChannelEntry) with host := true }
def w7 : BitVec 64 := BitVec.ofNat 64 2000000000000000
def w8 : State := (cap fun x => { x with captures := [cp .window] }) 
def w9 : State := (cap fun x => { x with captures := [cp .trailer] }) 
def w10 : State := (cap fun x => { x with captures := [cp .flushTwo 8] }) 
def w11 : Request := (ask cmdCaptureStatus 3 [])  
def w12 : State := (sm .ready) 
def w13 : State := (wcap .window false) 
def w14 : Capture := (wcap .window false).cap.captures.head!

theorem witness_TriggerCommandsAnswerAndTakeEffect_part2 :
    ((cmdHostTrigger.range ((ht 5 0 0)  : Request) = none ∧ ((ht 5 0 0)  : Request).u 0 1 = 5 ∧ (State.judged ((ht 5 0 0)  : Request) actA).captureMarked = false ∧ (State.judged ((ht 5 0 0)  : Request) actA).cap.channels[5].mode ≠ TriggerMode.disarmed ∧ (State.judged ((ht 5 0 0)  : Request) actA).cap.channels[5].host = none ∧ (State.judged ((ht 5 0 0)  : Request) actA).cap.active.channel 5 = some w5 ∧ w5.host = true ∧ ((ht 5 0 0)  : Request).u 1 1 = 0) ∧ actA.Admits cmdHostTrigger ((ht 5 0 0)  : Request)) ∧
    ((cmdHostTrigger.range ((ht 5 1 2000000000000000)  : Request) = none ∧ ((ht 5 1 2000000000000000)  : Request).u 0 1 = 5 ∧ (State.judged ((ht 5 1 2000000000000000)  : Request) actA).captureMarked = false ∧ (State.judged ((ht 5 1 2000000000000000)  : Request) actA).cap.channels[5].mode ≠ TriggerMode.disarmed ∧ (State.judged ((ht 5 1 2000000000000000)  : Request) actA).cap.channels[5].host = none ∧ (State.judged ((ht 5 1 2000000000000000)  : Request) actA).cap.active.channel 5 = some w6 ∧ w6.host = true ∧ ((ht 5 1 2000000000000000)  : Request).u 1 1 = 1 ∧ w7.toNat = ((ht 5 1 2000000000000000)  : Request).u 8 8 ∧ actA.clock.frame.toNat ≤ w7.toNat ∧ w7.toNat ≤ actA.clock.frame.toNat + 8589934592) ∧ actA.Admits cmdHostTrigger ((ht 5 1 2000000000000000)  : Request)) ∧
    ((w8.openCapture (ca.u 0 8) = some (cp .window : Capture) ∧ ((State.judged ca w8).openCapture (ca.u 0 8)).isSome = true ∧ (cp .window : Capture).failing = none ∧ ((cp .window : Capture).step = SealStep.window ∨ (cp .window : Capture).step = SealStep.writing ∨ (cp .window : Capture).step = SealStep.flushOne) ∧ w8.writable (cp .window : Capture).entry.namespace_ = [] ∧ w8.cap.captures = [(cp .window : Capture)] ∧ (cp .window : Capture).aborts = []) ∧ w8.Admits cmdCaptureAbort ca) ∧
    ((w9.openCapture (ca.u 0 8) = some (cp .trailer : Capture) ∧ ((State.judged ca w9).openCapture (ca.u 0 8)).isSome = true ∧ ((cp .trailer : Capture).step = SealStep.trailer ∨ (cp .trailer : Capture).step = SealStep.flushTwo)) ∧ w9.Admits cmdCaptureAbort ca) ∧
    ((State.judged ca w10).openCapture (ca.u 0 8) = none ∧ w10.Admits cmdCaptureAbort ca) ∧
    (actR.Admits cmdCaptureStatus w11) ∧
    ((bankSwapRange ((rw_ 1 2000000000000007)  : Request) = none ∧ (State.judged ((rw_ 1 2000000000000007)  : Request) w12).cap.shadowMode = BankMode.ready ∧ ((rw_ 1 2000000000000007)  : Request).u 0 1 = 1 ∧ (((rw_ 1 2000000000000007)  : Request).u 8 8 < w12.clock.frame.toNat + 8 ∨ w12.clock.frame.toNat + 8589934592 < ((rw_ 1 2000000000000007)  : Request).u 8 8)) ∧ w12.Admits cmdTriggerSwap ((rw_ 1 2000000000000007)  : Request)) ∧
    ((w13.openCapture (ca.u 0 8) = some w14 ∧ ((State.judged ca w13).openCapture (ca.u 0 8)).isSome = true ∧ w14.failing = none ∧ (w14.step = SealStep.window ∨ w14.step = SealStep.writing ∨ w14.step = SealStep.flushOne) ∧ w13.writable w14.entry.namespace_ ≠ []) ∧ w13.Admits cmdCaptureAbort ca) :=
  ⟨⟨by decide +kernel, admits_of (by decide +kernel)⟩, ⟨by decide +kernel, admits_of (by decide +kernel)⟩, ⟨by decide +kernel, admits_of (by decide +kernel)⟩, ⟨by decide +kernel, admits_of (by decide +kernel)⟩, ⟨by decide +kernel, admits_of (by decide +kernel)⟩, admits_of (by decide +kernel), ⟨by decide +kernel, admits_of (by decide +kernel)⟩, ⟨by decide +kernel, admits_of (by decide +kernel)⟩⟩

theorem witness_TriggerCommandsAnswerAndTakeEffect :
    (((zeros 10 : List Byte).length = 10 ∧ ((State.judged rl ready).cap.shadowMode = BankMode.empty ∨ (State.judged rl ready).cap.shadowMode = BankMode.ready)) ∧ ready.Admits cmdTriggerLoad rl ∧ ready.Lists rl (list1 10 : List Byte) 10) ∧
    (((zeros 10 : List Byte).length = 10 ∧ ((State.judged rl w1).cap.shadowMode = BankMode.loading ∨ (State.judged rl w1).cap.shadowMode = BankMode.scheduled)) ∧ w1.Admits cmdTriggerLoad rl ∧ w1.Lists rl (list1 10 : List Byte) 10) ∧
    ((bankSwapRange ((rw_ 0 0)  : Request) = none ∧ (State.judged ((rw_ 0 0)  : Request) w2).cap.shadowMode = BankMode.ready ∧ (((rw_ 0 0)  : Request).u 0 1 = 0 ∧ (ready.clock.frame + 8 : BitVec 64) = w2.clock.frame + 8 ∨ ((rw_ 0 0)  : Request).u 0 1 = 1 ∧ (ready.clock.frame + 8 : BitVec 64).toNat = ((rw_ 0 0)  : Request).u 8 8 ∧ w2.clock.frame.toNat + 8 ≤ (ready.clock.frame + 8 : BitVec 64).toNat ∧ (ready.clock.frame + 8 : BitVec 64).toNat ≤ w2.clock.frame.toNat + 8589934592) ∧ (∀ (c : Fin 64), ¬((((rw_ 0 0)  : Request).u 0 8).testBit ↑c = true ∧ (((rw_ 0 0)  : Request).u 8 8).testBit ↑c = true)) ∧ (∀ (c : Fin 64), (((rw_ 0 0)  : Request).u 0 8).testBit ↑c = true → ((State.judged ((rw_ 0 0)  : Request) w2).cap.active.channel c).isSome = true) ∧ (((rw_ 0 0)  : Request).u 0 8 = 0 ∨ (State.judged ((rw_ 0 0)  : Request) w2).captureMarked = false) ∧ (State.judged ((rw_ 0 0)  : Request) w2).cap.swap = none ∧ cmdHostTrigger.range ((rw_ 0 0)  : Request) = none ∧ ((rw_ 0 0)  : Request).u 0 1 = ↑(Fin.ofNat 64 (((rw_ 0 0)  : Request).u 0 1)) ∧ (State.judged ((rw_ 0 0)  : Request) w2).captureMarked = false ∧ ((rw_ 0 0)  : Request).u 1 1 = 0 ∧ (State.judged ((rw_ 0 0)  : Request) w2).cap.channels[Fin.ofNat 64 (((rw_ 0 0)  : Request).u 0 1)].mode = TriggerMode.disarmed) ∧ w2.Admits cmdTriggerSwap ((rw_ 0 0)  : Request) ∧ w2.Admits cmdChannelArm ((rw_ 0 0)  : Request) ∧ w2.Admits cmdHostTrigger ((rw_ 0 0)  : Request)) ∧
    ((bankSwapRange ((rw_ 1 2000000000000008)  : Request) = none ∧ (State.judged ((rw_ 1 2000000000000008)  : Request) ready).cap.shadowMode ≠ BankMode.ready) ∧ ready.Admits cmdTriggerSwap ((rw_ 1 2000000000000008)  : Request)) ∧
    ((((rc 0)  : Request).zero 1 3 = true ∧ ((rc 0)  : Request).u 0 1 = 0 ∧ ((State.judged ((rc 0)  : Request) swp).cap.swap).isSome = true ∧ swp.clock.frame.toNat + 8 ≤ (State.judged ((rc 0)  : Request) swp).cap.swap.get!.frame.toNat ∧ swp.deferred = [] ∧ (swp.chan ((rc 0)  : Request).channel).window.length < 512 ∧ ((rc 0)  : Request).u 0 1 = ↑(Fin.ofNat 64 (((rc 0)  : Request).u 0 1))) ∧ swp.Admits cmdTriggerCancel ((rc 0)  : Request) ∧ (∀ (x : BankSwap), swp.cap.swap = some x → x.command ≠ ((rc 0)  : Request).ref) ∧ swp.Admits cmdTriggerStatus ((rc 0)  : Request)) ∧
    ((((rc 1)  : Request).zero 1 3 = true ∧ ((rc 1)  : Request).u 0 1 = 1 ∧ (State.judged ((rc 1)  : Request) w3).cap.shadowMode = BankMode.ready ∧ w3.deferred = []) ∧ w3.Admits cmdTriggerCancel ((rc 1)  : Request)) ∧
    ((((rc 0)  : Request).zero 1 3 = true ∧ (((rc 0)  : Request).u 0 1 = 0 ∧ (State.judged ((rc 0)  : Request) ready).cap.swap = none ∨ ((rc 0)  : Request).u 0 1 = 1 ∧ (State.judged ((rc 0)  : Request) ready).cap.shadowMode ≠ BankMode.ready)) ∧ ready.Admits cmdTriggerCancel ((rc 0)  : Request)) ∧
    ((((rr 0)  : Request).zero 9 7 = true ∧ ((rr 0)  : Request).u 8 1 = 0) ∧ ready.Admits cmdTriggerRead ((rr 0)  : Request) ∧ ready.Lists ((rr 0)  : Request) (list1 49184 : List Byte) 49184) ∧
    ((((rr 1)  : Request).zero 9 7 = true ∧ ((rr 1)  : Request).u 8 1 = 1 ∧ ((State.judged ((rr 1)  : Request) w4).cap.shadow).isSome = true ∧ (State.judged ((rr 1)  : Request) w4).cap.shadowMode ≠ BankMode.loading) ∧ w4.Admits cmdTriggerRead ((rr 1)  : Request) ∧ w4.Lists ((rr 1)  : Request) (list1 49184 : List Byte) 49184) ∧
    ((((rr 1)  : Request).zero 9 7 = true ∧ ((rr 1)  : Request).u 8 1 = 1 ∧ ((State.judged ((rr 1)  : Request) ready).cap.shadowMode = BankMode.loading ∨ (State.judged ((rr 1)  : Request) ready).cap.shadow = none)) ∧ ready.Admits cmdTriggerRead ((rr 1)  : Request) ∧ ready.Lists ((rr 1)  : Request) (list1 49184  : List Byte) 49184) ∧
    (((∀ (c : Fin 64), ¬((((arm 32 64)  : Request).u 0 8).testBit ↑c = true ∧ (((arm 32 64)  : Request).u 8 8).testBit ↑c = true)) ∧ (∀ (c : Fin 64), (((arm 32 64)  : Request).u 0 8).testBit ↑c = true → ((State.judged ((arm 32 64)  : Request) act).cap.active.channel c).isSome = true) ∧ (((arm 32 64)  : Request).u 0 8 = 0 ∨ (State.judged ((arm 32 64)  : Request) act).captureMarked = false) ∧ (State.judged ((arm 32 64)  : Request) act).cap.swap = none ∧ (((arm 32 64)  : Request).u 0 8).testBit 5 = true ∧ (State.judged ((arm 32 64)  : Request) act).cap.channels[5].mode = TriggerMode.disarmed ∧ (((arm 32 64)  : Request).u 8 8).testBit 6 = true ∧ (((arm 32 64)  : Request).u 0 8).testBit 63 = false ∧ (((arm 32 64)  : Request).u 8 8).testBit 63 = false) ∧ act.Admits cmdChannelArm ((arm 32 64)  : Request)) ∧
    (((∀ (c : Fin 64), ¬((((arm 32 64)  : Request).u 0 8).testBit ↑c = true ∧ (((arm 32 64)  : Request).u 8 8).testBit ↑c = true)) ∧ (∀ (c : Fin 64), (((arm 32 64)  : Request).u 0 8).testBit ↑c = true → ((State.judged ((arm 32 64)  : Request) actA).cap.active.channel c).isSome = true) ∧ (((arm 32 64)  : Request).u 0 8 = 0 ∨ (State.judged ((arm 32 64)  : Request) actA).captureMarked = false) ∧ (State.judged ((arm 32 64)  : Request) actA).cap.swap = none ∧ (((arm 32 64)  : Request).u 0 8).testBit 5 = true ∧ (State.judged ((arm 32 64)  : Request) actA).cap.channels[5].mode ≠ TriggerMode.disarmed) ∧ actA.Admits cmdChannelArm ((arm 32 64)  : Request)) ∧
    (((∀ (c : Fin 64), ¬((((arm 128 (2^63))  : Request).u 0 8).testBit ↑c = true ∧ (((arm 128 (2^63))  : Request).u 8 8).testBit ↑c = true)) ∧ (((arm 128 (2^63))  : Request).u 0 8).testBit 7 = true ∧ (State.judged ((arm 128 (2^63))  : Request) actR).cap.active.channel 7 = none) ∧ actR.Admits cmdChannelArm ((arm 128 (2^63))  : Request)) :=
  ⟨⟨by decide +kernel, admits_of (by decide +kernel), lists_of (by decide +kernel)⟩, ⟨by decide +kernel, admits_of (by decide +kernel), lists_of (by decide +kernel)⟩, ⟨by decide +kernel, admits_of (by decide +kernel), admits_of (by decide +kernel), admits_of (by decide +kernel)⟩, ⟨by decide +kernel, admits_of (by decide +kernel)⟩, ⟨by decide +kernel, admits_of (by decide +kernel), of_all (by decide +kernel), admits_of (by decide +kernel)⟩, ⟨by decide +kernel, admits_of (by decide +kernel)⟩, ⟨by decide +kernel, admits_of (by decide +kernel)⟩, ⟨by decide +kernel, admits_of (by decide +kernel), lists_of (by decide +kernel)⟩, ⟨by decide +kernel, admits_of (by decide +kernel), lists_of (by decide +kernel)⟩, ⟨by decide +kernel, admits_of (by decide +kernel), lists_of (by decide +kernel)⟩, ⟨by decide +kernel, admits_of (by decide +kernel)⟩, ⟨by decide +kernel, admits_of (by decide +kernel)⟩, ⟨by decide +kernel, admits_of (by decide +kernel)⟩⟩

end S37

namespace S38
def mib := 1048576
def ob (n : Nat) (pin : Bool := false) : StoredObject := { (default : StoredObject) with sequence := n, kind := 1, length := 8192, pinned := pin, inLog := true, content := zeros 16 }
def drv (n : Fin 16) : DriveEntry := ⟨n, 0, 0, BitVec.ofNat 64 (4096 * mib), 0, 0⟩
def cap0 := fun (x : CaptureState) => { x with drives := ⟨default, [drv 2, drv 3]⟩, drivesHeld := ⟨default, [drv 2, drv 3]⟩ }
def base := { ready with cap := cap0 ready.cap }
def nsWith (os : List StoredObject) (f : CaptureState → CaptureState := id) := { ready with cap := f { cap0 ready.cap with namespaces := ready.cap.namespaces.set 7 { (default : StoreNamespace) with mode := .ok, members := [(2, 0)], extent := 256 * mib, objects := os, retain := 100 } } }
def dd := ask cmdDriveDeclare 3 (zeros 8)
def ent (d : Nat) : List Byte := leBytes 1 d ++ [0,0] ++ zeros 5 ++ leBytes 8 (4096*mib) ++ List.replicate 60 0x41 ++ zeros 4
def decl (ds : List Nat) : List Byte := [1] ++ leBytes 1 ds.length ++ zeros 14 ++ ds.flatMap ent
def nd (n red cnt : Nat) (ms : List (Nat × Nat)) (ext : Nat := 256 * mib) := ask cmdNamespaceDeclare 3 (leBytes 1 n ++ leBytes 1 red ++ leBytes 1 cnt ++ zeros 1 ++ leBytes 4 77 ++ leBytes 8 ext
  ++ (ms.flatMap fun m => leBytes 1 m.1 ++ zeros 3 ++ leBytes 8 m.2) ++ zeros (192 - 12 * ms.length))
def dl (n : Nat) := ask cmdNamespaceDelete 3 (leBytes 1 n ++ zeros 3)
def cpx : Capture := { (default : Capture) with sequence := 90, length := 8192, entry := { (default : ChannelEntry) with namespace_ := 7 } }
def withCap := nsWith [] fun x => { x with captures := [cpx] }
def ol (seq mx ns : Nat) := ask cmdObjectList 7 (zeros 8 ++ leBytes 8 seq ++ leBytes 4 mx ++ leBytes 1 ns ++ zeros 3)
def or_ (seq off len : Nat) := ask cmdObjectRead 7 (zeros 8 ++ leBytes 8 seq ++ leBytes 8 off ++ leBytes 4 len ++ zeros 4)
def op (seq o : Nat) := ask cmdObjectPin 3 (leBytes 8 seq ++ leBytes 1 o ++ zeros 7)
def w1 : State := (nsWith []) 
def w2 : State := (nsWith []) 
def w3 : State := (nsWith [ob 4]) 
def w4 : State := (nsWith [ob 4, ob 5 true]) 
def w5 : State := (nsWith [ob 4, ob 9]) 
def w6 : State := (nsWith [ob 4, ob 9]) 
def w7 : State := (nsWith [ob 4, ob 9]) 
def w8 : State := (nsWith [ob 4, ob 9]) 
def w9 : State := (nsWith [ob 4, ob 9]) 
def w10 : State := (nsWith [ob 4, ob 9]) 
def w11 : State := (nsWith [ob 4, ob 9 true]) 

theorem witness_StoreCommandsAnswerAndTakeEffect_part2 :
    ((((op 9 0)  : Request).u 8 1 ≤ 2 ∧ ((op 9 0)  : Request).zero 9 7 = true ∧ (State.judged ((op 9 0)  : Request) w9).domainOn 51 = true ∧ (State.judged ((op 9 0)  : Request) w9).findObject (((op 9 0)  : Request).u 0 8) = some (7, (ob 9 : StoredObject)) ∧ ((op 9 0)  : Request).u 8 1 ≤ 1 ∧ (ob 9 true : StoredObject) ∈ (State.carryOut { opcode := 2064, request := ((op 9 0)  : Request), data := [] } (State.judged ((op 9 0)  : Request) w9)).cap.namespaces[7].objects ∧ (ob 9 true : StoredObject).sequence = ((op 9 0)  : Request).u 0 8) ∧ w9.Admits cmdObjectPin ((op 9 0)  : Request)) ∧
    ((((op 9 2)  : Request).u 8 1 ≤ 2 ∧ ((op 9 2)  : Request).zero 9 7 = true ∧ (State.judged ((op 9 2)  : Request) w10).domainOn 51 = true ∧ (State.judged ((op 9 2)  : Request) w10).findObject (((op 9 2)  : Request).u 0 8) = some (7, (ob 9  : StoredObject)) ∧ ((op 9 2)  : Request).u 8 1 = 2 ∧ (ob 9  : StoredObject).pinned = false ∧ (ob 9  : StoredObject).sealRtc + (State.judged ((op 9 2)  : Request) w10).cap.namespaces[7].retain < (State.judged ((op 9 2)  : Request) w10).rtcNow ∧ (State.judged ((op 9 2)  : Request) w10).underRead (((op 9 2)  : Request).u 0 8) = false ∧ (ob 4 : StoredObject) ∈ (State.carryOut { opcode := 2064, request := ((op 9 2)  : Request), data := [] } (State.judged ((op 9 2)  : Request) w10)).cap.namespaces[7].objects) ∧ w10.Admits cmdObjectPin ((op 9 2)  : Request)) ∧
    ((((op 9 2)  : Request).u 8 1 ≤ 2 ∧ ((op 9 2)  : Request).zero 9 7 = true ∧ (State.judged ((op 9 2)  : Request) w11).domainOn 51 = true ∧ (State.judged ((op 9 2)  : Request) w11).findObject (((op 9 2)  : Request).u 0 8) = some (7, (ob 9 true : StoredObject)) ∧ ((op 9 2)  : Request).u 8 1 = 2 ∧ ((ob 9 true : StoredObject).pinned = true ∨ (State.judged ((op 9 2)  : Request) w11).rtcNow ≤ (ob 9 true : StoredObject).sealRtc + (State.judged ((op 9 2)  : Request) w11).cap.namespaces[7].retain ∨ (State.judged ((op 9 2)  : Request) w11).underRead (((op 9 2)  : Request).u 0 8) = true)) ∧ w11.Admits cmdObjectPin ((op 9 2)  : Request)) :=
  ⟨⟨by decide +kernel, admits_of (by decide +kernel)⟩, ⟨by decide +kernel, admits_of (by decide +kernel)⟩, ⟨by decide +kernel, admits_of (by decide +kernel)⟩⟩

theorem witness_StoreCommandsAnswerAndTakeEffect :
    (((decl [5] : List Byte).length = 96 ∧ driveOffset (driveCount (decl [5] : List Byte)) ≤ 96 ∧ driveRange (decl [5] : List Byte) = none ∧ (State.judged dd base).driveConflict (decl [5] : List Byte) = none) ∧ base.Admits cmdDriveDeclare dd ∧ base.Lists dd (list1 96 : List Byte) 96) ∧
    (((decl [3]  : List Byte).length = 96 ∧ driveOffset (driveCount (decl [3]  : List Byte)) ≤ 96 ∧ driveRange (decl [3]  : List Byte) = none ∧ (State.judged dd w1).driveConflict (decl [3]  : List Byte) = some 0 ∧ (decl [16] : List Byte).length = 96 ∧ driveOffset (driveCount (decl [16] : List Byte)) ≤ 96 ∧ driveRange (decl [16] : List Byte) = some 16) ∧ w1.Admits cmdDriveDeclare dd ∧ w1.Lists dd (list1 96 : List Byte) 96) ∧
    ((nsDeclareRange ((nd 7 0 1 [(2,0)])  : Request) = none ∧ ((nd 7 0 1 [(2,0)])  : Request).u 0 1 = 7 ∧ (State.judged ((nd 7 0 1 [(2,0)])  : Request) base).domainOn 51 = true ∧ (∀ m ∈ nsMembers ((nd 7 0 1 [(2,0)])  : Request), ∀ e ∈ (State.judged ((nd 7 0 1 [(2,0)])  : Request) base).cap.drives.entries, e.drive = m.1 → m.2 + ((nd 7 0 1 [(2,0)])  : Request).u 8 8 ≤ e.capacity.toNat) ∧ (State.judged ((nd 7 0 1 [(2,0)])  : Request) base).cap.namespaces[7].mode = StoreMode.undeclared ∧ noRepeats (List.map (fun (x : Fin 16 × ℕ) => x.1) (nsMembers ((nd 7 0 1 [(2,0)])  : Request))) = true ∧ (∀ m ∈ nsMembers ((nd 7 0 1 [(2,0)])  : Request), (∃ e ∈ (State.judged ((nd 7 0 1 [(2,0)])  : Request) base).cap.drives.entries, e.drive = m.1) ∧ (State.judged ((nd 7 0 1 [(2,0)])  : Request) base).cap.driveFailed[m.1] = false ∧ (State.judged ((nd 7 0 1 [(2,0)])  : Request) base).cap.driveBad[m.1] = false ∧ ∀ x ∈ (State.judged ((nd 7 0 1 [(2,0)])  : Request) base).extents, x.1 = m.1 → x.2.1 + x.2.2 ≤ m.2 ∨ m.2 + ((nd 7 0 1 [(2,0)])  : Request).u 8 8 ≤ x.2.1) ∧ (List.map StoreNamespace.capacity (List.filter (fun (x : StoreNamespace) => x.mode != StoreMode.undeclared) (State.judged ((nd 7 0 1 [(2,0)])  : Request) base).cap.namespaces.toList)).sum + (declaredNamespace ((nd 7 0 1 [(2,0)])  : Request)).capacity ≤ 2 ^ 48) ∧ base.Admits cmdNamespaceDeclare ((nd 7 0 1 [(2,0)])  : Request)) ∧
    ((nsDeclareRange ((nd 7 1 2 [(2,0), (3,0)])  : Request) = none ∧ ((nd 7 1 2 [(2,0), (3,0)])  : Request).u 0 1 = 7 ∧ (State.judged ((nd 7 1 2 [(2,0), (3,0)])  : Request) w2).domainOn 51 = true ∧ (∀ m ∈ nsMembers ((nd 7 1 2 [(2,0), (3,0)])  : Request), ∀ e ∈ (State.judged ((nd 7 1 2 [(2,0), (3,0)])  : Request) w2).cap.drives.entries, e.drive = m.1 → m.2 + ((nd 7 1 2 [(2,0), (3,0)])  : Request).u 8 8 ≤ e.capacity.toNat) ∧ (State.judged ((nd 7 1 2 [(2,0), (3,0)])  : Request) w2).cap.namespaces[7].mode ≠ StoreMode.undeclared) ∧ w2.Admits cmdNamespaceDeclare ((nd 7 1 2 [(2,0), (3,0)])  : Request)) ∧
    ((((dl 7)  : Request).zero 1 3 = true ∧ ((dl 7)  : Request).u 0 1 = 7 ∧ (State.judged ((dl 7)  : Request) w3).domainOn 51 = true ∧ State.namespaceBusy 7 (State.judged ((dl 7)  : Request) w3) = false ∧ (∀ o ∈ (State.judged ((dl 7)  : Request) w3).cap.namespaces[7].objects, o.pinned = false)) ∧ w3.Admits cmdNamespaceDelete ((dl 7)  : Request) ∧ w3.Admits cmdStoreStatus ((dl 7)  : Request)) ∧
    ((((dl 7)  : Request).zero 1 3 = true ∧ ((dl 7)  : Request).u 0 1 = 7 ∧ (State.judged ((dl 7)  : Request) w4).domainOn 51 = true ∧ (ob 5 true : StoredObject) ∈ (State.judged ((dl 7)  : Request) w4).cap.namespaces[7].objects ∧ (ob 5 true : StoredObject).pinned = true ∧ State.namespaceBusy 7 (State.judged ((dl 7)  : Request) w4) = false) ∧ w4.Admits cmdNamespaceDelete ((dl 7)  : Request)) ∧
    ((((dl 7)  : Request).zero 1 3 = true ∧ ((dl 7)  : Request).u 0 1 = 7 ∧ (State.judged ((dl 7)  : Request) withCap).domainOn 51 = true ∧ (∃ x ∈ (State.judged ((dl 7)  : Request) withCap).cap.captures, x.entry.namespace_ = 7)) ∧ withCap.Admits cmdNamespaceDelete ((dl 7)  : Request)) ∧
    (cmdObjectList.range ((ol 0 65536 255)  : Request) = none ∧ w5.Admits cmdObjectList ((ol 0 65536 255)  : Request) ∧ w5.Lists ((ol 0 65536 255)  : Request) (list1 112  : List Byte) 112) ∧
    (cmdObjectList.range ((ol 5 1 8)  : Request) = none ∧ w6.Admits cmdObjectList ((ol 5 1 8)  : Request) ∧ w6.Lists ((ol 5 1 8)  : Request) (list1 112  : List Byte) 112) ∧
    (cmdObjectList.range ((ol 5 1 7)  : Request) = none ∧ withCap.Admits cmdObjectList ((ol 5 1 7)  : Request) ∧ withCap.Lists ((ol 5 1 7)  : Request) (list1 11 : List Byte) 11) ∧
    ((cmdObjectRead.range ((or_ 9 4096 4096)  : Request) = none ∧ (State.judged ((or_ 9 4096 4096)  : Request) w7).domainOn 51 = true ∧ (State.judged ((or_ 9 4096 4096)  : Request) w7).findObject (((or_ 9 4096 4096)  : Request).u 8 8) = some (7, (ob 9 : StoredObject)) ∧ ((or_ 9 4096 4096)  : Request).u 16 8 + ((or_ 9 4096 4096)  : Request).u 24 4 ≤ (ob 9 : StoredObject).length ∧ ((or_ 9 4096 4096)  : Request).u 24 4 ≤ 4096 ∧ w7.deferred = []) ∧ w7.Admits cmdObjectRead ((or_ 9 4096 4096)  : Request) ∧ w7.Lists ((or_ 9 4096 4096)  : Request) (list1 4096 : List Byte) 4096) ∧
    ((cmdObjectRead.range ((or_ 90 4096 4096)  : Request) = none ∧ (State.judged ((or_ 90 4096 4096)  : Request) w8).domainOn 51 = true ∧ (State.judged ((or_ 90 4096 4096)  : Request) w8).findObject (((or_ 90 4096 4096)  : Request).u 8 8) = none ∧ (State.judged ((or_ 90 4096 4096)  : Request) w8).openCapture (((or_ 90 4096 4096)  : Request).u 8 8) = none) ∧ w8.Admits cmdObjectRead ((or_ 90 4096 4096)  : Request) ∧ w8.Lists ((or_ 90 4096 4096)  : Request) (list1 4096 : List Byte) 4096) ∧
    ((cmdObjectRead.range ((or_ 90 4096 4096)  : Request) = none ∧ (State.judged ((or_ 90 4096 4096)  : Request) withCap).domainOn 51 = true ∧ (State.judged ((or_ 90 4096 4096)  : Request) withCap).findObject (((or_ 90 4096 4096)  : Request).u 8 8) = none ∧ (State.judged ((or_ 90 4096 4096)  : Request) withCap).openCapture (((or_ 90 4096 4096)  : Request).u 8 8) = some cpx ∧ ((or_ 90 4096 4096)  : Request).u 16 8 + ((or_ 90 4096 4096)  : Request).u 24 4 ≤ cpx.length) ∧ withCap.Admits cmdObjectRead ((or_ 90 4096 4096)  : Request) ∧ withCap.Lists ((or_ 90 4096 4096)  : Request) (list1 4096 : List Byte) 4096) :=
  ⟨⟨by decide +kernel, admits_of (by decide +kernel), lists_of (by decide +kernel)⟩, ⟨by decide +kernel, admits_of (by decide +kernel), lists_of (by decide +kernel)⟩, ⟨by decide +kernel, admits_of (by decide +kernel)⟩, ⟨by decide +kernel, admits_of (by decide +kernel)⟩, ⟨by decide +kernel, admits_of (by decide +kernel), admits_of (by decide +kernel)⟩, ⟨by decide +kernel, admits_of (by decide +kernel)⟩, ⟨by decide +kernel, admits_of (by decide +kernel)⟩, ⟨by decide +kernel, admits_of (by decide +kernel), lists_of (by decide +kernel)⟩, ⟨by decide +kernel, admits_of (by decide +kernel), lists_of (by decide +kernel)⟩, ⟨by decide +kernel, admits_of (by decide +kernel), lists_of (by decide +kernel)⟩, ⟨by decide +kernel, admits_of (by decide +kernel), lists_of (by decide +kernel)⟩, ⟨by decide +kernel, admits_of (by decide +kernel), lists_of (by decide +kernel)⟩, ⟨by decide +kernel, admits_of (by decide +kernel), lists_of (by decide +kernel)⟩⟩

end S38

namespace S39
def rs_ (f : Nat) (v : List Byte) := ask cmdRtcSet 3 (leBytes 1 f ++ zeros 7 ++ v)
def ls (o : Int) (k : Nat) (t : Nat) := ask cmdLeapSet 3 (leBytes 2 (BitVec.ofInt 16 o).toNat ++ leBytes 1 k ++ zeros 5 ++ leBytes 8 t)
def lg (f : EventState → EventState) := { ready with ev := f ready.ev }
def rec' (i : Nat) : LoggedRecord := { (default : LoggedRecord) with index := i }
def full := lg fun e => { e with log := [rec' 3, rec' 4, rec' 5], nextIndex := 6 }
def lf (o n : Nat) := ask cmdLogFreeze 3 (leBytes 1 o ++ zeros 1 ++ leBytes 2 n)
def lr (f m a : Nat) := ask cmdLogRead 7 (zeros 8 ++ leBytes 8 f ++ leBytes 4 m ++ leBytes 1 a ++ zeros 3)
def lc := ask cmdLogClear 7 (zeros 8)
def w1 : Request := (rs_ 0 (leBytes 8 12622780799)) 
def w2 : Request := (rs_ 0 (leBytes 8 12622780800)) 
def w3 : Request := (rs_ 1 (leBytes 2 2000 ++ [2,30,0,0,0,0])) 
def w4 : State := (lg fun e => { e with frozenUntil := some 10001000000}) 
def w5 : State := (lg fun e => { e with buffer := [default] }) 
def w6 : Request := (ask cmdEvtRoute 3 (leBytes 2 487 ++ [15,3,15,3,0,0])) 

theorem witness_ClockAndLogCommandsAnswerAndTakeEffect_part2 :
    (((zeros 192 : List Byte).length = 192 ∧ (State.judged lc full).ev.log ≠ []) ∧ full.Admits cmdLogClear lc ∧ full.Lists lc (list1 192  : List Byte) 192 ∧ full.Lists lc (list1 191 : List Byte) 191) ∧
    (((zeros 192 : List Byte).length = 192 ∧ (State.judged lc ready).ev.log = []) ∧ ready.Admits cmdLogClear lc ∧ ready.Lists lc (list1 192  : List Byte) 192) ∧
    ((w6.u 0 2 = 487 ∧ w6.u 2 1 ≤ 15 ∧ w6.u 3 1 ≤ 15 ∧ w6.u 4 1 ≤ 15 ∧ w6.u 5 1 ≤ 3 ∧ w6.zero 6 2 = true) ∧ ready.Admits cmdEvtRoute w6) :=
  ⟨⟨by decide +kernel, admits_of (by decide +kernel), lists_of (by decide +kernel), lists_of (by decide +kernel)⟩, ⟨by decide +kernel, admits_of (by decide +kernel), lists_of (by decide +kernel)⟩, ⟨by decide +kernel, admits_of (by decide +kernel)⟩⟩

theorem witness_ClockAndLogCommandsAnswerAndTakeEffect :
    (ready.Admits cmdRtcRead ((ask cmdRtcRead 3 [])  : Request) ∧ ready.Admits cmdLogStatus ((ask cmdRtcRead 3 [])  : Request)) ∧
    ((w1.u 0 1 ≤ 2 ∧ w1.zero 1 7 = true ∧ cmdRtcSet.range w1 = none ∧ (State.judged w1 ready).rtc.instant (w1.u 0 1) (clockValue w1) = Except.ok 12622780799 ∧ w1.u 0 1 = 0 ∧ w1.u 8 8 ≤ 12622780799 ∧ clockValue w1 = leBytes 8 (w1.u 8 8)) ∧ ready.Admits cmdRtcSet w1) ∧
    ((w2.u 0 1 ≤ 2 ∧ w2.zero 1 7 = true ∧ w2.u 0 1 = 0 ∧ 12622780799 < w2.u 8 8) ∧ ready.Admits cmdRtcSet w2) ∧
    ((w3.u 0 1 ≤ 2 ∧ w3.zero 1 7 = true ∧ w3.u 0 1 = 1 ∧ 2000 ≤ w3.u 8 2 ∧ w3.u 8 2 ≤ 2399 ∧ w3.u 10 1 = 2 ∧ w3.u 11 1 = 30 ∧ w3.zero 15 1 = true) ∧ ready.Admits cmdRtcSet w3) ∧
    ((cmdLeapSet.range ((ls (-37) 0 0)  : Request) = none ∧ ((ls (-37) 0 0)  : Request).u 2 1 = 0) ∧ ready.Admits cmdLeapSet ((ls (-37) 0 0)  : Request)) ∧
    ((cmdLeapSet.range ((ls 37 1 (86400*20000+38))  : Request) = none ∧ ((ls 37 1 (86400*20000+38))  : Request).u 2 1 ≠ 0 ∧ (38 = if ((ls 37 1 (86400*20000+38))  : Request).u 2 1 = 1 then ((ls 37 1 (86400*20000+38))  : Request).s 0 2 + 1 else ((ls 37 1 (86400*20000+38))  : Request).s 0 2 - 1) ∧ (↑(((ls 37 1 (86400*20000+38))  : Request).u 8 8) - 38) % 86400 = 0 ∧ (State.judged ((ls 37 1 (86400*20000+38))  : Request) ready).rtcNow < ((ls 37 1 (86400*20000+38))  : Request).u 8 8) ∧ ready.Admits cmdLeapSet ((ls 37 1 (86400*20000+38))  : Request)) ∧
    ((cmdLeapSet.range ((ls (-37) 2 (86400*2-38))  : Request) = none ∧ ((ls (-37) 2 (86400*2-38))  : Request).u 2 1 ≠ 0 ∧ ((-38 : ℤ) = if ((ls (-37) 2 (86400*2-38))  : Request).u 2 1 = 1 then ((ls (-37) 2 (86400*2-38))  : Request).s 0 2 + 1 else ((ls (-37) 2 (86400*2-38))  : Request).s 0 2 - 1) ∧ (↑(((ls (-37) 2 (86400*2-38))  : Request).u 8 8) - (-38 : ℤ)) % 86400 = 0 ∧ ((ls (-37) 2 (86400*2-38))  : Request).u 8 8 ≤ (State.judged ((ls (-37) 2 (86400*2-38))  : Request) ready).rtcNow) ∧ ready.Admits cmdLeapSet ((ls (-37) 2 (86400*2-38))  : Request)) ∧
    ((cmdLeapSet.range ((ls (-37) 2 (86400*2-37))  : Request) = none ∧ ((ls (-37) 2 (86400*2-37))  : Request).u 2 1 ≠ 0 ∧ ((-38 : ℤ) = if ((ls (-37) 2 (86400*2-37))  : Request).u 2 1 = 1 then ((ls (-37) 2 (86400*2-37))  : Request).s 0 2 + 1 else ((ls (-37) 2 (86400*2-37))  : Request).s 0 2 - 1) ∧ (↑(((ls (-37) 2 (86400*2-37))  : Request).u 8 8) - (-38 : ℤ)) % 86400 ≠ 0) ∧ ready.Admits cmdLeapSet ((ls (-37) 2 (86400*2-37))  : Request)) ∧
    ((((lf 0 600)  : Request).zero 1 1 = true ∧ ((lf 0 600)  : Request).u 0 1 = 0 ∧ 1 ≤ ((lf 0 600)  : Request).u 2 2 ∧ ((lf 0 600)  : Request).u 2 2 ≤ 600 ∧ (State.judged ((lf 0 600)  : Request) full).ev.powerFailing = false) ∧ full.Admits cmdLogFreeze ((lf 0 600)  : Request)) ∧
    ((((lf 0 601)  : Request).zero 1 1 = true ∧ ((lf 0 601)  : Request).u 0 1 = 0 ∧ (((lf 0 601)  : Request).u 2 2 = 0 ∨ 600 < ((lf 0 601)  : Request).u 2 2)) ∧ full.Admits cmdLogFreeze ((lf 0 601)  : Request)) ∧
    ((((lf 1 0)  : Request).zero 1 1 = true ∧ ((lf 1 0)  : Request).u 0 1 = 1 ∧ ((lf 1 0)  : Request).u 2 2 = 0) ∧ w4.Admits cmdLogFreeze ((lf 1 0)  : Request)) ∧
    ((cmdLogRead.range ((lr 0 4 0)  : Request) = none ∧ EventState.readArea (((lr 0 4 0)  : Request).u 20 1) (((lr 0 4 0)  : Request).u 8 8) (((lr 0 4 0)  : Request).u 16 4) (State.judged ((lr 0 4 0)  : Request) full).ev = (3, ([default, default, default] : List EventRecord)) ∧ 32 * ((lr 0 4 0)  : Request).u 16 4 ≤ 128 ∧ ([default, default, default] : List EventRecord) ≠ [] ∧ ((lr 0 4 0)  : Request).u 20 1 = 0 ∧ 127 < 32 * ((lr 0 4 0)  : Request).u 16 4) ∧ full.Admits cmdLogRead ((lr 0 4 0)  : Request) ∧ full.Lists ((lr 0 4 0)  : Request) (list1 128  : List Byte) 128 ∧ full.Lists ((lr 0 4 0)  : Request) (list1 127 : List Byte) 127) ∧
    ((cmdLogRead.range ((lr 0 4 1)  : Request) = none ∧ EventState.readArea (((lr 0 4 1)  : Request).u 20 1) (((lr 0 4 1)  : Request).u 8 8) (((lr 0 4 1)  : Request).u 16 4) (State.judged ((lr 0 4 1)  : Request) w5).ev = (0, ([default] : List EventRecord)) ∧ 32 * ((lr 0 4 1)  : Request).u 16 4 ≤ 128 ∧ ([default] : List EventRecord) ≠ [] ∧ ((lr 0 4 1)  : Request).u 20 1 ≠ 0) ∧ w5.Admits cmdLogRead ((lr 0 4 1)  : Request) ∧ w5.Lists ((lr 0 4 1)  : Request) (list1 128  : List Byte) 128) :=
  ⟨⟨admits_of (by decide +kernel), admits_of (by decide +kernel)⟩, ⟨by decide +kernel, admits_of (by decide +kernel)⟩, ⟨by decide +kernel, admits_of (by decide +kernel)⟩, ⟨by decide +kernel, admits_of (by decide +kernel)⟩, ⟨by decide +kernel, admits_of (by decide +kernel)⟩, ⟨by decide +kernel, admits_of (by decide +kernel)⟩, ⟨by decide +kernel, admits_of (by decide +kernel)⟩, ⟨by decide +kernel, admits_of (by decide +kernel)⟩, ⟨by decide +kernel, admits_of (by decide +kernel)⟩, ⟨by decide +kernel, admits_of (by decide +kernel)⟩, ⟨by decide +kernel, admits_of (by decide +kernel)⟩, ⟨by decide +kernel, admits_of (by decide +kernel), lists_of (by decide +kernel), lists_of (by decide +kernel)⟩, ⟨by decide +kernel, admits_of (by decide +kernel), lists_of (by decide +kernel)⟩⟩

end S39

namespace S40
def cr (w : Nat) := ask cmdCertRead 7 (zeros 8 ++ leBytes 1 w ++ zeros 7)
def at_ (m : Nat) := ask cmdAttest 7 (zeros 8 ++ zeros 32 ++ leBytes 4 m ++ zeros 4)
def ot := ask cmdOwnerTransfer 7 (zeros 8)
def own := { ready with sec := { ready.sec with owner := some (zeros 3) } }
def lk := ask cmdLinkRekey 3 (leBytes 2 511 ++ zeros 2)
def pt (f : Port → Port) := { ready with ports := ready.ports.set 511 (f ready.ports[511]) }
def br (b u : Nat) := ask cmdBistRun 3 (leBytes 1 b ++ leBytes 1 u ++ zeros 6)
def off := { ready with map := { ready.map with planes := ready.map.planes.set 3 { (default : Plane) with mode := .off } } }
def stp := { ready with ember := { ready.ember with clusters := ready.ember.clusters.set 7 { ready.ember.clusters[7] with mode := .stopped } } }
def bres := { ready with bist := { ready.bist with results := [default, default] } }
def w1 : State := (pt fun q => { q with mode := .up, link := { q.link with txSlots := #v[some ⟨0,1,0,none⟩, some ⟨0,1,0,none⟩], rxSlots := #v[some ⟨0,1,0,none⟩, some ⟨0,1,0,none⟩] } }) 
def w2 : Request := (ask cmdBistResults 7 (zeros 8)) 

theorem witness_SecurityAndTestCommandsAnswerAndTakeEffect :
    (ready.Admits cmdSecNonce ((ask cmdSecNonce 3 [])  : Request) ∧ ready.Admits cmdSecStatus ((ask cmdSecNonce 3 [])  : Request)) ∧
    ((((cr 0)  : Request).u 8 1 ≤ 3 ∧ ((cr 0)  : Request).zero 9 7 = true ∧ (((cr 0)  : Request).u 8 1 ≠ 3 ∨ (State.judged ((cr 0)  : Request) ready).sec.owner ≠ none)) ∧ ready.Admits cmdCertRead ((cr 0)  : Request) ∧ ready.Lists ((cr 0)  : Request) (list1 40000 : List Byte) 40000) ∧
    ((((cr 3)  : Request).u 8 1 ≤ 3 ∧ ((cr 3)  : Request).zero 9 7 = true ∧ ((cr 3)  : Request).u 8 1 = 3 ∧ (State.judged ((cr 3)  : Request) ready).sec.owner = none) ∧ ready.Admits cmdCertRead ((cr 3)  : Request) ∧ ready.Lists ((cr 3)  : Request) (list1 40000 : List Byte) 40000) ∧
    ((((at_ 15)  : Request).u 40 4 ≤ 15 ∧ ((at_ 15)  : Request).zero 44 4 = true) ∧ ready.Admits cmdAttest ((at_ 15)  : Request) ∧ ready.Lists ((at_ 15)  : Request) (list1 40000  : List Byte) 40000 ∧ ready.Lists ((at_ 15)  : Request) (list1 3 : List Byte) 3) ∧
    ((zeros 1864 : List Byte).length = 1864 ∧ ((Instr.ownerTransfer = Instr.ownerTransfer ∧ cmdOwnerTransfer = cmdOwnerTransfer ∧ 2820 = 2820 ∧ 1864 = if (State.judged ot ready).sec.owner = none then 1864 else 1152) ∨ Instr.ownerTransfer = Instr.debugUnlock ∧ cmdOwnerTransfer = cmdDebugUnlock ∧ 2820 = 2821 ∧ 1864 = 192) ∧ ready.Admits cmdOwnerTransfer ot ∧ ready.Lists ot (list1 40000  : List Byte) 40000 ∧ ready.Lists ot (list1 1863 : List Byte) 1863) ∧
    ((lk.u 0 2 = 511 ∧ lk.zero 2 2 = true ∧ (((State.judged lk ready).port 511).mode ≠ PortMode.up ∨ ((State.judged lk ready).port 511).link.keyed = false ∨ ((State.judged lk ready).port 511).link.rekey ≠ none)) ∧ ready.Admits cmdLinkRekey lk) ∧
    ((lk.u 0 2 = 511 ∧ lk.zero 2 2 = true ∧ ((State.judged lk w1).port 511).mode = PortMode.up ∧ ((State.judged lk w1).port 511).link.keyed = true ∧ ((State.judged lk w1).port 511).link.rekey = none) ∧ w1.Admits cmdLinkRekey lk) ∧
    (own.Admits cmdSecStatus ((ask cmdSecStatus 3 [])  : Request)) ∧
    ((((br 0 3)  : Request).zero 2 6 = true ∧ ((br 0 3)  : Request).u 0 1 = 0 ∧ ((br 0 3)  : Request).u 1 1 = ↑(3 : Fin 4) ∧ (State.judged ((br 0 3)  : Request) ready).map.planes[(3 : Fin 4)].mode ≠ PlaneMode.off) ∧ ready.Admits cmdBistRun ((br 0 3)  : Request)) ∧
    ((((br 1 7)  : Request).zero 2 6 = true ∧ ((br 1 7)  : Request).u 0 1 = 1 ∧ ((br 1 7)  : Request).u 1 1 = ↑(7 : Fin 8) ∧ (State.judged ((br 1 7)  : Request) ready).ember.clusters[(7 : Fin 8)].mode ≠ ClusterMode.stopped) ∧ ready.Admits cmdBistRun ((br 1 7)  : Request)) ∧
    ((((br 0 3)  : Request).zero 2 6 = true ∧ ((br 0 3)  : Request).u 0 1 = 0 ∧ ((br 0 3)  : Request).u 1 1 = ↑(3 : Fin 4) ∧ (State.judged ((br 0 3)  : Request) off).map.planes[(3 : Fin 4)].mode = PlaneMode.off ∧ (State.judged ((br 0 3)  : Request) off).bist.run = none) ∧ off.Admits cmdBistRun ((br 0 3)  : Request)) ∧
    ((((br 1 7)  : Request).zero 2 6 = true ∧ ((br 1 7)  : Request).u 0 1 = 1 ∧ ((br 1 7)  : Request).u 1 1 = ↑(7 : Fin 8) ∧ (State.judged ((br 1 7)  : Request) stp).ember.clusters[(7 : Fin 8)].mode = ClusterMode.stopped ∧ (State.judged ((br 1 7)  : Request) stp).bist.run = none) ∧ stp.Admits cmdBistRun ((br 1 7)  : Request)) ∧
    (((State.judged w2 bres).bist.results ≠ [] ∧ (List.flatMap BistResult.bytes (State.judged w2 bres).bist.results).length ≤ 64 ∧ 63 < (List.flatMap BistResult.bytes (State.judged w2 bres).bist.results).length) ∧ bres.Admits cmdBistResults w2 ∧ bres.Lists w2 (list1 64  : List Byte) 64 ∧ bres.Lists w2 (list1 63  : List Byte) 63) :=
  ⟨⟨admits_of (by decide +kernel), admits_of (by decide +kernel)⟩, ⟨by decide +kernel, admits_of (by decide +kernel), lists_of (by decide +kernel)⟩, ⟨by decide +kernel, admits_of (by decide +kernel), lists_of (by decide +kernel)⟩, ⟨by decide +kernel, admits_of (by decide +kernel), lists_of (by decide +kernel), lists_of (by decide +kernel)⟩, ⟨by decide +kernel, Or.inl ⟨rfl, rfl, by decide +kernel, by decide +kernel⟩, admits_of (by decide +kernel), lists_of (by decide +kernel), lists_of (by decide +kernel)⟩, ⟨by decide +kernel, admits_of (by decide +kernel)⟩, ⟨by decide +kernel, admits_of (by decide +kernel)⟩, admits_of (by decide +kernel), ⟨by decide +kernel, admits_of (by decide +kernel)⟩, ⟨by decide +kernel, admits_of (by decide +kernel)⟩, ⟨by decide +kernel, admits_of (by decide +kernel)⟩, ⟨by decide +kernel, admits_of (by decide +kernel)⟩, ⟨by decide +kernel, admits_of (by decide +kernel), lists_of (by decide +kernel), lists_of (by decide +kernel)⟩⟩

end S40

namespace S41
def q1 := ask cmdPerfSelect 7 (leBytes 2 3 ++ leBytes 2 1024 ++ leBytes 2 2 ++ zeros 2)
def q1b := ask cmdPerfSelect 7 (leBytes 2 3 ++ leBytes 2 1024 ++ leBytes 2 0 ++ zeros 2)
def q2 := ask cmdPerfSnapshot 7 (zeros 24)
def q2b := ask cmdPerfSnapshot 7 (zeros 8 ++ leBytes 8 5 ++ zeros 8)
def q3 := ask cmdPerfSample 7 (zeros 8 ++ leBytes 2 0 ++ leBytes 4 100 ++ leBytes 4 1 ++ zeros 6)
def full16 := ready.setPerf fun x => { x with counters := (List.range 16).foldl (fun v i => v.setIfInBounds (i+10) { (default : PerfCounter) with block := 1024, event := 1 }) x.counters }
def marked := ready.setBist fun x => { x with marks := [(1, 0)] }
def snap4 := ready.setPerf fun x => { x with snapshots := List.replicate 4 ⟨⟨1, 2⟩, 5, none⟩ }
def job8 := ready.setPerf fun x => { x with jobs := List.replicate 8 { (default : SampleJob) with core := 999 } }
def noCore := { ready with mgmt := { ready.mgmt with cores := ready.mgmt.cores.set 1 ManagementCore.reset } }
def q3b := ask cmdPerfSample 7 (zeros 8 ++ leBytes 2 1 ++ leBytes 4 100 ++ leBytes 4 1 ++ zeros 6)
def dom (d m : Nat) := ask cmdDomainSet 7 (leBytes 1 d ++ leBytes 1 m ++ zeros 2)
def q5 := ask cmdPowerStatus 7 []
def q6 := ask cmdShutdown 7 (leBytes 4 0xA55A ++ leBytes 1 1 ++ zeros 3)
def q6s := ready.setRst fun x => { x with shutdown := some (⟨1,2⟩, false) }
def armed := { ready with cap := { ready.cap with channels := ready.cap.channels.map fun (c : TriggerChannel) => { c with mode := .armed } } }
def q7 := ask cmdFwStage 7 (zeros 8)
def q7s := ready.setMgmt fun x => { x with activation := some default }
def q8 := ask cmdFwActivate 7 (leBytes 4 0xA55A)
def q8s := ready.setMgmt fun x => { x with staged := 1, slots := x.slots.set 1 ⟨some { (default : ImageInfo) with version := 0x0204 }⟩ }
def q8s2 := q8s.setChan 3 fun c => { c with version := 0x0205 }
def q9 (op h : Nat) := ask cmdMgmtRole 7 (leBytes 1 op ++ zeros 1 ++ leBytes 2 h)
def q10 := ask cmdFwStatus 0 []


theorem witness_PerformancePowerAndFirmwareCommandsAnswerAndTakeEffect_part2 :
    (((((dom 3 0))  : Request).u 0 1 = ↑(Fin.ofNat 56 ((((dom 3 0))  : Request).u 0 1)) ∧ (((dom 3 0))  : Request).zero 2 2 = true ∧ ((((dom 3 0))  : Request).u 1 1 = 0 ∧ DomainMode.on = DomainMode.on ∨ (((dom 3 0))  : Request).u 1 1 = 1 ∧ DomainMode.on = DomainMode.banked ∨ (((dom 3 0))  : Request).u 1 1 = 2 ∧ DomainMode.on = DomainMode.off) ∧ (↑(Fin.ofNat 56 ((((dom 3 0))  : Request).u 0 1)) < 40 ∨ 48 ≤ ↑(Fin.ofNat 56 ((((dom 3 0))  : Request).u 0 1)) ∧ ↑(Fin.ofNat 56 ((((dom 3 0))  : Request).u 0 1)) ≤ 51) ∧ (State.judged (((dom 3 0))  : Request) ready).domainInUse (Fin.ofNat 56 ((((dom 3 0))  : Request).u 0 1)) DomainMode.on = false ∧ (State.judged (((dom 3 0))  : Request) ready).domainConflict (Fin.ofNat 56 ((((dom 3 0))  : Request).u 0 1)) DomainMode.on = false ∧ (↑(Fin.ofNat 56 ((((dom 3 0))  : Request).u 0 1)) ≠ 48 ∨ DomainMode.on = DomainMode.off ∨ (State.judged (((dom 3 0))  : Request) ready).captureMarked = false) ∧ (State.judged (((dom 3 0))  : Request) ready).pwr.waiting = [] ∧ (State.judged (((dom 3 0))  : Request) ready).pwr.running = none ∧ (State.judged (((dom 3 0))  : Request) ready).pwr.modes[Fin.ofNat 56 ((((dom 3 0))  : Request).u 0 1)] = DomainMode.on) ∧ ready.Admits cmdDomainSet (((dom 3 0))  : Request)) ∧
    (((((dom 3 2))  : Request).u 0 1 = ↑(Fin.ofNat 56 ((((dom 3 2))  : Request).u 0 1)) ∧ (((dom 3 2))  : Request).zero 2 2 = true ∧ ((((dom 3 2))  : Request).u 1 1 = 0 ∧ DomainMode.off = DomainMode.on ∨ (((dom 3 2))  : Request).u 1 1 = 1 ∧ DomainMode.off = DomainMode.banked ∨ (((dom 3 2))  : Request).u 1 1 = 2 ∧ DomainMode.off = DomainMode.off) ∧ (↑(Fin.ofNat 56 ((((dom 3 2))  : Request).u 0 1)) < 40 ∨ 48 ≤ ↑(Fin.ofNat 56 ((((dom 3 2))  : Request).u 0 1)) ∧ ↑(Fin.ofNat 56 ((((dom 3 2))  : Request).u 0 1)) ≤ 51) ∧ (State.judged (((dom 3 2))  : Request) ready).domainInUse (Fin.ofNat 56 ((((dom 3 2))  : Request).u 0 1)) DomainMode.off = false ∧ (State.judged (((dom 3 2))  : Request) ready).domainConflict (Fin.ofNat 56 ((((dom 3 2))  : Request).u 0 1)) DomainMode.off = false ∧ (↑(Fin.ofNat 56 ((((dom 3 2))  : Request).u 0 1)) ≠ 48 ∨ DomainMode.off = DomainMode.off ∨ (State.judged (((dom 3 2))  : Request) ready).captureMarked = false) ∧ (State.judged (((dom 3 2))  : Request) ready).pwr.waiting = [] ∧ (State.judged (((dom 3 2))  : Request) ready).pwr.running = none ∧ (State.judged (((dom 3 2))  : Request) ready).pwr.modes[Fin.ofNat 56 ((((dom 3 2))  : Request).u 0 1)] ≠ DomainMode.off ∧ ((State.judged (((dom 3 2))  : Request) ready).chan (((dom 3 2))  : Request).channel).find (((dom 3 2))  : Request).token = none) ∧ ready.Admits cmdDomainSet (((dom 3 2))  : Request)) ∧
    (ready.Admits cmdPowerStatus ((q5)  : Request) ∧ ready.Admits cmdFwStatus ((q5)  : Request)) ∧
    ((((q6)  : Request).u 0 4 = 42330 ∧ ((q6)  : Request).u 4 1 ≤ 1 ∧ ((q6)  : Request).zero 5 3 = true ∧ (State.judged ((q6)  : Request) armed).rst.shutdown = none ∧ (State.judged ((q6)  : Request) armed).host.service < 3) ∧ armed.Admits cmdShutdown ((q6)  : Request)) ∧
    ((((q6)  : Request).u 0 4 = 42330 ∧ ((q6)  : Request).u 4 1 ≤ 1 ∧ ((q6)  : Request).zero 5 3 = true ∧ (State.judged ((q6)  : Request) q6s).rst.shutdown ≠ none) ∧ q6s.Admits cmdShutdown ((q6)  : Request)) ∧
    (((zeros 12 : List Byte).length = 12 ∧ (State.judged ((q7)  : Request) ready).mgmt.activation = none) ∧ ready.Admits cmdFwStage ((q7)  : Request) ∧ ready.Lists ((q7)  : Request) (list1 12 : List Byte) 12) ∧
    (((zeros 12 : List Byte).length = 12 ∧ (State.judged ((q7)  : Request) q7s).mgmt.activation ≠ none) ∧ q7s.Admits cmdFwStage ((q7)  : Request) ∧ q7s.Lists ((q7)  : Request) (list1 12 : List Byte) 12) ∧
    ((((q8)  : Request).u 0 4 = 42330 ∧ ((State.judged ((q8)  : Request) q8s).stagedImage).isSome = true ∧ (State.judged ((q8)  : Request) q8s).standbyReady = true ∧ (State.judged ((q8)  : Request) q8s).mgmt.owner ≠ none ∧ (State.judged ((q8)  : Request) q8s).mgmt.activation = none ∧ (∀ (j : Fin 8), ((State.judged ((q8)  : Request) q8s).chan j).mode = ChannelMode.opened → imageServes (State.judged ((q8)  : Request) q8s).stagedImage.get! ((State.judged ((q8)  : Request) q8s).chan j).version = true)) ∧ q8s.Admits cmdFwActivate ((q8)  : Request)) ∧
    ((((q8)  : Request).u 0 4 = 42330 ∧ ((State.judged ((q8)  : Request) q8s2).stagedImage).isSome = true ∧ (State.judged ((q8)  : Request) q8s2).standbyReady = true ∧ (State.judged ((q8)  : Request) q8s2).mgmt.activation = none ∧ (∃ (j : Fin 8), ((State.judged ((q8)  : Request) q8s2).chan j).mode = ChannelMode.opened ∧ imageServes (State.judged ((q8)  : Request) q8s2).stagedImage.get! ((State.judged ((q8)  : Request) q8s2).chan j).version = false)) ∧ q8s2.Admits cmdFwActivate ((q8)  : Request)) ∧
    ((((q8)  : Request).u 0 4 = 42330 ∧ ((State.judged ((q8)  : Request) ready).stagedImage = none ∨ (State.judged ((q8)  : Request) ready).standbyReady = false ∨ (State.judged ((q8)  : Request) ready).mgmt.activation ≠ none)) ∧ ready.Admits cmdFwActivate ((q8)  : Request)) ∧
    ((((q9 1 168)  : Request).zero 1 1 = true ∧ ((q9 1 168)  : Request).u 0 1 = 1 ∧ 1 ≤ ((q9 1 168)  : Request).u 2 2 ∧ ((q9 1 168)  : Request).u 2 2 ≤ 168) ∧ ready.Admits cmdMgmtRole ((q9 1 168)  : Request)) ∧
    ((((q9 0 0)  : Request).zero 1 1 = true ∧ ((q9 0 0)  : Request).u 0 1 = 0 ∧ ((q9 0 0)  : Request).u 2 2 = 0 ∧ (State.judged ((q9 0 0)  : Request) ready).standbyReady = true ∧ (State.judged ((q9 0 0)  : Request) ready).mgmt.activation = none ∧ (State.judged ((q9 0 0)  : Request) ready).mgmt.roleSwap = none) ∧ ready.Admits cmdMgmtRole ((q9 0 0)  : Request)) ∧
    ((((q9 0 0)  : Request).zero 1 1 = true ∧ ((q9 0 0)  : Request).u 0 1 = 0 ∧ ((q9 0 0)  : Request).u 2 2 = 0 ∧ ((State.judged ((q9 0 0)  : Request) noCore).standbyReady = false ∨ (State.judged ((q9 0 0)  : Request) noCore).mgmt.activation ≠ none)) ∧ noCore.Admits cmdMgmtRole ((q9 0 0)  : Request)) :=
  ⟨⟨by decide +kernel, admits_of (by decide +kernel)⟩, ⟨by decide +kernel, admits_of (by decide +kernel)⟩, ⟨admits_of (by decide +kernel), admits_of (by decide +kernel)⟩, ⟨by decide +kernel, admits_of (by decide +kernel)⟩, ⟨by decide +kernel, admits_of (by decide +kernel)⟩, ⟨by decide +kernel, admits_of (by decide +kernel), lists_of (by decide +kernel)⟩, ⟨by decide +kernel, admits_of (by decide +kernel), lists_of (by decide +kernel)⟩, ⟨by decide +kernel, admits_of (by decide +kernel)⟩, ⟨by decide +kernel, admits_of (by decide +kernel)⟩, ⟨by decide +kernel, admits_of (by decide +kernel)⟩, ⟨by decide +kernel, admits_of (by decide +kernel)⟩, ⟨by decide +kernel, admits_of (by decide +kernel)⟩, ⟨by decide +kernel, admits_of (by decide +kernel)⟩⟩

theorem witness_PerformancePowerAndFirmwareCommandsAnswerAndTakeEffect_part3 :
    (ready.Admits cmdFwStatus ((q10)  : Request)) :=
  admits_of (by decide +kernel)

theorem witness_PerformancePowerAndFirmwareCommandsAnswerAndTakeEffect :
    ((cmdPerfSelect.range ((q1)  : Request) = none ∧ ((q1)  : Request).u 0 2 = ↑(Fin.ofNat 256 (((q1)  : Request).u 0 2)) ∧ ((q1)  : Request).u 4 2 ≠ 0 ∧ (State.judged ((q1)  : Request) ready).countersOf (((q1)  : Request).u 2 2) ↑(Fin.ofNat 256 (((q1)  : Request).u 0 2)) < 16 ∧ (State.judged ((q1)  : Request) ready).perfMarked (((q1)  : Request).u 2 2 / 1024) (((q1)  : Request).u 2 2 % 1024) = false) ∧ ready.Admits cmdPerfSelect ((q1)  : Request)) ∧
    ((cmdPerfSelect.range ((q1b)  : Request) = none ∧ ((q1b)  : Request).u 0 2 = ↑(Fin.ofNat 256 (((q1b)  : Request).u 0 2)) ∧ ((q1b)  : Request).u 4 2 = 0 ∧ (State.judged ((q1b)  : Request) ready).perfMarked (((q1b)  : Request).u 2 2 / 1024) (((q1b)  : Request).u 2 2 % 1024) = false) ∧ ready.Admits cmdPerfSelect ((q1b)  : Request)) ∧
    ((cmdPerfSelect.range ((q1)  : Request) = none ∧ ((q1)  : Request).u 0 2 = ↑(Fin.ofNat 256 (((q1)  : Request).u 0 2)) ∧ ((q1)  : Request).u 4 2 ≠ 0 ∧ 16 ≤ (State.judged ((q1)  : Request) full16).countersOf (((q1)  : Request).u 2 2) ↑(Fin.ofNat 256 (((q1)  : Request).u 0 2))) ∧ full16.Admits cmdPerfSelect ((q1)  : Request)) ∧
    ((cmdPerfSelect.range ((q1b)  : Request) = none ∧ ((q1b)  : Request).u 0 2 = ↑(Fin.ofNat 256 (((q1b)  : Request).u 0 2)) ∧ ((q1b)  : Request).u 4 2 = 0 ∧ (State.judged ((q1b)  : Request) marked).perfMarked (((q1b)  : Request).u 2 2 / 1024) (((q1b)  : Request).u 2 2 % 1024) = true) ∧ marked.Admits cmdPerfSelect ((q1b)  : Request)) ∧
    ((((q2)  : Request).zero 16 8 = true ∧ (ready.clock.frame.toNat + 2 ≤ if ((q2)  : Request).u 8 8 = 0 then ready.clock.frame.toNat + 2 else ((q2)  : Request).u 8 8) ∧ ((if ((q2)  : Request).u 8 8 = 0 then ready.clock.frame.toNat + 2 else ((q2)  : Request).u 8 8) ≤ ready.clock.frame.toNat + 8589934592) ∧ (State.judged ((q2)  : Request) ready).perf.snapshots.length < 4) ∧ ready.Admits cmdPerfSnapshot ((q2)  : Request) ∧ ready.Lists ((q2)  : Request) (list1 12384  : List Byte) 12384 ∧ ready.Lists ((q2)  : Request) (list1 100 : List Byte) 100) ∧
    ((((q2b)  : Request).zero 16 8 = true ∧ ((if ((q2b)  : Request).u 8 8 = 0 then ready.clock.frame.toNat + 2 else ((q2b)  : Request).u 8 8) < ready.clock.frame.toNat + 2)) ∧ ready.Admits cmdPerfSnapshot ((q2b)  : Request) ∧ ready.Lists ((q2b)  : Request) (list1 12384  : List Byte) 12384) ∧
    ((((q2)  : Request).zero 16 8 = true ∧ (snap4.clock.frame.toNat + 2 ≤ if ((q2)  : Request).u 8 8 = 0 then snap4.clock.frame.toNat + 2 else ((q2)  : Request).u 8 8) ∧ ((if ((q2)  : Request).u 8 8 = 0 then snap4.clock.frame.toNat + 2 else ((q2)  : Request).u 8 8) ≤ snap4.clock.frame.toNat + 8589934592) ∧ 4 ≤ (State.judged ((q2)  : Request) snap4).perf.snapshots.length) ∧ snap4.Admits cmdPerfSnapshot ((q2)  : Request) ∧ snap4.Lists ((q2)  : Request) (list1 12384  : List Byte) 12384) ∧
    ((cmdPerfSample.range ((q3)  : Request) = none ∧ 32 * ((q3)  : Request).u 14 4 ≤ 32 ∧ (State.judged ((q3)  : Request) ready).coreRuns (((q3)  : Request).u 8 2) = true ∧ (∀ j ∈ (State.judged ((q3)  : Request) ready).perf.jobs, j.core.toNat ≠ ((q3)  : Request).u 8 2) ∧ (State.judged ((q3)  : Request) ready).perf.jobs.length < 8 ∧ 31 < 32 * ((q3)  : Request).u 14 4) ∧ ready.Admits cmdPerfSample ((q3)  : Request) ∧ ready.Lists ((q3)  : Request) (list1 32  : List Byte) 32 ∧ ready.Lists ((q3)  : Request) (list1 31 : List Byte) 31) ∧
    ((cmdPerfSample.range ((q3)  : Request) = none ∧ 32 * ((q3)  : Request).u 14 4 ≤ 32 ∧ (State.judged ((q3)  : Request) job8).coreRuns (((q3)  : Request).u 8 2) = true ∧ (∀ j ∈ (State.judged ((q3)  : Request) job8).perf.jobs, j.core.toNat ≠ ((q3)  : Request).u 8 2) ∧ 8 ≤ (State.judged ((q3)  : Request) job8).perf.jobs.length) ∧ job8.Admits cmdPerfSample ((q3)  : Request) ∧ job8.Lists ((q3)  : Request) (list1 32 : List Byte) 32) ∧
    ((cmdPerfSample.range ((q3b)  : Request) = none ∧ 32 * ((q3b)  : Request).u 14 4 ≤ 32 ∧ (State.judged ((q3b)  : Request) noCore).coreRuns (((q3b)  : Request).u 8 2) = false) ∧ noCore.Admits cmdPerfSample ((q3b)  : Request) ∧ noCore.Lists ((q3b)  : Request) (list1 32 : List Byte) 32) ∧
    (((((dom 40 1))  : Request).u 0 1 = ↑(Fin.ofNat 56 ((((dom 40 1))  : Request).u 0 1)) ∧ (((dom 40 1))  : Request).zero 2 2 = true ∧ ((((dom 40 1))  : Request).u 1 1 = 0 ∧ DomainMode.banked = DomainMode.on ∨ (((dom 40 1))  : Request).u 1 1 = 1 ∧ DomainMode.banked = DomainMode.banked ∨ (((dom 40 1))  : Request).u 1 1 = 2 ∧ DomainMode.banked = DomainMode.off) ∧ (40 ≤ ↑(Fin.ofNat 56 ((((dom 40 1))  : Request).u 0 1)) ∧ ↑(Fin.ofNat 56 ((((dom 40 1))  : Request).u 0 1)) ≤ 47 ∨ 52 ≤ ↑(Fin.ofNat 56 ((((dom 40 1))  : Request).u 0 1)))) ∧ ready.Admits cmdDomainSet (((dom 40 1))  : Request)) ∧
    (((((dom 32 1))  : Request).u 0 1 = ↑(Fin.ofNat 56 ((((dom 32 1))  : Request).u 0 1)) ∧ (((dom 32 1))  : Request).zero 2 2 = true ∧ ((((dom 32 1))  : Request).u 1 1 = 0 ∧ DomainMode.banked = DomainMode.on ∨ (((dom 32 1))  : Request).u 1 1 = 1 ∧ DomainMode.banked = DomainMode.banked ∨ (((dom 32 1))  : Request).u 1 1 = 2 ∧ DomainMode.banked = DomainMode.off) ∧ (↑(Fin.ofNat 56 ((((dom 32 1))  : Request).u 0 1)) < 40 ∨ 48 ≤ ↑(Fin.ofNat 56 ((((dom 32 1))  : Request).u 0 1)) ∧ ↑(Fin.ofNat 56 ((((dom 32 1))  : Request).u 0 1)) ≤ 51) ∧ (State.judged (((dom 32 1))  : Request) ready).domainInUse (Fin.ofNat 56 ((((dom 32 1))  : Request).u 0 1)) DomainMode.banked = true) ∧ ready.Admits cmdDomainSet (((dom 32 1))  : Request)) ∧
    (((((dom 49 1))  : Request).u 0 1 = ↑(Fin.ofNat 56 ((((dom 49 1))  : Request).u 0 1)) ∧ (((dom 49 1))  : Request).zero 2 2 = true ∧ ((((dom 49 1))  : Request).u 1 1 = 0 ∧ DomainMode.banked = DomainMode.on ∨ (((dom 49 1))  : Request).u 1 1 = 1 ∧ DomainMode.banked = DomainMode.banked ∨ (((dom 49 1))  : Request).u 1 1 = 2 ∧ DomainMode.banked = DomainMode.off) ∧ (↑(Fin.ofNat 56 ((((dom 49 1))  : Request).u 0 1)) < 40 ∨ 48 ≤ ↑(Fin.ofNat 56 ((((dom 49 1))  : Request).u 0 1)) ∧ ↑(Fin.ofNat 56 ((((dom 49 1))  : Request).u 0 1)) ≤ 51) ∧ (State.judged (((dom 49 1))  : Request) ready).domainInUse (Fin.ofNat 56 ((((dom 49 1))  : Request).u 0 1)) DomainMode.banked = false ∧ (State.judged (((dom 49 1))  : Request) ready).domainConflict (Fin.ofNat 56 ((((dom 49 1))  : Request).u 0 1)) DomainMode.banked = true) ∧ ready.Admits cmdDomainSet (((dom 49 1))  : Request)) :=
  ⟨⟨by decide +kernel, admits_of (by decide +kernel)⟩, ⟨by decide +kernel, admits_of (by decide +kernel)⟩, ⟨by decide +kernel, admits_of (by decide +kernel)⟩, ⟨by decide +kernel, admits_of (by decide +kernel)⟩, ⟨by decide +kernel, admits_of (by decide +kernel), lists_of (by decide +kernel), lists_of (by decide +kernel)⟩, ⟨by decide +kernel, admits_of (by decide +kernel), lists_of (by decide +kernel)⟩, ⟨by decide +kernel, admits_of (by decide +kernel), lists_of (by decide +kernel)⟩, ⟨by decide +kernel, admits_of (by decide +kernel), lists_of (by decide +kernel), lists_of (by decide +kernel)⟩, ⟨by decide +kernel, admits_of (by decide +kernel), lists_of (by decide +kernel)⟩, ⟨by decide +kernel, admits_of (by decide +kernel), lists_of (by decide +kernel)⟩, ⟨by decide +kernel, admits_of (by decide +kernel)⟩, ⟨by decide +kernel, admits_of (by decide +kernel)⟩, ⟨by decide +kernel, admits_of (by decide +kernel)⟩⟩

end S41

namespace S50

def quiet : State := { ready with pending := [] }

theorem witness_StepRunsTheCommandAtTheFront :
    ({ quiet with pending := [.tick, .hotReset] } : State).pending = .tick :: [.hotReset] ∧ quiet.pending = [] := ⟨rfl, rfl⟩

theorem witness_EveryStepKeepsTheInvariant : quiet.Inv ∧ step quiet = .next quiet ∧ State.reset.Inv := by
  refine ⟨⟨?_, ?_, ?_⟩, rfl, ⟨?_, ?_, ?_⟩⟩ <;> decide +kernel

theorem witness_MemoryAndTimeChangeOnlyWhereStated :
    (∃ t, exec .tick ready = .next t) ∧ (∃ t, exec .hotReset ready = .next t) ∧
    writesBytes .tick = false ∧ movesClock .hotReset = false ∧ Memory.wf ready.fabric.cells ∧ ¬ inResponseRing 0 := by
  refine ⟨⟨_, rfl⟩, ⟨_, rfl⟩, rfl, rfl, by decide +kernel, ?_⟩
  rintro ⟨c, h, _⟩
  simp only [responseAddr] at h
  omega

/-- A MAP_SWAP, which is marked F and P, as one sender asks for it, and requests that fail its examination at each place. -/
def swap : Request := ask cmdMapSwap 3 (zeros 16)
def unopened : State := ready.setChan 3 (fun c => { c with mode := .unopened })
def early : State := ready.setChan 3 (fun c => { c with version := 0x0100 })
def tindering : State := { ready with host := { ready.host with service := 1 } }
def closing : State := { ready with host := { ready.host with service := 4 } }
def full : State :=
  { ready with host := { ready.host with
      journal := List.replicate 64 { (default : JournalRecord) with command := ⟨3, 0x77⟩ }, journalRoom := 0 } }
def recording (d : Option (BitVec 128)) : State :=
  ready.setChan 3 (fun c => { c with window := [{ entryOf 0x55 .ok 16 with opcode := 0x0305, digest := d }] })

theorem witness_RequestsAreExaminedInOrder :
    hostCommand (.mapSwap swap) = some (cmdMapSwap, swap) ∧
    (ready.takes 3 = true ∧ swap.token ≠ 0 ∧ (ready.chan 3).recorded swap.token = none ∧ cmdMapSwap.opcode ≠ 0x0101
      ∧ (ready.chan 3).mode = .opened ∧ swap.version = (ready.chan 3).version ∧ swap.payloadLength ≤ 4064 ∧ cmdMapSwap.since ≤ (ready.chan 3).version
      ∧ swap.flags &&& 0xFFF9 = 0 ∧ swap.reserved = 0 ∧ swap.payloadLength.toNat = cmdMapSwap.length ∧ swap.descCount = 0 ∧ cmdMapSwap.desc = false
      ∧ cmdMapSwap.cls.admits 3 = true ∧ ready.retireJournal.capacity swap = true ∧ cmdMapSwap.full = true ∧ cmdMapSwap.always = false
      ∧ ready.host.service ≠ 1 ∧ ¬ 3 ≤ ready.host.service) ∧
    ((State.reset.takes 3 = false) ∧ ((recording none).chan 3).recorded swap.token ≠ none) ∧
    (unopened.chan 3).mode ≠ .opened ∧
    { swap with version := 0x0203 }.version ≠ (ready.chan 3).version ∧
    4064 < { swap with payloadLength := 4065 }.payloadLength ∧
    ((early.chan 3).version < cmdTriggerLoad.since ∧ { swap with version := 0x0100 }.version = (early.chan 3).version) ∧
    ({ swap with flags := 0x0008 }.flags &&& 0xFFF9 ≠ 0 ∧ { swap with reserved := 1 }.reserved ≠ 0) ∧
    ({ swap with payloadLength := 15 }.payloadLength.toNat ≠ cmdMapSwap.length ∧ { swap with descCount := 4097 }.descCount > 4096) ∧
    cmdMapRawLoad.cls.admits 0 = false ∧
    full.retireJournal.capacity swap = false ∧
    cmdMapSolve.desc = true ∧
    tindering.host.service = 1 ∧ (3 ≤ closing.host.service ∧ cmdMapSwap.always = false) ∧
    cmdMapSwap.range (ask cmdMapSwap 3 (2 :: zeros 15)) = some 0 := by
  refine ⟨rfl, ?_⟩
  decide +kernel

theorem witness_ResponsesReachTheirRing :
    hostCommand (.mapSwap swap) = some (cmdMapSwap, swap) ∧
    (ready.takes swap.channel = true ∧ ready.host.outbox = [] ∧ Memory.wf ready.fabric.cells) ∧
    { swap with token := 0 }.token = 0 ∧
    (((recording (some 3)).chan 3).recorded swap.token = some { entryOf 0x55 .ok 16 with opcode := 0x0305, digest := some 3 }
      ∧ { entryOf 0x55 .ok 16 with opcode := 0x0305, digest := some 3 }.retriedBy cmdMapSwap.opcode swap = false) ∧
    (((recording none).chan 3).recorded swap.token = some { entryOf 0x55 .ok 16 with opcode := 0x0305, digest := none }
      ∧ { entryOf 0x55 .ok 16 with opcode := 0x0305, digest := none }.retriedBy cmdMapSwap.opcode swap = true
      ∧ (entryOf 0x55 .ok 16).recovery = false ∧ (entryOf 0x55 .ok 16).results.length ≤ 4048) := by
  refine ⟨rfl, ?_⟩
  decide +kernel

/-- The counter of whole seconds at one value. -/
def clockAt (n : Nat) : State := { ready with rtc := { ready.rtc with seconds := BitVec.ofNat 40 n } }
def readClock : Request := ask cmdRtcRead 3 []

theorem witness_CalendarValuesAreGregorian :
    (((clockAt 0).judged readClock).rtc.seconds.toNat = 0 ∧ ((clockAt 12622780799).judged readClock).rtc.seconds.toNat = 12622780799
      ∧ (ready.judged readClock).rtc.seconds.toNat ≤ 12622780799) ∧
    ready.Admits cmdRtcRead readClock ∧ (clockAt 0).Admits cmdRtcRead readClock ∧ (clockAt 12622780799).Admits cmdRtcRead readClock ∧
    ∃ (leap : Nat → Prop) (yearDays : Nat → Nat) (monthDays : Nat → List Nat), (∀ y, leap y ↔ y % 4 = 0 ∧ ¬ (y % 100 = 0 ∧ y % 400 ≠ 0)) ∧
      (∀ y, (leap y → yearDays y = 366 ∧ monthDays y = [31, 29, 31, 30, 31, 30, 31, 31, 30, 31, 30, 31])
        ∧ (¬ leap y → yearDays y = 365 ∧ monthDays y = [31, 28, 31, 30, 31, 30, 31, 31, 30, 31, 30, 31])) := by
  refine ⟨by decide +kernel, admits_of (by decide +kernel), admits_of (by decide +kernel), admits_of (by decide +kernel),
    fun y => y % 4 = 0 ∧ ¬ (y % 100 = 0 ∧ y % 400 ≠ 0), fun y => if y % 4 = 0 ∧ ¬ (y % 100 = 0 ∧ y % 400 ≠ 0) then 366 else 365,
    fun y => [31, if y % 4 = 0 ∧ ¬ (y % 100 = 0 ∧ y % 400 ≠ 0) then 29 else 28, 31, 30, 31, 30, 31, 31, 30, 31, 30, 31], fun _ => Iff.rfl, fun y => ?_⟩
  exact ⟨fun h => by simp only [if_pos h, and_self], fun h => by simp only [if_neg h, and_self]⟩

theorem witness_PortCountersReportTheReceiveCounters :
    ((ask cmdPortCounters 3 [255, 1, 0, 0]).u 0 2 = (511 : PortNo).val ∧ (ask cmdPortCounters 3 [255, 1, 0, 0]).zero 2 2 = true) ∧
    ready.Admits cmdPortCounters (ask cmdPortCounters 3 [255, 1, 0, 0]) :=
  ⟨by decide +kernel, admits_of (by decide +kernel)⟩

/-- One solver core has failed, and no reference is selected. -/
def oneCore : State := { ready with mgmt := { ready.mgmt with solverFailed := #v[true, false] } }

theorem witness_MapJobsEndAsTheSolverAnswers_cores :
    oneCore.mgmt.solverFailed[(0 : Fin 2)] = true ∧ oneCore.mgmt.solverFailed[(1 : Fin 2)] = false ∧ oneCore.solversFailed = false := by
  decide +kernel

theorem witness_TimingTimersAndDetectorsActAsStated_references :
    ready.dpll.selected ≠ some 5 ∧ { ready.dpll with selected := some 5 }.selected = some 5 := by decide +kernel

end S50

end Sys2Proof.Tests
end

/-! SUPPORT. The registers of the host port (R304 to R312, R329, R332): what the operations behind their rows give and leave
alone, and the statements about heartbeats, SET_WINS_CNT, BAR0_ERR and REGISTER_WRITE. -/
namespace Sys2Proof.Machine

/-! What an update of the host port leaves of the other parts. -/

/-- An update that keeps the channels and the waiting requests changes no part but the host port. -/
theorem State.setHost_beside {s u : State} {q : Part} (f : HostState → HostState)
    (hf : (f u.host).waiting = u.host.waiting ∧ (f u.host).nextTicket = u.host.nextTicket ∧ (f u.host).channels = u.host.channels)
    (h0 : q ≠ .host) (h : Part.Same s u q) : Part.Same s (u.setHost f) q :=
  State.setHost_keeps f (fun e => absurd e h0) (fun _ => ⟨hf.1, hf.2.1⟩) (fun _ => hf.2.2) h

/-- The responses of a step leave what `still` speaks of as the step's effects left it. -/
theorem State.settled_still (s u : State) : (s.settled u).host.still = u.host.still := by
  rw [State.settled, State.settle_still]

/-- A step whose effects are the same as before completes and changes nothing. -/
theorem State.settled_self_changesNothing (s : State) : s.ChangesOnly (s.settled s) [] :=
  State.settled_changesOnly fun q _ _ _ => Part.Same.refl s q

/-- A step whose effects leave every part but the host port changes only the host port. -/
theorem State.settled_changesHost {s u : State} (h : ∀ q, q ≠ .host → Part.Same s u q) : s.ChangesOnly (s.settled u) [.host] :=
  State.settled_changesOnly fun q hq _ _ => h q (List.ne_of_not_mem_cons hq)

/-! Heartbeats (R308, R332). -/

@[simp] theorem Heartbeat.write_same (now : Nat) (h : Heartbeat) : h.write h.value now = h := by simp [Heartbeat.write]

theorem Heartbeat.write_new {v : BitVec 32} {h : Heartbeat} (hv : v ≠ h.value) (now : Nat) :
    h.write v now = { h with value := v, since := now, lost := false } := by
  rw [Heartbeat.write, if_neg hv.symm]

theorem Heartbeat.expired_iff {now : Nat} {h : Heartbeat} :
    h.expired now = true ↔ h.timeoutMs ≠ 0 ∧ h.lost = false ∧ h.since + 2000 * h.timeoutMs.toNat ≤ now := by
  simp [Heartbeat.expired, and_assoc]

@[simp] theorem State.raiseFlag_self (b : Bool) (src item p0 : Nat) (s : State) : s.raiseFlag b b src item p0 = s := by
  simp [State.raiseFlag]

@[simp] theorem State.hostBeat_host (v : BitVec 32) (s : State) :
    (s.hostBeat v).host = { s.host with hostHeartbeat := s.host.hostHeartbeat.write v s.clock.tick } := by
  simp [State.hostBeat]

theorem State.hostBeat_beside (v : BitVec 32) (s : State) {q : Part} (h0 : q ≠ .host) : Part.Same s (s.hostBeat v) q :=
  State.raiseFlag_same _ _ _ _ _ (State.setHost_beside _ ⟨rfl, rfl, rfl⟩ h0 (Part.Same.refl s q))

theorem State.hostBeat_same_value (s : State) : s.hostBeat s.host.hostHeartbeat.value = s := by
  simp [State.hostBeat, State.setHost]

@[simp] theorem State.bmcBeat_host (v : BitVec 32) (s : State) :
    (s.bmcBeat v).host = { s.host with bmcHeartbeat := s.host.bmcHeartbeat.write v s.clock.tick } := by
  simp [State.bmcBeat]

theorem State.bmcBeat_beside (v : BitVec 32) (s : State) {q : Part} (h0 : q ≠ .host) : Part.Same s (s.bmcBeat v) q :=
  State.raiseFlag_same _ _ _ _ _ (State.setHost_beside _ ⟨rfl, rfl, rfl⟩ h0 (Part.Same.refl s q))

theorem State.hostBeatExpiry_host {s : State} (h : s.host.hostHeartbeat.expired s.clock.tick = true) :
    s.hostBeatExpiry.host = { s.host with hostHeartbeat := { s.host.hostHeartbeat with lost := true } } := by
  rw [State.hostBeatExpiry, if_pos h]; simp

theorem State.hostBeatExpiry_beside (s : State) {q : Part} (h0 : q ≠ .host) : Part.Same s s.hostBeatExpiry q := by
  unfold State.hostBeatExpiry
  split
  · exact State.raise_same _ _ _ _ _ _ (State.setHost_beside _ ⟨rfl, rfl, rfl⟩ h0 (Part.Same.refl s q))
  · exact Part.Same.refl s q

theorem State.bmcBeatExpiry_host {s : State} (h : s.host.bmcHeartbeat.expired s.clock.tick = true) :
    s.bmcBeatExpiry.host = { s.host with bmcHeartbeat := { s.host.bmcHeartbeat with lost := true } } := by
  rw [State.bmcBeatExpiry, if_pos h]; simp

theorem State.bmcBeatExpiry_beside (s : State) {q : Part} (h0 : q ≠ .host) : Part.Same s s.bmcBeatExpiry q := by
  unfold State.bmcBeatExpiry
  split
  · exact State.raise_same _ _ _ _ _ _ (State.setHost_beside _ ⟨rfl, rfl, rfl⟩ h0 (Part.Same.refl s q))
  · exact Part.Same.refl s q

/-! SET_WINS_CNT and BAR0_ERR (R5, R305, R308, R312, R329). -/

theorem State.readSetWins_beside (same : BitVec 32) (s : State) {q : Part} (h0 : q ≠ .host) : Part.Same s (s.readSetWins same) q :=
  State.setHost_beside _ ⟨rfl, rfl, rfl⟩ h0 (Part.Same.refl s q)

theorem State.clearBar0Err_beside (v : BitVec 32) (hw : BitVec 3) (s : State) {q : Part} (h0 : q ≠ .host) :
    Part.Same s (s.clearBar0Err v hw) q :=
  State.setHost_beside _ ⟨rfl, rfl, rfl⟩ h0 (State.setHost_beside _ ⟨rfl, rfl, rfl⟩ h0 (Part.Same.refl s q))

@[simp] theorem State.setBar0Err_host (flag : Nat) (s : State) :
    (s.setBar0Err flag).host = { s.host with bar0Err := setBit s.host.bar0Err flag } := by
  simp [State.setBar0Err]

theorem State.setBar0Err_beside (flag : Nat) {s u : State} {q : Part} (h0 : q ≠ .host) (h : Part.Same s u q) :
    Part.Same s (u.setBar0Err flag) q :=
  State.raiseIf_same _ _ _ _ _ _ _
    (State.setHost_beside (fun x => { x with bar0Err := setBit x.bar0Err flag }) ⟨rfl, rfl, rfl⟩ h0 h)

theorem setBit_setBit {w : Nat} (v : BitVec w) (i : Nat) : setBit (setBit v i) i = setBit v i := by
  simp [setBit, BitVec.or_assoc]

/-! The map of BAR0 (R305, R306): which offsets it holds is fixed. -/

/-- Whether an offset is mapped does not depend on the state. -/
theorem State.bar0_isNone (s t : State) (off : Nat) : (s.bar0 off).isNone = (t.bar0 off).isNone := by
  unfold State.bar0
  split
  case h_18 =>
    simp only [apply_ite Option.isNone, Option.isNone_some, Option.isNone_none]
    refine if_congr Iff.rfl rfl (if_congr Iff.rfl ?_ rfl)
    split <;> simp only [Option.isNone_some]
  all_goals simp only [Option.isNone_some]

theorem State.bar0_none_iff (s t : State) (off : Nat) : s.bar0 off = none ↔ t.bar0 off = none := by
  rw [← Option.isNone_iff_eq_none, ← Option.isNone_iff_eq_none, State.bar0_isNone s t]

/-- Nothing is mapped above the last register. -/
theorem State.bar0_above (s : State) {off : Nat} (h : 0x9008 ≤ off) : s.bar0 off = none := by
  unfold State.bar0
  split
  case h_18 =>
    rw [if_neg (by omega), if_neg (by omega), if_neg (by omega), if_neg (by omega), if_neg (by omega)]
  all_goals omega

/-! A bad access of BAR0 (R305). -/

/-- The bytes that a read gives; a write gives none. -/
def State.answerRead (a : Bar0Access) (bs : List Byte) (s : State) : State :=
  s.setHost (fun h => { h with lastRead := if a.write.isSome then h.lastRead else bs })

@[simp] theorem State.answerRead_bar0Err (a : Bar0Access) (bs : List Byte) (s : State) :
    (s.answerRead a bs).host.bar0Err = s.host.bar0Err := rfl

theorem State.answerRead_lastRead {a : Bar0Access} (h : a.write = none) (bs : List Byte) (s : State) :
    (s.answerRead a bs).host.lastRead = bs := by
  simp [State.answerRead, h]

theorem State.answerRead_beside (a : Bar0Access) (bs : List Byte) {s u : State} {q : Part} (h0 : q ≠ .host)
    (h : Part.Same s u q) : Part.Same s (u.answerRead a bs) q :=
  State.setHost_beside _ ⟨rfl, rfl, rfl⟩ h0 h

/-- An access of another size or alignment. -/
theorem State.badAccess_misshapen {s : State} {a : Bar0Access}
    (h : (a.bytes.val ≠ 4 ∧ a.bytes.val ≠ 8) ∨ a.offset.toNat % 4 ≠ 0) :
    s.badAccess a = (s.setBar0Err 0).answerRead a (zeros a.bytes.val) := by
  unfold State.badAccess
  rw [if_pos (by simpa using h)]
  rfl

/-- A 32-bit access outside the map. -/
theorem State.badAccess_word {s : State} {a : Bar0Access} (hn : a.bytes.val = 4) (ha : a.offset.toNat % 4 = 0)
    (h : s.bar0 a.offset.toNat = none) : s.badAccess a = (s.setBar0Err 1).answerRead a (zeros a.bytes.val) := by
  simp [State.badAccess, State.answerRead, hn, ha, h]

/-- A half of a 64-bit access that lies outside the map. -/
theorem State.bar0Half_unmapped {s : State} {off : Nat} (h : s.bar0 off = none) (v : Option (BitVec 32)) :
    s.bar0Half off v = s.setBar0Err 1 := by
  simp [State.bar0Half, h]

/-- A 64-bit access of which both halves lie outside the map. -/
theorem State.badAccess_pair {s : State} {a : Bar0Access} (hn : a.bytes.val = 8) (ha : a.offset.toNat % 4 = 0)
    (h : s.bar0 a.offset.toNat = none) (h' : s.bar0 (a.offset.toNat + 4) = none) :
    s.badAccess a = ((s.setBar0Err 1).setBar0Err 1).answerRead a (zeros a.bytes.val) := by
  have hsecond : (s.setBar0Err 1).bar0 (a.offset.toNat + 4) = none := (State.bar0_none_iff s _ _).1 h'
  simp only [State.badAccess, State.bar0Half_unmapped h, State.bar0Half_unmapped hsecond, hn, ha, h, h']
  rfl

/-- An access wholly outside the map sets UNMAPPED, and reads as zeros. -/
theorem State.badAccess_unmapped {s : State} {a : Bar0Access}
    (hn : a.bytes.val = 4 ∨ (a.bytes.val = 8 ∧ s.bar0 (a.offset.toNat + 4) = none)) (ha : a.offset.toNat % 4 = 0)
    (h : s.bar0 a.offset.toNat = none) :
    ∃ u : State, s.badAccess a = u.answerRead a (zeros a.bytes.val) ∧ u.host.bar0Err = setBit s.host.bar0Err 1
      ∧ ∀ q, q ≠ .host → Part.Same s u q := by
  have once {q : Part} (hq : q ≠ .host) : Part.Same s (s.setBar0Err 1) q := State.setBar0Err_beside 1 hq (Part.Same.refl s q)
  rcases hn with h4 | ⟨h8, h'⟩
  · exact ⟨_, State.badAccess_word h4 ha h, by simp, fun q => once⟩
  · exact ⟨_, State.badAccess_pair h8 ha h h', by simp [setBit_setBit], fun q hq => State.setBar0Err_beside 1 hq (once hq)⟩

/-- The row of a bad access that reads as zeros, from what its effects `u` do to BAR0_ERR. -/
theorem exec_bar0BadAccess {s u : State} {a : Bar0Access} {err : BitVec 3}
    (hu : s.badAccess a = u.answerRead a (zeros a.bytes.val)) (herr : u.host.bar0Err = err)
    (hsame : ∀ q, q ≠ .host → Part.Same s u q) :
    ∃ t, exec (.bar0BadAccess a) s = .next t ∧ s.ChangesOnly t [.host] ∧ t.host.bar0Err = err
      ∧ (a.write = none → t.host.lastRead = zeros a.bytes.val) := by
  have hsame' : ∀ q, q ≠ .host → Part.Same s (s.badAccess a) q := fun q hq => hu ▸ State.answerRead_beside a _ hq (hsame q hq)
  refine ⟨s.settled (s.badAccess a), rfl, State.settled_changesHost hsame', ?_, fun hr => ?_⟩
  · rw [State.settled_host_bar0Err, hu, State.answerRead_bar0Err, herr]
  · rw [State.settled_host_lastRead, hu, State.answerRead_lastRead hr]

/-- Settles O3: each row's operation gives the registers of the statement, and leaves every part but the host port. -/
theorem heartbeatAndErrorRegistersFollowTheirRules : Obligations.HeartbeatAndErrorRegistersFollowTheirRules := by
  intro s
  refine ⟨fun v hv => ?_, ?_, fun ht hl hs => ?_, fun v hv => ?_, fun ht hl hs => ?_, fun same => ?_, fun v hw => ?_, fun a ha => ?_,
    fun a hn ha h => ?_, fun c entry => ?_⟩
  · exact ⟨_, rfl, State.settled_changesHost fun q => State.hostBeat_beside v s,
      by rw [State.settled_still, State.hostBeat_host, Heartbeat.write_new hv]⟩
  · exact ⟨s.settled s, congrArg (fun u => Host.Outcome.next (s.settled u)) (State.hostBeat_same_value s), State.settled_self_changesNothing s⟩
  · exact ⟨_, rfl, State.settled_changesHost fun q => State.hostBeatExpiry_beside s,
      by rw [State.settled_still, State.hostBeatExpiry_host (Heartbeat.expired_iff.2 ⟨ht, hl, hs⟩)]⟩
  · exact ⟨_, rfl, State.settled_changesHost fun q => State.bmcBeat_beside v s,
      by rw [State.settled_still, State.bmcBeat_host, Heartbeat.write_new hv]⟩
  · exact ⟨_, rfl, State.settled_changesHost fun q => State.bmcBeatExpiry_beside s,
      by rw [State.settled_still, State.bmcBeatExpiry_host (Heartbeat.expired_iff.2 ⟨ht, hl, hs⟩)]⟩
  · exact ⟨_, rfl, State.settled_changesHost fun q => State.readSetWins_beside same s, State.settled_still s (s.readSetWins same)⟩
  · exact ⟨_, rfl, State.settled_changesHost fun q => State.clearBar0Err_beside v hw s, State.settled_still s (s.clearBar0Err v hw)⟩
  · exact exec_bar0BadAccess (State.badAccess_misshapen ha) (by rw [State.setBar0Err_host]; rfl)
      fun q hq => State.setBar0Err_beside 0 hq (Part.Same.refl s q)
  · obtain ⟨u, hu, herr, hsame⟩ := State.badAccess_unmapped hn ha h
    exact exec_bar0BadAccess hu herr hsame
  · exact ⟨_, rfl, State.settled_changesHost fun q hq => State.setBar0Err_beside 2 hq (Part.Same.refl s q),
      by rw [State.settled_still, State.setBar0Err_host]; rfl⟩

/-! A write to a register by its offset (R4, R305, R306, R308, R309, R311). -/

/-- No request waits in the rings: the device has been told of none that it has not taken. -/
def State.noWork (s : State) : Prop := ∀ j : Fin 8, (s.chan j).rungPi = (s.chan j).reqCi

/-- Only MBX_DOORBELL rings the response doorbell. -/
theorem doorbellRsp_none {off : Nat} (h : ¬ (0x1000 ≤ off ∧ off < 0x1200 ∧ off % 64 = 0x10)) (v : BitVec 32) :
    doorbellRsp off v = none := by
  unfold doorbellRsp
  rw [if_neg]
  rintro ⟨h1, h2, h3, -⟩
  exact h ⟨h1, h2, h3⟩

/-- With nothing in the rings, a write away from MBX_DOORBELL does what its register does, and no more. -/
theorem exec_registerWrite {s : State} {off : BitVec 16} {v : BitVec 32}
    (hoff : ¬ (0x1000 ≤ off.toNat ∧ off.toNat < 0x1200 ∧ off.toNat % 64 = 0x10)) (hu : (s.registerWrite off.toNat v).noWork) :
    exec (.registerWrite off v) s = .next (s.settled (s.registerWrite off.toNat v)) := by
  have e : exec (.registerWrite off v) s = execRegisterWrite off v s := rfl
  rw [e, execRegisterWrite, doorbellRsp_none hoff]
  exact congrArg Host.Outcome.next (State.settled_pump_idle hu allRings)

/-- What leaves the channels alone brings no work. -/
theorem State.noWork.of_same {s u : State} (hs : s.noWork) (h : Part.Same s u .channels) : u.noWork := fun j => by
  rw [(h j).rungPi, (h j).reqCi, hs j]

/-- A write away from MBX_DOORBELL to a register outside the channels: what it gives, and its frame. -/
theorem exec_registerWrite_frame {s u : State} {off : BitVec 16} {v : BitVec 32} {ps : List Part} (hs : s.noWork)
    (hoff : ¬ (0x1000 ≤ off.toNat ∧ off.toNat < 0x1200 ∧ off.toNat % 64 = 0x10)) (hu : s.registerWrite off.toNat v = u)
    (hc : .channels ∉ ps) (h : ∀ q, q ∉ ps → Part.Same s u q) :
    exec (.registerWrite off v) s = .next (s.settled u) ∧ s.ChangesOnly (s.settled u) ps := by
  subst hu
  exact ⟨exec_registerWrite hoff (hs.of_same (h .channels hc)), State.settled_changesOnly fun q hq _ _ => h q hq⟩

theorem State.registerWrite_misaligned {off : Nat} (h : off % 4 ≠ 0) (v : BitVec 32) (s : State) :
    s.registerWrite off v = s.setBar0Err 0 := by
  unfold State.registerWrite
  rw [if_pos (by simpa using h)]

theorem State.registerWrite_queueBaseLo {s : State} (h : s.ev.queueEnable = false) (v : BitVec 32) :
    s.registerWrite 0x40 v = s.setEv (fun e => { e with queueBaseLo := v.extractLsb' 12 20 }) := by
  simp [State.registerWrite, h]

theorem State.registerWrite_queueBaseHi {s : State} (h : s.ev.queueEnable = false) (v : BitVec 32) :
    s.registerWrite 0x44 v = s.setEv (fun e => { e with queueBaseHi := v }) := by
  simp [State.registerWrite, h]

/-- The base of the event queue stands while the queue is on (R309). -/
theorem State.registerWrite_queueBase_on {s : State} (h : s.ev.queueEnable = true) {off : Nat} (ho : off = 0x40 ∨ off = 0x44)
    (v : BitVec 32) : s.registerWrite off v = s := by
  rcases ho with rfl | rfl <;> simp [State.registerWrite, h]

/-- The offsets that the read-only registers below the semaphores have (R306 to R309). -/
def readOnlyOffsets : List Nat := [0x00, 0x04, 0x08, 0x10, 0x14, 0x20, 0x24, 0x38]

theorem State.registerWrite_readOnly {off : Nat} (h : off ∈ readOnlyOffsets) (v : BitVec 32) (s : State) :
    s.registerWrite off v = s := by
  simp only [readOnlyOffsets, List.mem_cons, List.not_mem_nil, or_false] at h
  rcases h with rfl | rfl | rfl | rfl | rfl | rfl | rfl | rfl <;> rfl

/-- Above the last register nothing is written, and UNMAPPED is set. -/
theorem State.registerWrite_above {off : Nat} (ha : off % 4 = 0) (h : 0x9008 ≤ off) (v : BitVec 32) (s : State) :
    s.registerWrite off v = s.setBar0Err 1 := by
  unfold State.registerWrite
  rw [if_neg (by simp [ha]), State.bar0_above s h]
  repeat rw [if_neg (by omega)]
  rfl

theorem State.enterError_noWork (c : Fin 8) {s : State} (h : s.noWork) : (s.enterError c).noWork := by
  intro j
  unfold State.enterError
  split
  · exact h j
  · rw [State.raise_chan, State.setChan_chan]
    split
    case isTrue hj => subst hj; exact h j
    case isFalse => exact h j

theorem State.writeRspCi_noWork (c : Fin 8) (v : BitVec 32) {s : State} (h : s.noWork) : (s.writeRspCi c v).noWork := by
  have hset : (s.setChan c (fun ch => { ch with rspCi := v })).noWork := by
    intro j
    rw [State.setChan_chan]
    split
    case isTrue hj => subst hj; exact h j
    case isFalse => exact h j
  unfold State.writeRspCi
  simp only
  split
  · exact State.enterError_noWork c hset
  · exact hset

/-- Settles O8: the write is what its offset's register does, and the rings stay empty. -/
theorem registerWritesActAsTheirRegistersSay : Obligations.RegisterWritesActAsTheirRegistersSay := by
  intro s v hs
  refine ⟨?_, fun hq => ?_, fun hq => ?_, fun hq off ho => ?_, fun off ho => ?_, fun off ho => ?_, fun off ha ho => ?_, ?_⟩
  · obtain ⟨he, hc⟩ := exec_registerWrite_frame (off := 0x1C) (v := v) (ps := [.host]) hs (by decide) rfl (by decide)
      fun q hq => State.setHost_beside _ ⟨rfl, rfl, rfl⟩ (List.ne_of_not_mem_cons hq) (Part.Same.refl s q)
    exact ⟨_, he, hc, State.settled_still _ _⟩
  · obtain ⟨he, hc⟩ := exec_registerWrite_frame (off := 0x40) (ps := [.recorder]) hs (by decide)
      (State.registerWrite_queueBaseLo hq v) (by decide)
      fun q hq => State.setEv_same _ (List.ne_of_not_mem_cons hq) (Part.Same.refl s q)
    exact ⟨_, he, hc, by simp, by simp, by simp⟩
  · obtain ⟨he, hc⟩ := exec_registerWrite_frame (off := 0x44) (ps := [.recorder]) hs (by decide)
      (State.registerWrite_queueBaseHi hq v) (by decide)
      fun q hq => State.setEv_same _ (List.ne_of_not_mem_cons hq) (Part.Same.refl s q)
    exact ⟨_, he, hc, by simp, by simp, by simp⟩
  · have hn : off.toNat = 0x40 ∨ off.toNat = 0x44 := by rcases ho with rfl | rfl <;> decide
    exact ⟨_, exec_registerWrite_frame hs (by omega) (State.registerWrite_queueBase_on hq hn v) (List.not_mem_nil)
      fun q _ => Part.Same.refl s q⟩
  · have hn : off.toNat ∈ readOnlyOffsets := by
      rcases ho with rfl | rfl | rfl | rfl | rfl | rfl | rfl | rfl <;> decide
    have hlow : ∀ n ∈ readOnlyOffsets, n < 0x1000 := by decide
    have := hlow _ hn
    exact ⟨_, exec_registerWrite_frame hs (by omega) (State.registerWrite_readOnly hn v s) (List.not_mem_nil)
      fun q _ => Part.Same.refl s q⟩
  · obtain ⟨he, hc⟩ := exec_registerWrite_frame (ps := [.host]) hs (by omega) (State.registerWrite_misaligned ho v s) (by decide)
      fun q hq => State.setBar0Err_beside 0 (List.ne_of_not_mem_cons hq) (Part.Same.refl s q)
    exact ⟨_, he, hc, by rw [State.settled_still, State.setBar0Err_host]; rfl⟩
  · obtain ⟨he, hc⟩ := exec_registerWrite_frame (ps := [.host]) hs (by omega) (State.registerWrite_above ha ho v s) (by decide)
      fun q hq => State.setBar0Err_beside 1 (List.ne_of_not_mem_cons hq) (Part.Same.refl s q)
    exact ⟨_, he, hc, by rw [State.settled_still, State.setBar0Err_host]; rfl⟩
  · have hreg : s.registerWrite (0x100C : BitVec 16).toNat v = s.writeRspCi 0 v := rfl
    rw [exec_registerWrite (by decide) (hreg ▸ State.writeRspCi_noWork 0 v hs), hreg]
    rfl

end Sys2Proof.Machine

/-! SUPPORT. What a step keeps of the device's bytes and of its time (R7, R9, R312, R508, R518), and the statement about the rows
that move neither. -/
namespace Sys2Proof.Machine

/-- The bytes of the control fabric outside the response rings, and those of the eFlash, read as before; a canonical memory stays
canonical. -/
structure State.KeepsBytes (s t : State) : Prop where
  fabric : Memory.wf s.fabric.cells → Memory.wf t.fabric.cells ∧
    ∀ a, ¬ inResponseRing a → memGet ramDefault t.fabric.cells a = memGet ramDefault s.fabric.cells a
  flash  : t.flash.cells = s.flash.cells

/-- Bytes and time are as before. -/
structure State.KeepsAll (s t : State) : Prop where
  bytes : s.KeepsBytes t
  clock : t.clock = s.clock

theorem State.KeepsBytes.of_eq {s t : State} (hf : t.fabric.cells = s.fabric.cells) (hx : t.flash.cells = s.flash.cells) :
    s.KeepsBytes t :=
  ⟨fun hw => ⟨hf ▸ hw, fun _ _ => by rw [hf]⟩, hx⟩

theorem State.KeepsBytes.trans {s t u : State} (h : s.KeepsBytes t) (h' : t.KeepsBytes u) : s.KeepsBytes u where
  fabric hw := by
    obtain ⟨hwt, ht⟩ := h.fabric hw
    obtain ⟨hwu, hu⟩ := h'.fabric hwt
    exact ⟨hwu, fun a ha => (hu a ha).trans (ht a ha)⟩
  flash := h'.flash.trans h.flash

theorem State.KeepsAll.refl (s : State) : s.KeepsAll s := ⟨.of_eq rfl rfl, rfl⟩

theorem State.KeepsAll.trans {s t u : State} (h : s.KeepsAll t) (h' : t.KeepsAll u) : s.KeepsAll u :=
  ⟨h.bytes.trans h'.bytes, h'.clock.trans h.clock⟩

theorem State.keepsAll_settle (s : State) : s.KeepsAll s.settle :=
  ⟨⟨State.settle_outside s, by rw [State.settle_flash]⟩, State.settle_clock s⟩

/-- Whatever the effects of a step are, `settled` takes back what they would do to the bytes and the clock. -/
theorem State.keepsAll_settled (s u : State) : s.KeepsAll (s.settled u) :=
  State.KeepsAll.trans (t := { u with pending := s.pending, clock := s.clock, fabric := s.fabric, flash := { u.flash with cells := s.flash.cells } })
    ⟨.of_eq rfl rfl, rfl⟩ (State.keepsAll_settle _)

theorem State.keepsAll_settledFabric {s u : State} (h : s.KeepsBytes u) : s.KeepsAll (s.settledFabric u) :=
  State.KeepsAll.trans (t := { u with pending := s.pending, clock := s.clock }) ⟨⟨h.fabric, h.flash⟩, rfl⟩ (State.keepsAll_settle _)

/-- A start leaves the bytes as the reset left them, and the clock as it was loaded. -/
theorem State.keepsAll_settledBoot (s u : State) : s.KeepsAll (s.settledBoot u) :=
  State.KeepsAll.trans
    (t := { u with pending := s.pending, clock := s.clock, fabric := { u.fabric with cells := s.fabric.cells },
                   flash := { u.flash with cells := s.flash.cells } })
    ⟨.of_eq rfl rfl, rfl⟩ (State.keepsAll_settle _)

theorem State.keepsBytes_settledTick (s u : State) : s.KeepsBytes (s.settledTick u) :=
  State.KeepsBytes.trans
    (t := { u with pending := s.pending, clock := s.nextClock, fabric := { u.fabric with cells := s.fabric.cells },
                   flash := { u.flash with cells := s.flash.cells } })
    (.of_eq rfl rfl) (State.keepsAll_settle _).bytes

/-- Held responses go into the response rings and nowhere else. -/
theorem State.keepsBytes_postHeld (c : Fin 8) (n : Nat) (s : State) : s.KeepsBytes (s.postHeld c n) := by
  induction n generalizing s with
  | zero => exact .of_eq rfl rfl
  | succ n ih =>
    unfold State.postHeld
    simp only
    split
    · exact .of_eq rfl rfl
    · split
      · exact .of_eq rfl rfl
      · next x rest _ _ =>
        have hw : s.KeepsBytes ((s.setChan c (fun ch => { ch with held := rest })).writeResponse c x) :=
          ⟨State.writeResponse_outside c x (s.setChan c _), by simp⟩
        refine (hw.trans ?_).trans (ih _)
        exact .of_eq (by rw [State.raiseIf_fabric]) (by rw [State.raiseIf_flash])

theorem State.keepsBytes_releaseHeld (c : Fin 8) (n : Nat) (s : State) : s.KeepsBytes (s.releaseHeld c n) := by
  unfold State.releaseHeld
  split
  · exact .of_eq rfl rfl
  · exact State.keepsBytes_postHeld c n s

/-- Requests are taken one settled step at a time. -/
theorem State.keepsAll_pump (n : Nat) (s : State) : s.KeepsAll (s.pump n) := by
  induction n generalizing s with
  | zero => exact .refl s
  | succ n ih =>
    unfold State.pump
    split
    · exact .refl s
    · exact (State.keepsAll_settled s _).trans (ih _)

/-- What a register write leaves: the register's effect, the held responses that a doorbell releases, the requests taken. -/
theorem exec_registerWrite_keepsAll (off : BitVec 16) (v : BitVec 32) (s : State) :
    ∃ t, exec (.registerWrite off v) s = .next t ∧ s.KeepsAll t := by
  refine ⟨_, rfl, ((State.keepsAll_settled s (s.registerWrite off.toNat v)).trans ?_).trans (State.keepsAll_pump allRings _)⟩
  split
  · exact State.keepsAll_settledFabric (State.keepsBytes_releaseHeld _ 64 _)
  · exact .refl _

/-- A step that settles the effects `u` keeps bytes and time. -/
theorem keepsAll_of_settled {c : Instr} {s u : State} (h : exec c s = .next (s.settled u)) : ∃ t, exec c s = .next t ∧ s.KeepsAll t :=
  ⟨_, h, State.keepsAll_settled s u⟩

/-- A row that writes no bytes and does not move the clock keeps both. -/
theorem exec_keepsAll (c : Instr) (s : State) (hb : writesBytes c = false) (hm : movesClock c = false) :
    ∃ t, exec c s = .next t ∧ s.KeepsAll t := by
  cases c
  case registerWrite off v => exact exec_registerWrite_keepsAll off v s
  case mbxDoorbellReq c => exact ⟨_, rfl, (State.keepsAll_settled s _).trans (State.keepsAll_pump allRings _)⟩
  case hostDmaDone c k data => exact ⟨_, rfl, (State.keepsAll_settled s _).trans (State.keepsAll_pump allRings _)⟩
  case mbxDoorbellRsp c =>
    exact ⟨_, rfl, State.keepsAll_settledFabric ((State.KeepsBytes.of_eq (s := s) (t := s.tally 10 0 3 1) rfl rfl).trans (State.keepsBytes_releaseHeld c 64 _))⟩
  case heldResponsePosted c => exact ⟨_, rfl, State.keepsAll_settledFabric (State.keepsBytes_releaseHeld c 1 s)⟩
  case hostPortReset | hotReset | flr | fabricAccess | bridgeTimeout | patrolScrub | eflashErase | eflashProgram | eflashEraseDone
      | eflashProgramDone | porNAssert | coldRstNAssert | domainTransitionDone | bistSliceDone | bistSliceTimeout | shutdownSequence =>
    cases hb
  case tick | porNRelease | coldRstNRelease => cases hm
  all_goals exact keepsAll_of_settled rfl

/-- The frame count that a start loads leaves the bytes alone. -/
theorem keepsBytes_started (s : State) (starts : Bool) : s.KeepsBytes (if starts then s.loadFrame else s) := by
  split
  · exact .of_eq rfl rfl
  · exact .of_eq rfl rfl

/-- A row that writes no bytes keeps them, also when it moves the clock. -/
theorem exec_keepsBytes (c : Instr) (s : State) (hb : writesBytes c = false) : ∃ t, exec c s = .next t ∧ s.KeepsBytes t := by
  by_cases hm : movesClock c = false
  · obtain ⟨t, ht, hk⟩ := exec_keepsAll c s hb hm
    exact ⟨t, ht, hk.bytes⟩
  · cases c
    case tick => exact ⟨_, rfl, (State.keepsBytes_settledTick s _).trans (State.keepsAll_pump allRings _).bytes⟩
    case porNRelease x b => exact ⟨_, rfl, State.KeepsBytes.trans (keepsBytes_started s _) (State.keepsAll_settledBoot _ _).bytes⟩
    case coldRstNRelease b => exact ⟨_, rfl, State.KeepsBytes.trans (keepsBytes_started s _) (State.keepsAll_settledBoot _ _).bytes⟩
    case porNAssert | coldRstNAssert => cases hb
    all_goals exact absurd rfl hm

/-- Only the rows of the device's reset and start move time. -/
theorem exec_keepsClock (c : Instr) (s : State) (hm : movesClock c = false) : ∃ t, exec c s = .next t ∧ t.clock = s.clock := by
  by_cases hb : writesBytes c = false
  · obtain ⟨t, ht, hk⟩ := exec_keepsAll c s hb hm
    exact ⟨t, ht, hk.clock⟩
  · cases c
    case porNAssert | coldRstNAssert => cases hm
    case hostPortReset | hotReset | flr | fabricAccess | bridgeTimeout | patrolScrub | eflashErase | eflashProgram | eflashEraseDone
        | eflashProgramDone | domainTransitionDone | bistSliceDone | bistSliceTimeout | shutdownSequence =>
      exact ⟨_, rfl, State.settledFabric_clock _ _⟩
    all_goals exact absurd rfl hb

theorem exec_tick_clock (s : State) : ∃ t, exec .tick s = .next t ∧ t.clock = s.nextClock :=
  ⟨_, rfl, (State.keepsAll_pump allRings _).clock.trans (State.settledTick_clock _ _)⟩

theorem State.nextClock_tick (s : State) : s.nextClock.tick = s.clock.tick + 1 := by
  unfold State.nextClock
  split <;> rfl

/-- A row has one outcome. -/
theorem exec_next_unique {c : Instr} {s t : State} {P : State → Prop} (h : exec c s = .next t) (hP : ∃ u, exec c s = .next u ∧ P u) :
    P t := by
  obtain ⟨u, hu, hp⟩ := hP
  obtain rfl : t = u := Host.Outcome.next.inj (h.symm.trans hu)
  exact hp

/-- Settles O56: every row but those that write settles its effects, and settling gives back bytes and time. -/
theorem memoryAndTimeChangeOnlyWhereStated : Obligations.MemoryAndTimeChangeOnlyWhereStated := by
  intro c s t h
  refine ⟨fun hb hw a ha => ?_, fun hb => ?_, fun hm => ?_, fun hc => ?_⟩
  · exact ((exec_next_unique h (exec_keepsBytes c s hb)).fabric hw).2 a ha
  · exact (exec_next_unique h (exec_keepsBytes c s hb)).flash
  · exact exec_next_unique h (exec_keepsClock c s hm)
  · subst hc
    exact (congrArg Clock.tick (exec_next_unique h (exec_tick_clock s))).trans (State.nextClock_tick s)

end Sys2Proof.Machine

/-! SUPPORT. What the end and the commitment of a command leave in its channel's token window (R317, R324), and what they leave of
the channel's ring. -/
namespace Sys2Proof.Machine

theorem find_updateFirst {α : Type} {p : α → Bool} {f : α → α} {x : α} (hf : p (f x) = true) :
    ∀ {xs : List α}, xs.find? p = some x → (updateFirst p f xs).find? p = some (f x)
  | y :: ys, h => by
    unfold updateFirst
    split
    case isTrue hy =>
      obtain rfl : y = x := by simpa [List.find?_cons, hy] using h
      simp [hf]
    case isFalse hy =>
      have hy' : p y = false := by simpa using hy
      rw [List.find?_cons, hy'] at h ⊢
      exact find_updateFirst hf h

theorem Channel.recorded_token {ch : Channel} {t : BitVec 64} {e : TokenEntry} (h : ch.recorded t = some e) : e.token = t := by
  simpa using List.find?_some h

theorem Channel.recorded_update {ch : Channel} {t : BitVec 64} {e : TokenEntry} {f : TokenEntry → TokenEntry}
    (hf : (f e).token = e.token) (h : ch.recorded t = some e) : (ch.update t f).recorded t = some (f e) := by
  unfold Channel.update
  rw [if_pos (by rw [h]; rfl)]
  exact find_updateFirst (by simp [hf, Channel.recorded_token h]) h

theorem Channel.find_of_recorded {ch : Channel} {t : BitVec 64} {e : TokenEntry} (h : ch.recorded t = some e) : ch.find t = some e := by
  rw [Channel.find, h]

@[simp] theorem Channel.update_rungPi (t : BitVec 64) (f : TokenEntry → TokenEntry) (ch : Channel) : (ch.update t f).rungPi = ch.rungPi := by
  unfold Channel.update
  split <;> rfl

@[simp] theorem Channel.update_reqCi (t : BitVec 64) (f : TokenEntry → TokenEntry) (ch : Channel) : (ch.update t f).reqCi = ch.reqCi := by
  unfold Channel.update
  split <;> rfl

@[simp] theorem State.postEntry_chan (c : CommandRef) (j : Fin 8) (s : State) : (s.postEntry c).chan j = s.chan j := by
  unfold State.postEntry
  split
  · rfl
  · split <;> rfl

/-- The entry of a command that has ended (R317). -/
def TokenEntry.ended (st : Status) (detail : Nat) (results : List Byte) (e : TokenEntry) : TokenEntry :=
  { e with status := st, stage := stageCompletion, detail := BitVec.ofNat 32 detail
           results := padTo e.results.length results, jobState := 2 }

/-- A completion changes its channel's entry and no other channel. -/
theorem State.complete_chan (c : CommandRef) (st : Status) (d : Nat) (res : List Byte) (j : Fin 8) (s : State) :
    (s.complete c st d res).chan j =
      if j = c.channel then (s.chan c.channel).update c.token (TokenEntry.ended st d res) else s.chan j := by
  unfold State.complete TokenEntry.ended
  simp

theorem State.complete_recorded {s : State} {c : CommandRef} {e : TokenEntry} (st : Status) (d : Nat) (res : List Byte)
    (h : (s.chan c.channel).recorded c.token = some e) :
    ((s.complete c st d res).chan c.channel).recorded c.token = some (e.ended st d res) := by
  rw [State.complete_chan, if_pos rfl]
  exact Channel.recorded_update rfl h

@[simp] theorem State.postEntry_waiting (c : CommandRef) (s : State) : (s.postEntry c).host.waiting = s.host.waiting := by
  unfold State.postEntry
  split
  · rfl
  · split <;> rfl

@[simp] theorem State.complete_waiting (c : CommandRef) (st : Status) (d : Nat) (res : List Byte) (s : State) :
    (s.complete c st d res).host.waiting = s.host.waiting := by
  simp [State.complete]

/-- A completion takes nothing from the rings. -/
theorem State.complete_noWork {s : State} (c : CommandRef) (st : Status) (d : Nat) (res : List Byte) (h : s.noWork) :
    (s.complete c st d res).noWork := by
  intro j
  rw [State.complete_chan]
  split
  case isTrue hj => rw [Channel.update_rungPi, Channel.update_reqCi, ← hj, h j]
  case isFalse => exact h j

/-- The entry of a command whose effects are durable, as it asked (R317). -/
def TokenEntry.madeDurable (e : TokenEntry) : TokenEntry :=
  { e with status := .committed, stage := stageCommitment, durable := true }

/-- A commitment that was asked for is recorded when the command has ended with OK (R317). -/
theorem State.commit_recorded {s : State} {c : CommandRef} {e : TokenEntry} (h : (s.chan c.channel).recorded c.token = some e)
    (hp : e.persist = true) (hs : e.status = .ok) :
    ((s.commit c).chan c.channel).recorded c.token
      = some e.madeDurable := by
  unfold State.commit
  rw [Channel.find_of_recorded h]
  simp only [hp, hs, beq_self_eq_true, Bool.and_self, if_true, State.postEntry_chan, State.setChan_chan, State.journal_chan]
  exact Channel.recorded_update (f := TokenEntry.madeDurable) rfl h

end Sys2Proof.Machine

/-! SUPPORT. A swap whose persistent write has ended before its output frame left (R142, R148): its command is committed in the
step that ends it. -/
namespace Sys2Proof.Machine

/-- A copy verifies as the device has written it. -/
theorem PersistentCopy.of_verifies (b : Bank) : (PersistentCopy.of b).verifies = true := by
  simp [PersistentCopy.verifies, PersistentCopy.of]

/-- With one slot written, the persistent copy is that slot's. -/
theorem State.persistGeneration_first {s : State} {b : Bank} (h : s.map.copies = #v[some (.of b), none]) :
    s.persistGeneration = b.generation.toNat := by
  have h0 : s.validCopy 0 = some b.trimmed := by simp [State.validCopy, h, PersistentCopy.of_verifies]; rfl
  have h1 : s.validCopy 1 = none := by simp [State.validCopy, h]
  simp [State.persistGeneration, State.persistentCopy, h0, h1, Bank.trimmed]

theorem State.sendComplete_none {s : State} (h : s.casc.staged = none) : s.sendComplete = s := by
  unfold State.sendComplete
  rw [h]

/-- The end of the command of a swap that took place, and its commitment when the persistent copy holds the bank already or a newer
one (R142, R148). -/
def State.endCommand (c : CommandRef) (results : List Byte) (s : State) : State := (s.complete c .ok 0 results).commit c

theorem State.endCommand_casc (c : CommandRef) (results : List Byte) (s : State) : (s.endCommand c results).casc = s.casc :=
  State.commit_same (s := s) c (q := .casc) (by decide) (State.complete_same c .ok 0 results (by decide) rfl)

/-- The output frame of a swap has left, and its event is raised (R142). -/
def State.frameLeft (w : MapSwap) (s : State) : State :=
  State.raise 364 4 .occurrence oneUnit (s.map.active.generation.toNat % 4294967296) (w.frame.toNat % 4294967296)
    { s with map := { s.map with leaving := none } }

@[simp] theorem State.frameLeft_chan (w : MapSwap) (j : Fin 8) (s : State) : (s.frameLeft w).chan j = s.chan j := by
  simp [State.frameLeft, State.chan]

@[simp] theorem State.frameLeft_casc (w : MapSwap) (s : State) : (s.frameLeft w).casc = s.casc := by simp [State.frameLeft]

@[simp] theorem State.frameLeft_map (w : MapSwap) (s : State) : (s.frameLeft w).map = { s.map with leaving := none } := by
  simp [State.frameLeft]

@[simp] theorem State.complete_map (c : CommandRef) (st : Status) (d : Nat) (res : List Byte) (s : State) :
    (s.complete c st d res).map = s.map :=
  State.complete_same (s := s) (q := .map) c st d res (by decide) rfl

/-- SWAP_COMPLETE of a swap whose bank the persistent copy holds: OK, and at once the commitment. -/
theorem State.swapComplete_written {s : State} {w : MapSwap} {c : CommandRef} (hl : s.map.leaving = some w)
    (hf : w.frame ≤ s.clock.frame) (hc : w.command = some c) (hs : s.casc.staged = none)
    (hg : s.map.active.generation.toNat ≤ s.persistGeneration) :
    s.swapComplete
      = (s.frameLeft w).endCommand c (leBytes 8 w.frame.toNat ++ leBytes 8 s.map.active.generation.toNat) := by
  have hgen : s.map.active.generation.toNat ≤ ((s.frameLeft w).complete c .ok 0
      (leBytes 8 w.frame.toNat ++ leBytes 8 s.map.active.generation.toNat)).persistGeneration := by
    simpa [State.persistGeneration, State.persistentCopy, State.validCopy] using hg
  unfold State.frameLeft at hgen
  unfold State.swapComplete
  simp only [hl, hf, if_true, hc]
  rw [if_pos hgen]
  exact State.sendComplete_none ((congrArg CascadeState.staged (State.endCommand_casc c _ (s.frameLeft w))).trans (by simpa using hs))

/-- The command of such a swap, when it asked for it, stands committed. -/
theorem State.endCommand_recorded {s : State} {c : CommandRef} {e : TokenEntry} (results : List Byte)
    (h : (s.chan c.channel).recorded c.token = some e) (hp : e.persist = true) :
    ((s.endCommand c results).chan c.channel).recorded c.token = some (e.ended .ok 0 results).madeDurable :=
  State.commit_recorded (State.complete_recorded .ok 0 results h) hp rfl

theorem State.swapComplete_recorded {s : State} {w : MapSwap} {c : CommandRef} {e : TokenEntry} (hl : s.map.leaving = some w)
    (hf : w.frame ≤ s.clock.frame) (hc : w.command = some c) (hs : s.casc.staged = none)
    (hg : s.map.active.generation.toNat ≤ s.persistGeneration) (he : (s.chan c.channel).recorded c.token = some e)
    (hp : e.persist = true) : ∃ e', (s.swapComplete.chan c.channel).recorded c.token = some e' ∧ e'.status = .committed := by
  rw [State.swapComplete_written hl hf hc hs hg]
  exact ⟨_, State.endCommand_recorded _ (by rw [State.frameLeft_chan, he]) hp, rfl⟩

/-- A MAP_SWAP with PERSIST that awaits its completion. -/
def swapEntry : TokenEntry := { (default : TokenEntry) with token := 0x98, opcode := 0x0307, status := .accepted, persist := true }

/-- A bank of generation 1. -/
def writtenBank : Bank := { Bank.empty with generation := 1 }

/-- Its swap, at frame 0. -/
def leavingSwap : MapSwap := { frame := 0, persist := true, command := some ⟨3, 0x98⟩, latched := true }

/-- The bank of a swap at frame 0 is in force and already written, and the output frame has left. -/
def writtenBeforeFrame : State :=
  { State.reset.setChan 3 (fun ch => { ch with window := [swapEntry] }) with
    map := { MapState.reset with
      active := writtenBank, copies := #v[some (.of writtenBank), none]
      leaving := some leavingSwap } }

theorem writtenBeforeFrame_recorded : (writtenBeforeFrame.chan 3).recorded 0x98 = some swapEntry := by
  have hwindow : (writtenBeforeFrame.chan 3).window = [swapEntry] := rfl
  rw [Channel.recorded, hwindow]
  rfl

/-- Refutes O22: the persistent write of a swap may end before its output frame leaves; SWAP_COMPLETE then commits the command in
the step that ends it, and its entry stands at COMMITTED, not at OK. -/
theorem not_swapsExchangeTheBanks : ¬ Obligations.SwapsExchangeTheBanks := by
  intro h
  obtain ⟨-, hleave, -⟩ := h writtenBeforeFrame
  obtain ⟨-, hdone⟩ := hleave leavingSwap rfl rfl
  obtain ⟨t, ht, -, -, -, -, -, -, hended⟩ := hdone (by decide)
  obtain ⟨e, he, hok, -⟩ := hended ⟨3, 0x98⟩ rfl swapEntry writtenBeforeFrame_recorded
  obtain ⟨e', he', hcommitted⟩ := State.swapComplete_recorded (s := writtenBeforeFrame) (w := leavingSwap) rfl (by decide) rfl rfl
    (le_of_eq (State.persistGeneration_first (b := writtenBank) rfl).symm) writtenBeforeFrame_recorded rfl
  obtain rfl : writtenBeforeFrame.settled writtenBeforeFrame.swapComplete = t := Host.Outcome.next.inj ht
  rw [State.settled_recorded] at he
  obtain rfl : e = e' := Option.some.inj (he.symm.trans he')
  exact absurd (hok.symm.trans hcommitted) (by decide)

end Sys2Proof.Machine

/-! SUPPORT. TICK and HOST_DMA_DONE (R7, R9, R264, R304, R318, R524): what time does at a tick, what a tick in reset leaves alone,
and how a transfer ends its command. -/
namespace Sys2Proof.Machine

theorem State.pump_pending (n : Nat) (s : State) : (s.pump n).pending = s.pending := by
  induction n generalizing s with
  | zero => rfl
  | succ n ih =>
    unfold State.pump
    split
    · rfl
    · rw [ih, State.settled_pending]

theorem exec_tick_pending {s t : State} (h : exec .tick s = .next t) : t.pending = s.pending := by
  obtain rfl : (s.settledTick s.tickWork).pump allRings = t := Host.Outcome.next.inj h
  rw [State.pump_pending, State.settledTick_pending]

/-- The frame number stands in reset. -/
theorem State.nextClock_held {s : State} (h : s.rst.porLow = true ∨ s.rst.coldLow = true) : s.nextClock.frame = s.clock.frame := by
  rw [State.nextClock, if_pos (by simpa using h)]

/-- Out of reset the frame number counts on, less the step of the period that ended. -/
theorem State.nextClock_runs {s : State} (hp : s.rst.porLow = false) (hc : s.rst.coldLow = false) :
    s.nextClock.frame = s.clock.frame + 1 - BitVec.ofInt 64 (s.dpll.step.getD 0) := by
  rw [State.nextClock, if_neg (by simp [hp, hc])]

/-- A state whose memories hold the bytes of another. -/
def State.withBytesOf (s u : State) : State :=
  { u with fabric := { u.fabric with cells := s.fabric.cells }, flash := { u.flash with cells := s.flash.cells } }

theorem State.withBytesOf_same {s u : State} {q : Part} (h0 : q ≠ .memory) (h : Part.Same s u q) : Part.Same s (s.withBytesOf u) q := by
  cases q
  case memory => exact absurd rfl h0
  case flash =>
    have hu : u.flash = s.flash := h
    simp [Part.Same, State.withBytesOf, hu]
  all_goals exact h

/-- A state in which time has gone on by one tick. -/
def State.ticked (s : State) : State := { s with clock := s.nextClock }

theorem State.ticked_same {s t : State} {q : Part} (h0 : q ≠ .clock) : Part.Same s.ticked t q ↔ Part.Same s t q := by
  cases q
  case clock => exact absurd rfl h0
  all_goals exact Iff.rfl

/-- The frame of a tick: what its work leaves alone, the posting of responses leaves alone too. -/
theorem State.settledTick_changesOnly {s u : State} {ps : List Part} (hclock : .clock ∈ ps)
    (h : ∀ p, p ∉ ps → p ≠ .memory → Part.Same s u p) : s.ChangesOnly (s.settledTick u) ps := by
  obtain ⟨hpending, hsame⟩ := State.settledFabric_changesOnly (s := s.ticked) (u := s.withBytesOf u) (ps := ps)
    (fun p hp hpc hpm => (State.ticked_same hpc).2 (State.withBytesOf_same hpm (h p hp hpm))) (fun _ hw => ⟨hw, fun _ _ => rfl⟩)
  refine ⟨hpending, fun p hp => ?_⟩
  have hpc : p ≠ .clock := fun e => hp (e ▸ hclock)
  exact (State.ticked_same hpc).1 (hsame p hp)

theorem State.countSubSeconds_same {s u : State} {q : Part} (h0 : q ≠ .rtc) (h : Part.Same s u q) : Part.Same s u.countSubSeconds q :=
  State.setRtc_same _ h0 h

/-- While a reset input is low a tick moves time and the RTC alone. -/
theorem State.tickWork_held {s : State} (h : s.rst.porLow = true ∨ s.rst.coldLow = true) :
    s.tickWork = s.ticked.countSubSeconds := by
  rw [State.tickWork, if_pos (by simpa using h)]
  rfl

theorem State.tickWork_held_same {s : State} (h : s.rst.porLow = true ∨ s.rst.coldLow = true) {q : Part} (hc : q ≠ .clock)
    (hr : q ≠ .rtc) : Part.Same s s.tickWork q :=
  State.tickWork_held h ▸ State.countSubSeconds_same hr ((State.ticked_same hc).1 (Part.Same.refl s.ticked q))

/-- A tick in reset, with nothing in the rings. -/
theorem exec_tick_held {s : State} (h : s.rst.porLow = true ∨ s.rst.coldLow = true) (hw : s.noWork) :
    ∃ t, exec .tick s = .next t ∧ s.ChangesOnly t [.clock, .rtc] := by
  have hframe : s.ChangesOnly (s.settledTick s.tickWork) [.clock, .rtc] := by
    refine State.settledTick_changesOnly (by decide) fun p hp _ => State.tickWork_held_same h ?_ ?_
    · exact List.ne_of_not_mem_cons hp
    · exact List.ne_of_not_mem_cons (List.not_mem_of_not_mem_cons hp)
  have hidle : (s.settledTick s.tickWork).noWork := hw.of_same (hframe.2 .channels (by decide))
  exact ⟨_, congrArg Host.Outcome.next (State.pump_idle hidle allRings), hframe⟩

/-! HOST_DMA_DONE (R304, R318; log 10). -/

theorem State.dmaDone_nothingWaits {s : State} (h : s.host.waiting = []) (c : Fin 8) (k : BitVec 64) (data : List Byte) :
    s.dmaDone c k data = s := by
  simp [State.dmaDone, h]

theorem State.dmaDone_noBusMaster {s : State} (h : s.host.busMaster = false) (c : Fin 8) (k : BitVec 64) (data : List Byte) :
    s.dmaDone c k data = s := by
  unfold State.dmaDone
  simp only [h, Bool.false_and, Bool.false_eq_true, if_false]
  split <;> rfl

section OneWaits
variable {s : State} {w : WaitingCommand} (hw : s.host.waiting = [w])
include hw

theorem State.dmaDone_otherLength {data : List Byte} (hl : data.length ≠ w.bytes) :
    s.dmaDone w.request.channel w.request.token data = s := by
  simp [State.dmaDone, hw, hl]

/-- The end of a buffer write of an accepted command: it waits no longer, and ends with OK and its results. -/
theorem State.dmaDone_output (hb : s.host.busMaster = true) (ha : w.accepted = true) {bs results : List Byte}
    (ho : w.wait = .output bs results) (hop : w.opcode ≠ 0x0A03) :
    s.dmaDone w.request.channel w.request.token []
      = (s.setHost (fun h => { h with waiting := [] })).complete w.request.ref .ok 0 results := by
  have hbytes : w.bytes = 0 := by rw [WaitingCommand.bytes, ho]
  have hlogRead (u : State) : u.endLogRead w.opcode w.request = u :=
    if_neg fun h => hop (of_decide_eq_true (Bool.and_eq_true_iff.1 h).1)
  have hwaits : (s.setHost (fun h => { h with waiting := h.waiting.filter (fun x =>
      !((x.request.channel == w.request.channel && x.request.token == w.request.token) && x == w)) }))
        = s.setHost (fun h => { h with waiting := [] }) := by
    simp [State.setHost, hw]
  unfold State.dmaDone
  simp only [hwaits, hw, hb, hbytes, List.find?_cons, beq_self_eq_true, Bool.and_self, List.length_nil, if_true, State.dmaArrived, ho]
  cases commandOf w.opcode with
  | some k => simp only [ha, if_true, hlogRead]
  | none => rfl

end OneWaits

/-- With nothing in the rings a transfer does what it does for its command, and no more. -/
theorem exec_hostDmaDone {s u : State} {c : Fin 8} {k : BitVec 64} {data : List Byte} (hu : s.dmaDone c k data = u) (hw : u.noWork) :
    exec (.hostDmaDone c k data) s = .next (s.settled u) := by
  subst hu
  exact congrArg Host.Outcome.next (State.settled_pump_idle hw allRings)

/-- A transfer for no command changes nothing. -/
theorem exec_hostDmaDone_idle {s : State} {c : Fin 8} {k : BitVec 64} {data : List Byte} (hw : s.noWork) (h : s.dmaDone c k data = s) :
    ∃ t, exec (.hostDmaDone c k data) s = .next t ∧ s.ChangesOnly t [] :=
  ⟨_, exec_hostDmaDone h hw, State.settled_self_changesNothing s⟩

/-- The waiting request is ended: its entry is, and no part but the channels and the requests changes. -/
theorem exec_hostDmaDone_output {s : State} {w : WaitingCommand} (hs : s.noWork) (hw : s.host.waiting = [w])
    (hb : s.host.busMaster = true) (ha : w.accepted = true) {bs results : List Byte} (ho : w.wait = .output bs results)
    (hop : w.opcode ≠ 0x0A03) :
    ∃ t, exec (.hostDmaDone w.request.channel w.request.token []) s = .next t ∧ s.ChangesOnly t [.channels, .requests]
      ∧ t.host.waiting = [] ∧ s.Ended t w.request.ref .ok results := by
  refine ⟨_, exec_hostDmaDone (State.dmaDone_output hw hb ha ho hop) (State.complete_noWork _ _ _ _ hs), ?_, ?_, fun e he => ?_⟩
  · refine State.settled_changesOnly fun q hq _ _ => State.complete_same _ _ _ _ (List.ne_of_not_mem_cons hq) ?_
    have hr : q ≠ .requests := List.ne_of_not_mem_cons (List.not_mem_of_not_mem_cons hq)
    exact State.setHost_keeps _ (fun _ => rfl) (fun e => absurd e hr) (fun _ => rfl) (Part.Same.refl s q)
  · rw [State.settled_host_waiting, State.complete_waiting]
    rfl
  · exact ⟨_, (State.settled_recorded _ _ _ _).trans (State.complete_recorded .ok 0 results he), rfl, rfl, rfl⟩

/-- Settles O39: the tick's clock is `nextClock`, and a transfer does one of the things that `dmaDone` can do. -/
theorem ticksAndTransfersMoveTimeAndCommands : Obligations.TicksAndTransfersMoveTimeAndCommands := by
  intro s
  refine ⟨?_, exec_tick_held, fun hs c k data => ⟨fun hw => ?_, fun hb => ?_, fun w hw hc hk hl => ?_, ?_⟩⟩
  · obtain ⟨t, ht, hclock⟩ := exec_tick_clock s
    refine ⟨t, ht, exec_tick_pending ht, ?_⟩
    rw [hclock]
    refine ⟨State.nextClock_tick s, State.nextClock_held, fun hp hc hk => ?_, fun k hp hc hk => ?_⟩
    · rw [State.nextClock_runs hp hc, hk]
      simp
    · rw [State.nextClock_runs hp hc, hk]
      rfl
  · exact exec_hostDmaDone_idle hs (State.dmaDone_nothingWaits hw c k data)
  · exact exec_hostDmaDone_idle hs (State.dmaDone_noBusMaster hb c k data)
  · subst hc hk
    exact exec_hostDmaDone_idle hs (State.dmaDone_otherLength hw hl)
  · intro w bs results hb hw hc hk ha ho hop
    subst hc hk
    exact exec_hostDmaDone_output hs hw hb ha ho hop

end Sys2Proof.Machine

/-! SUPPORT. What the operations on ports, planes and the store leave of the parts that they are not about. -/
namespace Sys2Proof.Machine

/-- A chain of operations leaves what each of them leaves. -/
theorem foldl_same {α : Type} {s : State} {q : Part} {f : State → α → State} (hf : ∀ u x, Part.Same s u q → Part.Same s (f u x) q)
    (xs : List α) {u : State} (h : Part.Same s u q) : Part.Same s (xs.foldl f u) q := by
  induction xs generalizing u with
  | nil => exact h
  | cons x xs ih => exact ih (hf u x h)

theorem ite_same {P : Prop} [Decidable P] {s a b : State} {q : Part} (ha : Part.Same s a q) (hb : Part.Same s b q) :
    Part.Same s (if P then a else b) q := by
  split
  · exact ha
  · exact hb

theorem State.setDefect_same {s u : State} {q : Part} (p : PortNo) (d : Defect) (on : Bool) (h0 : q ≠ .ports) (h : Part.Same s u q) :
    Part.Same s (u.setDefect p d on) q :=
  State.raiseFlag_same _ _ _ _ _ (State.setPort_same p _ h0 h)

theorem State.setPortMode_same {s u : State} {q : Part} (p : PortNo) (m : PortMode) (h0 : q ≠ .ports) (h : Part.Same s u q) :
    Part.Same s (u.setPortMode p m) q :=
  State.raiseState_same _ _ _ _ _ (State.setPort_same p _ h0 h)

theorem State.enablePort_same {s u : State} {q : Part} (p : PortNo) (h0 : q ≠ .ports) (h : Part.Same s u q) :
    Part.Same s (u.enablePort p) q :=
  State.setDefect_same p .lof true h0 (State.setPortMode_same p .training h0 (State.setPort_same p _ h0 h))

theorem State.setPlaneMode_same {s u : State} {q : Part} (k : Fin 4) (m : PlaneMode) (h0 : q ≠ .map) (h : Part.Same s u q) :
    Part.Same s (u.setPlaneMode k m) q :=
  State.raiseState_same _ _ _ _ _ (State.setPlane_same k _ h0 h)

/-! The capture engine and its drives (R232 to R237): commands and objects change `cap`, the completions their channels. -/

section Store
variable {s : State} {q : Part} (hcap : q ≠ .cap) (hchan : q ≠ .channels)

section CapOnly
include hcap

theorem State.setNs_same {u : State} (n : Fin 32) (f : StoreNamespace → StoreNamespace) (h : Part.Same s u q) :
    Part.Same s (u.setNs n f) q :=
  State.setCap_same _ hcap h

theorem State.setNsMode_same {u : State} (n : Fin 32) (m : StoreMode) (h : Part.Same s u q) : Part.Same s (u.setNsMode n m) q :=
  State.raiseState_same _ _ _ _ _ (State.setNs_same hcap n _ h)

theorem State.dropTask_same {u : State} (t : NvmeTask) (h : Part.Same s u q) : Part.Same s (u.dropTask t) q :=
  State.setCap_same _ hcap h

theorem State.issueNvme_same {u : State} (t : NvmeTask) (xs : List (Fin 16 × NvmeOp × List NvmeRange)) (h : Part.Same s u q) :
    Part.Same s (u.issueNvme t xs) q :=
  State.setCap_same _ hcap h

theorem State.enterStep_same {u : State} (c : Capture) (h : Part.Same s u q) : Part.Same s (u.enterStep c) q :=
  State.issueNvme_same hcap _ _ (State.setCap_same _ hcap h)

theorem State.enterKeyStep_same {u : State} (k : KeyWrite) (h : Part.Same s u q) : Part.Same s (u.enterKeyStep k) q :=
  State.issueNvme_same hcap _ _ (State.setCap_same _ hcap h)

theorem State.deallocateLog_same {u : State} (n : Fin 32) (xs : List (Nat × Nat)) (h : Part.Same s u q) :
    Part.Same s (u.deallocateLog n xs) q := by
  unfold State.deallocateLog
  refine foldl_same (fun v x hv => ?_) xs h
  exact State.issueNvme_same hcap .deallocate _ hv

theorem State.reserve_same {u : State} (n : Fin 32) (len : Nat) (h : Part.Same s u q) : Part.Same s (u.reserve n len).2 q := by
  unfold State.reserve
  simp only
  split
  · exact h
  · have hgone (f : StoreNamespace → StoreNamespace) (xs : List (Nat × Nat)) : Part.Same s ((u.setNs n f).deallocateLog n xs) q :=
      State.deallocateLog_same hcap n xs (State.setNs_same hcap n f h)
    split
    · exact hgone _ _
    · exact State.setNs_same hcap n _ (hgone _ _)

theorem State.areaRecord_same {u : State} (n : Fin 32) (o : StoredObject) (h : Part.Same s u q) : Part.Same s (u.areaRecord n o) q := by
  unfold State.areaRecord
  simp only
  split
  · exact State.setNs_same hcap n _ h
  split
  · split
    · exact State.setNs_same hcap n _ h
    · exact h
  · exact State.raise_same _ _ _ _ _ _ (State.setNs_same hcap n _ h)

theorem State.storeKey_same {u : State} (k : KeyWrite) (o : StoredObject) (h : Part.Same s u q) : Part.Same s (u.storeKey k o) q :=
  State.raise_same _ _ _ _ _ _ (State.setCap_same _ hcap (State.setNs_same hcap k.ns _ h))

/-- The keys of a namespace that fails are dropped. -/
theorem State.dropKeys_same {u : State} (ks : List Nat) (h : Part.Same s u q) :
    Part.Same s (ks.foldl (fun s k => s.dropTask (.object k)) u) q :=
  foldl_same (fun _ k hu => State.dropTask_same hcap (.object k) hu) ks h

end CapOnly

section CapAndChannels
include hchan

theorem State.completeAll_same {u : State} (xs : List CommandRef) (h : Part.Same s u q) :
    Part.Same s (xs.foldl (fun s r => s.complete r .ok 0 []) u) q :=
  foldl_same (fun _ r hu => State.complete_same r _ _ _ hchan hu) xs h

include hcap

theorem State.beginFailure_same {u : State} (c : Capture) (reason : Nat) (h : Part.Same s u q) :
    Part.Same s (u.beginFailure c reason) q := by
  have hdrop := State.dropTask_same hcap (.object c.sequence) h
  unfold State.beginFailure
  extract_lets n len dropped freed ended atHead moved o
  refine ite_same (State.completeAll_same hchan c.aborts (State.raise_same _ _ _ _ _ _ (State.setCap_same _ hcap hdrop)))
    (State.enterStep_same hcap _ ?_)
  have hmoved : Part.Same s moved q := ite_same (State.setNs_same hcap _ _ hdrop) hdrop
  have ho : o.2 = if c.inLog = true then moved else (moved.reserve n len).2 := apply_ite Prod.snd _ _ _
  rw [ho]
  exact ite_same hmoved (State.reserve_same hcap _ _ hmoved)

theorem State.storeCapture_same {u : State} (c : Capture) (o : StoredObject) (h : Part.Same s u q) :
    Part.Same s (u.storeCapture c o) q := by
  unfold State.storeCapture
  simp only
  split
  · exact State.raise_same _ _ _ _ _ _ (State.setNs_same hcap _ _ (State.setCap_same _ hcap h))
  · exact State.completeAll_same hchan c.aborts (State.raise_same _ _ _ _ _ _
      (State.setNs_same hcap _ _ (State.setCap_same _ hcap (State.areaRecord_same hcap _ _ (State.setCap_same _ hcap h)))))

theorem State.sealOn_same {u : State} (fuel sequence : Nat) (h : Part.Same s u q) : Part.Same s (u.sealOn fuel sequence) q := by
  induction fuel generalizing u with
  | zero => exact h
  | succ fuel ih =>
    unfold State.sealOn
    split
    · exact h
    split
    · split
      · exact h
      · exact State.storeCapture_same hcap hchan _ _ h
      · split
        · exact ih (State.beginFailure_same hcap hchan _ _ h)
        · exact ih (State.enterStep_same hcap _ h)
      · exact ih (State.enterStep_same hcap _ h)
    · split
      · exact State.storeKey_same hcap _ _ h
      · exact ih (State.enterKeyStep_same hcap _ h)
    · exact h

theorem State.failCapture_same {u : State} (c : Capture) (reason : Nat) (h : Part.Same s u q) :
    Part.Same s (u.failCapture c reason) q := by
  unfold State.failCapture
  split
  · exact h
  · exact State.sealOn_same hcap hchan _ _ (State.beginFailure_same hcap hchan _ _ h)

theorem State.failCaptures_same {u : State} (cs : List Capture) (reason : Nat) (h : Part.Same s u q) :
    Part.Same s (cs.foldl (fun s c => s.failCapture c reason) u) q :=
  foldl_same (fun _ c hu => State.failCapture_same hcap hchan c reason hu) cs h

theorem State.loseMember_same {u : State} (d : Fin 16) (n : Fin 32) (h : Part.Same s u q) : Part.Same s (u.loseMember d n) q := by
  have hns (m : StoreMode) (f : StoreNamespace → StoreNamespace) : Part.Same s ((u.setNs n f).setNsMode n m) q :=
    State.setNsMode_same hcap n m (State.setNs_same hcap n f h)
  unfold State.loseMember
  extract_lets x
  split
  · exact h
  split
  · exact h
  extract_lets failed lost failedNs keys dropped closed
  exact ite_same (hns .degraded _)
    (State.failCaptures_same hcap hchan _ 2 (State.setCap_same _ hcap (State.dropKeys_same hcap keys (hns .failed _))))

/-- The identification of the drives also draws a free value. -/
theorem State.identifyDrives_same {u : State} (hfresh : q ≠ .fresh) (h : Part.Same s u q) : Part.Same s u.identifyDrives q := by
  have hdrawn : Part.Same s { u with fresh := u.fresh + 1 } q := by
    cases q
    case fresh => exact absurd rfl hfresh
    all_goals exact h
  unfold State.identifyDrives
  exact foldl_same (fun _ d hu =>
    foldl_same (fun _ n hv => State.loseMember_same hcap hchan d n hv) _ (State.raise_same _ _ _ _ _ _ hu)) _
    (State.setCap_same _ hcap hdrawn)

end CapAndChannels
end Store
end Sys2Proof.Machine

/-! SUPPORT. Power domains, temperature and supplies (R20, R22, R556, R560, R563, R564, R584): what a domain's arrival leaves of the
power state, and what the events of chapter 21 do. -/
namespace Sys2Proof.Machine

theorem State.completeOrigins_same {s u : State} {q : Part} (xs : List DomainOrigin) (h0 : q ≠ .channels) (h : Part.Same s u q) :
    Part.Same s (u.completeOrigins xs) q :=
  foldl_same (fun u o hu => by
    cases o
    case host c => exact State.complete_same c _ _ _ h0 hu
    all_goals exact hu) xs h

/-- The wake set of a lane group is used up when the group reaches ON; nothing else of the power state changes (R560). -/
theorem State.wakeGroup_pwr (d : Fin 56) (s : State) : ∃ sets, (s.wakeGroup d).pwr = { s.pwr with wakeSets := sets } := by
  unfold State.wakeGroup
  split
  case isTrue hd =>
    refine ⟨s.pwr.wakeSets.set d.val [], ?_⟩
    refine foldl_same (s := { s with pwr := { s.pwr with wakeSets := s.pwr.wakeSets.set d.val [] } }) (q := .pwr) (fun u p hu => ?_) _ rfl
    split
    · exact State.enablePort_same p (by decide) hu
    · exact State.raise_same _ _ _ _ _ _ hu
  case isFalse => exact ⟨_, rfl⟩

/-- What a domain's arrival does leaves the power state, but for the wake sets (R137, R553, R559, R560). -/
theorem State.reachDomain_pwr (d : Fin 56) (m : DomainMode) (s : State) :
    ∃ sets, (s.reachDomain d m).pwr = { s.pwr with wakeSets := sets } := by
  cases m
  case on =>
    unfold State.reachDomain
    simp only
    split
    · exact State.wakeGroup_pwr d s
    refine ⟨s.pwr.wakeSets, ?_⟩
    split
    case isTrue =>
      split
      · exact State.setPlaneMode_same (s := s) (q := .pwr) _ _ (by decide) (State.setPlane_same _ _ (by decide) rfl)
      · rfl
    case isFalse =>
      split
      · split <;> rfl
      · rfl
  case off =>
    refine ⟨s.pwr.wakeSets, ?_⟩
    unfold State.reachDomain
    simp only
    split
    · exact foldl_same (s := s) (q := .pwr) (fun u p hu => State.setPort_same p _ (by decide) hu) _ rfl
    · repeat' split
      all_goals rfl
  case banked => exact ⟨_, rfl⟩

theorem State.reached_pwr (d : Fin 56) (m : DomainMode) (xs : List DomainOrigin) (s : State) :
    ∃ sets, ((s.reachDomain d m).completeOrigins xs).pwr = { s.pwr with wakeSets := sets } := by
  obtain ⟨sets, hsets⟩ := State.reachDomain_pwr d m s
  exact ⟨sets, (State.completeOrigins_same (q := .pwr) xs (by decide) rfl).trans hsets⟩

/-- The power state in which a transition has ended, before what the new state brings (R556). -/
def State.transitionEnded (r : DomainRequest) (s : State) : State :=
  ({ s with pwr := { s.pwr with running := none, lastEnd := s.clock.tick } }).putDomain r.domain r.target

/-- The transition of the domain that changes ends: its state is reached, at the present tick (R556). -/
theorem State.domainDone_pwr {s : State} {r : DomainRequest} (h : s.pwr.running = some r) :
    ∃ sets, (s.domainDone r.domain).pwr = { (s.transitionEnded r).pwr with wakeSets := sets } := by
  unfold State.domainDone
  simp only [h, if_true]
  refine (State.reached_pwr r.domain r.target r.origins _).imp fun sets hsets => hsets.trans ?_
  rw [State.raiseIf_pwr, State.raiseState_pwr]
  rfl

theorem State.domainDone_other {s : State} {r : DomainRequest} {d : Fin 56} (h : s.pwr.running = some r) (hd : d ≠ r.domain) :
    s.domainDone d = s := by
  unfold State.domainDone
  simp only [h, if_neg hd.symm]

/-- The domain of the NVMe drives may identify them when it reaches ON, which leaves the power state and the clock. -/
theorem State.transitionDone_same {s : State} {q : Part} (d : Fin 56) (hcap : q ≠ .cap) (hchan : q ≠ .channels)
    (hfresh : q ≠ .fresh) : Part.Same (s.domainDone d) (s.transitionDone d) q :=
  ite_same (State.identifyDrives_same hcap hchan hfresh (Part.Same.refl _ q)) (Part.Same.refl _ q)

theorem State.transitionDone_other {s : State} {r : DomainRequest} {d : Fin 56} (h : s.pwr.running = some r) (hd : d ≠ r.domain) :
    s.transitionDone d = s := by
  have hon : (d.val = 51 && s.pwr.modes[d] != .on && s.pwr.modes[d] == .on) = false := by
    cases s.pwr.modes[d] <;> simp
  unfold State.transitionDone
  simp only [State.domainDone_other h hd, hon, Bool.false_eq_true, if_false]

/-- What a request for a domain's state adds to those that wait. -/
theorem State.requestDomain_waits {s : State} {d : Fin 56} {target : DomainMode} (o : DomainOrigin) (hr : s.pwr.running = none)
    (hw : s.pwr.waiting = []) (hm : s.pwr.modes[d] ≠ target) :
    s.requestDomain d target o
      = { s with pwr := { s.pwr with waiting := [DomainRequest.mk d target [o] s.clock.tick false false] } } := by
  unfold State.requestDomain
  have hm' : (s.pwr.modes[d] == target) = false := beq_eq_false_iff_ne.2 hm
  simp only [hr, hw, hm', List.filter_nil, List.getLast?_nil, Bool.false_eq_true, if_false, List.nil_append]

/-- A port of the wake set wakes its BANKED lane group (R560). -/
theorem State.farEndWake_banked {s : State} {p : PortNo} {g : Fin 32} (hg : g.val = p.val / 16) (hp : p ∈ s.pwr.wakeSets[g])
    (hb : s.pwr.modes[laneGroup p] = .banked) (hr : s.pwr.running = none) (hw : s.pwr.waiting = []) :
    s.farEndWake p
      = { s with pwr := { s.pwr with waiting := [DomainRequest.mk (laneGroup p) .on [.farEnd p] s.clock.tick false false] } } := by
  have hlane : (laneGroup p).val = g.val := hg.symm
  have hlt : (laneGroup p).val < 32 := hlane ▸ g.isLt
  have hmem : s.pwr.wakeSets[(laneGroup p).val].contains p = true := by simpa [hlane] using hp
  unfold State.farEndWake
  rw [dif_pos hlt, if_pos (by rw [hmem, hb]; rfl)]
  exact State.requestDomain_waits (target := .on) _ hr hw (by rw [hb]; decide)

/-- A transition that has waited more than 10 ms is marked (R563). -/
theorem State.domainWaitEvent_due {s : State} {w : DomainRequest} {rest : List DomainRequest} (h : s.pwr.waiting = w :: rest)
    (hw : w.waited = false) (ht : w.since + 20000 < s.clock.tick) :
    s.domainWaitEvent w.domain
      = State.raise 394 1 .occurrence w.domain.val 0 0
          { s with pwr := { s.pwr with waiting := { w with waited := true } :: rest } } := by
  unfold State.domainWaitEvent
  simp [h, hw, ht, updateFirst]

/-! The lapse of the conditions of R20 (R22, R584). -/

/-- An update of the power state leaves the other parts. -/
theorem Part.Same.withPwr {s u : State} {q : Part} (x : PowerState) (h0 : q ≠ .pwr) (h : Part.Same s u q) :
    Part.Same s { u with pwr := x } q := by
  cases q
  case pwr => exact absurd rfl h0
  all_goals exact h

theorem State.judgeLapse_beside {s u : State} {q : Part} (hp : q ≠ .pwr) (hh : q ≠ .host) (h : Part.Same s u q) :
    Part.Same s u.judgeLapse q := by
  unfold State.judgeLapse
  simp only
  split
  · exact State.raiseIf_same _ _ _ _ _ _ _
      ((State.setHost_beside (fun x => { x with lapseConditions := true }) ⟨rfl, rfl, rfl⟩ hh h).withPwr _ hp)
  · exact h.withPwr _ hp

theorem State.judgeLapse_pwr (s : State) : ∃ since, s.judgeLapse.pwr = { s.pwr with goodSince := since } := by
  unfold State.judgeLapse
  simp only
  split
  · exact ⟨none, by rw [State.raiseIf_pwr]⟩
  · exact ⟨_, rfl⟩

/-- A condition that fails now lapses the conditions. -/
theorem State.judgeLapse_host {s : State} (h : s.lapseNow = true) : s.judgeLapse.host = { s.host with lapseConditions := true } := by
  unfold State.judgeLapse
  rw [if_pos h, State.raiseIf_host]

theorem State.lapseNow_of_supply {s : State} {i : Fin 7} (h : s.pwr.supplyOut[i] = true) : s.lapseNow = true := by
  have hmem : true ∈ s.pwr.supplyOut.toList := by
    rw [← h]
    exact Vector.mem_toList_iff.2 (Vector.getElem_mem i.isLt)
  rw [State.lapseNow, List.any_eq_true.2 ⟨true, hmem, rfl⟩]
  rfl

theorem State.lapseNow_of_hot {s : State} (h : s.pwr.hot = true) : s.lapseNow = true := by
  simp [State.lapseNow, h]

/-! Temperature (R564). -/

/-- Whether a value with hysteresis is above its limit: it is set above `hi`, cleared below `lo`, and else as it was. -/
def overLimit (hi lo v : Int) (old : Bool) : Bool := if hi < v then true else if v < lo then false else old

theorem overLimit_above {hi lo v : Int} (h : hi < v) (old : Bool) : overLimit hi lo v old = true := if_pos h

theorem overLimit_below {hi lo v : Int} (hle : lo ≤ hi) (h : v < lo) (old : Bool) : overLimit hi lo v old = false := by
  rw [overLimit, if_neg (by omega), if_pos h]

/-- The power state with a temperature recorded and judged (R564). -/
def PowerState.heated (x : BitVec 16) (p : PowerState) : PowerState :=
  { p with temperature := x, warm := overLimit (90 * 16) (85 * 16) x.toInt p.warm
           hot := overLimit (95 * 16) (95 * 16) x.toInt p.hot, critical := overLimit (100 * 16) (95 * 16) x.toInt p.critical }

/-- A temperature is recorded, with its events. -/
def State.heated (x : BitVec 16) (s : State) : State :=
  let u := State.raiseFlag s.pwr.warm (s.pwr.heated x).warm 395 1 oneUnit { s with pwr := s.pwr.heated x }
  if s.pwr.critical = (s.pwr.heated x).critical then u
  else if (s.pwr.heated x).critical then u.raiseSev 395 2 .set 14 oneUnit 0 0 else u.raise 395 2 .clear oneUnit 0 0

theorem State.temperature_eq (x : BitVec 16) (s : State) :
    s.temperature x = if (s.heated x).lapseNow || (s.heated x).host.lapseConditions then (s.heated x).judgeLapse else s.heated x := rfl

@[simp] theorem State.heated_pwr (x : BitVec 16) (s : State) : (s.heated x).pwr = s.pwr.heated x := by
  unfold State.heated
  repeat' split
  all_goals simp

theorem State.heated_beside (x : BitVec 16) {s : State} {q : Part} (hp : q ≠ .pwr) : Part.Same s (s.heated x) q := by
  have hflag := State.raiseFlag_same s.pwr.warm (s.pwr.heated x).warm 395 1 oneUnit ((Part.Same.refl s q).withPwr (s.pwr.heated x) hp)
  unfold State.heated
  simp only
  split
  · exact hflag
  · split
    · exact State.raiseSev_same _ _ _ _ _ _ _ hflag
    · exact State.raise_same _ _ _ _ _ _ hflag

theorem State.temperature_pwr (x : BitVec 16) (s : State) :
    ∃ since, (s.temperature x).pwr = { s.pwr.heated x with goodSince := since } := by
  rw [State.temperature_eq, ← State.heated_pwr]
  split
  · exact State.judgeLapse_pwr _
  · exact ⟨_, rfl⟩

theorem State.temperature_beside (x : BitVec 16) {s : State} {q : Part} (hp : q ≠ .pwr) (hh : q ≠ .host) :
    Part.Same s (s.temperature x) q := by
  rw [State.temperature_eq]
  split
  · exact State.judgeLapse_beside hp hh (State.heated_beside x hp)
  · exact State.heated_beside x hp

/-- Above 95 °C the conditions lapse. -/
theorem State.temperature_lapses {x : BitVec 16} (h : 95 * 16 < x.toInt) (s : State) : (s.temperature x).host.lapseConditions = true := by
  have hnow : (s.heated x).lapseNow = true := State.lapseNow_of_hot (by rw [State.heated_pwr]; exact overLimit_above h _)
  rw [State.temperature_eq, hnow, Bool.true_or, if_pos rfl, State.judgeLapse_host hnow]

/-- The conditions hold again (R584). -/
theorem State.conditionsRestored_eq {s : State} (hl : s.host.lapseConditions = true) (hh : s.pwr.hot = false)
    (hp : s.rst.pwrFailLow = false) :
    s.conditionsRestored = State.raiseIf (!s.host.lapseTiming && !s.host.lapseFaults) 309 2 .clear oneUnit 0 0
      { s with pwr := { s.pwr with supplyOut := Vector.replicate 7 false, goodSince := none }
               host := { s.host with lapseConditions := false } } := by
  rw [State.conditionsRestored, if_pos (by simp [hl, hh, hp])]

/-! What the rows leave of the other parts. -/

theorem exec_domainTransitionDone {s : State} {r : DomainRequest} (h : s.pwr.running = some r) :
    ∃ t, exec (.domainTransitionDone r.domain) s = .next t ∧ t.pwr.running = none ∧ t.pwr.modes[r.domain] = r.target
      ∧ t.pwr.lastEnd = s.clock.tick ∧ t.clock = s.clock := by
  obtain ⟨sets, hpwr⟩ := State.domainDone_pwr h
  have hdone : (s.transitionDone r.domain).pwr = (s.domainDone r.domain).pwr :=
    State.transitionDone_same (q := .pwr) r.domain (by decide) (by decide) (by decide)
  have ht : (s.settledFabric (s.transitionDone r.domain)).pwr = { (s.transitionEnded r).pwr with wakeSets := sets } :=
    ((State.settledFabric_pwr _ _).trans hdone).trans hpwr
  refine ⟨_, rfl, ?_, ?_, ?_, State.settledFabric_clock _ _⟩ <;> rw [ht]
  · rfl
  · exact Vector.getElem_set_self r.domain.isLt
  · rfl

theorem exec_domainTransitionDone_other {s : State} {r : DomainRequest} {d : Fin 56} (h : s.pwr.running = some r) (hd : d ≠ r.domain) :
    ∃ t, exec (.domainTransitionDone d) s = .next t ∧ s.ChangesOnly t [] := by
  refine ⟨_, rfl, ?_⟩
  rw [State.transitionDone_other h hd]
  exact State.settledFabric_changesOnly (fun q _ _ _ => Part.Same.refl s q) fun _ hw => ⟨hw, fun _ _ => rfl⟩

/-- A step whose effects leave every part but the power state changes only the power state. -/
theorem State.settled_changesPwr {s u : State} (h : ∀ q, q ≠ .pwr → Part.Same s u q) : s.ChangesOnly (s.settled u) [.pwr] :=
  State.settled_changesOnly fun q hq _ _ => h q (List.ne_of_not_mem_cons hq)

/-- A step whose effects leave every part but the power state and the host port. -/
theorem State.settled_changesPwrHost {s u : State} (h : ∀ q, q ≠ .pwr → q ≠ .host → Part.Same s u q) :
    s.ChangesOnly (s.settled u) [.pwr, .host] :=
  State.settled_changesOnly fun q hq _ _ => h q (List.ne_of_not_mem_cons hq) (List.ne_of_not_mem_cons (List.not_mem_of_not_mem_cons hq))

theorem exec_supplyOutOfRange (s : State) (i : Fin 7) : ∃ t, exec (.supplyOutOfRange i) s = .next t ∧ s.ChangesOnly t [.pwr, .host]
    ∧ t.host.lapseConditions = true ∧ t.pwr.supplyOut = s.pwr.supplyOut.set i true ∧ t.pwr.modes = s.pwr.modes
    ∧ t.host.sems = s.host.sems := by
  have hnow : State.lapseNow { s with pwr := { s.pwr with supplyOut := s.pwr.supplyOut.set i true } } = true :=
    State.lapseNow_of_supply (i := i) (Vector.getElem_set_self i.isLt)
  obtain ⟨since, hpwr⟩ := State.judgeLapse_pwr { s with pwr := { s.pwr with supplyOut := s.pwr.supplyOut.set i true } }
  have hhost : (s.supplyOut i).host = { s.host with lapseConditions := true } := State.judgeLapse_host hnow
  refine ⟨_, rfl, State.settled_changesPwrHost fun q hp hh => ?_, ?_, ?_, ?_, ?_⟩
  · exact State.judgeLapse_beside hp hh ((Part.Same.refl s q).withPwr _ hp)
  · rw [State.settled_host_lapseConditions, hhost]
  · exact (congrArg PowerState.supplyOut (State.settled_pwr _ _)).trans (congrArg PowerState.supplyOut hpwr)
  · exact (congrArg PowerState.modes (State.settled_pwr _ _)).trans ((congrArg PowerState.modes hpwr).trans rfl)
  · rw [State.settled_host_sems, hhost]

theorem exec_conditionsRestored {s : State} (hl : s.host.lapseConditions = true) (hh : s.pwr.hot = false)
    (hp : s.rst.pwrFailLow = false) : ∃ t, exec .conditionsRestored s = .next t ∧ s.ChangesOnly t [.pwr, .host]
      ∧ t.host.lapseConditions = false ∧ t.pwr.supplyOut = Vector.replicate 7 false := by
  refine ⟨_, rfl, State.settled_changesPwrHost fun q hqp hqh => ?_, ?_, ?_⟩
  all_goals rw [State.conditionsRestored_eq hl hh hp]
  · exact State.raiseIf_same _ _ _ _ _ _ _
      ((State.setHost_beside (fun x => { x with lapseConditions := false }) ⟨rfl, rfl, rfl⟩ hqh (Part.Same.refl s q)).withPwr _ hqp)
  · rw [State.settled_host_lapseConditions, State.raiseIf_host]
  · rw [State.settled_pwr, State.raiseIf_pwr]

/-- Settles O11: each row's operation, by what it leaves of the power state and of the host port. -/
theorem powerDomainsTemperatureAndSupplies : Obligations.PowerDomainsTemperatureAndSupplies := by
  intro s
  refine ⟨fun r => exec_domainTransitionDone, fun r d => exec_domainTransitionDone_other, fun p g hg hp hb hr hw => ?_,
    fun w rest h hw ht => ?_, exec_supplyOutOfRange s, fun x => ?_, exec_conditionsRestored⟩
  · have heq := State.farEndWake_banked hg hp hb hr hw
    refine ⟨_, rfl, State.settled_changesPwr fun q hq => ?_, ?_, ?_⟩
    · exact heq ▸ (Part.Same.refl s q).withPwr _ hq
    · rw [State.settled_pwr, heq]
    · rw [State.settled_pwr, heq]
  · have heq := State.domainWaitEvent_due h hw ht
    refine ⟨_, rfl, State.settled_changesPwr fun q hq => ?_, ?_⟩
    · exact heq ▸ State.raise_same _ _ _ _ _ _ ((Part.Same.refl s q).withPwr _ hq)
    · rw [State.settled_pwr, heq, State.raise_pwr]
  · obtain ⟨since, hpwr⟩ := State.temperature_pwr x s
    have ht : (s.settled (s.temperature x)).pwr = { s.pwr.heated x with goodSince := since } := (State.settled_pwr _ _).trans hpwr
    refine ⟨_, rfl, State.settled_changesPwrHost fun q hp hh => State.temperature_beside x hp hh, ?_⟩
    rw [ht, State.settled_host_lapseConditions]
    exact ⟨rfl, fun h => overLimit_above h _, fun h => overLimit_below (by decide) h _,
      fun h => ⟨overLimit_above h _, State.temperature_lapses h s⟩, fun h => overLimit_below (by decide) h _,
      fun h => overLimit_above h _, fun h => overLimit_below (by decide) h _⟩

end Sys2Proof.Machine

/-! SUPPORT. What the operations of a start and of a warm reset leave of the parts that they are not about (R418, R443, R486, R526). -/
namespace Sys2Proof.Machine

/-! The event log (R481 to R488): pages change the recorder, committed clears their channels. -/

section Log
variable {s : State} {q : Part} (hev : q ≠ .recorder) (hchan : q ≠ .channels)

section RecorderOnly
include hev

theorem State.reportDiscards_same {u : State} (h : Part.Same s u q) : Part.Same s u.reportDiscards q := by
  unfold State.reportDiscards
  exact ite_same (State.raise_same _ _ _ _ _ _ (State.setEv_same _ hev h)) h

theorem State.commitRetention_same {u : State} (copyOk : Bool) (h : Part.Same s u q) : Part.Same s (u.commitRetention copyOk) q := by
  unfold State.commitRetention
  split
  · exact h
  · exact ite_same (State.raise_same _ _ _ _ _ _ h) (State.raise_same _ _ _ _ _ _ (State.setEv_same _ hev h))

include hchan

theorem State.commitClears_same {u : State} (rs : List EventRecord) (h : Part.Same s u q) : Part.Same s (u.commitClears rs) q := by
  unfold State.commitClears
  exact foldl_same (fun _ x hu => State.commit_same x.1 hchan hu) _ (State.setEv_same _ hev h)

theorem State.flushPage_same {u : State} (h : Part.Same s u q) : Part.Same s u.flushPage q := by
  unfold State.flushPage
  refine ite_same h (ite_same (ite_same h (State.raise_same _ _ _ _ _ _ (State.setEv_same _ hev h))) ?_)
  exact State.commitClears_same hev hchan _ (State.reportDiscards_same hev
    (State.raiseIf_same _ _ _ _ _ _ _ (State.setEv_same _ hev h)))

theorem State.flushAll_same {u : State} (n : Nat) (h : Part.Same s u q) : Part.Same s (u.flushAll n) q := by
  induction n generalizing u with
  | zero => exact h
  | succ n ih => exact ite_same h (ih (State.flushPage_same hev hchan h))

theorem State.startLog_same {u : State} (b : BootFindings) (verifies : Bool) (h : Part.Same s u q) :
    Part.Same s (u.startLog b verifies) q := by
  have hstands (f g : EventState → EventState) : Part.Same s ((u.setEv f).setEv g) q :=
    State.setEv_same _ hev (State.setEv_same _ hev h)
  unfold State.startLog
  extract_lets next standing failed ready emptied
  refine ite_same (State.flushAll_same hev hchan 512 (hstands _ _)) (ite_same (State.commitRetention_same hev _ ?_) ?_)
  · exact State.setEv_same _ hev (hstands _ _)
  · exact State.setEv_same _ hev (hstands _ _)

end RecorderOnly
end Log

theorem State.startRtc_same {s u : State} {q : Part} (b : BootFindings) (h0 : q ≠ .rtc) (h : Part.Same s u q) :
    Part.Same s (u.startRtc b) q :=
  State.raiseIf_same _ _ _ _ _ _ _ (State.raiseIf_same _ _ _ _ _ _ _ (State.setRtc_same _ h0 h))

/-! The eFlash queue (R516 to R519). -/

section Flash
variable {s : State} {q : Part} (hflash : q ≠ .flash)
include hflash

theorem State.retire_same {u : State} (sector : Nat) (h : Part.Same s u q) : Part.Same s (u.retire sector) q :=
  State.raiseIf_same _ _ _ _ _ _ _ (State.raise_same _ _ _ _ _ _ (State.setFlash_same _ hflash h))

theorem State.issueFlash_same {u : State} (c : FlashCommand) (h : Part.Same s u q) : Part.Same s (u.issueFlash c) q := by
  unfold State.issueFlash
  split
  case h_1 =>
    exact ite_same (State.setFlash_same _ hflash (State.retire_same hflash _ (State.setFlash_same _ hflash h)))
      (State.setFlash_same _ hflash h)
  case h_2 => exact ite_same (State.setFlash_same _ hflash h) (State.raise_same _ _ _ _ _ _ h)

theorem State.pumpFlash_same {u : State} (n : Nat) (h : Part.Same s u q) : Part.Same s (u.pumpFlash n) q := by
  induction n generalizing u with
  | zero => exact h
  | succ n ih =>
    unfold State.pumpFlash
    split
    · exact h
    · exact ite_same h (ih (State.issueFlash_same hflash _ (State.setFlash_same _ hflash h)))

end Flash

/-! Service, pins and power domains (R307, R554, R576). -/

theorem State.updatePins_same {s u : State} {q : Part} (h0 : q ≠ .gpio) (h : Part.Same s u q) : Part.Same s u.updatePins q := by
  refine foldl_same (fun v i hv => ?_) _ h
  exact ite_same hv (State.raiseState_same _ _ _ _ _ (State.setPin_same i _ h0 hv))

theorem State.setService_same {s u : State} {q : Part} (code : BitVec 4) (hhost : q ≠ .host) (hgpio : q ≠ .gpio) (h : Part.Same s u q) :
    Part.Same s (u.setService code) q :=
  ite_same h (State.updatePins_same hgpio
    (State.raise_same _ _ _ _ _ _ (State.setHost_beside (fun x => { x with service := code }) ⟨rfl, rfl, rfl⟩ hhost h)))

theorem Part.Same.service {s u : State} (h : Part.Same s u .host) : u.host.service = s.host.service := by
  have hstill : u.host.still = s.host.still := h
  exact (congrArg HostState.service hstill :)

/-- SERVICE is what it is set to. -/
theorem State.setService_service (code : BitVec 4) (s : State) : (s.setService code).host.service = code := by
  unfold State.setService
  extract_lets old set
  split
  case isTrue h => exact h
  case isFalse =>
    exact Part.Same.service (s := set) (State.updatePins_same (by decide) (State.raise_same _ _ _ _ _ _ (Part.Same.refl set .host)))

theorem State.setDomain_same {s u : State} {q : Part} (d : Fin 56) (m : DomainMode) (h0 : q ≠ .pwr) (h : Part.Same s u q) :
    Part.Same s (u.setDomain d m) q :=
  State.raiseState_same _ _ _ _ _ (State.putDomain_same d m h0 h)

/-! The operations of a start beside the log, the eFlash and the pins leave the reset state (R452, R514, R526 to R528, R539). -/

section Reset
variable {s u : State} (h : Part.Same s u .rst)
include h

theorem State.startSecurity_rst (b : BootFindings) (bundle : ImageInfo) : Part.Same s (u.startSecurity b bundle) .rst := by
  unfold State.startSecurity
  extract_lets at_ fw old keyed unowned keys told library libraried
  have hkeys : Part.Same s keys .rst := ite_same h (State.raise_same _ _ _ _ _ _ h)
  exact State.raiseIf_same _ _ _ _ _ _ _ (State.raise_same _ _ _ _ _ _ hkeys)

theorem State.applyMarks_rst : Part.Same s u.applyMarks .rst := h

theorem State.writeRepairs_rst (origin : Nat) (entries : List BistResult) (now : Bool) :
    Part.Same s (u.writeRepairs origin entries now) .rst := by
  unfold State.writeRepairs
  extract_lets final repaired failing stored banks spared one told done
  have htold : Part.Same s (final.foldl one spared) .rst := by
    refine foldl_same (fun v e hv => ?_) _ h
    unfold one
    split
    · exact State.raise_same _ _ _ _ _ _ (State.raise_same _ _ _ _ _ _ hv)
    · exact State.raise_same _ _ _ _ _ _ (State.raise_same _ _ _ _ _ _ hv)
    · exact hv
  have hdone : Part.Same s done .rst := State.raiseIf_same _ _ _ _ _ _ _ (State.raise_same _ _ _ _ _ _ htold)
  exact ite_same (State.applyMarks_rst hdone) hdone

theorem State.startTest_rst (b : BootFindings) : Part.Same s (u.startTest b) .rst := by
  unfold State.startTest
  extract_lets marked blank entry banks ways cores found told named repaired spareBad first
  have hnamed : Part.Same s named .rst :=
    foldl_same (fun v w hv => State.raise_same _ _ _ _ _ _ hv) _ (State.raiseIf_same _ _ _ _ _ _ _ h)
  have hrepaired : Part.Same s repaired .rst := ite_same hnamed (State.writeRepairs_rst hnamed 5 found true)
  exact hrepaired

theorem State.buildRecovery_rst (verifies snapshotValid : Bool) : Part.Same s (u.buildRecovery verifies snapshotValid) .rst := by
  unfold State.buildRecovery
  extract_lets loss log clear of entries
  have hlog (source : BitVec 8) (xs : List RecoveryEntry) (v : State) (hv : Part.Same s v .rst) : Part.Same s (log source xs v) .rst :=
    State.raise_same _ _ _ _ _ _ hv
  split
  · exact hlog _ _ _ h
  split
  · exact ite_same (hlog _ _ _ h) (hlog _ _ _ h)
  · exact ite_same h (hlog _ _ _ h)

theorem State.releaseCores_rst (image : ImageInfo) : Part.Same s (u.releaseCores image) .rst := by
  unfold State.releaseCores
  extract_lets now one released
  have hreleased : Part.Same s released .rst := by
    refine foldl_same (fun v i hv => ?_) _ h
    exact ite_same hv (State.setCore_same i _ (by decide) (State.setDomain_same _ _ (by decide) hv))
  exact hreleased

theorem State.startBist_rst (origin : Nat) (slices : List (Nat × Nat)) (c : Option CommandRef) :
    Part.Same s (u.startBist origin slices c) .rst :=
  State.raise_same _ _ _ _ _ _ h

end Reset

/-! A start: it enters the time of the release, and a retired device ends it in HALTED (R445, R526). -/

theorem State.boot_rst (cause : Nat) (b : BootFindings) (s : State) : (s.boot cause b).rst = { s.rst with released := s.clock.tick } := by
  suffices hboot : Part.Same (s.setRst (fun r => { r with released := s.clock.tick })) (s.boot cause b) .rst from hboot
  unfold State.boot
  extract_lets frame now released read scanned verifies log rtc sec unscanned told queued pumped slots unread rom
  have hrtc : Part.Same released rtc .rst := State.startRtc_same b (by decide) (State.raise_same _ _ _ _ _ _
    (State.startLog_same (by decide) (by decide) b verifies (Part.Same.refl released .rst)))
  have htold : Part.Same released told .rst := State.raiseIf_same _ _ _ _ _ _ _ (s := released) (u := unscanned) hrtc
  have hslots : Part.Same released slots .rst := State.pumpFlash_same (q := .rst) (u := queued) (by decide) 4097 htold
  have hhalt (v : State) (hv : Part.Same released v .rst) : Part.Same released (v.setService 4) .rst :=
    State.setService_same 4 (by decide) (by decide) hv
  refine ite_same (hhalt _ hslots) ?_
  split
  · exact hhalt _ (State.raise_same _ _ _ _ _ _ hslots)
  case h_2 slot image _ =>
    extract_lets booted secure lost unlost domains tested repaired marked journal recovered cores
    have hsecure : Part.Same released secure .rst := State.startSecurity_rst (State.raiseIf_same _ _ _ _ _ _ _ hslots) b image
    have hdomains : Part.Same released domains .rst :=
      foldl_same (fun v d hv => State.setDomain_same d .on (by decide) hv) _ (State.raiseIf_same _ _ _ _ _ _ _ hsecure)
    have htested : Part.Same released tested .rst := State.applyMarks_rst (State.startTest_rst hdomains b)
    have hmarked : Part.Same released marked .rst := State.raiseIf_same _ _ _ _ _ _ _ (State.raiseIf_same _ _ _ _ _ _ _ htested)
    have hrecovered : Part.Same released recovered .rst :=
      State.buildRecovery_rst (State.setBist_same _ (by decide) hmarked) journal b.snapshotValid
    have hcores : Part.Same released cores .rst := State.releaseCores_rst hrecovered image
    exact ite_same (hhalt _ hrecovered) (ite_same (State.startBist_rst hcores 1 fullSlices none) hcores)

/-- A retired device does not leave HALTED (R445). -/
theorem State.boot_retired (cause : Nat) (b : BootFindings) {s : State} (h : s.sec.lifecycle = 2) : (s.boot cause b).host.service = 4 := by
  unfold State.boot
  extract_lets frame now released read scanned verifies log rtc sec unscanned told queued pumped slots unread rom
  have hrtc : Part.Same s rtc .sec := State.startRtc_same b (by decide) (State.raise_same _ _ _ _ _ _
    (State.startLog_same (u := read) (by decide) (by decide) b verifies (Part.Same.refl s .sec)))
  have htold : Part.Same unscanned told .sec := State.raiseIf_same _ _ _ _ _ _ _ (Part.Same.refl unscanned .sec)
  have hslots : Part.Same unscanned slots .sec := State.pumpFlash_same (q := .sec) (u := queued) (by decide) 4097 htold
  have hread : rtc.sec.lifecycle = s.sec.lifecycle := congrArg SecurityState.lifecycle (show rtc.sec = s.sec from hrtc)
  have hlifecycle : slots.sec.lifecycle = rtc.sec.lifecycle :=
    (congrArg SecurityState.lifecycle (show slots.sec = unscanned.sec from hslots)).trans rfl
  rw [if_pos ((hlifecycle.trans hread).trans h)]
  exact State.setService_service 4 slots

end Sys2Proof.Machine

/-! SUPPORT. The reset inputs (R10, R24, R492, R496, R503, R524 to R526): what a cold reset leaves, what the release of an input
starts, and what a warm reset does to the cores. -/
namespace Sys2Proof.Machine

/-! Cold reset: no response waits, so nothing is posted after it. -/

theorem State.settle_of_outbox_nil {s : State} (h : s.host.outbox = []) : s.settle = s := by
  have hstands : { s with host := { s.host with outbox := [] } } = s := by rw [← h]
  rw [State.settle, h, hstands]
  exact ite_self s

theorem State.settledStart_coldReset (held : Bool) (f : ResetState → ResetState) (s : State) :
    s.settledStart ((s.coldReset held).setRst f) = (s.coldReset held).setRst f :=
  State.settle_of_outbox_nil rfl

theorem exec_porNAssert (held : Bool) (s : State) : exec (.porNAssert held) s = .next (s.porAssert held) :=
  congrArg Host.Outcome.next (State.settledStart_coldReset held _ s)

theorem exec_coldRstNAssert (held : Bool) (s : State) : exec (.coldRstNAssert held) s = .next (s.coldAssert held) :=
  congrArg Host.Outcome.next (State.settledStart_coldReset held _ s)

/-- An asserted reset input is a cold reset that enters its own input in the reset state. -/
theorem exec_resetAssert {held : Bool} {i : Instr} (s : State) (hi : i = .porNAssert held ∨ i = .coldRstNAssert held) :
    ∃ f, exec i s = .next ((s.coldReset held).setRst f)
      ∧ (i = .porNAssert held → (f (s.coldReset held).rst).porLow = true ∧ (f (s.coldReset held).rst).coldLow = s.rst.coldLow)
      ∧ (i = .coldRstNAssert held →
          (f (s.coldReset held).rst).coldLow = true ∧ (f (s.coldReset held).rst).porLow = s.rst.porLow) := by
  obtain rfl | rfl := hi
  · exact ⟨_, exec_porNAssert held s, fun _ => ⟨rfl, rfl⟩, fun h => nomatch h⟩
  · exact ⟨_, exec_coldRstNAssert held s, fun h => (nomatch h), fun _ => ⟨rfl, rfl⟩⟩

/-- With no image staged the slots stand. -/
theorem ManagementState.reverted_of_not_staged {m : ManagementState} (h : m.staged = 0) : m.reverted = m.slots := if_pos h

/-- With no clear under way the buffer stands. -/
theorem EventState.reverted_buffer {e : EventState} (h : e.clears = []) : e.reverted.buffer = e.buffer := by
  simp [EventState.reverted, h]

theorem State.coldReset_window (held : Bool) (s : State) (c : Fin 8) :
    ((s.coldReset held).chan c).window = if held && (s.rst.kept || !(s.rst.porLow || s.rst.coldLow)) then (s.chan c).window else [] := by
  simp [State.coldReset, State.chan]

/-- Without held supplies the journal, the records not flushed and the token windows are gone. -/
theorem State.coldReset_lost (s : State) :
    (s.coldReset false).host.journal = [] ∧ (s.coldReset false).ev.buffer = []
      ∧ ∀ c : Fin 8, ((s.coldReset false).chan c).window = [] :=
  ⟨rfl, rfl, State.coldReset_window false s⟩

/-- With held supplies the first reset keeps them. -/
theorem State.coldReset_kept {s : State} (hp : s.rst.porLow = false) (hc : s.rst.coldLow = false) :
    (s.coldReset true).host.journal = s.host.journal ∧ (s.ev.clears = [] → (s.coldReset true).ev.buffer = s.ev.buffer)
      ∧ ∀ c : Fin 8, ((s.coldReset true).chan c).window = (s.chan c).window := by
  have hkept : (true && (s.rst.kept || !(s.rst.porLow || s.rst.coldLow))) = true := by simp [hp, hc]
  refine ⟨if_pos hkept, fun h => (if_pos hkept).trans (EventState.reverted_buffer h), fun c => ?_⟩
  rw [State.coldReset_window, if_pos hkept]

/-! Releases. -/

/-- A start that does nothing leaves the state. -/
theorem State.settledBoot_self (s : State) : s.ChangesOnly (s.settledBoot s) [] :=
  State.settledFabric_changesOnly (fun q _ _ _ => Part.Same.refl s q) fun _ hw => ⟨hw, fun _ _ => rfl⟩

theorem exec_porNRelease_high {s : State} (x : Straps) (b : BootFindings) (h : s.rst.porLow = false) :
    exec (.porNRelease x b) s = .next (s.settledBoot s) := by
  change execPorNRelease x b s = _
  simp [execPorNRelease, State.porRelease, h]

theorem exec_porNRelease_held {s : State} (x : Straps) (b : BootFindings) (hp : s.rst.porLow = true) (hc : s.rst.coldLow = true) :
    exec (.porNRelease x b) s = .next (s.settledBoot (s.setRst (fun r => { r with porLow := false, straps := x }))) := by
  change execPorNRelease x b s = _
  simp [execPorNRelease, State.porRelease, hp, hc]

theorem exec_porNRelease_starts {s : State} (x : Straps) (b : BootFindings) (hp : s.rst.porLow = true) (hc : s.rst.coldLow = false) :
    exec (.porNRelease x b) s
      = .next (s.loadFrame.settledBoot ((s.loadFrame.setRst (fun r => { r with porLow := false, straps := x })).boot 1 b)) := by
  change execPorNRelease x b s = _
  simp [execPorNRelease, State.porRelease, State.loadFrame, hp, hc]

theorem exec_coldRstNRelease_high {s : State} (b : BootFindings) (h : s.rst.coldLow = false) :
    exec (.coldRstNRelease b) s = .next (s.settledBoot s) := by
  change execColdRstNRelease b s = _
  simp [execColdRstNRelease, State.coldRelease, h]

theorem exec_coldRstNRelease_starts {s : State} (b : BootFindings) (hc : s.rst.coldLow = true) (hp : s.rst.porLow = false) :
    exec (.coldRstNRelease b) s
      = .next (s.loadFrame.settledBoot ((s.loadFrame.setRst (fun r => { r with coldLow := false })).boot 2 b)) := by
  change execColdRstNRelease b s = _
  simp [execColdRstNRelease, State.coldRelease, State.loadFrame, hp, hc]

/-! Warm reset. -/

@[simp] theorem State.releaseSemHs_mgmt (path : Nat) (abandon : Bool) (s : State) : (s.releaseSemHs path abandon).mgmt = s.mgmt := by
  simp [State.releaseSemHs]

@[simp] theorem State.releaseSemMs_mgmt (core : Nat) (abandon : Bool) (s : State) : (s.releaseSemMs core abandon).mgmt = s.mgmt := by
  simp [State.releaseSemMs]

/-- What a warm reset relies on of the management state: the gap, the owner and the states of the cores. -/
structure CoresSame (s u : State) : Prop where
  gap : u.mgmt.serviceGap = s.mgmt.serviceGap
  owner : u.mgmt.owner = s.mgmt.owner
  cores : u.mgmt.cores = s.mgmt.cores

theorem CoresSame.of_mgmt {s u : State} (h : u.mgmt = s.mgmt) : CoresSame s u := by
  refine ⟨?_, ?_, ?_⟩ <;> rw [h]

theorem CoresSame.trans {s u v : State} (h : CoresSame s u) (k : CoresSame u v) : CoresSame s v :=
  ⟨k.gap.trans h.gap, k.owner.trans h.owner, k.cores.trans h.cores⟩

theorem releaseSemMs_coresSame (xs : List Nat) {s u : State} (h : CoresSame s u) :
    CoresSame s (xs.foldl (fun s core => s.releaseSemMs core true) u) := by
  induction xs generalizing u with
  | nil => exact h
  | cons x xs ih => exact ih (h.trans (.of_mgmt (State.releaseSemMs_mgmt x true u)))

/-- A core that fails or is reset loses its cache lines only (R441). -/
theorem loseCores_coresSame (xs : List (Fin 4)) {s u : State} (h : CoresSame s u) :
    CoresSame s (xs.foldl (fun s core => s.loseCore core) u) := by
  induction xs generalizing u with
  | nil => exact h
  | cons x xs ih => exact ih (h.trans ⟨rfl, rfl, rfl⟩)

theorem State.runJob_mgmt (j : MapJob) (s : State) : (s.runJob j).mgmt = s.mgmt :=
  State.startJob_same (q := .mgmt) (s := s) _ _ (by decide) rfl

/-- A core that is not OFF or in FAULT enters BOOTING (R418, R443). -/
def State.rebootAt (now : Nat) (s : State) (i : Fin 2) : State :=
  match (s.core i).mode with
  | .off | .fault => s
  | _ => (s.setCoreMode i .booting).setCore i (fun x => { x with marked := now, beatLost := Vector.replicate 2 false })

/-- The state that a reboot leaves a core in. -/
def CoreMode.rebooted (m : CoreMode) : CoreMode := match m with | .off => .off | .fault => .fault | _ => .booting

theorem CoreMode.rebooted_runs {m : CoreMode} (hoff : m ≠ .off) (hfault : m ≠ .fault) : m.rebooted = .booting := by
  cases m
  case off => exact absurd rfl hoff
  case fault => exact absurd rfl hfault
  all_goals rfl

@[simp] theorem State.setCoreMode_core (i j : Fin 2) (m : CoreMode) (s : State) :
    (s.setCoreMode i m).core j = if j = i then { s.core i with mode := m } else s.core j := by
  have hmgmt : (s.setCoreMode i m).mgmt = (s.setCore i (fun c => { c with mode := m })).mgmt := State.raiseState_mgmt _ _ _ _ _ _
  rw [State.core, hmgmt]
  exact State.setCore_core i j _ s

theorem State.rebootAt_core (now : Nat) (i j : Fin 2) (s : State) :
    ((s.rebootAt now i).core j).mode = if j = i then (s.core i).mode.rebooted else (s.core j).mode := by
  unfold State.rebootAt
  split
  case h_1 h => split <;> simp_all [CoreMode.rebooted]
  case h_2 h => split <;> simp_all [CoreMode.rebooted]
  case h_3 h h' => split <;> simp_all [CoreMode.rebooted]

theorem State.rebootAt_gap (now : Nat) (i : Fin 2) (s : State) :
    (s.rebootAt now i).mgmt.serviceGap = s.mgmt.serviceGap ∧ (s.rebootAt now i).mgmt.owner = s.mgmt.owner := by
  unfold State.rebootAt
  split
  · exact ⟨rfl, rfl⟩
  · exact ⟨rfl, rfl⟩
  · simp [State.setCoreMode]

/-- The cores of a warm reset enter BOOTING. -/
theorem rebootCores_core (now : Nat) (s : State) (j : Fin 2) :
    (((List.finRange 2).foldl (State.rebootAt now) s).core j).mode = (s.core j).mode.rebooted := by
  change (((s.rebootAt now 0).rebootAt now 1).core j).mode = _
  simp only [State.rebootAt_core]
  match j with
  | 0 => rfl
  | 1 => rfl

theorem rebootCores_gap (now : Nat) (s : State) :
    ((List.finRange 2).foldl (State.rebootAt now) s).mgmt.serviceGap = s.mgmt.serviceGap := by
  change ((s.rebootAt now 0).rebootAt now 1).mgmt.serviceGap = _
  rw [(State.rebootAt_gap now 1 _).1, (State.rebootAt_gap now 0 s).1]

/-- After a warm reset service is in a gap without an owner, and the cores boot. -/
structure WarmReset (s u : State) : Prop where
  gap : u.mgmt.serviceGap = true
  owner : u.mgmt.owner = none
  cores : ∀ j : Fin 2, (u.core j).mode = (s.core j).mode.rebooted

theorem WarmReset.of_mgmt {s u v : State} (h : WarmReset s u) (hv : v.mgmt = u.mgmt) : WarmReset s v := by
  refine ⟨by rw [hv, h.gap], by rw [hv, h.owner], fun j => ?_⟩
  rw [State.core, hv]
  exact h.cores j

theorem State.changeOwner_mgmt (new : Option (Fin 2)) (cause : OwnerCause) (granted : Bool) (s : State) :
    (s.changeOwner new cause granted).mgmt
      = { s.mgmt with owner := new, lastOwner := new.getD s.mgmt.lastOwner, transfers := s.mgmt.transfers + 1, lastCause := cause } :=
  State.raise_mgmt _ _ _ _ _ _ _

/-- The owner gives up its office, if there is one. -/
theorem State.disowned_warm {s u : State} (hgap : u.mgmt.serviceGap = true)
    (hcores : ∀ j : Fin 2, (u.core j).mode = (s.core j).mode.rebooted) :
    WarmReset s (if u.mgmt.owner.isSome = true then u.changeOwner none .warmReset false else u) := by
  split
  case isTrue =>
    have hmgmt := State.changeOwner_mgmt none .warmReset false u
    refine ⟨by rw [hmgmt]; exact hgap, by rw [hmgmt], fun j => ?_⟩
    rw [State.core, hmgmt]
    exact hcores j
  case isFalse h => exact ⟨hgap, by simpa using h, hcores⟩

theorem State.warmReset_warm (c : Option CommandRef) (s : State) : WarmReset s (s.warmReset c) := by
  unfold State.warmReset
  extract_lets now began unheld released uncached boot booted disowned
  have hreleased : CoresSame began uncached :=
    loseCores_coresSame _ (releaseSemMs_coresSame _ (.of_mgmt (State.releaseSemHs_mgmt 3 true began)))
  have hbooted : booted = (List.finRange 2).foldl (State.rebootAt now) uncached := rfl
  have hgap : booted.mgmt.serviceGap = true := by
    rw [hbooted, rebootCores_gap, hreleased.gap]
    rfl
  have hcores (j : Fin 2) : (booted.core j).mode = (s.core j).mode.rebooted := by
    rw [hbooted, rebootCores_core, State.core, hreleased.cores]
    rfl
  have hdisowned : WarmReset s disowned := State.disowned_warm hgap hcores
  split
  · exact hdisowned.of_mgmt (State.runJob_mgmt _ _)
  · exact hdisowned

/-- WARM_RST_N asserted leaves the state but for the records of the recorder, unless it resets (R524, R525). -/
theorem State.warmPin_ignored {s : State} {q : Part} (h : s.host.service = 0 ∨ 3 ≤ s.host.service ∨ s.mgmt.warmReset ≠ none) :
    Part.Same s s.warmPin q := by
  unfold State.warmPin
  split
  case isTrue => exact State.raise_same _ _ _ _ _ _ (Part.Same.refl s q)
  case isFalse hservice =>
    rw [Bool.or_eq_true, decide_eq_true_iff, decide_eq_true_iff, not_or] at hservice
    have hreset : s.mgmt.warmReset.isSome = true :=
      Option.isSome_iff_ne_none.2 ((h.resolve_left hservice.1).resolve_left hservice.2)
    rw [if_pos hreset]
    exact Part.Same.refl s q

theorem State.warmPin_resets {s : State} (h0 : s.host.service ≠ 0) (h3 : s.host.service < 3) (hr : s.mgmt.warmReset = none) :
    s.warmPin = (s.raise 373 3 .occurrence oneUnit 0 0).warmReset none := by
  have hservice : ¬ (s.host.service = 0 || 3 ≤ s.host.service) = true := by
    rw [Bool.or_eq_true, decide_eq_true_iff, decide_eq_true_iff, not_or]
    exact ⟨h0, BitVec.not_le.2 h3⟩
  rw [State.warmPin, if_neg hservice, if_neg (by simp [hr])]

/-- Settles O9: a cold reset field by field, a release by what the start leaves of the reset state, a warm reset by what it
leaves of the cores. -/
theorem resetInputsRestartTheDevice : Obligations.ResetInputsRestartTheDevice := by
  intro s
  refine ⟨fun held i hi => ?_, fun x b h => ?_, fun x b hp hc => ?_, fun x b hp hc => ?_, fun b h => ?_, fun b hc hp => ?_,
    fun h => ?_, fun h0 h3 hr => ?_⟩
  · obtain ⟨f, hexec, hpor, hcold⟩ := exec_resetAssert s hi
    refine ⟨_, hexec, rfl, rfl, rfl, rfl, rfl, rfl, rfl, rfl, rfl, rfl, rfl, rfl, rfl, rfl, rfl, rfl, rfl, rfl, rfl, rfl, rfl,
      ManagementState.reverted_of_not_staged, rfl, ?_, ?_, hpor, hcold⟩
    · rintro rfl
      exact State.coldReset_lost s
    · rintro rfl hp hc
      exact State.coldReset_kept hp hc
  · exact ⟨_, exec_porNRelease_high x b h, State.settledBoot_self s⟩
  · refine ⟨_, exec_porNRelease_held x b hp hc, ?_⟩
    simp
  · refine ⟨_, exec_porNRelease_starts x b hp hc, State.settledBoot_clock _ _, ?_⟩
    rw [State.settledBoot_rst, State.boot_rst, State.settledBoot_host_service]
    exact ⟨rfl, rfl, rfl, fun h => State.boot_retired 1 b h⟩
  · exact ⟨_, exec_coldRstNRelease_high b h, State.settledBoot_self s⟩
  · refine ⟨_, exec_coldRstNRelease_starts b hc hp, State.settledBoot_clock _ _, ?_⟩
    rw [State.settledBoot_rst, State.boot_rst]
    exact ⟨rfl, rfl, rfl⟩
  · exact ⟨_, rfl, State.settled_changesOnly fun _ _ _ _ => State.warmPin_ignored h⟩
  · have hwarm : WarmReset s s.warmPin := by
      rw [State.warmPin_resets h0 h3 hr]
      obtain ⟨hgap, howner, hcores⟩ := State.warmReset_warm none (s.raise 373 3 .occurrence oneUnit 0 0)
      exact ⟨hgap, howner, fun j => by rw [hcores, State.core, State.raise_mgmt]; rfl⟩
    have ht : WarmReset s (s.settled s.warmPin) := hwarm.of_mgmt (State.settled_mgmt _ _)
    refine ⟨_, rfl, State.settled_clock _ _, ht.gap, ht.owner, fun j hoff hfault => ?_⟩
    rw [ht.cores]
    exact CoreMode.rebooted_runs hoff hfault

end Sys2Proof.Machine

/-! SUPPORT. What the operations on one line port do to its record, and that they leave every other port (R71, R83, R91, R461). -/
namespace Sys2Proof.Machine

/-- The indices of two defects are those of two bits. -/
theorem Defect.index_inj {d e : Defect} : d.index = e.index ↔ d = e := by
  cases d <;> cases e <;> decide

theorem Defect.index_lt (d : Defect) : d.index < 8 := by cases d <;> decide

theorem getLsbD_ofNat_two_pow {w i j : Nat} (h : j < w) : (BitVec.ofNat w (2 ^ i)).getLsbD j = decide (i = j) := by
  rw [BitVec.getLsbD_ofNat, decide_eq_true h, Bool.true_and, Nat.testBit_two_pow]

/-- A written defect stands as it was written; every other one stands as before. -/
@[simp] theorem Port.has_putDefect (d e : Defect) (on : Bool) (q : Port) :
    (q.putDefect d on).has e = if e = d then on else q.has e := by
  have hbit : (BitVec.ofNat 8 (2 ^ d.index)).getLsbD e.index = decide (e = d) := by
    rw [getLsbD_ofNat_two_pow e.index_lt]
    exact decide_eq_decide.2 (Defect.index_inj.trans eq_comm)
  cases on
  · simp only [Port.has, Port.putDefect, clearBit, Bool.false_eq_true, if_false, BitVec.getLsbD_and, BitVec.getLsbD_not, hbit, e.index_lt]
    by_cases h : e = d <;> simp [h]
  · simp only [Port.has, Port.putDefect, setBit, if_true, BitVec.getLsbD_or, hbit]
    by_cases h : e = d <;> simp [h]

@[simp] theorem State.setDefect_port (p j : PortNo) (d : Defect) (on : Bool) (s : State) :
    (s.setDefect p d on).port j = if j = p then (s.port p).putDefect d on else s.port j := by
  simp [State.setDefect]

/-- A port in a state that it has just entered. -/
def Port.entering (m : PortMode) (now : Nat) (q : Port) : Port := { q with mode := m, entered := now, trainEvent := false }

@[simp] theorem State.setPortMode_port (p j : PortNo) (m : PortMode) (s : State) :
    (s.setPortMode p m).port j = if j = p then (s.port p).entering m s.clock.tick else s.port j := by
  simp [State.setPortMode, Port.entering]

/-- A port whose aligner has been dropped to HUNT, before its defects are written. -/
def Port.unaligned (q : Port) : Port :=
  { q with aligner := .hunt, confirms := 0, misses := 0, candidates := [], pointer := .fresh, part := none }

@[simp] theorem State.loseAlignment_port (p j : PortNo) (s : State) :
    (s.loseAlignment p).port j
      = if j = p then ((s.port p).unaligned.putDefect .lof true).putDefect .lop false else s.port j := by
  simp only [State.loseAlignment, State.setDefect_port, State.setPort_port]
  split <;> simp [Port.unaligned]

theorem State.loseAlignment_same {s u : State} {q : Part} (p : PortNo) (h0 : q ≠ .ports) (h : Part.Same s u q) :
    Part.Same s (u.loseAlignment p) q :=
  State.setDefect_same p _ _ h0 (State.setDefect_same p _ _ h0 (State.setPort_same p _ h0 h))

/-- A key agreement concerns the link of its own port. -/
theorem State.startAgreement_port (p : PortNo) (plain : Bool) (s : State) :
    ∃ l, ∀ j, (s.startAgreement p plain).port j = if j = p then { s.port p with link := l } else s.port j := by
  simp only [State.startAgreement, State.draw]
  split
  · exact ⟨_, fun j => State.setPort_port p j _ s⟩
  · exact ⟨_, fun j => State.setPort_port p j _ _⟩

end Sys2Proof.Machine

/-! SUPPORT. The receive chain of a line port (R66 to R89): a frame in SYNC changes its own port, the performance counters and the
cascade's record of its seams, and of the port's alignment and indications only what a frame gives. -/
namespace Sys2Proof.Machine

/-- What the aligner and the frames received have given a port (R71 to R74, R82, R85, R94, R170), and whether LOF stands. -/
structure Reception where
  aligner    : AlignerMode
  misses     : Nat
  number     : BitVec 64
  rdiRx      : Bool
  farStopped : Bool
  rxVersion  : BitVec 2
  protRx     : ProtChannel
  lof        : Bool

def Port.reception (q : Port) : Reception :=
  { aligner := q.aligner, misses := q.misses, number := q.number, rdiRx := q.rdiRx, farStopped := q.farStopped
    rxVersion := q.rxVersion, protRx := q.protRx, lof := q.has .lof }

theorem Port.reception_putDefect {d : Defect} (hd : d ≠ .lof) (on : Bool) (q : Port) :
    (q.putDefect d on).reception = q.reception := by
  simp [Port.reception, hd.symm]
  simp [Port.putDefect]

theorem Port.reception_putLof (on : Bool) (q : Port) : (q.putDefect .lof on).reception = { q.reception with lof := on } := by
  simp [Port.reception]
  simp [Port.putDefect]

theorem Port.reception_count (c : PortCounter) (n : Nat) (q : Port) : (q.count c n).reception = q.reception := by
  simp only [Port.reception, Port.has, Port.count]

theorem Port.reception_countIf (b : Bool) (c : PortCounter) (n : Nat) (q : Port) :
    (if b then q.count c n else q).reception = q.reception := by
  cases b
  · rfl
  · exact Port.reception_count c n q

/-- From `s` on, frames have been received on port `p`, which now stands with `x`. -/
structure State.Receives (s : State) (p : PortNo) (x : Reception) (t : State) : Prop where
  parts  : ∀ q, q ∉ [Part.ports, Part.perf, Part.casc] → Part.Same s t q
  others : ∀ j, j ≠ p → t.port j = s.port j
  own    : (t.port p).reception = x

theorem State.Receives.refl (s : State) (p : PortNo) : s.Receives p (s.port p).reception s :=
  ⟨fun q _ => Part.Same.refl s q, fun _ _ => rfl, rfl⟩

section Receives
variable {s u : State} {p : PortNo} {x : Reception} (h : s.Receives p x u)
include h

/-- What leaves the ports alone, and of the other parts what was the same, goes on. -/
theorem State.Receives.beside {v : State} (hports : v.ports = u.ports)
    (hsame : ∀ q, q ∉ [Part.ports, Part.perf, Part.casc] → Part.Same s u q → Part.Same s v q) : s.Receives p x v := by
  have hport (j : PortNo) : v.port j = u.port j := by rw [State.port, hports, State.port]
  exact ⟨fun q hq => hsame q hq (h.parts q hq), fun j hj => (hport j).trans (h.others j hj), (hport p) ▸ h.own⟩

theorem State.Receives.raise (src item : Nat) (a : Action) (p0 p1 p2 : Nat) : s.Receives p x (u.raise src item a p0 p1 p2) :=
  h.beside (State.raise_ports ..) fun _ _ => State.raise_same _ _ _ _ _ _

theorem State.Receives.raiseIf (c : Bool) (src item : Nat) (a : Action) (p0 p1 p2 : Nat) :
    s.Receives p x (u.raiseIf c src item a p0 p1 p2) :=
  h.beside (State.raiseIf_ports ..) fun _ _ => State.raiseIf_same _ _ _ _ _ _ _

theorem State.Receives.raiseFlag (old new : Bool) (src item p0 : Nat) : s.Receives p x (u.raiseFlag old new src item p0) :=
  h.beside (State.raiseFlag_ports ..) fun _ _ => State.raiseFlag_same _ _ _ _ _

theorem State.Receives.raiseState (old new src item p0 : Nat) : s.Receives p x (u.raiseState old new src item p0) :=
  h.beside (State.raiseState_ports ..) fun _ _ => State.raiseState_same _ _ _ _ _

theorem State.Receives.tally (kind inst event amount : Nat) : s.Receives p x (u.tally kind inst event amount) :=
  h.beside rfl fun _ hq => State.tally_same _ _ _ _ (by rintro rfl; exact hq (by decide))

theorem State.Receives.setCasc (f : CascadeState → CascadeState) : s.Receives p x (u.setCasc f) :=
  h.beside rfl fun _ hq => State.setCasc_same f (by rintro rfl; exact hq (by decide))

/-- An update of the port gives it another reception. -/
theorem State.Receives.setPort {f : Port → Port} {y : Reception} (hf : (f (u.port p)).reception = y) :
    s.Receives p y (u.setPort p f) where
  parts q hq := State.setPort_same p f (List.ne_of_not_mem_cons hq) (h.parts q hq)
  others j hj := by rw [State.setPort_port, if_neg hj, h.others j hj]
  own := by rw [State.setPort_port, if_pos rfl, hf]

/-- An update of the port that its reception does not see. -/
theorem State.Receives.keep {f : Port → Port} (hf : ∀ q : Port, (f q).reception = q.reception) : s.Receives p x (u.setPort p f) :=
  h.setPort ((hf _).trans h.own)

theorem State.Receives.setLink (f : LinkState → LinkState) : s.Receives p x (u.setLink p f) :=
  h.keep fun _ => rfl

theorem State.Receives.setDefect {d : Defect} (hd : d ≠ .lof) (on : Bool) : s.Receives p x (u.setDefect p d on) :=
  (h.keep (Port.reception_putDefect hd on)).raiseFlag _ _ _ _ _

theorem State.Receives.setLof (on : Bool) : s.Receives p { x with lof := on } (u.setDefect p .lof on) := by
  refine State.Receives.raiseFlag (h.setPort ?_) ..
  rw [Port.reception_putLof, h.own]

/-! What a frame gives, operation by operation (R69 to R89, R113 to R115, R156, R170). -/

theorem State.Receives.count (c : PortCounter) (n : Nat) : s.Receives p x (u.setPort p (Port.count c n)) :=
  h.keep (Port.reception_count c n)

theorem State.Receives.countFec (cws : List FecOut) : s.Receives p x (u.setPort p (Port.countFec cws)) :=
  h.keep fun q => by simp only [Port.countFec, Port.reception, Port.has, Port.count]

theorem State.Receives.numberFrame (r : Received) : s.Receives p { x with number := r.number } (u.numberFrame p r) := by
  refine State.Receives.raiseIf (h.setPort ?_) ..
  simp only [← h.own, Port.reception, Port.has]

theorem State.Receives.judgeTag (r : Received) : s.Receives p x (u.judgeTag p r) := by
  unfold State.judgeTag
  extract_lets passed failed
  have hpassed : s.Receives p x passed := h.keep fun _ => rfl
  have hfailed : s.Receives p x failed := h.keep fun _ => rfl
  split
  · split
    · exact hpassed.setDefect (by decide) false
    · exact hpassed
  · split
    · exact hfailed.setDefect (by decide) true
    · exact hfailed

theorem State.Receives.judgeCrc (r : Received) : s.Receives p x (u.judgeCrc p r) := by
  unfold State.judgeCrc
  split
  · exact (h.count .crcFailures 1).raise _ _ _ _ _ _
  · exact h

theorem State.Receives.countRei (r : Received) : s.Receives p x (u.countRei p r) := by
  unfold State.countRei
  refine h.keep fun q => ?_
  extract_lets
  split <;> rfl

/-- The indications of a frame that passed its tag check. -/
def Reception.indicated (r : Received) (x : Reception) : Reception :=
  if r.tagOk then
    { x with rdiRx := r.info.indications.getLsbD 7, farStopped := r.info.indications.getLsbD 5
             rxVersion := r.info.versionFormat.extractLsb' 6 2 }
  else x

theorem State.Receives.takeIndications (r : Received) : s.Receives p (x.indicated r) (u.takeIndications p r) := by
  unfold State.takeIndications Reception.indicated
  cases r.tagOk
  case false => exact h
  case true =>
    rw [if_pos rfl]
    refine State.Receives.raiseFlag (State.Receives.raiseFlag (h.setPort ?_) ..) ..
    simp only [← h.own, Port.reception, Port.has]

theorem State.Receives.judgeRole (r : Received) : s.Receives p x (u.judgeRole p r) := by
  unfold State.judgeRole
  extract_lets q matched
  split
  · exact h
  split
  · have hmismatched : s.Receives p x (u.setPort p fun q => { q with roleRun := 0 }) := h.keep fun _ => rfl
    exact hmismatched.setDefect (by decide) true
  have hmatched : s.Receives p x matched := h.keep fun _ => rfl
  split
  · exact hmatched.setDefect (by decide) false
  · exact hmatched

theorem State.Receives.judgeTrace : s.Receives p x (u.judgeTrace p) := by
  unfold State.judgeTrace
  extract_lets q
  split
  · exact h
  · split
    · exact h.setDefect (by decide) _
    · exact h

theorem State.Receives.takeTrace (m : List Byte) : s.Receives p x (u.takeTrace p m) := by
  unfold State.takeTrace
  extract_lets ok noted
  have hnoted : s.Receives p x noted := h.keep fun _ => rfl
  split
  · exact h
  · split
    · exact hnoted.judgeTrace
    · exact hnoted

theorem State.Receives.traceQuarter (r : Received) : s.Receives p x (u.traceQuarter p r) := by
  unfold State.traceQuarter
  extract_lets i seg t parts spoiled done noted
  have hnoted : s.Receives p x noted := h.keep fun _ => rfl
  split
  · exact hnoted.takeTrace _
  · exact hnoted

/-- PROT_CH of a frame that passed its tag check. -/
def Reception.channelled (r : Received) (x : Reception) : Reception :=
  if r.tagOk then { x with protRx := x.protRx.take (collarField r.info 92 8) } else x

/-- What the cascade takes from a frame of a seam link. -/
def CascadeState.hears (p : PortNo) (r : Received) (c : CascadeState) : CascadeState :=
  { c with seams := updateFirst (fun y => y.port == p) (SeamState.take (collarBytes r.info 100 16)) c.seams
           heartbeat := BitVec.ofNat 16 (beNat (collarBytes r.info 102 2)) }

theorem State.Receives.takeChannels (r : Received) : s.Receives p (x.channelled r) (u.takeChannels p r) := by
  unfold State.takeChannels Reception.channelled
  cases r.tagOk
  case false =>
    simp only [Bool.not_false, Bool.false_eq_true, if_false, if_true]
    exact h.setLink _
  case true =>
    simp only [Bool.not_true, Bool.false_eq_true, if_false, if_true]
    have hprot : s.Receives p { x with protRx := x.protRx.take (collarField r.info 92 8) }
        (u.setPort p fun q => { q with protRx := q.protRx.take (collarField r.info 92 8) }) := by
      refine h.setPort ?_
      simp only [← h.own, Port.reception, Port.has]
    have hlink := hprot.setLink (LinkState.assemble (collarBytes r.info 116 8))
    have hheard := hlink.setCasc (CascadeState.hears p r)
    split
    · split
      · exact hheard.raiseState _ _ _ _ _
      · exact hheard
    · exact hlink

theorem State.Receives.takeKid (r : Received) : s.Receives p x (u.takeKid p r) := by
  unfold State.takeKid
  split
  · exact h
  · exact h.setLink _

theorem State.Receives.judgeInvalidSlots (r : Received) : s.Receives p x (u.judgeInvalidSlots p r) := by
  unfold State.judgeInvalidSlots
  split
  · exact h
  split
  · exact h.keep fun _ => rfl
  · exact h.keep fun _ => rfl

theorem State.Receives.slipBy (d : Int) (n : Nat) (frame : BitVec 64) : s.Receives p x (u.slipBy p d n frame) := by
  refine State.Receives.setDefect (d := .uls) (h.keep fun q => ?_) (by decide) true
  simp only [Port.reception, Port.has, Port.count]

theorem State.Receives.storeEnvelope (e : Envelope) (theta : Int) : s.Receives p x (u.storeEnvelope p e theta) := by
  unfold State.storeEnvelope
  extract_lets q off noted judged shifted input n slipped
  have hnoted : s.Receives p x noted := h.keep fun _ => rfl
  have hjudged : s.Receives p x judged := by
    unfold judged
    split
    · exact hnoted.setDefect (by decide) true
    · exact hnoted
  split
  · exact hjudged.keep fun _ => rfl
  split
  · exact hjudged
  split
  · refine State.Receives.keep (hjudged.slipBy _ _ _) fun q => ?_
    rfl
  · exact hjudged.slipBy _ _ _

theorem State.Receives.takeSlots (r : Received) (pleat : Pleat) (v : Nat) (jumped : Bool) (theta : Int) :
    s.Receives p x (u.takeSlots p r pleat v jumped theta) := by
  unfold State.takeSlots
  extract_lets q stream lop late completed rest aux e
  have hcompleted : s.Receives p x completed := by
    unfold completed
    split
    · split
      · exact h.storeEnvelope _ _
      · exact h
    · exact h
  split
  · exact hcompleted.keep fun _ => rfl
  split
  · have hwhole : s.Receives p x (completed.setPort p fun q => { q with part := none }) := hcompleted.keep fun _ => rfl
    exact hwhole.storeEnvelope _ _
  · exact hcompleted.keep fun _ => rfl

theorem State.Receives.takePointer (r : Received) (theta : Int) : s.Receives p x (u.takePointer p r theta) := by
  suffices hbody : ∀ body, body = @State.takePointer → s.Receives p x (body p r theta u) from hbody _ rfl
  intro body hbody
  delta State.takePointer at hbody
  subst hbody
  beta_reduce
  extract_lets +onlyGivenNames q value
  generalize (if q.pointer.known = true then q.pointer else { q.pointer with value := value, known := true }) = start
  extract_lets +onlyGivenNames t0
  split
  next pleat violation jumped t _ =>
  extract_lets +onlyGivenNames v counted
  have hcounted : s.Receives p x counted := by
    refine h.keep fun q => ?_
    extract_lets pointed violated jumps
    have hviolated : violated.reception = q.reception := Port.reception_countIf _ _ _ pointed
    have hjumps : jumps.reception = q.reception := (Port.reception_countIf _ _ _ violated).trans hviolated
    cases pleat
    case normal => exact hjumps
    case increment => exact (Port.reception_count _ _ _).trans hjumps
    case decrement => exact (Port.reception_count _ _ _).trans hjumps
  clear_value counted
  extract_lets gone emptied lost found
  have hemptied : s.Receives p x emptied := by
    unfold emptied
    split
    · refine State.Receives.setDefect (d := .lop) (hcounted.keep fun q => ?_) (by decide) false
      rfl
    · exact hcounted
  clear_value emptied
  have hlost : s.Receives p x lost := by
    unfold lost
    split
    · exact hemptied.setDefect (by decide) true
    · exact hemptied
  clear_value lost
  refine State.Receives.takeSlots ?_ r pleat v jumped theta
  unfold found
  split
  · exact hlost.setDefect (by decide) false
  · exact hlost

/-- What an opened frame gives a port. -/
def Reception.take (r : Received) (x : Reception) : Reception := ({ x with number := r.number }.indicated r).channelled r

theorem State.Receives.takeFrame (theta : Int) (cws : List FecOut) (r : Received) :
    s.Receives p (x.take r) (u.takeFrame p theta cws r) := by
  have hcounted := (h.tally 1 p.val 1 1).countFec cws
  have hjudged := (((hcounted.numberFrame r).judgeTag r).judgeCrc r).countRei r
  have hchannels := (((hjudged.takeIndications r).judgeRole r).traceQuarter r).takeChannels r
  exact ((hchannels.takeKid r).judgeInvalidSlots r).takePointer r theta

theorem State.Receives.receiveFrame (f : LineFrame) :
    s.Receives p (x.take ((u.port p).openCodewords (decodeLine f.bits))) (u.receiveFrame p f) :=
  h.takeFrame f.theta _ _

end Receives

end Sys2Proof.Machine

/-! SUPPORT. The aligner of a line port (R71 to R74), and the statement about its line frames. -/
namespace Sys2Proof.Machine

/-- A frame that fails its tag check is numbered one greater than the frame before it; one that passes carries its number (R74). -/
theorem Port.openInfo_cases (q : Port) (bad : Nat) (info : InfoBits) (kid : Fin 2) :
    q.openInfo bad info kid = { number := q.number + 1, tagOk := false, info := info, body := 0, bad := bad }
      ∨ ∃ b, q.openInfo bad info kid = { number := info.frameNumber, tagOk := true, info := info, body := b, bad := bad } := by
  -- the decryption stands for any function, so that it is not evaluated
  obtain ⟨opens, hopens⟩ : ∃ f, f = @gcmOpen := ⟨_, rfl⟩
  unfold Port.openInfo
  rw [← hopens]
  split
  · exact .inl rfl
  · split
    · exact .inl rfl
    · exact .inr ⟨_, rfl⟩

theorem Port.openCodewords_failed {q : Port} {cws : List FecOut} (h : (q.openCodewords cws).tagOk = false) :
    (q.openCodewords cws).number = q.number + 1 := by
  unfold Port.openCodewords Port.openDescrambled at h ⊢
  rcases Port.openInfo_cases q _ _ _ with hfailed | ⟨b, hpassed⟩
  · rw [hfailed]
  · rw [hpassed] at h
    cases h

/-- Of the alignment a frame gives the number alone. -/
theorem Reception.take_alignment (r : Received) (x : Reception) :
    (x.take r).aligner = x.aligner ∧ (x.take r).misses = x.misses ∧ (x.take r).lof = x.lof ∧ (x.take r).number = r.number := by
  unfold Reception.take Reception.indicated Reception.channelled
  cases r.tagOk <;> exact ⟨rfl, rfl, rfl, rfl⟩

/-- A frame that passed its tag check gives its indications and its PROT_CH. -/
theorem Reception.take_passed {r : Received} (h : r.tagOk = true) (x : Reception) :
    (x.take r).rdiRx = r.info.indications.getLsbD 7 ∧ (x.take r).farStopped = r.info.indications.getLsbD 5
      ∧ (x.take r).rxVersion = r.info.versionFormat.extractLsb' 6 2
      ∧ (x.take r).protRx = x.protRx.take (collarField r.info 92 8) := by
  simp [Reception.take, Reception.indicated, Reception.channelled, h]

/-- A frame that failed it gives none of them. -/
theorem Reception.take_failed {r : Received} (h : r.tagOk = false) (x : Reception) :
    (x.take r).rdiRx = x.rdiRx ∧ (x.take r).protRx = x.protRx := by
  simp [Reception.take, Reception.indicated, Reception.channelled, h]

/-! The port that has entered SYNC (R71, R83, R88, R461). -/

/-- The entry into SYNC gives its port alone another alignment, without LOF. -/
theorem State.enterSync_port (p : PortNo) (s : State) :
    ((s.enterSync p).port p).reception = { (s.port p).reception with aligner := .sync, misses := 0, lof := false }
      ∧ ∀ j, j ≠ p → (s.enterSync p).port j = s.port j := by
  unfold State.enterSync
  extract_lets aligned traced l
  have htraced : s.Receives p { (s.port p).reception with aligner := .sync, misses := 0, lof := false } traced := by
    have haligned : s.Receives p { (s.port p).reception with aligner := .sync, misses := 0 } aligned :=
      (State.Receives.refl s p).setPort (by simp only [Port.reception, Port.has])
    exact (haligned.setLof false).keep fun _ => rfl
  split
  · obtain ⟨l', hagreement⟩ := State.startAgreement_port p false traced
    refine ⟨?_, fun j hj => by rw [hagreement, if_neg hj, htraced.others j hj]⟩
    rw [hagreement, if_pos rfl]
    exact htraced.own
  · exact ⟨htraced.own, htraced.others⟩

/-! The aligner's steps, one by one (R71 to R73, log 49). -/

section Aligner
variable {s : State} {p : PortNo} {f : LineFrame}

theorem State.receiveLine_off (h : (s.port p).mode = .down ∨ (s.port p).has .los = true) : s.receiveLine p f = s := by
  rw [State.receiveLine, if_pos (by simpa [Port.receiving] using h)]

/-- Whatever a line frame does, it does to its own port. -/
theorem State.receiveLine_others (s : State) (f : LineFrame) {j : PortNo} (hj : j ≠ p) : (s.receiveLine p f).port j = s.port j := by
  have hset (u : State) (g : Port → Port) : (u.setPort p g).port j = u.port j := by rw [State.setPort_port, if_neg hj]
  have hframe (u : State) : (u.receiveFrame p f).port j = u.port j := ((State.Receives.refl u p).receiveFrame f).others j hj
  unfold State.receiveLine
  extract_lets q confirmed misses
  split
  · rfl
  split
  · split
    · exact hset s _
    · split <;> exact hset s _
  · split
    · rfl
    split
    · split
      · rw [hframe, (State.enterSync_port p confirmed).2 j hj]
        exact hset s _
      · rw [hset]
        exact hset s _
    · exact hset s _
  · split
    · rfl
    split
    · rw [State.loseAlignment_port, if_neg hj]
    · rw [hframe, hset]

variable (hm : (s.port p).mode ≠ .down) (hl : (s.port p).has .los = false)
include hm hl

theorem State.receiveLine_candidate (ha : (s.port p).aligner = .hunt) (hf : fawExact f.bits = true)
    (hc : (s.port p).candidates.contains f.position = false) :
    s.receiveLine p f = s.setPort p (fun q => { q with candidates := f.position :: q.candidates }) := by
  simp [State.receiveLine, Port.receiving, hm, hl, ha, hf, hc, -List.contains_eq_mem]

theorem State.receiveLine_found (ha : (s.port p).aligner = .hunt) (hf : fawExact f.bits = true)
    (hc : (s.port p).candidates.contains f.position = true) :
    s.receiveLine p f = s.setPort p (fun q => { q with
      aligner := .presync, position := f.position, candidates := [], confirms := 0, number := rawNumber f.bits }) := by
  simp [State.receiveLine, Port.receiving, hm, hl, ha, hf, hc, -List.contains_eq_mem]

section Presync
variable (ha : (s.port p).aligner = .presync) (hp : f.position = (s.port p).position)
include ha hp

theorem State.receiveLine_wrong (hw : fawExact f.bits = false ∨ rawNumber f.bits ≠ (s.port p).number + 1) :
    s.receiveLine p f = s.setPort p (fun q => { q with aligner := .hunt, candidates := [], confirms := 0 }) := by
  rcases hw with hw | hw
  · simp [State.receiveLine, Port.receiving, hm, hl, ha, hp, hw]
  · simp [State.receiveLine, Port.receiving, hm, hl, ha, hp]
    exact fun _ hn => absurd hn hw

variable (hf : fawExact f.bits = true) (hn : rawNumber f.bits = (s.port p).number + 1)
include hf hn

theorem State.receiveLine_counted (hc : (s.port p).confirms = 0) :
    s.receiveLine p f = (s.setPort p (fun q => { q with confirms := q.confirms + 1 })).setPort p
      (fun q => { q with number := q.number + 1 }) := by
  simp [State.receiveLine, Port.receiving, hm, hl, ha, hp, hf, hn, hc]

theorem State.receiveLine_confirmed (hc : (s.port p).confirms = 1) :
    s.receiveLine p f = ((s.setPort p (fun q => { q with confirms := q.confirms + 1 })).enterSync p).receiveFrame p f := by
  simp [State.receiveLine, Port.receiving, hm, hl, ha, hp, hf, hn, hc]

end Presync

section Sync
variable (ha : (s.port p).aligner = .sync) (hp : f.position = (s.port p).position)
include ha hp

theorem State.receiveLine_lost (hf : fawHit f.bits = false) (hmiss : (s.port p).misses = 3) :
    s.receiveLine p f = s.loseAlignment p := by
  simp [State.receiveLine, Port.receiving, hm, hl, ha, hp, hf, hmiss]

theorem State.receiveLine_hit (hf : fawHit f.bits = true) :
    s.receiveLine p f = (s.setPort p (fun q => { q with misses := 0 })).receiveFrame p f := by
  simp [State.receiveLine, Port.receiving, hm, hl, ha, hp, hf]

end Sync
end Aligner

/-- A step whose effects leave every part but the ports changes only the ports. -/
theorem State.settled_changesPorts {s u : State} (h : ∀ q, q ≠ .ports → Part.Same s u q) : s.ChangesOnly (s.settled u) [.ports] :=
  State.settled_changesOnly fun q hq _ _ => h q (List.ne_of_not_mem_cons hq)

theorem State.settled_setPort (p : PortNo) (g : Port → Port) (s : State) : s.ChangesOnly (s.settled (s.setPort p g)) [.ports] :=
  State.settled_changesPorts fun q hq => State.setPort_same p g hq (Part.Same.refl s q)

/-- What a frame is opened with does not hang on the frames missed. -/
theorem Port.openCodewords_misses (n : Nat) (q : Port) (cws : List FecOut) :
    ({ q with misses := n } : Port).openCodewords cws = q.openCodewords cws := by
  obtain ⟨opens, hopens⟩ : ∃ f, f = @gcmOpen := ⟨_, rfl⟩
  simp only [Port.openCodewords, Port.openDescrambled, Port.openInfo, Port.peerLane, ← hopens]

/-- A frame that is hit in SYNC is opened by the port as it stands, and gives what it carries. -/
theorem State.receives_hit (s : State) (p : PortNo) (f : LineFrame) :
    s.Receives p (({ (s.port p).reception with misses := 0 } : Reception).take ((s.port p).openCodewords (decodeLine f.bits)))
      ((s.setPort p (fun q => { q with misses := 0 })).receiveFrame p f) := by
  have hhit : s.Receives p { (s.port p).reception with misses := 0 } (s.setPort p (fun q => { q with misses := 0 })) :=
    (State.Receives.refl s p).setPort (by simp only [Port.reception, Port.has])
  have hframe := hhit.receiveFrame f
  rwa [State.setPort_port, if_pos rfl, Port.openCodewords_misses] at hframe

/-- The frame of a port whose reception has changed. -/
theorem State.Receives.settled {s u : State} {p : PortNo} {x : Reception} (h : s.Receives p x u) :
    s.ChangesOnly (s.settled u) [.ports, .perf, .casc] ∧ (((s.settled u).port p).reception = x) :=
  ⟨State.settled_changesOnly fun q hq _ _ => h.parts q hq, by rw [State.settled_port, h.own]⟩

/-- A port in SYNC without LOF stays so, whatever a frame gives it. -/
theorem Port.aligned_of_take {q : Port} {r : Received} {x : Reception} (h : q.reception = x.take r) (ha : x.aligner = .sync)
    (hl : x.lof = false) : q.aligner = .sync ∧ q.has .lof = false := by
  obtain ⟨haligner, -, hlof, -⟩ := Reception.take_alignment r x
  rw [← h] at haligner hlof
  exact ⟨haligner.trans ha, hlof.trans hl⟩

/-- A second right word confirms the alignment. -/
theorem State.confirmed_aligned (p : PortNo) (f : LineFrame) (s : State) :
    (((s.enterSync p).receiveFrame p f).port p).aligner = .sync
      ∧ (((s.enterSync p).receiveFrame p f).port p).has .lof = false := by
  have hentered := (State.enterSync_port p s).1
  exact Port.aligned_of_take ((State.Receives.refl _ p).receiveFrame f).own (congrArg Reception.aligner hentered)
    (congrArg Reception.lof hentered)

/-- What an opened frame leaves of a port that stood with `x`, in the terms of the statement. -/
theorem Port.opened_of_take {q : Port} {r : Received} {x : Reception} (h : q.reception = x.take r)
    (hfailed : r.tagOk = false → r.number = x.number + 1) :
    q.aligner = x.aligner ∧ q.misses = x.misses ∧ q.number = r.number
      ∧ (r.tagOk = false → q.number = x.number + 1 ∧ q.rdiRx = x.rdiRx ∧ q.protRx = x.protRx)
      ∧ ∀ y, r = y → y.tagOk = true → q.rdiRx = y.info.indications.getLsbD 7 ∧ q.farStopped = y.info.indications.getLsbD 5
        ∧ q.rxVersion = y.info.versionFormat.extractLsb' 6 2 ∧ q.protRx = x.protRx.take (collarField y.info 92 8) := by
  obtain ⟨haligner, hmisses, -, hnumber⟩ := Reception.take_alignment r x
  rw [← h] at haligner hmisses hnumber
  refine ⟨haligner, hmisses, hnumber, fun htag => ⟨hnumber.trans (hfailed htag), ?_⟩, fun y hy htag => ?_⟩
  · have hkept := Reception.take_failed htag x
    rwa [← h] at hkept
  · subst hy
    have hgiven := Reception.take_passed htag x
    rwa [← h] at hgiven

/-- Settles O17: the aligner's step for each state of the port, and in SYNC what the opened frame gives. -/
theorem lineFramesAlignAPortAndAreOpened : Obligations.LineFramesAlignAPortAndAreOpened := by
  intro s p f
  refine ⟨fun h => ?_, fun hm hl => ⟨_, rfl, fun j hj => ?_, fun ha hf hc => ?_, fun ha hf hc => ?_, fun ha hp hw => ?_,
    fun ha hp hf hn => ⟨fun hc => ?_, fun hc => ?_⟩, fun ha hp hf hmiss => ?_, fun ha hp hf => ?_⟩⟩
  · exact ⟨s.settled s, congrArg (fun u => Host.Outcome.next (s.settled u)) (State.receiveLine_off h), State.settled_self_changesNothing s⟩
  · rw [State.settled_port, State.receiveLine_others s f hj]
  · rw [State.receiveLine_found hm hl ha hf hc]
    exact ⟨State.settled_setPort p _ s, by simp, by simp, by simp, by simp⟩
  · rw [State.receiveLine_candidate hm hl ha hf hc]
    exact ⟨State.settled_setPort p _ s, by simp [ha], by simp⟩
  · rw [State.receiveLine_wrong hm hl ha hp hw]
    exact ⟨State.settled_setPort p _ s, by simp⟩
  · rw [State.receiveLine_counted hm hl ha hp hf hn hc]
    refine ⟨State.settled_changesPorts fun q hq => ?_, by simp [ha], by simp [hc], by simp⟩
    exact State.setPort_same p _ hq (State.setPort_same p _ hq (Part.Same.refl s q))
  · rw [State.receiveLine_confirmed hm hl ha hp hf hn hc, State.settled_port]
    exact State.confirmed_aligned p f _
  · rw [State.receiveLine_lost hm hl ha hp hf hmiss]
    refine ⟨State.settled_changesPorts fun q hq => State.loseAlignment_same p hq (Part.Same.refl s q), ?_, ?_⟩
    · simp [Port.unaligned, Port.putDefect]
    · simp
  · rw [State.receiveLine_hit hm hl ha hp hf]
    obtain ⟨hparts, hown⟩ := (State.receives_hit s p f).settled
    obtain ⟨haligner, hgiven⟩ := Port.opened_of_take hown Port.openCodewords_failed
    exact ⟨hparts, haligner.trans ha, hgiven⟩

end Sys2Proof.Machine

/-! SUPPORT. The answers to admitted requests (R318, R319, R336, R337): what a refusal and a finished transfer of a descriptor list
leave, and the answers of a command that acts at the next tick alone. -/
namespace Sys2Proof.Machine

/-! Bytes of a fixed number. -/

@[simp] theorem leBytes_length (n v : Nat) : (leBytes n v).length = n := by
  induction n generalizing v with
  | zero => rfl
  | succ n ih => rw [leBytes, List.length_cons, ih]

@[simp] theorem padTo_length (n : Nat) (bs : List Byte) : (padTo n bs).length = n := by
  simp [padTo, zeros]

theorem padTo_of_length {n : Nat} {bs : List Byte} (h : bs.length = n) : padTo n bs = bs := by
  rw [padTo, List.take_left' h]

@[simp] theorem padTo_zero (bs : List Byte) : padTo 0 bs = [] := rfl

@[simp] theorem padTo_nil (n : Nat) : padTo n [] = zeros n := by simp [padTo, zeros]

@[simp] theorem padTo_zeros (n : Nat) : padTo n (zeros n) = zeros n := padTo_of_length (by simp [zeros])

@[simp] theorem padTo_leBytes (n v : Nat) : padTo n (leBytes n v) = leBytes n v := padTo_of_length (leBytes_length n v)

/-! What the parts of an answer leave. -/

theorem State.cleared_same {s u : State} {q : Part} (r : Request) (h : Part.Same s u q) : Part.Same s (u.cleared r) q :=
  State.setHost_keeps _ (fun _ => rfl) (fun _ => ⟨rfl, rfl⟩) (fun _ => rfl)
    (State.setHost_keeps _ (fun _ => rfl) (fun _ => ⟨rfl, rfl⟩) (fun _ => rfl) h)

theorem State.letIn_same {s u : State} {q : Part} (op : BitVec 16) (r : Request) (st : Status) (d : Nat) (res : List Byte) (tk : BitVec 32)
    (h0 : q ≠ .channels) (h : Part.Same s u q) : Part.Same s (u.letIn op r false st d res tk) q :=
  State.post_same _ _ (State.setChan_same _ _ h0 (State.journal_same _ _ h))

theorem State.noteApplied_same {s u : State} {q : Part} (c : CommandRef) (h : Part.Same s u q) : Part.Same s (u.noteApplied c) q := by
  unfold State.noteApplied
  split
  · exact State.journal_same _ _ h
  · exact h

/-- A step that changes only what an answer changes leaves the rest untouched. -/
theorem State.Untouched.of_changesOnly {s t : State} (h : s.ChangesOnly t [.requests, .channels, .recorder, .memory, .deferred, .fresh]) :
    s.Untouched t where
  pending := h.1
  clock   := h.2 .clock (by decide)
  host    := h.2 .host (by decide)
  rtc     := h.2 .rtc (by decide)
  flash   := h.2 .flash (by decide)
  ports   := h.2 .ports (by decide)
  map     := h.2 .map (by decide)
  prot    := h.2 .prot (by decide)
  dpll    := h.2 .dpll (by decide)
  casc    := h.2 .casc (by decide)
  mgmt    := h.2 .mgmt (by decide)
  sec     := h.2 .sec (by decide)
  ember   := h.2 .ember (by decide)
  cap     := h.2 .cap (by decide)
  pwr     := h.2 .pwr (by decide)
  rst     := h.2 .rst (by decide)
  bist    := h.2 .bist (by decide)
  perf    := h.2 .perf (by decide)
  gpio    := h.2 .gpio (by decide)

/-- What a refusal leaves: a record, and nothing else than the answer's parts. -/
theorem State.refuses_refuse {s : State} {r : Request} (hfresh : (s.chan r.channel).recorded r.token = none) (op : BitVec 16)
    (st : Status) (d : Nat) (res : List Byte) : s.Refuses (s.settled ((s.cleared r).refuse op r false st d res)) r st d res where
  recorded := by
    refine ⟨acceptedEntry op r st d res 0 (s.cleared r), ?_, rfl, rfl, rfl, rfl⟩
    rw [State.settled_recorded, State.refuse, State.journal_chan]
    exact State.letIn_recorded hfresh
  rest := by
    refine .of_changesOnly (State.settled_changesOnly fun q hq _ _ => State.journal_same _ _ (State.letIn_same _ _ _ _ _ _ ?_ ?_))
    · rintro rfl
      exact hq (by decide)
    · exact State.cleared_same r (Part.Same.refl s q)
  later := by rw [State.settled_deferred, State.refuse, State.journal_deferred, State.letIn_deferred, State.cleared_deferred]

/-- The command's own checks decide the answer to an admitted request, whatever the length of its buffer. -/
theorem State.Admits.checkOwn {s : State} {k : Command} {r : Request} (h : s.Admits k r) (hr : k.range r = none) (n : Nat) :
    (s.cleared r).checkOwn k r n false = (s.cleared r).answer k r n [] false (k.check r n (s.judged r)) := by
  obtain ⟨htinder, hshut⟩ := h.service
  have hfull : (k.full && (s.cleared r).host.service == 1) = false := by
    cases hk : k.full
    · rfl
    · exact beq_eq_false_iff_ne.2 (htinder hk)
  have halways : (decide (3 ≤ (s.cleared r).host.service) && !k.always) = false := by
    by_cases hk : 3 ≤ (s.cleared r).host.service
    · simp [hshut hk]
    · rw [decide_eq_false hk]
      rfl
  rw [State.checkOwn, hfull, halways]
  simp only [Bool.false_eq_true, if_false, hr]
  rfl

/-! The answers of a command that acts at the next tick alone (R336, R337). -/

/-- A command without descriptors that does nothing at its execution, and something at the next tick. -/
structure Command.ActsLater (k : Command) : Prop where
  desc    : k.desc = false
  now     : k.now = fun _ _ s => s
  refused : k.refused = fun _ _ s => s
  later   : k.later.isSome = true

section ActsLater
variable {s : State} {k : Command} {r : Request} {i : Instr} (hk : k.ActsLater)
  (hi : exec i s = .next (s.settled (s.request k r))) (h : s.Admits k r) (hr : k.range r = none)
include hk hi h hr

/-- It is answered OK with its results, and its effect waits. -/
theorem exec_answersOk {res out : List Byte} (hc : k.check r 0 (s.judged r) = .done res) (hout : padTo k.results res = out) :
    ∃ t, exec i s = .next t ∧ s.Answers t r .ok out (some k.opcode) := by
  obtain ⟨hrecorded, hrest, hlater⟩ := h.done hk.desc hr hk.now hc
  refine ⟨_, hi, hout ▸ hrecorded, hrest, hlater.trans ?_⟩
  rw [Command.defers, if_pos hk.later]

/-- It is refused by its own checks. -/
theorem exec_refuses {st : Status} {d : Nat} {out : List Byte} (hc : k.check r 0 (s.judged r) = .refuse st d [])
    (hout : zeros k.results = out) : ∃ t, exec i s = .next t ∧ s.Refuses t r st d out := by
  refine ⟨_, hi, ?_⟩
  rw [h.request hk.desc hr, hc]
  have hrefuse : (s.cleared r).answer k r 0 [] false (.refuse st d []) = (s.cleared r).refuse k.opcode r false st d out := by
    simp only [State.answer, Reply.reads, Nat.lt_irrefl, if_false, State.refuseOwn, hk.refused, padTo_nil, hout]
  rw [hrefuse]
  exact State.refuses_refuse h.fresh ..

end ActsLater

/-! A descriptor list that arrives (R318, R319 step 11). -/

/-- A response to a request that came from no ring takes nothing from the rings. -/
theorem State.letIn_noWork {s : State} (op : BitVec 16) (r : Request) (st : Status) (d : Nat) (res : List Byte) (tk : BitVec 32)
    (h : s.noWork) : (s.letIn op r false st d res tk).noWork := by
  intro j
  unfold State.letIn State.advance
  simp only [Bool.false_eq_true, if_false, State.post_chan, State.setChan_chan, State.journal_chan]
  split
  case isTrue =>
    simp only [Channel.record]
    exact h r.channel
  case isFalse => exact h j

/-- The request that waits for its descriptor list, with nothing else on its way. -/
theorem State.Lists.request {s : State} {k : Command} {r : Request} {ds : List Byte} {n : Nat} (hl : s.Lists r ds n)
    (h : s.Admits k r) (hd : k.desc = true) :
    s.settled (s.request k r) = (s.cleared r).await k r false false .descriptors := by
  rw [h.request_desc hd]
  have houtbox : ((s.cleared r).await k r false false .descriptors).host.outbox = [] := hl.idle
  exact State.settle_of_outbox_nil houtbox

/-- What a command waits for its descriptor list as. -/
def Command.awaitingList (k : Command) (r : Request) : WaitingCommand :=
  { opcode := k.opcode, request := r, wait := .descriptors, accepted := false, ring := false }

/-- The list ends the wait: the state is again the one in which the request was let in. -/
theorem State.Lists.dmaDone {s : State} {k : Command} {r : Request} {ds : List Byte} {n : Nat} (hl : s.Lists r ds n)
    (hk : commandOf k.opcode = some k) :
    ((s.cleared r).await k r false false .descriptors).dmaDone r.channel r.token ds = (s.cleared r).checkOwn k r n false := by
  have hapart : ∀ w ∈ s.host.waiting, ¬ (w.request.channel == r.channel && w.request.token == r.token) = true := by
    intro w hw hmine
    obtain ⟨hc, ht⟩ := Bool.and_eq_true_iff.1 hmine
    exact hl.apart w hw (beq_iff_eq.1 hc) (beq_iff_eq.1 ht)
  have hfind : (s.host.waiting ++ [k.awaitingList r]).find? (fun w => w.request.channel == r.channel && w.request.token == r.token)
      = some (k.awaitingList r) := by
    rw [List.find?_append, List.find?_eq_none.2 hapart]
    simp [Command.awaitingList]
  have hfilter : (s.host.waiting ++ [k.awaitingList r]).filter (fun x =>
      !((x.request.channel == r.channel && x.request.token == r.token) && x == k.awaitingList r)) = s.host.waiting := by
    rw [List.filter_append, List.filter_eq_self.2 fun w hw => by rw [Bool.eq_false_iff.2 (hapart w hw)]; rfl]
    simp [Command.awaitingList]
  have hwait : ((s.cleared r).await k r false false .descriptors).host.waiting = s.host.waiting ++ [k.awaitingList r] := rfl
  have hmaster : ((s.cleared r).await k r false false .descriptors).host.busMaster = true := hl.quiet.1
  have hsize : (ds.length == (k.awaitingList r).bytes) = true := beq_iff_eq.2 hl.size
  have hback : ((s.cleared r).await k r false false .descriptors).setHost (fun h => { h with waiting := h.waiting.filter (fun x =>
      !((x.request.channel == r.channel && x.request.token == r.token) && x == k.awaitingList r)) }) = s.cleared r := by
    simp only [State.setHost, hwait, hfilter]
    rfl
  unfold State.dmaDone
  simp only [hwait, hfind, hmaster, hsize, Bool.and_self, if_true, hback]
  simp only [State.dmaArrived, Command.awaitingList, hk, hl.list]

end Sys2Proof.Machine

/-! SUPPORT. The PORT commands (R345 to R348): what their effects make of a port, and what their ranges say of a request. -/
namespace Sys2Proof.Machine

/-! A written defect, and a state entered, leave the rest of a port. -/

@[simp] theorem Port.putDefect_mode (d : Defect) (on : Bool) (q : Port) : (q.putDefect d on).mode = q.mode := rfl
@[simp] theorem Port.putDefect_settings (d : Defect) (on : Bool) (q : Port) : (q.putDefect d on).settings = q.settings := rfl
@[simp] theorem Port.putDefect_staged (d : Defect) (on : Bool) (q : Port) : (q.putDefect d on).staged = q.staged := rfl
@[simp] theorem Port.putDefect_resuming (d : Defect) (on : Bool) (q : Port) : (q.putDefect d on).resuming = q.resuming := rfl
@[simp] theorem Port.putDefect_partner (d : Defect) (on : Bool) (q : Port) : (q.putDefect d on).partner = q.partner := rfl
@[simp] theorem Port.entering_mode (m : PortMode) (now : Nat) (q : Port) : (q.entering m now).mode = m := rfl
@[simp] theorem Port.entering_settings (m : PortMode) (now : Nat) (q : Port) : (q.entering m now).settings = q.settings := rfl
@[simp] theorem Port.entering_staged (m : PortMode) (now : Nat) (q : Port) : (q.entering m now).staged = q.staged := rfl
@[simp] theorem Port.entering_resuming (m : PortMode) (now : Nat) (q : Port) : (q.entering m now).resuming = q.resuming := rfl

/-! What the changes of state make of the port (R91, R95, R96). -/

theorem State.enablePort_port (p : PortNo) (s : State) :
    ((s.enablePort p).port p).mode = .training ∧ ((s.enablePort p).port p).settings = (s.port p).nextSettings := by
  simp [State.enablePort, State.portEnable]

/-- Defects that are cleared leave the state and the staged set. -/
theorem State.clearDefects_port (p : PortNo) (ds : List Defect) (s : State) :
    ((ds.foldl (fun s d => s.setDefect p d false) s).port p).mode = (s.port p).mode
      ∧ ((ds.foldl (fun s d => s.setDefect p d false) s).port p).staged = (s.port p).staged := by
  induction ds generalizing s with
  | nil => exact ⟨rfl, rfl⟩
  | cons d ds ih =>
    obtain ⟨hmode, hstaged⟩ := ih (s.setDefect p d false)
    exact ⟨hmode.trans (by simp), hstaged.trans (by simp)⟩

theorem State.portDown_port (p : PortNo) (s : State) :
    ((s.portDown p).port p).mode = .down ∧ ((s.portDown p).port p).staged = .none := by
  unfold State.portDown
  extract_lets ended down emptied
  have hemptied : (emptied.port p).mode = .down ∧ (emptied.port p).staged = .none := by
    simp [emptied, down, Port.restartTransmit, Port.restartReceive]
  obtain ⟨hmode, hstaged⟩ := State.clearDefects_port p [Defect.los, .lof, .lop, .auth, .tim, .role, .sd, .uls] emptied
  exact ⟨hmode.trans hemptied.1, hstaged.trans hemptied.2⟩

theorem State.stopPort_port (p : PortNo) (s : State) :
    ((s.stopPort p).port p).mode = .stopped ∧ ((s.stopPort p).port p).resuming = false := by
  simp [State.stopPort]

/-- A restart puts the staged set in force, and sends the port to TRAINING or leaves it STOPPED to resume. -/
theorem State.restartPort_port (p : PortNo) (s : State) :
    ((s.restartPort p).port p).settings = (s.port p).nextSettings
      ∧ ((s.port p).staged.retrains = true → ((s.restartPort p).port p).mode = .training)
      ∧ ((s.port p).staged.retrains = false → ((s.restartPort p).port p).mode = (s.port p).mode
          ∧ ((s.restartPort p).port p).resuming = true) := by
  cases hretrains : (s.port p).staged.retrains
  case false => simp [State.restartPort, hretrains]
  case true => simp [State.restartPort, hretrains, State.portRetrain]

theorem State.judgeTrace_partner (p : PortNo) (s : State) : ((s.judgeTrace p).port p).partner = (s.port p).partner := by
  unfold State.judgeTrace
  extract_lets q
  split
  · rfl
  · split
    · simp
    · rfl

/-! The fields of a request in range (R337, R346, R347). -/

theorem firstBad_eq_none {xs : List (Bool × Nat)} : firstBad xs = none ↔ ∀ x ∈ xs, x.1 = false := by
  induction xs with
  | nil => simp [firstBad]
  | cons x xs ih =>
    obtain ⟨bad, off⟩ := x
    cases bad <;> simp [firstBad, ih]

/-- The port that a request names. -/
theorem Request.port_of_u {r : Request} {p : PortNo} (hp : r.u 0 2 = p.val) : p = r.port 0 := by
  apply Fin.ext
  rw [Request.port, hp]
  exact (Nat.mod_eq_of_lt p.isLt).symm

theorem portRange_none {r : Request} {p : PortNo} (hp : r.u 0 2 = p.val) (hz : r.zero 2 2 = true) : portRange r = none := by
  have hport : r.badPort 0 = false := by
    rw [Request.badPort, hp]
    exact decide_eq_false (Nat.not_le.2 p.isLt)
  simp [portRange, firstBad, hport, hz]

/-- The values of the thresholds. -/
theorem portSetRange_thresholds {r : Request} (h : portSetRange r = none) (hs : r.u 2 1 = 3) :
    r.u 4 1 ≤ 9 ∧ r.u 5 1 ≤ 8 ∧ r.u 6 1 ≤ 9 ∧ r.u 7 1 ≤ 8 := by
  simp [portSetRange, firstBad_eq_none, hs] at h
  omega

/-- The values of the staged settings that are numbers. -/
theorem portSetRange_window {r : Request} (h : portSetRange r = none) (hs : r.u 2 1 = 6) : r.u 4 1 ≤ 16 := by
  simp [portSetRange, firstBad_eq_none, hs] at h
  omega

theorem portSetRange_txPreset {r : Request} (h : portSetRange r = none) (hs : r.u 2 1 = 7) : r.u 4 1 ≤ 15 := by
  simp [portSetRange, firstBad_eq_none, hs] at h
  omega

theorem portSetRange_rxAdapt {r : Request} (h : portSetRange r = none) (hs : r.u 2 1 = 8) : r.u 4 1 ≤ 2 := by
  simp [portSetRange, firstBad_eq_none, hs] at h
  omega

theorem portFormats_range {r : Request} (h : cmdPortFormats.range r = none) (i : Fin 256) : r.u (4 + i.val) 1 ≤ 6 := by
  obtain ⟨-, hvalues⟩ := (Option.orElse_eq_none _ _).1 h
  have hi := List.findSome?_eq_none_iff.1 hvalues i.val (List.mem_range.2 i.isLt)
  simpa using hi

end Sys2Proof.Machine

/-! SUPPORT. The answers of PORT_ENABLE, PORT_DISABLE, PORT_STOP and PORT_RESTART (R96, R345), and what they do at the next tick. -/
namespace Sys2Proof.Machine

/-! The commands that act at the next tick alone. -/

theorem cmdPortEnable_actsLater : cmdPortEnable.ActsLater := ⟨rfl, rfl, rfl, rfl⟩
theorem cmdPortDisable_actsLater : cmdPortDisable.ActsLater := ⟨rfl, rfl, rfl, rfl⟩
theorem cmdPortStop_actsLater : cmdPortStop.ActsLater := ⟨rfl, rfl, rfl, rfl⟩
theorem cmdPortRestart_actsLater : cmdPortRestart.ActsLater := ⟨rfl, rfl, rfl, rfl⟩
theorem cmdPortSet_actsLater : cmdPortSet.ActsLater := ⟨rfl, rfl, rfl, rfl⟩
theorem cmdPortFormats_actsLater : cmdPortFormats.ActsLater := ⟨rfl, rfl, rfl, rfl⟩
theorem cmdPortBundles_actsLater : cmdPortBundles.ActsLater := ⟨rfl, rfl, rfl, rfl⟩

/-! What each does at the next tick (R337). -/

section CarryOut
variable (r : Request) (v : State)

theorem carryOut_portEnable : v.carryOut ⟨0x0201, r, []⟩
    = if (v.port (r.port 0)).mode == .down then v.enablePort (r.port 0) else v := rfl

theorem carryOut_portDisable : v.carryOut ⟨0x0202, r, []⟩
    = if ((v.dropWake (r.port 0)).port (r.port 0)).mode == .down then v.dropWake (r.port 0)
      else (v.dropWake (r.port 0)).portDown (r.port 0) := rfl

theorem carryOut_portStop : v.carryOut ⟨0x0203, r, []⟩
    = if (v.port (r.port 0)).takesStaged then v else v.stopPort (r.port 0) := rfl

theorem carryOut_portRestart : v.carryOut ⟨0x0204, r, []⟩
    = if (v.port (r.port 0)).mode == .stopped && !(v.port (r.port 0)).resuming then v.restartPort (r.port 0) else v := rfl

theorem carryOut_portSet : v.carryOut ⟨0x0205, r, []⟩ = v.setPortSetting r := rfl

end CarryOut

section PortCommands
variable {s : State} {r : Request}

/-- PORT_ENABLE (R345). -/
theorem portEnable_answers (hr : portRange r = none) (h : s.Admits cmdPortEnable r) {v : State} {p : PortNo} (hv : v = s.judged r)
    (hp : p = r.port 0) :
    (v.domainOn (laneGroup p) = true → (v.port p).mode = .down → v.portMarked p = false → v.stagedOk p = true →
      ∃ t, exec (.portEnable r) s = .next t ∧ s.Answers t r .ok (leBytes 8 (v.clock.frame + 1).toNat) (some 0x0201)
        ∧ ((v.carryOut ⟨0x0201, r, []⟩).port p).mode = .training
        ∧ ((v.carryOut ⟨0x0201, r, []⟩).port p).settings = (v.port p).nextSettings) ∧
    (v.domainOn (laneGroup p) = true → (v.port p).mode ≠ .down →
      ∃ t, exec (.portEnable r) s = .next t ∧ s.Answers t r .ok (zeros 8) (some 0x0201) ∧ v.carryOut ⟨0x0201, r, []⟩ = v) ∧
    (v.domainOn (laneGroup p) = false → ∃ t, exec (.portEnable r) s = .next t ∧ s.Refuses t r .errState 0 (zeros 8)) ∧
    (v.domainOn (laneGroup p) = true → (v.port p).mode = .down → v.portMarked p = true →
      ∃ t, exec (.portEnable r) s = .next t ∧ s.Refuses t r .errUnusable 0 (zeros 8)) ∧
    (v.domainOn (laneGroup p) = true → (v.port p).mode = .down → v.portMarked p = false → v.stagedOk p = false →
      ∃ t, exec (.portEnable r) s = .next t ∧ s.Refuses t r .errConflict 0 (zeros 8)) := by
  subst hv hp
  have hanswers {res out : List Byte} := exec_answersOk (res := res) (out := out) cmdPortEnable_actsLater (i := .portEnable r) rfl h hr
  have hrefuses {st : Status} {out : List Byte} :=
    exec_refuses (st := st) (d := 0) (out := out) cmdPortEnable_actsLater (i := .portEnable r) rfl h hr
  refine ⟨fun hon hdown hmark hok => ?_, fun hon hup => ?_, fun hoff => ?_, fun hon hdown hmark => ?_, fun hon hdown hmark hok => ?_⟩
  · obtain ⟨t, ht, ha⟩ := hanswers (res := (s.judged r).nextFrame) (by simp [cmdPortEnable, hon, hdown, hmark, hok]) (padTo_leBytes _ _)
    refine ⟨t, ht, ha, ?_⟩
    rw [carryOut_portEnable, if_pos (beq_iff_eq.2 hdown)]
    exact State.enablePort_port _ _
  · obtain ⟨t, ht, ha⟩ := hanswers (res := zeros 8) (by simp [cmdPortEnable, hon, hup]) (padTo_zeros _)
    exact ⟨t, ht, ha, by rw [carryOut_portEnable, if_neg (by simpa using hup)]⟩
  · exact hrefuses (by simp [cmdPortEnable, hoff]) rfl
  · exact hrefuses (by simp [cmdPortEnable, hon, hdown, hmark]) rfl
  · exact hrefuses (by simp [cmdPortEnable, hon, hdown, hmark, hok]) rfl

/-- PORT_DISABLE (R345). -/
theorem portDisable_answers (hr : portRange r = none) (h : s.Admits cmdPortDisable r) {v : State} {p : PortNo} (hv : v = s.judged r)
    (hp : p = r.port 0) :
    ((v.port p).mode ≠ .down → ∃ t, exec (.portDisable r) s = .next t
      ∧ s.Answers t r .ok (leBytes 8 (v.clock.frame + 1).toNat) (some 0x0202)
      ∧ ((v.carryOut ⟨0x0202, r, []⟩).port p).mode = .down ∧ ((v.carryOut ⟨0x0202, r, []⟩).port p).staged = .none) ∧
    ((v.port p).mode = .down → ∃ t, exec (.portDisable r) s = .next t ∧ s.Answers t r .ok (zeros 8) (some 0x0202)
      ∧ (v.carryOut ⟨0x0202, r, []⟩).ports = v.ports) := by
  subst hv hp
  have hanswers {res out : List Byte} := exec_answersOk (res := res) (out := out) cmdPortDisable_actsLater (i := .portDisable r) rfl h hr
  have hwake : ((s.judged r).dropWake (r.port 0)).port (r.port 0) = (s.judged r).port (r.port 0) := rfl
  refine ⟨fun hup => ?_, fun hdown => ?_⟩
  · obtain ⟨t, ht, ha⟩ := hanswers (res := (s.judged r).nextFrame) (by simp [cmdPortDisable, hup]) (padTo_leBytes _ _)
    refine ⟨t, ht, ha, ?_⟩
    rw [carryOut_portDisable, hwake, if_neg (by simpa using hup)]
    exact State.portDown_port _ _
  · obtain ⟨t, ht, ha⟩ := hanswers (res := zeros 8) (by simp [cmdPortDisable, hdown]) (padTo_zeros _)
    refine ⟨t, ht, ha, ?_⟩
    rw [carryOut_portDisable, hwake, if_pos (beq_iff_eq.2 hdown)]
    rfl

/-- PORT_STOP (R96, R345). -/
theorem portStop_answers (hr : portRange r = none) (h : s.Admits cmdPortStop r) {v : State} {p : PortNo} (hv : v = s.judged r)
    (hp : p = r.port 0) :
    ((v.port p).takesStaged = false → ∃ t, exec (.portStop r) s = .next t
      ∧ s.Answers t r .ok (leBytes 8 (v.clock.frame + 1).toNat) (some 0x0203)
      ∧ ((v.carryOut ⟨0x0203, r, []⟩).port p).mode = .stopped ∧ ((v.carryOut ⟨0x0203, r, []⟩).port p).resuming = false) ∧
    ((v.port p).mode = .stopped → (v.port p).resuming = false → ∃ t, exec (.portStop r) s = .next t
      ∧ s.Answers t r .ok (zeros 8) (some 0x0203) ∧ v.carryOut ⟨0x0203, r, []⟩ = v) ∧
    ((v.port p).mode = .down → ∃ t, exec (.portStop r) s = .next t ∧ s.Refuses t r .errState 0 (zeros 8)) := by
  subst hv hp
  have hanswers {res out : List Byte} := exec_answersOk (res := res) (out := out) cmdPortStop_actsLater (i := .portStop r) rfl h hr
  refine ⟨fun hruns => ?_, fun hstopped hstays => ?_, fun hdown => ?_⟩
  · obtain ⟨hup, hstopped⟩ := Bool.or_eq_false_iff.1 hruns
    obtain ⟨t, ht, ha⟩ := hanswers (res := (s.judged r).nextFrame)
      (by simp only [cmdPortStop, hup, hstopped, Bool.false_eq_true, if_false]) (padTo_leBytes _ _)
    refine ⟨t, ht, ha, ?_⟩
    rw [carryOut_portStop, if_neg (by simp [hruns])]
    exact State.stopPort_port _ _
  · obtain ⟨t, ht, ha⟩ := hanswers (res := zeros 8) (by simp [cmdPortStop, hstopped, hstays]) (padTo_zeros _)
    refine ⟨t, ht, ha, ?_⟩
    rw [carryOut_portStop, if_pos (by simp [Port.takesStaged, hstopped, hstays])]
  · exact exec_refuses cmdPortStop_actsLater rfl h hr (by simp [cmdPortStop, hdown]) rfl

/-- PORT_RESTART (R96, R345). -/
theorem portRestart_answers (hr : portRange r = none) (h : s.Admits cmdPortRestart r) {v : State} {p : PortNo} (hv : v = s.judged r)
    (hp : p = r.port 0) :
    ((v.port p).mode = .stopped → (v.port p).resuming = false → v.stagedOk p = true → ∃ t, exec (.portRestart r) s = .next t
      ∧ s.Answers t r .ok (leBytes 8 (v.clock.frame + 1).toNat) (some 0x0204)
      ∧ ((v.carryOut ⟨0x0204, r, []⟩).port p).settings = (v.port p).nextSettings
      ∧ ((v.port p).staged.retrains = true → ((v.carryOut ⟨0x0204, r, []⟩).port p).mode = .training)
      ∧ ((v.port p).staged.retrains = false → ((v.carryOut ⟨0x0204, r, []⟩).port p).mode = .stopped
          ∧ ((v.carryOut ⟨0x0204, r, []⟩).port p).resuming = true)) ∧
    ((v.port p).mode = .stopped → (v.port p).resuming = true → ∃ t, exec (.portRestart r) s = .next t
      ∧ s.Answers t r .ok (leBytes 8 (v.port p).frameMark.toNat) (some 0x0204) ∧ v.carryOut ⟨0x0204, r, []⟩ = v) ∧
    ((v.port p).mode ≠ .stopped → ∃ t, exec (.portRestart r) s = .next t ∧ s.Refuses t r .errState 0 (zeros 8)) := by
  subst hv hp
  have hanswers {res out : List Byte} := exec_answersOk (res := res) (out := out) cmdPortRestart_actsLater (i := .portRestart r) rfl h hr
  refine ⟨fun hstopped hstays hok => ?_, fun hstopped hresumes => ?_, fun hruns => ?_⟩
  · obtain ⟨t, ht, ha⟩ := hanswers (res := (s.judged r).nextFrame) (by simp [cmdPortRestart, hstopped, hstays, hok]) (padTo_leBytes _ _)
    refine ⟨t, ht, ha, ?_⟩
    rw [carryOut_portRestart, if_pos (by simp [hstopped, hstays]), ← hstopped]
    exact State.restartPort_port _ _
  · obtain ⟨t, ht, ha⟩ := hanswers (res := leBytes 8 ((s.judged r).port (r.port 0)).frameMark.toNat)
      (by simp [cmdPortRestart, hstopped, hresumes]) (padTo_leBytes _ _)
    refine ⟨t, ht, ha, ?_⟩
    rw [carryOut_portRestart, if_neg (by simp [hresumes])]
  · exact exec_refuses cmdPortRestart_actsLater rfl h hr (by simp [cmdPortRestart, hruns]) rfl

end PortCommands
end Sys2Proof.Machine

/-! SUPPORT. The answers of PORT_SET, PORT_FORMATS and PORT_BUNDLES (R62, R89, R95, R346, R347). -/
namespace Sys2Proof.Machine

section PortCommands
variable {s : State} {r : Request}

/-! A setting that is set, and one that is staged (R89, R95, R346). -/

/-- The settings that the device sets at once (R89, R346). -/
theorem setPortSetting_sets {v : State} (hr : portSetRange r = none) :
    (r.u 2 1 = 1 → (v.setPortSetting r).port (r.port 0) = { v.port (r.port 0) with txTrace := traceOf r })
      ∧ (r.u 2 1 = 2 → ((v.setPortSetting r).port (r.port 0)).partner = traceOf r)
      ∧ (r.u 2 1 = 3 → ((v.setPortSetting r).port (r.port 0)).sdSet.1.val = r.u 4 1 ∧ ((v.setPortSetting r).port (r.port 0)).sdSet.2.val = r.u 5 1
          ∧ ((v.setPortSetting r).port (r.port 0)).sdClear.1.val = r.u 6 1 ∧ ((v.setPortSetting r).port (r.port 0)).sdClear.2.val = r.u 7 1) := by
  refine ⟨fun hset => ?_, fun hset => ?_, fun hset => ?_⟩
  · simp [State.setPortSetting, hset]
  · simp [State.setPortSetting, hset, State.judgeTrace_partner]
  · obtain ⟨h4, h5, h6, h7⟩ := portSetRange_thresholds hr hset
    simp only [State.setPortSetting, hset, State.setPort_port, if_true, Fin.val_ofNat]
    omega

/-- The settings that wait in the staged set (R95, R346). -/
theorem setPortSetting_stages {v : State} (hr : portSetRange r = none) (hstaged : 4 ≤ r.u 2 1) :
    ((v.setPortSetting r).port (r.port 0)).settings = (v.port (r.port 0)).settings
      ∧ (r.u 2 1 = 5 → ((v.setPortSetting r).port (r.port 0)).staged.role = some (roleOf (r.u 4 1)))
      ∧ (r.u 2 1 = 4 → ((v.setPortSetting r).port (r.port 0)).staged.version = some (BitVec.ofNat 2 (r.u 4 1)))
      ∧ (r.u 2 1 = 6 → ∃ w, ((v.setPortSetting r).port (r.port 0)).staged.window = some w ∧ w.val = r.u 4 1)
      ∧ (r.u 2 1 = 7 → ∃ w, ((v.setPortSetting r).port (r.port 0)).staged.txPreset = some w ∧ w.val = r.u 4 1)
      ∧ (r.u 2 1 = 8 → ∃ w, ((v.setPortSetting r).port (r.port 0)).staged.rxAdapt = some w ∧ w.val = r.u 4 1) := by
  refine ⟨?_, fun hset => ?_, fun hset => ?_, fun hset => ?_, fun hset => ?_, fun hset => ?_⟩
  · unfold State.setPortSetting
    split
    case h_1 hset | h_2 hset | h_3 hset => omega
    all_goals simp
  · simp [State.setPortSetting, hset]
  · simp [State.setPortSetting, hset]
  · exact ⟨Fin.ofNat 17 (r.u 4 1), by simp [State.setPortSetting, hset], Nat.mod_eq_of_lt (Nat.lt_succ_of_le (portSetRange_window hr hset))⟩
  · exact ⟨Fin.ofNat 16 (r.u 4 1), by simp [State.setPortSetting, hset], Nat.mod_eq_of_lt (Nat.lt_succ_of_le (portSetRange_txPreset hr hset))⟩
  · exact ⟨Fin.ofNat 3 (r.u 4 1), by simp [State.setPortSetting, hset], Nat.mod_eq_of_lt (Nat.lt_succ_of_le (portSetRange_rxAdapt hr hset))⟩

/-- PORT_SET (R89, R95, R346). -/
theorem portSet_answers (hr : cmdPortSet.range r = none) (h : s.Admits cmdPortSet r) {v : State} {p : PortNo} (hv : v = s.judged r)
    (hp : p = r.port 0) :
    (r.u 2 1 ≤ 3 → ∃ t, exec (.portSet r) s = .next t ∧ s.Answers t r .ok [] (some 0x0205)
      ∧ (r.u 2 1 = 1 → (v.carryOut ⟨0x0205, r, []⟩).port p = { v.port p with txTrace := traceOf r })
      ∧ (r.u 2 1 = 2 → ((v.carryOut ⟨0x0205, r, []⟩).port p).partner = traceOf r)
      ∧ (r.u 2 1 = 3 → ((v.carryOut ⟨0x0205, r, []⟩).port p).sdSet.1.val = r.u 4 1 ∧ ((v.carryOut ⟨0x0205, r, []⟩).port p).sdSet.2.val = r.u 5 1
          ∧ ((v.carryOut ⟨0x0205, r, []⟩).port p).sdClear.1.val = r.u 6 1 ∧ ((v.carryOut ⟨0x0205, r, []⟩).port p).sdClear.2.val = r.u 7 1)) ∧
    (4 ≤ r.u 2 1 → (v.port p).takesStaged = true → (r.u 2 1 ≠ 5 ∨ v.portMarked p = false) → ∃ t, exec (.portSet r) s = .next t
      ∧ s.Answers t r .ok [] (some 0x0205) ∧ ((v.carryOut ⟨0x0205, r, []⟩).port p).settings = (v.port p).settings
      ∧ (r.u 2 1 = 5 → ((v.carryOut ⟨0x0205, r, []⟩).port p).staged.role = some (roleOf (r.u 4 1)))
      ∧ (r.u 2 1 = 4 → ((v.carryOut ⟨0x0205, r, []⟩).port p).staged.version = some (BitVec.ofNat 2 (r.u 4 1)))
      ∧ (r.u 2 1 = 6 → ∃ w, ((v.carryOut ⟨0x0205, r, []⟩).port p).staged.window = some w ∧ w.val = r.u 4 1)
      ∧ (r.u 2 1 = 7 → ∃ w, ((v.carryOut ⟨0x0205, r, []⟩).port p).staged.txPreset = some w ∧ w.val = r.u 4 1)
      ∧ (r.u 2 1 = 8 → ∃ w, ((v.carryOut ⟨0x0205, r, []⟩).port p).staged.rxAdapt = some w ∧ w.val = r.u 4 1)) ∧
    (r.u 2 1 = 5 → (v.port p).takesStaged = true → v.portMarked p = true → ∃ t, exec (.portSet r) s = .next t
      ∧ s.Refuses t r .errUnusable 0 []) ∧
    (4 ≤ r.u 2 1 → (v.port p).takesStaged = false → ∃ t, exec (.portSet r) s = .next t ∧ s.Refuses t r .errState 0 []) := by
  subst hv hp
  have hrefuses {st : Status} := exec_refuses (st := st) (d := 0) (out := []) cmdPortSet_actsLater (i := .portSet r) rfl h hr
  refine ⟨fun hnow => ?_, fun hstaged htakes hmark => ?_, fun hrole htakes hmark => ?_, fun hstaged htakes => ?_⟩
  · obtain ⟨t, ht, ha⟩ := exec_answersOk cmdPortSet_actsLater (i := .portSet r) rfl h hr (res := [])
      (by simp [cmdPortSet, Nat.not_le.2 (Nat.lt_succ_of_le hnow), show r.u 2 1 ≠ 5 by omega]) rfl
    exact ⟨t, ht, ha, setPortSetting_sets hr⟩
  · obtain ⟨t, ht, ha⟩ := exec_answersOk cmdPortSet_actsLater (i := .portSet r) rfl h hr (res := [])
      (by simpa [cmdPortSet, hstaged, htakes, imp_iff_not_or] using hmark) rfl
    exact ⟨t, ht, ha, setPortSetting_stages hr hstaged⟩
  · exact hrefuses (by simp [cmdPortSet, hrole, htakes, hmark]) rfl
  · exact hrefuses (by simp [cmdPortSet, hstaged, htakes]) rfl

/-! The formats and the bundles (R62, R347). -/

/-- The formats that PORT_FORMATS gives. -/
def formatsOf (r : Request) : Vector (Fin 7) 256 := Vector.ofFn (fun i => Fin.ofNat 7 (r.u (4 + i.val) 1))

theorem formatsOf_getElem (hr : cmdPortFormats.range r = none) (i : Fin 256) : ((formatsOf r)[i]).val = r.u (4 + i.val) 1 := by
  simp only [formatsOf, Fin.getElem_fin, Vector.getElem_ofFn, Fin.val_ofNat]
  exact Nat.mod_eq_of_lt (Nat.lt_succ_of_le (portFormats_range hr i))

theorem carryOut_portFormats (v : State) : v.carryOut ⟨0x0206, r, []⟩ = v.setPort (r.port 0) (fun q =>
    { q with staged := if r.u 2 1 = 0 then { q.staged with inFormats := some (formatsOf r) }
                       else { q.staged with outFormats := some (formatsOf r) } }) := rfl

theorem carryOut_portBundles (v : State) : v.carryOut ⟨0x0207, r, []⟩ = v.setPort (r.port 0) (fun q =>
    { q with staged := if r.u 2 1 = 0 then { q.staged with inBundles := some (bundlesOf r) }
                       else { q.staged with outBundles := some (bundlesOf r) } }) := rfl

/-- PORT_FORMATS (R347). -/
theorem portFormats_answers (hr : cmdPortFormats.range r = none) (h : s.Admits cmdPortFormats r) {v : State} {p : PortNo}
    (hv : v = s.judged r) (hp : p = r.port 0) :
    ((v.port p).takesStaged = true → ∃ t, exec (.portFormats r) s = .next t ∧ s.Answers t r .ok [] (some 0x0206)
      ∧ ∃ x : Vector (Fin 7) 256, (∀ i : Fin 256, (x[i]).val = r.u (4 + i.val) 1)
        ∧ (r.u 2 1 = 0 → ((v.carryOut ⟨0x0206, r, []⟩).port p).staged = { (v.port p).staged with inFormats := some x })
        ∧ (r.u 2 1 = 1 → ((v.carryOut ⟨0x0206, r, []⟩).port p).staged = { (v.port p).staged with outFormats := some x })) ∧
    ((v.port p).takesStaged = false → ∃ t, exec (.portFormats r) s = .next t ∧ s.Refuses t r .errState 0 []) := by
  subst hv hp
  refine ⟨fun htakes => ?_, fun htakes => ?_⟩
  · obtain ⟨t, ht, ha⟩ := exec_answersOk cmdPortFormats_actsLater (i := .portFormats r) rfl h hr (res := [])
      (by simp [cmdPortFormats, htakes]) rfl
    refine ⟨t, ht, ha, formatsOf r, formatsOf_getElem hr, fun hin => ?_, fun hout => ?_⟩
    · rw [carryOut_portFormats, State.setPort_port, if_pos rfl]
      simp [hin]
    · rw [carryOut_portFormats, State.setPort_port, if_pos rfl]
      simp [hout]
  · exact exec_refuses cmdPortFormats_actsLater rfl h hr (by simp [cmdPortFormats, htakes]) rfl

/-- PORT_BUNDLES (R62, R347). -/
theorem portBundles_answers (hr : cmdPortBundles.range r = none) (h : s.Admits cmdPortBundles r) {v : State} {p : PortNo}
    (hv : v = s.judged r) (hp : p = r.port 0) {formats : Vector (Fin 7) 256}
    (hformats : formats = if r.u 2 1 = 0 then (v.port p).nextSettings.inFormats else (v.port p).nextSettings.outFormats) :
    ((v.port p).takesStaged = true → bundlesOverlap (bundlesOf r) = false → bundlesMixed (bundlesOf r) formats = false →
      ∃ t, exec (.portBundles r) s = .next t ∧ s.Answers t r .ok [] (some 0x0207)
        ∧ (r.u 2 1 = 0 → ((v.carryOut ⟨0x0207, r, []⟩).port p).staged = { (v.port p).staged with inBundles := some (bundlesOf r) })
        ∧ (r.u 2 1 = 1 → ((v.carryOut ⟨0x0207, r, []⟩).port p).staged = { (v.port p).staged with outBundles := some (bundlesOf r) })) ∧
    ((v.port p).takesStaged = true → (bundlesOverlap (bundlesOf r) = true ∨ bundlesMixed (bundlesOf r) formats = true) →
      ∃ t, exec (.portBundles r) s = .next t ∧ s.Refuses t r .errConflict 0 []) := by
  subst hv hp
  refine ⟨fun htakes hoverlap hmixed => ?_, fun htakes hfails => ?_⟩
  · rw [hformats] at hmixed
    obtain ⟨t, ht, ha⟩ := exec_answersOk cmdPortBundles_actsLater (i := .portBundles r) rfl h hr (res := [])
      (by simp only [cmdPortBundles, htakes, hoverlap, hmixed, Bool.not_true, Bool.or_self, Bool.false_eq_true, if_false]) rfl
    refine ⟨t, ht, ha, fun hin => ?_, fun hout => ?_⟩
    · rw [carryOut_portBundles, State.setPort_port, if_pos rfl]
      simp [hin]
    · rw [carryOut_portBundles, State.setPort_port, if_pos rfl]
      simp [hout]
  · rw [hformats, ← Bool.or_eq_true_iff] at hfails
    exact exec_refuses cmdPortBundles_actsLater rfl h hr
      (by simp only [cmdPortBundles, htakes, hfails, Bool.not_true, Bool.false_eq_true, if_false, if_true]) rfl

end PortCommands
end Sys2Proof.Machine

/-! SUPPORT. The answers of PORT_STATUS and PORT_STATUS_ALL (R115, R348), and the statement about the PORT commands. -/
namespace Sys2Proof.Machine

/-! The bytes of a status, and the restart of θ that its read makes. -/

@[simp] theorem Port.status_length (q : Port) : q.status.length = 80 := by
  simp [Port.status, leSigned, zeros]

theorem statuses_length (ports : List Port) : (ports.flatMap Port.status).length = 80 * ports.length := by
  simp [List.length_flatMap, Nat.mul_comm]

theorem statuses_ne_nil (s : State) : s.ports.toList.flatMap Port.status ≠ [] := by
  intro hnil
  have hlength := statuses_length s.ports.toList
  rw [hnil, Vector.length_toList] at hlength
  exact absurd hlength (by decide)

/-- A restart of θ at every port. -/
def State.restartThetas (s : State) : State := { s with ports := s.ports.map Port.restartTheta }

theorem State.restartThetas_same {s u : State} {q : Part} (h0 : q ≠ .ports) (h : Part.Same s u q) : Part.Same s u.restartThetas q := by
  cases q
  case ports => exact absurd rfl h0
  all_goals exact h

theorem State.await_same {s u : State} {q : Part} (k : Command) (r : Request) (ring accepted : Bool) (w : DmaWait) (h0 : q ≠ .requests)
    (h : Part.Same s u q) : Part.Same s (u.await k r ring accepted w) q :=
  State.setHost_keeps _ (fun _ => rfl) (fun e => absurd e h0) (fun _ => rfl) h

theorem State.await_waiting (k : Command) (r : Request) (ring accepted : Bool) (w : DmaWait) (s : State) :
    (s.await k r ring accepted w).host.waiting
      = s.host.waiting ++ [{ opcode := k.opcode, request := r, wait := w, accepted := accepted, ring := ring }] := rfl

theorem State.restartThetas_waiting (s : State) : s.restartThetas.host.waiting = s.host.waiting := rfl

theorem State.noteApplied_waiting (c : CommandRef) (s : State) : (s.noteApplied c).host.waiting = s.host.waiting := by
  unfold State.noteApplied
  split <;> rfl

theorem State.letIn_waiting (op : BitVec 16) (r : Request) (st : Status) (d : Nat) (res : List Byte) (tk : BitVec 32) (s : State) :
    (s.letIn op r false st d res tk).host.waiting = s.host.waiting := rfl

section PortStatus
variable {s : State} {r : Request}

/-- What PORT_STATUS leaves: the record of its answer, and the port whose θ it restarts. -/
def State.statusRead (r : Request) (s : State) : State :=
  ((((s.cleared r).letIn 0x0208 r false .ok 0 ((s.judged r).port (r.port 0)).status 0).journal r.ref .done).setPort (r.port 0)
    Port.restartTheta).noteApplied r.ref

theorem request_portStatus (hr : portRange r = none) (h : s.Admits cmdPortStatus r) : s.request cmdPortStatus r = s.statusRead r := by
  rw [h.request rfl hr, State.statusRead, ← padTo_of_length (Port.status_length ((s.judged r).port (r.port 0)))]
  rfl

/-- PORT_STATUS (R115, R348). -/
theorem portStatus_answers (hr : portRange r = none) (h : s.Admits cmdPortStatus r) {v : State} {p : PortNo} (hv : v = s.judged r)
    (hp : p = r.port 0) :
    ∃ t, exec (.portStatus r) s = .next t ∧ t.Recorded r .ok 0 (v.port p).status ∧ s.ChangesOnly t [.channels, .ports]
      ∧ t.ports = s.ports.set p { s.ports[p] with thetaSeen := false } := by
  subst hv hp
  refine ⟨_, congrArg (fun u => Host.Outcome.next (s.settled u)) (request_portStatus hr h),
    ⟨acceptedEntry 0x0208 r .ok 0 ((s.judged r).port (r.port 0)).status 0 (s.cleared r), ?_, rfl, rfl, rfl⟩, ?_, ?_⟩
  · rw [State.settled_recorded, State.statusRead, State.noteApplied_chan, State.setPort_chan, State.journal_chan]
    exact State.letIn_recorded h.fresh
  · refine State.settled_changesOnly fun q hq _ _ => ?_
    have hports : q ≠ .ports := by
      rintro rfl
      exact hq (by decide)
    exact State.noteApplied_same _ (State.setPort_same _ _ hports (State.journal_same _ _
      (State.letIn_same _ _ _ _ _ _ (List.ne_of_not_mem_cons hq) (State.cleared_same r (Part.Same.refl s q)))))
  · simp only [State.settled_ports, State.statusRead, State.noteApplied_ports, State.setPort_ports, State.journal_ports, State.letIn_ports,
      State.cleared_ports]
    rfl

/-! PORT_STATUS_ALL, once its descriptor list has arrived. -/

/-- What it leaves when its buffer holds the statuses: ACCEPTED, every θ restarted, and the buffer to write. -/
def State.statusesRead (r : Request) (s : State) : State :=
  ((((s.cleared r).letIn 0x020A r false .accepted 0 [] 0).restartThetas).noteApplied r.ref).await cmdPortStatusAll r false true
    (.output ((s.judged r).ports.toList.flatMap Port.status) [])

/-- The statuses of every port fill a buffer of 40960 bytes. -/
theorem checkOwn_portStatusAll (h : s.Admits cmdPortStatusAll r) {n : Nat} (hn : 40960 ≤ n) :
    (s.cleared r).checkOwn cmdPortStatusAll r n false = s.statusesRead r := by
  rw [h.checkOwn rfl]
  simp only [cmdPortStatusAll, Nat.not_lt.2 hn, if_false]
  simp only [State.answer, Reply.reads, Nat.not_lt_zero, if_false, List.isEmpty_iff, statuses_ne_nil (s.judged r)]
  rfl

theorem checkOwn_portStatusAll_short (h : s.Admits cmdPortStatusAll r) {n : Nat} (hn : n < 40960) :
    (s.cleared r).checkOwn cmdPortStatusAll r n false = (s.cleared r).refuse 0x020A r false .errLength detailList [] := by
  rw [h.checkOwn rfl]
  simp only [cmdPortStatusAll, hn, if_true]
  rfl

theorem State.statusesRead_chan (j : Fin 8) :
    (s.statusesRead r).chan j = ((s.cleared r).letIn 0x020A r false .accepted 0 [] 0).chan j :=
  State.noteApplied_chan r.ref j _

theorem State.statusesRead_waiting : (s.statusesRead r).host.waiting = s.host.waiting ++ [{
    opcode := 0x020A, request := r, wait := .output ((s.judged r).ports.toList.flatMap Port.status) [], accepted := true, ring := false }] := by
  rw [State.statusesRead, State.await_waiting, State.noteApplied_waiting, State.restartThetas_waiting, State.letIn_waiting]
  rfl

theorem State.statusesRead_ports : (s.statusesRead r).ports = s.ports.map Port.restartTheta :=
  State.noteApplied_ports r.ref _

theorem State.statusesRead_same {q : Part} (hchannels : q ≠ .channels) (hrequests : q ≠ .requests) (hports : q ≠ .ports) :
    Part.Same s (s.statusesRead r) q :=
  State.await_same _ _ _ _ _ hrequests (State.noteApplied_same _ (State.restartThetas_same hports
    (State.letIn_same _ _ _ _ _ _ hchannels (State.cleared_same r (Part.Same.refl s q)))))

theorem State.statusesRead_noWork (h : s.noWork) : (s.statusesRead r).noWork := by
  intro j
  rw [State.statusesRead_chan]
  exact State.letIn_noWork 0x020A r .accepted 0 [] 0 (s := s.cleared r) h j

theorem State.refuse_noWork {op : BitVec 16} {st : Status} {d : Nat} {res : List Byte} (h : s.noWork) : (s.refuse op r false st d res).noWork :=
  State.letIn_noWork op r st d res 0 h

/-- The list ends the wait of PORT_STATUS_ALL, and its own checks decide. -/
theorem exec_portStatusAll_list {ds : List Byte} {n : Nat} {u : State} (h : s.Admits cmdPortStatusAll r) (hl : s.Lists r ds n)
    (hu : (s.cleared r).checkOwn cmdPortStatusAll r n false = u) (hw : u.noWork) :
    ∃ t, exec (.portStatusAll r) s = .next t ∧ s.AwaitsList t cmdPortStatusAll r
      ∧ exec (.hostDmaDone r.channel r.token ds) t = .next (s.settled u) := by
  obtain ⟨hwaiting, hrest, hlater, hwindows⟩ := h.waits rfl
  refine ⟨_, rfl, ⟨hwaiting, hrest, hlater, hwindows⟩, ?_⟩
  rw [hl.request h rfl, exec_hostDmaDone ((hl.dmaDone rfl).trans hu) hw]
  rfl

/-- PORT_STATUS_ALL (R115, R348). -/
theorem portStatusAll_answers {ds : List Byte} {n : Nat} (h : s.Admits cmdPortStatusAll r) (hl : s.Lists r ds n) {v : State}
    (hv : v = s.judged r) :
    (40960 ≤ n → ∃ t u, exec (.portStatusAll r) s = .next t ∧ s.AwaitsList t cmdPortStatusAll r
      ∧ exec (.hostDmaDone r.channel r.token ds) t = .next u ∧ u.Recorded r .accepted 0 []
      ∧ s.AwaitsBuffer u cmdPortStatusAll r (.output (v.ports.toList.flatMap Port.status) []) true
      ∧ s.ChangesOnly u [.channels, .requests, .ports] ∧ u.ports = s.ports.map (fun q => { q with thetaSeen := false })) ∧
    (n < 40960 → ∃ t u, exec (.portStatusAll r) s = .next t ∧ s.AwaitsList t cmdPortStatusAll r
      ∧ exec (.hostDmaDone r.channel r.token ds) t = .next u ∧ s.Refuses u r .errLength 0xFFFFFFFD []) := by
  subst hv
  have hidle : s.noWork := hl.quiet.2
  refine ⟨fun hn => ?_, fun hn => ?_⟩
  · obtain ⟨t, ht, hwaits, hu⟩ := exec_portStatusAll_list h hl (checkOwn_portStatusAll h hn) (State.statusesRead_noWork hidle)
    refine ⟨t, _, ht, hwaits, hu, ⟨acceptedEntry 0x020A r .accepted 0 [] 0 (s.cleared r), ?_, rfl, rfl, rfl⟩, ?_, ?_, ?_⟩
    · rw [State.settled_recorded, State.statusesRead_chan]
      exact State.letIn_recorded h.fresh
    · rw [State.AwaitsBuffer, State.settled_host_waiting]
      exact State.statusesRead_waiting
    · refine State.settled_changesOnly fun q hq _ _ => ?_
      obtain ⟨hchannels, hrequests, hports⟩ : q ≠ .channels ∧ q ≠ .requests ∧ q ≠ .ports := by simpa using hq
      exact State.statusesRead_same hchannels hrequests hports
    · exact (State.settled_ports ..).trans State.statusesRead_ports
  · obtain ⟨t, ht, hwaits, hu⟩ := exec_portStatusAll_list h hl (checkOwn_portStatusAll_short h hn) (State.refuse_noWork (s := s.cleared r) hidle)
    exact ⟨t, _, ht, hwaits, hu, State.refuses_refuse h.fresh ..⟩

end PortStatus

/-- Settles O41, command by command: the range of a request that the statement names is met, and `p` is the port it names. -/
theorem portCommandsAnswerAndTakeEffect : Obligations.PortCommandsAnswerAndTakeEffect := by
  intro s v r p hv hu
  have hp : p = r.port 0 := Request.port_of_u hu
  exact ⟨fun hz h => portEnable_answers (portRange_none hu hz) h hv hp,
    fun hz h => portDisable_answers (portRange_none hu hz) h hv hp,
    fun hz h => portStop_answers (portRange_none hu hz) h hv hp,
    fun hz h => portRestart_answers (portRange_none hu hz) h hv hp,
    fun hr h => portSet_answers hr h hv hp,
    fun hr h => portFormats_answers hr h hv hp,
    fun hr h _ hformats => portBundles_answers hr h hv hp hformats,
    fun hz h => portStatus_answers (portRange_none hu hz) h hv hp,
    fun _ _ h hl => portStatusAll_answers h hl hv⟩

end Sys2Proof.Machine

/-! SUPPORT. The timers of a line port (R70, R82 to R92): each of their rows changes its own port alone, and the statement says how. -/
namespace Sys2Proof.Machine

/-- From `s` on, no port but `p` has changed and no other part; the port stands as `q`. -/
structure State.PortBecomes (s : State) (p : PortNo) (q : Port) (t : State) : Prop where
  parts  : ∀ x, x ≠ Part.ports → Part.Same s t x
  own    : t.port p = q
  others : ∀ j : PortNo, j ≠ p → t.port j = s.port j

theorem State.PortBecomes.refl (s : State) (p : PortNo) : s.PortBecomes p (s.port p) s :=
  ⟨fun x _ => Part.Same.refl s x, rfl, fun _ _ => rfl⟩

section PortBecomes
variable {s u : State} {p : PortNo} {q : Port} (h : s.PortBecomes p q u)
include h

theorem State.PortBecomes.setPort (f : Port → Port) : s.PortBecomes p (f q) (u.setPort p f) where
  parts x hx := State.setPort_same p f hx (h.parts x hx)
  own := by rw [State.setPort_port, if_pos rfl, h.own]
  others j hj := by rw [State.setPort_port, if_neg hj, h.others j hj]

theorem State.PortBecomes.setDefect (d : Defect) (on : Bool) : s.PortBecomes p (q.putDefect d on) (u.setDefect p d on) where
  parts x hx := State.setDefect_same p d on hx (h.parts x hx)
  own := by rw [State.setDefect_port, if_pos rfl, h.own]
  others j hj := by rw [State.setDefect_port, if_neg hj, h.others j hj]

theorem State.PortBecomes.setPortMode (m : PortMode) : s.PortBecomes p (q.entering m s.clock.tick) (u.setPortMode p m) where
  parts x hx := State.setPortMode_same p m hx (h.parts x hx)
  own := by
    have hclock : u.clock = s.clock := h.parts .clock (by decide)
    rw [State.setPortMode_port, if_pos rfl, h.own, hclock]
  others j hj := by rw [State.setPortMode_port, if_neg hj, h.others j hj]

theorem State.PortBecomes.loseAlignment :
    s.PortBecomes p ((q.unaligned.putDefect .lof true).putDefect .lop false) (u.loseAlignment p) :=
  ((h.setPort Port.unaligned).setDefect .lof true).setDefect .lop false

theorem State.PortBecomes.raise (src item : Nat) (a : Action) (p0 p1 p2 : Nat) : s.PortBecomes p q (u.raise src item a p0 p1 p2) where
  parts x hx := State.raise_same _ _ _ _ _ _ (h.parts x hx)
  own := by rw [State.raise_port, h.own]
  others j hj := by rw [State.raise_port, h.others j hj]

/-- A step with such effects changes only the ports, and of them only this one. -/
theorem State.PortBecomes.settled : s.ChangesOnly (s.settled u) [.ports] ∧ (s.settled u).port p = q
    ∧ ∀ j : PortNo, j ≠ p → (s.settled u).port j = s.port j :=
  ⟨State.settled_changesPorts h.parts, by rw [State.settled_port, h.own], fun j hj => by rw [State.settled_port, h.others j hj]⟩

end PortBecomes

/-- A step without effects completes and changes nothing. -/
theorem State.settled_unchanged {s u : State} (h : u = s) :
    ∃ t, (.next (s.settled u) : Host.Outcome State Fault Refusal) = .next t ∧ s.ChangesOnly t [] :=
  ⟨s.settled s, by rw [h], State.settled_self_changesNothing s⟩

/-! The rows of the defects (R70, R82, R83, R88), and what each does when its condition does not hold. -/

section Timers
variable {s : State} {p : PortNo}

@[simp] theorem Port.has_unaligned (d : Defect) (q : Port) : q.unaligned.has d = q.has d := rfl
@[simp] theorem Port.unaligned_mode (q : Port) : q.unaligned.mode = q.mode := rfl
@[simp] theorem Port.unaligned_aligner (q : Port) : q.unaligned.aligner = .hunt := rfl
@[simp] theorem Port.putDefect_aligner (d : Defect) (on : Bool) (q : Port) : (q.putDefect d on).aligner = q.aligner := rfl

theorem Port.receiving_iff {q : Port} : q.receiving = true ↔ q.mode ≠ .down := bne_iff_ne

theorem State.declareLos_receiving (h : (s.port p).mode ≠ .down) :
    s.PortBecomes p ((((s.port p).putDefect .los true).unaligned.putDefect .lof true).putDefect .lop false) (s.declareLos p) := by
  rw [State.declareLos, if_pos (Port.receiving_iff.2 h)]
  exact ((State.PortBecomes.refl s p).setDefect .los true).loseAlignment

theorem State.declareLos_down (h : (s.port p).mode = .down) : s.declareLos p = s :=
  if_neg fun hreceiving => Port.receiving_iff.1 hreceiving h

/-- A port whose window has ended, before SD is judged. -/
def Port.windowEnded (q : Port) : Port := { q with winSymbols := 0, winBad := 0, lastSer := q.winSymbols + 16 * q.winBad }

@[simp] theorem Port.has_windowEnded (d : Defect) (q : Port) : q.windowEnded.has d = q.has d := rfl

/-- The window's count is kept as the last error ratio, and SD follows its two thresholds (R70). -/
theorem State.endSdWindow_port (s : State) (p : PortNo) {n : Nat} (hn : n = (s.port p).winSymbols + 16 * (s.port p).winBad) :
    ∃ q, s.PortBecomes p q (s.endSdWindow p) ∧ q.winSymbols = 0 ∧ q.winBad = 0 ∧ q.lastSer = n
      ∧ q.has .sd = (if (s.port p).sdSet.1.val * (65536 * 5440) < n * 10 ^ (s.port p).sdSet.2.val then true
          else if n * 10 ^ (s.port p).sdClear.2.val < (s.port p).sdClear.1.val * (65536 * 5440) then false else (s.port p).has .sd)
      ∧ ∀ d : Defect, d ≠ .sd → q.has d = (s.port p).has d := by
  subst hn
  unfold State.endSdWindow serSymbols
  extract_lets q n above under ended
  have hended : s.PortBecomes p q.windowEnded ended :=
    (State.PortBecomes.refl s p).setPort fun x => { x with winSymbols := 0, winBad := 0, lastSer := n }
  split
  · exact ⟨_, hended.setDefect .sd true, rfl, rfl, rfl, by simp, fun d hd => by simp [hd, q]⟩
  split
  · exact ⟨_, hended.setDefect .sd false, rfl, rfl, rfl, by simp, fun d hd => by simp [hd, q]⟩
  · exact ⟨_, hended, rfl, rfl, rfl, Port.has_windowEnded .., fun d _ => Port.has_windowEnded d q⟩

theorem State.clearUls_due (hslip : (s.port p).slip = 0) (hframes : 4194304 ≤ (s.port p).sinceSlip) :
    s.PortBecomes p ((s.port p).putDefect .uls false) (s.clearUls p) := by
  rw [State.clearUls, if_pos ⟨hslip, hframes⟩]
  exact (State.PortBecomes.refl s p).setDefect .uls false

theorem State.clearUls_early (h : (s.port p).slip ≠ 0 ∨ (s.port p).sinceSlip < 4194304) : s.clearUls p = s :=
  if_neg fun ⟨hslip, hframes⟩ => h.elim (· hslip) (Nat.not_lt.2 hframes)

theorem State.traceTimeout_due (hmode : (s.port p).mode ≠ .stopped) (haligner : (s.port p).aligner = .sync)
    (hfound : (s.port p).trace.found = false) (hframes : 256 ≤ (s.port p).trace.since) :
    s.PortBecomes p ((s.port p).putDefect .tim true) (s.traceTimeout p) := by
  have hchecks : (s.port p).checksRun = true := by simp [Port.checksRun, hmode]
  rw [State.traceTimeout, if_pos ⟨hchecks, haligner, hfound, hframes⟩]
  exact (State.PortBecomes.refl s p).setDefect .tim true

theorem State.traceTimeout_found (h : (s.port p).trace.found = true) : s.traceTimeout p = s :=
  if_neg fun ⟨_, _, hfound, _⟩ => Bool.false_ne_true (hfound.symm.trans h)

/-! The end of RDI's frames (R85). -/

/-- The defects that drive RDI are the low six bits of DEFECTS. -/
theorem Port.rdiDefect_eq_false {q : Port} : q.rdiDefect = false ↔ q.defects &&& 0x3F = 0 := by
  have hbits : ∀ v : BitVec 8, (v.getLsbD 0 || v.getLsbD 1 || v.getLsbD 2 || v.getLsbD 3 || v.getLsbD 4 || v.getLsbD 5) = false
      ↔ v &&& 0x3F = 0 := by decide
  exact hbits q.defects

/-- The port when RDI's frames have passed. -/
def Port.endRdi (q : Port) : Port := { q with tx := q.tx.endRdi q.rdiDefect }

theorem Port.endRdi_ended {q : Port} (hnone : q.defects &&& 0x3F = 0) (hhold : q.tx.rdiHold = 0) : q.endRdi.tx.rdi = false := by
  simp [Port.endRdi, Transmitter.endRdi, Port.rdiDefect_eq_false.2 hnone, hhold]

theorem Port.endRdi_held {q : Port} (h : q.defects &&& 0x3F ≠ 0 ∨ q.tx.rdiHold ≠ 0) : q.endRdi.tx.rdi = q.tx.rdi := by
  rcases h with hdefects | hhold
  · have hdefect : q.rdiDefect = true := Bool.eq_true_of_not_eq_false (mt Port.rdiDefect_eq_false.1 hdefects)
    simp [Port.endRdi, Transmitter.endRdi, hdefect]
  · simp [Port.endRdi, Transmitter.endRdi, hhold]

/-! The moves between the states of a port (R91, R92, R473). -/

/-- A mask is 0 when none of its bits is set. -/
theorem packBits_eq_zero {bs : List Bool} : packBits bs = 0 ↔ ∀ b ∈ bs, b = false := by
  induction bs with
  | nil => simp [packBits]
  | cons b bs ih => cases b <;> simp [packBits, bit, ih]

/-- The conditions of R92. -/
theorem Port.unmet_eq_zero {q : Port} : q.unmet = 0 ↔ q.aligner = .sync ∧ q.has .lop = false
    ∧ (q.link.keyed = true ∧ q.has .auth = false) ∧ q.has .role = false ∧ q.trace.accepted ≠ none ∧ q.has .tim = false := by
  simp [Port.unmet, packBits_eq_zero, Option.isSome_iff_ne_none]

theorem State.portUp_met (hmode : (s.port p).mode = .training ∨ ((s.port p).mode = .stopped ∧ (s.port p).resuming = true))
    (hmet : (s.port p).unmet = 0) :
    s.PortBecomes p (Port.entering .up s.clock.tick { s.port p with resuming := false, slip := 0, sinceSlip := 0 }) (s.portUp p) := by
  rw [State.portUp, if_pos ⟨hmode, hmet⟩]
  exact ((State.PortBecomes.refl s p).setPort fun x => { x with resuming := false, slip := 0, sinceSlip := 0 }).setPortMode .up

theorem State.portUp_unmet (h : (s.port p).unmet ≠ 0) : s.portUp p = s :=
  if_neg fun ⟨_, hmet⟩ => h hmet

theorem State.trainingTimeout_due (hmode : (s.port p).mode = .training) (hfirst : (s.port p).trainEvent = false)
    (hdue : (s.port p).entered + 4000000 ≤ s.clock.tick) :
    s.PortBecomes p { s.port p with trainEvent := true } (s.trainingTimeout p) := by
  rw [State.trainingTimeout, if_pos ⟨hmode, hfirst, hdue⟩]
  exact ((State.PortBecomes.refl s p).setPort fun x => { x with trainEvent := true }).raise ..

theorem State.tinderTimeout_due (hmode : (s.port p).mode = .training) (hfast : (s.port p).fastTrain = true)
    (hservice : s.host.service = 1) (hdue : (s.port p).entered + 400000 ≤ s.clock.tick) :
    s.PortBecomes p ((s.port p).entering .tinder s.clock.tick) (s.tinderTimeout p) := by
  rw [State.tinderTimeout, if_pos ⟨hmode, hfast, hservice, hdue⟩]
  exact (State.PortBecomes.refl s p).setPortMode .tinder

theorem State.tinderTimeout_over (h : (s.port p).mode ≠ .training ∨ s.host.service ≠ 1) : s.tinderTimeout p = s :=
  if_neg fun ⟨hmode, _, hservice, _⟩ => h.elim (· hmode) (· hservice)

end Timers

/-- Settles O18: each row by what its effects make of the port, and by what stops it. -/
theorem portDefectsAndStatesFollowTheirTimers : Obligations.PortDefectsAndStatesFollowTheirTimers := by
  intro s p
  refine ⟨fun hup => ?losDeclare, fun hdown => State.settled_unchanged (State.declareLos_down hdown), ?losClear,
    fun n hn => ?sdWindowEnd,
    fun hslip hframes => ?ulsClear, fun hearly => State.settled_unchanged (State.clearUls_early hearly),
    fun hmode haligner hfound hframes => ?timAcceptTimeout,
    fun hfound => State.settled_unchanged (State.traceTimeout_found hfound),
    ?rdiHoldEnd,
    fun hmode haligner hlop hkeyed hauth hrole hmessage htim => ?portUp,
    fun hmissing => State.settled_unchanged (State.portUp_unmet fun hmet => ?portUpMissing),
    fun hmode hfirst hdue => ?trainingTimeout,
    fun hmode hfast hservice hdue => ?tinderTrainTimeout,
    fun hover => State.settled_unchanged (State.tinderTimeout_over hover)⟩
  case losDeclare =>
    obtain ⟨hparts, hown, hothers⟩ := (State.declareLos_receiving hup).settled
    refine ⟨_, rfl, hparts, ?_⟩
    rw [hown]
    exact ⟨by simp, by simp, by simp, by simp, by simp, hothers⟩
  case losClear =>
    obtain ⟨hparts, hown, hothers⟩ := ((State.PortBecomes.refl s p).setDefect .los false).settled
    refine ⟨_, rfl, hparts, ?_⟩
    rw [hown]
    exact ⟨by simp, fun d hd => by simp [hd], Port.putDefect_mode .., hothers⟩
  case sdWindowEnd =>
    obtain ⟨q, hbecomes, hsymbols, hbad, hser, hsd, hkept⟩ := State.endSdWindow_port s p hn
    obtain ⟨hparts, hown, hothers⟩ := hbecomes.settled
    refine ⟨_, rfl, hparts, ?_⟩
    rw [hown]
    exact ⟨hsymbols, hbad, hser, hsd, hkept, hothers⟩
  case ulsClear =>
    obtain ⟨hparts, hown, -⟩ := (State.clearUls_due hslip hframes).settled
    refine ⟨_, rfl, hparts, ?_⟩
    rw [hown]
    exact ⟨by simp, fun d hd => by simp [hd]⟩
  case timAcceptTimeout =>
    obtain ⟨hparts, hown, -⟩ := (State.traceTimeout_due hmode haligner hfound hframes).settled
    refine ⟨_, rfl, hparts, ?_⟩
    rw [hown]
    exact ⟨by simp, fun d hd => by simp [hd]⟩
  case rdiHoldEnd =>
    obtain ⟨hparts, hown, -⟩ := ((State.PortBecomes.refl s p).setPort Port.endRdi).settled
    refine ⟨s.settled (s.setPort p Port.endRdi), rfl, hparts, ?_⟩
    rw [hown]
    exact ⟨Port.endRdi_ended, Port.endRdi_held⟩
  case portUp =>
    have hmet := Port.unmet_eq_zero.2 ⟨haligner, hlop, ⟨hkeyed, hauth⟩, hrole, hmessage, htim⟩
    obtain ⟨hparts, hown, hothers⟩ := (State.portUp_met hmode hmet).settled
    refine ⟨_, rfl, hparts, ?_⟩
    rw [hown]
    exact ⟨rfl, rfl, rfl, rfl, rfl, hothers⟩
  case portUpMissing =>
    obtain ⟨haligner, hlop, ⟨hkeyed, hauth⟩, hrole, hmessage, htim⟩ := Port.unmet_eq_zero.1 hmet
    simp [haligner, hlop, hkeyed, hauth, hrole, hmessage, htim] at hmissing
  case trainingTimeout =>
    obtain ⟨hparts, hown, -⟩ := (State.trainingTimeout_due hmode hfirst hdue).settled
    refine ⟨_, rfl, hparts, ?_⟩
    rw [hown]
    exact ⟨rfl, hmode, rfl⟩
  case tinderTrainTimeout =>
    obtain ⟨hparts, hown, hothers⟩ := (State.tinderTimeout_due hmode hfast hservice hdue).settled
    refine ⟨_, rfl, hparts, ?_⟩
    rw [hown]
    exact ⟨rfl, rfl, hothers⟩

end Sys2Proof.Machine

/-! SUPPORT. The state right after reset (R70, R307 to R311, R475, R493, R529, R554): its parts that are vectors, entry by entry, and
the statement about its values. -/
namespace Sys2Proof.Machine

theorem State.reset_port (p : PortNo) : State.reset.port p = Port.reset := Vector.getElem_replicate ..

theorem State.reset_chan (j : Fin 8) : State.reset.chan j = Channel.reset := Vector.getElem_replicate ..

theorem ProtState.reset_groups (g : Fin 256) : ProtState.reset.groups[g] = none := Vector.getElem_replicate ..

/-- The domains that are ON are the always-on ones (R554, R555). -/
theorem PowerState.reset_on_iff (d : Fin 56) : PowerState.reset.modes[d] = .on ↔ d.val = 47 ∨ 52 ≤ d.val := by
  have hmode : PowerState.reset.modes[d] = if d.val = 47 ∨ 52 ≤ d.val then DomainMode.on else .off := Vector.getElem_ofFn ..
  rw [hmode]
  split
  case isTrue h => exact iff_of_true rfl h
  case isFalse h => exact iff_of_false DomainMode.noConfusion h

/-- The memories are empty at reset, and no response is kept back. -/
theorem State.reset_inv : State.reset.Inv where
  fabric := rfl
  flash := rfl
  outbox _ := rfl

/-- Settles O54: the vectors entry by entry, and every other field as `State.reset` gives it. -/
theorem resetMeetsTheInvariantAndTheSpecsValues : Obligations.ResetMeetsTheInvariantAndTheSpecsValues := by
  refine ⟨State.reset_inv, rfl, rfl, rfl, fun j => ?_, rfl, rfl, rfl, rfl, rfl, rfl, rfl, rfl, rfl, rfl, rfl, fun p => ?_,
    ProtState.reset_groups, rfl, rfl, PowerState.reset_on_iff, rfl⟩
  · rw [State.reset_chan]
    exact ⟨rfl, rfl, rfl, rfl, rfl, rfl, rfl⟩
  · rw [State.reset_port]
    exact ⟨rfl, rfl, rfl⟩
end Sys2Proof.Machine

/-! SUPPORT. The parts of the state that the events of the map change, and the ends of commands in the steps that they end in
(R317, R343). -/
namespace Sys2Proof.Machine

/-- An update of the map state leaves the other parts. -/
theorem Part.Same.withMap {s u : State} {q : Part} (x : MapState) (h0 : q ≠ .map) (h : Part.Same s u q) :
    Part.Same s { u with map := x } q := by
  cases q
  case map => exact absurd rfl h0
  all_goals exact h

/-- A step whose effects leave every part but one changes only that part. -/
theorem State.settled_changesOne {s u : State} {a : Part} (h : ∀ q, q ≠ a → Part.Same s u q) : s.ChangesOnly (s.settled u) [a] :=
  State.settled_changesOnly fun q hq _ _ => h q (List.ne_of_not_mem_cons hq)

/-- A step whose effects leave every part but two changes only those. -/
theorem State.settled_changesTwo {s u : State} {a b : Part} (h : ∀ q, q ≠ a → q ≠ b → Part.Same s u q) :
    s.ChangesOnly (s.settled u) [a, b] :=
  State.settled_changesOnly fun q hq _ _ =>
    h q (List.ne_of_not_mem_cons hq) (List.ne_of_not_mem_cons (List.not_mem_of_not_mem_cons hq))

/-- A step whose effects leave every part but three changes only those. -/
theorem State.settled_changesThree {s u : State} {a b c : Part} (h : ∀ q, q ≠ a → q ≠ b → q ≠ c → Part.Same s u q) :
    s.ChangesOnly (s.settled u) [a, b, c] :=
  State.settled_changesOnly fun q hq _ _ =>
    have hrest := List.not_mem_of_not_mem_cons hq
    h q (List.ne_of_not_mem_cons hq) (List.ne_of_not_mem_cons hrest)
      (List.ne_of_not_mem_cons (List.not_mem_of_not_mem_cons hrest))

/-- Posting the responses of a step leaves the completions that it has recorded. -/
theorem State.Ended.settled {s u : State} {c : CommandRef} {st : Status} {res : List Byte} (h : s.Ended u c st res) :
    s.Ended (s.settled u) c st res := by
  intro e he
  obtain ⟨e', he', hrest⟩ := h e he
  exact ⟨e', by rwa [Channel.recorded, State.settled_chan_window], hrest⟩

/-- A completion ends its command. -/
theorem State.complete_ended {s u : State} {c : CommandRef} (h : u.chan c.channel = s.chan c.channel) (st : Status) (d : Nat)
    (res : List Byte) : s.Ended (u.complete c st d res) c st res :=
  fun _ he => ⟨_, State.complete_recorded st d res (h ▸ he), rfl, rfl, rfl⟩

end Sys2Proof.Machine

/-! SUPPORT. The planes of the centre stage (R99, R107, R109, R356): what the end of a test, of a drain and of a scrub makes of a
plane, and the statement about them. -/
namespace Sys2Proof.Machine

theorem State.setPlaneMode_map (k : Fin 4) (m : PlaneMode) (s : State) :
    (s.setPlaneMode k m).map
      = { s.map with planes := s.map.planes.set k { s.map.planes[k] with mode := m, passes := 0 } } := by
  simp [State.setPlaneMode]

theorem State.setPlaneMode_commands (k : Fin 4) (m : PlaneMode) (s : State) :
    (s.setPlaneMode k m).map.planes[k].commands = s.map.planes[k].commands := by
  simp [State.setPlaneMode_map]

theorem State.setPlaneMode_mode (k : Fin 4) (m : PlaneMode) (s : State) : (s.setPlaneMode k m).map.planes[k].mode = m := by
  simp [State.setPlaneMode_map]

/-- A plane without commands that wait for it answers none. -/
theorem State.answerPlane_none {s : State} {k : Fin 4} (h : s.map.planes[k].commands = []) (st : Status) :
    s.answerPlane k st = s.setPlane k (fun q => { q with commands := [] }) := by
  simp only [State.answerPlane, h, List.foldl_nil]

/-- The one command that waits for a plane ends with the plane's state (R356). -/
theorem State.answerPlane_one {s : State} {k : Fin 4} {c : CommandRef} (h : s.map.planes[k].commands = [c]) (st : Status) :
    s.answerPlane k st
      = (s.setPlane k (fun q => { q with commands := [] })).complete c st 0 [BitVec.ofNat 8 s.map.planes[k].mode.code] := by
  simp only [State.answerPlane, h, List.foldl_cons, List.foldl_nil]

/-- The map with one plane in a new state, and no command waiting for it. -/
def MapState.planeSettled (k : Fin 4) (m : PlaneMode) (x : MapState) : MapState :=
  { x with planes := x.planes.set k { x.planes[k] with mode := m, passes := 0, commands := [] } }

theorem MapState.planeSettled_self (k : Fin 4) (m : PlaneMode) (x : MapState) :
    (x.planeSettled k m).planes[k] = { x.planes[k] with mode := m, passes := 0, commands := [] } :=
  Vector.getElem_set_self k.isLt

theorem MapState.planeSettled_other {j k : Fin 4} (h : j ≠ k) (m : PlaneMode) (x : MapState) :
    (x.planeSettled k m).planes[j] = x.planes[j] :=
  Vector.getElem_set_ne k.isLt j.isLt (fun e => h (Fin.ext e.symm))

/-- A plane in a new state, with the event of the change, when no command waits for it any more (R473). -/
def State.settlePlane (k : Fin 4) (m : PlaneMode) (s : State) : State :=
  (s.setPlaneMode k m).setPlane k (fun q => { q with commands := [] })

theorem State.settlePlane_map (k : Fin 4) (m : PlaneMode) (s : State) : (s.settlePlane k m).map = s.map.planeSettled k m := by
  rw [State.settlePlane, State.setPlane_map, State.setPlaneMode_map]
  simp [MapState.planeSettled]

theorem State.settlePlane_chan (k : Fin 4) (m : PlaneMode) (j : Fin 8) (s : State) : (s.settlePlane k m).chan j = s.chan j := by
  simp [State.settlePlane, State.setPlaneMode]

theorem State.settlePlane_same {s : State} {q : Part} (k : Fin 4) (m : PlaneMode) (h0 : q ≠ .map) : Part.Same s (s.settlePlane k m) q :=
  State.setPlane_same k _ h0 (State.setPlaneMode_same k m h0 (Part.Same.refl s q))

section Tested
variable {s : State} {k : Fin 4} (hmode : s.map.planes[k].mode = .testing) (hpasses : 65536 ≤ s.map.planes[k].passes)

include hmode hpasses

/-- A plane whose test has passed goes ON and answers the commands that wait for it (R107, R356). -/
theorem State.planeTested_passed : s.planeTested k = (s.setPlaneMode k .on).answerPlane k .ok := by
  exact if_pos (by rw [hmode, decide_eq_true hpasses]; rfl)

theorem State.planeTested_one {c : CommandRef} (hc : s.map.planes[k].commands = [c]) :
    s.planeTested k = (s.settlePlane k .on).complete c .ok 0 [BitVec.ofNat 8 PlaneMode.on.code] := by
  rw [State.planeTested_passed hmode hpasses, State.answerPlane_one (by rw [State.setPlaneMode_commands, hc]), State.setPlaneMode_mode,
    State.settlePlane]

theorem State.planeTested_none (hc : s.map.planes[k].commands = []) :
    s.planeTested k = s.settlePlane k .on := by
  rw [State.planeTested_passed hmode hpasses, State.answerPlane_none (by rw [State.setPlaneMode_commands, hc]),
    State.settlePlane]

end Tested

theorem State.planeTested_early {s : State} {k : Fin 4} (h : s.map.planes[k].passes < 65536) : s.planeTested k = s := by
  exact if_neg (by rw [decide_eq_false (Nat.not_le.2 h), Bool.and_false]; exact Bool.false_ne_true)

section Drained
variable {s : State} {k : Fin 4}

/-- A drained plane goes OFF when neither bank in force, nor one that is committed, uses it (R107). -/
theorem State.planeDrained_free (hmode : s.map.planes[k].mode = .draining) (hactive : s.map.active.planesUsed.contains k.val = false)
    (hshadow : (s.map.shadowMode ≠ .scheduled ∧ s.map.swap = none) ∨ s.map.shadow.planesUsed.contains k.val = false) :
    s.planeDrained k = s.planeOff k := by
  have hcommitted : (!s.shadowCommitted || !s.map.shadow.planesUsed.contains k.val) = true := by
    obtain ⟨hscheduled, hswap⟩ | hfree := hshadow
    · simp [State.shadowCommitted, hscheduled, hswap]
    · rw [hfree, Bool.not_false, Bool.or_true]
  simp only [State.planeDrained, hmode, hactive, hcommitted]
  rfl

theorem State.planeDrained_used (h : s.map.active.planesUsed.contains k.val = true) : s.planeDrained k = s := by
  simp only [State.planeDrained, h, Bool.not_true, Bool.and_false, Bool.false_and, Bool.false_eq_true, if_false]

/-- The answer to a plane's commands, when none waits, after its domain was asked to leave ON. -/
theorem State.requestDomain_answered (hc : s.map.planes[k].commands = []) (hw : s.pwr.waiting = []) (hr : s.pwr.running = none)
    (hm : s.pwr.modes[planeDomain k] ≠ .off) :
    (s.requestDomain (planeDomain k) .off .device).answerPlane k .ok = { s.setPlane k (fun q => { q with commands := [] }) with
      pwr := { s.pwr with waiting := [DomainRequest.mk (planeDomain k) .off [.device] s.clock.tick false false] } } := by
  rw [State.requestDomain_waits .device hr hw hm, State.answerPlane_none (by exact hc)]
  rfl

/-- A plane that goes OFF asks its power domain to follow (R107). -/
theorem State.planeOff_quiet (hc : s.map.planes[k].commands = []) (hw : s.pwr.waiting = []) (hr : s.pwr.running = none)
    (hon : s.pwr.modes[planeDomain k] = .on) :
    s.planeOff k = { s.settlePlane k .off with
      pwr := { s.pwr with waiting := [DomainRequest.mk (planeDomain k) .off [.device] s.clock.tick false false] } } := by
  have hpwr : (s.setPlaneMode k .off).pwr = s.pwr := State.setPlaneMode_same (s := s) (q := .pwr) k .off (by decide) rfl
  have hclock : (s.setPlaneMode k .off).clock = s.clock := State.setPlaneMode_same (s := s) (q := .clock) k .off (by decide) rfl
  refine (State.requestDomain_answered ((State.setPlaneMode_commands k .off s).trans hc) (by rw [hpwr, hw]) (by rw [hpwr, hr])
    (by rw [hpwr, hon]; decide)).trans ?_
  rw [hpwr, hclock, State.settlePlane]

end Drained

/-- A correctable error is counted, in the map and in the plane's counter, with its event (R99). -/
theorem State.bankError_corrected {x : BankError} {k : Fin 4} (hx : x.correctable = true) (hk : x.plane = some k) (s : State) :
    s.bankError x = State.raise (360 + k.val) 3 .occurrence k.val 0 0
      (State.tally 2 k.val 3 1 { s with map := { s.map with corrected := s.map.corrected + 1 } }) := by
  simp only [State.bankError, hx, hk, if_true]

/-- An uncorrectable error in the active bank marks its plane for the fault (R109). -/
theorem State.bankError_marks {x : BankError} {k : Fin 4} (hx : x.correctable = false) (ha : x.active = true) (hk : x.plane = some k)
    (s : State) : s.bankError x = { s with map := { s.map with badPlanes := k :: s.map.badPlanes } } := by
  simp only [State.bankError, hx, ha, hk, Bool.false_eq_true, if_false, if_true]

theorem exec_bankScrub_one (x : BankError) (s : State) : exec (.bankScrub [x]) s = .next (s.settled (s.bankError x)) := rfl

/-- PLANE_TEST_PASSED for a PLANE_SET that waits. -/
theorem exec_planeTestPassed_one {s : State} {k : Fin 4} {c : CommandRef} (hmode : s.map.planes[k].mode = .testing)
    (hpasses : 65536 ≤ s.map.planes[k].passes) (hc : s.map.planes[k].commands = [c]) :
    ∃ t, exec (.planeTestPassed k) s = .next t ∧ s.ChangesOnly t [.map, .channels] ∧ t.map = s.map.planeSettled k .on
      ∧ s.Ended t c .ok [BitVec.ofNat 8 PlaneMode.on.code] := by
  have heq := State.planeTested_one hmode hpasses hc
  refine ⟨_, rfl, State.settled_changesTwo fun q hmap hchan => ?_, ?_, State.Ended.settled ?_⟩
  all_goals rw [heq]
  · exact State.complete_same _ _ _ _ hchan (State.settlePlane_same k .on hmap)
  · rw [State.settled_map, State.complete_map, State.settlePlane_map]
  · exact State.complete_ended (State.settlePlane_chan k .on _ s) _ _ _

/-- PLANE_DRAINED for a plane that nothing uses. -/
theorem exec_planeDrained_free {s : State} {k : Fin 4} (hmode : s.map.planes[k].mode = .draining)
    (hactive : s.map.active.planesUsed.contains k.val = false)
    (hshadow : (s.map.shadowMode ≠ .scheduled ∧ s.map.swap = none) ∨ s.map.shadow.planesUsed.contains k.val = false)
    (hc : s.map.planes[k].commands = []) (hw : s.pwr.waiting = []) (hr : s.pwr.running = none)
    (hon : s.pwr.modes[planeDomain k] = .on) :
    ∃ t, exec (.planeDrained k) s = .next t ∧ s.ChangesOnly t [.map, .pwr] ∧ t.map = s.map.planeSettled k .off
      ∧ t.pwr.waiting = [DomainRequest.mk (planeDomain k) .off [.device] s.clock.tick false false] := by
  have heq := (State.planeDrained_free hmode hactive hshadow).trans (State.planeOff_quiet hc hw hr hon)
  refine ⟨_, rfl, State.settled_changesTwo fun q hmap hpwr => ?_, ?_, ?_⟩
  all_goals rw [heq]
  · exact (State.settlePlane_same k .off hmap).withPwr _ hpwr
  · exact (State.settled_map _ _).trans (State.settlePlane_map k .off s)
  · rw [State.settled_pwr]

/-- Settles O20: each event by what it makes of the plane, and of the map beside the planes. -/
theorem planesMoveThroughTheirStates : Obligations.PlanesMoveThroughTheirStates := by
  intro s k
  refine ⟨fun c hmode hpasses hc => ?_, fun hmode hc hpasses => ?_, fun h => State.settled_unchanged (State.planeTested_early h),
    fun hmode hactive hshadow hc hw hr hon => ?_, fun h => State.settled_unchanged (State.planeDrained_used h),
    State.settled_unchanged rfl, fun x hx hk => ?_, fun x hx ha hk => ?_⟩
  · obtain ⟨t, ht, hparts, hmap, hended⟩ := exec_planeTestPassed_one hmode hpasses hc
    refine ⟨t, ht, hparts, ?_⟩
    rw [hmap, MapState.planeSettled_self]
    exact ⟨rfl, rfl, hended, rfl, rfl, fun j hj => MapState.planeSettled_other hj .on s.map⟩
  · have heq := State.planeTested_none hmode hpasses hc
    refine ⟨_, rfl, State.settled_changesOne fun q hq => ?_, ?_⟩
    · exact heq ▸ State.settlePlane_same k .on hq
    · rw [State.settled_map, heq, State.settlePlane_map, MapState.planeSettled_self]
  · obtain ⟨t, ht, hparts, hmap, hwaiting⟩ := exec_planeDrained_free hmode hactive hshadow hc hw hr hon
    refine ⟨t, ht, hparts, ?_⟩
    rw [hmap, MapState.planeSettled_self]
    exact ⟨rfl, ⟨_, hwaiting, rfl, rfl⟩, rfl⟩
  · refine ⟨_, exec_bankScrub_one x s, State.settled_changesTwo fun q hmap hperf => ?_, ?_⟩
    all_goals rw [State.bankError_corrected hx hk]
    · exact State.raise_same _ _ _ _ _ _ (State.tally_same _ _ _ _ hperf ((Part.Same.refl s q).withMap _ hmap))
    · rw [State.settled_map, State.raise_map, State.tally_map]
  · refine ⟨_, exec_bankScrub_one x s, State.settled_changesOne fun q hq => ?_, ?_⟩
    all_goals rw [State.bankError_marks hx ha hk]
    · exact (Part.Same.refl s q).withMap _ hq
    · rw [State.settled_map]

end Sys2Proof.Machine

/-! SUPPORT. The answers of the route solver (R104, R105, R108, R112, R130, R133): what a bank that it has built keeps, and when it
may fail. -/
namespace Sys2Proof.Machine

/-- A bank made of a placement carries the list, and keeps R104 and, with four planes ON, R112. -/
theorem SolverQuestion.bank_spec {q : SolverQuestion} {placed : List Placed} {b : Bank} (h : q.bank placed = some b) :
    b.list = q.list ∧ b.twoPositions = true ∧ (q.planesOn.length = 4 → b.pairsApart = true) := by
  unfold SolverQuestion.bank at h
  split at h
  case h_1 => cases h
  case h_2 fed _ =>
    simp only [Option.ite_none_right_eq_some, Bool.and_eq_true, Option.some.injEq] at h
    obtain ⟨⟨⟨⟨⟨⟨-, htwo⟩, -⟩, hapart⟩, -⟩, -⟩, rfl⟩ := h
    exact ⟨rfl, htwo, fun hfour => by simpa [hfour] using hapart⟩

/-- A bank that answers a question is made of a placement, on planes that are ON (R108). -/
theorem SolverQuestion.answer_built {q : SolverQuestion} {b : Bank} (h : q.answer = some (.built b)) :
    (∃ placed, q.bank placed = some b) ∧ q.onPlanes b = true := by
  unfold SolverQuestion.answer at h
  cases hsolve : Config.solve q with
  | placed p =>
    simp only [hsolve] at h
    split at h
    case h_1 b' hbank =>
      split at h
      case isTrue hon =>
        cases h
        exact ⟨⟨p, hbank⟩, hon⟩
      case isFalse => cases (Option.ite_none_left_eq_some.1 h).2
    case h_2 => cases h
  | blocked ids | unplaceable ids | scratch =>
    simp only [hsolve] at h
    cases (Option.ite_none_left_eq_some.1 h).2

/-- A failure answers only a question that nothing guarantees, with a reason that stands for its cause (R105, R133). -/
theorem SolverQuestion.answer_failed {q : SolverQuestion} {reason : Nat} {st : Status} {ids : List (BitVec 32)}
    (h : q.answer = some (.failed reason st ids)) : q.guaranteed = false ∧ ((reason = 0x0B ∧ q.rearrange = false)
      ∨ (reason = 0x0C ∧ q.holds = false) ∨ reason = 0x0E ∨ (reason = 0x0F ∧ st = .errUnusable)) := by
  unfold SolverQuestion.answer at h
  cases hsolve : Config.solve q with
  | placed p =>
    simp only [hsolve] at h
    split at h
    case h_1 =>
      split at h
      case isTrue => cases h
      case isFalse =>
        obtain ⟨hfree, hend⟩ := Option.ite_none_left_eq_some.1 h
        cases hend
        exact ⟨Bool.eq_false_iff.2 hfree, .inr (.inr (.inr ⟨rfl, rfl⟩))⟩
    case h_2 => cases h
  | blocked ids =>
    simp only [hsolve, Option.ite_none_left_eq_some, Bool.or_eq_true, not_or, Bool.not_eq_true] at h
    obtain ⟨⟨hmove, hfree⟩, hend⟩ := h
    cases hend
    exact ⟨hfree, .inl ⟨rfl, hmove⟩⟩
  | unplaceable ids =>
    simp only [hsolve, Option.ite_none_left_eq_some, Bool.or_eq_true, not_or, Bool.not_eq_true] at h
    obtain ⟨⟨hholds, hfree⟩, hend⟩ := h
    cases hend
    exact ⟨hfree, .inr (.inl ⟨rfl, hholds⟩)⟩
  | scratch =>
    simp only [hsolve, Option.ite_none_left_eq_some, Bool.not_eq_true] at h
    obtain ⟨hfree, hend⟩ := h
    cases hend
    exact ⟨hfree, .inr (.inr (.inl rfl))⟩

end Sys2Proof.Machine

/-! SUPPORT. The start and the end of a map job (R132, R135, R136, R343, R350): what they make of the map, what they leave alone, and
the completion that an end records. -/
namespace Sys2Proof.Machine

section Beside
variable {s u : State} {q : Part}

theorem State.startMirroring_same (hmap : q ≠ .map) (h : Part.Same s u q) : Part.Same s u.startMirroring q := h.withMap _ hmap

theorem State.answerJob_same (j : MapJob) (f : MapFailure) (shared : Nat) (hchan : q ≠ .channels) (h : Part.Same s u q) :
    Part.Same s (u.answerJob j f shared) q :=
  State.complete_same _ _ _ _ hchan (State.setChan_same _ _ hchan h)

theorem State.endJob_same (f : MapFailure) (hmap : q ≠ .map) (hchan : q ≠ .channels) (h : Part.Same s u q) :
    Part.Same s (u.endJob f) q := by
  unfold State.endJob
  split
  · exact State.startMirroring_same hmap (State.answerJob_same _ f 0 hchan (h.withMap _ hmap))
  · exact h

theorem State.finishJob_same (b : Bank) (hmap : q ≠ .map) (hchan : q ≠ .channels) (h : Part.Same s u q) :
    Part.Same s (u.finishJob b) q := by
  unfold State.finishJob
  split
  · exact State.answerJob_same _ _ _ hchan (h.withMap _ hmap)
  · exact h

theorem State.runJob_same (j : MapJob) (hmap : q ≠ .map) (hchan : q ≠ .channels) (h : Part.Same s u q) :
    Part.Same s (u.runJob j) q :=
  State.startJob_same _ _ hchan (h.withMap _ hmap)

end Beside

/-- A job that starts runs for its command, from the bank in force and from the next tick (R132). -/
theorem State.runJob_map (j : MapJob) (s : State) : ∃ j', (s.runJob j).map = { s.map with job := some j', shadowMode := .building }
    ∧ j'.command = j.command ∧ j'.base = s.map.active.generation ∧ j'.started = s.clock.tick + 1 :=
  ⟨_, rfl, rfl, rfl, rfl⟩

section Ends
variable {s u : State} {j : MapJob}

/-- The completion of a job carries its base, its reason and its offenders (R350). -/
theorem State.answerJob_ended (h : u.chan j.command.channel = s.chan j.command.channel) (f : MapFailure) (shared : Nat) :
    s.Ended (u.answerJob j f shared) j.command f.status (jobResults j.base f.reason f.offenders shared) := by
  intro e he
  have hreason : ((u.setChan j.command.channel (fun ch => ch.update j.command.token (fun e =>
      { e with reason := BitVec.ofNat 8 f.reason }))).chan j.command.channel).recorded j.command.token
        = some { e with reason := BitVec.ofNat 8 f.reason } := by
    rw [State.setChan_chan, if_pos rfl, h]
    exact Channel.recorded_update (f := fun e => { e with reason := BitVec.ofNat 8 f.reason }) rfl he
  exact ⟨_, State.complete_recorded _ _ _ hreason, rfl, rfl, rfl⟩

@[simp] theorem State.answerJob_map (j : MapJob) (f : MapFailure) (shared : Nat) (s : State) :
    (s.answerJob j f shared).map = s.map :=
  State.answerJob_same (s := s) (q := .map) j f shared (by decide) rfl

theorem State.endJob_running (h : s.map.job = some j) (f : MapFailure) :
    s.endJob f = (State.answerJob j f 0 { s with map := { s.map with job := none } }).startMirroring := by
  simp only [State.endJob, h]

theorem State.finishJob_running (h : s.map.job = some j) (b : Bank) :
    s.finishJob b = State.answerJob j (mapFailure .ok 0 [] 0) b.sharedPairs
      { s with map := { s.map with job := none, shadow := b, shadowMode := .ready } } := by
  simp only [State.finishJob, h]

/-- The map without its job, the shadow bank given back to mirroring (R136). -/
def MapState.jobEnded (now : Nat) (x : MapState) : MapState := { x with job := none, shadowMode := .mirroring, mirrorSince := now }

theorem State.endJob_map (h : s.map.job = some j) (f : MapFailure) : (s.endJob f).map = s.map.jobEnded s.clock.tick := by
  have hclock (v : State) : (v.answerJob j f 0).clock = v.clock :=
    State.answerJob_same (s := v) (q := .clock) j f 0 (by decide) rfl
  rw [State.endJob_running h, State.startMirroring]
  simp only [State.answerJob_map, hclock]
  rfl

theorem State.endJob_ended (h : u.map.job = some j) (hc : u.chan j.command.channel = s.chan j.command.channel) (f : MapFailure) :
    s.Ended (u.endJob f) j.command f.status (jobResults j.base f.reason f.offenders 0) := by
  rw [State.endJob_running h]
  exact State.answerJob_ended (s := s) (u := { u with map := { u.map with job := none } }) hc f 0

/-- An event that ends the running job without a bank. -/
theorem exec_endsJob {c : Instr} {f : MapFailure} (hexec : exec c s = .next (s.settled (s.endJob f))) (hjob : s.map.job = some j) :
    ∃ t, exec c s = .next t ∧ s.ChangesOnly t [.map, .channels] ∧ t.map = s.map.jobEnded s.clock.tick
      ∧ s.Ended t j.command f.status (jobResults j.base f.reason f.offenders 0) :=
  ⟨_, hexec, State.settled_changesTwo fun q hmap hchan => State.endJob_same f hmap hchan (Part.Same.refl s q),
    by rw [State.settled_map, State.endJob_map hjob], (State.endJob_ended hjob rfl f).settled⟩

/-- An event that ends the running job with its bank. -/
theorem exec_finishesJob {c : Instr} {b : Bank} (hexec : exec c s = .next (s.settled (s.finishJob b))) (hjob : s.map.job = some j) :
    ∃ t, exec c s = .next t ∧ s.ChangesOnly t [.map, .channels]
      ∧ t.map = { s.map with job := none, shadow := b, shadowMode := .ready }
      ∧ s.Ended t j.command .ok (jobResults j.base 0 [] b.sharedPairs) := by
  refine ⟨_, hexec, State.settled_changesTwo fun q hmap hchan => State.finishJob_same b hmap hchan (Part.Same.refl s q), ?_, ?_⟩
  · rw [State.settled_map, State.finishJob_running hjob, State.answerJob_map]
  · rw [State.finishJob_running hjob]
    exact (State.answerJob_ended (s := s) (u := { s with map := { s.map with job := none, shadow := b, shadowMode := .ready } }) rfl
      (mapFailure .ok 0 [] 0) b.sharedPairs).settled

end Ends
end Sys2Proof.Machine

/-! SUPPORT. The reports of the solver and of the map engine (R108, R131, R133, R135, R136, R140, R438): which branch each takes. -/
namespace Sys2Proof.Machine

theorem exec_solverJobDone (core : Fin 2) (s : State) :
    exec (.solverJobDone core) s = .next (s.settled (s.solverReports core)) := rfl

theorem exec_solverTimeLimit (s : State) : exec .solverTimeLimit s = .next (s.settled s.solverTime) := rfl

theorem exec_rawMapVerified (s : State) : exec .rawMapVerified s = .next (s.settled s.rawVerified) := rfl

section Reports
variable {s : State}

theorem State.solverReports_working {core : Fin 2} (h : s.mgmt.solverFailed[core] = false) : s.solverReports core = s.solverDone := by
  rw [State.solverReports, h]
  rfl

theorem State.solverReports_failed {core : Fin 2} (h : s.mgmt.solverFailed[core] = true) (hcores : s.solversFailed = false) :
    s.solverReports core = s := by
  rw [State.solverReports, h, hcores]
  rfl

section Building
variable {j : MapJob} (hbuilding : s.map.shadowMode = .building) (hjob : s.map.job = some j)

section Working
variable (hcores : s.solversFailed = false)
include hbuilding hjob hcores

/-- A list that failed its checks ends its job (R129). -/
theorem State.solverDone_bad {f : MapFailure} (hraw : j.raw = false) (hchecked : j.checked = some (.bad f)) :
    s.solverDone = s.endJob f := by
  simp only [State.solverDone, hbuilding, hjob, hcores, hchecked, hraw, Bool.false_eq_true, if_false]

theorem State.rawVerified_bad {f : MapFailure} (hraw : j.raw = true) (hchecked : j.checked = some (.bad f)) :
    s.rawVerified = s.endJob f := by
  simp only [State.rawVerified, hbuilding, hjob, hcores, hchecked, hraw, Bool.false_eq_true, if_false, if_true]

section Scratch
variable (hscratch : s.noScratch = false)
include hscratch

theorem State.rawVerified_passed {b : Bank} (hchecked : j.checked = some (.raw b)) : s.rawVerified = s.finishJob b := by
  simp only [State.rawVerified, hbuilding, hjob, hcores, hchecked, hscratch, Bool.false_eq_true, if_false]

variable {xs : List Connection} {rearrange : Bool} {added : List (BitVec 32)} (hchecked : j.checked = some (.list xs rearrange added))
include hchecked

theorem State.solverDone_built {b : Bank} (h : (s.jobQuestion j xs rearrange added).answer = some (.built b)) :
    s.solverDone = s.finishJob b := by
  simp only [State.solverDone, hbuilding, hjob, hcores, hchecked, hscratch, h, Bool.false_eq_true, if_false]

theorem State.solverDone_failed {reason : Nat} {st : Status} {ids : List (BitVec 32)}
    (h : (s.jobQuestion j xs rearrange added).answer = some (.failed reason st ids)) :
    s.solverDone = s.endJob { status := st, reason := reason, offenders := ids.map (·.toNat), detail := 0 } := by
  simp only [State.solverDone, hbuilding, hjob, hcores, hchecked, hscratch, h, Bool.false_eq_true, if_false]

theorem State.solverDone_unanswered (h : (s.jobQuestion j xs rearrange added).answer = none) : s.solverDone = s := by
  simp only [State.solverDone, hbuilding, hjob, hcores, hchecked, hscratch, h, Bool.false_eq_true, if_false]

end Scratch
end Working

section Bound
variable {xs : List Connection} {rearrange : Bool} {added : List (BitVec 32)} (hchecked : j.checked = some (.list xs rearrange added))
include hjob hchecked

/-- A job of the last row of R132 ends at its bound (R133). -/
theorem State.solverTime_due (hbuilding : s.map.shadowMode = .building) (hraw : j.raw = false)
    (hrow : (s.jobQuestion j xs rearrange added).row = (400000, true)) (hdoubled : s.map.solverDoubled = false)
    (hdue : j.started + 400000 ≤ s.clock.tick) : s.solverTime = s.endJob (mapFailure .errResource 0x0D [] 0) := by
  have hbound : s.jobBound j = (400000, true) := by
    simp only [State.jobBound, hraw, hchecked, hrow, hdoubled, Bool.false_eq_true, if_false]
  simp only [State.solverTime, hjob, hbound]
  exact if_pos (by rw [hbuilding, hraw, decide_eq_true hdue]; rfl)

/-- A job of another row does not end with TIME (R133). -/
theorem State.solverTime_unending (hrow : (s.jobQuestion j xs rearrange added).row.2 = false) : s.solverTime = s := by
  have hends : (s.jobBound j).2 = false := by
    cases hraw : j.raw <;> simp [State.jobBound, hraw, hchecked, hrow]
  simp only [State.solverTime, hjob, hends, Bool.and_false, Bool.false_and, Bool.false_eq_true, if_false]

end Bound
end Building

section Held
variable (hheld : s.map.shadowMode = .held) (hswap : s.map.swap = none) (hstaged : s.casc.staged = none)
  (hcores : s.solversFailed = false) (hscratch : s.noScratch = false)
include hheld hswap hstaged hcores hscratch

theorem State.solverDone_rerouted {b : Bank} (hmode : s.casc.mode = .standalone) (h : s.rerouteQuestion.answer = some (.built b)) :
    s.solverDone = State.scheduleSwap s.earliestSwap false none { s with map := { s.map with shadow := b } } := by
  simp only [State.solverDone, hheld, hswap, hstaged, hcores, hscratch, h, hmode, State.rerouteSwap]
  rfl

theorem State.solverDone_rerouteFails {reason : Nat} {st : Status} {ids : List (BitVec 32)}
    (h : s.rerouteQuestion.answer = some (.failed reason st ids)) : s.solverDone = s.rerouteFails ids := by
  simp only [State.solverDone, hheld, hswap, hstaged, hcores, hscratch, h]
  rfl

theorem State.solverDone_rerouteOpen (h : s.rerouteQuestion.answer = none) : s.solverDone = s := by
  simp only [State.solverDone, hheld, hswap, hstaged, hcores, hscratch, h]
  rfl

end Held
end Reports

/-! The failure of the device's own re-route (R108, R356). -/

/-- A draining plane that the active bank still uses returns to ON, and its PLANE_SETs end with ERR_RESOURCE. -/
def State.planeReturned (s : State) (k : Fin 4) : State :=
  if s.map.planes[k].mode == PlaneMode.draining && s.map.active.planesUsed.contains k.val then
    (s.setPlaneMode k .on).answerPlane k .errResource
  else s

theorem State.answerPlane_map (k : Fin 4) (st : Status) (s : State) :
    (s.answerPlane k st).map = { s.map with planes := s.map.planes.set k { s.map.planes[k] with commands := [] } } := by
  unfold State.answerPlane
  exact List.foldlRecOn (motive := fun u : State => u.map = _) _ _ rfl fun u hu c _ => (State.complete_map ..).trans hu

/-- Such a return changes the planes alone of the map. -/
theorem State.planeReturned_map (s : State) (k : Fin 4) : ∃ planes, (s.planeReturned k).map = { s.map with planes := planes } := by
  unfold State.planeReturned
  split
  · exact ⟨_, (State.answerPlane_map ..).trans (by rw [State.setPlaneMode_map])⟩
  · exact ⟨_, rfl⟩

theorem State.planesReturned_map (ks : List (Fin 4)) (s : State) :
    ∃ planes, (ks.foldl State.planeReturned s).map = { s.map with planes := planes } :=
  List.foldlRecOn (motive := fun u : State => ∃ planes, u.map = { s.map with planes := planes }) ks _ ⟨_, rfl⟩
    fun u ⟨planes, hu⟩ k _ => by
      obtain ⟨planes', hk⟩ := u.planeReturned_map k
      exact ⟨planes', hk.trans (by rw [hu])⟩

/-- The re-route is not wanted any more, with the event of its failure. -/
def State.rerouteDropped (ids : List (BitVec 32)) (s : State) : State :=
  let u := s.raise 364 2 .occurrence oneUnit ids.length 0
  { u with map := { u.map with rerouteWanted := false } }

theorem State.rerouteDropped_map (ids : List (BitVec 32)) (s : State) :
    (s.rerouteDropped ids).map = { s.map with rerouteWanted := false } := by
  simp [State.rerouteDropped]

theorem State.rerouteFails_eq (ids : List (BitVec 32)) (s : State) :
    s.rerouteFails ids = ((List.finRange 4).foldl State.planeReturned (s.rerouteDropped ids)).startMirroring := rfl

/-- After a re-route that failed, the shadow bank mirrors, and the active bank stands. -/
theorem State.rerouteFails_map (ids : List (BitVec 32)) (s : State) :
    ∃ planes now, (s.rerouteFails ids).map
      = { s.map with rerouteWanted := false, planes := planes, shadowMode := .mirroring, mirrorSince := now } := by
  obtain ⟨planes, hmap⟩ := State.planesReturned_map (List.finRange 4) (s.rerouteDropped ids)
  rw [State.rerouteFails_eq, State.startMirroring]
  exact ⟨planes, _, by rw [hmap, State.rerouteDropped_map]⟩

/-! The end of mirroring (R135, R136). -/

/-- The shadow bank equals the active bank (R136). -/
def State.mirrored (m : ShadowMode) (s : State) : State := { s with map := { s.map with shadow := s.map.active, shadowMode := m } }

section Mirroring
variable {s : State} (h : s.map.shadowMode = .mirroring)
include h

theorem State.mirroringDone_idle (hown : (s.map.rerouteWanted && s.host.service == 2) = false) (hq : s.map.queued = none) :
    s.mirroringDone = s.mirrored .mirror := by
  simp only [State.mirroringDone, State.mirrored, h, hown, hq]
  rfl

theorem State.mirroringDone_queued {j : MapJob} (hown : (s.map.rerouteWanted && s.host.service == 2) = false)
    (hq : s.map.queued = some j) :
    s.mirroringDone
      = State.runJob j { s with map := { s.map with shadow := s.map.active, shadowMode := .mirror, queued := none } } := by
  simp only [State.mirroringDone, h, hown, hq]
  rfl

theorem State.mirroringDone_reroute (hwanted : s.map.rerouteWanted = true) (hservice : s.host.service = 2) :
    s.mirroringDone = s.mirrored .held := by
  simp only [State.mirroringDone, State.mirrored, h, hwanted, hservice]
  rfl

end Mirroring

/-! The failure and the repair of a solver core (R438). -/

/-- One core of the two has failed: both have when the other had. -/
theorem all_set_true (v : Vector Bool 2) (i : Fin 2) : (v.set i true).toList.all id = v[1 - i] := by
  match v, i with
  | ⟨⟨[a, b]⟩, _⟩, 0 => simp
  | ⟨⟨[a, b]⟩, _⟩, 1 => simp

/-- One core of the two is repaired: one is still out when the other is. -/
theorem any_set_false (v : Vector Bool 2) (i : Fin 2) : (v.set i false).toList.any id = v[1 - i] := by
  match v, i with
  | ⟨⟨[a, b]⟩, _⟩, 0 => simp
  | ⟨⟨[a, b]⟩, _⟩, 1 => simp

/-- A solver core has failed: its cache lines are lost, and the bounds of jobs are doubled (R438, R441). -/
def State.solverLost (i : Fin 2) (s : State) : State :=
  let u := ((s.setMgmt (fun m => { m with solverFailed := m.solverFailed.set i true })).loseCore ⟨2 + i.val, by omega⟩).raise
    (320 + i.val) 1 .fault i.val 0 0
  { u with map := { u.map with solverDoubled := true } }

section Cores
variable {s : State} {i : Fin 2} {j : MapJob}

theorem State.solverLost_map : (s.solverLost i).map = { s.map with solverDoubled := true } := by
  simp [State.solverLost, State.loseCore]

theorem State.solverLost_failed : (s.solverLost i).mgmt.solverFailed = s.mgmt.solverFailed.set i true := by
  simp [State.solverLost, State.loseCore]

theorem State.solverLost_chan (c : Fin 8) : (s.solverLost i).chan c = s.chan c := by
  simp [State.solverLost, State.chan, State.loseCore]

theorem State.solverLost_same {q : Part} (hmap : q ≠ .map) (hmgmt : q ≠ .mgmt) : Part.Same s (s.solverLost i) q :=
  (State.raise_same _ _ _ _ _ _ (State.setMgmt_same (fun m => { m with lines := loseLines ⟨2 + i.val, by omega⟩ m.lines }) hmgmt
    (State.setMgmt_same _ hmgmt (Part.Same.refl s q)))).withMap _ hmap

/-- What becomes of the running job when a core has failed: it ends with the last core, and else starts again. -/
def State.jobAfterLoss (s : State) : State :=
  if s.mgmt.solverFailed.toList.all id then s.endJob (mapFailure .errUnusable 0 [] 0)
  else match s.map.job with
    | some j => s.runJob j
    | none => s

theorem State.solverCoreFails_eq (i : Fin 2) (s : State) : s.solverCoreFails i
    = (if (s.solverLost i).mgmt.solverFailed.toList.all id then s.solverLost i
        else (s.solverLost i).raise (320 + i.val) 3 .occurrence i.val 0 0).jobAfterLoss := rfl

theorem State.solverLost_allFailed : (s.solverLost i).mgmt.solverFailed.toList.all id = s.mgmt.solverFailed[1 - i] := by
  rw [State.solverLost_failed, all_set_true]

theorem State.solverCoreFails_both (h : s.mgmt.solverFailed[1 - i] = true) :
    s.solverCoreFails i = (s.solverLost i).endJob (mapFailure .errUnusable 0 [] 0) := by
  have hall := State.solverLost_allFailed.trans h
  rw [State.solverCoreFails_eq, if_pos hall, State.jobAfterLoss, if_pos hall]

theorem State.solverCoreFails_one (h : s.mgmt.solverFailed[1 - i] = false) (hjob : s.map.job = some j) :
    s.solverCoreFails i = ((s.solverLost i).raise (320 + i.val) 3 .occurrence i.val 0 0).runJob j := by
  have hall := State.solverLost_allFailed.trans h
  have hmap : ((s.solverLost i).raise (320 + i.val) 3 .occurrence i.val 0 0).map.job = some j := by
    rw [State.raise_map, State.solverLost_map, hjob]
  rw [State.solverCoreFails_eq, if_neg (Bool.eq_false_iff.1 hall), State.jobAfterLoss, State.raise_mgmt, if_neg (Bool.eq_false_iff.1 hall)]
  simp only [hmap]

/-- With both cores out the running job ends (R438). -/
theorem exec_solverCoreFailure_last (hjob : s.map.job = some j) (h : s.mgmt.solverFailed[1 - i] = true) :
    ∃ t, exec (.solverCoreFailure i) s = .next t ∧ s.ChangesOnly t [.map, .mgmt, .channels] ∧ t.mgmt.solverFailed[i] = true
      ∧ t.map.shadowMode = .mirroring ∧ t.map.job = none
      ∧ s.Ended t j.command .errUnusable (jobResults j.base 0 [] 0) := by
  have heq := State.solverCoreFails_both h
  have hlost : (s.solverLost i).map.job = some j := by rw [State.solverLost_map, hjob]
  have hkept : ((s.solverLost i).endJob (mapFailure .errUnusable 0 [] 0)).mgmt = (s.solverLost i).mgmt :=
    State.endJob_same (q := .mgmt) _ (by decide) (by decide) rfl
  refine ⟨_, rfl, State.settled_changesThree fun q hmap hmgmt hchan => ?_, ?_, ?_, ?_, State.Ended.settled ?_⟩
  all_goals rw [heq]
  · exact State.endJob_same _ hmap hchan (State.solverLost_same hmap hmgmt)
  · rw [State.settled_mgmt, hkept, State.solverLost_failed]
    exact Vector.getElem_set_self i.isLt
  · rw [State.settled_map, State.endJob_map hlost]
    rfl
  · rw [State.settled_map, State.endJob_map hlost]
    rfl
  · exact State.endJob_ended hlost (State.solverLost_chan _) _

/-- While one core works, it starts the job again with doubled bounds (R438). -/
theorem exec_solverCoreFailure_first (hjob : s.map.job = some j) (h : s.mgmt.solverFailed[1 - i] = false) :
    ∃ t, exec (.solverCoreFailure i) s = .next t ∧ s.ChangesOnly t [.map, .mgmt, .channels] ∧ t.mgmt.solverFailed[i] = true
      ∧ t.map.solverDoubled = true ∧ ∃ j', t.map.job = some j' ∧ j'.command = j.command ∧ j'.started = s.clock.tick + 1 := by
  have heq := State.solverCoreFails_one h hjob
  have hclock : ((s.solverLost i).raise (320 + i.val) 3 .occurrence i.val 0 0).clock = s.clock := by
    rw [State.raise_clock]
    exact State.solverLost_same (q := .clock) (by decide) (by decide)
  obtain ⟨j', hmap, hcommand, -, hstarted⟩ := State.runJob_map j ((s.solverLost i).raise (320 + i.val) 3 .occurrence i.val 0 0)
  refine ⟨_, rfl, State.settled_changesThree fun q hm hmgmt hchan => ?_, ?_, ?_, j', ?_, hcommand, by rw [hstarted, hclock]⟩
  all_goals rw [heq]
  · exact State.runJob_same _ hm hchan (State.raise_same _ _ _ _ _ _ (State.solverLost_same hm hmgmt))
  · rw [State.settled_mgmt, State.runJob_mgmt, State.raise_mgmt, State.solverLost_failed]
    exact Vector.getElem_set_self i.isLt
  · rw [State.settled_map, hmap, State.raise_map, State.solverLost_map]
  · rw [State.settled_map, hmap]

/-- A failed core rejoins while no job runs, and the bounds stay doubled as long as the other is out (R438). -/
theorem State.solverCoreRepair_rejoins (hfailed : s.mgmt.solverFailed[i] = true) (hjob : s.map.job = none) :
    s.solverCoreRepair i = State.raise (320 + i.val) 2 .repair i.val 0 0
      { s.setMgmt (fun m => { m with solverFailed := m.solverFailed.set i false }) with
        map := { s.map with solverDoubled := s.mgmt.solverFailed[1 - i] } } := by
  rw [← any_set_false]
  exact if_pos (by rw [hfailed, hjob]; rfl)

theorem exec_solverCoreRepair_rejoins (hfailed : s.mgmt.solverFailed[i] = true) (hjob : s.map.job = none) :
    ∃ t, exec (.solverCoreRepair i) s = .next t ∧ s.ChangesOnly t [.map, .mgmt] ∧ t.mgmt.solverFailed[i] = false
      ∧ t.mgmt.solverFailed[1 - i] = s.mgmt.solverFailed[1 - i] ∧ t.map.solverDoubled = s.mgmt.solverFailed[1 - i] := by
  have heq := State.solverCoreRepair_rejoins hfailed hjob
  have hother : i.val ≠ (1 - i).val := by omega
  refine ⟨_, rfl, State.settled_changesTwo fun q hmap hmgmt => ?_, ?_, ?_, ?_⟩
  all_goals rw [heq]
  · exact State.raise_same _ _ _ _ _ _ ((State.setMgmt_same _ hmgmt (Part.Same.refl s q)).withMap _ hmap)
  · rw [State.settled_mgmt, State.raise_mgmt]
    exact Vector.getElem_set_self i.isLt
  · rw [State.settled_mgmt, State.raise_mgmt]
    exact Vector.getElem_set_ne i.isLt (1 - i).isLt hother
  · rw [State.settled_map, State.raise_map]

theorem State.solverCoreRepair_busy (hjob : s.map.job ≠ none) : s.solverCoreRepair i = s :=
  if_neg (by rw [Option.isNone_eq_false_iff.2 (Option.isSome_iff_ne_none.2 hjob), Bool.and_false]; exact Bool.false_ne_true)

end Cores

end Sys2Proof.Machine

/-! SUPPORT. The rows of map jobs, and the statement about them (R105, R108, R131 to R136, R140, R350, R438, R559). -/
namespace Sys2Proof.Machine

section Rows
variable {s : State}

/-- SOLVER_JOB_DONE for a checked list: as the solver answers its question (R131, R133). -/
theorem exec_solverJobDone_list {j : MapJob} {core : Fin 2} {xs : List Connection} {rearrange : Bool} {added : List (BitVec 32)}
    (hbuilding : s.map.shadowMode = .building) (hjob : s.map.job = some j) (hcores : s.solversFailed = false)
    (hscratch : s.noScratch = false) (hchecked : j.checked = some (.list xs rearrange added))
    (hcore : s.mgmt.solverFailed[core] = false) :
    ∃ t, exec (.solverJobDone core) s = .next t ∧ s.ChangesOnly t [.map, .channels] ∧ t.map.active = s.map.active
      ∧ match (s.jobQuestion j xs rearrange added).answer with
        | some (.built b) => t.map.shadow = b ∧ t.map.shadowMode = .ready ∧ t.map.job = none
            ∧ s.Ended t j.command .ok (jobResults j.base 0 [] b.sharedPairs)
        | some (.failed reason st ids) => t.map.shadowMode = .mirroring ∧ t.map.job = none
            ∧ s.Ended t j.command st (jobResults j.base reason (ids.map (·.toNat)) 0)
        | none => t.map = s.map := by
  have hexec := exec_solverJobDone core s
  rw [State.solverReports_working hcore] at hexec
  rcases ha : (s.jobQuestion j xs rearrange added).answer with _ | ⟨b | ⟨reason, st, ids⟩⟩
  · rw [State.solverDone_unanswered hbuilding hjob hcores hscratch hchecked ha] at hexec
    exact ⟨_, hexec, State.settled_changesTwo fun q _ _ => Part.Same.refl s q, by rw [State.settled_map], State.settled_map s s⟩
  · rw [State.solverDone_built hbuilding hjob hcores hscratch hchecked ha] at hexec
    obtain ⟨t, ht, hparts, hmap, hended⟩ := exec_finishesJob hexec hjob
    refine ⟨t, ht, hparts, ?_⟩
    simp only [hmap]
    exact ⟨trivial, trivial, trivial, trivial, hended⟩
  · rw [State.solverDone_failed hbuilding hjob hcores hscratch hchecked ha] at hexec
    obtain ⟨t, ht, hparts, hmap, hended⟩ := exec_endsJob hexec hjob
    refine ⟨t, ht, hparts, ?_⟩
    simp only [hmap]
    exact ⟨rfl, rfl, rfl, hended⟩

/-- SOLVER_JOB_DONE in HELD: the device's own re-route swaps, or fails (R108, R136). -/
theorem exec_solverJobDone_held {core : Fin 2} (hheld : s.map.shadowMode = .held) (hswap : s.map.swap = none)
    (hstaged : s.casc.staged = none) (hmode : s.casc.mode = .standalone) (hcores : s.solversFailed = false)
    (hscratch : s.noScratch = false) (hcore : s.mgmt.solverFailed[core] = false) :
    ∃ t, exec (.solverJobDone core) s = .next t ∧ t.map.active = s.map.active
      ∧ match s.rerouteQuestion.answer with
        | some (.built b) => s.ChangesOnly t [.map] ∧ t.map.shadow = b
            ∧ t.map.swap = some { frame := s.earliestSwap, persist := false, command := none, latched := false }
        | some (.failed _ _ _) => t.map.shadowMode = .mirroring ∧ t.map.rerouteWanted = false
        | none => t.map = s.map := by
  have hexec := exec_solverJobDone core s
  rw [State.solverReports_working hcore] at hexec
  refine ⟨_, hexec, ?_⟩
  rcases ha : s.rerouteQuestion.answer with _ | ⟨b | ⟨reason, st, ids⟩⟩
  · rw [State.solverDone_rerouteOpen hheld hswap hstaged hcores hscratch ha, State.settled_map]
    exact ⟨rfl, rfl⟩
  · rw [State.solverDone_rerouted hheld hswap hstaged hcores hscratch hmode ha, State.settled_map]
    exact ⟨rfl, State.settled_changesOne fun q hq => ((Part.Same.refl s q).withMap _ hq).withMap _ hq, rfl, rfl⟩
  · obtain ⟨planes, now, hmap⟩ := State.rerouteFails_map ids s
    rw [State.solverDone_rerouteFails hheld hswap hstaged hcores hscratch ha, State.settled_map, hmap]
    exact ⟨rfl, rfl, rfl⟩

/-- MIRRORING_DONE with no re-route of the device's own: MIRROR, or the queued job starts (R135, R136). -/
theorem exec_mirroringDone_host (hmirroring : s.map.shadowMode = .mirroring)
    (hown : (s.map.rerouteWanted && s.host.service == 2) = false) :
    ∃ t, exec .mirroringDone s = .next t ∧ t.map.shadow = s.map.active ∧ t.map.active = s.map.active
      ∧ (s.map.queued = none → s.ChangesOnly t [.map] ∧ t.map.shadowMode = .mirror)
      ∧ (∀ j, s.map.queued = some j → s.ChangesOnly t [.map, .channels] ∧ t.map.shadowMode = .building ∧ t.map.queued = none
          ∧ ∃ j', t.map.job = some j' ∧ j'.command = j.command ∧ j'.base = s.map.active.generation) := by
  refine ⟨s.settled s.mirroringDone, rfl, ?_⟩
  rw [State.settled_map]
  rcases hq : s.map.queued with _ | j
  · rw [State.mirroringDone_idle hmirroring hown hq]
    exact ⟨rfl, rfl, fun _ => ⟨State.settled_changesOne fun q hmap => (Part.Same.refl s q).withMap _ hmap, rfl⟩,
      fun _ h => nomatch h⟩
  · rw [State.mirroringDone_queued hmirroring hown hq]
    obtain ⟨j', hmap, hcommand, hbase, -⟩ := State.runJob_map j
      { s with map := { s.map with shadow := s.map.active, shadowMode := .mirror, queued := none } }
    rw [hmap]
    refine ⟨rfl, rfl, (nomatch ·), fun k hk => ?_⟩
    cases hk
    exact ⟨State.settled_changesTwo fun q hmap hchan => State.runJob_same j hmap hchan ((Part.Same.refl s q).withMap _ hmap),
      rfl, rfl, j', rfl, hcommand, hbase⟩

/-- MIRRORING_DONE while the device's own re-route waits: HELD (R108, R136). -/
theorem exec_mirroringDone_own (hmirroring : s.map.shadowMode = .mirroring) (hwanted : s.map.rerouteWanted = true)
    (hservice : s.host.service = 2) : ∃ t, exec .mirroringDone s = .next t
      ∧ s.ChangesOnly t [.map] ∧ t.map.shadowMode = .held ∧ t.map.shadow = s.map.active ∧ t.map.queued = s.map.queued := by
  have heq := State.mirroringDone_reroute hmirroring hwanted hservice
  refine ⟨s.settled s.mirroringDone, rfl, State.settled_changesOne fun q hmap => ?_, ?_⟩
  · exact heq ▸ (Part.Same.refl s q).withMap _ hmap
  · rw [State.settled_map, heq]
    exact ⟨rfl, rfl, rfl⟩

end Rows

/-- Settles O21: each row by the branch that it takes, and the solver's answers by what `SolverQuestion.answer` lets through. -/
theorem mapJobsEndAsTheSolverAnswers : Obligations.MapJobsEndAsTheSolverAnswers := by
  intro s
  refine ⟨fun j hbuilding hjob hcores hscratch => ⟨fun xs rearrange added hchecked =>
      ⟨fun core => exec_solverJobDone_list hbuilding hjob hcores hscratch hchecked, fun hraw hrow hdoubled hdue => ?timeLimit,
        fun hrow => State.settled_unchanged (State.solverTime_unending hjob hchecked hrow)⟩,
      fun core f hcore hraw hchecked => ?badList, fun b hchecked => ?rawPassed, fun f hraw hchecked => ?badRaw⟩,
    fun q b h => ?built, fun q reason st ids => SolverQuestion.answer_failed,
    fun hheld hswap hstaged hmode hcores hscratch core => exec_solverJobDone_held hheld hswap hstaged hmode hcores hscratch,
    fun core hcore hcores => State.settled_unchanged (State.solverReports_failed hcore hcores),
    fun hmirroring hown q hq => hq ▸ exec_mirroringDone_host hmirroring hown, exec_mirroringDone_own,
    fun i j => exec_solverCoreFailure_last, fun i j => exec_solverCoreFailure_first, fun i => exec_solverCoreRepair_rejoins,
    fun i hjob => State.settled_unchanged (State.solverCoreRepair_busy hjob)⟩
  case timeLimit =>
    have hexec := exec_solverTimeLimit s
    rw [State.solverTime_due hjob hchecked hbuilding hraw hrow hdoubled hdue] at hexec
    obtain ⟨t, ht, hparts, hmap, hended⟩ := exec_endsJob hexec hjob
    exact ⟨t, ht, hparts, by rw [hmap]; rfl, by rw [hmap]; rfl, hended⟩
  case badList =>
    have hexec := exec_solverJobDone core s
    rw [State.solverReports_working hcore, State.solverDone_bad hbuilding hjob hcores hraw hchecked] at hexec
    obtain ⟨t, ht, hparts, hmap, hended⟩ := exec_endsJob hexec hjob
    exact ⟨t, ht, hparts, by rw [hmap]; rfl, by rw [hmap]; rfl, hended⟩
  case rawPassed =>
    have hexec := exec_rawMapVerified s
    rw [State.rawVerified_passed hbuilding hjob hcores hscratch hchecked] at hexec
    obtain ⟨t, ht, hparts, hmap, hended⟩ := exec_finishesJob hexec hjob
    refine ⟨t, ht, hparts, ?_⟩
    rw [hmap]
    exact ⟨rfl, rfl, rfl, rfl, hended⟩
  case badRaw =>
    have hexec := exec_rawMapVerified s
    rw [State.rawVerified_bad hbuilding hjob hcores hraw hchecked] at hexec
    obtain ⟨t, ht, hparts, hmap, hended⟩ := exec_endsJob hexec hjob
    exact ⟨t, ht, hparts, by rw [hmap]; rfl, hended⟩
  case built =>
    obtain ⟨⟨placed, hbank⟩, hon⟩ := SolverQuestion.answer_built h
    obtain ⟨hlist, htwo, hapart⟩ := SolverQuestion.bank_spec hbank
    exact ⟨hlist, hon, htwo, hapart⟩

end Sys2Proof.Machine

/-! SUPPORT. Commands that act at their execution (R316, R317, R336, R337): what the first response of an admitted request leaves, and
what follows when the command's effects come with it. -/
namespace Sys2Proof.Machine

/-! The entries of the other tokens. -/

theorem find_updateFirst_other {α : Type} {p q : α → Bool} {f : α → α} (hq : ∀ x, p x = true → q x = false ∧ q (f x) = false)
    (xs : List α) : (updateFirst p f xs).find? q = xs.find? q := by
  induction xs with
  | nil => rfl
  | cons x xs ih =>
    unfold updateFirst
    split
    case isTrue hx => rw [List.find?_cons, List.find?_cons, (hq x hx).1, (hq x hx).2]
    case isFalse => rw [List.find?_cons, List.find?_cons, ih]

theorem Channel.update_recorded_other {t t' : BitVec 64} {f : TokenEntry → TokenEntry} (hf : ∀ e, (f e).token = e.token) (h : t' ≠ t)
    (ch : Channel) : (ch.update t f).recorded t' = ch.recorded t' := by
  unfold Channel.update
  split
  · refine find_updateFirst_other (fun e he => ?_) ch.window
    have htoken : e.token ≠ t' := by
      rw [eq_of_beq he]
      exact h.symm
    exact ⟨beq_eq_false_iff_ne.2 htoken, beq_eq_false_iff_ne.2 (hf e ▸ htoken)⟩
  · rfl

/-- The entry of a command. -/
def State.entry (s : State) (c : CommandRef) : Option TokenEntry := (s.chan c.channel).recorded c.token

/-- A completion changes the entry of its own command alone. -/
theorem State.complete_entry_other {c c' : CommandRef} (h : c' ≠ c) (st : Status) (d : Nat) (res : List Byte) (s : State) :
    (s.complete c st d res).entry c' = s.entry c' := by
  unfold State.entry
  rw [State.complete_chan]
  split
  case isTrue hc =>
    rw [← hc]
    refine Channel.update_recorded_other (f := TokenEntry.ended st d res) (fun _ => rfl) (fun ht => h ?_) _
    cases c
    cases c'
    exact congrArg₂ CommandRef.mk hc ht
  case isFalse => rfl

/-- While its channel has recorded fewer than 512 commands, a request that is let in leaves the entries before it. -/
theorem State.letIn_entry {s : State} {op : BitVec 16} {r : Request} {st : Status} {d : Nat} {res : List Byte} {tk : BitVec 32}
    (hroom : (s.chan r.channel).window.length < 512) {c : CommandRef} {e : TokenEntry} (he : s.entry c = some e) :
    (s.letIn op r false st d res tk).entry c = some e := by
  unfold State.entry at he ⊢
  by_cases hc : c.channel = r.channel
  · rw [hc] at he ⊢
    have hall : lastN 512 ((s.chan r.channel).window ++ [acceptedEntry op r st d res tk s])
        = (s.chan r.channel).window ++ [acceptedEntry op r st d res tk s] := by
      unfold lastN
      rw [Nat.sub_eq_zero_of_le (by simp; omega)]
      rfl
    rw [Channel.recorded, State.letIn_window, hall, List.find?_append]
    unfold Channel.recorded at he
    rw [he]
    rfl
  · have hchan : (s.letIn op r false st d res tk).chan c.channel = s.chan c.channel := by
      unfold State.letIn State.advance
      simp only [Bool.false_eq_true, if_false, State.post_chan, State.setChan_chan, if_neg hc, State.journal_chan]
    rw [hchan]
    exact he

/-! The state with the first response. -/

/-- `u` is `s` with the first response to the request (R317, R324): its record, the entries before it, and every part but the channels
as it was. -/
structure State.FirstAnswer (s : State) (r : Request) (st : Status) (res : List Byte) (u : State) : Prop where
  recorded : u.Recorded r st 0 res
  earlier  : (s.chan r.channel).window.length < 512 → ∀ c e, s.entry c = some e → u.entry c = some e
  same     : ∀ q, q ≠ .channels → Part.Same s u q
  quiet    : s.noWork → u.noWork

theorem State.Admits.firstAnswer {s : State} {k : Command} {r : Request} (h : s.Admits k r) (st : Status) (res : List Byte) :
    s.FirstAnswer r st res ((s.cleared r).letIn k.opcode r false st 0 res 0) where
  recorded := ⟨acceptedEntry k.opcode r st 0 res 0 (s.cleared r), State.letIn_recorded h.fresh, rfl, rfl, rfl⟩
  earlier hroom _ _ he := State.letIn_entry (s := s.cleared r) hroom he
  same q hq := State.letIn_same _ _ _ _ _ _ hq (State.cleared_same r (Part.Same.refl s q))
  quiet hw := State.letIn_noWork _ _ _ _ _ _ (s := s.cleared r) hw

theorem State.FirstAnswer.journal {s u : State} {r : Request} {st : Status} {res : List Byte} (h : s.FirstAnswer r st res u)
    (c : CommandRef) (k : JournalKind) : s.FirstAnswer r st res (u.journal c k) where
  recorded := h.recorded
  earlier := h.earlier
  same q hq := State.journal_same c k (h.same q hq)
  quiet := h.quiet

/-! What leaves the channels as they are leaves the rings quiet. -/

theorem State.noWork.of_chan {s u : State} (h : s.noWork) (hchan : ∀ j, u.chan j = s.chan j) : u.noWork := fun j => by
  rw [hchan, h j]

theorem State.noteApplied_noWork {s : State} (c : CommandRef) (h : s.noWork) : (s.noteApplied c).noWork :=
  h.of_chan fun j => State.noteApplied_chan c j s

theorem State.await_chan (k : Command) (r : Request) (ring accepted : Bool) (w : DmaWait) (j : Fin 8) (s : State) :
    (s.await k r ring accepted w).chan j = s.chan j := rfl

theorem State.await_noWork {s : State} (k : Command) (r : Request) (ring accepted : Bool) (w : DmaWait) (h : s.noWork) :
    (s.await k r ring accepted w).noWork :=
  h.of_chan fun _ => rfl

/-! What the device checks a request against, in terms of the state before it. -/

@[simp] theorem State.judged_clock (s : State) (r : Request) : (s.judged r).clock = s.clock := by
  unfold State.judged State.ahead
  split
  · rfl
  · rfl

theorem State.judged_idle {s : State} (h : s.deferred = []) (r : Request) : s.judged r = s.cleared r := by
  unfold State.judged State.ahead
  rw [if_pos (by simp [h])]

/-! Commands without a buffer. -/

/-- A refusal of the command has no effect beside its response, and nothing waits for the next tick. -/
structure Command.ActsAtOnce (k : Command) : Prop where
  refused : k.refused = fun _ _ s => s
  later   : k.later = none

theorem State.perform_atOnce {k : Command} (hlater : k.later = none) (r : Request) (n : Nat) (data : List Byte) (s : State) :
    s.perform k r n data = (k.now r n s).noteApplied r.ref := by
  simp [State.perform, hlater]

section AtOnce
variable {s : State} {k : Command} {r : Request} {i : Instr} (hk : k.ActsAtOnce)
  (hi : exec i s = .next (s.settled (s.request k r))) (h : s.Admits k r) (hd : k.desc = false) (hr : k.range r = none)
include hi h hd hr

/-- It is refused by its own checks. -/
theorem exec_refused (hrefused : k.refused = fun _ _ s => s) {st : Status} {d : Nat} {out : List Byte}
    (hc : k.check r 0 (s.judged r) = .refuse st d []) (hout : zeros k.results = out) : ∃ t, exec i s = .next t ∧ s.Refuses t r st d out := by
  refine ⟨_, hi, ?_⟩
  rw [h.request hd hr, hc]
  have hrefuse : (s.cleared r).answer k r 0 [] false (.refuse st d []) = (s.cleared r).refuse k.opcode r false st d out := by
    simp only [State.answer, Reply.reads, Nat.lt_irrefl, if_false, State.refuseOwn, hrefused, padTo_nil, hout]
  rw [hrefuse]
  exact State.refuses_refuse h.fresh ..

include hk

/-- It is accepted, and acts. -/
theorem exec_accepts {res out : List Byte} (hc : k.check r 0 (s.judged r) = .accept res) (hout : padTo k.results res = out) :
    ∃ u, s.FirstAnswer r .accepted out u ∧ exec i s = .next (s.settled ((k.now r 0 u).noteApplied r.ref)) := by
  refine ⟨_, h.firstAnswer .accepted out, ?_⟩
  rw [hi, h.request hd hr, hc, ← hout, ← State.perform_atOnce hk.later r 0 []]
  rfl

/-- It is answered OK, and acts. -/
theorem exec_does {res out : List Byte} (hc : k.check r 0 (s.judged r) = .done res) (hout : padTo k.results res = out) :
    ∃ u, s.FirstAnswer r .ok out u ∧ exec i s = .next (s.settled ((k.now r 0 u).noteApplied r.ref)) := by
  refine ⟨_, (h.firstAnswer .ok out).journal r.ref .done, ?_⟩
  rw [hi, h.request hd hr, hc, ← hout, ← State.perform_atOnce hk.later r 0 []]
  rfl

/-- It reports, and does nothing else. -/
theorem exec_reports (hnow : k.now = fun _ _ s => s) {res out : List Byte} (hc : k.check r 0 (s.judged r) = .done res)
    (hout : padTo k.results res = out) : ∃ t, exec i s = .next t ∧ s.Answers t r .ok out none := by
  obtain ⟨hrecorded, hrest, hlater⟩ := h.done hd hr hnow hc
  refine ⟨_, hi, hout ▸ hrecorded, hrest, hlater.trans ?_⟩
  simp [Command.defers, hk.later]

end AtOnce

/-- What follows when effects `w` come with a first response: they leave its record, and the parts that they are not about. -/
theorem State.FirstAnswer.settled {s u w : State} {r : Request} {st : Status} {res : List Byte} {ps : List Part}
    (h : s.FirstAnswer r st res u) (hw : w.entry r.ref = u.entry r.ref) (hsame : ∀ q, q ∉ ps → Part.Same s w q) :
    (s.settled (w.noteApplied r.ref)).Recorded r st 0 res ∧ s.ChangesOnly (s.settled (w.noteApplied r.ref)) ps := by
  refine ⟨?_, State.settled_changesOnly fun q hq _ _ => State.noteApplied_same _ (hsame q hq)⟩
  obtain ⟨e, he, hrest⟩ := h.recorded
  refine ⟨e, ?_, hrest⟩
  rw [State.settled_recorded, State.noteApplied_chan]
  exact hw.trans he

/-! Commands with a buffer, once their descriptor list has arrived (R318, R319 step 11). -/

section Listed
variable {s : State} {k : Command} {r : Request} {i : Instr} {ds : List Byte} {n : Nat}
  (hi : exec i s = .next (s.settled (s.request k r))) (hcode : commandOf k.opcode = some k) (hd : k.desc = true)
  (h : s.Admits k r) (hr : k.range r = none) (hl : s.Lists r ds n)
include hi hcode hd h hr hl

/-- The list ends the wait, and the command's own checks decide. -/
theorem exec_listed {u : State} (hu : (s.cleared r).answer k r n [] false (k.check r n (s.judged r)) = u) (hw : u.noWork) :
    ∃ t, exec i s = .next t ∧ s.AwaitsList t k r ∧ exec (.hostDmaDone r.channel r.token ds) t = .next (s.settled u) := by
  obtain ⟨hwaiting, hrest, hlater, hwindows⟩ := h.waits hd
  refine ⟨_, hi, ⟨hwaiting, hrest, hlater, hwindows⟩, ?_⟩
  rw [hl.request h hd, exec_hostDmaDone ((hl.dmaDone hcode).trans ((h.checkOwn hr n).trans hu)) hw]
  rfl

theorem exec_listedRefused (hrefused : k.refused = fun _ _ s => s) {st : Status} {d : Nat} {out : List Byte}
    (hc : k.check r n (s.judged r) = .refuse st d []) (hout : zeros k.results = out) :
    ∃ t u, exec i s = .next t ∧ s.AwaitsList t k r ∧ exec (.hostDmaDone r.channel r.token ds) t = .next u ∧ s.Refuses u r st d out := by
  have hrefuse : (s.cleared r).answer k r n [] false (k.check r n (s.judged r)) = (s.cleared r).refuse k.opcode r false st d out := by
    rw [hc]
    simp only [State.answer, Reply.reads, Nat.not_lt_zero, if_false, State.refuseOwn, hrefused, padTo_nil, hout]
  obtain ⟨t, ht, hwaits, hu⟩ := exec_listed hi hcode hd h hr hl hrefuse (State.refuse_noWork (s := s.cleared r) hl.quiet.2)
  exact ⟨t, _, ht, hwaits, hu, State.refuses_refuse h.fresh ..⟩

/-- It is accepted, and acts. -/
theorem exec_listedAccepts (hk : k.ActsAtOnce) {res out : List Byte} (hc : k.check r n (s.judged r) = .accept res)
    (hout : padTo k.results res = out) (hquiet : ∀ u : State, u.noWork → (k.now r n u).noWork) :
    ∃ t u, exec i s = .next t ∧ s.AwaitsList t k r ∧ s.FirstAnswer r .accepted out u
      ∧ exec (.hostDmaDone r.channel r.token ds) t = .next (s.settled ((k.now r n u).noteApplied r.ref)) := by
  have hfirst := h.firstAnswer .accepted out
  have hanswer : (s.cleared r).answer k r n [] false (k.check r n (s.judged r))
      = (k.now r n ((s.cleared r).letIn k.opcode r false .accepted 0 out 0)).noteApplied r.ref := by
    rw [hc, ← hout, ← State.perform_atOnce hk.later r n []]
    rfl
  obtain ⟨t, ht, hwaits, hu⟩ := exec_listed hi hcode hd h hr hl hanswer
    (State.noteApplied_noWork r.ref (hquiet _ (hfirst.quiet hl.quiet.2)))
  exact ⟨t, _, ht, hwaits, hfirst, hu⟩

/-- It is accepted and acts, and its buffer is read. -/
theorem exec_listedReads (hk : k.ActsAtOnce) (hc : k.check r n (s.judged r) = .acceptRead n)
    (hquiet : ∀ u : State, u.noWork → (k.now r n u).noWork) :
    ∃ t u, exec i s = .next t ∧ s.AwaitsList t k r ∧ s.FirstAnswer r .accepted (zeros k.results) u
      ∧ exec (.hostDmaDone r.channel r.token ds) t
        = .next (s.settled (((k.now r n u).noteApplied r.ref).await k r false true (.input n))) := by
  have hfirst := h.firstAnswer .accepted (zeros k.results)
  have hanswer : (s.cleared r).answer k r n [] false (k.check r n (s.judged r))
      = ((k.now r n ((s.cleared r).letIn k.opcode r false .accepted 0 (zeros k.results) 0)).noteApplied r.ref).await k r false true
        (.input n) := by
    rw [hc, ← padTo_nil, ← State.perform_atOnce hk.later r n []]
    simp only [State.answer, Reply.reads, Nat.lt_irrefl, if_false]
  obtain ⟨t, ht, hwaits, hu⟩ := exec_listed hi hcode hd h hr hl hanswer
    (State.await_noWork k r false true _ (State.noteApplied_noWork r.ref (hquiet _ (hfirst.quiet hl.quiet.2))))
  exact ⟨t, _, ht, hwaits, hfirst, hu⟩

/-- It is accepted, and ends once its buffer has been written. -/
theorem exec_listedReturns (hk : k.ActsAtOnce) (hnow : k.now = fun _ _ s => s) {bs results out : List Byte}
    (hc : k.check r n (s.judged r) = .acceptWrite bs results) (hbs : bs ≠ []) (hout : padTo k.results results = out) :
    ∃ t u, exec i s = .next t ∧ s.AwaitsList t k r ∧ exec (.hostDmaDone r.channel r.token ds) t = .next u ∧ s.Returns u k r bs out := by
  have hfirst := h.firstAnswer .accepted (zeros k.results)
  have hanswer : (s.cleared r).answer k r n [] false (k.check r n (s.judged r))
      = (((s.cleared r).letIn k.opcode r false .accepted 0 (zeros k.results) 0).noteApplied r.ref).await k r false true
        (.output bs out) := by
    rw [hc]
    simp only [State.answer, Reply.reads, Nat.not_lt_zero, if_false, List.isEmpty_iff, hbs, hout, padTo_nil,
      State.perform_atOnce hk.later, hnow]
  obtain ⟨t, ht, hwaits, hu⟩ := exec_listed hi hcode hd h hr hl hanswer
    (State.await_noWork k r false true _ (State.noteApplied_noWork r.ref (hfirst.quiet hl.quiet.2)))
  have hwaiting : ((s.cleared r).letIn k.opcode r false .accepted 0 (zeros k.results) 0).host.waiting = s.host.waiting :=
    (hfirst.same .requests (by decide)).1
  refine ⟨t, _, ht, hwaits, hu, ?_, ?_, ?_, ?_⟩
  · obtain ⟨e, he, hrest⟩ := hfirst.recorded
    exact ⟨e, by rw [State.settled_recorded, State.await_chan, State.noteApplied_chan, he], hrest⟩
  · refine .of_changesOnly (State.settled_changesOnly fun q hq _ _ => State.await_same _ _ _ _ _ ?_ (State.noteApplied_same _
      (hfirst.same q ?_)))
    · rintro rfl
      exact hq (by decide)
    · rintro rfl
      exact hq (by decide)
  · rw [State.settled_deferred]
    exact (State.noteApplied_deferred ..).trans (hfirst.same .deferred (by decide))
  · rw [State.AwaitsBuffer, State.settled_host_waiting, State.await_waiting, State.noteApplied_waiting, hwaiting]

end Listed

/-! The buffer that an accepted command reads (R318). -/

/-- A state whose waiting requests are those of another. -/
def State.withWaitingOf (s u : State) : State := u.setHost (fun h => { h with waiting := s.host.waiting })

theorem State.withWaitingOf_same {s u : State} {q : Part} (hticket : u.host.nextTicket = s.host.nextTicket)
    (h : q ≠ .requests → Part.Same s u q) : Part.Same s (s.withWaitingOf u) q := by
  cases q
  case requests => exact ⟨rfl, hticket⟩
  all_goals exact State.setHost_keeps _ (fun _ => rfl) (nomatch ·) (fun _ => rfl) (h (by decide))

section Apart
variable {xs : List WaitingCommand} {r : Request} {w : WaitingCommand}
  (hapart : ∀ x ∈ xs, x.request.channel = r.channel → x.request.token ≠ r.token) (hw : w.request = r)
include hapart

theorem not_under_token : ∀ x ∈ xs, (x.request.channel == r.channel && x.request.token == r.token) = false := by
  intro x hx
  by_contra hmine
  obtain ⟨hc, ht⟩ := Bool.and_eq_true_iff.1 (Bool.eq_true_of_not_eq_false hmine)
  exact hapart x hx (beq_iff_eq.1 hc) (beq_iff_eq.1 ht)

include hw

/-- What waits under a token that nothing before it has is found. -/
theorem find_waiting : (xs ++ [w]).find? (fun x => x.request.channel == r.channel && x.request.token == r.token) = some w := by
  rw [List.find?_append, List.find?_eq_none.2 fun x hx => by rw [not_under_token hapart x hx]; decide]
  simp [hw]

/-- What waits under a token that nothing before it has is taken away alone. -/
theorem filter_waiting : (xs ++ [w]).filter (fun x =>
    !((x.request.channel == r.channel && x.request.token == r.token) && x == w)) = xs := by
  rw [List.filter_append, List.filter_eq_self.2 fun x hx => by rw [not_under_token hapart x hx]; rfl]
  simp [hw]

end Apart

/-- What an accepted command waits for the bytes of its buffer as. -/
def Command.awaitingInput (k : Command) (r : Request) (n : Nat) : WaitingCommand :=
  { opcode := k.opcode, request := r, wait := .input n, accepted := true, ring := false }

/-- The bytes end the wait, and reach the command. -/
theorem State.AwaitsBuffer.dmaDone {s u : State} {k : Command} {r : Request} {bs : List Byte}
    (hb : s.AwaitsBuffer u k r (.input bs.length) true) (hcode : commandOf k.opcode = some k)
    (hapart : ∀ w ∈ s.host.waiting, w.request.channel = r.channel → w.request.token ≠ r.token) (hmaster : u.host.busMaster = true) :
    u.dmaDone r.channel r.token bs = k.arrived r bs (s.withWaitingOf u) := by
  have hwait : u.host.waiting = s.host.waiting ++ [k.awaitingInput r bs.length] := hb
  have hreq : (k.awaitingInput r bs.length).request = r := rfl
  have hsize : (bs.length == (k.awaitingInput r bs.length).bytes) = true := beq_self_eq_true bs.length
  have hback : u.setHost (fun h => { h with waiting := h.waiting.filter (fun x =>
      !((x.request.channel == r.channel && x.request.token == r.token) && x == k.awaitingInput r bs.length)) }) = s.withWaitingOf u := by
    simp only [State.withWaitingOf, State.setHost, hwait, filter_waiting hapart hreq]
  unfold State.dmaDone
  simp only [hwait, find_waiting hapart hreq, hmaster, hsize, Bool.and_self, if_true, hback]
  simp only [State.dmaArrived, Command.awaitingInput, hcode, if_true]

/-- Steps of which each keeps the parts that are not listed. -/
theorem State.settled_again_changesOnly {s x y : State} {ps : List Part}
    (h : ∀ q, q ∉ ps → q ≠ .clock → q ≠ .memory → Part.Same s y q) : s.ChangesOnly ((s.settled x).settled y) ps := by
  have hkeeps := (State.keepsAll_settled s x).bytes
  have hsettled : (s.settled x).settled y
      = s.settledFabric { y with fabric := (s.settled x).fabric, flash := { y.flash with cells := s.flash.cells } } := by
    rw [State.settled, State.settledFabric, State.settled_pending, State.settled_clock, hkeeps.flash]
  rw [hsettled]
  refine State.settledFabric_changesOnly (fun q hq hclock hmemory => ?_) fun _ hw => hkeeps.fabric hw
  cases q
  case memory => exact absurd rfl hmemory
  case flash =>
    have hflash : y.flash = s.flash := h .flash hq hclock hmemory
    simp [Part.Same, hflash]
  all_goals exact h _ hq hclock hmemory

end Sys2Proof.Machine

/-! SUPPORT. Commands that read their buffer once they are answered (R318, R338, R374): loads of a bank, and jobs. -/
namespace Sys2Proof.Machine

/-! A load: its command acts on one part of the device, and so do the bytes of its buffer. -/

/-- What the command does at its execution changes one part, and leaves the channels. -/
structure Command.ActsOn (k : Command) (p : Part) : Prop where
  same : ∀ (r : Request) (n : Nat) {s u : State} {q : Part}, q ≠ p → Part.Same s u q → Part.Same s (k.now r n u) q
  chan : ∀ (r : Request) (n : Nat) (u : State) (j : Fin 8), (k.now r n u).chan j = u.chan j

/-- What the bytes of its buffer do changes one part, and leaves the channels. -/
structure Command.ReadsInto (k : Command) (p : Part) : Prop where
  same : ∀ (r : Request) (bs : List Byte) {s u : State} {q : Part}, q ≠ p → Part.Same s u q → Part.Same s (k.arrived r bs u) q
  chan : ∀ (r : Request) (bs : List Byte) (u : State) (j : Fin 8), (k.arrived r bs u).chan j = u.chan j

theorem Command.ActsOn.noWork {k : Command} {p : Part} (hp : k.ActsOn p) (r : Request) (n : Nat) {u : State} (h : u.noWork) :
    (k.now r n u).noWork :=
  h.of_chan (hp.chan r n u)

/-- The bytes of the buffer end the wait of an accepted command, in a step of their own. -/
theorem exec_bufferArrives {s x : State} {k : Command} {r : Request} {ds bs : List Byte} {m : Nat}
    (hb : s.AwaitsBuffer (s.settled x) k r (.input bs.length) true) (hcode : commandOf k.opcode = some k) (hl : s.Lists r ds m)
    (hhost : Part.Same s x .host) (hquiet : (k.arrived r bs (s.withWaitingOf (s.settled x))).noWork) :
    exec (.hostDmaDone r.channel r.token bs) (s.settled x)
      = .next ((s.settled x).settled (k.arrived r bs (s.withWaitingOf (s.settled x)))) := by
  have hmaster : (s.settled x).host.busMaster = true := by
    rw [State.settled_host_busMaster]
    exact (congrArg HostState.busMaster hhost).trans hl.quiet.1
  exact exec_hostDmaDone (hb.dmaDone hcode hl.apart hmaster) hquiet

/-- What the command leaves at its execution, and what it waits for then. -/
def State.reading (k : Command) (r : Request) (n : Nat) (u : State) : State :=
  ((k.now r n u).noteApplied r.ref).await k r false true (.input n)

section Loads
variable {s u : State} {k : Command} {r : Request} {n : Nat} {p : Part}

theorem State.reading_chan (hp : k.ActsOn p) (j : Fin 8) : (u.reading k r n).chan j = u.chan j :=
  (State.noteApplied_chan ..).trans (hp.chan r n u j)

theorem State.reading_same (hp : k.ActsOn p) {q : Part} (hrequests : q ≠ .requests) (hq : q ≠ p) (h : Part.Same s u q) :
    Part.Same s (u.reading k r n) q :=
  State.await_same _ _ _ _ _ hrequests (State.noteApplied_same _ (hp.same r n hq h))

theorem State.reading_waiting (hp : k.ActsOn p) (hrequests : p ≠ .requests) (h : u.host.waiting = s.host.waiting) :
    s.AwaitsBuffer (s.settled (u.reading k r n)) k r (.input n) true := by
  have hnow : (k.now r n u).host.waiting = u.host.waiting :=
    (hp.same r n (s := u) (u := u) (q := .requests) hrequests.symm ⟨rfl, rfl⟩).1
  rw [State.AwaitsBuffer, State.settled_host_waiting, State.reading, State.await_waiting, State.noteApplied_waiting, hnow, h]

theorem State.reading_ticket (hp : k.ActsOn p) (hrequests : p ≠ .requests) (h : u.host.nextTicket = s.host.nextTicket) :
    (s.settled (u.reading k r n)).host.nextTicket = s.host.nextTicket := by
  have hnow : (k.now r n u).host.nextTicket = u.host.nextTicket :=
    (hp.same r n (s := u) (u := u) (q := .requests) hrequests.symm ⟨rfl, rfl⟩).2
  have happlied : ((k.now r n u).noteApplied r.ref).host.nextTicket = (k.now r n u).host.nextTicket := by
    unfold State.noteApplied
    split
    · rfl
    · rfl
  rw [State.settled_host_nextTicket, ← h, ← hnow, ← happlied]
  rfl

theorem State.arrived_noWork {bs : List Byte} {p' : Part} (hp : k.ActsOn p) (hread : k.ReadsInto p') (h : u.noWork) :
    (k.arrived r bs (s.withWaitingOf (s.settled (u.reading k r n)))).noWork := by
  refine State.noWork.of_chan (s := s.settled (u.reading k r n)) (fun j => ?_) (hread.chan r bs _)
  rw [State.settled_chan_rungPi, State.settled_chan_reqCi, State.reading_chan hp, h j]

end Loads

/-- A load (R196, R220, R374): accepted, one part changed, its buffer awaited; then its bytes change that part. -/
theorem exec_loads {s : State} {k : Command} {r : Request} {i : Instr} {ds bs : List Byte} {p : Part}
    (hi : exec i s = .next (s.settled (s.request k r))) (hcode : commandOf k.opcode = some k) (hd : k.desc = true)
    (h : s.Admits k r) (hr : k.range r = none) (hl : s.Lists r ds bs.length) (hk : k.ActsAtOnce) (hp : k.ActsOn p)
    (hread : k.ReadsInto p) (hparts : p ≠ .requests ∧ p ≠ .host) (hc : k.check r bs.length (s.judged r) = .acceptRead bs.length) :
    ∃ t x, exec i s = .next t ∧ s.AwaitsList t k r ∧ s.FirstAnswer r .accepted (zeros k.results) x
      ∧ ∃ u, u = s.settled (x.reading k r bs.length) ∧ exec (.hostDmaDone r.channel r.token ds) t = .next u
        ∧ u.Recorded r .accepted 0 (zeros k.results) ∧ s.AwaitsBuffer u k r (.input bs.length) true
        ∧ s.ChangesOnly u [.channels, .requests, p]
        ∧ ∃ w, w = u.settled (k.arrived r bs (s.withWaitingOf u)) ∧ exec (.hostDmaDone r.channel r.token bs) u = .next w
          ∧ s.ChangesOnly w [.channels, p] := by
  obtain ⟨hrequests, hhost⟩ := hparts
  obtain ⟨t, x, ht, hwaits, hfirst, hu⟩ := exec_listedReads hi hcode hd h hr hl hk hc
    fun _ => hp.noWork r bs.length
  have hsame {q : Part} (hchan : q ≠ .channels) (hreq : q ≠ .requests) (hq : q ≠ p) : Part.Same s (x.reading k r bs.length) q :=
    State.reading_same hp hreq hq (hfirst.same q hchan)
  have hbuffer := State.reading_waiting (r := r) (n := bs.length) hp hrequests (hfirst.same .requests (by decide)).1
  have hquiet := State.arrived_noWork (s := s) (r := r) (n := bs.length) (bs := bs) hp hread (hfirst.quiet hl.quiet.2)
  have harrives := exec_bufferArrives hbuffer hcode hl (hsame (by decide) (by decide) hhost.symm) hquiet
  have hchanges := State.settled_changesThree (s := s) (u := x.reading k r bs.length) fun q => hsame
  refine ⟨t, x, ht, hwaits, hfirst, _, rfl, hu, ?_, hbuffer, hchanges, _, rfl, harrives, ?_⟩
  · obtain ⟨e, he, hrest⟩ := hfirst.recorded
    exact ⟨e, by rw [State.settled_recorded, State.reading_chan hp, he], hrest⟩
  · refine State.settled_again_changesOnly fun q hq _ _ => ?_
    obtain ⟨hchan, hqp⟩ : q ≠ .channels ∧ q ≠ p := by simpa using hq
    refine hread.same r bs hqp (State.withWaitingOf_same ?_ fun hreq => hchanges.2 q (by simp [hchan, hreq, hqp]))
    exact State.reading_ticket hp hrequests (hfirst.same .requests (by decide)).2

/-! A job: PENDING with a ticket (R338, R343). -/

/-- The entry of a job that has not ended. -/
structure TokenEntry.Pending (e : TokenEntry) (ticket : BitVec 32) (results : Nat) : Prop where
  status  : e.status = .pending
  stage   : e.stage = 0
  ticket  : e.ticket = ticket
  results : e.results = zeros results

/-- The entry of a job that runs. -/
def TokenEntry.started (now bound : Nat) (e : TokenEntry) : TokenEntry := { e with jobState := 1, startTick := now, bound := bound }

theorem State.startJob_entry {s : State} {c : CommandRef} {e : TokenEntry} (h : s.entry c = some e) (bound : Nat) :
    (s.startJob c bound).entry c = some (e.started s.clock.tick bound) := by
  unfold State.entry State.startJob
  rw [State.setChan_chan, if_pos rfl]
  exact Channel.recorded_update (f := TokenEntry.started s.clock.tick bound) rfl h

theorem State.startJob_noWork {s : State} (c : CommandRef) (bound : Nat) (h : s.noWork) : (s.startJob c bound).noWork := by
  intro j
  unfold State.startJob
  rw [State.setChan_chan]
  split
  case isTrue hj => rw [Channel.update_rungPi, Channel.update_reqCi, ← hj, h j]
  case isFalse => exact h j

/-- `u` is `s` with the first response to a job: its entry with the next ticket, and every part but the channels and the requests as it
was. -/
structure State.JobAnswer (s : State) (k : Command) (r : Request) (running : Bool) (u : State) : Prop where
  entry   : ∃ e, u.entry r.ref = some e ∧ e.Pending s.takeTicket k.results ∧ (running = true → e.jobState = 1)
  same    : ∀ q, q ≠ .channels → q ≠ .requests → Part.Same s u q
  waiting : u.host.waiting = s.host.waiting
  quiet   : s.noWork → u.noWork

/-- The state with the response that gives a job its ticket. -/
def State.pendingAnswer (k : Command) (r : Request) (s : State) : State :=
  ((s.cleared r).setHost (fun h => { h with nextTicket := s.takeTicket + 1 })).letIn k.opcode r false .pending 0 (zeros k.results) s.takeTicket

theorem State.admitJob_cleared (k : Command) (r : Request) (running : Bool) (bound : Nat) (s : State) :
    (s.cleared r).admitJob k r false running bound
      = if running then (s.pendingAnswer k r).startJob r.ref bound else s.pendingAnswer k r := rfl

theorem State.Admits.pendingAnswer_entry {s : State} {k : Command} {r : Request} (h : s.Admits k r) :
    ∃ e, (s.pendingAnswer k r).entry r.ref = some e ∧ e.Pending s.takeTicket k.results :=
  ⟨_, State.letIn_recorded (s := (s.cleared r).setHost (fun h => { h with nextTicket := s.takeTicket + 1 })) h.fresh, ⟨rfl, rfl, rfl, rfl⟩⟩

theorem State.pendingAnswer_same (k : Command) (r : Request) (s : State) {q : Part} (hchan : q ≠ .channels) (hreq : q ≠ .requests) :
    Part.Same s (s.pendingAnswer k r) q :=
  State.letIn_same _ _ _ _ _ _ hchan (State.setHost_keeps _ (fun _ => rfl) (fun e => absurd e hreq) (fun _ => rfl)
    (State.cleared_same r (Part.Same.refl s q)))

theorem State.pendingAnswer_noWork (k : Command) (r : Request) {s : State} (h : s.noWork) : (s.pendingAnswer k r).noWork :=
  State.letIn_noWork (s := (s.cleared r).setHost (fun h => { h with nextTicket := s.takeTicket + 1 })) _ _ _ _ _ _ h

theorem State.pendingAnswer_waiting (k : Command) (r : Request) (s : State) : (s.pendingAnswer k r).host.waiting = s.host.waiting :=
  State.letIn_waiting ..

theorem State.startJob_waiting (c : CommandRef) (bound : Nat) (s : State) : (s.startJob c bound).host.waiting = s.host.waiting := rfl

theorem State.Admits.jobAnswer {s : State} {k : Command} {r : Request} (h : s.Admits k r) (running : Bool) (bound : Nat) :
    s.JobAnswer k r running ((s.cleared r).admitJob k r false running bound) := by
  obtain ⟨e, he, hpending⟩ := h.pendingAnswer_entry
  rw [State.admitJob_cleared]
  cases running
  case false =>
    exact ⟨⟨e, he, hpending, nofun⟩, fun q => State.pendingAnswer_same k r s, State.pendingAnswer_waiting k r s, State.pendingAnswer_noWork k r⟩
  case true =>
    obtain ⟨hstatus, hstage, hticket, hresults⟩ := hpending
    exact ⟨⟨_, State.startJob_entry he bound, ⟨hstatus, hstage, hticket, hresults⟩, fun _ => rfl⟩,
      fun q hchan hreq => State.startJob_same _ _ hchan (State.pendingAnswer_same k r s hchan hreq),
      (State.startJob_waiting ..).trans (State.pendingAnswer_waiting k r s),
      fun hw => State.startJob_noWork _ _ (State.pendingAnswer_noWork k r hw)⟩

/-- A job with a buffer, once its descriptor list has arrived: PENDING, its effects in place, and its buffer awaited. -/
theorem exec_listedJob {s : State} {k : Command} {r : Request} {i : Instr} {ds : List Byte} {n bound : Nat} {running : Bool}
    (hi : exec i s = .next (s.settled (s.request k r))) (hcode : commandOf k.opcode = some k) (hd : k.desc = true)
    (h : s.Admits k r) (hr : k.range r = none) (hl : s.Lists r ds n) (hk : k.ActsAtOnce)
    (hc : k.check r n (s.judged r) = .jobRead running bound n) (hquiet : ∀ u : State, u.noWork → (k.now r n u).noWork) :
    ∃ t u, exec i s = .next t ∧ s.AwaitsList t k r ∧ s.JobAnswer k r running u
      ∧ exec (.hostDmaDone r.channel r.token ds) t = .next (s.settled (u.reading k r n)) := by
  have hjob := h.jobAnswer running bound
  have hanswer : (s.cleared r).answer k r n [] false (k.check r n (s.judged r))
      = ((s.cleared r).admitJob k r false running bound).reading k r n := by
    rw [hc, State.reading, ← State.perform_atOnce hk.later r n []]
    simp only [State.answer, Reply.reads, Nat.lt_irrefl, if_false]
  obtain ⟨t, ht, hwaits, hu⟩ := exec_listed hi hcode hd h hr hl hanswer
    (State.await_noWork k r false true _ (State.noteApplied_noWork r.ref (hquiet _ (hjob.quiet hl.quiet.2))))
  exact ⟨t, _, ht, hwaits, hjob, hu⟩

end Sys2Proof.Machine

/-! SUPPORT. What the commands of the recipe bank and of the trigger bank have in common (R141, R143, R197, R221, R375, R380). -/
namespace Sys2Proof.Machine

theorem padTo_of_le {n : Nat} {bs : List Byte} (h : bs.length ≤ n) : padTo n bs = bs ++ zeros (n - bs.length) := by
  rw [padTo, List.take_append, List.take_of_length_le h, zeros, List.take_replicate, Nat.min_eq_left (Nat.sub_le ..)]
  rfl

/-- The results that name a frame, and nothing after it. -/
theorem padTo_frame {n : Nat} (h : 8 ≤ n) (f : BitVec 64) : padTo n (leBytes 8 f.toNat) = leBytes 8 f.toNat ++ zeros (n - 8) := by
  rw [padTo_of_le (by simpa using h), leBytes_length]

/-- An accepted command that acts on one part changes that part and its channel, beside its record. -/
theorem exec_acceptsOn {s : State} {k : Command} {r : Request} {i : Instr} {p : Part} (hk : k.ActsAtOnce) (hp : k.ActsOn p)
    (hi : exec i s = .next (s.settled (s.request k r))) (h : s.Admits k r) (hd : k.desc = false) (hr : k.range r = none)
    {res out : List Byte} (hc : k.check r 0 (s.judged r) = .accept res) (hout : padTo k.results res = out) :
    ∃ u, s.FirstAnswer r .accepted out u ∧ ∃ t, t = s.settled ((k.now r 0 u).noteApplied r.ref) ∧ exec i s = .next t
      ∧ t.Recorded r .accepted 0 out ∧ s.ChangesOnly t [.channels, p] := by
  obtain ⟨u, hu, ht⟩ := exec_accepts hk hi h hd hr hc hout
  have hentry : (k.now r 0 u).entry r.ref = u.entry r.ref := by rw [State.entry, hp.chan]; rfl
  obtain ⟨hrecorded, hchanges⟩ := hu.settled (ps := [.channels, p]) hentry fun q hq => by
    obtain ⟨hchan, hqp⟩ : q ≠ .channels ∧ q ≠ p := by simpa using hq
    exact hp.same r 0 hqp (hu.same q hchan)
  exact ⟨u, hu, _, rfl, ht, hrecorded, hchanges⟩

/-- A command that effects at execution end has ended after the step. -/
theorem State.FirstAnswer.ended {s u w : State} {r : Request} {st st' : Status} {res res' : List Byte} {c : CommandRef}
    (h : s.FirstAnswer r st res u) (hroom : (s.chan r.channel).window.length < 512) (hw : u.Ended w c st' res') :
    s.Ended (s.settled (w.noteApplied r.ref)) c st' res' := by
  intro e he
  obtain ⟨e', he', hrest⟩ := hw e (h.earlier hroom c e he)
  exact ⟨e', by rw [State.settled_recorded, State.noteApplied_chan, he'], hrest⟩

/-! The frame of a swap (R141). -/

theorem State.bankFrame_of_clock {s t : State} (h : t.clock = s.clock) (r : Request) : t.bankFrame r = s.bankFrame r := by
  unfold State.bankFrame
  rw [h]

/-- The earliest frame, or the one that the request names within R141. -/
theorem State.bankFrame_eq {s : State} {r : Request} {f : BitVec 64} (h : (r.u 0 1 = 0 ∧ f = s.clock.frame + 8) ∨ (r.u 0 1 = 1
    ∧ f.toNat = r.u 8 8 ∧ s.clock.frame.toNat + 8 ≤ f.toNat ∧ f.toNat ≤ s.clock.frame.toNat + 8589934592)) : s.bankFrame r = some f := by
  rcases h with ⟨hmode, rfl⟩ | ⟨hmode, hnamed, hearly, hlate⟩
  · rw [State.bankFrame, if_pos hmode]
  · rw [State.bankFrame, if_neg (by omega), if_pos (by simp [← hnamed, hearly, hlate]), ← hnamed, BitVec.ofNat_toNat, BitVec.setWidth_eq]

theorem State.bankFrame_none {s : State} {r : Request} (hmode : r.u 0 1 = 1)
    (h : r.u 8 8 < s.clock.frame.toNat + 8 ∨ s.clock.frame.toNat + 8589934592 < r.u 8 8) : s.bankFrame r = none := by
  rw [State.bankFrame, if_neg (by omega), if_neg]
  simp only [Bool.and_eq_true, decide_eq_true_eq]
  omega

theorem State.bankSwapReply_ready {s : State} {r : Request} {f : BitVec 64} (h : s.bankFrame r = some f) :
    s.bankSwapReply r .ready = .accept (leBytes 8 f.toNat) := by
  simp [State.bankSwapReply, h]

theorem State.bankSwapReply_outside {s : State} {r : Request} (h : s.bankFrame r = none) :
    s.bankSwapReply r .ready = .refuse .errRange 8 [] := by
  simp [State.bankSwapReply, h]

theorem State.bankSwapReply_unready (s : State) (r : Request) {m : BankMode} (h : m ≠ .ready) :
    s.bankSwapReply r m = .refuse .errState 0 [] := by
  simp [State.bankSwapReply, h]

theorem State.withdrawable_iff {s : State} {w : BankSwap} : s.withdrawable (some w) = true ↔ s.clock.frame.toNat + 8 ≤ w.frame.toNat :=
  decide_eq_true_iff

theorem State.withdrawable_of_clock {s t : State} (h : t.clock = s.clock) (w : Option BankSwap) : t.withdrawable w = s.withdrawable w := by
  unfold State.withdrawable
  rw [h]

/-! A bank whose swap a cancel withdraws (R143, R197, R221). -/

/-- What a cancel knows of a bank: the part of the device that holds it, its swap, its state and its generation, and what is left once its
swap is withdrawn or its READY contents are discarded. -/
structure SwapBank where
  part       : Part
  swap       : State → Option BankSwap
  mode       : State → BankMode
  generation : State → BitVec 32
  withdraw   : State → State
  discard    : State → State

/-- The cancel of a swap (0), or of READY contents. -/
def SwapBank.cancel (b : SwapBank) (what : Nat) (s : State) : State :=
  if what = 0 then
    match b.swap s with
    | some w =>
      if s.withdrawable (some w) then (b.withdraw s).complete w.command .errState 0 (bankResults w.frame (b.generation s)) else s
    | none => s
  else if b.mode s == .ready then b.discard s
  else s

/-- What a cancel changes is in the bank's part. -/
structure SwapBank.Lawful (b : SwapBank) : Prop where
  swap          : ∀ {s u : State}, Part.Same s u b.part → b.swap u = b.swap s
  mode          : ∀ {s u : State}, Part.Same s u b.part → b.mode u = b.mode s
  generation    : ∀ {s u : State}, Part.Same s u b.part → b.generation u = b.generation s
  withdraw_same : ∀ {s u : State} {q : Part}, q ≠ b.part → Part.Same s u q → Part.Same s (b.withdraw u) q
  discard_same  : ∀ {s u : State} {q : Part}, q ≠ b.part → Part.Same s u q → Part.Same s (b.discard u) q
  withdraw_chan : ∀ (u : State) (j : Fin 8), (b.withdraw u).chan j = u.chan j
  discard_chan  : ∀ (u : State) (j : Fin 8), (b.discard u).chan j = u.chan j

/-- The command cancels what is on the bank. -/
structure Command.Cancels (k : Command) (b : SwapBank) : Prop where
  atOnce  : k.ActsAtOnce
  desc    : k.desc = false
  results : k.results = 0
  range   : k.range = bankCancelRange
  check   : ∀ (r : Request) (v : State), k.check r 0 v
    = if (if r.u 0 1 = 0 then v.withdrawable (b.swap v) else b.mode v == .ready) then .done [] else .refuse .errState 0 []
  now     : ∀ (r : Request) (u : State), k.now r 0 u = b.cancel (r.u 0 1) u

theorem bankCancelRange_none {r : Request} (hz : r.zero 1 3 = true) (hwhat : r.u 0 1 ≤ 1) : bankCancelRange r = none := by
  simp [bankCancelRange, firstBad_eq_none, hz, hwhat]

section Cancel
variable {b : SwapBank} {s u : State}

theorem SwapBank.cancel_withdraws {w : BankSwap} (hswap : b.swap u = some w) (hin : u.withdrawable (some w) = true) :
    b.cancel 0 u = (b.withdraw u).complete w.command .errState 0 (bankResults w.frame (b.generation u)) := by
  simp [SwapBank.cancel, hswap, hin]

theorem SwapBank.cancel_discards (hready : b.mode u = .ready) : b.cancel 1 u = b.discard u := by
  simp [SwapBank.cancel, hready]

theorem SwapBank.cancel_same (hb : b.Lawful) (what : Nat) {q : Part} (hpart : q ≠ b.part) (hchan : q ≠ .channels) (h : Part.Same s u q) :
    Part.Same s (b.cancel what u) q := by
  unfold SwapBank.cancel
  split
  · split
    · exact ite_same (State.complete_same _ _ _ _ hchan (hb.withdraw_same hpart h)) h
    · exact h
  · exact ite_same (hb.discard_same hpart h) h

/-- A command whose swap is not withdrawn keeps its entry. -/
theorem SwapBank.cancel_entry (hb : b.Lawful) {what : Nat} {c : CommandRef} (h : what = 0 → ∀ w, b.swap u = some w → w.command ≠ c) :
    (b.cancel what u).entry c = u.entry c := by
  have hwithdraw : (b.withdraw u).entry c = u.entry c := by rw [State.entry, hb.withdraw_chan]; rfl
  have hdiscard : (b.discard u).entry c = u.entry c := by rw [State.entry, hb.discard_chan]; rfl
  unfold SwapBank.cancel
  split
  case isTrue hwhat =>
    split
    case h_1 w hw =>
      split
      · rw [State.complete_entry_other (h hwhat w hw).symm, hwithdraw]
      · rfl
    case h_2 => rfl
  case isFalse =>
    split
    · exact hdiscard
    · rfl

variable {k : Command} {r : Request} {i : Instr} (hb : b.Lawful) (hk : k.Cancels b)
  (hi : exec i s = .next (s.settled (s.request k r))) (h : s.Admits k r) (hz : r.zero 1 3 = true)
include hb hk hi h hz

/-- The step of a cancel that the checks let through. -/
theorem exec_bankCancels {what : Nat} (hwhat : r.u 0 1 = what) (hle : what ≤ 1)
    (hc : (if what = 0 then (s.judged r).withdrawable (b.swap (s.judged r)) else b.mode (s.judged r) == .ready) = true)
    (hpart : b.part ≠ .channels) (hother : what = 0 → ∀ x, b.swap s = some x → x.command ≠ r.ref) :
    ∃ u, s.FirstAnswer r .ok [] u ∧ ∃ t, t = s.settled ((b.cancel what u).noteApplied r.ref) ∧ exec i s = .next t ∧ t.Recorded r .ok 0 []
      ∧ s.ChangesOnly t [.channels, b.part] := by
  subst hwhat
  obtain ⟨u, hu, ht⟩ := exec_does hk.atOnce hi h hk.desc (hk.range ▸ bankCancelRange_none hz hle)
    (res := []) (out := []) ((hk.check r _).trans (if_pos hc)) (by rw [hk.results]; rfl)
  rw [hk.now] at ht
  obtain ⟨hrecorded, hchanges⟩ := hu.settled (ps := [.channels, b.part])
    (SwapBank.cancel_entry hb fun hzero x hx => hother hzero x (hb.swap (hu.same _ hpart) ▸ hx)) fun q hq => by
      obtain ⟨hchan, hq'⟩ : q ≠ .channels ∧ q ≠ b.part := by simpa using hq
      exact SwapBank.cancel_same hb _ hq' hchan (hu.same q hchan)
  exact ⟨u, hu, _, rfl, ht, hrecorded, hchanges⟩

/-- A swap that is far enough ahead is withdrawn, and its command ends. -/
theorem exec_bankWithdraws (hpart : b.part ≠ .channels) {w : BankSwap} (hwhat : r.u 0 1 = 0) (hswap : b.swap (s.judged r) = some w)
    (hin : s.clock.frame.toNat + 8 ≤ w.frame.toNat) (hother : ∀ x, b.swap s = some x → x.command ≠ r.ref) :
    ∃ t, exec i s = .next t ∧ t.Recorded r .ok 0 [] ∧ s.ChangesOnly t [.channels, b.part]
      ∧ (s.deferred = [] → (∃ u, Part.Same s u b.part ∧ t = s.settled (((b.withdraw u).complete w.command .errState 0
          (bankResults w.frame (b.generation u))).noteApplied r.ref))
        ∧ ((s.chan r.channel).window.length < 512 → s.Ended t w.command .errState (bankResults w.frame (b.generation s)))) := by
  have hin' {v : State} (hclock : v.clock = s.clock) : v.withdrawable (some w) = true := by
    rw [State.withdrawable_of_clock hclock, State.withdrawable_iff]
    exact hin
  obtain ⟨u, hu, t, rfl, ht, hrecorded, hchanges⟩ := exec_bankCancels hb hk hi h hz hwhat (by decide)
    (by rw [if_pos rfl, hswap, hin' (State.judged_clock s r)]) hpart fun _ => hother
  refine ⟨_, ht, hrecorded, hchanges, fun hidle => ?_⟩
  have hsame : Part.Same s u b.part := hu.same _ hpart
  have huswap : b.swap u = some w := by
    rw [hb.swap hsame, ← hswap, State.judged_idle hidle, hb.swap (State.cleared_same r (Part.Same.refl s _))]
  rw [SwapBank.cancel_withdraws huswap (hin' (hu.same .clock (by decide)))]
  refine ⟨⟨u, hsame, rfl⟩, fun hroom => hu.ended hroom ?_⟩
  rw [hb.generation hsame]
  exact State.complete_ended (s := u) (u := b.withdraw u) (c := w.command) (hb.withdraw_chan u _) .errState 0 _

/-- READY contents are discarded. -/
theorem exec_bankDiscards (hpart : b.part ≠ .channels) (hwhat : r.u 0 1 = 1) (hready : b.mode (s.judged r) = .ready) :
    ∃ t, exec i s = .next t ∧ t.Recorded r .ok 0 [] ∧ s.ChangesOnly t [.channels, b.part]
      ∧ (s.deferred = [] → ∃ u, Part.Same s u b.part ∧ t = s.settled ((b.discard u).noteApplied r.ref)) := by
  obtain ⟨u, hu, t, rfl, ht, hrecorded, hchanges⟩ := exec_bankCancels hb hk hi h hz hwhat (by decide)
    (by rw [if_neg (by decide), hready]; rfl) hpart nofun
  refine ⟨_, ht, hrecorded, hchanges, fun hidle => ⟨u, hu.same _ hpart, ?_⟩⟩
  have hnow : b.mode u = .ready := by
    rw [hb.mode (hu.same _ hpart), ← hready, State.judged_idle hidle, hb.mode (State.cleared_same r (Part.Same.refl s _))]
  rw [SwapBank.cancel_discards hnow]

omit hb in
/-- Where there is nothing of the kind, the cancel is refused. -/
theorem exec_bankKeeps (hnone : (r.u 0 1 = 0 ∧ b.swap (s.judged r) = none) ∨ (r.u 0 1 = 1 ∧ b.mode (s.judged r) ≠ .ready))
    (hrefused : k.refused = fun _ _ s => s) : ∃ t, exec i s = .next t ∧ s.Refuses t r .errState 0 [] := by
  refine exec_refused hi h hk.desc (hk.range ▸ bankCancelRange_none hz (by omega)) hrefused ((hk.check r _).trans (if_neg ?_))
    (by rw [hk.results]; rfl)
  rcases hnone with ⟨hwhat, hnone⟩ | ⟨hwhat, hunready⟩
  · simp [hwhat, hnone, State.withdrawable]
  · simp [hwhat, hunready]

end Cancel

/-! The read of a bank (R375). -/

theorem bankReadRange_none {r : Request} (hz : r.zero 9 7 = true) (hwhat : r.u 8 1 ≤ 1) : bankReadRange r = none := by
  simp [bankReadRange, firstBad_eq_none, hz, hwhat]

section Read
variable {what n size : Nat} {active bs : List Byte} {gen : BitVec 32} {shadow : Option (List Byte)}

theorem bankReadReply_active (hwhat : what = 0) (hn : size ≤ n) :
    bankReadReply what n size active gen shadow = .acceptWrite active (leBytes 4 size ++ leBytes 4 gen.toNat) := by
  simp [bankReadReply, hwhat, Nat.not_lt.2 hn]

theorem bankReadReply_shadow (hwhat : what = 1) (hn : size ≤ n) (hshadow : shadow = some bs) :
    bankReadReply what n size active gen shadow = .acceptWrite bs (leBytes 4 size ++ leBytes 4 (gen + 1).toNat) := by
  simp [bankReadReply, hwhat, hshadow, Nat.not_lt.2 hn]

theorem bankReadReply_short (hwhat : what = 0) (hn : n < size) :
    bankReadReply what n size active gen shadow = .refuse .errLength detailList [] := by
  simp [bankReadReply, hwhat, hn]

theorem bankReadReply_none (hwhat : what = 1) (hshadow : shadow = none) :
    bankReadReply what n size active gen shadow = .refuse .errState 0 [] := by
  simp [bankReadReply, hwhat, hshadow]

/-- The shadow bank is not read while it is loaded. -/
theorem readableShadow_none {α : Type} {m : BankMode} {x : Option α} {f : α → List Byte} (h : m = .loading ∨ x = none) :
    (if m == .loading then none else x.map f) = none := by
  rcases h with rfl | rfl
  · rfl
  · split <;> rfl

theorem readableShadow_some {α : Type} {m : BankMode} {x : Option α} {y : α} (f : α → List Byte) (hm : m ≠ .loading) (hx : x = some y) :
    (if m == .loading then none else x.map f) = some (f y) := by
  rw [if_neg (by simpa using hm), hx]
  rfl

end Read

/-- The 8 result bytes of a read: SIZE and GENERATION. -/
theorem padTo_bankRead (size : Nat) (gen : BitVec 32) :
    padTo 8 (leBytes 4 size ++ leBytes 4 gen.toNat) = leBytes 4 size ++ leBytes 4 gen.toNat :=
  padTo_of_length (by simp)

end Sys2Proof.Machine

/-! SUPPORT. The recipe commands (R143, R197, R374, R375). -/
namespace Sys2Proof.Machine

theorem cmdRecipeLoad_actsAtOnce : cmdRecipeLoad.ActsAtOnce := ⟨rfl, rfl⟩
theorem cmdRecipeSwap_actsAtOnce : cmdRecipeSwap.ActsAtOnce := ⟨rfl, rfl⟩
theorem cmdRecipeRead_actsAtOnce : cmdRecipeRead.ActsAtOnce := ⟨rfl, rfl⟩

theorem cmdRecipeLoad_actsOn : cmdRecipeLoad.ActsOn .ember :=
  ⟨fun _ _ => State.setEmber_same _, fun _ _ _ _ => rfl⟩

theorem cmdRecipeLoad_readsInto : cmdRecipeLoad.ReadsInto .ember :=
  ⟨fun _ _ => State.setEmber_same _, fun _ _ _ _ => rfl⟩

theorem cmdRecipeSwap_actsOn : cmdRecipeSwap.ActsOn .ember where
  same r n s u q hq h := by
    unfold cmdRecipeSwap
    simp only
    split
    · exact State.setEmber_same _ hq h
    · exact h
  chan r n u j := by
    unfold cmdRecipeSwap
    simp only
    split
    · rfl
    · rfl

section Recipes
variable {s u : State} {r : Request}

/-- The load that RECIPE_LOAD opens. -/
def State.recipeLoad (r : Request) (s : State) : RecipeLoad :=
  { command := r.ref, formats := s.ports.map (fun q => q.settings.inFormats), data := none }

theorem cmdRecipeLoad_now (n : Nat) :
    (cmdRecipeLoad.now r n u).ember = { u.ember with shadowMode := .loading, load := some (u.recipeLoad r) } := rfl

theorem cmdRecipeLoad_arrived {l : RecipeLoad} (hload : u.ember.load = some l) (hl : l.command = r.ref) (bs : List Byte) :
    (cmdRecipeLoad.arrived r bs u).ember = { u.ember with load := some { l with data := some bs } } := by
  simp [cmdRecipeLoad, hload, hl]

/-- RECIPE_LOAD (R197, R374). -/
theorem recipeLoad_answers {ds bs : List Byte} (h : s.Admits cmdRecipeLoad r) (hl : s.Lists r ds bs.length) {v : State}
    (hv : v = s.judged r) :
    ((v.ember.shadowMode = .empty ∨ v.ember.shadowMode = .ready) → ∃ t u w l, exec (.recipeLoad r) s = .next t ∧ s.AwaitsList t cmdRecipeLoad r
      ∧ exec (.hostDmaDone r.channel r.token ds) t = .next u ∧ u.Recorded r .accepted 0 []
      ∧ s.AwaitsBuffer u cmdRecipeLoad r (.input bs.length) true ∧ s.ChangesOnly u [.channels, .requests, .ember]
      ∧ u.ember = { s.ember with shadowMode := .loading, load := some l }
      ∧ l.command = r.ref ∧ l.data = none ∧ (∀ p : PortNo, l.formats[p] = (s.port p).settings.inFormats)
      ∧ exec (.hostDmaDone r.channel r.token bs) u = .next w ∧ s.ChangesOnly w [.channels, .ember]
      ∧ w.ember = { s.ember with shadowMode := .loading, load := some { l with data := some bs } }) ∧
    ((v.ember.shadowMode = .loading ∨ v.ember.shadowMode = .scheduled) → ∃ t u, exec (.recipeLoad r) s = .next t
      ∧ s.AwaitsList t cmdRecipeLoad r ∧ exec (.hostDmaDone r.channel r.token ds) t = .next u ∧ s.Refuses u r .errState 0 []) := by
  subst hv
  refine ⟨fun hmode => ?_, fun hmode => ?_⟩
  · obtain ⟨t, x, ht, hwaits, hfirst, u, rfl, hu, hrecorded, hbuffer, hchanges, w, rfl, hw, hlast⟩ := exec_loads (i := .recipeLoad r) rfl rfl
      rfl h rfl hl cmdRecipeLoad_actsAtOnce cmdRecipeLoad_actsOn cmdRecipeLoad_readsInto (by decide)
      (by rcases hmode with hm | hm <;> simp [cmdRecipeLoad, hm])
    have hember : x.ember = s.ember := hfirst.same .ember (by decide)
    have hports : x.ports = s.ports := hfirst.same .ports (by decide)
    have hloading : (s.withWaitingOf (s.settled (x.reading cmdRecipeLoad r bs.length))).ember
        = { s.ember with shadowMode := .loading, load := some (s.recipeLoad r) } := by
      rw [← hember, State.recipeLoad, ← hports]
      exact (State.settled_ember ..).trans ((State.noteApplied_ember ..).trans (cmdRecipeLoad_now _))
    refine ⟨t, _, _, s.recipeLoad r, ht, hwaits, hu, hrecorded, hbuffer, hchanges, hloading, rfl, rfl, fun p => ?_, hw, hlast, ?_⟩
    · simp [State.recipeLoad, State.port]
    · rw [State.settled_ember, cmdRecipeLoad_arrived (l := s.recipeLoad r) (by rw [hloading]) rfl, hloading]
  · exact exec_listedRefused rfl rfl rfl h rfl hl rfl (by rcases hmode with hm | hm <;> simp [cmdRecipeLoad, hm]) rfl

/-- RECIPE_SWAP (R141, R197, R375). -/
theorem recipeSwap_answers (hr : bankSwapRange r = none) (h : s.Admits cmdRecipeSwap r) {v : State} (hv : v = s.judged r) :
    (∀ f : BitVec 64, v.ember.shadowMode = .ready → (r.u 0 1 = 0 ∧ f = s.clock.frame + 8) ∨ (r.u 0 1 = 1 ∧ f.toNat = r.u 8 8
        ∧ s.clock.frame.toNat + 8 ≤ f.toNat ∧ f.toNat ≤ s.clock.frame.toNat + 8589934592) →
      ∃ t, exec (.recipeSwap r) s = .next t ∧ t.Recorded r .accepted 0 (leBytes 8 f.toNat ++ zeros 8) ∧ s.ChangesOnly t [.channels, .ember]
        ∧ t.ember = { s.ember with shadowMode := .scheduled, swap := some { frame := f, persist := r.persist, command := r.ref } }) ∧
    (v.ember.shadowMode = .ready → r.u 0 1 = 1 → r.u 8 8 < s.clock.frame.toNat + 8 ∨ s.clock.frame.toNat + 8589934592 < r.u 8 8 →
      ∃ t, exec (.recipeSwap r) s = .next t ∧ s.Refuses t r .errRange 8 (zeros 16)) ∧
    (v.ember.shadowMode ≠ .ready → ∃ t, exec (.recipeSwap r) s = .next t ∧ s.Refuses t r .errState 0 (zeros 16)) := by
  subst hv
  have hjudged : (s.judged r).bankFrame r = s.bankFrame r := State.bankFrame_of_clock (State.judged_clock s r) r
  have hrefused {st : Status} {d : Nat} (hc : (s.judged r).bankSwapReply r (s.judged r).ember.shadowMode = .refuse st d []) :
      ∃ t, exec (.recipeSwap r) s = .next t ∧ s.Refuses t r st d (zeros 16) := exec_refused rfl h rfl hr rfl hc rfl
  refine ⟨fun f hready hf => ?_, fun hready hmode hout => ?_, fun hunready => ?_⟩
  · have hframe : s.bankFrame r = some f := State.bankFrame_eq hf
    have hreply := State.bankSwapReply_ready (hjudged.trans hframe)
    rw [← hready] at hreply
    obtain ⟨u, hu, t, rfl, ht, hrecorded, hchanges⟩ := exec_acceptsOn cmdRecipeSwap_actsAtOnce cmdRecipeSwap_actsOn (i := .recipeSwap r)
      rfl h rfl hr hreply (padTo_frame (by decide) f)
    have hember : u.ember = s.ember := hu.same .ember (by decide)
    have hnow : u.bankFrame r = some f := (State.bankFrame_of_clock (hu.same .clock (by decide)) r).trans hframe
    refine ⟨_, ht, hrecorded, hchanges, ?_⟩
    rw [State.settled_ember, State.noteApplied_ember]
    simp [cmdRecipeSwap, hnow, hember]
  · exact hrefused (by rw [hready, State.bankSwapReply_outside (hjudged.trans (State.bankFrame_none hmode hout))])
  · exact hrefused (State.bankSwapReply_unready _ r hunready)

/-! RECIPE_CANCEL (R143, R197, R375). -/

/-- The recipe bank, as a cancel sees it. -/
def recipeBank : SwapBank where
  part := .ember
  swap s := s.ember.swap
  mode s := s.ember.shadowMode
  generation s := s.ember.generation
  withdraw s := s.setEmber (fun x => { x with swap := none, shadowMode := .ready })
  discard s := s.setEmber (fun x => { x with shadow := none, shadowMode := .empty })

theorem recipeBank_lawful : recipeBank.Lawful where
  swap h := congrArg (·.swap) h
  mode h := congrArg (·.shadowMode) h
  generation h := congrArg (·.generation) h
  withdraw_same := State.setEmber_same _
  discard_same := State.setEmber_same _
  withdraw_chan _ _ := rfl
  discard_chan _ _ := rfl

theorem cmdRecipeCancel_cancels : cmdRecipeCancel.Cancels recipeBank :=
  ⟨⟨rfl, rfl⟩, rfl, rfl, rfl, fun _ _ => rfl, fun _ _ => rfl⟩

theorem recipeCancel_answers (hz : r.zero 1 3 = true) (h : s.Admits cmdRecipeCancel r) {v : State} (hv : v = s.judged r) :
    (∀ w, r.u 0 1 = 0 → v.ember.swap = some w → s.clock.frame.toNat + 8 ≤ w.frame.toNat →
      (∀ x, s.ember.swap = some x → x.command ≠ r.ref) →
      ∃ t, exec (.recipeCancel r) s = .next t ∧ t.Recorded r .ok 0 [] ∧ s.ChangesOnly t [.channels, .ember]
        ∧ (s.deferred = [] → t.ember = { s.ember with swap := none, shadowMode := .ready }
          ∧ ((s.chan r.channel).window.length < 512 →
            s.Ended t w.command .errState (leBytes 8 w.frame.toNat ++ leBytes 4 s.ember.generation.toNat ++ zeros 4)))) ∧
    (r.u 0 1 = 1 → v.ember.shadowMode = .ready → ∃ t, exec (.recipeCancel r) s = .next t ∧ t.Recorded r .ok 0 []
      ∧ s.ChangesOnly t [.channels, .ember] ∧ (s.deferred = [] → t.ember = { s.ember with shadow := none, shadowMode := .empty })) ∧
    ((r.u 0 1 = 0 ∧ v.ember.swap = none) ∨ (r.u 0 1 = 1 ∧ v.ember.shadowMode ≠ .ready) → ∃ t, exec (.recipeCancel r) s = .next t
      ∧ s.Refuses t r .errState 0 []) := by
  subst hv
  have hb := recipeBank_lawful
  have hk := cmdRecipeCancel_cancels
  refine ⟨fun w hwhat hswap hin hother => ?_, fun hwhat hready => ?_, fun hnone => ?_⟩
  · obtain ⟨t, ht, hrecorded, hchanges, hexact⟩ := exec_bankWithdraws (i := .recipeCancel r) hb hk rfl h hz (by decide) hwhat hswap hin hother
    refine ⟨t, ht, hrecorded, hchanges, fun hidle => ?_⟩
    obtain ⟨⟨u, hu, rfl⟩, hended⟩ := hexact hidle
    have hember : u.ember = s.ember := hu
    refine ⟨?_, hended⟩
    rw [State.settled_ember, State.noteApplied_ember, ← hember]
    exact State.complete_same (s := recipeBank.withdraw u) (q := .ember) _ _ _ _ (by decide) rfl
  · obtain ⟨t, ht, hrecorded, hchanges, hexact⟩ := exec_bankDiscards (i := .recipeCancel r) hb hk rfl h hz (by decide) hwhat hready
    refine ⟨t, ht, hrecorded, hchanges, fun hidle => ?_⟩
    obtain ⟨u, hu, rfl⟩ := hexact hidle
    have hember : u.ember = s.ember := hu
    rw [State.settled_ember, State.noteApplied_ember, ← hember]
    rfl
  · exact exec_bankKeeps hk rfl h hz hnone rfl

/-! RECIPE_READ (R375). -/

theorem RecipeSet.bytes_ne_nil (x : RecipeSet) : x.bytes ≠ [] := by
  unfold RecipeSet.bytes
  exact List.append_ne_nil_of_left_ne_nil (List.append_ne_nil_of_left_ne_nil (by simp [leBytes]) _) _

theorem recipeRead_answers {ds : List Byte} {n : Nat} (hz : r.zero 9 7 = true) (h : s.Admits cmdRecipeRead r) (hl : s.Lists r ds n) {v : State}
    (hv : v = s.judged r) :
    (r.u 8 1 = 0 → 142368 ≤ n → ∃ t u, exec (.recipeRead r) s = .next t ∧ s.AwaitsList t cmdRecipeRead r
      ∧ exec (.hostDmaDone r.channel r.token ds) t = .next u
      ∧ s.Returns u cmdRecipeRead r v.ember.active.bytes (leBytes 4 142368 ++ leBytes 4 v.ember.generation.toNat)) ∧
    (∀ x, r.u 8 1 = 1 → 142368 ≤ n → v.ember.shadow = some x → v.ember.shadowMode ≠ .loading → ∃ t u, exec (.recipeRead r) s = .next t
      ∧ s.AwaitsList t cmdRecipeRead r ∧ exec (.hostDmaDone r.channel r.token ds) t = .next u
      ∧ s.Returns u cmdRecipeRead r x.bytes (leBytes 4 142368 ++ leBytes 4 (v.ember.generation + 1).toNat)) ∧
    (r.u 8 1 = 1 → v.ember.shadowMode = .loading ∨ v.ember.shadow = none → ∃ t u, exec (.recipeRead r) s = .next t
      ∧ s.AwaitsList t cmdRecipeRead r ∧ exec (.hostDmaDone r.channel r.token ds) t = .next u ∧ s.Refuses u r .errState 0 (zeros 8)) ∧
    (r.u 8 1 = 0 → n < 142368 → ∃ t u, exec (.recipeRead r) s = .next t ∧ s.AwaitsList t cmdRecipeRead r
      ∧ exec (.hostDmaDone r.channel r.token ds) t = .next u ∧ s.Refuses u r .errLength 0xFFFFFFFD (zeros 8)) := by
  subst hv
  have hrange (hwhat : r.u 8 1 ≤ 1) : cmdRecipeRead.range r = none := bankReadRange_none hz hwhat
  refine ⟨fun hwhat hn => ?_, fun x hwhat hn hx hmode => ?_, fun hwhat hnone => ?_, fun hwhat hn => ?_⟩
  · exact exec_listedReturns rfl rfl rfl h (hrange (by omega)) hl cmdRecipeRead_actsAtOnce rfl (bankReadReply_active hwhat hn)
      (RecipeSet.bytes_ne_nil _) (padTo_bankRead ..)
  · exact exec_listedReturns rfl rfl rfl h (hrange (by omega)) hl cmdRecipeRead_actsAtOnce rfl
      (bankReadReply_shadow hwhat hn (readableShadow_some _ hmode hx)) (RecipeSet.bytes_ne_nil _) (padTo_bankRead ..)
  · exact exec_listedRefused rfl rfl rfl h (hrange (by omega)) hl rfl (bankReadReply_none hwhat (readableShadow_none hnone)) rfl
  · exact exec_listedRefused rfl rfl rfl h (hrange (by omega)) hl rfl (bankReadReply_short hwhat hn) rfl

end Recipes
end Sys2Proof.Machine

/-! SUPPORT. Commands that complete at the next tick (R336, R337), and the commands of the record buffers (R204, R376). -/
namespace Sys2Proof.Machine

theorem Part.Same.withDeferred {s u : State} {q : Part} (ds : List DeferredCommand) (h0 : q ≠ .deferred) (h : Part.Same s u q) :
    Part.Same s { u with deferred := ds } q := by
  cases q
  case deferred => exact absurd rfl h0
  all_goals exact h

section ActsLater
variable {s : State} {k : Command} {r : Request} {i : Instr} (hk : k.ActsLater)
  (hi : exec i s = .next (s.settled (s.request k r))) (h : s.Admits k r) (hr : k.range r = none)
include hk hi h hr

/-- It is answered ACCEPTED, and its effect waits. -/
theorem exec_answersAccepted {res out : List Byte} (hc : k.check r 0 (s.judged r) = .accept res) (hout : padTo k.results res = out) :
    ∃ t, exec i s = .next t ∧ s.Answers t r .accepted out (some k.opcode) := by
  obtain ⟨hrecorded, hrest, hlater⟩ := h.accept hk.desc hr hk.now hc
  refine ⟨_, hi, hout ▸ hrecorded, hrest, hlater.trans ?_⟩
  rw [Command.defers, if_pos hk.later]

/-- It is answered ACCEPTED and completes at once with its results, since nothing is left to do. -/
theorem exec_acceptsDone {held res out : List Byte} (hc : k.check r 0 (s.judged r) = .acceptDone held res)
    (hout : padTo k.results res = out) :
    ∃ t, exec i s = .next t ∧ t.Recorded r .ok stageCompletion out ∧ s.ChangesOnly t [.channels, .deferred] := by
  have hfirst := h.firstAnswer .accepted (padTo k.results held)
  obtain ⟨e, he, -, -, hresults⟩ := hfirst.recorded
  have hrequest : s.request k r = (((s.cleared r).letIn k.opcode r false .accepted 0 (padTo k.results held) 0).complete r.ref .ok 0 out).perform
      k r 0 [] := by
    rw [h.request hk.desc hr, hc, ← hout]
    rfl
  refine ⟨_, hi, ⟨e.ended .ok 0 out, ?_, rfl, rfl, ?_⟩, State.settled_changesOnly fun q hq _ _ => ?_⟩
  · rw [State.settled_recorded, hrequest, State.perform_chan hk.now]
    exact State.complete_recorded .ok 0 out he
  · have hlength : out.length = e.results.length := by rw [hresults, ← hout, padTo_length, padTo_length]
    exact padTo_of_length hlength
  · obtain ⟨hchan, hdeferred⟩ : q ≠ .channels ∧ q ≠ .deferred := by simpa using hq
    rw [hrequest, State.perform_idle hk.now, if_pos hk.later]
    exact Part.Same.withDeferred _ hdeferred (State.complete_same r.ref .ok 0 out hchan (hfirst.same q hchan))

end ActsLater

/-! The posted buffers. -/

section Buffers
variable {s u : State}

theorem State.writeBuffer_same (c : CommandRef) (data results : List Byte) {q : Part} (hreq : q ≠ .requests) (h : Part.Same s u q) :
    Part.Same s (u.writeBuffer c data results) q :=
  State.setHost_keeps _ (fun _ => rfl) (fun e => absurd e hreq) (fun _ => rfl) h

theorem State.completeBuffer_same (b : RecordBuffer) {q : Part} (hchan : q ≠ .channels) (hreq : q ≠ .requests) (h : Part.Same s u q) :
    Part.Same s (u.completeBuffer b) q := by
  unfold State.completeBuffer
  exact ite_same (State.complete_same _ _ _ _ hchan h) (State.writeBuffer_same _ _ _ hreq h)

theorem State.completeBuffer_noWork (b : RecordBuffer) (h : u.noWork) : (u.completeBuffer b).noWork := by
  unfold State.completeBuffer
  split
  · exact State.complete_noWork _ _ _ _ h
  · exact h.of_chan fun _ => rfl

/-- A buffer completes for its own command. -/
theorem State.completeBuffer_entry {b : RecordBuffer} {c : CommandRef} (h : b.command ≠ c) : (u.completeBuffer b).entry c = u.entry c := by
  unfold State.completeBuffer
  split
  · exact State.complete_entry_other h.symm ..
  · rfl

theorem State.completeBuffers_entry {c : CommandRef} {bs : List RecordBuffer} (h : ∀ b ∈ bs, b.command ≠ c) (u : State) :
    (bs.foldl (fun s b => s.completeBuffer b) u).entry c = u.entry c := by
  induction bs generalizing u with
  | nil => rfl
  | cons b bs ih =>
    rw [List.foldl_cons, ih fun x hx => h x (List.mem_cons_of_mem _ hx), State.completeBuffer_entry (h b List.mem_cons_self)]

/-- Records pass into the posted buffers, and buffers complete: nothing else changes. -/
theorem State.deliverRecords_same (n : Nat) {q : Part} (hember : q ≠ .ember) (hchan : q ≠ .channels) (hreq : q ≠ .requests)
    (h : Part.Same s u q) : Part.Same s (u.deliverRecords n) q := by
  induction n generalizing u with
  | zero => exact h
  | succ n ih =>
    unfold State.deliverRecords
    split
    case h_1 =>
      split
      · exact ih (State.setEmber_same _ hember h)
      · exact ih (State.completeBuffer_same _ hchan hreq (State.setEmber_same _ hember h))
    case h_2 => exact h

theorem State.deliverRecords_noWork (n : Nat) (h : u.noWork) : (u.deliverRecords n).noWork := by
  induction n generalizing u with
  | zero => exact h
  | succ n ih =>
    unfold State.deliverRecords
    split
    case h_1 =>
      split
      · exact ih (h.of_chan fun _ => rfl)
      · exact ih (State.completeBuffer_noWork _ (h.of_chan fun _ => rfl))
    case h_2 => exact h

/-- Where no record waits, none passes. -/
theorem State.deliverRecords_none (n : Nat) (h : u.ember.staging = []) : u.deliverRecords n = u := by
  cases n
  case zero => rfl
  case succ n =>
    unfold State.deliverRecords
    rw [h]

end Buffers

section Records
variable {s u : State} {r : Request} {ds : List Byte} {n : Nat}

theorem cmdRecordPost_actsAtOnce : cmdRecordPost.ActsAtOnce := ⟨rfl, rfl⟩
theorem cmdRecordFlush_actsAtOnce : cmdRecordFlush.ActsAtOnce := ⟨rfl, rfl⟩

/-- The buffer that RECORD_POST posts. -/
def postedBuffer (r : Request) (n : Nat) : RecordBuffer := { command := r.ref, length := n, filled := [], records := 0, firstAt := 0 }

theorem cmdRecordPost_same (r : Request) (n : Nat) {q : Part} (hember : q ≠ .ember) (hchan : q ≠ .channels) (hreq : q ≠ .requests)
    (h : Part.Same s u q) : Part.Same s (cmdRecordPost.now r n u) q :=
  State.deliverRecords_same _ hember hchan hreq (State.setEmber_same _ hember h)

theorem cmdRecordPost_noWork (r : Request) (n : Nat) (u : State) (h : u.noWork) : (cmdRecordPost.now r n u).noWork :=
  State.deliverRecords_noWork _ (h.of_chan fun _ => rfl)

theorem cmdRecordPost_holds (hnone : u.ember.staging = []) (r : Request) (n : Nat) :
    cmdRecordPost.now r n u = u.setEmber (fun x => { x with buffers := x.buffers ++ [postedBuffer r n] }) :=
  State.deliverRecords_none _ hnone

/-- RECORD_POST (R204, R376). -/
theorem recordPost_answers (h : s.Admits cmdRecordPost r) (hl : s.Lists r ds n) {v : State} (hv : v = s.judged r) :
    (24624 ≤ n → n ≤ 67108864 → v.ember.buffers.length < 64 → ∃ t u, exec (.recordPost r) s = .next t
      ∧ s.AwaitsList t cmdRecordPost r ∧ exec (.hostDmaDone r.channel r.token ds) t = .next u
      ∧ s.ChangesOnly u [.channels, .requests, .ember]
      ∧ (s.ember.staging = [] → u.Recorded r .accepted 0 (zeros 8) ∧ u.ember = { s.ember with
          buffers := s.ember.buffers ++ [{ command := r.ref, length := n, filled := [], records := 0, firstAt := 0 }] })) ∧
    (n < 24624 ∨ 67108864 < n → ∃ t u, exec (.recordPost r) s = .next t ∧ s.AwaitsList t cmdRecordPost r
      ∧ exec (.hostDmaDone r.channel r.token ds) t = .next u ∧ s.Refuses u r .errLength 0xFFFFFFFD (zeros 8)) ∧
    (24624 ≤ n → n ≤ 67108864 → 64 ≤ v.ember.buffers.length → ∃ t u, exec (.recordPost r) s = .next t ∧ s.AwaitsList t cmdRecordPost r
      ∧ exec (.hostDmaDone r.channel r.token ds) t = .next u ∧ s.Refuses u r .errResource 0 (zeros 8)) := by
  subst hv
  refine ⟨fun hlow hhigh hroom => ?_, fun hlength => ?_, fun hlow hhigh hfull => ?_⟩
  · obtain ⟨t, x, ht, hwaits, hfirst, hu⟩ := exec_listedAccepts (i := .recordPost r) rfl rfl rfl h rfl hl cmdRecordPost_actsAtOnce (res := [])
      (out := zeros 8) (by simp [cmdRecordPost, hlow.not_gt, hhigh.not_gt, hroom.not_ge]) rfl
      (cmdRecordPost_noWork r n)
    refine ⟨t, _, ht, hwaits, hu, State.settled_changesThree fun q hchan hreq hember => State.noteApplied_same _
      (cmdRecordPost_same r n hember hchan hreq (hfirst.same q hchan)), fun hnone => ?_⟩
    have hember : x.ember = s.ember := hfirst.same .ember (by decide)
    rw [cmdRecordPost_holds (hember ▸ hnone)]
    refine ⟨(hfirst.settled (ps := [.channels, .ember]) (by rfl) fun q hq => ?_).1, ?_⟩
    · obtain ⟨hchan, hq'⟩ : q ≠ .channels ∧ q ≠ .ember := by simpa using hq
      exact State.setEmber_same _ hq' (hfirst.same q hchan)
    · rw [State.settled_ember, State.noteApplied_ember, State.setEmber_ember, hember]
      rfl
  · exact exec_listedRefused rfl rfl rfl h rfl hl rfl (by simp [cmdRecordPost, hlength, detailList]) rfl
  · exact exec_listedRefused rfl rfl rfl h rfl hl rfl (by simp [cmdRecordPost, hlow.not_gt, hhigh.not_gt, hfull]) rfl

theorem State.flushBuffers_same {q : Part} (hember : q ≠ .ember) (hchan : q ≠ .channels) (hreq : q ≠ .requests) (h : Part.Same s u q) :
    Part.Same s u.flushBuffers q :=
  foldl_same (fun _ b hw => State.completeBuffer_same b hchan hreq hw) _ (State.setEmber_same _ hember h)

theorem State.flushBuffers_ember (u : State) : u.flushBuffers.ember = { u.ember with buffers := [] } :=
  foldl_same (s := u.setEmber fun x => { x with buffers := [] }) (q := .ember)
    (fun _ b hw => State.completeBuffer_same b (by decide) (by decide) hw) _ rfl

/-- RECORD_FLUSH (R376). -/
theorem recordFlush_answers (h : s.Admits cmdRecordFlush r) {v : State} (hv : v = s.judged r) (hother : ∀ b ∈ s.ember.buffers, b.command ≠ r.ref) :
    ∃ t, exec (.recordFlush r) s = .next t ∧ t.Recorded r .ok 0 (leBytes 4 v.ember.buffers.length)
      ∧ s.ChangesOnly t [.channels, .requests, .ember] ∧ t.ember = { s.ember with buffers := [] } := by
  subst hv
  obtain ⟨u, hu, ht⟩ := exec_does cmdRecordFlush_actsAtOnce (i := .recordFlush r) rfl h rfl rfl rfl
    (padTo_of_length (leBytes_length 4 _))
  have hember : u.ember = s.ember := hu.same .ember (by decide)
  obtain ⟨hrecorded, hchanges⟩ := hu.settled (w := u.flushBuffers) (ps := [.channels, .requests, .ember])
    (State.completeBuffers_entry (hember ▸ hother) _) fun q hq => by
      obtain ⟨hchan, hreq, hq'⟩ : q ≠ .channels ∧ q ≠ .requests ∧ q ≠ .ember := by simpa using hq
      exact State.flushBuffers_same hq' hchan hreq (hu.same q hchan)
  refine ⟨_, ht, hrecorded, hchanges, ?_⟩
  rw [State.settled_ember, State.noteApplied_ember, ← hember]
  exact State.flushBuffers_ember u

/-! ENGINE_IMAGE_LOAD (R377). -/

theorem cmdEngineImageLoad_actsAtOnce : cmdEngineImageLoad.ActsAtOnce := ⟨rfl, rfl⟩

theorem cmdEngineImageLoad_actsOn : cmdEngineImageLoad.ActsOn .ember :=
  ⟨fun _ _ => State.setEmber_same _, fun _ _ _ _ => rfl⟩

theorem cmdEngineImageLoad_readsInto : cmdEngineImageLoad.ReadsInto .sec :=
  ⟨fun _ _ => State.setSec_same _, fun _ _ _ _ => rfl⟩

theorem engineImageLoad_answers {bs : List Byte} (h : s.Admits cmdEngineImageLoad r) (hl : s.Lists r ds bs.length) {v : State}
    (hv : v = s.judged r) :
    (v.ember.imageLoad = none → ∃ t u w, exec (.engineImageLoad r) s = .next t ∧ s.AwaitsList t cmdEngineImageLoad r
      ∧ exec (.hostDmaDone r.channel r.token ds) t = .next u ∧ u.Recorded r .pending 0 (zeros 8)
      ∧ s.AwaitsBuffer u cmdEngineImageLoad r (.input bs.length) true ∧ s.ChangesOnly u [.channels, .requests, .ember]
      ∧ u.ember = { s.ember with imageLoad := some r.ref } ∧ exec (.hostDmaDone r.channel r.token bs) u = .next w
      ∧ w.sec = { s.sec with work := s.sec.work ++ [{ opcode := 0x0707, request := r, data := bs }] } ∧ w.host.waiting = s.host.waiting) ∧
    (v.ember.imageLoad ≠ none → ∃ t u, exec (.engineImageLoad r) s = .next t ∧ s.AwaitsList t cmdEngineImageLoad r
      ∧ exec (.hostDmaDone r.channel r.token ds) t = .next u ∧ s.Refuses u r .errState 0 (zeros 8)) := by
  subst hv
  refine ⟨fun hnone => ?_, fun hsome => ?_⟩
  · have hon := cmdEngineImageLoad_actsOn
    obtain ⟨t, x, ht, hwaits, hjob, hu⟩ := exec_listedJob (i := .engineImageLoad r) (running := true) (bound := 0) rfl rfl rfl h rfl hl
      cmdEngineImageLoad_actsAtOnce (by simp [cmdEngineImageLoad, hnone]) fun _ => hon.noWork r bs.length
    have hbuffer := State.reading_waiting (r := r) (n := bs.length) hon (by decide) hjob.waiting
    have harrives := exec_bufferArrives hbuffer rfl hl (State.reading_same hon (by decide) (by decide) (hjob.same .host (by decide) (by decide)))
      (State.arrived_noWork (bs := bs) hon cmdEngineImageLoad_readsInto (hjob.quiet hl.quiet.2))
    have hember : x.ember = s.ember := hjob.same .ember (by decide) (by decide)
    have hsec : x.sec = s.sec := hjob.same .sec (by decide) (by decide)
    obtain ⟨e, he, hpending, -⟩ := hjob.entry
    refine ⟨t, _, _, ht, hwaits, hu, ⟨e, ?_, hpending.status, hpending.stage, hpending.results⟩, hbuffer,
      State.settled_changesThree fun q hchan hreq hq => State.reading_same hon hreq hq (hjob.same q hchan hreq), ?_, harrives, ?_, ?_⟩
    · rw [State.settled_recorded, State.reading_chan hon]
      exact he
    · rw [State.settled_ember, ← hember]
      exact State.noteApplied_ember ..
    · have hread : (s.withWaitingOf (s.settled (x.reading cmdEngineImageLoad r bs.length))).sec = s.sec :=
        (State.settled_sec ..).trans ((State.noteApplied_sec ..).trans hsec)
      rw [State.settled_sec, ← hread]
      rfl
    · rw [State.settled_host_waiting]
      rfl
  · exact exec_listedRefused rfl rfl rfl h rfl hl rfl (by simp [cmdEngineImageLoad, Option.isSome_iff_ne_none.2 hsome]) rfl

end Records
end Sys2Proof.Machine

/-! SUPPORT. The commands of the clusters (R205, R206, R207, R377, R378, R379), and the recipe commands' obligation. -/
namespace Sys2Proof.Machine

section Clusters
variable {s : State} {r : Request} {c : Fin 8}

theorem cmdClusterStop_actsLater : cmdClusterStop.ActsLater := ⟨rfl, rfl, rfl, rfl⟩
theorem cmdClusterRestart_actsLater : cmdClusterRestart.ActsLater := ⟨rfl, rfl, rfl, rfl⟩
theorem cmdClusterStatus_actsAtOnce : cmdClusterStatus.ActsAtOnce := ⟨rfl, rfl⟩
theorem cmdEngineCounters_actsAtOnce : cmdEngineCounters.ActsAtOnce := ⟨rfl, rfl⟩

theorem clusterField_eq (hc : r.u 0 1 = c.val) : clusterField r = c := by
  rw [clusterField, hc, Fin.ofNat_val_eq_self]

theorem clusterRange_none (hc : r.u 0 1 = c.val) (hz : r.zero 1 3 = true) : clusterRange r = none := by
  simp [clusterRange, firstBad_eq_none, hc, hz]
  omega

/-! What the effects of the commands leave of a cluster. -/

theorem State.setCluster_clusters (c : Fin 8) (f : Cluster → Cluster) (s : State) :
    (s.setCluster c f).ember.clusters[c] = f s.ember.clusters[c] :=
  Vector.getElem_set_self ..

theorem State.setClusterMode_clusters (c : Fin 8) (m : ClusterMode) (s : State) :
    (s.setClusterMode c m).ember.clusters[c] = { s.ember.clusters[c] with mode := m, lastChange := s.clock.frame } := by
  have hember : (s.setClusterMode c m).ember = (s.setCluster c fun x => { x with mode := m, lastChange := s.clock.frame }).ember :=
    State.raiseState_same (q := .ember) _ _ _ _ _ rfl
  rw [hember, State.setCluster_clusters]

/-- Events alone are raised for the engines that are lost. -/
theorem State.engineLost_ember (es : List (Fin 1024)) (s : State) : (s.engineLost es).ember = s.ember :=
  foldl_same (q := .ember) (fun _ _ h => foldl_same (fun _ _ h => State.raise_same _ _ _ _ _ _ h) _ h) _ rfl

theorem State.stopCluster_stopped (h : s.ember.clusters[c].mode = .stopped) : s.stopCluster c = s :=
  if_pos (beq_iff_eq.2 h)

/-- The last things that a stop does. -/
theorem State.stopCluster_running (h : s.ember.clusters[c].mode ≠ .stopped) :
    ∃ u : State, s.stopCluster c = (u.setClusterMode c .stopped).engineLost (clusterEngines c) :=
  ⟨_, if_neg (mt eq_of_beq h)⟩

theorem State.stopCluster_mode (h : s.ember.clusters[c].mode ≠ .stopped) : (s.stopCluster c).ember.clusters[c].mode = .stopped := by
  obtain ⟨u, hu⟩ := State.stopCluster_running h
  rw [hu, State.engineLost_ember, State.setClusterMode_clusters]

theorem State.restartCluster_clusters (h : s.ember.clusters[c].mode = .stopped) (ref : CommandRef) :
    (s.restartCluster c ref).ember.clusters[c] = { s.ember.clusters[c] with mode := .loading, lastChange := s.clock.frame, restart := some ref } := by
  rw [State.restartCluster, if_pos (beq_iff_eq.2 h), State.setCluster_clusters, State.setClusterMode_clusters]

theorem carryOut_clusterStop (s : State) (r : Request) : s.carryOut ⟨0x0708, r, []⟩ = s.stopCluster (clusterField r) := rfl

/-- A restart that nothing has ended starts its cluster. -/
theorem carryOut_clusterRestart (h : (s.chan r.channel).find r.token = none) :
    s.carryOut ⟨0x0709, r, []⟩ = s.restartCluster (clusterField r) r.ref := by
  have hlater : s.carryOut ⟨0x0709, r, []⟩ = if (s.chan r.channel).find r.token |>.any (fun e => e.status.isFinal) then s
      else s.restartCluster (clusterField r) r.ref := rfl
  rw [hlater, h]
  rfl

/-- CLUSTER_STOP, CLUSTER_RESTART, CLUSTER_STATUS (R205, R377, R378). -/
theorem cluster_answers {v : State} (hv : v = s.judged r) (hc : r.u 0 1 = c.val) (hz : r.zero 1 3 = true) :
    (s.Admits cmdClusterStop r → v.ember.clusters[c].mode ≠ .stopped → ∃ t, exec (.clusterStop r) s = .next t
      ∧ s.Answers t r .ok (leBytes 8 (s.clock.frame + 1).toNat) (some 0x0708)
      ∧ (v.carryOut ⟨0x0708, r, []⟩).ember.clusters[c].mode = .stopped) ∧
    (s.Admits cmdClusterStop r → v.ember.clusters[c].mode = .stopped → ∃ t, exec (.clusterStop r) s = .next t
      ∧ s.Answers t r .ok (zeros 8) (some 0x0708) ∧ v.carryOut ⟨0x0708, r, []⟩ = v) ∧
    (s.Admits cmdClusterRestart r → v.ember.imageLoad = none → v.ember.clusters[c].mode = .stopped → v.domainOn (clusterDomain c) = true →
      (v.chan r.channel).find r.token = none → ∃ t, exec (.clusterRestart r) s = .next t ∧ s.Answers t r .accepted (zeros 8) (some 0x0709)
        ∧ (v.carryOut ⟨0x0709, r, []⟩).ember.clusters[c].mode = .loading
        ∧ (v.carryOut ⟨0x0709, r, []⟩).ember.clusters[c].restart = some r.ref) ∧
    (s.Admits cmdClusterRestart r → v.ember.imageLoad = none → v.ember.clusters[c].mode = .running → v.domainOn (clusterDomain c) = true →
      ∃ t, exec (.clusterRestart r) s = .next t ∧ t.Recorded r .ok stageCompletion (zeros 8) ∧ s.ChangesOnly t [.channels, .deferred]) ∧
    (s.Admits cmdClusterRestart r → v.ember.imageLoad ≠ none ∨ v.ember.clusters[c].mode = .loading ∨ v.domainOn (clusterDomain c) = false →
      ∃ t, exec (.clusterRestart r) s = .next t ∧ s.Refuses t r .errState 0 (zeros 8)) ∧
    (s.Admits cmdClusterStatus r → ∃ t, exec (.clusterStatus r) s = .next t ∧ s.Answers t r .ok (padTo 48 (v.clusterStatus c)) none) := by
  subst hv
  have hfield : clusterField r = c := clusterField_eq hc
  have hr : clusterRange r = none := clusterRange_none hc hz
  refine ⟨fun h hmode => ?_, fun h hmode => ?_, fun h himage hmode hon hfind => ?_, fun h himage hmode hon => ?_, fun h hbad => ?_, fun h => ?_⟩
  · have hframe : (s.judged r).nextFrame = leBytes 8 (s.clock.frame + 1).toNat := by rw [State.nextFrame, State.judged_clock]
    obtain ⟨t, ht, ha⟩ := exec_answersOk (i := .clusterStop r) (res := (s.judged r).nextFrame) cmdClusterStop_actsLater rfl h hr
      (by simp [cmdClusterStop, hfield, hmode, -Fin.getElem_fin]) (padTo_of_length (leBytes_length 8 _))
    refine ⟨t, ht, hframe ▸ ha, ?_⟩
    rw [carryOut_clusterStop, hfield]
    exact State.stopCluster_mode hmode
  · obtain ⟨t, ht, ha⟩ := exec_answersOk (i := .clusterStop r) (res := zeros 8) cmdClusterStop_actsLater rfl h hr
      (by simp [cmdClusterStop, hfield, hmode, -Fin.getElem_fin]) rfl
    refine ⟨t, ht, ha, ?_⟩
    rw [carryOut_clusterStop, hfield]
    exact State.stopCluster_stopped hmode
  · obtain ⟨t, ht, ha⟩ := exec_answersAccepted (i := .clusterRestart r) (res := []) cmdClusterRestart_actsLater rfl h hr
      (by simp [cmdClusterRestart, hfield, hmode, himage, hon, -Fin.getElem_fin]) rfl
    refine ⟨t, ht, ha, ?_⟩
    rw [carryOut_clusterRestart hfind, hfield, State.restartCluster_clusters hmode]
    exact ⟨rfl, rfl⟩
  · exact exec_acceptsDone (held := []) (res := zeros 8) cmdClusterRestart_actsLater rfl h hr
      (by simp [cmdClusterRestart, hfield, hmode, himage, hon, -Fin.getElem_fin]) rfl
  · refine exec_refuses cmdClusterRestart_actsLater rfl h hr ?_ rfl
    rcases hbad with himage | hmode | hon
    · simp [cmdClusterRestart, Option.isSome_iff_ne_none.2 himage]
    · simp [cmdClusterRestart, hfield, hmode, -Fin.getElem_fin]
    · simp [cmdClusterRestart, hfield, hon]
  · exact exec_reports cmdClusterStatus_actsAtOnce rfl h rfl hr rfl rfl (by rw [hfield]; rfl)

/-- ENGINE_COUNTERS (R207, R379). -/
theorem engineCounters_answers {v : State} (hv : v = s.judged r) {e : Fin 1024} (he : r.u 0 2 = e.val) (hz : r.zero 2 2 = true)
    (h : s.Admits cmdEngineCounters r) : ∃ t, exec (.engineCounters r) s = .next t
    ∧ s.Answers t r .ok (leBytes 8 v.ember.engines[e].dwells.toNat ++ leBytes 8 v.ember.engines[e].written.toNat
        ++ leBytes 8 v.ember.engines[e].lostTotal.toNat ++ leBytes 8 v.ember.engines[e].sparks.toNat ++ leBytes 8 v.ember.engines[e].refused.toNat
        ++ leBytes 2 v.ember.engines[e].physical.val ++ zeros 2 ++ leBytes 4 (floatWord (v.ember.active.load e)).toNat) none := by
  subst hv
  have hfield : Fin.ofNat 1024 (r.u 0 2) = e := by rw [he, Fin.ofNat_val_eq_self]
  have hr : cmdEngineCounters.range r = none := by
    simp [cmdEngineCounters, firstBad_eq_none, he, hz]
    omega
  subst hfield
  refine exec_reports cmdEngineCounters_actsAtOnce rfl h rfl hr rfl rfl ?_
  simp only [List.flatMap_cons, List.flatMap_nil, List.append_nil, List.append_assoc]
  exact padTo_of_length (by simp [zeros]; rfl)

end Clusters

/-- Settles O46: each command's checks decide its answer; a load then reads its buffer, a swap or a cancel changes the bank at once, and
the commands of the clusters leave their effect to the next tick. -/
theorem emberCommandsAnswerAndTakeEffect : Obligations.EmberCommandsAnswerAndTakeEffect := by
  intro s v r hv
  refine ⟨?_, fun h hr => recipeSwap_answers hr h hv, fun h hz => recipeCancel_answers hz h hv,
    fun _ _ h hz hl => recipeRead_answers hz h hl hv, fun _ _ h hl => recordPost_answers h hl hv, fun h => recordFlush_answers h hv, ?_,
    fun _ hc hz => cluster_answers hv hc hz, fun _ he hz => engineCounters_answers hv he hz⟩
  · rintro ds _ bs h hl rfl -
    exact recipeLoad_answers h hl hv
  · rintro ds _ bs h hl rfl
    exact engineImageLoad_answers h hl hv

end Sys2Proof.Machine

/-! SUPPORT. The commands of the trigger bank (R143, R221, R380). -/
namespace Sys2Proof.Machine

theorem cmdTriggerLoad_actsAtOnce : cmdTriggerLoad.ActsAtOnce := ⟨rfl, rfl⟩
theorem cmdTriggerSwap_actsAtOnce : cmdTriggerSwap.ActsAtOnce := ⟨rfl, rfl⟩
theorem cmdTriggerRead_actsAtOnce : cmdTriggerRead.ActsAtOnce := ⟨rfl, rfl⟩

theorem cmdTriggerLoad_actsOn : cmdTriggerLoad.ActsOn .cap :=
  ⟨fun _ _ => State.setCap_same _, fun _ _ _ _ => rfl⟩

theorem cmdTriggerLoad_readsInto : cmdTriggerLoad.ReadsInto .cap :=
  ⟨fun _ _ => State.setCap_same _, fun _ _ _ _ => rfl⟩

theorem cmdTriggerSwap_actsOn : cmdTriggerSwap.ActsOn .cap where
  same r n s u q hq h := by
    unfold cmdTriggerSwap
    simp only
    split
    · exact State.setCap_same _ hq h
    · exact h
  chan r n u j := by
    unfold cmdTriggerSwap
    simp only
    split
    · rfl
    · rfl

section Triggers
variable {s u : State} {r : Request}

/-- The load that TRIGGER_LOAD opens. -/
def State.triggerLoad (r : Request) (s : State) : TriggerLoad :=
  { command := r.ref, formats := s.ports.map (fun q => q.settings.inFormats)
    declared := (List.finRange 32).filter (fun n => s.cap.namespaces[n].mode != .undeclared), data := none }

theorem cmdTriggerLoad_now (n : Nat) :
    (cmdTriggerLoad.now r n u).cap = { u.cap with shadowMode := .loading, load := some (u.triggerLoad r) } := rfl

theorem cmdTriggerLoad_arrived {l : TriggerLoad} (hload : u.cap.load = some l) (hl : l.command = r.ref) (bs : List Byte) :
    (cmdTriggerLoad.arrived r bs u).cap = { u.cap with load := some { l with data := some bs } } := by
  simp [cmdTriggerLoad, hload, hl]

/-- TRIGGER_LOAD (R221, R380). -/
theorem triggerLoad_answers {ds bs : List Byte} (h : s.Admits cmdTriggerLoad r) (hl : s.Lists r ds bs.length) {v : State}
    (hv : v = s.judged r) :
    ((v.cap.shadowMode = .empty ∨ v.cap.shadowMode = .ready) → ∃ t u w l, exec (.triggerLoad r) s = .next t ∧ s.AwaitsList t cmdTriggerLoad r
      ∧ exec (.hostDmaDone r.channel r.token ds) t = .next u ∧ u.Recorded r .accepted 0 []
      ∧ s.AwaitsBuffer u cmdTriggerLoad r (.input bs.length) true ∧ s.ChangesOnly u [.channels, .requests, .cap]
      ∧ u.cap = { s.cap with shadowMode := .loading, load := some l }
      ∧ l.command = r.ref ∧ l.data = none ∧ (∀ p : PortNo, l.formats[p] = (s.port p).settings.inFormats)
      ∧ (∀ k : Fin 32, k ∈ l.declared ↔ s.cap.namespaces[k].mode ≠ .undeclared)
      ∧ exec (.hostDmaDone r.channel r.token bs) u = .next w ∧ s.ChangesOnly w [.channels, .cap]
      ∧ w.cap = { s.cap with shadowMode := .loading, load := some { l with data := some bs } }) ∧
    ((v.cap.shadowMode = .loading ∨ v.cap.shadowMode = .scheduled) → ∃ t u, exec (.triggerLoad r) s = .next t
      ∧ s.AwaitsList t cmdTriggerLoad r ∧ exec (.hostDmaDone r.channel r.token ds) t = .next u ∧ s.Refuses u r .errState 0 []) := by
  subst hv
  refine ⟨fun hmode => ?_, fun hmode => ?_⟩
  · obtain ⟨t, x, ht, hwaits, hfirst, u, rfl, hu, hrecorded, hbuffer, hchanges, w, rfl, hw, hlast⟩ := exec_loads (i := .triggerLoad r) rfl rfl
      rfl h rfl hl cmdTriggerLoad_actsAtOnce cmdTriggerLoad_actsOn cmdTriggerLoad_readsInto (by decide)
      (by rcases hmode with hm | hm <;> simp [cmdTriggerLoad, hm])
    have hcap : x.cap = s.cap := hfirst.same .cap (by decide)
    have hports : x.ports = s.ports := hfirst.same .ports (by decide)
    have hloading : (s.withWaitingOf (s.settled (x.reading cmdTriggerLoad r bs.length))).cap
        = { s.cap with shadowMode := .loading, load := some (s.triggerLoad r) } := by
      rw [State.triggerLoad, ← hports, ← hcap]
      exact (State.settled_cap ..).trans ((State.noteApplied_cap ..).trans (cmdTriggerLoad_now _))
    refine ⟨t, _, _, s.triggerLoad r, ht, hwaits, hu, hrecorded, hbuffer, hchanges, hloading, rfl, rfl, fun p => ?_, fun k => ?_, hw, hlast, ?_⟩
    · simp [State.triggerLoad, State.port]
    · simp [State.triggerLoad]
    · rw [State.settled_cap, cmdTriggerLoad_arrived (l := s.triggerLoad r) (by rw [hloading]) rfl, hloading]
  · exact exec_listedRefused rfl rfl rfl h rfl hl rfl (by rcases hmode with hm | hm <;> simp [cmdTriggerLoad, hm]) rfl

/-- TRIGGER_SWAP (R141, R221, R380). -/
theorem triggerSwap_answers (hr : bankSwapRange r = none) (h : s.Admits cmdTriggerSwap r) {v : State} (hv : v = s.judged r) :
    (∀ f : BitVec 64, v.cap.shadowMode = .ready → (r.u 0 1 = 0 ∧ f = s.clock.frame + 8) ∨ (r.u 0 1 = 1 ∧ f.toNat = r.u 8 8
        ∧ s.clock.frame.toNat + 8 ≤ f.toNat ∧ f.toNat ≤ s.clock.frame.toNat + 8589934592) →
      ∃ t, exec (.triggerSwap r) s = .next t ∧ t.Recorded r .accepted 0 (leBytes 8 f.toNat ++ zeros 8) ∧ s.ChangesOnly t [.channels, .cap]
        ∧ t.cap = { s.cap with shadowMode := .scheduled, swap := some { frame := f, persist := r.persist, command := r.ref } }) ∧
    (v.cap.shadowMode = .ready → r.u 0 1 = 1 → r.u 8 8 < s.clock.frame.toNat + 8 ∨ s.clock.frame.toNat + 8589934592 < r.u 8 8 →
      ∃ t, exec (.triggerSwap r) s = .next t ∧ s.Refuses t r .errRange 8 (zeros 16)) ∧
    (v.cap.shadowMode ≠ .ready → ∃ t, exec (.triggerSwap r) s = .next t ∧ s.Refuses t r .errState 0 (zeros 16)) := by
  subst hv
  have hjudged : (s.judged r).bankFrame r = s.bankFrame r := State.bankFrame_of_clock (State.judged_clock s r) r
  have hrefused {st : Status} {d : Nat} (hc : (s.judged r).bankSwapReply r (s.judged r).cap.shadowMode = .refuse st d []) :
      ∃ t, exec (.triggerSwap r) s = .next t ∧ s.Refuses t r st d (zeros 16) := exec_refused rfl h rfl hr rfl hc rfl
  refine ⟨fun f hready hf => ?_, fun hready hmode hout => ?_, fun hunready => ?_⟩
  · have hframe : s.bankFrame r = some f := State.bankFrame_eq hf
    have hreply := State.bankSwapReply_ready (hjudged.trans hframe)
    rw [← hready] at hreply
    obtain ⟨u, hu, t, rfl, ht, hrecorded, hchanges⟩ := exec_acceptsOn cmdTriggerSwap_actsAtOnce cmdTriggerSwap_actsOn (i := .triggerSwap r)
      rfl h rfl hr hreply (padTo_frame (by decide) f)
    have hcap : u.cap = s.cap := hu.same .cap (by decide)
    have hnow : u.bankFrame r = some f := (State.bankFrame_of_clock (hu.same .clock (by decide)) r).trans hframe
    refine ⟨_, ht, hrecorded, hchanges, ?_⟩
    rw [State.settled_cap, State.noteApplied_cap]
    simp [cmdTriggerSwap, hnow, hcap]
  · exact hrefused (by rw [hready, State.bankSwapReply_outside (hjudged.trans (State.bankFrame_none hmode hout))])
  · exact hrefused (State.bankSwapReply_unready _ r hunready)

/-! TRIGGER_CANCEL (R143, R221, R380). -/

/-- The trigger bank, as a cancel sees it. -/
def triggerBank : SwapBank where
  part := .cap
  swap s := s.cap.swap
  mode s := s.cap.shadowMode
  generation s := s.cap.generation
  withdraw s := s.setCap (fun x => { x with swap := none, shadowMode := .ready })
  discard s := s.setCap (fun x => { x with shadow := none, shadowMode := .empty })

theorem triggerBank_lawful : triggerBank.Lawful where
  swap h := congrArg (·.swap) h
  mode h := congrArg (·.shadowMode) h
  generation h := congrArg (·.generation) h
  withdraw_same := State.setCap_same _
  discard_same := State.setCap_same _
  withdraw_chan _ _ := rfl
  discard_chan _ _ := rfl

theorem cmdTriggerCancel_cancels : cmdTriggerCancel.Cancels triggerBank :=
  ⟨⟨rfl, rfl⟩, rfl, rfl, rfl, fun _ _ => rfl, fun _ _ => rfl⟩

theorem triggerCancel_answers (hz : r.zero 1 3 = true) (h : s.Admits cmdTriggerCancel r) {v : State} (hv : v = s.judged r) :
    (∀ w, r.u 0 1 = 0 → v.cap.swap = some w → s.clock.frame.toNat + 8 ≤ w.frame.toNat →
      (∀ x, s.cap.swap = some x → x.command ≠ r.ref) →
      ∃ t, exec (.triggerCancel r) s = .next t ∧ t.Recorded r .ok 0 [] ∧ s.ChangesOnly t [.channels, .cap]
        ∧ (s.deferred = [] → t.cap = { s.cap with swap := none, shadowMode := .ready }
          ∧ ((s.chan r.channel).window.length < 512 →
            s.Ended t w.command .errState (leBytes 8 w.frame.toNat ++ leBytes 4 s.cap.generation.toNat ++ zeros 4)))) ∧
    (r.u 0 1 = 1 → v.cap.shadowMode = .ready → ∃ t, exec (.triggerCancel r) s = .next t ∧ t.Recorded r .ok 0 []
      ∧ s.ChangesOnly t [.channels, .cap] ∧ (s.deferred = [] → t.cap = { s.cap with shadow := none, shadowMode := .empty })) ∧
    ((r.u 0 1 = 0 ∧ v.cap.swap = none) ∨ (r.u 0 1 = 1 ∧ v.cap.shadowMode ≠ .ready) → ∃ t, exec (.triggerCancel r) s = .next t
      ∧ s.Refuses t r .errState 0 []) := by
  subst hv
  have hb := triggerBank_lawful
  have hk := cmdTriggerCancel_cancels
  refine ⟨fun w hwhat hswap hin hother => ?_, fun hwhat hready => ?_, fun hnone => ?_⟩
  · obtain ⟨t, ht, hrecorded, hchanges, hexact⟩ := exec_bankWithdraws (i := .triggerCancel r) hb hk rfl h hz (by decide) hwhat hswap hin hother
    refine ⟨t, ht, hrecorded, hchanges, fun hidle => ?_⟩
    obtain ⟨⟨u, hu, rfl⟩, hended⟩ := hexact hidle
    have hcap : u.cap = s.cap := hu
    refine ⟨?_, hended⟩
    rw [State.settled_cap, State.noteApplied_cap, ← hcap]
    exact State.complete_same (s := triggerBank.withdraw u) (q := .cap) _ _ _ _ (by decide) rfl
  · obtain ⟨t, ht, hrecorded, hchanges, hexact⟩ := exec_bankDiscards (i := .triggerCancel r) hb hk rfl h hz (by decide) hwhat hready
    refine ⟨t, ht, hrecorded, hchanges, fun hidle => ?_⟩
    obtain ⟨u, hu, rfl⟩ := hexact hidle
    have hcap : u.cap = s.cap := hu
    rw [State.settled_cap, State.noteApplied_cap, ← hcap]
    rfl
  · exact exec_bankKeeps hk rfl h hz hnone rfl

/-! TRIGGER_READ (R380). -/

theorem TriggerBank.bytes_ne_nil (x : TriggerBank) : x.bytes ≠ [] := by
  unfold TriggerBank.bytes
  exact List.append_ne_nil_of_left_ne_nil (List.append_ne_nil_of_left_ne_nil (by simp [leBytes]) _) _

theorem triggerRead_answers {ds : List Byte} {n : Nat} (hz : r.zero 9 7 = true) (h : s.Admits cmdTriggerRead r) (hl : s.Lists r ds n) {v : State}
    (hv : v = s.judged r) :
    (r.u 8 1 = 0 → 49184 ≤ n → ∃ t u, exec (.triggerRead r) s = .next t ∧ s.AwaitsList t cmdTriggerRead r
      ∧ exec (.hostDmaDone r.channel r.token ds) t = .next u
      ∧ s.Returns u cmdTriggerRead r v.cap.active.bytes (leBytes 4 49184 ++ leBytes 4 v.cap.generation.toNat)) ∧
    (∀ x, r.u 8 1 = 1 → 49184 ≤ n → v.cap.shadow = some x → v.cap.shadowMode ≠ .loading → ∃ t u, exec (.triggerRead r) s = .next t
      ∧ s.AwaitsList t cmdTriggerRead r ∧ exec (.hostDmaDone r.channel r.token ds) t = .next u
      ∧ s.Returns u cmdTriggerRead r x.bytes (leBytes 4 49184 ++ leBytes 4 (v.cap.generation + 1).toNat)) ∧
    (r.u 8 1 = 1 → v.cap.shadowMode = .loading ∨ v.cap.shadow = none → ∃ t u, exec (.triggerRead r) s = .next t
      ∧ s.AwaitsList t cmdTriggerRead r ∧ exec (.hostDmaDone r.channel r.token ds) t = .next u ∧ s.Refuses u r .errState 0 (zeros 8)) := by
  subst hv
  have hrange (hwhat : r.u 8 1 ≤ 1) : cmdTriggerRead.range r = none := bankReadRange_none hz hwhat
  refine ⟨fun hwhat hn => ?_, fun x hwhat hn hx hmode => ?_, fun hwhat hnone => ?_⟩
  · exact exec_listedReturns rfl rfl rfl h (hrange (by omega)) hl cmdTriggerRead_actsAtOnce rfl (bankReadReply_active hwhat hn)
      (TriggerBank.bytes_ne_nil _) (padTo_bankRead ..)
  · exact exec_listedReturns rfl rfl rfl h (hrange (by omega)) hl cmdTriggerRead_actsAtOnce rfl
      (bankReadReply_shadow hwhat hn (readableShadow_some _ hmode hx)) (TriggerBank.bytes_ne_nil _) (padTo_bankRead ..)
  · exact exec_listedRefused rfl rfl rfl h (hrange (by omega)) hl rfl (bankReadReply_none hwhat (readableShadow_none hnone)) rfl

end Triggers
end Sys2Proof.Machine

/-! SUPPORT. The commands of the trigger channels (R209, R215, R381, R382, R384, R385). -/
namespace Sys2Proof.Machine

/-! Masks. -/

theorem leNat_lt (bs : List Byte) : leNat bs < 2 ^ (8 * bs.length) := by
  induction bs with
  | nil => decide
  | cons b bs ih =>
    have hb : b.toNat < 256 := b.isLt
    rw [leNat, List.length_cons, Nat.mul_succ, Nat.pow_add]
    omega

theorem payloadField_lt (r : Request) (off n : Nat) : r.u off n < 2 ^ (8 * n) :=
  (leNat_lt _).trans_le (Nat.pow_le_pow_right (by decide) (Nat.mul_le_mul_left 8 (List.length_take_le ..)))

theorem packBits_testBit (bs : List Bool) (i : Nat) : (packBits bs).testBit i = (bs[i]?).getD false := by
  induction bs generalizing i with
  | nil => simp [packBits]
  | cons b bs ih =>
    have hbit : packBits (b :: bs) = Nat.bit b (packBits bs) := by cases b <;> simp [packBits, bit, Nat.bit, Nat.add_comm]
    cases i with
    | zero => rw [hbit, Nat.testBit_bit_zero]; rfl
    | succ i => rw [hbit, Nat.testBit_bit_succ, ih]; rfl

/-- Masks of 64 channels that have none in common. -/
theorem masks_disjoint {a b : Nat} (ha : a < 2 ^ 64) (h : ∀ c : Fin 64, ¬(a.testBit c.val = true ∧ b.testBit c.val = true)) : a &&& b = 0 := by
  refine Nat.eq_of_testBit_eq fun i => ?_
  rw [Nat.testBit_and, Nat.zero_testBit, Bool.and_eq_false_iff]
  by_cases hi : i < 64
  · simpa [Decidable.imp_iff_not_or] using h ⟨i, hi⟩
  · exact .inl (Nat.testBit_lt_two_pow (ha.trans_le (Nat.pow_le_pow_right (by decide) (Nat.not_lt.1 hi))))

/-! What is done to one channel leaves the others. -/

/-- The other channels and the active bank are as they were. -/
structure State.KeepsOthers (s : State) (t : Fin 64) (u : State) : Prop where
  active : u.cap.active = s.cap.active
  others : ∀ c, c ≠ t → u.cap.channels[c] = s.cap.channels[c]

section KeepsOthers
variable {s u w : State} {t : Fin 64}

theorem State.KeepsOthers.trans (h : s.KeepsOthers t u) (h' : u.KeepsOthers t w) : s.KeepsOthers t w :=
  ⟨h'.active.trans h.active, fun c hc => (h'.others c hc).trans (h.others c hc)⟩

theorem State.KeepsOthers.of_same (t : Fin 64) (h : Part.Same s u .cap) : s.KeepsOthers t u := by
  have hcap : u.cap = s.cap := h
  exact ⟨by rw [hcap], fun _ _ => by rw [hcap]⟩

theorem State.KeepsOthers.setTrig (t : Fin 64) (f : TriggerChannel → TriggerChannel) (s : State) : s.KeepsOthers t (s.setTrig t f) :=
  ⟨rfl, fun c hc => Vector.getElem_set_ne t.isLt c.isLt fun e => hc (Fin.ext e.symm)⟩

theorem State.setTrig_channel (t : Fin 64) (f : TriggerChannel → TriggerChannel) (s : State) :
    (s.setTrig t f).cap.channels[t] = f s.cap.channels[t] :=
  Vector.getElem_set_self ..

theorem State.setTrigMode_cap (t : Fin 64) (m : TriggerMode) (s : State) :
    (s.setTrigMode t m).cap = (s.setTrig t (fun c => { c with mode := m })).cap :=
  State.raiseState_same (q := .cap) _ _ _ _ _ rfl

theorem State.setTrigMode_mode (t : Fin 64) (m : TriggerMode) (s : State) : (s.setTrigMode t m).cap.channels[t].mode = m := by
  rw [State.setTrigMode_cap, State.setTrig_channel]

theorem State.KeepsOthers.setTrigMode (t : Fin 64) (m : TriggerMode) (s : State) : s.KeepsOthers t (s.setTrigMode t m) :=
  (State.KeepsOthers.setTrig t _ s).trans (.of_same t (State.raiseState_same _ _ _ _ _ (Part.Same.refl ..)))

/-- A tally of the performance counters and events are not the channel's. -/
theorem State.KeepsOthers.countTrig (t : Fin 64) (i : Fin 8) (s : State) : s.KeepsOthers t (s.countTrig t i) := by
  unfold State.countTrig
  refine State.KeepsOthers.trans (.of_same t ?_) (State.KeepsOthers.setTrig t _ _)
  split
  case h_6 => exact Part.Same.refl ..
  all_goals exact State.tally_same (q := .cap) _ _ _ _ (by decide) (Part.Same.refl ..)

theorem State.endHostTrigger_same (c : CommandRef) (frame : BitVec 64) (outcome reason sequence : Nat) {q : Part} (hq : q ≠ .channels)
    (h : Part.Same s u q) : Part.Same s (u.endHostTrigger c frame outcome reason sequence) q :=
  State.complete_same _ _ _ _ hq h

theorem State.endRequests_same (x : Trigger) (outcome merged reason sequence : Nat) {q : Part} (hq : q ≠ .channels) (h : Part.Same s u q) :
    Part.Same s (u.endRequests x outcome merged reason sequence) q := by
  unfold State.endRequests
  refine foldl_same (fun _ _ hw => State.endHostTrigger_same _ _ _ _ _ hq hw) _ ?_
  split
  · exact State.endHostTrigger_same _ _ _ _ _ hq h
  · exact h

theorem State.KeepsOthers.dropWaiting (t : Fin 64) (s : State) : s.KeepsOthers t (s.dropWaiting t) := by
  unfold State.dropWaiting
  split
  · exact .of_same t (Part.Same.refl ..)
  · exact ((State.KeepsOthers.setTrig t _ s).trans (.countTrig t _ _)).trans (.of_same t (State.endRequests_same _ _ _ _ _ (by decide)
      (State.raise_same _ _ _ _ _ _ (Part.Same.refl ..))))

theorem State.KeepsOthers.dropHost (t : Fin 64) (s : State) : s.KeepsOthers t (s.dropHost t) := by
  unfold State.dropHost
  split
  · exact .of_same t (Part.Same.refl ..)
  · exact ((State.KeepsOthers.setTrig t _ s).trans (.countTrig t _ _)).trans (.of_same t (State.endHostTrigger_same _ _ _ _ _ (by decide)
      (State.raise_same _ _ _ _ _ _ (Part.Same.refl ..))))

theorem State.KeepsOthers.disarm (t : Fin 64) (s : State) : s.KeepsOthers t (s.disarm t) := by
  unfold State.disarm
  split
  · exact .of_same t (Part.Same.refl ..)
  · exact (((State.KeepsOthers.dropWaiting t s).trans (.dropHost t _)).trans (.setTrig t _ _)).trans (.setTrigMode t _ _)

theorem State.KeepsOthers.arm (t : Fin 64) (s : State) : s.KeepsOthers t (s.arm t) := by
  unfold State.arm
  split
  · split
    · exact (State.KeepsOthers.setTrig t _ s).trans (.setTrigMode t _ _)
    · exact .of_same t (Part.Same.refl ..)
  · exact .of_same t (Part.Same.refl ..)

theorem State.mode_of_disarm (t : Fin 64) (s : State) : (s.disarm t).cap.channels[t].mode = .disarmed := by
  unfold State.disarm
  split
  case isTrue h => exact eq_of_beq h
  case isFalse => exact State.setTrigMode_mode ..

theorem State.mode_of_arm (henabled : (s.cap.active.channel t).isSome = true) (hmode : s.cap.channels[t].mode = .disarmed) :
    (s.arm t).cap.channels[t].mode = .armed := by
  obtain ⟨e, he⟩ := Option.isSome_iff_exists.1 henabled
  unfold State.arm
  rw [he]
  simp only [beq_iff_eq, hmode, if_true]
  exact State.setTrigMode_mode ..

theorem State.armed_keeps (hmode : s.cap.channels[t].mode ≠ .disarmed) : s.arm t = s := by
  unfold State.arm
  split
  · exact if_neg (mt eq_of_beq hmode)
  · rfl

/-- Where each channel has its turn once, a channel ends as its own turn leaves it, taken in a state where it and the active bank are as
at the start. -/
theorem State.foldl_channels {f : State → Fin 64 → State} (hf : ∀ (u : State) (t : Fin 64), u.KeepsOthers t (f u t)) {ts : List (Fin 64)} (hnodup : ts.Nodup)
    (hmem : t ∈ ts) (s : State) : ∃ u : State, u.cap.active = s.cap.active ∧ u.cap.channels[t] = s.cap.channels[t]
      ∧ (ts.foldl f s).cap.channels[t] = (f u t).cap.channels[t] := by
  have hskip : ∀ (xs : List (Fin 64)) (u : State), t ∉ xs →
      (xs.foldl f u).cap.active = u.cap.active ∧ (xs.foldl f u).cap.channels[t] = u.cap.channels[t] := by
    intro xs
    induction xs with
    | nil => exact fun _ _ => ⟨rfl, rfl⟩
    | cons x xs ih =>
      intro u hnot
      obtain ⟨hx, hxs⟩ := not_or.1 (mt List.mem_cons.2 hnot)
      obtain ⟨hactive, hchannel⟩ := ih (f u x) hxs
      exact ⟨hactive.trans (hf u x).active, hchannel.trans ((hf u x).others t hx)⟩
  obtain ⟨before, after, rfl⟩ := List.append_of_mem hmem
  obtain ⟨-, hcons, hdisjoint⟩ := List.nodup_append.1 hnodup
  obtain ⟨hactive, hchannel⟩ := hskip before s fun h => hdisjoint t h t List.mem_cons_self rfl
  refine ⟨before.foldl f s, hactive, hchannel, ?_⟩
  rw [List.foldl_append, List.foldl_cons]
  exact (hskip after _ (List.nodup_cons.1 hcons).1).2

end KeepsOthers

/-! CHANNEL_ARM (R209, R381). -/

section ChannelArm
variable {s : State} {r : Request}

theorem cmdChannelArm_actsLater : cmdChannelArm.ActsLater := ⟨rfl, rfl, rfl, rfl⟩

/-- What CHANNEL_ARM does with one channel at T+1. -/
def State.armStep (r : Request) (s : State) (t : Fin 64) : State :=
  if (r.u 8 8).testBit t.val then s.disarm t else if (r.u 0 8).testBit t.val then s.arm t else s

theorem carryOut_channelArm (s : State) (r : Request) : s.carryOut ⟨0x0805, r, []⟩ = (List.finRange 64).foldl (State.armStep r) s := rfl

theorem State.armStep_keepsOthers (r : Request) (s : State) (t : Fin 64) : s.KeepsOthers t (s.armStep r t) := by
  unfold State.armStep
  split
  · exact .disarm t s
  · split
    · exact .arm t s
    · exact .of_same t (Part.Same.refl ..)

/-- What the effects of CHANNEL_ARM leave of a channel. -/
theorem carryOut_channelArm_channel (hdisjoint : ∀ c : Fin 64, ¬((r.u 0 8).testBit c.val = true ∧ (r.u 8 8).testBit c.val = true))
    (henabled : ∀ c : Fin 64, (r.u 0 8).testBit c.val = true → (s.cap.active.channel c).isSome = true) (c : Fin 64) :
    ((r.u 8 8).testBit c.val = true → (s.carryOut ⟨0x0805, r, []⟩).cap.channels[c].mode = .disarmed)
      ∧ ((r.u 0 8).testBit c.val = true → s.cap.channels[c].mode = .disarmed → (s.carryOut ⟨0x0805, r, []⟩).cap.channels[c].mode = .armed)
      ∧ ((r.u 0 8).testBit c.val = true → s.cap.channels[c].mode ≠ .disarmed → (s.carryOut ⟨0x0805, r, []⟩).cap.channels[c] = s.cap.channels[c])
      ∧ ((r.u 0 8).testBit c.val = false → (r.u 8 8).testBit c.val = false → (s.carryOut ⟨0x0805, r, []⟩).cap.channels[c] = s.cap.channels[c]) := by
  obtain ⟨u, hactive, hchannel, hstep⟩ := State.foldl_channels (State.armStep_keepsOthers r) (List.nodup_finRange 64) (List.mem_finRange c) s
  rw [carryOut_channelArm, hstep]
  have harm (ha : (r.u 0 8).testBit c.val = true) : u.armStep r c = u.arm c := by
    rw [State.armStep, if_neg fun hd => hdisjoint c ⟨ha, hd⟩, if_pos ha]
  refine ⟨fun hd => ?_, fun ha hmode => ?_, fun ha hmode => ?_, fun ha hd => ?_⟩
  · rw [State.armStep, if_pos hd]
    exact State.mode_of_disarm ..
  · rw [harm ha]
    exact State.mode_of_arm (hactive ▸ henabled c ha) (hchannel ▸ hmode)
  · rw [harm ha, State.armed_keeps (hchannel ▸ hmode), hchannel]
  · rw [State.armStep, if_neg (by simp [hd]), if_neg (by simp [ha]), hchannel]

/-- The channels that CHANNEL_ARM answers, where no swap of the bank is scheduled. -/
theorem State.armedAfter_testBit (hswap : s.cap.swap = none) (arm disarm : Nat) (c : Fin 64) :
    (s.armedAfter arm disarm).testBit c.val = true ↔ (s.cap.active.channel c).isSome = true
      ∧ (arm.testBit c.val = true ∨ s.cap.channels[c].mode ≠ .disarmed ∧ disarm.testBit c.val = false) := by
  rw [State.armedAfter, packBits_testBit, hswap]
  simp [and_comm, or_comm]

theorem channelArm_answers (hdisjoint : ∀ c : Fin 64, ¬((r.u 0 8).testBit c.val = true ∧ (r.u 8 8).testBit c.val = true))
    (h : s.Admits cmdChannelArm r) {v : State} (hv : v = s.judged r) :
    ((∀ c : Fin 64, (r.u 0 8).testBit c.val = true → (v.cap.active.channel c).isSome = true) → (r.u 0 8 = 0 ∨ v.captureMarked = false) →
      v.cap.swap = none → ∃ t m, exec (.channelArm r) s = .next t ∧ s.Answers t r .ok (leBytes 8 m) (some 0x0805)
        ∧ (∀ c : Fin 64, m.testBit c.val = true ↔ (v.cap.active.channel c).isSome = true ∧ ((r.u 0 8).testBit c.val = true
            ∨ v.cap.channels[c].mode ≠ .disarmed ∧ (r.u 8 8).testBit c.val = false))
        ∧ ∀ c : Fin 64, ((r.u 8 8).testBit c.val = true → (v.carryOut ⟨0x0805, r, []⟩).cap.channels[c].mode = .disarmed)
          ∧ ((r.u 0 8).testBit c.val = true → v.cap.channels[c].mode = .disarmed → (v.carryOut ⟨0x0805, r, []⟩).cap.channels[c].mode = .armed)
          ∧ ((r.u 0 8).testBit c.val = true → v.cap.channels[c].mode ≠ .disarmed → (v.carryOut ⟨0x0805, r, []⟩).cap.channels[c] = v.cap.channels[c])
          ∧ ((r.u 0 8).testBit c.val = false → (r.u 8 8).testBit c.val = false → (v.carryOut ⟨0x0805, r, []⟩).cap.channels[c] = v.cap.channels[c])) ∧
    (∀ c : Fin 64, (r.u 0 8).testBit c.val = true → v.cap.active.channel c = none → ∃ t, exec (.channelArm r) s = .next t
      ∧ s.Refuses t r .errState 0 (zeros 8)) := by
  subst hv
  have hr : cmdChannelArm.range r = none := by
    simp [cmdChannelArm, firstBad_eq_none, masks_disjoint (payloadField_lt r 0 8) hdisjoint]
  refine ⟨fun henabled hmarked hswap => ?_, fun c ha hnone => ?_⟩
  · have hall : ((List.finRange 64).any fun t => (r.u 0 8).testBit t.val && ((s.judged r).cap.active.channel t).isNone) = false := by
      simpa [List.any_eq_false, Option.isSome_iff_ne_none] using henabled
    have husable : (r.u 0 8 != 0 && (s.judged r).captureMarked) = false := by
      rcases hmarked with hzero | hunmarked
      · simp [hzero]
      · simp [hunmarked]
    obtain ⟨t, ht, ha⟩ := exec_answersOk (i := .channelArm r) (res := leBytes 8 ((s.judged r).armedAfter (r.u 0 8) (r.u 8 8)))
      cmdChannelArm_actsLater rfl h hr (by simp only [cmdChannelArm, hall, husable, Bool.false_eq_true, if_false])
      (padTo_of_length (leBytes_length 8 _))
    exact ⟨t, _, ht, ha, State.armedAfter_testBit hswap _ _, carryOut_channelArm_channel hdisjoint henabled⟩
  · have hany : ((List.finRange 64).any fun t => (r.u 0 8).testBit t.val && ((s.judged r).cap.active.channel t).isNone) = true :=
      List.any_eq_true.2 ⟨c, List.mem_finRange c, by simp [ha, hnone]⟩
    exact exec_refuses cmdChannelArm_actsLater rfl h hr (by simp only [cmdChannelArm, hany, if_true]) rfl

end ChannelArm

/-! HOST_TRIGGER, and the reports (R215, R382, R384, R385). -/

section HostTrigger
variable {s : State} {r : Request} {c : Fin 64}

theorem cmdHostTrigger_actsAtOnce : cmdHostTrigger.ActsAtOnce := ⟨rfl, rfl⟩
theorem cmdTriggerStatus_actsAtOnce : cmdTriggerStatus.ActsAtOnce := ⟨rfl, rfl⟩
theorem cmdCaptureStatus_actsAtOnce : cmdCaptureStatus.ActsAtOnce := ⟨rfl, rfl⟩

theorem cmdHostTrigger_actsOn : cmdHostTrigger.ActsOn .cap :=
  ⟨fun _ _ => State.setTrig_same _ _, fun _ _ _ _ => rfl⟩

theorem channelField_eq (hc : r.u 0 1 = c.val) : channelField r = c := by
  rw [channelField, hc, Fin.ofNat_val_eq_self]

theorem State.hostFrame_of_clock {s t : State} (h : t.clock = s.clock) (r : Request) : t.hostFrame r = s.hostFrame r := by
  unfold State.hostFrame
  rw [h]

theorem State.hostFrame_present (hmode : r.u 1 1 = 0) : s.hostFrame r = (s.clock.frame, s.clock.frame + 2) := if_pos hmode

/-- A named frame that is not past is decided two ticks after it. -/
theorem State.hostFrame_named {f : BitVec 64} (hmode : r.u 1 1 = 1) (hf : f.toNat = r.u 8 8) (hlow : s.clock.frame.toNat ≤ f.toNat) :
    s.hostFrame r = (f, f + 2) := by
  have hframe : BitVec.ofNat 64 (r.u 8 8) = f := by rw [← hf, BitVec.ofNat_toNat, BitVec.setWidth_eq]
  unfold State.hostFrame
  simp only [hmode, hframe]
  rw [if_neg (by decide), if_pos (BitVec.le_def.2 hlow)]

/-- A host trigger that is taken waits on its channel. -/
theorem hostTrigger_taken (h : s.Admits cmdHostTrigger r) (hr : cmdHostTrigger.range r = none) {f due : BitVec 64}
    (hframe : s.hostFrame r = (f, due)) (hfield : channelField r = c)
    (hc : cmdHostTrigger.check r 0 (s.judged r) = .accept (leBytes 8 ((s.judged r).hostFrame r).1.toNat)) :
    ∃ t, exec (.hostTrigger r) s = .next t ∧ t.Recorded r .accepted 0 (leBytes 8 f.toNat ++ zeros 16) ∧ s.ChangesOnly t [.channels, .cap]
      ∧ t.cap = { s.cap with
          channels := s.cap.channels.set c { s.cap.channels[c] with host := some { command := r.ref, frame := f, due := due } } } := by
  have hjudged : (s.judged r).hostFrame r = (f, due) := (State.hostFrame_of_clock (State.judged_clock s r) r).trans hframe
  rw [hjudged] at hc
  obtain ⟨u, hu, t, rfl, ht, hrecorded, hchanges⟩ := exec_acceptsOn cmdHostTrigger_actsAtOnce cmdHostTrigger_actsOn (i := .hostTrigger r)
    rfl h rfl hr hc (padTo_frame (by decide) f)
  have hnow : u.hostFrame r = (f, due) := (State.hostFrame_of_clock (hu.same .clock (by decide)) r).trans hframe
  have hcap : u.cap = s.cap := hu.same .cap (by decide)
  refine ⟨_, ht, hrecorded, hchanges, ?_⟩
  rw [State.settled_cap, State.noteApplied_cap]
  simp only [cmdHostTrigger, State.setTrig_cap, hnow, hfield, hcap]

/-- HOST_TRIGGER of a channel that takes it. -/
theorem hostTrigger_accepts {e : ChannelEntry} (h : s.Admits cmdHostTrigger r) (hr : cmdHostTrigger.range r = none) (hc : r.u 0 1 = c.val)
    {v : State} (hv : v = s.judged r) (hmarked : v.captureMarked = false) (hmode : v.cap.channels[c].mode ≠ .disarmed)
    (hhost : v.cap.channels[c].host = none) (hentry : v.cap.active.channel c = some e) (htakes : e.host = true) :
    (r.u 1 1 = 0 → ∃ t, exec (.hostTrigger r) s = .next t ∧ t.Recorded r .accepted 0 (leBytes 8 s.clock.frame.toNat ++ zeros 16)
      ∧ s.ChangesOnly t [.channels, .cap] ∧ t.cap = { s.cap with
          channels := s.cap.channels.set c { s.cap.channels[c] with host := some { command := r.ref, frame := s.clock.frame, due := s.clock.frame + 2 } } }) ∧
    (∀ f : BitVec 64, r.u 1 1 = 1 → f.toNat = r.u 8 8 → s.clock.frame.toNat ≤ f.toNat → f.toNat ≤ s.clock.frame.toNat + 8589934592 →
      ∃ t, exec (.hostTrigger r) s = .next t ∧ t.Recorded r .accepted 0 (leBytes 8 f.toNat ++ zeros 16) ∧ s.ChangesOnly t [.channels, .cap]
        ∧ t.cap.channels[c].host = some { command := r.ref, frame := f, due := f + 2 }) := by
  subst hv
  have hfield : channelField r = c := channelField_eq hc
  refine ⟨fun hpresent => ?_, fun f hnamed hf hlow hhigh => ?_⟩
  · exact hostTrigger_taken h hr (State.hostFrame_present hpresent) hfield (by
      simp [cmdHostTrigger, hmarked, hpresent, hfield, hhost, hmode, hentry, htakes, -Fin.getElem_fin])
  · have hlow' : s.clock.frame.toNat ≤ r.u 8 8 := hf ▸ hlow
    have hhigh' : r.u 8 8 ≤ s.clock.frame.toNat + 8589934592 := hf ▸ hhigh
    obtain ⟨t, ht, hrecorded, hchanges, hcap⟩ := hostTrigger_taken h hr (State.hostFrame_named hnamed hf hlow) hfield (by
      simp [cmdHostTrigger, hmarked, hlow'.not_gt, hhigh'.not_gt, hfield, hhost, hmode, hentry, htakes, -Fin.getElem_fin])
    refine ⟨t, ht, hrecorded, hchanges, ?_⟩
    rw [hcap]
    exact congrArg TriggerChannel.host (Vector.getElem_set_self ..)

theorem hostTrigger_disarmed (h : s.Admits cmdHostTrigger r) (hr : cmdHostTrigger.range r = none) (hc : r.u 0 1 = c.val) {v : State}
    (hv : v = s.judged r) (hmarked : v.captureMarked = false) (hpresent : r.u 1 1 = 0) (hmode : v.cap.channels[c].mode = .disarmed) :
    ∃ t, exec (.hostTrigger r) s = .next t ∧ s.Refuses t r .errState 0 (zeros 24) := by
  subst hv
  exact exec_refused rfl h rfl hr rfl (by simp [cmdHostTrigger, hmarked, hpresent, channelField_eq hc, hmode, -Fin.getElem_fin]) rfl

theorem triggerStatus_answers (h : s.Admits cmdTriggerStatus r) (hc : r.u 0 1 = c.val) (hz : r.zero 1 3 = true) {v : State} (hv : v = s.judged r) :
    ∃ t, exec (.triggerStatus r) s = .next t ∧ s.Answers t r .ok (padTo 48 (v.cap.channels[c]).status) none := by
  subst hv
  have hfield : channelField r = c := channelField_eq hc
  have hr : cmdTriggerStatus.range r = none := by
    simp [cmdTriggerStatus, firstBad_eq_none, hc, hz]
    omega
  subst hfield
  exact exec_reports cmdTriggerStatus_actsAtOnce rfl h rfl hr rfl rfl rfl

theorem captureStatus_answers (h : s.Admits cmdCaptureStatus r) {v : State} (hv : v = s.judged r) :
    ∃ t, exec (.captureStatus r) s = .next t
      ∧ s.Answers t r .ok (leBytes 4 v.ringDepth ++ leBytes 2 v.cap.captures.length ++ zeros 2 ++ leBytes 8 v.cap.ringStart.toNat
        ++ leBytes 8 v.cap.gapFrames ++ leBytes 8 v.cap.nextSequence ++ leBytes 8 v.cap.bytesStored ++ leBytes 4 v.cap.failureRecords
        ++ zeros 4) none := by
  subst hv
  exact exec_reports cmdCaptureStatus_actsAtOnce rfl h rfl rfl rfl rfl (padTo_of_length (by simp [zeros]; rfl))

end HostTrigger
end Sys2Proof.Machine

/-! SUPPORT. CAPTURE_ABORT (R231, R247, R383): what an aborted capture becomes. -/
namespace Sys2Proof.Machine

/-! Work for the drives: what is issued is outstanding until a drive completes it (R232). -/

/-- A purpose has commands at the drives, or work that waits. -/
def CaptureState.has (c : CaptureState) (t : NvmeTask) : Prop := (∃ b ∈ c.commands, b.task = t) ∨ ∃ b ∈ c.queued, b.task = t

theorem State.outstanding_iff {s : State} {t : NvmeTask} : s.outstanding t = true ↔ s.cap.has t := by
  simp [State.outstanding, CaptureState.has]

/-- Only the commands, what waits and the next identifier differ. -/
def CaptureState.IssuedFrom (c x : CaptureState) : Prop :=
  ∃ commands queued nextCid, x = { c with commands := commands, queued := queued, nextCid := nextCid }

theorem CaptureState.IssuedFrom.trans {c x y : CaptureState} : c.IssuedFrom x → x.IssuedFrom y → c.IssuedFrom y := by
  rintro ⟨_, _, _, rfl⟩ ⟨_, _, _, rfl⟩
  exact ⟨_, _, _, rfl⟩

section Issue
variable {d : Fin 16} {op : NvmeOp} {t : NvmeTask}

theorem CaptureState.issueRanges_issued (rs : List NvmeRange) (c : CaptureState) : c.IssuedFrom (c.issueRanges d op t rs).1 := by
  induction rs generalizing c with
  | nil => exact ⟨_, _, _, rfl⟩
  | cons r rs ih =>
    unfold CaptureState.issueRanges
    split
    · exact ⟨_, _, _, rfl⟩
    · exact .trans ⟨_, _, _, rfl⟩ (ih _)

theorem CaptureState.issueRanges_has {t' : NvmeTask} (rs : List NvmeRange) {c : CaptureState} (h : c.has t') :
    (c.issueRanges d op t rs).1.has t' := by
  induction rs generalizing c with
  | nil => exact h
  | cons r rs ih =>
    unfold CaptureState.issueRanges
    split
    · exact h
    · exact ih (h.imp_left fun ⟨b, hb, hbt⟩ => ⟨b, List.mem_append_left _ hb, hbt⟩)

/-- What is not issued waits. -/
theorem CaptureState.issueRanges_own {rs : List NvmeRange} (hrs : rs ≠ []) (c : CaptureState) :
    (c.issueRanges d op t rs).2 ≠ [] ∨ (c.issueRanges d op t rs).1.has t := by
  cases rs with
  | nil => exact absurd rfl hrs
  | cons r rs =>
    unfold CaptureState.issueRanges
    split
    · exact .inl (List.cons_ne_nil _ _)
    · exact .inr (CaptureState.issueRanges_has rs (.inl ⟨_, List.mem_append_right _ (List.mem_singleton.2 rfl), rfl⟩))

end Issue

/-- One piece of work is issued; what finds no entry waits. -/
def CaptureState.issueOne (w : NvmeWork) (c : CaptureState) : CaptureState :=
  let o := c.issueRanges w.drive w.op w.task w.ranges
  if o.2.isEmpty then o.1 else { o.1 with queued := o.1.queued ++ [{ w with ranges := o.2 }] }

theorem CaptureState.issueWork_cons (w : NvmeWork) (ws : List NvmeWork) (c : CaptureState) :
    CaptureState.issueWork (w :: ws) c = CaptureState.issueWork ws (c.issueOne w) := rfl

theorem CaptureState.issueOne_issued (w : NvmeWork) (c : CaptureState) : c.IssuedFrom (c.issueOne w) := by
  refine (CaptureState.issueRanges_issued (d := w.drive) (op := w.op) (t := w.task) w.ranges c).trans ?_
  unfold CaptureState.issueOne
  simp only
  split
  · exact ⟨_, _, _, rfl⟩
  · exact ⟨_, _, _, rfl⟩

theorem CaptureState.issueOne_has {t : NvmeTask} {w : NvmeWork} {c : CaptureState} (h : c.has t ∨ w.task = t ∧ w.ranges ≠ []) :
    (c.issueOne w).has t := by
  have hissued : (c.issueRanges w.drive w.op w.task w.ranges).1.has t ∨ w.task = t ∧ (c.issueRanges w.drive w.op w.task w.ranges).2 ≠ [] := by
    rcases h with hc | ⟨rfl, hranges⟩
    · exact .inl (CaptureState.issueRanges_has _ hc)
    · exact (CaptureState.issueRanges_own hranges c).symm.imp_right fun hrest => ⟨rfl, hrest⟩
  unfold CaptureState.issueOne
  simp only
  split
  case isTrue hall => exact hissued.resolve_right fun hrest => hrest.2 (List.isEmpty_iff.1 hall)
  case isFalse =>
    rcases hissued with hcommand | ⟨htask, -⟩
    · exact hcommand.imp_right fun ⟨b, hb, hbt⟩ => ⟨b, List.mem_append_left _ hb, hbt⟩
    · exact .inr ⟨_, List.mem_append_right _ (List.mem_singleton.2 rfl), htask⟩

theorem CaptureState.issueWork_issued (ws : List NvmeWork) (c : CaptureState) : c.IssuedFrom (CaptureState.issueWork ws c) := by
  induction ws generalizing c with
  | nil => exact ⟨_, _, _, rfl⟩
  | cons w ws ih => exact (CaptureState.issueOne_issued w c).trans (ih _)

theorem CaptureState.issueWork_has {t : NvmeTask} (ws : List NvmeWork) {c : CaptureState}
    (h : c.has t ∨ ∃ w ∈ ws, w.task = t ∧ w.ranges ≠ []) : (CaptureState.issueWork ws c).has t := by
  induction ws generalizing c with
  | nil => exact h.resolve_right fun ⟨_, hw, _⟩ => absurd hw List.not_mem_nil
  | cons w ws ih =>
    rw [CaptureState.issueWork_cons]
    refine ih ?_
    rcases h with hc | ⟨x, hx, hown⟩
    · exact .inl (CaptureState.issueOne_has (.inl hc))
    · rcases List.mem_cons.1 hx with rfl | hx
      · exact .inl (CaptureState.issueOne_has (.inr hown))
      · exact .inr ⟨x, hx, hown⟩

/-- Commands for a purpose that have ranges are outstanding, or wait. -/
theorem State.issueNvme_outstanding {t : NvmeTask} {xs : List (Fin 16 × NvmeOp × List NvmeRange)} (h : ∃ x ∈ xs, x.2.2 ≠ []) (s : State) :
    (s.issueNvme t xs).outstanding t = true := by
  obtain ⟨x, hx, hranges⟩ := h
  refine State.outstanding_iff.2 (CaptureState.issueWork_has _ (.inr ⟨⟨x.1, x.2.1, t, x.2.2⟩, List.mem_append_right _ ?_, rfl, hranges⟩))
  exact List.mem_map.2 ⟨x, List.mem_filter.2 ⟨hx, by simpa using hranges⟩, rfl⟩

/-! What leaves the captures, the members that can be written, and the channels. -/

structure State.KeepsCaptures (s u : State) : Prop where
  captures : u.cap.captures = s.cap.captures
  writable : ∀ n, u.writable n = s.writable n
  chan     : ∀ j, u.chan j = s.chan j

section KeepsCaptures
variable {s u w : State}

theorem State.KeepsCaptures.refl (s : State) : s.KeepsCaptures s := ⟨rfl, fun _ => rfl, fun _ => rfl⟩

theorem State.KeepsCaptures.trans (h : s.KeepsCaptures u) (h' : u.KeepsCaptures w) : s.KeepsCaptures w :=
  ⟨h'.captures.trans h.captures, fun n => (h'.writable n).trans (h.writable n), fun j => (h'.chan j).trans (h.chan j)⟩

theorem State.KeepsCaptures.dropTask (t : NvmeTask) (s : State) : s.KeepsCaptures (s.dropTask t) := ⟨rfl, fun _ => rfl, fun _ => rfl⟩

theorem State.KeepsCaptures.issueNvme (t : NvmeTask) (xs : List (Fin 16 × NvmeOp × List NvmeRange)) (s : State) :
    s.KeepsCaptures (s.issueNvme t xs) := by
  have hissued : s.cap.IssuedFrom (s.issueNvme t xs).cap :=
    .trans (x := { s.cap with queued := [] }) ⟨_, _, _, rfl⟩ (CaptureState.issueWork_issued ..)
  obtain ⟨_, _, _, hcap⟩ := hissued
  exact ⟨by rw [hcap], fun n => by simp only [State.writable, hcap], fun _ => rfl⟩

/-- A namespace whose members and whose failed ones stay. -/
theorem State.KeepsCaptures.setNs (n : Fin 32) (f : StoreNamespace → StoreNamespace)
    (hf : ∀ x, (f x).members = x.members ∧ (f x).failed = x.failed) (s : State) : s.KeepsCaptures (s.setNs n f) := by
  have hns (m : Fin 32) : (s.setNs n f).cap.namespaces[m].members = s.cap.namespaces[m].members
      ∧ (s.setNs n f).cap.namespaces[m].failed = s.cap.namespaces[m].failed := by
    have hset : (s.setNs n f).cap.namespaces[m] = if n = m then f s.cap.namespaces[n] else s.cap.namespaces[m] := by
      simp [State.setNs, Vector.getElem_set, Fin.ext_iff]
    rw [hset]
    split
    case isTrue h => exact h ▸ hf _
    case isFalse => exact ⟨rfl, rfl⟩
  refine ⟨rfl, fun m => ?_, fun _ => rfl⟩
  unfold State.writable
  simp only [(hns m).1, (hns m).2]
  rfl

theorem State.KeepsCaptures.deallocateLog (n : Fin 32) (xs : List (Nat × Nat)) (s : State) : s.KeepsCaptures (s.deallocateLog n xs) := by
  unfold State.deallocateLog
  induction xs generalizing s with
  | nil => exact .refl s
  | cons x xs ih => exact .trans (.issueNvme _ _ s) (ih _)

theorem State.KeepsCaptures.reserve (n : Fin 32) (len : Nat) (s : State) : s.KeepsCaptures (s.reserve n len).2 := by
  unfold State.reserve
  simp only
  split
  · exact .refl s
  · have hgone (objects : List StoredObject) (xs : List (Nat × Nat)) :
        s.KeepsCaptures ((s.setNs n fun x => { x with objects := objects }).deallocateLog n xs) :=
      .trans (.setNs n (fun x => { x with objects := objects }) (fun _ => ⟨rfl, rfl⟩) s) (.deallocateLog n xs _)
    split
    case h_1 => exact hgone _ _
    case h_2 place _ => exact (hgone _ _).trans (.setNs n (fun x => { x with head := place + len }) (fun _ => ⟨rfl, rfl⟩) _)

theorem State.KeepsCaptures.enterKeyStep (k : KeyWrite) (s : State) : s.KeepsCaptures (s.enterKeyStep k) :=
  .trans (u := s.setKeyWrite _) ⟨rfl, fun _ => rfl, fun _ => rfl⟩ (.issueNvme _ _ _)

end KeepsCaptures

/-! The failure record. -/

section Failure
variable {s : State} {c : Capture}

theorem State.setCapture_failing {y : Capture} (hy : y ∈ (s.setCapture c).cap.captures) (hseq : y.sequence = c.sequence) : y = c := by
  obtain ⟨x, -, hx⟩ := List.mem_map.1 hy
  split at hx
  case isTrue => exact hx.symm
  case isFalse hne => exact absurd (hx ▸ hseq) (mt beq_iff_eq.2 hne)

/-- A failure record that a member can take has commands at the drives. -/
theorem State.enterStep_failing {reason : Nat} (hw : s.writable c.entry.namespace_ ≠ []) (hstep : c.step = .window)
    (hfailing : c.failing = some reason) : (s.enterStep c).outstanding (.object c.sequence) = true
      ∧ (∀ y ∈ (s.enterStep c).cap.captures, y.sequence = c.sequence → y.failing = some reason)
      ∧ ∀ j, (s.enterStep c).chan j = s.chan j := by
  obtain ⟨m, hm⟩ := List.exists_mem_of_ne_nil _ hw
  unfold State.enterStep
  simp only [hstep, hfailing, SealStep.next]
  refine ⟨State.issueNvme_outstanding ⟨_, List.mem_append_right _ (List.mem_map.2 ⟨m, hm, rfl⟩), List.cons_ne_nil _ _⟩ _, fun y hy hseq => ?_,
    fun j => (State.KeepsCaptures.issueNvme _ _ _).chan j⟩
  rw [(State.KeepsCaptures.issueNvme _ _ _).captures] at hy
  rw [State.setCapture_failing hy hseq]

/-- The state in which the record is placed: the range of the capture, or a new one. -/
theorem State.beginFailure_writable (hw : s.writable c.entry.namespace_ ≠ []) (reason : Nat) : ∃ (u : State) (x : Capture),
    s.KeepsCaptures u ∧ s.beginFailure c reason = u.enterStep x ∧ x.step = .window ∧ x.failing = some reason ∧ x.sequence = c.sequence
      ∧ x.entry = c.entry := by
  have hdropped : (s.dropTask (.object c.sequence)).writable c.entry.namespace_ ≠ [] := hw
  unfold State.beginFailure
  extract_lets n len dropped freed ended atHead moved o
  rw [if_neg (by simpa using hdropped)]
  refine ⟨_, _, ?_, rfl, rfl, rfl, rfl, rfl⟩
  have hmoved : s.KeepsCaptures moved := by
    refine State.KeepsCaptures.trans (.dropTask (.object c.sequence) s) ?_
    show dropped.KeepsCaptures (if atHead then dropped.setNs n (fun x => { x with head := c.offset + len }) else dropped)
    split
    · exact .setNs n (fun x => { x with head := c.offset + len }) (fun _ => ⟨rfl, rfl⟩) _
    · exact .refl _
  have ho : o.2 = if c.inLog = true then moved else (moved.reserve n len).2 := apply_ite Prod.snd _ _ _
  rw [ho]
  split
  · exact hmoved
  · exact hmoved.trans (.reserve ..)

/-- The state without the captures of a sequence, and without the commands that they had at the drives. -/
def State.withoutCapture (sequence : Nat) (s : State) : State :=
  (s.dropTask (.object sequence)).setCap (fun x => { x with captures := x.captures.filter (fun y => y.sequence != sequence) })

theorem State.beginFailure_unwritable (hw : s.writable c.entry.namespace_ = []) (reason : Nat) :
    s.beginFailure c reason = c.aborts.foldl (fun s r => s.complete r .ok 0 []) ((s.withoutCapture c.sequence).raise 201 3 .occurrence
      (c.sequence % 4294967296) reason 0) := by
  have hdropped : (s.dropTask (.object c.sequence)).writable c.entry.namespace_ = [] := hw
  unfold State.beginFailure
  extract_lets n len dropped freed ended atHead moved o
  exact if_pos (by simpa using hdropped)

/-- Where a sequence names no capture, going on with it leaves the captures and the channels. -/
theorem State.sealOn_noCapture {sequence : Nat} (fuel : Nat) (h : ∀ y ∈ s.cap.captures, y.sequence ≠ sequence) :
    (s.sealOn fuel sequence).cap.captures = s.cap.captures ∧ ∀ j, (s.sealOn fuel sequence).chan j = s.chan j := by
  induction fuel generalizing s with
  | zero => exact ⟨rfl, fun _ => rfl⟩
  | succ fuel ih =>
    have hnone : s.cap.captures.find? (fun c => c.sequence == sequence) = none := List.find?_eq_none.2 fun y hy => by simpa using h y hy
    unfold State.sealOn
    split
    · exact ⟨rfl, fun _ => rfl⟩
    · rw [hnone]
      cases hk : s.cap.keyWrites.find? (fun k => k.sequence == sequence)
      case none => exact ⟨rfl, fun _ => rfl⟩
      case some k =>
        simp only
        split
        · simp [State.storeKey, State.setNs]
        · have hkeeps := State.KeepsCaptures.enterKeyStep k s
          obtain ⟨hcaptures, hchan⟩ := ih (s := s.enterKeyStep k) (hkeeps.captures ▸ h)
          exact ⟨hcaptures.trans hkeeps.captures, fun j => (hchan j).trans (hkeeps.chan j)⟩

theorem State.failCapture_open (hopen : c.failing = none) (reason : Nat) (s : State) :
    s.failCapture c reason = (s.beginFailure c reason).sealOn 12 c.sequence := by
  rw [State.failCapture, if_neg (by simp [hopen])]

/-- Where its members can be written, a capture that fails becomes a failure record on its way. -/
theorem State.failCapture_writable (hopen : c.failing = none) (hw : s.writable c.entry.namespace_ ≠ []) (reason : Nat) :
    (∀ y ∈ (s.failCapture c reason).cap.captures, y.sequence = c.sequence → y.failing = some reason)
      ∧ ∀ j, (s.failCapture c reason).chan j = s.chan j := by
  obtain ⟨u, x, hu, hbegin, hstep, hfailing, hseq, hentry⟩ := State.beginFailure_writable hw reason
  obtain ⟨houtstanding, hcaptures, hchan⟩ := State.enterStep_failing (s := u) (by rw [hu.writable, hentry]; exact hw) hstep hfailing
  rw [hseq] at houtstanding hcaptures
  have hstops : s.failCapture c reason = u.enterStep x := by
    rw [State.failCapture_open hopen, hbegin]
    exact if_pos houtstanding
  rw [hstops]
  exact ⟨hcaptures, fun j => (hchan j).trans (hu.chan j)⟩

/-- Where none can be, nothing is written: the capture is gone, and its aborts complete. -/
theorem State.failCapture_unwritable (hopen : c.failing = none) (hw : s.writable c.entry.namespace_ = []) (reason : Nat) :
    (s.failCapture c reason).cap.captures = s.cap.captures.filter (fun y => y.sequence != c.sequence)
      ∧ ∃ u : State, (∀ j, u.chan j = s.chan j)
        ∧ ∀ j, (s.failCapture c reason).chan j = (c.aborts.foldl (fun s r => s.complete r .ok 0 []) u).chan j := by
  have hbegin := State.beginFailure_unwritable (s := s) (c := c) hw reason
  have hcaptures : (s.beginFailure c reason).cap.captures = s.cap.captures.filter (fun y => y.sequence != c.sequence) := by
    have hcap : (s.beginFailure c reason).cap = (s.withoutCapture c.sequence).cap := by
      rw [hbegin]
      exact State.completeAll_same (q := .cap) (by decide) c.aborts (State.raise_same _ _ _ _ _ _ rfl)
    rw [hcap]
    rfl
  obtain ⟨hsealed, hchan⟩ := State.sealOn_noCapture (s := s.beginFailure c reason) (sequence := c.sequence) 12 (by
    rw [hcaptures]
    intro y hy
    simpa using (List.mem_filter.1 hy).2)
  rw [State.failCapture_open hopen]
  refine ⟨hsealed.trans hcaptures, _, fun j => ?_, fun j => (hchan j).trans (by rw [hbegin])⟩
  rw [State.raise_chan]
  rfl

end Failure

/-! The command. -/

section Abort
variable {s u : State} {r : Request} {x : Capture}

theorem cmdCaptureAbort_actsAtOnce : cmdCaptureAbort.ActsAtOnce := ⟨rfl, rfl⟩

/-- The capture with one more command that waits for its record. -/
def Capture.abortedBy (c : CommandRef) (x : Capture) : Capture := { x with aborts := x.aborts ++ [c] }

theorem State.abortCapture_early {sequence : Nat} (hx : s.openCapture sequence = some x)
    (hstep : x.step = .window ∨ x.step = .writing ∨ x.step = .flushOne) (c : CommandRef) :
    s.abortCapture c sequence = (s.setCapture (x.abortedBy c)).failCapture (x.abortedBy c) 5 := by
  unfold State.abortCapture
  rw [hx]
  simp only
  split
  case h_4 h => simp [h] at hstep
  case h_5 h => simp [h] at hstep
  all_goals rfl

theorem State.abortCapture_late {sequence : Nat} (hx : s.openCapture sequence = some x) (hstep : x.step = .trailer ∨ x.step = .flushTwo)
    (c : CommandRef) : s.abortCapture c sequence = s.complete c .errState 0 [] := by
  unfold State.abortCapture
  rw [hx]
  rcases hstep with h | h <;> simp only [h]

/-- The first response to CAPTURE_ABORT of an open capture. -/
theorem captureAbort_accepted (h : s.Admits cmdCaptureAbort r) (hopen : ((s.judged r).openCapture (r.u 0 8)).isSome = true) :
    ∃ u, s.FirstAnswer r .accepted [] u
      ∧ exec (.captureAbort r) s = .next (s.settled ((u.abortCapture r.ref (r.u 0 8)).noteApplied r.ref)) :=
  exec_accepts cmdCaptureAbort_actsAtOnce rfl h rfl rfl (res := []) (by simp only [cmdCaptureAbort, hopen, if_true]) rfl

/-- What completes the command with its first response. -/
theorem State.FirstAnswer.completed {st st' : Status} {w : State} (h : s.FirstAnswer r st [] u)
    (hw : ∀ j, w.chan j = (u.complete r.ref st' 0 []).chan j) : (s.settled (w.noteApplied r.ref)).Recorded r st' stageCompletion [] := by
  obtain ⟨e, he, -, -, hresults⟩ := h.recorded
  refine ⟨e.ended st' 0 [], ?_, rfl, rfl, ?_⟩
  · rw [State.settled_recorded, State.noteApplied_chan, hw]
    exact State.complete_recorded st' 0 [] he
  · show padTo e.results.length [] = []
    rw [hresults]
    rfl

/-- CAPTURE_ABORT before the trailer (R231, R383). -/
theorem captureAbort_early (h : s.Admits cmdCaptureAbort r) (hx : s.openCapture (r.u 0 8) = some x)
    (hopen : ((s.judged r).openCapture (r.u 0 8)).isSome = true) (hfailing : x.failing = none)
    (hstep : x.step = .window ∨ x.step = .writing ∨ x.step = .flushOne) : ∃ t, exec (.captureAbort r) s = .next t
      ∧ s.ChangesOnly t [.channels, .cap] ∧ (∀ y ∈ t.cap.captures, y.sequence = x.sequence → y.failing = some 5)
      ∧ (s.writable x.entry.namespace_ ≠ [] → t.Recorded r .accepted 0 [])
      ∧ (s.writable x.entry.namespace_ = [] → s.cap.captures = [x] → x.aborts = [] → t.Recorded r .ok stageCompletion []
        ∧ t.cap.captures = []) := by
  obtain ⟨u, hu, ht⟩ := captureAbort_accepted h hopen
  have hcap : u.cap = s.cap := hu.same .cap (by decide)
  have hux : u.openCapture (r.u 0 8) = some x := by rw [State.openCapture, hcap]; exact hx
  have hwritable : (u.setCapture (x.abortedBy r.ref)).writable x.entry.namespace_ = s.writable x.entry.namespace_ := by
    simp only [State.writable, State.setCapture, State.setCap_cap, hcap]
  rw [State.abortCapture_early hux hstep] at ht
  have hsame : ∀ q, q ∉ ([.channels, .cap] : List Part) →
      Part.Same s ((u.setCapture (x.abortedBy r.ref)).failCapture (x.abortedBy r.ref) 5) q := fun q hq => by
    obtain ⟨hchan, hq'⟩ : q ≠ .channels ∧ q ≠ .cap := by simpa using hq
    exact State.failCapture_same hq' hchan _ _ (State.setCap_same _ hq' (hu.same q hchan))
  refine ⟨_, ht, State.settled_changesOnly fun q hq _ _ => State.noteApplied_same _ (hsame q hq), ?_, fun hw => ?_, fun hw hall hfirst => ?_⟩
  · rw [State.settled_cap, State.noteApplied_cap]
    by_cases hw : s.writable x.entry.namespace_ = []
    · rw [(State.failCapture_unwritable (c := x.abortedBy r.ref) hfailing (hwritable.trans hw) 5).1]
      intro y hy hseq
      exact absurd hseq (by simpa [Capture.abortedBy] using (List.mem_filter.1 hy).2)
    · exact (State.failCapture_writable (c := x.abortedBy r.ref) hfailing (hwritable ▸ hw) 5).1
  · have hchan := (State.failCapture_writable (c := x.abortedBy r.ref) hfailing (hwritable ▸ hw) 5).2
    exact (hu.settled (by rw [State.entry, hchan]; rfl) hsame).1
  · obtain ⟨hcaptures, w, hwchan, hchan⟩ := State.failCapture_unwritable (c := x.abortedBy r.ref) hfailing (hwritable.trans hw) 5
    refine ⟨hu.completed fun j => ?_, ?_⟩
    · rw [hchan, Capture.abortedBy, hfirst]
      show (w.complete r.ref .ok 0 []).chan j = _
      rw [State.complete_chan, State.complete_chan, hwchan, hwchan]
      rfl
    · rw [State.settled_cap, State.noteApplied_cap, hcaptures]
      simp [State.setCapture, hcap, hall, Capture.abortedBy]

/-- CAPTURE_ABORT (R231, R383). -/
theorem captureAbort_answers (h : s.Admits cmdCaptureAbort r) {v : State} (hv : v = s.judged r) :
    (∀ x, s.openCapture (r.u 0 8) = some x → (v.openCapture (r.u 0 8)).isSome = true → x.failing = none →
      (x.step = .window ∨ x.step = .writing ∨ x.step = .flushOne) → ∃ t, exec (.captureAbort r) s = .next t
        ∧ s.ChangesOnly t [.channels, .cap] ∧ (∀ y ∈ t.cap.captures, y.sequence = x.sequence → y.failing = some 5)
        ∧ (s.writable x.entry.namespace_ ≠ [] → t.Recorded r .accepted 0 [])
        ∧ (s.writable x.entry.namespace_ = [] → s.cap.captures = [x] → x.aborts = [] → t.Recorded r .ok stageCompletion []
          ∧ t.cap.captures = [])) ∧
    (∀ x, s.openCapture (r.u 0 8) = some x → (v.openCapture (r.u 0 8)).isSome = true → (x.step = .trailer ∨ x.step = .flushTwo) →
      ∃ t, exec (.captureAbort r) s = .next t ∧ t.Recorded r .errState stageCompletion [] ∧ s.ChangesOnly t [.channels]) ∧
    (v.openCapture (r.u 0 8) = none → ∃ t, exec (.captureAbort r) s = .next t ∧ s.Refuses t r .errState 0 []) := by
  subst hv
  refine ⟨fun x hx hopen hfailing hstep => captureAbort_early h hx hopen hfailing hstep, fun x hx hopen hstep => ?_, fun hnone => ?_⟩
  · obtain ⟨u, hu, ht⟩ := captureAbort_accepted h hopen
    have hcap : u.cap = s.cap := hu.same .cap (by decide)
    have hux : u.openCapture (r.u 0 8) = some x := by rw [State.openCapture, hcap]; exact hx
    rw [State.abortCapture_late hux hstep] at ht
    exact ⟨_, ht, hu.completed fun _ => rfl, State.settled_changesOne fun q hq =>
      State.noteApplied_same _ (State.complete_same _ _ _ _ hq (hu.same q hq))⟩
  · exact exec_refused rfl h rfl rfl rfl (by simp [cmdCaptureAbort, hnone]) rfl

end Abort

/-- Settles O47: each command's checks decide its answer; a load then reads its buffer, a swap, a cancel, a host trigger or an abort
changes the capture engine at once, and CHANNEL_ARM leaves its effect to the next tick. -/
theorem triggerCommandsAnswerAndTakeEffect : Obligations.TriggerCommandsAnswerAndTakeEffect := by
  intro s v r hv
  refine ⟨?_, fun h hr => triggerSwap_answers hr h hv, fun h hz => triggerCancel_answers hz h hv,
    fun _ _ h hz hl => triggerRead_answers hz h hl hv, fun h hdisjoint => channelArm_answers hdisjoint h hv,
    fun _ _ h hr hc hmarked hmode hhost hentry htakes => hostTrigger_accepts h hr hc hv hmarked hmode hhost hentry htakes,
    fun _ h hr hc hmarked hpresent hmode => hostTrigger_disarmed h hr hc hv hmarked hpresent hmode,
    fun h => captureAbort_answers h hv, fun _ h hc hz => triggerStatus_answers h hc hz hv, fun h => captureStatus_answers h hv⟩
  rintro ds _ bs h hl rfl
  exact triggerLoad_answers h hl hv

end Sys2Proof.Machine

/-! SUPPORT. MAP_SOLVE, MAP_RAW_LOAD and the commands that cancel (R133, R135, R350, R351). -/
namespace Sys2Proof.Machine

section Jobs
variable {s u : State} {r : Request}

theorem jobCommand_actsAtOnce (opcode since : BitVec 16) (raw : Bool) : (jobCommand opcode since raw).ActsAtOnce := ⟨rfl, rfl⟩

/-! What the acceptance of a job does. -/

theorem State.acceptJob_same (c : CommandRef) (raw : Bool) {q : Part} (hmap : q ≠ .map) (hchan : q ≠ .channels) (h : Part.Same s u q) :
    Part.Same s (u.acceptJob c raw) q := by
  unfold State.acceptJob
  exact ite_same (State.runJob_same _ hmap hchan h) (h.withMap _ hmap)

theorem State.acceptJob_noWork (c : CommandRef) (raw : Bool) (h : u.noWork) : (u.acceptJob c raw).noWork := by
  unfold State.acceptJob
  simp only
  split
  · exact State.startJob_noWork _ _ (h.of_chan fun _ => rfl)
  · exact h.of_chan fun _ => rfl

theorem State.acceptJob_active (c : CommandRef) (raw : Bool) (u : State) : (u.acceptJob c raw).map.active = u.map.active := by
  unfold State.acceptJob
  simp only
  split
  · rfl
  · rfl

/-- A job that is accepted is still pending, and runs when it did. -/
theorem State.acceptJob_entry {c : CommandRef} {e : TokenEntry} {ticket : BitVec 32} {results : Nat} (he : u.entry c = some e)
    (hpending : e.Pending ticket results) (raw : Bool) : ∃ e', (u.acceptJob c raw).entry c = some e' ∧ e'.Pending ticket results
      ∧ (e.jobState = 1 → e'.jobState = 1) := by
  obtain ⟨hstatus, hstage, hticket, hresults⟩ := hpending
  unfold State.acceptJob
  simp only
  split
  · exact ⟨_, State.startJob_entry he _, ⟨hstatus, hstage, hticket, hresults⟩, fun _ => rfl⟩
  · exact ⟨e, he, ⟨hstatus, hstage, hticket, hresults⟩, id⟩

/-- In MIRROR it runs, on the bank and the declarations of now. -/
theorem State.acceptJob_mirror (h : s.map.shadowMode = .mirror) (c : CommandRef) (raw : Bool) : ∃ j, (s.acceptJob c raw).map
    = { s.map with job := some j, shadowMode := .building } ∧ j.command = c ∧ j.raw = raw ∧ j.data = none
      ∧ j.base = s.map.active.generation ∧ j.started = s.clock.tick + 1 ∧ ∀ p : PortNo, j.settings[p] = (s.port p).settings := by
  unfold State.acceptJob
  rw [if_pos (beq_iff_eq.2 h)]
  exact ⟨_, rfl, rfl, rfl, rfl, rfl, rfl, fun p => by simp [State.port]⟩

/-- Elsewhere it is queued. -/
theorem State.acceptJob_queued (h : s.map.shadowMode ≠ .mirror) (c : CommandRef) (raw : Bool) :
    (s.acceptJob c raw).map = { s.map with queued := some { (default : MapJob) with command := c, raw := raw } } := by
  unfold State.acceptJob
  rw [if_neg (mt beq_iff_eq.1 h)]

section Reading
variable {opcode since : BitVec 16} {raw : Bool} {n : Nat}

theorem State.readingJob_same {q : Part} (hchan : q ≠ .channels) (hreq : q ≠ .requests) (hmap : q ≠ .map) (h : Part.Same s u q) :
    Part.Same s (u.reading (jobCommand opcode since raw) r n) q :=
  State.await_same _ _ _ _ _ hreq (State.noteApplied_same _ (State.acceptJob_same _ _ hmap hchan h))

theorem State.readingJob_map (u : State) : (u.reading (jobCommand opcode since raw) r n).map = (u.acceptJob r.ref raw).map :=
  State.noteApplied_map ..

theorem State.readingJob_recorded (u : State) :
    ((u.reading (jobCommand opcode since raw) r n).chan r.channel).recorded r.token = (u.acceptJob r.ref raw).entry r.ref := by
  rw [State.reading, State.await_chan, State.noteApplied_chan]
  rfl

theorem State.readingJob_waiting (h : u.host.waiting = s.host.waiting) :
    s.AwaitsBuffer (s.settled (u.reading (jobCommand opcode since raw) r n)) (jobCommand opcode since raw) r (.input n) true := by
  have haccepted : (u.acceptJob r.ref raw).host.waiting = u.host.waiting :=
    (State.acceptJob_same (s := u) (q := .requests) r.ref raw (by decide) (by decide) ⟨rfl, rfl⟩).1
  rw [State.AwaitsBuffer, State.settled_host_waiting, State.reading, State.await_waiting, State.noteApplied_waiting]
  exact congrArg (· ++ _) (haccepted.trans h)

end Reading

/-- The step in which the descriptor list of a job that is taken arrives. -/
theorem exec_mapJob {opcode since : BitVec 16} {raw running : Bool} {i : Instr} {ds : List Byte} {n bound : Nat}
    (hi : exec i s = .next (s.settled (s.request (jobCommand opcode since raw) r)))
    (hcode : commandOf opcode = some (jobCommand opcode since raw)) (h : s.Admits (jobCommand opcode since raw) r) (hl : s.Lists r ds n)
    (hc : (jobCommand opcode since raw).check r n (s.judged r) = .jobRead running bound n) :
    ∃ t u, exec i s = .next t ∧ s.AwaitsList t (jobCommand opcode since raw) r ∧ exec (.hostDmaDone r.channel r.token ds) t = .next u
      ∧ s.ChangesOnly u [.channels, .requests, .map]
      ∧ (∃ e, (u.chan r.channel).recorded r.token = some e ∧ e.Pending s.takeTicket 272 ∧ (running = true → e.jobState = 1))
      ∧ s.AwaitsBuffer u (jobCommand opcode since raw) r (.input n) true
      ∧ ∃ x : State, u.map = (x.acceptJob r.ref raw).map ∧ x.map = s.map ∧ x.clock = s.clock ∧ x.ports = s.ports := by
  obtain ⟨t, x, ht, hwaits, hjob, hu⟩ := exec_listedJob hi hcode rfl h rfl hl (jobCommand_actsAtOnce ..) hc
    fun _ => State.acceptJob_noWork r.ref raw
  refine ⟨t, _, ht, hwaits, hu, State.settled_changesThree fun q hchan hreq hmap => State.readingJob_same hchan hreq hmap (hjob.same q hchan hreq),
    ?_, State.readingJob_waiting hjob.waiting, x, ?_, hjob.same .map (by decide) (by decide), hjob.same .clock (by decide) (by decide),
    hjob.same .ports (by decide) (by decide)⟩
  · obtain ⟨e, he, hpending, hruns⟩ := hjob.entry
    obtain ⟨e', he', hpending', hkeeps⟩ := State.acceptJob_entry he hpending raw
    refine ⟨e', ?_, hpending', fun hrunning => hkeeps (hruns hrunning)⟩
    rw [State.settled_recorded, State.readingJob_recorded, he']
  · rw [State.settled_map, State.readingJob_map]

/-- MAP_SOLVE and MAP_RAW_LOAD (R135, R350). -/
theorem mapJob_answers {opcode since : BitVec 16} {raw : Bool} {i : Instr} {ds : List Byte} {n : Nat}
    (hi : exec i s = .next (s.settled (s.request (jobCommand opcode since raw) r)))
    (hcode : commandOf opcode = some (jobCommand opcode since raw)) (h : s.Admits (jobCommand opcode since raw) r) (hl : s.Lists r ds n)
    {v : State} (hv : v = s.judged r) :
    (v.map.shadowMode = .mirror → ∃ t u, exec i s = .next t ∧ s.AwaitsList t (jobCommand opcode since raw) r
      ∧ exec (.hostDmaDone r.channel r.token ds) t = .next u ∧ s.ChangesOnly u [.channels, .requests, .map]
      ∧ (∃ e, (u.chan r.channel).recorded r.token = some e ∧ e.status = .pending ∧ e.stage = 0 ∧ e.ticket = s.takeTicket
          ∧ e.results = zeros 272 ∧ e.jobState = 1)
      ∧ s.AwaitsBuffer u (jobCommand opcode since raw) r (.input n) true ∧ u.map.active = s.map.active
      ∧ (s.deferred = [] → u.map.shadowMode = .building ∧ ∃ j, u.map.job = some j ∧ j.command = r.ref ∧ j.raw = raw ∧ j.data = none
          ∧ j.base = s.map.active.generation ∧ j.started = s.clock.tick + 1 ∧ ∀ p : PortNo, j.settings[p] = (s.port p).settings)) ∧
    (v.map.shadowMode = .mirroring → v.map.queued = none → ∃ t u, exec i s = .next t ∧ s.AwaitsList t (jobCommand opcode since raw) r
      ∧ exec (.hostDmaDone r.channel r.token ds) t = .next u ∧ s.ChangesOnly u [.channels, .requests, .map]
      ∧ (∃ e, (u.chan r.channel).recorded r.token = some e ∧ e.status = .pending ∧ e.ticket = s.takeTicket)
      ∧ (s.deferred = [] → ∃ j, u.map = { s.map with queued := some j } ∧ j.command = r.ref ∧ j.raw = raw ∧ j.data = none)) ∧
    (v.map.shadowMode ≠ .mirror → (v.map.shadowMode ≠ .mirroring ∨ v.map.queued ≠ none) → ∃ t u, exec i s = .next t
      ∧ s.AwaitsList t (jobCommand opcode since raw) r ∧ exec (.hostDmaDone r.channel r.token ds) t = .next u
      ∧ s.Refuses u r .errState 0 (zeros 272)) := by
  subst hv
  refine ⟨fun hmirror => ?_, fun hmirroring hnone => ?_, fun hmirror hbusy => ?_⟩
  · obtain ⟨t, u, ht, hwaits, hu, hchanges, ⟨e, he, ⟨hstatus, hstage, hticket, hresults⟩, hruns⟩, hbuffer, x, hmap, hxmap, hxclock, hxports⟩ :=
      exec_mapJob (running := true) (bound := 400000) hi hcode h hl (by simp [jobCommand, hmirror])
    refine ⟨t, u, ht, hwaits, hu, hchanges, ⟨e, he, hstatus, hstage, hticket, hresults, hruns rfl⟩, hbuffer, ?_, fun hidle => ?_⟩
    · rw [hmap, State.acceptJob_active, hxmap]
    · have hx : x.map.shadowMode = .mirror := by rw [hxmap, ← hmirror, State.judged_idle hidle, State.cleared_map]
      obtain ⟨j, hj, hcommand, hraw, hdata, hbase, hstarted, hsettings⟩ := State.acceptJob_mirror hx r.ref raw
      rw [hmap, hj]
      refine ⟨rfl, j, rfl, hcommand, hraw, hdata, by rw [hbase, hxmap], by rw [hstarted, hxclock], fun p => ?_⟩
      rw [hsettings, State.port, hxports]
      rfl
  · obtain ⟨t, u, ht, hwaits, hu, hchanges, ⟨e, he, hpending, -⟩, -, x, hmap, hxmap, -, -⟩ :=
      exec_mapJob (running := false) (bound := 0) hi hcode h hl (by simp [jobCommand, hmirroring, hnone])
    refine ⟨t, u, ht, hwaits, hu, hchanges, ⟨e, he, hpending.status, hpending.ticket⟩, fun hidle => ?_⟩
    have hx : x.map.shadowMode ≠ .mirror := by
      have hmode : s.map.shadowMode = .mirroring := by rw [← hmirroring, State.judged_idle hidle, State.cleared_map]
      simp [hxmap, hmode]
    exact ⟨_, by rw [hmap, State.acceptJob_queued hx, hxmap], rfl, rfl, rfl⟩
  · refine exec_listedRefused hi hcode rfl h rfl hl rfl ?_ rfl
    rcases hbusy with hmode | hqueued
    · simp [jobCommand, hmirror, hmode]
    · simp [jobCommand, hmirror, hqueued]

/-! MAP_CANCEL_JOB and MAP_CANCEL_BANK (R133, R351). -/

theorem cmdMapCancelJob_actsLater : cmdMapCancelJob.ActsLater := ⟨rfl, rfl, rfl, rfl⟩
theorem cmdMapCancelBank_actsLater : cmdMapCancelBank.ActsLater := ⟨rfl, rfl, rfl, rfl⟩

/-- The failure of a job that is cancelled: CANCELLED. -/
def jobCancelled : MapFailure := mapFailure .errState 0x10 [] 0

section Named
variable {j : MapJob} {e : TokenEntry} {ticket : Nat} (hjob : s.map.job = some j)
  (he : (s.chan j.command.channel).recorded j.command.token = some e) (hticket : e.ticket.toNat = ticket)
include hjob he hticket

theorem State.mapTicket_running : s.mapTicket ticket = true := by
  simp [State.mapTicket, hjob, he, hticket]

theorem State.cancelJob_running : s.cancelJob ticket = s.endJob jobCancelled := by
  simp [State.cancelJob, hjob, he, hticket, jobCancelled]

end Named

theorem mapCancelJob_answers (h : s.Admits cmdMapCancelJob r) {v : State} (hv : v = s.judged r) :
    (∀ j e, v.map.job = some j → (v.chan j.command.channel).recorded j.command.token = some e → e.ticket.toNat = r.u 0 4 →
      ∃ t, exec (.mapCancelJob r) s = .next t ∧ s.Answers t r .ok [] (some 0x0303) ∧ (v.carryOut ⟨0x0303, r, []⟩).map.job = none
        ∧ (v.carryOut ⟨0x0303, r, []⟩).map.shadowMode = .mirroring
        ∧ v.Ended (v.carryOut ⟨0x0303, r, []⟩) j.command .errState (jobResults j.base 0x10 [] 0)) ∧
    (v.mapTicket (r.u 0 4) = false → ∃ t, exec (.mapCancelJob r) s = .next t ∧ s.Refuses t r .errState 0 []) := by
  subst hv
  refine ⟨fun j e hjob he hticket => ?_, fun hother => ?_⟩
  · obtain ⟨t, ht, ha⟩ := exec_answersOk (i := .mapCancelJob r) (res := []) cmdMapCancelJob_actsLater rfl h rfl
      (by simp only [cmdMapCancelJob, State.mapTicket_running hjob he hticket, if_true]) rfl
    have hlater : (s.judged r).carryOut ⟨0x0303, r, []⟩ = (s.judged r).endJob jobCancelled := State.cancelJob_running hjob he hticket
    rw [hlater, State.endJob_map hjob]
    exact ⟨t, ht, ha, rfl, rfl, State.endJob_ended hjob rfl jobCancelled⟩
  · exact exec_refuses cmdMapCancelJob_actsLater rfl h rfl (by simp [cmdMapCancelJob, hother]) rfl

theorem mapCancelBank_answers (h : s.Admits cmdMapCancelBank r) {v : State} (hv : v = s.judged r) :
    (v.map.shadowMode = .ready → ∃ t, exec (.mapCancelBank r) s = .next t ∧ s.Answers t r .ok [] (some 0x0304)
      ∧ (v.carryOut ⟨0x0304, r, []⟩).map.shadowMode = .mirroring) ∧
    (v.map.shadowMode ≠ .ready → ∃ t, exec (.mapCancelBank r) s = .next t ∧ s.Refuses t r .errState 0 []) := by
  subst hv
  refine ⟨fun hready => ?_, fun hunready => ?_⟩
  · obtain ⟨t, ht, ha⟩ := exec_answersOk (i := .mapCancelBank r) (res := []) cmdMapCancelBank_actsLater rfl h rfl
      (by simp [cmdMapCancelBank, hready]) rfl
    have hlater : (s.judged r).carryOut ⟨0x0304, r, []⟩ = (s.judged r).startMirroring := if_pos (beq_iff_eq.2 hready)
    exact ⟨t, ht, ha, by rw [hlater]; rfl⟩
  · exact exec_refuses cmdMapCancelBank_actsLater rfl h rfl (by simp [cmdMapCancelBank, hunready]) rfl

end Jobs
end Sys2Proof.Machine

/-! SUPPORT. MAP_SWAP and MAP_SWAP_CANCEL (R141, R142, R143, R287 to R292, R352). -/
namespace Sys2Proof.Machine

theorem Part.Same.withCasc {s u : State} {q : Part} (x : CascadeState) (h0 : q ≠ .casc) (h : Part.Same s u q) :
    Part.Same s { u with casc := x } q := by
  cases q
  case casc => exact absurd rfl h0
  all_goals exact h

/-! A joined device stages its bank, and opens the cascade swap as the master or asks the master (R290). -/

/-- The cascade with the bank staged that a request binds. -/
def CascadeState.stagedFor (c : CascadeState) (persist : Bool) (command : Option CommandRef) : CascadeState :=
  { c with
    nextSwapId := if c.nextSwapId = 0xFFFFFFFF then 1 else c.nextSwapId + 1
    staged := some { id := c.nextSwapId, frame := none, aborted := false, persist := persist, command := command } }

/-- The state with the bank staged. -/
def State.withStaged (persist : Bool) (command : Option CommandRef) (s : State) : State :=
  { s with casc := s.casc.stagedFor persist command
           map := { s.map with shadowMode := if s.map.shadowMode == .ready then .scheduled else s.map.shadowMode } }

theorem State.requestSwap_eq (named : Option (BitVec 64)) (persist : Bool) (c : Option CommandRef) (s : State) :
    s.requestSwap named persist c = if (s.withStaged persist c).isMaster then
        (s.withStaged persist c).openSwap s.casc.nextSwapId [(s.withStaged persist c).ownIndex] named persist none
      else (s.withStaged persist c).originate msgSwapReq s.casc.nextSwapId 0 := rfl

theorem State.requestSwap_slave {s : State} (h : s.casc.role ≠ .master) (named : Option (BitVec 64)) (persist : Bool) (c : Option CommandRef) :
    s.requestSwap named persist c = (s.withStaged persist c).originate msgSwapReq s.casc.nextSwapId 0 := by
  rw [State.requestSwap_eq, if_neg]
  simp [State.isMaster, State.withStaged, CascadeState.stagedFor, h]

/-! What asks for a swap. -/

/-- The map around its bank in force and the cascade may differ, and the events raised. -/
structure State.AsksSwap (s u : State) : Prop where
  same   : ∀ {x : State} {q : Part}, q ≠ .map → q ≠ .casc → Part.Same x s q → Part.Same x u q
  chan   : ∀ j, u.chan j = s.chan j
  active : u.map.active = s.map.active

section AsksSwap
variable {s u w : State}

theorem State.AsksSwap.refl (s : State) : s.AsksSwap s := ⟨fun _ _ h => h, fun _ => rfl, rfl⟩

theorem State.AsksSwap.trans (h : s.AsksSwap u) (h' : u.AsksSwap w) : s.AsksSwap w :=
  ⟨fun hmap hcasc hx => h'.same hmap hcasc (h.same hmap hcasc hx), fun j => (h'.chan j).trans (h.chan j), h'.active.trans h.active⟩

theorem State.AsksSwap.withCasc (x : CascadeState) (s : State) : s.AsksSwap { s with casc := x } :=
  ⟨fun _ hcasc h => h.withCasc x hcasc, fun _ => rfl, rfl⟩

theorem State.AsksSwap.withMap {x : MapState} (hx : x.active = s.map.active) : s.AsksSwap { s with map := x } :=
  ⟨fun hmap _ h => h.withMap x hmap, fun _ => rfl, hx⟩

theorem State.AsksSwap.raise (src item : Nat) (a : Action) (p0 p1 p2 : Nat) (s : State) : s.AsksSwap (s.raise src item a p0 p1 p2) :=
  ⟨fun _ _ h => State.raise_same _ _ _ _ _ _ h, fun j => State.raise_chan _ _ _ _ _ _ j s, congrArg MapState.active (State.raise_map ..)⟩

theorem State.AsksSwap.originate (type : Byte) (id : BitVec 32) (arg : Nat) (s : State) : s.AsksSwap (s.originate type id arg) :=
  .trans (.withCasc _ s) (.withCasc _ _)

theorem State.AsksSwap.noteReady (m : Fin 64) (x : BitVec 32) (s : State) : s.AsksSwap (s.noteReady m x) := by
  unfold State.noteReady
  split
  · split
    · exact .withCasc _ s
    · exact .refl s
  · exact .refl s

theorem State.AsksSwap.noteVeto (m : Fin 64) (x reason : BitVec 32) (s : State) : s.AsksSwap (s.noteVeto m x reason) := by
  unfold State.noteVeto
  split
  · split
    · exact .trans (.withCasc _ s) (.raise ..)
    · exact .refl s
  · exact .refl s

theorem State.AsksSwap.answerPrepare (x : BitVec 32) (s : State) : s.AsksSwap (s.answerPrepare x) := by
  unfold State.answerPrepare
  split
  · exact .refl s
  · refine .trans (.withCasc { s.casc with answered := x } s) ?_
    simp only
    split
    · split
      · exact .noteReady ..
      · exact .noteVeto ..
    · split
      · exact .originate ..
      · exact .originate ..

theorem State.AsksSwap.openSwap (x : BitVec 32) (participants : List (Fin 64)) (named : Option (BitVec 64)) (persist : Bool)
    (c : Option CommandRef) (s : State) : s.AsksSwap (s.openSwap x participants named persist c) :=
  .trans (.trans (.trans (.withCasc _ s) (.raise ..)) (.originate ..)) (.answerPrepare ..)

theorem State.AsksSwap.withStaged (persist : Bool) (c : Option CommandRef) (s : State) : s.AsksSwap (s.withStaged persist c) :=
  .trans (.withCasc (s.casc.stagedFor persist c) s) (.withMap rfl)

theorem State.AsksSwap.requestSwap (named : Option (BitVec 64)) (persist : Bool) (c : Option CommandRef) (s : State) :
    s.AsksSwap (s.requestSwap named persist c) := by
  rw [State.requestSwap_eq]
  refine .trans (.withStaged persist c s) ?_
  split
  · exact .openSwap ..
  · exact .originate ..

theorem State.AsksSwap.scheduleSwap (f : BitVec 64) (persist : Bool) (c : Option CommandRef) (s : State) :
    s.AsksSwap (s.scheduleSwap f persist c) :=
  .withMap rfl

theorem cmdMapSwap_asksSwap (r : Request) (n : Nat) (u : State) : u.AsksSwap (cmdMapSwap.now r n u) := by
  unfold cmdMapSwap
  simp only
  split
  · exact .requestSwap ..
  · exact .scheduleSwap ..

end AsksSwap

theorem State.originate_map (type : Byte) (id : BitVec 32) (arg : Nat) (s : State) : (s.originate type id arg).map = s.map := rfl

theorem State.originate_staged (type : Byte) (id : BitVec 32) (arg : Nat) (s : State) :
    (s.originate type id arg).casc.staged = s.casc.staged := rfl

section MapSwap
variable {s u : State} {r : Request}

theorem cmdMapSwap_actsAtOnce : cmdMapSwap.ActsAtOnce := ⟨rfl, rfl⟩

/-- The earliest frame of a device alone, or the frame that the request names. -/
theorem swapFrame_eq (halone : s.casc.mode = .standalone) {f : BitVec 64} (hf : (r.u 0 1 = 0 ∧ f = s.clock.frame + 8) ∨ (r.u 0 1 = 1
    ∧ f.toNat = r.u 8 8 ∧ s.clock.frame.toNat + 8 ≤ f.toNat ∧ f.toNat ≤ s.clock.frame.toNat + 8589934592)) :
    swapFrame r s = f ∧ (r.u 0 1 = 0 ∨ s.swapFrameOk (r.u 8 8) = true) := by
  have hlead : s.swapLead = 8 := by simp [State.swapLead, halone]
  rcases hf with ⟨hmode, rfl⟩ | ⟨hmode, hnamed, hearly, hlate⟩
  · refine ⟨?_, .inl hmode⟩
    rw [swapFrame, if_pos hmode, State.earliestSwap, hlead]
    rfl
  · refine ⟨?_, .inr ?_⟩
    · rw [swapFrame, if_neg (by omega), ← hnamed, BitVec.ofNat_toNat, BitVec.setWidth_eq]
    · simp [State.swapFrameOk, hlead, ← hnamed, hearly, hlate]

theorem named_ok (hok : r.u 0 1 = 0 ∨ s.swapFrameOk (r.u 8 8) = true) (hmode : r.u 0 1 = 1) : s.swapFrameOk (r.u 8 8) = true :=
  hok.resolve_left (by omega)

theorem cmdMapSwap_check_alone (hready : s.map.shadowMode = .ready) (halone : s.casc.mode = .standalone)
    (hok : r.u 0 1 = 0 ∨ s.swapFrameOk (r.u 8 8) = true) : cmdMapSwap.check r 0 s = .accept (leBytes 8 (swapFrame r s).toNat) := by
  simpa [cmdMapSwap, hready, halone] using named_ok hok

theorem cmdMapSwap_check_joined (hready : s.map.shadowMode = .ready) (hjoined : s.casc.mode = .joined) (hopen : s.cascadeSwapOpen = false)
    (hok : r.u 0 1 = 0 ∨ s.swapFrameOk (r.u 8 8) = true) : cmdMapSwap.check r 0 s = .accept [] := by
  simpa [cmdMapSwap, hready, hjoined, hopen] using named_ok hok

theorem State.leavingCascade_idle (h : s.deferred = []) : s.leavingCascade = false := by simp [State.leavingCascade, h]

theorem cmdMapSwap_now_alone (halone : u.casc.mode = .standalone) (hidle : u.deferred = []) :
    cmdMapSwap.now r 0 u = u.scheduleSwap (swapFrame r u) r.persist (some r.ref) := by
  simp [cmdMapSwap, halone, State.leavingCascade_idle hidle]

theorem cmdMapSwap_now_joined (hjoined : u.casc.mode = .joined) (hidle : u.deferred = []) :
    cmdMapSwap.now r 0 u = u.requestSwap (if r.u 0 1 = 1 then some (BitVec.ofNat 64 (r.u 8 8)) else none) r.persist (some r.ref) := by
  simp [cmdMapSwap, hjoined, State.leavingCascade_idle hidle]

/-- An accepted MAP_SWAP. -/
theorem mapSwap_accepted (h : s.Admits cmdMapSwap r) (hr : cmdMapSwap.range r = none) {res out : List Byte}
    (hc : cmdMapSwap.check r 0 (s.judged r) = .accept res) (hout : padTo 16 res = out) :
    ∃ u, s.FirstAnswer r .accepted out u ∧ ∃ t, t = s.settled ((cmdMapSwap.now r 0 u).noteApplied r.ref) ∧ exec (.mapSwap r) s = .next t
      ∧ t.Recorded r .accepted 0 out ∧ s.ChangesOnly t [.channels, .map, .casc] ∧ t.map.active = s.map.active := by
  obtain ⟨u, hu, ht⟩ := exec_accepts cmdMapSwap_actsAtOnce (i := .mapSwap r) rfl h rfl hr hc hout
  have hasks := cmdMapSwap_asksSwap r 0 u
  have hentry : (cmdMapSwap.now r 0 u).entry r.ref = u.entry r.ref := by rw [State.entry, hasks.chan]; rfl
  obtain ⟨hrecorded, hchanges⟩ := hu.settled (ps := [.channels, .map, .casc]) hentry fun q hq => by
    obtain ⟨hchan, hmap, hcasc⟩ : q ≠ .channels ∧ q ≠ .map ∧ q ≠ .casc := by simpa using hq
    exact hasks.same hmap hcasc (hu.same q hchan)
  have hmap : u.map = s.map := hu.same .map (by decide)
  exact ⟨u, hu, _, rfl, ht, hrecorded, hchanges, by rw [State.settled_map, State.noteApplied_map, hasks.active, hmap]⟩

/-- MAP_SWAP (R141, R290, R352). -/
theorem mapSwap_answers (h : s.Admits cmdMapSwap r) (hr : cmdMapSwap.range r = none) {v : State} (hv : v = s.judged r) :
    (∀ f : BitVec 64, v.map.shadowMode = .ready → v.casc.mode = .standalone →
      (r.u 0 1 = 0 ∧ f = s.clock.frame + 8) ∨ (r.u 0 1 = 1 ∧ f.toNat = r.u 8 8 ∧ s.clock.frame.toNat + 8 ≤ f.toNat
        ∧ f.toNat ≤ s.clock.frame.toNat + 8589934592) →
      ∃ t, exec (.mapSwap r) s = .next t ∧ t.Recorded r .accepted 0 (leBytes 8 f.toNat ++ zeros 8)
        ∧ s.ChangesOnly t [.channels, .map, .casc] ∧ t.map.active = s.map.active
        ∧ (s.deferred = [] → t.casc = s.casc ∧ t.map = { s.map with
            swap := some { frame := f, persist := r.persist, command := some r.ref, latched := false }, shadowMode := .scheduled })) ∧
    (v.map.shadowMode = .ready → v.casc.mode = .joined → v.cascadeSwapOpen = false → (r.u 0 1 = 0 ∨ v.swapFrameOk (r.u 8 8) = true) →
      ∃ t, exec (.mapSwap r) s = .next t ∧ t.Recorded r .accepted 0 (zeros 16) ∧ s.ChangesOnly t [.channels, .map, .casc]
        ∧ (s.deferred = [] → s.casc.role ≠ .master → t.map = { s.map with shadowMode := .scheduled } ∧ t.casc.staged
            = some { id := s.casc.nextSwapId, frame := none, aborted := false, persist := r.persist, command := some r.ref })) ∧
    (v.map.shadowMode = .ready → v.casc.mode = .standalone → r.u 0 1 = 1 → v.swapFrameOk (r.u 8 8) = false →
      ∃ t, exec (.mapSwap r) s = .next t ∧ s.Refuses t r .errRange 8 (zeros 16)) ∧
    (v.map.shadowMode ≠ .ready → ∃ t, exec (.mapSwap r) s = .next t ∧ s.Refuses t r .errState 0 (zeros 16)) := by
  subst hv
  refine ⟨fun f hready halone hf => ?_, fun hready hjoined hopen hok => ?_, fun hready halone hmode hout => ?_, fun hunready => ?_⟩
  · obtain ⟨hframe, hok⟩ := swapFrame_eq (s := s.judged r) halone (by rw [State.judged_clock]; exact hf)
    have hc := cmdMapSwap_check_alone hready halone hok
    rw [hframe] at hc
    obtain ⟨u, hu, t, rfl, ht, hrecorded, hchanges, hactive⟩ := mapSwap_accepted h hr hc (padTo_frame (by decide) f)
    refine ⟨_, ht, hrecorded, hchanges, hactive, fun hidle => ?_⟩
    have hmap : u.map = s.map := hu.same .map (by decide)
    have hcasc : u.casc = s.casc := hu.same .casc (by decide)
    have hclock : u.clock = s.clock := hu.same .clock (by decide)
    have halone' : u.casc.mode = .standalone := by rw [hcasc, ← halone, State.judged_idle hidle, State.cleared_casc]
    have hready' : s.map.shadowMode = .ready := by rw [← hready, State.judged_idle hidle, State.cleared_map]
    rw [cmdMapSwap_now_alone halone' ((hu.same .deferred (by decide)).trans hidle), (swapFrame_eq halone' (hclock ▸ hf)).1]
    refine ⟨?_, ?_⟩
    · rw [State.settled_casc, State.noteApplied_casc, ← hcasc]
      rfl
    · rw [State.settled_map, State.noteApplied_map]
      simp [State.scheduleSwap, hmap, hready']
  · obtain ⟨u, hu, t, rfl, ht, hrecorded, hchanges, -⟩ := mapSwap_accepted h hr (cmdMapSwap_check_joined hready hjoined hopen hok) rfl
    refine ⟨_, ht, hrecorded, hchanges, fun hidle hslave => ?_⟩
    have hmap : u.map = s.map := hu.same .map (by decide)
    have hcasc : u.casc = s.casc := hu.same .casc (by decide)
    have hjoined' : u.casc.mode = .joined := by rw [hcasc, ← hjoined, State.judged_idle hidle, State.cleared_casc]
    have hready' : s.map.shadowMode = .ready := by rw [← hready, State.judged_idle hidle, State.cleared_map]
    rw [cmdMapSwap_now_joined hjoined' ((hu.same .deferred (by decide)).trans hidle), State.requestSwap_slave (hcasc ▸ hslave)]
    refine ⟨?_, ?_⟩
    · rw [State.settled_map, State.noteApplied_map, State.originate_map]
      simp [State.withStaged, hmap, hready']
    · rw [State.settled_casc, State.noteApplied_casc, State.originate_staged]
      simp [State.withStaged, CascadeState.stagedFor, hcasc]
  · exact exec_refused rfl h rfl hr rfl (by simp [cmdMapSwap, hready, halone, hmode, hout]) rfl
  · exact exec_refused rfl h rfl hr rfl (by simp [cmdMapSwap, hunready]) rfl

/-! MAP_SWAP_CANCEL (R143, R352). -/

theorem cmdMapSwapCancel_actsAtOnce : cmdMapSwapCancel.ActsAtOnce := ⟨rfl, rfl⟩

theorem cmdMapSwapCancel_now (n : Nat) : cmdMapSwapCancel.now r n u = u.cancelSwap := rfl

theorem State.cancellable_some {w : MapSwap} (hmode : s.map.shadowMode = .scheduled) (hswap : s.map.swap = some w)
    (hlatched : w.latched = false) (hin : s.clock.frame.toNat + 8 ≤ w.frame.toNat) : s.cancellable = some w := by
  simp [State.cancellable, hmode, hswap, hlatched, hin]

theorem State.cancellable_swap {w : MapSwap} (h : s.cancellable = some w) : s.map.swap = some w := by
  unfold State.cancellable at h
  split at h
  case h_1 x hx =>
    obtain ⟨-, hw⟩ := Option.ite_none_right_eq_some.1 h
    rw [hx]
    exact hw
  case h_2 => cases h

theorem State.cancelSwap_same {q : Part} (hmap : q ≠ .map) (hchan : q ≠ .channels) (h : Part.Same s u q) : Part.Same s u.cancelSwap q := by
  unfold State.cancelSwap
  split
  · simp only
    split
    · exact State.complete_same _ _ _ _ hchan (h.withMap _ hmap)
    · exact h.withMap _ hmap
  · exact h

/-- A command whose swap is not withdrawn keeps its entry. -/
theorem State.cancelSwap_entry {c : CommandRef} (h : ∀ w, u.map.swap = some w → w.command ≠ some c) : u.cancelSwap.entry c = u.entry c := by
  unfold State.cancelSwap
  split
  case h_1 w hw =>
    simp only
    split
    case h_1 c' hc' =>
      have hne : c ≠ c' := by
        rintro rfl
        exact h w (State.cancellable_swap hw) hc'
      exact State.complete_entry_other hne ..
    case h_2 => rfl
  case h_2 => rfl

section Withdrawn
variable {w : MapSwap} (hw : u.cancellable = some w)
include hw

theorem State.cancelSwap_map : u.cancelSwap.map = { u.map with swap := none, shadowMode := .ready } := by
  unfold State.cancelSwap
  rw [hw]
  simp only
  split
  · exact State.complete_same (s := { u with map := { u.map with swap := none, shadowMode := .ready } }) (q := .map) _ _ _ _ (by decide) rfl
  · rfl

theorem State.cancelSwap_ended {c : CommandRef} (hc : w.command = some c) :
    u.Ended u.cancelSwap c .errState (leBytes 8 w.frame.toNat ++ leBytes 8 u.map.active.generation.toNat) := by
  unfold State.cancelSwap
  rw [hw]
  simp only [hc]
  exact State.complete_ended (s := u) (u := { u with map := { u.map with swap := none, shadowMode := .ready } }) (c := c) rfl .errState 0 _

end Withdrawn

theorem mapSwapCancel_answers (h : s.Admits cmdMapSwapCancel r) {v : State} (hv : v = s.judged r) :
    (∀ w, v.casc.mode = .standalone → v.casc.staged = none → v.map.shadowMode = .scheduled → v.map.swap = some w →
      w.latched = false → s.clock.frame.toNat + 8 ≤ w.frame.toNat → (∀ x, s.map.swap = some x → x.command ≠ some r.ref) →
      ∃ t, exec (.mapSwapCancel r) s = .next t ∧ t.Recorded r .ok 0 [] ∧ s.ChangesOnly t [.channels, .map]
        ∧ (s.deferred = [] → t.map = { s.map with swap := none, shadowMode := .ready }
          ∧ ∀ c, w.command = some c → (s.chan r.channel).window.length < 512 →
            s.Ended t c .errState (leBytes 8 w.frame.toNat ++ leBytes 8 s.map.active.generation.toNat))) ∧
    ((v.casc.mode = .joined ∨ v.map.swap = none) → ∃ t, exec (.mapSwapCancel r) s = .next t ∧ s.Refuses t r .errState 0 []) := by
  subst hv
  refine ⟨fun w halone hstaged hmode hswap hlatched hin hother => ?_, fun hnone => ?_⟩
  · have hcancel : (s.judged r).cancellable = some w :=
      State.cancellable_some hmode hswap hlatched (by rw [State.judged_clock]; exact hin)
    obtain ⟨u, hu, ht⟩ := exec_does cmdMapSwapCancel_actsAtOnce (i := .mapSwapCancel r) rfl h rfl rfl (res := []) (out := [])
      (by simp [cmdMapSwapCancel, halone, hstaged, hcancel]) rfl
    rw [cmdMapSwapCancel_now] at ht
    have hmap : u.map = s.map := hu.same .map (by decide)
    have hclock : u.clock = s.clock := hu.same .clock (by decide)
    obtain ⟨hrecorded, hchanges⟩ := hu.settled (w := u.cancelSwap) (ps := [.channels, .map]) (State.cancelSwap_entry (hmap ▸ hother))
      fun q hq => by
        obtain ⟨hchan, hq'⟩ : q ≠ .channels ∧ q ≠ .map := by simpa using hq
        exact State.cancelSwap_same hq' hchan (hu.same q hchan)
    refine ⟨_, ht, hrecorded, hchanges, fun hidle => ?_⟩
    have hidleMap : (s.judged r).map = u.map := by rw [State.judged_idle hidle, State.cleared_map, hmap]
    have hnow : u.cancellable = some w := State.cancellable_some (hidleMap ▸ hmode) (hidleMap ▸ hswap) hlatched (hclock ▸ hin)
    refine ⟨?_, fun c hc hroom => ?_⟩
    · rw [State.settled_map, State.noteApplied_map, State.cancelSwap_map hnow, hmap]
    · rw [← hmap]
      exact hu.ended hroom (State.cancelSwap_ended hnow hc)
  · refine exec_refused rfl h rfl rfl rfl ?_ rfl
    rcases hnone with hjoined | hnone
    · simp [cmdMapSwapCancel, hjoined]
    · simp [cmdMapSwapCancel, State.cancellable, hnone]

end MapSwap
end Sys2Proof.Machine

/-! SUPPORT. MAP_READ, MAP_STATUS, MAP_PERSIST and PLANE_SET (R107, R108, R148, R150, R353, R354, R355, R356), and the map commands'
obligation. -/
namespace Sys2Proof.Machine

section MapReads
variable {s u : State} {r : Request}

theorem cmdMapRead_actsAtOnce : cmdMapRead.ActsAtOnce := ⟨rfl, rfl⟩
theorem cmdMapStatus_actsAtOnce : cmdMapStatus.ActsAtOnce := ⟨rfl, rfl⟩
theorem cmdMapPersist_actsAtOnce : cmdMapPersist.ActsAtOnce := ⟨rfl, rfl⟩

/-- MAP_READ (R150, R353). -/
theorem mapRead_answers {ds : List Byte} {n : Nat} (hr : cmdMapRead.range r = none) (h : s.Admits cmdMapRead r) (hl : s.Lists r ds n)
    {v : State} (hv : v = s.judged r) :
    (∀ size bs gen, v.mapOutput (r.u 8 1) = some (size, bs, gen) → bs ≠ [] → size ≤ n → ∃ t u, exec (.mapRead r) s = .next t
      ∧ s.AwaitsList t cmdMapRead r ∧ exec (.hostDmaDone r.channel r.token ds) t = .next u
      ∧ s.Returns u cmdMapRead r bs (leBytes 8 size ++ leBytes 8 gen.toNat)) ∧
    (v.mapOutput (r.u 8 1) = none → ∃ t u, exec (.mapRead r) s = .next t
      ∧ s.AwaitsList t cmdMapRead r ∧ exec (.hostDmaDone r.channel r.token ds) t = .next u ∧ s.Refuses u r .errState 0 (zeros 16)) := by
  subst hv
  refine ⟨fun size bs gen hout hbs hn => ?_, fun hnone => ?_⟩
  · exact exec_listedReturns rfl rfl rfl h hr hl cmdMapRead_actsAtOnce rfl (results := leBytes 8 size ++ leBytes 8 gen.toNat)
      (by simp [cmdMapRead, hout, hn.not_gt]) hbs (padTo_of_length (by simp; rfl))
  · exact exec_listedRefused rfl rfl rfl h hr hl rfl (by simp [cmdMapRead, hnone]) rfl

theorem mapStatus_answers (h : s.Admits cmdMapStatus r) {v : State} (hv : v = s.judged r) :
    ∃ t, exec (.mapStatus r) s = .next t ∧ s.Answers t r .ok (padTo 56 v.mapStatus) none := by
  subst hv
  exact exec_reports cmdMapStatus_actsAtOnce rfl h rfl rfl rfl rfl rfl

/-! MAP_PERSIST (R148, R355). -/

/-- The state in which a MAP_PERSIST waits for the generation in force. -/
def State.awaitingPersist (c : CommandRef) (s : State) : State :=
  { s with map := { s.map with persistWaits := s.map.persistWaits ++ [(c, s.map.active.generation)] } }

theorem cmdMapPersist_now (r : Request) (n : Nat) (u : State) : cmdMapPersist.now r n u = (u.awaitingPersist r.ref).startPersist := rfl

theorem State.startPersist_running (h : s.map.persisting ≠ none) : s.startPersist = s :=
  if_pos (Option.isSome_iff_ne_none.2 h)

theorem State.startPersist_starts (h : s.map.persisting = none) : s.startPersist
    = { s with map := { s.map with persisting := some s.map.active, copies := s.map.copies.set s.writtenSlot none } } := by
  rw [State.startPersist, if_neg (by simp [h])]

theorem cmdMapPersist_actsOn : cmdMapPersist.ActsOn .map where
  same r n s u q hq h := by
    rw [cmdMapPersist_now]
    unfold State.startPersist
    exact ite_same (h.withMap _ hq) ((h.withMap _ hq).withMap _ hq)
  chan r n u j := by
    rw [cmdMapPersist_now]
    unfold State.startPersist
    split
    · rfl
    · rfl

theorem State.writtenSlot_of_copies {s t : State} (h : t.map.copies = s.map.copies) : t.writtenSlot = s.writtenSlot := by
  unfold State.writtenSlot State.validCopy
  rw [h]

theorem mapPersist_answers (h : s.Admits cmdMapPersist r) : ∃ t, exec (.mapPersist r) s = .next t ∧ t.Recorded r .accepted 0 (zeros 8)
    ∧ s.ChangesOnly t [.channels, .map] ∧ t.map.persistWaits = s.map.persistWaits ++ [(r.ref, s.map.active.generation)]
    ∧ (s.map.persisting = none → t.map.persisting = some s.map.active ∧ t.map.copies = s.map.copies.set s.writtenSlot none)
    ∧ (s.map.persisting ≠ none → t.map = { s.map with persistWaits := s.map.persistWaits ++ [(r.ref, s.map.active.generation)] }) := by
  obtain ⟨u, hu, t, rfl, ht, hrecorded, hchanges⟩ := exec_acceptsOn cmdMapPersist_actsAtOnce cmdMapPersist_actsOn (i := .mapPersist r)
    rfl h rfl rfl (res := []) rfl rfl
  have hmap : u.map = s.map := hu.same .map (by decide)
  refine ⟨_, ht, hrecorded, hchanges, ?_⟩
  rw [State.settled_map, State.noteApplied_map, cmdMapPersist_now]
  by_cases hrunning : s.map.persisting = none
  · have hslot : (u.awaitingPersist r.ref).writtenSlot = s.writtenSlot :=
      State.writtenSlot_of_copies (by rw [State.awaitingPersist, hmap])
    rw [State.startPersist_starts (by rw [State.awaitingPersist, hmap]; exact hrunning)]
    simp only [hslot]
    simp [State.awaitingPersist, hmap, hrunning]
  · rw [State.startPersist_running (by rw [State.awaitingPersist, hmap]; exact hrunning)]
    simp [State.awaitingPersist, hmap, hrunning]

end MapReads

/-! PLANE_SET (R107, R108, R356). -/

section PlaneSet
variable {s u : State} {r : Request} {k : Fin 4}

theorem cmdPlaneSet_actsLater : cmdPlaneSet.ActsLater := ⟨rfl, rfl, rfl, rfl⟩

theorem planeField_eq (hk : r.u 0 1 = k.val) : planeField r = k := by
  rw [planeField, hk, Fin.ofNat_val_eq_self]

theorem cmdPlaneSet_check (hk : r.u 0 1 = k.val) (s : State) : cmdPlaneSet.check r 0 s = s.planeReply k (r.u 1 1 = 1) :=
  congrArg (s.planeReply · (r.u 1 1 = 1)) (planeField_eq hk)

theorem State.planeReply_wake (hmode : s.map.planes[k].mode = .off) (husable : s.map.planes[k].unusable = false) :
    s.planeReply k true = .accept [] := by
  simp only [State.planeReply, hmode, husable, Bool.false_eq_true, if_false]

theorem State.planeReply_drain (hmode : s.map.planes[k].mode = .on)
    (hfree : s.map.shadowMode = .mirror ∨ s.map.shadowMode = .mirroring) : s.planeReply k false = .accept [] := by
  rcases hfree with h | h <;> simp [State.planeReply, hmode, h, -Fin.getElem_fin]

theorem State.planeReply_held {on : Bool} (h : on = true ∧ s.map.planes[k].mode = .on ∨ on = false ∧ s.map.planes[k].mode = .off) :
    s.planeReply k on = .acceptDone [] (s.map.planes[k].statusByte :: zeros 7) := by
  rcases h with ⟨rfl, hmode⟩ | ⟨rfl, hmode⟩
  · simp only [State.planeReply, hmode]
  · simp only [State.planeReply, hmode]

theorem State.planeReply_unusable (hmode : s.map.planes[k].mode ≠ .on) (hunusable : s.map.planes[k].unusable = true) :
    s.planeReply k true = .refuse .errUnusable 0 [] := by
  cases h : s.map.planes[k].mode
  case on => exact absurd h hmode
  all_goals simp only [State.planeReply, h, hunusable, if_true]

theorem State.planeReply_testing (hmode : s.map.planes[k].mode = .testing) : s.planeReply k false = .refuse .errState 0 [] := by
  simp only [State.planeReply, hmode]

/-- A re-route leaves the planes, and is wanted from now on. -/
theorem State.startReroute_map (s : State) : s.startReroute.map.planes = s.map.planes ∧ s.startReroute.map.rerouteWanted = true := by
  have hended (w : State) (j : MapJob) (st : Status) (reason : Nat) (res : List Byte) : (w.completeJob j.command st reason res).map = w.map :=
    State.completeJob_same (s := w) (q := .map) _ _ _ _ (by decide) rfl
  unfold State.startReroute
  simp only
  split
  · exact ⟨rfl, rfl⟩
  split
  · simp
  · split
    · simp [hended]
    · exact ⟨rfl, rfl⟩
  · exact ⟨rfl, rfl⟩
  · exact ⟨rfl, rfl⟩

/-- A plane that is ON drains, and the device re-routes. -/
theorem State.drainPlane_on (hmode : s.map.planes[k].mode = .on) (c : CommandRef) :
    s.drainPlane k c = ((s.setPlane k fun q => { q with commands := q.commands ++ [c] }).setPlaneMode k .draining).startReroute := by
  have hnow : (s.setPlane k fun q => { q with commands := q.commands ++ [c] }).map.planes[k].mode = .on := by
    simp [State.setPlane, ← hmode]
  unfold State.drainPlane
  simp only [hnow]

/-- A request that nothing has ended takes effect. -/
theorem carryOut_planeSet (hfind : (s.chan r.channel).find r.token = none) :
    s.carryOut ⟨0x030A, r, []⟩ = s.setPlaneRequest (planeField r) (r.u 1 1 = 1) r.ref := by
  have hlater : s.carryOut ⟨0x030A, r, []⟩ = if (s.chan r.channel).find r.token |>.any (fun e => e.status.isFinal) then s
      else s.setPlaneRequest (planeField r) (r.u 1 1 = 1) r.ref := rfl
  rw [hlater, hfind]
  rfl

theorem State.setPlaneRequest_drain (hmode : s.map.planes[k].mode = .on) (c : CommandRef) : s.setPlaneRequest k false c = s.drainPlane k c := by
  simp only [State.setPlaneRequest, hmode]

theorem planeSet_answers (hk : r.u 0 1 = k.val) (hon : r.u 1 1 ≤ 1) (hz : r.zero 2 2 = true) (h : s.Admits cmdPlaneSet r) {v : State}
    (hv : v = s.judged r) :
    (r.u 1 1 = 1 → v.map.planes[k].mode = .off → v.map.planes[k].unusable = false → ∃ t, exec (.planeSet r) s = .next t
      ∧ s.Answers t r .accepted (zeros 8) (some 0x030A)) ∧
    (r.u 1 1 = 0 → v.map.planes[k].mode = .on → (v.map.shadowMode = .mirror ∨ v.map.shadowMode = .mirroring) →
      (v.chan r.channel).find r.token = none → ∃ t, exec (.planeSet r) s = .next t ∧ s.Answers t r .accepted (zeros 8) (some 0x030A)
        ∧ (v.carryOut ⟨0x030A, r, []⟩).map.planes[k].mode = .draining ∧ (v.carryOut ⟨0x030A, r, []⟩).map.rerouteWanted = true) ∧
    ((r.u 1 1 = 1 ∧ v.map.planes[k].mode = .on) ∨ (r.u 1 1 = 0 ∧ v.map.planes[k].mode = .off) → ∃ t, exec (.planeSet r) s = .next t
      ∧ t.Recorded r .ok stageCompletion (v.map.planes[k].statusByte :: zeros 7) ∧ s.ChangesOnly t [.channels, .deferred]) ∧
    (r.u 1 1 = 1 → v.map.planes[k].mode ≠ .on → v.map.planes[k].unusable = true → ∃ t, exec (.planeSet r) s = .next t
      ∧ s.Refuses t r .errUnusable 0 (zeros 8)) ∧
    (r.u 1 1 = 0 → v.map.planes[k].mode = .testing → ∃ t, exec (.planeSet r) s = .next t ∧ s.Refuses t r .errState 0 (zeros 8)) := by
  subst hv
  have hr : cmdPlaneSet.range r = none := by
    simp [cmdPlaneSet, firstBad_eq_none, hk, hon, hz]
    omega
  have hcheckOn (hwhat : r.u 1 1 = 1) : cmdPlaneSet.check r 0 (s.judged r) = (s.judged r).planeReply k true := by
    simp [cmdPlaneSet_check hk, hwhat]
  have hcheckOff (hwhat : r.u 1 1 = 0) : cmdPlaneSet.check r 0 (s.judged r) = (s.judged r).planeReply k false := by
    simp [cmdPlaneSet_check hk, hwhat]
  refine ⟨fun hwhat hmode husable => ?_, fun hwhat hmode hfree hfind => ?_, fun hheld => ?_, fun hwhat hmode hunusable => ?_, fun hwhat hmode => ?_⟩
  · exact exec_answersAccepted cmdPlaneSet_actsLater rfl h hr ((hcheckOn hwhat).trans (State.planeReply_wake hmode husable)) rfl
  · obtain ⟨t, ht, ha⟩ := exec_answersAccepted (i := .planeSet r) cmdPlaneSet_actsLater rfl h hr
      ((hcheckOff hwhat).trans (State.planeReply_drain hmode hfree)) rfl
    have hlater : (s.judged r).carryOut ⟨0x030A, r, []⟩ = (s.judged r).drainPlane k r.ref := by
      rw [carryOut_planeSet hfind, planeField_eq hk, show decide (r.u 1 1 = 1) = false by simp [hwhat], State.setPlaneRequest_drain hmode]
    obtain ⟨hplanes, hwanted⟩ := State.startReroute_map (((s.judged r).setPlane k fun q => { q with commands := q.commands ++ [r.ref] }).setPlaneMode
      k .draining)
    rw [hlater, State.drainPlane_on hmode, hwanted, hplanes]
    exact ⟨t, ht, ha, State.setPlaneMode_mode .., rfl⟩
  · have hc : cmdPlaneSet.check r 0 (s.judged r) = .acceptDone [] ((s.judged r).map.planes[k].statusByte :: zeros 7) := by
      rcases hheld with ⟨hwhat, hmode⟩ | ⟨hwhat, hmode⟩
      · exact (hcheckOn hwhat).trans (State.planeReply_held (.inl ⟨rfl, hmode⟩))
      · exact (hcheckOff hwhat).trans (State.planeReply_held (.inr ⟨rfl, hmode⟩))
    exact exec_acceptsDone cmdPlaneSet_actsLater rfl h hr hc (padTo_of_length rfl)
  · exact exec_refuses cmdPlaneSet_actsLater rfl h hr ((hcheckOn hwhat).trans (State.planeReply_unusable hmode hunusable)) rfl
  · exact exec_refuses cmdPlaneSet_actsLater rfl h hr ((hcheckOff hwhat).trans (State.planeReply_testing hmode)) rfl

end PlaneSet

/-- Settles O42: each command's checks decide its answer; a job then reads its buffer, a swap, its cancel and a persistent write change the
map at once, and the cancels of jobs and banks and PLANE_SET leave their effect to the next tick. -/
theorem mapCommandsAnswerAndTakeEffect : Obligations.MapCommandsAnswerAndTakeEffect := by
  intro s v r hv
  refine ⟨?_, fun h => mapCancelJob_answers h hv, fun h => mapCancelBank_answers h hv, fun h hr => mapSwap_answers h hr hv,
    fun h => mapSwapCancel_answers h hv, fun _ _ h hr hl => mapRead_answers hr h hl hv, fun h => mapStatus_answers h hv,
    fun h => mapPersist_answers h, fun _ h hk hon hz => planeSet_answers hk hon hz h hv⟩
  rintro i k raw (⟨rfl, rfl, rfl⟩ | ⟨rfl, rfl, rfl⟩) ds n h hl
  · exact mapJob_answers (opcode := 0x0301) (since := 0x0100) (raw := false) (i := .mapSolve r) rfl rfl h hl hv
  · exact mapJob_answers (opcode := 0x0302) (since := 0x0102) (raw := true) (i := .mapRawLoad r) rfl rfl h hl hv

end Sys2Proof.Machine

/-! SUPPORT. The decision of a protection unit (R157 to R172): which request its conditions make, and what a 1+1 unit or a 1:N unit
selects for it. -/
namespace Sys2Proof.Machine

/-! The conditions as requests (R157). -/

section Conditions
variable {u : ProtUnit} {m : Fin 16} {now : Nat}

theorem ProtUnit.sfReq_of_ripe {t : Nat} (hsf : u.sf[m] = some t) (hripe : t + u.hold[m] ≤ now) : u.sfReq now m.val = true := by
  have hcond : u.sf[m.val]? = some (some t) := (Vector.getElem?_eq_getElem m.isLt).trans (congrArg some hsf)
  have hhold : u.hold[m.val]? = some u.hold[m] := Vector.getElem?_eq_getElem m.isLt
  rw [ProtUnit.sfReq, hcond, hhold]
  exact decide_eq_true hripe

theorem ProtUnit.sfReq_of_none (hsf : u.sf[m] = none) : u.sfReq now m.val = false := by
  have hcond : u.sf[m.val]? = some none := (Vector.getElem?_eq_getElem m.isLt).trans (congrArg some hsf)
  rw [ProtUnit.sfReq, hcond]
  rfl

theorem ProtUnit.sdReq_of_none (hsd : u.sd[m] = none) : u.sdReq now m.val = false := by
  have hcond : u.sd[m.val]? = some none := (Vector.getElem?_eq_getElem m.isLt).trans (congrArg some hsd)
  rw [ProtUnit.sdReq, hcond]
  rfl

/-- The member that holds protect and still fails is picked before the others (R159). -/
theorem ProtUnit.pick_holder {n : Nat} {f : Nat → Bool} (hpos : 0 < u.selected.val) (hf : f u.selected.val = true) :
    u.pick n f = some u.selected :=
  if_pos (by simp [hpos, hf])

/-- While working is selected, the lowest member that fails is picked (R159). -/
theorem ProtUnit.pick_lowest {n : Nat} {f : Nat → Bool} (hsel : u.selected = 0) (hpos : m ≠ 0) (hn : m.val ≤ n) (hf : f m.val = true)
    (hlower : ∀ k : Fin 16, k < m → f k.val = false) : u.pick n f = some m := by
  have hm : 0 < m.val := Nat.pos_of_ne_zero fun h => hpos (Fin.ext h)
  have hfind : ((List.range n).map (· + 1)).find? f = some m.val := by
    rw [List.find?_map, List.find?_range_eq_some.2 ⟨?_, ?_, ?_⟩]
    · exact congrArg some (Nat.sub_add_cancel hm)
    · exact (congrArg f (Nat.sub_add_cancel hm)).trans hf
    · exact List.mem_range.2 (by omega)
    · intro j hj
      have hj' : j + 1 < m.val := by omega
      simpa using hlower ⟨j + 1, hj'.trans m.isLt⟩ hj'
  rw [ProtUnit.pick, if_neg (by simp [hsel]), hfind]
  exact congrArg some (Fin.ofNat_val_eq_self m)

/-- A unit whose members have no condition has none as a request. -/
theorem ProtUnit.reqs_of_clear (hclear : ∀ k : Fin 16, u.sf[k] = none ∧ u.sd[k] = none) (k : Nat) :
    u.sfReq now k = false ∧ u.sdReq now k = false := by
  by_cases hk : k < 16
  · exact ⟨ProtUnit.sfReq_of_none (m := ⟨k, hk⟩) (hclear ⟨k, hk⟩).1, ProtUnit.sdReq_of_none (m := ⟨k, hk⟩) (hclear ⟨k, hk⟩).2⟩
  · have hsf : u.sf[k]? = none := Vector.getElem?_eq_none (Nat.not_lt.1 hk)
    have hsd : u.sd[k]? = none := Vector.getElem?_eq_none (Nat.not_lt.1 hk)
    simp [ProtUnit.sfReq, ProtUnit.sdReq, hsf, hsd, ripe]

theorem ProtUnit.pick_none {n : Nat} {f : Nat → Bool} (hf : ∀ k, f k = false) : u.pick n f = none := by
  simp [ProtUnit.pick, hf]

end Conditions

/-! A unit whose highest request is signal fail of a working member (R158, R159). -/

/-- No lockout, no signal fail of protect and no forced switch stands above the signal fail of member `m`, which is picked; and a
member that holds protect holds it for its signal fail. -/
structure ProtUnit.Fails (n now : Nat) (m : Fin 16) (u : ProtUnit) : Prop where
  lo      : u.lo = false
  fs      : u.fs = none
  protect : u.sfReq now 0 = false
  picked  : u.pick n (u.sfReq now) = some m
  holder  : 0 < u.selected.val → u.sfReq now u.selected.val = true

/-- The unit with another WTR, and another manual switch. -/
def ProtUnit.withTimers (wtr : Option (Fin 16 × Nat)) (ms : Option (Fin 16)) (u : ProtUnit) : ProtUnit := { u with wtr := wtr, ms := ms }

section Fails
variable {u : ProtUnit} {n now : Nat} {m : Fin 16}

/-- The one member of a 1+1 unit fails. -/
theorem ProtUnit.fails_onePlusOne (hlo : u.lo = false) (hfs : u.fs = none) (hprotect : u.sf[(0 : Fin 16)] = none)
    (hfails : u.sfReq now 1 = true) (hsel : u.selected = 0 ∨ u.selected = 1) : u.Fails 1 now 1 where
  lo := hlo
  fs := hfs
  protect := ProtUnit.sfReq_of_none (m := 0) hprotect
  picked := by
    rcases hsel with hsel | hsel
    · refine ProtUnit.pick_lowest hsel (by decide) (Nat.le_refl 1) hfails fun k hk => ?_
      obtain rfl : k = 0 := Fin.ext (Nat.lt_one_iff.1 hk)
      exact ProtUnit.sfReq_of_none (m := 0) hprotect
    · rw [ProtUnit.pick_holder (by rw [hsel]; decide) (by rw [hsel]; exact hfails), hsel]
  holder hpos := by
    rcases hsel with hsel | hsel
    · exact absurd hpos (by simp [hsel])
    · rw [hsel]
      exact hfails

/-- The lowest failed member of a 1:N unit that selects working. -/
theorem ProtUnit.fails_oneToN (hlo : u.lo = false) (hfs : u.fs = none) (hsel : u.selected = 0) (hpos : m ≠ 0) (hn : m.val ≤ n)
    (hfails : u.sfReq now m.val = true) (hlower : ∀ k : Fin 16, k < m → u.sf[k] = none) : u.Fails n now m where
  lo := hlo
  fs := hfs
  protect := ProtUnit.sfReq_of_none (m := 0) (hlower 0 (Fin.pos_iff_ne_zero.2 hpos))
  picked := ProtUnit.pick_lowest hsel hpos hn hfails fun k hk => ProtUnit.sfReq_of_none (hlower k hk)
  holder hheld := absurd hheld (by simp [hsel])

theorem ProtUnit.Fails.decide (h : u.Fails n now m) : u.decide n now = (.sfW, m) := by
  simp only [ProtUnit.decide, h.lo, h.protect, h.fs, h.picked, Bool.false_eq_true, if_false]

theorem ProtUnit.Fails.withTimers (h : u.Fails n now m) (wtr : Option (Fin 16 × Nat)) (ms : Option (Fin 16)) :
    (u.withTimers wtr ms).Fails n now m := ⟨h.lo, h.fs, h.protect, h.picked, h.holder⟩

end Fails

/-- With no condition, no switch and nothing remembered, there is no request (R158). -/
theorem ProtUnit.decide_clear {u : ProtUnit} {n now : Nat} (hclear : ∀ k : Fin 16, u.sf[k] = none ∧ u.sd[k] = none) (hlo : u.lo = false)
    (hfs : u.fs = none) (hms : u.ms = none) (hwtr : u.wtr = none) (hdnr : u.dnr = none) : u.decide n now = (.nr, 0) := by
  have hreqs := ProtUnit.reqs_of_clear (now := now) hclear
  have hsf : u.pick n (u.sfReq now) = none := ProtUnit.pick_none fun k => (hreqs k).1
  have hsd : u.pick n (u.sdReq now) = none := ProtUnit.pick_none fun k => (hreqs k).2
  simp only [ProtUnit.decide, hlo, hfs, hms, hwtr, hdnr, hsf, hsd, (hreqs 0).1, (hreqs 0).2, Bool.false_eq_true, if_false]

/-! What a decision does first (R160, R161). -/

/-- The WTR that is left: it ends when its member fails again, or expires (R161). -/
def ProtUnit.wtrLeft (now : Nat) (u : ProtUnit) : Option (Fin 16 × Nat) :=
  u.wtr.filter fun w => !(u.sfReq now w.1.val || u.sdReq now w.1.val || w.2 ≤ now)

theorem ProtUnit.wtrLeft_ends {u : ProtUnit} {now t : Nat} {j : Fin 16} (hwtr : u.wtr = some (j, t))
    (hends : (u.sfReq now j.val || u.sdReq now j.val || t ≤ now) = true) : u.wtrLeft now = none := by
  rw [ProtUnit.wtrLeft, hwtr, Option.filter_some, if_neg (by simp only [hends]; decide)]

theorem ProtUnit.wtrLeft_runs {u : ProtUnit} {now : Nat}
    (hruns : ∀ j t, u.wtr = some (j, t) → (u.sfReq now j.val || u.sdReq now j.val || t ≤ now) = false) : u.wtrLeft now = u.wtr := by
  unfold ProtUnit.wtrLeft
  rcases hwtr : u.wtr with _ | ⟨j, t⟩
  · rfl
  · rw [Option.filter_some, if_pos (by simp only [hruns j t hwtr]; decide)]

section Restore
variable {u : ProtUnit} {n now : Nat} {failed : Bool}

/-- While no member is given back and no forced switch stands, a decision begins with the WTR that is left, and drops a manual switch
that a stronger request has met. -/
theorem ProtUnit.restore_held (x : ProtSettings) (hheld : 0 < u.selected.val → failed = true →
      (u.sfReq now u.selected.val || u.sdReq now u.selected.val) = true) (hfs : u.fs = none) : ∃ dropped, u.restore x failed n now
    = (u.withTimers (u.wtrLeft now) (if u.ms.isSome && ((u.withTimers (u.wtrLeft now) u.ms).decide n now).1.strong then none else u.ms),
        dropped) := by
  unfold ProtUnit.restore
  extract_lets k cond ended given
  have hended : ended = u.withTimers (u.wtrLeft now) u.ms := by
    simp only [ended, cond]
    split
    case h_1 j t hwtr =>
      split
      case isTrue hends =>
        rw [ProtUnit.wtrLeft_ends hwtr hends]
        rfl
      case isFalse hruns =>
        rw [ProtUnit.wtrLeft_runs fun j' t' hwtr' => ?_]
        · rfl
        · cases hwtr.symm.trans hwtr'
          exact Bool.eq_false_iff.2 hruns
    case h_2 hnone =>
      rw [ProtUnit.wtrLeft_runs fun j' t' hwtr' => by cases hnone.symm.trans hwtr']
      rfl
  have hgiven : given = ended := by
    refine if_neg fun hgives => ?_
    simp only [Bool.and_eq_true, decide_eq_true_eq, Bool.not_eq_true'] at hgives
    obtain ⟨⟨hpos, hfailed⟩, hclear⟩ := hgives
    exact Bool.false_ne_true (hclear.symm.trans (hheld hpos hfailed))
  rw [hgiven, hended]
  refine ⟨_, Prod.ext ?_ rfl⟩
  simp [ProtUnit.withTimers, hfs]

/-- Before a decision on SF-W a manual switch is dropped (R160). -/
theorem ProtUnit.Fails.restore {m : Fin 16} (h : u.Fails n now m) (x : ProtSettings) :
    ∃ dropped, u.restore x failed n now = (u.withTimers (u.wtrLeft now) none, dropped) := by
  obtain ⟨dropped, hrestore⟩ := ProtUnit.restore_held (n := n) (failed := failed) x (fun hpos _ => by rw [h.holder hpos]; rfl) h.fs
  refine ⟨dropped, hrestore.trans ?_⟩
  rw [(h.withTimers _ _).decide]
  cases u.ms <;> rfl

/-- What a decision does first leaves a protocol failure. -/
theorem ProtUnit.restore_protFail (x : ProtSettings) : (u.restore x failed n now).1.protFail = u.protFail := by
  unfold ProtUnit.restore
  extract_lets k cond ended given
  have hended : ended.protFail = u.protFail := by
    simp only [ended]
    repeat' split
    all_goals rfl
  have hgiven : given.protFail = ended.protFail := by
    simp only [given]
    repeat' split
    all_goals rfl
  exact hgiven.trans hended

end Restore

/-! What a change of selection counts (R175). -/

section Switched
variable (old : Fin 16) (delta : Nat) (frame : BitVec 64) (u : ProtUnit)

/-- It counts and marks, and leaves the rest of the unit. -/
theorem ProtUnit.switched_eq : ∃ s r m k, u.switched old delta frame = { u with switches := s, reverts := r, markUntil := m, markMember := k } := by
  unfold ProtUnit.switched
  extract_lets counted last
  have hcounted : ∃ s r, counted = { u with switches := s, reverts := r } := by
    simp only [counted]
    split
    · exact ⟨_, _, rfl⟩
    · exact ⟨_, _, rfl⟩
  obtain ⟨s, r, hcounted⟩ := hcounted
  rw [hcounted]
  repeat' split
  all_goals exact ⟨_, _, _, _, rfl⟩

@[simp] theorem ProtUnit.switched_request : (u.switched old delta frame).request = u.request := by
  obtain ⟨_, _, _, _, h⟩ := u.switched_eq old delta frame; rw [h]
@[simp] theorem ProtUnit.switched_member : (u.switched old delta frame).member = u.member := by
  obtain ⟨_, _, _, _, h⟩ := u.switched_eq old delta frame; rw [h]
@[simp] theorem ProtUnit.switched_selected : (u.switched old delta frame).selected = u.selected := by
  obtain ⟨_, _, _, _, h⟩ := u.switched_eq old delta frame; rw [h]
@[simp] theorem ProtUnit.switched_bridged : (u.switched old delta frame).bridged = u.bridged := by
  obtain ⟨_, _, _, _, h⟩ := u.switched_eq old delta frame; rw [h]
@[simp] theorem ProtUnit.switched_ms : (u.switched old delta frame).ms = u.ms := by
  obtain ⟨_, _, _, _, h⟩ := u.switched_eq old delta frame; rw [h]
@[simp] theorem ProtUnit.switched_wtr : (u.switched old delta frame).wtr = u.wtr := by
  obtain ⟨_, _, _, _, h⟩ := u.switched_eq old delta frame; rw [h]
@[simp] theorem ProtUnit.switched_protFail : (u.switched old delta frame).protFail = u.protFail := by
  obtain ⟨_, _, _, _, h⟩ := u.switched_eq old delta frame; rw [h]

/-- A switch from working to a member is counted as one (R175). -/
theorem ProtUnit.switched_away {old : Fin 16} {u : ProtUnit} (hold : old = 0) (hsel : u.selected ≠ 0) :
    (u.switched old delta frame).switches = u.switches + 1 ∧ (u.switched old delta frame).reverts = u.reverts := by
  simp only [ProtUnit.switched, hold, hsel, if_false]
  split
  · exact ⟨rfl, rfl⟩
  · exact ⟨rfl, rfl⟩

/-- A return to working is counted as a reversion (R175). -/
theorem ProtUnit.switched_back {old : Fin 16} {u : ProtUnit} (hold : old ≠ 0) (hsel : u.selected = 0) :
    (u.switched old delta frame).switches = u.switches ∧ (u.switched old delta frame).reverts = u.reverts + 1 := by
  simp only [ProtUnit.switched, hsel, hold.symm, if_false, if_true]
  split
  · exact ⟨rfl, rfl⟩
  · exact ⟨rfl, rfl⟩

end Switched

/-! A 1+1 unit (R158 to R166). -/

/-- What a 1+1 unit holds after it has decided on `r`, before the change of selection is counted. -/
def ProtUnit.holding (r : ProtRequest × Fin 16) (delta : Nat) (u : ProtUnit) : ProtUnit :=
  { u.forget r.1 with request := r.1, member := r.2, selected := selectionOf r, bridged := 1, notHitless := delta != 0 }

section OnePlusOne
variable {u v : ProtUnit} {x : ProtSettings} {failed dropped : Bool} {delta now : Nat} {frame : BitVec 64}

theorem ProtUnit.decideOnePlusOne_eq (hrestore : u.restore x failed 1 now = (v, dropped)) :
    u.decideOnePlusOne x failed delta now frame = ((v.holding (v.decide 1 now) delta).switched u.selected delta frame, dropped) := by
  rw [ProtUnit.decideOnePlusOne, hrestore]
  rfl

/-- Signal fail of working selects protect (R157, R158). -/
theorem ProtUnit.Fails.decideOnePlusOne (h : u.Fails 1 now 1) {y : ProtUnit} (hy : y = (u.decideOnePlusOne x failed delta now frame).1) :
    y.request = .sfW ∧ y.member = 1 ∧ y.selected = 1 ∧ y.ms = none
      ∧ (u.selected = 0 → y.switches = u.switches + 1 ∧ y.reverts = u.reverts) := by
  obtain ⟨dropped, hrestore⟩ := h.restore (failed := failed) x
  rw [ProtUnit.decideOnePlusOne_eq hrestore, (h.withTimers _ _).decide] at hy
  subst hy
  refine ⟨by simp [ProtUnit.holding], by simp [ProtUnit.holding], by simp [ProtUnit.holding, selectionOf, ProtRequest.selects],
    by simp [ProtUnit.holding, ProtUnit.forget, ProtUnit.withTimers], fun hworking => ?_⟩
  exact ProtUnit.switched_away delta frame hworking (by simp [ProtUnit.holding, selectionOf, ProtRequest.selects])

/-- The end of WTR without a condition or a switch returns to working (R161). -/
theorem ProtUnit.decideOnePlusOne_wtrEnds {t : Nat} (hwtr : u.wtr = some (1, t)) (ht : t ≤ now)
    (hclear : ∀ k : Fin 16, u.sf[k] = none ∧ u.sd[k] = none) (hsel : u.selected = 1) (hlo : u.lo = false) (hfs : u.fs = none)
    (hms : u.ms = none) (hdnr : u.dnr = none) {y : ProtUnit}
    (hy : y = (u.decideOnePlusOne x (u.wasRequest now u.selected.val) delta now frame).1) :
    y.request = .nr ∧ y.selected = 0 ∧ y.wtr = none ∧ y.reverts = u.reverts + 1 ∧ y.switches = u.switches := by
  have hfailed : u.wasRequest now u.selected.val = false := by
    obtain ⟨hsf, hsd⟩ := ProtUnit.reqs_of_clear (now := now - 1) hclear u.selected.val
    rw [ProtUnit.wasRequest, hsf, hsd]
    rfl
  obtain ⟨dropped, hrestore⟩ := ProtUnit.restore_held (n := 1) (now := now) (failed := u.wasRequest now u.selected.val) x
    (fun _ hwas => absurd hwas (by simp [hfailed])) hfs
  rw [ProtUnit.wtrLeft_ends hwtr (by simp [ht]), hms] at hrestore
  have hdecide : (u.withTimers none none).decide 1 now = (.nr, 0) := ProtUnit.decide_clear hclear hlo hfs rfl rfl hdnr
  rw [ProtUnit.decideOnePlusOne_eq hrestore] at hy
  have hback := ProtUnit.switched_back delta frame (old := u.selected) (u := (u.withTimers none none).holding (.nr, 0) delta)
    (by rw [hsel]; decide) rfl
  subst hy
  simp only [Option.isSome_none, Bool.false_and, Bool.false_eq_true, if_false, hdecide]
  exact ⟨by simp [ProtUnit.holding], by simp [ProtUnit.holding, selectionOf, ProtRequest.selects],
    by simp [ProtUnit.holding, ProtUnit.forget], hback.2, hback.1⟩

/-- A decision leaves a protocol failure. -/
theorem ProtUnit.decideOnePlusOne_protFail : (u.decideOnePlusOne x failed delta now frame).1.protFail = u.protFail := by
  rw [ProtUnit.decideOnePlusOne_eq (Prod.eta _).symm, ProtUnit.switched_protFail]
  exact ProtUnit.restore_protFail (n := 1) x

end OnePlusOne

/-! A 1:N unit (R167 to R172). -/

section OneToN
variable {u v : ProtUnit} {x : ProtSettings} {failed dropped : Bool} {n passed now : Nat} {delta : Nat → Nat} {frame : BitVec 64} {m : Fin 16}

/-- A far end without a request has none to accept. -/
theorem ProtUnit.acceptedFar_none (hfar : farRequest (u.far.getD 0) = none) (loc : ProtRequest × Fin 16) : u.acceptedFar loc = none := by
  rw [ProtUnit.acceptedFar, hfar]

/-- A unit that bridges nothing bridges the member of its own request, and selects it once the far end has bridged it (R167, R172). -/
theorem ProtUnit.protocol_bridges (hfar : farRequest (u.far.getD 0) = none) (hpos : m ≠ 0) (hsel : u.selected = 0) (hbridged : u.bridged = 0)
    {y : ProtUnit} (hy : y = u.protocol (.sfW, m) passed) : y.request = .sfW ∧ y.member = m ∧ y.bridged = m
      ∧ y.selected = if farBridged (u.far.getD 0) = m then m else 0 := by
  have hm : 0 < m.val := Nat.pos_of_ne_zero fun h => hpos (Fin.ext h)
  subst hy
  simp [ProtUnit.protocol, ProtUnit.acceptedFar_none hfar, selectionOf, ProtRequest.selects, hm, hsel, hbridged, hpos.symm]

theorem ProtUnit.withdraw_none (hfar : farRequest (u.far.getD 0) = none) (loc : ProtRequest × Fin 16) : u.withdraw loc = (u, false) := by
  rw [ProtUnit.withdraw, ProtUnit.acceptedFar_none hfar]

/-- Signal fail of a working member bridges it, and selects it once the far end has bridged it (R167, R172). -/
theorem ProtUnit.Fails.decideOneToN (h : u.Fails n now m) (hok : u.protFail = false) (hfar : farRequest (u.far.getD 0) = none) (hpos : m ≠ 0)
    (hsel : u.selected = 0) (hbridged : u.bridged = 0) {y : ProtUnit} (hy : y = (u.decideOneToN x failed n delta passed now frame).1) :
    y.request = .sfW ∧ y.member = m ∧ y.bridged = m ∧ y.selected = if farBridged (u.far.getD 0) = m then m else 0 := by
  obtain ⟨dropped, hrestore⟩ := h.restore (failed := failed) x
  have hok' : (u.withTimers (u.wtrLeft now) none).protFail = false := hok
  have hwithdraw := ProtUnit.withdraw_none (u := u.withTimers (u.wtrLeft now) none) hfar
  have hforget : ((u.withTimers (u.wtrLeft now) none).forget .sfW).protFail = false := hok
  have hprotocol := ProtUnit.protocol_bridges (u := (u.withTimers (u.wtrLeft now) none).forget .sfW) (passed := passed) hfar hpos hsel hbridged rfl
  subst hy
  simp only [ProtUnit.decideOneToN, hrestore, hok', hforget, hwithdraw, (h.withTimers _ _).decide, Bool.false_eq_true, if_false,
    ProtUnit.switched_request, ProtUnit.switched_member, ProtUnit.switched_bridged, ProtUnit.switched_selected]
  exact hprotocol

/-- In a protocol failure a 1:N unit selects working, and stays in it (R170). -/
theorem ProtUnit.decideOneToN_failed (hfail : u.protFail = true) {y : ProtUnit}
    (hy : y = (u.decideOneToN x failed n delta passed now frame).1) : y.protFail = true ∧ y.selected = 0 := by
  rcases hrestore : u.restore x failed n now with ⟨v, dropped⟩
  have hv : v.protFail = true := (congrArg (·.1.protFail) hrestore).symm.trans ((ProtUnit.restore_protFail x).trans hfail)
  have hforget (r : ProtRequest) : (v.forget r).protFail = true := hv
  subst hy
  simp only [ProtUnit.decideOneToN, hrestore, hv, hforget, if_true, ProtUnit.switched_protFail, ProtUnit.switched_selected, and_self]

end OneToN
end Sys2Proof.Machine

/-! SUPPORT. The rows of the protection timers (R157, R161, R162, R170): a timer that has expired decides its group or pair again and
changes nothing else, and the statement about them. -/
namespace Sys2Proof.Machine

/-! Association lists. -/

section Assoc
variable {κ ν : Type} [DecidableEq κ] {k j : κ}

theorem assocGet_assocSet_self (d v : ν) (xs : List (κ × ν)) : assocGet k d (assocSet k v xs) = v := by
  induction xs with
  | nil => exact if_pos rfl
  | cons x xs ih =>
    unfold assocSet
    split
    case isTrue => exact if_pos rfl
    case isFalse hx => exact (if_neg hx).trans ih

theorem find_assocSet_self (v : ν) (xs : List (κ × ν)) : (assocSet k v xs).find? (fun y => y.1 == k) = some (k, v) := by
  induction xs with
  | nil => simp [assocSet]
  | cons x xs ih =>
    unfold assocSet
    split
    case isTrue => simp
    case isFalse hx => simp [hx, ih]

theorem assocGet_of_find {v : ν} {xs : List (κ × ν)} (d : ν) (h : xs.find? (fun y => y.1 == k) = some (k, v)) : assocGet k d xs = v := by
  induction xs with
  | nil => cases h
  | cons x xs ih =>
    by_cases hx : x.1 = k
    · rw [List.find?_cons_of_pos (by simp [hx])] at h
      cases h
      exact if_pos rfl
    · rw [List.find?_cons_of_neg (by simp [hx])] at h
      exact (if_neg hx).trans (ih h)

end Assoc

/-! A new unit in its place, with the events of what changed (R175). -/

theorem Part.Same.withProt {s u : State} {q : Part} (x : ProtState) (h0 : q ≠ .prot) (h : Part.Same s u q) :
    Part.Same s { u with prot := x } q := by
  cases q
  case prot => exact absurd rfl h0
  all_goals exact h

theorem State.reportUnit_same {s u : State} {q : Part} {ev : Nat → Action → Nat → Nat → State → State}
    (hev : ∀ item a p1 p2 w, Part.Same s w q → Part.Same s (ev item a p1 p2 w) q) (old new : ProtUnit) (dropped : Bool)
    (h : Part.Same s u q) : Part.Same s (u.reportUnit ev old new dropped) q := by
  unfold State.reportUnit
  extract_lets selection refusal hitless
  have hselection : Part.Same s selection q := ite_same h (hev _ _ _ _ _ h)
  have hrefusal : Part.Same s refusal q := ite_same (hev _ _ _ _ _ hselection) hselection
  have hhitless : Part.Same s hitless q := ite_same hrefusal (hev _ _ _ _ _ hrefusal)
  exact ite_same hhitless (hev _ _ _ _ _ hhitless)

theorem State.reportUnit_prot {ev : Nat → Action → Nat → Nat → State → State} (hev : ∀ item a p1 p2 w, (ev item a p1 p2 w).prot = w.prot)
    (old new : ProtUnit) (dropped : Bool) (s : State) : (s.reportUnit ev old new dropped).prot = s.prot :=
  State.reportUnit_same (q := .prot) (fun _ _ _ _ _ h => (hev _ _ _ _ _).trans h) old new dropped rfl

section Put
variable {s u : State} {q : Part}

theorem State.putUnit_same (i : Fin 256) (g : ProtGroup) (x : ProtUnit × Bool) (h0 : q ≠ .prot) (h : Part.Same s u q) :
    Part.Same s (u.putUnit i g x) q := by
  unfold State.putUnit
  exact State.reportUnit_same (fun _ _ _ _ _ hw => State.raise_same _ _ _ _ _ _ hw) _ _ _ (h.withProt _ h0)

theorem State.putUnit_prot (i : Fin 256) (g : ProtGroup) (x : ProtUnit × Bool) (s : State) :
    (s.putUnit i g x).prot = { s.prot with groups := s.prot.groups.set i (some { g with unit := x.1 }) } := by
  rw [State.putUnit, State.reportUnit_prot fun _ _ _ _ _ => State.raise_prot ..]

theorem State.putPair_same (x : Connection) (old : ProtUnit) (y : ProtUnit × Bool) (h0 : q ≠ .prot) (h : Part.Same s u q) :
    Part.Same s (u.putPair x old y) q := by
  unfold State.putPair
  exact State.reportUnit_same (fun _ _ _ _ _ hw => State.raisePair_same _ _ _ _ _ _ hw) _ _ _ (h.withProt _ h0)

theorem State.putPair_prot (x : Connection) (old : ProtUnit) (y : ProtUnit × Bool) (s : State) :
    (s.putPair x old y).prot = { s.prot with pairUnits := assocSet x.id y.1 s.prot.pairUnits } := by
  rw [State.putPair, State.reportUnit_prot fun _ _ _ _ _ => State.raisePair_prot ..]

end Put

/-! What the expiry of a timer does to its group or pair (R162). -/

/-- What a group's unit decides on the conditions of the last tick, with the commands that it drops (R162). -/
def State.groupDecision (s : State) (g : ProtGroup) (u : ProtUnit) : ProtUnit × Bool :=
  if g.oneToN then u.decideOneToN g.settings (u.wasRequest s.clock.tick u.selected.val) g.working.length (s.groupDelta g) 0 s.clock.tick s.clock.frame
  else u.decideOnePlusOne g.settings (u.wasRequest s.clock.tick u.selected.val) (s.groupDelta g 1) s.clock.tick s.clock.frame

/-- What a pair's unit decides on the conditions of the last tick, with the commands that it drops (R162). -/
def State.pairDecision (s : State) (x : Connection) (e : Endpoint) (u : ProtUnit) : ProtUnit × Bool :=
  u.decideOnePlusOne (s.pairSettingsOf x.id) (u.wasRequest s.clock.tick u.selected.val) (s.pairDelta x e) s.clock.tick s.clock.frame

section Due
variable {s : State} {due : ProtUnit → Bool} {f : ProtUnit → ProtUnit}

/-- What has not expired changes nothing. -/
theorem State.stepDue_early {x : ProtTarget} {u : ProtUnit} (hu : s.unitOf x = some u) (hearly : due u = false) : s.stepDue x due f = s := by
  simp only [State.stepDue, hu, hearly, Bool.false_eq_true, if_false]

section Group
variable {i : Fin 256} {g : ProtGroup} (hg : s.prot.groups[i] = some g)
include hg

theorem State.unitOf_group : s.unitOf (.group i) = some g.unit := by
  rw [State.unitOf, hg]
  rfl

theorem State.stepDue_group (hdue : due g.unit = true) :
    s.stepDue (.group i) due f = s.putUnit i g (s.groupDecision g (f g.unit)) := by
  simp only [State.stepDue, State.unitOf_group hg, hdue, if_true, State.decideGroup, hg]
  rfl

/-- A group whose timer has expired holds what it decides; the other groups, and the other parts of the state, are as before. -/
theorem State.stepDue_group_moves (hdue : due g.unit = true) {y : ProtUnit} (hy : y = (s.groupDecision g (f g.unit)).1) {t : State}
    (ht : t = s.settled (s.stepDue (.group i) due f)) :
    s.ChangesOnly t [.prot] ∧ t.prot.groups[i] = some { g with unit := y }
      ∧ ∀ j : Fin 256, j ≠ i → t.prot.groups[j] = s.prot.groups[j] := by
  subst hy ht
  rw [State.stepDue_group hg hdue, State.settled_prot, State.putUnit_prot]
  refine ⟨State.settled_changesOne fun q hq => State.putUnit_same _ _ _ hq (Part.Same.refl s q), Vector.getElem_set_self i.isLt, fun j hj => ?_⟩
  exact Vector.getElem_set_ne i.isLt j.isLt fun e => hj (Fin.ext e.symm)

/-- A row whose timer has not expired changes nothing. -/
theorem State.stepDue_group_early {c : Instr} (hc : exec c s = .next (s.settled (s.stepDue (.group i) due f))) (hearly : due g.unit = false) :
    ∃ t, exec c s = .next t ∧ s.ChangesOnly t [] := by
  rw [State.stepDue_early (State.unitOf_group hg) hearly] at hc
  exact ⟨_, hc, State.settled_self_changesNothing s⟩

end Group

/-- A pair whose timer has expired holds what it decides; the groups, and the other parts of the state, are as before. -/
theorem State.stepDue_pair_moves {id : BitVec 32} {x : Connection} {e : Endpoint} {u y : ProtUnit}
    (hx : s.map.active.list.find? (fun y => y.id == id) = some x) (he : x.protect = some e)
    (hu : s.prot.pairUnits.find? (fun y => y.1 == id) = some (id, u)) (hdue : due u = true) (hy : y = (s.pairDecision x e u).1) {t : State}
    (ht : t = s.settled (s.stepDue (.pair id) due f)) :
    s.ChangesOnly t [.prot] ∧ t.prot.groups = s.prot.groups ∧ t.prot.pairUnits.find? (fun y => y.1 == id) = some (id, y) := by
  have hid : x.id = id := by simpa using List.find?_some hx
  have hunit : s.unitOf (.pair id) = some u := by rw [State.unitOf, hu]; rfl
  have hstep : s.stepDue (.pair id) due f = s.putPair x u (s.pairDecision x e u) := by
    simp only [State.stepDue, hunit, hdue, if_true, hx, State.decidePair, he, hid, assocGet_of_find _ hu, State.pairDecision]
  subst hy ht hid
  rw [hstep, State.settled_prot, State.putPair_prot]
  exact ⟨State.settled_changesOne fun q hq => State.putPair_same _ _ _ hq (Part.Same.refl s q), rfl, find_assocSet_self _ _⟩

end Due

/-! The rows (R157, R161, R170). -/

/-- The condition of a member has lasted for its whole hold-off (R157). -/
def ProtUnit.holdDue (m : Fin 16) (now : Nat) (u : ProtUnit) : Bool := u.sfReq now m.val || u.sdReq now m.val

/-- The WTR has expired (R161). -/
def ProtUnit.wtrDue (now : Nat) (u : ProtUnit) : Bool :=
  match u.wtr with
  | some (_, e) => e ≤ now
  | none => false

/-- The unit whose request has gone unanswered (R170). -/
def ProtUnit.unheard (u : ProtUnit) : ProtUnit := { u with failing := u.failing ||| 1, protFail := true }

theorem exec_holdOffExpiry (x : ProtTarget) (m : Fin 16) (s : State) :
    exec (.holdOffExpiry x m) s = .next (s.settled (s.stepDue x (ProtUnit.holdDue m s.clock.tick) id)) := rfl

theorem exec_wtrExpiry (x : ProtTarget) (s : State) :
    exec (.wtrExpiry x) s = .next (s.settled (s.stepDue x (ProtUnit.wtrDue s.clock.tick) id)) := rfl

theorem exec_protFailTimeout (i : Fin 256) (s : State) :
    exec (.protFailTimeout i) s = .next (s.settled (s.stepDue (.group i) (fun u => 100000 ≤ u.unanswered) ProtUnit.unheard)) := rfl

theorem ProtUnit.holdDue_of_sfReq {m : Fin 16} {now : Nat} {u : ProtUnit} (h : u.sfReq now m.val = true) : u.holdDue m now = true := by
  rw [ProtUnit.holdDue, h]
  rfl

theorem ProtUnit.wtrDue_some {k : Fin 16} {e : Nat} {u : ProtUnit} (hwtr : u.wtr = some (k, e)) (now : Nat) :
    u.wtrDue now = Decidable.decide (e ≤ now) := by
  simp only [ProtUnit.wtrDue, hwtr]

section Rows
variable {s : State} {i : Fin 256} {g : ProtGroup} (hg : s.prot.groups[i] = some g)

theorem State.groupDecision_onePlusOne (hkind : g.oneToN = false) (u : ProtUnit) : s.groupDecision g u
    = u.decideOnePlusOne g.settings (u.wasRequest s.clock.tick u.selected.val) (s.groupDelta g 1) s.clock.tick s.clock.frame :=
  if_neg (by simp [hkind])

theorem State.groupDecision_oneToN (hkind : g.oneToN = true) (u : ProtUnit) : s.groupDecision g u
    = u.decideOneToN g.settings (u.wasRequest s.clock.tick u.selected.val) g.working.length (s.groupDelta g) 0 s.clock.tick s.clock.frame :=
  if_pos hkind

include hg

/-- The hold-off of working expires in a 1+1 group (R157, R158). -/
theorem holdOffExpiry_onePlusOne {t0 : Nat} (hkind : g.oneToN = false) (hsf : g.unit.sf[(1 : Fin 16)] = some t0)
    (hripe : t0 + g.unit.hold[(1 : Fin 16)] ≤ s.clock.tick) (hprotect : g.unit.sf[(0 : Fin 16)] = none) (hlo : g.unit.lo = false)
    (hfs : g.unit.fs = none) (hsel : g.unit.selected = 0 ∨ g.unit.selected = 1) :
    ∃ t g', exec (.holdOffExpiry (.group i) 1) s = .next t ∧ s.ChangesOnly t [.prot] ∧ t.prot.groups[i] = some g'
      ∧ g'.unit.request = .sfW ∧ g'.unit.member = 1 ∧ g'.unit.selected = 1 ∧ g'.unit.ms = none
      ∧ (g.unit.selected = 0 → g'.unit.switches = g.unit.switches + 1 ∧ g'.unit.reverts = g.unit.reverts)
      ∧ g'.settings = g.settings ∧ ∀ j : Fin 256, j ≠ i → t.prot.groups[j] = s.prot.groups[j] := by
  have hreq : g.unit.sfReq s.clock.tick 1 = true := ProtUnit.sfReq_of_ripe (m := 1) hsf hripe
  have hfails := ProtUnit.fails_onePlusOne hlo hfs hprotect hreq hsel
  obtain ⟨hrequest, hmember, hselected, hms, hcount⟩ :=
    hfails.decideOnePlusOne (congrArg Prod.fst (State.groupDecision_onePlusOne (s := s) hkind g.unit))
  obtain ⟨hchanges, hgroup, hothers⟩ := State.stepDue_group_moves (f := id) hg (ProtUnit.holdDue_of_sfReq (m := 1) hreq) rfl rfl
  exact ⟨_, _, exec_holdOffExpiry .., hchanges, hgroup, hrequest, hmember, hselected, hms, hcount, rfl, hothers⟩

/-- The hold-off of a working member expires in a 1:N group that bridges nothing and hears no request (R157, R167, R172). -/
theorem holdOffExpiry_oneToN {m : Fin 16} {t0 : Nat} (hkind : g.oneToN = true) (hpos : m ≠ 0) (hn : m.val ≤ g.working.length)
    (hsf : g.unit.sf[m] = some t0) (hripe : t0 + g.unit.hold[m] ≤ s.clock.tick) (hlower : ∀ k : Fin 16, k < m → g.unit.sf[k] = none)
    (hlo : g.unit.lo = false) (hfs : g.unit.fs = none) (hok : g.unit.protFail = false) (hsel : g.unit.selected = 0)
    (hbridged : g.unit.bridged = 0) (hfar : farRequest (g.unit.far.getD 0) = none) :
    ∃ t g', exec (.holdOffExpiry (.group i) m) s = .next t ∧ s.ChangesOnly t [.prot] ∧ t.prot.groups[i] = some g'
      ∧ g'.unit.request = .sfW ∧ g'.unit.member = m ∧ g'.unit.bridged = m
      ∧ g'.unit.selected = (if farBridged (g.unit.far.getD 0) = m then m else 0)
      ∧ g'.settings = g.settings ∧ ∀ j : Fin 256, j ≠ i → t.prot.groups[j] = s.prot.groups[j] := by
  have hreq : g.unit.sfReq s.clock.tick m.val = true := ProtUnit.sfReq_of_ripe hsf hripe
  have hfails := ProtUnit.fails_oneToN hlo hfs hsel hpos hn hreq hlower
  obtain ⟨hrequest, hmember, hbridges, hselected⟩ :=
    hfails.decideOneToN hok hfar hpos hsel hbridged (congrArg Prod.fst (State.groupDecision_oneToN (s := s) hkind g.unit))
  obtain ⟨hchanges, hgroup, hothers⟩ := State.stepDue_group_moves (f := id) hg (ProtUnit.holdDue_of_sfReq hreq) rfl rfl
  exact ⟨_, _, exec_holdOffExpiry .., hchanges, hgroup, hrequest, hmember, hbridges, hselected, rfl, hothers⟩

/-- The WTR of a 1+1 group expires without a condition or a switch (R161). -/
theorem wtrExpiry_onePlusOne {e : Nat} (hkind : g.oneToN = false) (hwtr : g.unit.wtr = some (1, e)) (he : e ≤ s.clock.tick)
    (hclear : ∀ k : Fin 16, g.unit.sf[k] = none ∧ g.unit.sd[k] = none) (hsel : g.unit.selected = 1) (hlo : g.unit.lo = false)
    (hfs : g.unit.fs = none) (hms : g.unit.ms = none) (hdnr : g.unit.dnr = none) :
    ∃ t g', exec (.wtrExpiry (.group i)) s = .next t ∧ s.ChangesOnly t [.prot] ∧ t.prot.groups[i] = some g'
      ∧ g'.unit.request = .nr ∧ g'.unit.selected = 0 ∧ g'.unit.wtr = none ∧ g'.unit.reverts = g.unit.reverts + 1
      ∧ g'.unit.switches = g.unit.switches ∧ ∀ j : Fin 256, j ≠ i → t.prot.groups[j] = s.prot.groups[j] := by
  obtain ⟨hrequest, hselected, hended, hcount⟩ := ProtUnit.decideOnePlusOne_wtrEnds hwtr he hclear hsel hlo hfs hms hdnr
    (congrArg Prod.fst (State.groupDecision_onePlusOne (s := s) hkind g.unit))
  obtain ⟨hchanges, hgroup, hothers⟩ := State.stepDue_group_moves (f := id) (due := ProtUnit.wtrDue s.clock.tick) hg
    ((ProtUnit.wtrDue_some hwtr _).trans (decide_eq_true he)) rfl rfl
  exact ⟨_, _, exec_wtrExpiry .., hchanges, hgroup, hrequest, hselected, hended, hcount.1, hcount.2, hothers⟩

/-- A request without its BRIDGED for 100,000 frames is a protocol failure, in which a 1:N group selects working (R170). -/
theorem protFailTimeout_fails (hlate : 100000 ≤ g.unit.unanswered) : ∃ t g', exec (.protFailTimeout i) s = .next t ∧ s.ChangesOnly t [.prot]
    ∧ t.prot.groups[i] = some g' ∧ g'.unit.protFail = true ∧ g'.settings = g.settings
    ∧ (g.oneToN = true → g'.unit.selected = 0) ∧ ∀ j : Fin 256, j ≠ i → t.prot.groups[j] = s.prot.groups[j] := by
  obtain ⟨hchanges, hgroup, hothers⟩ := State.stepDue_group_moves (due := fun u => 100000 ≤ u.unanswered) (f := ProtUnit.unheard)
    hg (decide_eq_true hlate) rfl rfl
  refine ⟨_, _, exec_protFailTimeout .., hchanges, hgroup, ?_, rfl, fun hkind => ?_, hothers⟩
  · cases hkind : g.oneToN
    · rw [State.groupDecision_onePlusOne hkind]
      exact ProtUnit.decideOnePlusOne_protFail
    · rw [State.groupDecision_oneToN hkind]
      exact (ProtUnit.decideOneToN_failed rfl rfl).1
  · rw [State.groupDecision_oneToN hkind]
    exact (ProtUnit.decideOneToN_failed rfl rfl).2

end Rows

section PairRows
variable {s : State} {pid : BitVec 32} {x : Connection} {e : Endpoint} {u : ProtUnit}
  (hx : s.map.active.list.find? (fun y => y.id == pid) = some x) (he : x.protect = some e)
  (hu : s.prot.pairUnits.find? (fun y => y.1 == pid) = some (pid, u)) (hlo : u.lo = false) (hfs : u.fs = none)
include hx he hu hlo hfs

/-- The hold-off of working expires in a pair (R157, R158). -/
theorem holdOffExpiry_pair {t0 : Nat} (hsf : u.sf[(1 : Fin 16)] = some t0) (hripe : t0 + u.hold[(1 : Fin 16)] ≤ s.clock.tick)
    (hprotect : u.sf[(0 : Fin 16)] = none) (hsel : u.selected = 0 ∨ u.selected = 1) :
    ∃ t u', exec (.holdOffExpiry (.pair pid) 1) s = .next t ∧ s.ChangesOnly t [.prot] ∧ t.prot.groups = s.prot.groups
      ∧ t.prot.pairUnits.find? (fun y => y.1 == pid) = some (pid, u') ∧ u'.request = .sfW ∧ u'.member = 1 ∧ u'.selected = 1 := by
  have hreq : u.sfReq s.clock.tick 1 = true := ProtUnit.sfReq_of_ripe (m := 1) hsf hripe
  obtain ⟨hrequest, hmember, hselected, -⟩ := (ProtUnit.fails_onePlusOne hlo hfs hprotect hreq hsel).decideOnePlusOne
    (y := (s.pairDecision x e u).1) rfl
  obtain ⟨hchanges, hgroups, hpair⟩ := State.stepDue_pair_moves (f := id) hx he hu (ProtUnit.holdDue_of_sfReq (m := 1) hreq) rfl rfl
  exact ⟨_, _, exec_holdOffExpiry .., hchanges, hgroups, hpair, hrequest, hmember, hselected⟩

/-- The WTR of a pair expires without a condition or a switch (R161). -/
theorem wtrExpiry_pair {v : Nat} (hwtr : u.wtr = some (1, v)) (hv : v ≤ s.clock.tick)
    (hclear : ∀ k : Fin 16, u.sf[k] = none ∧ u.sd[k] = none) (hsel : u.selected = 1) (hms : u.ms = none) (hdnr : u.dnr = none) :
    ∃ t u', exec (.wtrExpiry (.pair pid)) s = .next t ∧ s.ChangesOnly t [.prot] ∧ t.prot.groups = s.prot.groups
      ∧ t.prot.pairUnits.find? (fun y => y.1 == pid) = some (pid, u') ∧ u'.request = .nr ∧ u'.selected = 0 := by
  obtain ⟨hrequest, hselected, -⟩ := ProtUnit.decideOnePlusOne_wtrEnds hwtr hv hclear hsel hlo hfs hms hdnr
    (y := (s.pairDecision x e u).1) rfl
  obtain ⟨hchanges, hgroups, hpair⟩ := State.stepDue_pair_moves (f := id) (due := ProtUnit.wtrDue s.clock.tick) hx he hu
    ((ProtUnit.wtrDue_some hwtr _).trans (decide_eq_true hv)) rfl rfl
  exact ⟨_, _, exec_wtrExpiry .., hchanges, hgroups, hpair, hrequest, hselected⟩

end PairRows

/-- Settles O19: an expired timer decides its unit again, and the unit's conditions fix the request that it decides on. -/
theorem protectionTimersMoveTheSelection : Obligations.ProtectionTimersMoveTheSelection := by
  intro s
  refine ⟨fun i g hg => ⟨?_, ?_, ?_, ?_, protFailTimeout_fails hg, ?_⟩, fun id x e u hx he hu hlo hfs => ⟨?_, ?_⟩⟩
  · exact fun _ hkind hsf hripe hprotect hlo hfs hsel => holdOffExpiry_onePlusOne hg hkind hsf hripe hprotect hlo hfs hsel
  · exact fun _ _ hkind hpos hn hsf hripe hlower hlo hfs hok hsel hbridged hfar =>
      holdOffExpiry_oneToN hg hkind hpos hn hsf hripe hlower hlo hfs hok hsel hbridged hfar
  · exact fun _ hkind hwtr he hclear hsel hlo hfs hms hdnr => wtrExpiry_onePlusOne hg hkind hwtr he hclear hsel hlo hfs hms hdnr
  · exact fun _ _ hwtr hearly => State.stepDue_group_early hg (exec_wtrExpiry ..)
      ((ProtUnit.wtrDue_some hwtr _).trans (decide_eq_false (Nat.not_le.2 hearly)))
  · exact fun hearly => State.stepDue_group_early hg (exec_protFailTimeout ..) (decide_eq_false (Nat.not_le.2 hearly))
  · exact fun _ hsf hripe hprotect hsel => holdOffExpiry_pair hx he hu hlo hfs hsf hripe hprotect hsel
  · exact fun _ hwtr hv hclear hsel hms hdnr => wtrExpiry_pair hx he hu hlo hfs hwtr hv hclear hsel hms hdnr

end Sys2Proof.Machine

/-! SUPPORT. The commands that declare, modify and delete protection groups (R153, R154, R357), and the settings of pairs (R155, R359). -/
namespace Sys2Proof.Machine

theorem cmdGroupDeclare_actsLater : cmdGroupDeclare.ActsLater := ⟨rfl, rfl, rfl, rfl⟩
theorem cmdGroupModify_actsLater : cmdGroupModify.ActsLater := ⟨rfl, rfl, rfl, rfl⟩
theorem cmdGroupDelete_actsLater : cmdGroupDelete.ActsLater := ⟨rfl, rfl, rfl, rfl⟩
theorem cmdPairSettings_actsLater : cmdPairSettings.ActsLater := ⟨rfl, rfl, rfl, rfl⟩

/-! What each does at the next tick (R337). -/

section CarryOut
variable (r : Request) (v : State)

theorem carryOut_groupDeclare : (v.carryOut ⟨0x0401, r, []⟩).prot
    = { v.prot with groups := v.prot.groups.set (groupField r) (some (declaredGroup r)) } := rfl

/-- The settings that a GROUP_MODIFY gives (R153, R357). -/
def modifiedSettings (r : Request) : ProtSettings :=
  { revertive := r.u 1 1 = 1, holdOff := r.u 2 2, wtr := r.u 4 1, sdCrit := r.u 5 1 = 1, threshold := r.u 6 2 }

/-- The group with the settings that a GROUP_MODIFY gives. -/
def ProtGroup.modified (r : Request) (x : ProtGroup) : ProtGroup := { x with settings := modifiedSettings r }

theorem carryOut_groupModify : (v.carryOut ⟨0x0402, r, []⟩).prot
    = { v.prot with groups := v.prot.groups.set (groupField r) (v.prot.groups[groupField r].map (ProtGroup.modified r)) } := rfl

theorem carryOut_groupDelete : (v.carryOut ⟨0x0403, r, []⟩).prot = { v.prot with groups := v.prot.groups.set (groupField r) none } := rfl

/-- The settings that a PAIR_SETTINGS gives (R155, R359). -/
def givenPairSettings (r : Request) : ProtSettings :=
  { revertive := r.u 5 1 = 1, holdOff := r.u 6 2, wtr := r.u 8 1, sdCrit := r.u 9 1 = 1, threshold := 256 }

theorem carryOut_pairSettings : (v.carryOut ⟨0x0405, r, []⟩).prot.pairSettings
    = if r.u 4 1 = 1 then v.prot.pairSettings.filter (fun x => x.1 != BitVec.ofNat 32 (r.u 0 4))
      else (BitVec.ofNat 32 (r.u 0 4), givenPairSettings r) :: v.prot.pairSettings.filter (fun x => x.1 != BitVec.ofNat 32 (r.u 0 4)) := rfl

end CarryOut

section Groups
variable {s : State} {r : Request} {g : Fin 256}

theorem groupField_eq (hg : r.u 0 1 = g.val) : groupField r = g := by
  rw [groupField, hg, Fin.ofNat_val_eq_self]

/-- A declaration in range names a port as its protect port (R357). -/
theorem groupDeclare_protect (hr : cmdGroupDeclare.range r = none) : (declaredGroup r).protect.val = r.u 12 2 := by
  obtain ⟨hfields, -⟩ := (Option.orElse_eq_none _ _).1 hr
  have hport : r.badPort 12 = false := firstBad_eq_none.1 hfields (r.badPort 12, 12) (by simp)
  exact Nat.mod_eq_of_lt (by simpa [Request.badPort] using hport)

theorem declaredGroup_working : (declaredGroup r).working.length = r.u 2 1 := by
  simp [declaredGroup, memberCount]

/-- GROUP_DECLARE (R153, R357). -/
theorem groupDeclare_answers (h : s.Admits cmdGroupDeclare r) (hr : cmdGroupDeclare.range r = none) (hg : r.u 0 1 = g.val) {v : State}
    (hv : v = s.judged r) :
    (v.prot.groups[g] = none → v.groupConflict (declaredGroup r) = false → ∃ t, exec (.groupDeclare r) s = .next t
      ∧ s.Answers t r .ok [] (some 0x0401)
      ∧ (v.carryOut ⟨0x0401, r, []⟩).prot = { v.prot with groups := v.prot.groups.set g (some (declaredGroup r)) }
      ∧ (declaredGroup r).unit = .idle ∧ (declaredGroup r).protect.val = r.u 12 2 ∧ (declaredGroup r).working.length = r.u 2 1) ∧
    ((v.prot.groups[g] ≠ none ∨ v.groupConflict (declaredGroup r) = true) → ∃ t, exec (.groupDeclare r) s = .next t
      ∧ s.Refuses t r .errConflict 0 []) := by
  subst hv
  obtain rfl := groupField_eq hg
  refine ⟨fun hfree hfits => ?_, fun hconflict => ?_⟩
  · obtain ⟨t, ht, ha⟩ := exec_answersOk (i := .groupDeclare r) (res := []) cmdGroupDeclare_actsLater rfl h hr
      (by simp [cmdGroupDeclare, hfree, hfits, -Fin.getElem_fin]) rfl
    exact ⟨t, ht, ha, carryOut_groupDeclare r _, rfl, groupDeclare_protect hr, declaredGroup_working⟩
  · refine exec_refuses cmdGroupDeclare_actsLater rfl h hr (if_pos ?_) rfl
    rw [Bool.or_eq_true, Option.isSome_iff_ne_none]
    exact hconflict

/-- GROUP_MODIFY (R153, R357). -/
theorem groupModify_answers (h : s.Admits cmdGroupModify r) (hr : cmdGroupModify.range r = none) (hg : r.u 0 1 = g.val) {v : State}
    (hv : v = s.judged r) :
    (∀ x, v.prot.groups[g] = some x → ∃ t, exec (.groupModify r) s = .next t ∧ s.Answers t r .ok [] (some 0x0402)
      ∧ (v.carryOut ⟨0x0402, r, []⟩).prot
        = { v.prot with groups := v.prot.groups.set g (some (x.modified r)) }) ∧
    (v.prot.groups[g] = none → ∃ t, exec (.groupModify r) s = .next t ∧ s.Refuses t r .errState 0 []) := by
  subst hv
  obtain rfl := groupField_eq hg
  refine ⟨fun x hx => ?_, fun hnone => ?_⟩
  · obtain ⟨t, ht, ha⟩ := exec_answersOk (i := .groupModify r) (res := []) cmdGroupModify_actsLater rfl h hr
      (if_neg (by simp [hx, -Fin.getElem_fin])) rfl
    refine ⟨t, ht, ha, ?_⟩
    rw [carryOut_groupModify, hx, Option.map_some]
  · exact exec_refuses cmdGroupModify_actsLater rfl h hr (if_pos (by simp [hnone, -Fin.getElem_fin])) rfl

/-- A group is deleted when it is at rest (R154). -/
theorem cmdGroupDelete_check_some {x : ProtGroup} (hx : s.prot.groups[groupField r] = some x) (n : Nat) :
    cmdGroupDelete.check r n s = if x.atRest then .done [] else .refuse .errState 0 [] := by
  simp only [cmdGroupDelete, hx]

theorem cmdGroupDelete_check_none (hnone : s.prot.groups[groupField r] = none) (n : Nat) :
    cmdGroupDelete.check r n s = .refuse .errState 0 [] := by
  simp only [cmdGroupDelete, hnone]

/-- GROUP_DELETE (R154, R357). -/
theorem groupDelete_answers (h : s.Admits cmdGroupDelete r) (hz : r.zero 1 3 = true) (hg : r.u 0 1 = g.val) {v : State} (hv : v = s.judged r) :
    (∀ x, v.prot.groups[g] = some x → x.unit.selected = 0 → (x.oneToN = false ∨ x.unit.bridged = 0) →
      ∃ t, exec (.groupDelete r) s = .next t ∧ s.Answers t r .ok [] (some 0x0403)
        ∧ (v.carryOut ⟨0x0403, r, []⟩).prot = { v.prot with groups := v.prot.groups.set g none }) ∧
    (∀ x, v.prot.groups[g] = some x → (x.unit.selected ≠ 0 ∨ (x.oneToN = true ∧ x.unit.bridged ≠ 0)) →
      ∃ t, exec (.groupDelete r) s = .next t ∧ s.Refuses t r .errState 0 []) ∧
    (v.prot.groups[g] = none → ∃ t, exec (.groupDelete r) s = .next t ∧ s.Refuses t r .errState 0 []) := by
  subst hv
  obtain rfl := groupField_eq hg
  have hr : cmdGroupDelete.range r = none := by simp [cmdGroupDelete, firstBad, hz]
  refine ⟨fun x hx hworking hfree => ?_, fun x hx hheld => ?_, fun hnone => ?_⟩
  · have hrest : x.atRest = true := by simpa [ProtGroup.atRest, hworking] using hfree
    obtain ⟨t, ht, ha⟩ := exec_answersOk (i := .groupDelete r) (res := []) cmdGroupDelete_actsLater rfl h hr
      ((cmdGroupDelete_check_some hx 0).trans (if_pos hrest)) rfl
    exact ⟨t, ht, ha, carryOut_groupDelete r _⟩
  · have hbusy : ¬ x.atRest = true := by
      intro hrest
      simp only [ProtGroup.atRest, Bool.and_eq_true, beq_iff_eq, Bool.or_eq_true, Bool.not_eq_true'] at hrest
      obtain ⟨hworking, hfree⟩ := hrest
      rcases hheld with hsel | ⟨hkind, hbridged⟩
      · exact hsel hworking
      · rcases hfree with hkind' | hbridged'
        · exact Bool.false_ne_true (hkind'.symm.trans hkind)
        · exact hbridged hbridged'
    exact exec_refuses cmdGroupDelete_actsLater rfl h hr ((cmdGroupDelete_check_some hx 0).trans (if_neg hbusy)) rfl
  · exact exec_refuses cmdGroupDelete_actsLater rfl h hr (cmdGroupDelete_check_none hnone 0) rfl

end Groups

/-! PAIR_SETTINGS (R139, R155, R359). -/

section Pairs

theorem assocGet_filter_self {κ ν : Type} [DecidableEq κ] (k : κ) (d : ν) (xs : List (κ × ν)) :
    assocGet k d (xs.filter (fun x => x.1 != k)) = d := by
  induction xs with
  | nil => rfl
  | cons x xs ih =>
    by_cases hx : x.1 = k
    · rw [List.filter_cons_of_neg (by simp [hx]), ih]
    · rw [List.filter_cons_of_pos (by simp [hx])]
      exact (if_neg hx).trans ih

theorem assocGet_filter_other {κ ν : Type} [DecidableEq κ] {j k : κ} (hj : j ≠ k) (d : ν) (xs : List (κ × ν)) :
    assocGet j d (xs.filter (fun x => x.1 != k)) = assocGet j d xs := by
  induction xs with
  | nil => rfl
  | cons x xs ih =>
    by_cases hx : x.1 = k
    · rw [List.filter_cons_of_neg (by simp [hx]), ih]
      exact (if_neg fun hxj => hj (hxj.symm.trans hx)).symm
    · rw [List.filter_cons_of_pos (by simp [hx])]
      unfold assocGet
      rw [ih]

variable {s : State} {r : Request} {pid : BitVec 32}

theorem pairSettings_answers (h : s.Admits cmdPairSettings r) (hr : cmdPairSettings.range r = none) (hp : r.u 0 4 = pid.toNat) {v : State}
    (hv : v = s.judged r) :
    ∃ t, exec (.pairSettings r) s = .next t ∧ s.Answers t r .ok [] (some 0x0405)
      ∧ (r.u 4 1 = 0 → (v.carryOut ⟨0x0405, r, []⟩).pairSettingsOf pid = givenPairSettings r)
      ∧ (r.u 4 1 = 1 → (v.carryOut ⟨0x0405, r, []⟩).pairSettingsOf pid = .defaults)
      ∧ ∀ j, j ≠ pid → (v.carryOut ⟨0x0405, r, []⟩).pairSettingsOf j = v.pairSettingsOf j := by
  subst hv
  obtain ⟨t, ht, ha⟩ := exec_answersOk (i := .pairSettings r) (res := []) cmdPairSettings_actsLater rfl h hr rfl rfl
  have hname : BitVec.ofNat 32 (r.u 0 4) = pid := by rw [hp, BitVec.ofNat_toNat, BitVec.setWidth_eq]
  refine ⟨t, ht, ha, fun hset => ?_, fun hdelete => ?_, fun j hj => ?_⟩
  · rw [State.pairSettingsOf, carryOut_pairSettings, if_neg (by simp [hset]), hname]
    exact if_pos rfl
  · rw [State.pairSettingsOf, carryOut_pairSettings, if_pos hdelete, hname]
    exact assocGet_filter_self _ _ _
  · rw [State.pairSettingsOf, carryOut_pairSettings, hname]
    split
    · exact assocGet_filter_other hj _ _
    · exact (if_neg hj.symm).trans (assocGet_filter_other hj _ _)

end Pairs
end Sys2Proof.Machine

/-! SUPPORT. PROT_COMMAND and PROT_STATUS (R158, R160, R358, R360), and the statement about the PROT commands. -/
namespace Sys2Proof.Machine

theorem cmdProtCommand_actsLater : cmdProtCommand.ActsLater := ⟨rfl, rfl, rfl, rfl⟩
theorem cmdProtStatus_actsAtOnce : cmdProtStatus.ActsAtOnce := ⟨rfl, rfl⟩

/-! The unit of a target, and what a command makes of it. -/

section Held
variable {v : State} {x : ProtTarget} {u : ProtUnit}

/-- A change to the unit of a target that is held is what the target then holds. -/
theorem State.heldUnit_setUnit (hu : v.heldUnit x = some u) (f : ProtUnit → ProtUnit) : (v.setUnit x f).heldUnit x = some (f u) := by
  cases x with
  | group g =>
    simp only [State.heldUnit, Option.map_eq_some_iff] at hu
    obtain ⟨y, hy, rfl⟩ := hu
    have hset : (v.setUnit (.group g) f).prot.groups[g] = v.prot.groups[g].map fun y => { y with unit := f y.unit } :=
      Vector.getElem_set_self g.isLt
    rw [State.heldUnit, hset, hy]
    rfl
  | pair id =>
    by_cases hheld : v.map.active.pairs.any (fun e => e.id == id) = true
    · obtain rfl := Option.some.inj ((if_pos hheld).symm.trans hu)
      exact (if_pos hheld).trans (congrArg some (assocGet_assocSet_self _ _ _))
    · cases (if_neg hheld).symm.trans hu

theorem carryOut_protCommand (r : Request) (hx : x = protTarget r (decide (r.u 0 1 = 1))) (hu : v.heldUnit x = some u) :
    (v.carryOut ⟨0x0404, r, []⟩).heldUnit x
      = some (u.command (r.u 1 1) (Fin.ofNat 16 (r.u 2 1)) (v.targetReverts x)) := by
  subst hx
  have hlater : v.carryOut ⟨0x0404, r, []⟩ = v.setUnit (protTarget r (decide (r.u 0 1 = 1)))
      (ProtUnit.command (r.u 1 1) (Fin.ofNat 16 (r.u 2 1)) (v.targetReverts (protTarget r (decide (r.u 0 1 = 1))))) :=
    if_pos (by rw [hu]; rfl)
  rw [hlater]
  exact State.heldUnit_setUnit hu _

end Held

/-! The answer of a PROT_COMMAND in range (R160, R358). -/

/-- The far end's request that a command on a target heeds: that of a 1:N group without a protocol failure (R169, R171). -/
def State.heededFar (v : State) (x : ProtTarget) (u : ProtUnit) : Option (ProtRequest × Fin 16) :=
  if u.protFail || !v.targetOneToN x then none else farRequest (u.far.getD 0)

/-- FS is refused under LO of either end (R160). -/
def State.refusesForced (v : State) (x : ProtTarget) (u : ProtUnit) : Bool := u.lo || (v.heededFar x u).any fun q => q.1 == .lo

/-- MS is refused under a request of priority 1 to 6 of either end (R160). -/
def State.refusesManual (v : State) (x : ProtTarget) (u : ProtUnit) : Bool :=
  (u.decide (v.targetMembers x) v.clock.tick).1.strong || (v.heededFar x u).any fun q => q.1.strong

section Reply
variable {v : State} {r : Request} {x : ProtTarget} {c : Nat} {m : Fin 16} {u : ProtUnit}

/-- A PROT_COMMAND names the target, its command `c` and the member, each in range (R358): FS and MS name a member, LO and the command
that clears name none. -/
structure State.NamesCommand (v : State) (r : Request) (x : ProtTarget) (c : Nat) (m : Fin 16) : Prop where
  target  : x = protTarget r (decide (r.u 0 1 = 1))
  range   : r.u 0 1 = 0 ∧ r.u 4 4 ≤ 255 ∨ r.u 0 1 = 1
  zero    : r.zero 3 1 = true
  command : r.u 1 1 = c
  member  : r.u 2 1 = m.val
  kind    : (c = 1 ∨ c = 4) ∧ m = 0 ∨ (c = 2 ∨ c = 3) ∧ 1 ≤ m.val ∧ m.val ≤ v.targetMembers x

theorem State.NamesCommand.inRange (h : v.NamesCommand r x c m) :
    firstBad [(1 < r.u 0 1, 0), (r.u 1 1 = 0 || 4 < r.u 1 1, 1),
      (if r.u 1 1 = 2 ∨ r.u 1 1 = 3 then r.u 2 1 = 0 || v.targetMembers x < r.u 2 1 else r.u 2 1 != 0, 2), (!r.zero 3 1, 3),
      (r.u 0 1 = 0 && 255 < r.u 4 4, 4)] = none := by
  obtain ⟨-, hrange, hzero, hcommand, hmember, hkind⟩ := h
  have hkinds : r.u 0 1 ≤ 1 := by omega
  have hgroup : r.u 0 1 = 0 → r.u 4 4 ≤ 255 := by omega
  rw [hcommand, hmember]
  rcases hkind with ⟨rfl | rfl, rfl⟩ | ⟨rfl | rfl, hpos, hlast⟩
  · simpa [firstBad_eq_none, hzero, hkinds] using hgroup
  · simpa [firstBad_eq_none, hzero, hkinds] using hgroup
  · simp [firstBad_eq_none, hzero, hkinds, hlast]
    omega
  · simp [firstBad_eq_none, hzero, hkinds, hlast]
    omega

/-- A target that is not held refuses it. -/
theorem State.NamesCommand.check_none (h : v.NamesCommand r x c m) (hnone : v.heldUnit x = none) :
    cmdProtCommand.check r 0 v = .refuse .errState 0 [] := by
  have hrange := h.inRange
  have htarget := h.target
  subst htarget
  simp only [cmdProtCommand, hrange, hnone]

/-- A target that is held takes it, but for FS and MS under a request that stands above them. -/
theorem State.NamesCommand.check_some (h : v.NamesCommand r x c m) (hu : v.heldUnit x = some u) :
    cmdProtCommand.check r 0 v = if (c == 2 && v.refusesForced x u || c == 3 && v.refusesManual x u) = true then .refuse .errState 0 []
      else .done v.nextFrame := by
  have hrange := h.inRange
  have htarget := h.target
  have hcommand := h.command
  subst htarget hcommand
  rcases hfar : v.heededFar (protTarget r (decide (r.u 0 1 = 1))) u with _ | ⟨q, k⟩
  · simp only [State.refusesForced, State.refusesManual, hfar]
    unfold State.heededFar at hfar
    simp only [cmdProtCommand, hrange, hu, hfar]
    rfl
  · simp only [State.refusesForced, State.refusesManual, hfar]
    unfold State.heededFar at hfar
    simp only [cmdProtCommand, hrange, hu, hfar]
    cases q
    all_goals rfl

theorem State.heededFar_eq_some {q : ProtRequest × Fin 16} : v.heededFar x u = some q
    ↔ v.targetOneToN x = true ∧ u.protFail = false ∧ farRequest (u.far.getD 0) = some q := by
  cases hkind : v.targetOneToN x
  case false => simp [State.heededFar, hkind]
  case true =>
    cases hfail : u.protFail
    · simp [State.heededFar, hkind, hfail]
    · simp [State.heededFar, hfail]

theorem State.refusesForced_eq_false (hlo : u.lo = false)
    (hfar : v.targetOneToN x = true → u.protFail = false → ∀ q, farRequest (u.far.getD 0) = some q → q.1 ≠ .lo) :
    v.refusesForced x u = false := by
  rw [State.refusesForced, hlo, Bool.false_or, Option.any_eq_false]
  intro q hq
  obtain ⟨hkind, hok, hreq⟩ := State.heededFar_eq_some.1 hq
  simpa using hfar hkind hok q hreq

theorem State.refusesManual_eq_false (hown : (u.decide (v.targetMembers x) v.clock.tick).1.strong = false)
    (hfar : v.targetOneToN x = true → u.protFail = false → ∀ q, farRequest (u.far.getD 0) = some q → q.1.strong = false) :
    v.refusesManual x u = false := by
  rw [State.refusesManual, hown, Bool.false_or, Option.any_eq_false]
  intro q hq
  obtain ⟨hkind, hok, hreq⟩ := State.heededFar_eq_some.1 hq
  simpa using hfar hkind hok q hreq

theorem State.refusesManual_of_far (hkind : v.targetOneToN x = true) (hok : u.protFail = false) {q : ProtRequest × Fin 16}
    (hreq : farRequest (u.far.getD 0) = some q) (hstrong : q.1.strong = true) : v.refusesManual x u = true := by
  rw [State.refusesManual, State.heededFar_eq_some.2 ⟨hkind, hok, hreq⟩, Option.any_some, hstrong, Bool.or_true]

end Reply

/-! The command (R160, R358). -/

section Command
variable {s v : State} {r : Request} {x : ProtTarget} {c : Nat} {m : Fin 16} {u : ProtUnit} (h : s.Admits cmdProtCommand r) (hv : v = s.judged r)
  (hn : v.NamesCommand r x c m)
include h hv hn

/-- A command that is not refused is answered with the next frame, and changes the unit of its target (R337, R358). -/
theorem protCommand_takes (hu : v.heldUnit x = some u) (hforced : c = 2 → v.refusesForced x u = false)
    (hmanual : c = 3 → v.refusesManual x u = false) : ∃ t, exec (.protCommand r) s = .next t
      ∧ s.Answers t r .ok (leBytes 8 (v.clock.frame + 1).toNat) (some 0x0404)
      ∧ (v.carryOut ⟨0x0404, r, []⟩).heldUnit x = some (u.command c m (v.targetReverts x)) := by
  have htakes : ¬ (c == 2 && v.refusesForced x u || c == 3 && v.refusesManual x u) = true := by
    simp only [Bool.or_eq_true, Bool.and_eq_true, beq_iff_eq]
    rintro (⟨hc, hrefused⟩ | ⟨hc, hrefused⟩)
    · exact Bool.false_ne_true ((hforced hc).symm.trans hrefused)
    · exact Bool.false_ne_true ((hmanual hc).symm.trans hrefused)
  have hlater := carryOut_protCommand r hn.target hu
  rw [hn.command, hn.member, Fin.ofNat_val_eq_self] at hlater
  subst hv
  obtain ⟨t, ht, ha⟩ := exec_answersOk (i := .protCommand r) cmdProtCommand_actsLater rfl h rfl
    ((hn.check_some hu).trans (if_neg htakes)) (padTo_leBytes _ _)
  exact ⟨t, ht, ha, hlater⟩

/-- FS and MS are refused under a request that stands above them. -/
theorem protCommand_refused (hu : v.heldUnit x = some u)
    (hrefused : c = 2 ∧ v.refusesForced x u = true ∨ c = 3 ∧ v.refusesManual x u = true) :
    ∃ t, exec (.protCommand r) s = .next t ∧ s.Refuses t r .errState 0 (zeros 8) := by
  subst hv
  exact exec_refuses cmdProtCommand_actsLater rfl h rfl ((hn.check_some hu).trans (if_pos (by simpa using hrefused))) rfl

/-- A target that is not held refuses every command. -/
theorem protCommand_notHeld (hnone : v.heldUnit x = none) :
    ∃ t, exec (.protCommand r) s = .next t ∧ s.Refuses t r .errState 0 (zeros 8) := by
  subst hv
  exact exec_refuses cmdProtCommand_actsLater rfl h rfl (hn.check_none hnone) rfl

end Command

section Answers
variable {s v : State} {r : Request} {x : ProtTarget}

/-- PROT_COMMAND (R160, R358). -/
theorem protCommand_answers {m : Fin 16} (h : s.Admits cmdProtCommand r) (htarget : r.u 0 1 = 0 ∧ r.u 4 4 ≤ 255 ∨ r.u 0 1 = 1)
    (hz : r.zero 3 1 = true) (hx : x = protTarget r (decide (r.u 0 1 = 1))) (hm : r.u 2 1 = m.val) (hv : v = s.judged r) :
    (∀ u, v.heldUnit x = some u →
      (r.u 1 1 = 1 → m = 0 → ∃ t, exec (.protCommand r) s = .next t ∧ s.Answers t r .ok (leBytes 8 (v.clock.frame + 1).toNat) (some 0x0404)
        ∧ (v.carryOut ⟨0x0404, r, []⟩).heldUnit x = some { u with lo := true }) ∧
      (r.u 1 1 = 2 → 1 ≤ m.val → m.val ≤ v.targetMembers x → u.lo = false →
        (v.targetOneToN x = true → u.protFail = false → ∀ q, farRequest (u.far.getD 0) = some q → q.1 ≠ .lo) →
        ∃ t, exec (.protCommand r) s = .next t
        ∧ s.Answers t r .ok (leBytes 8 (v.clock.frame + 1).toNat) (some 0x0404)
        ∧ (v.carryOut ⟨0x0404, r, []⟩).heldUnit x = some { u with fs := some m, ms := none }) ∧
      (r.u 1 1 = 3 → 1 ≤ m.val → m.val ≤ v.targetMembers x → (u.decide (v.targetMembers x) v.clock.tick).1.strong = false →
        (v.targetOneToN x = true → u.protFail = false → ∀ q, farRequest (u.far.getD 0) = some q → q.1.strong = false) →
        ∃ t, exec (.protCommand r) s = .next t ∧ s.Answers t r .ok (leBytes 8 (v.clock.frame + 1).toNat) (some 0x0404)
          ∧ (v.carryOut ⟨0x0404, r, []⟩).heldUnit x = some { u with ms := some m }) ∧
      (r.u 1 1 = 4 → m = 0 → ∃ t u', exec (.protCommand r) s = .next t
        ∧ s.Answers t r .ok (leBytes 8 (v.clock.frame + 1).toNat) (some 0x0404)
        ∧ (v.carryOut ⟨0x0404, r, []⟩).heldUnit x = some u' ∧ u'.lo = false ∧ u'.fs = none ∧ u'.ms = none ∧ u'.selected = u.selected
        ∧ (u.fs = none → u.ms = none → u'.wtr = u.wtr ∧ u'.dnr = u.dnr)) ∧
      (1 ≤ m.val → m.val ≤ v.targetMembers x → (r.u 1 1 = 2 ∧ u.lo = true
          ∨ r.u 1 1 = 3 ∧ ((u.decide (v.targetMembers x) v.clock.tick).1.strong = true
            ∨ v.targetOneToN x = true ∧ u.protFail = false ∧ ∃ q, farRequest (u.far.getD 0) = some q ∧ q.1.strong = true)) →
        ∃ t, exec (.protCommand r) s = .next t ∧ s.Refuses t r .errState 0 (zeros 8))) ∧
    (v.heldUnit x = none → r.u 1 1 = 1 → m = 0 → ∃ t, exec (.protCommand r) s = .next t ∧ s.Refuses t r .errState 0 (zeros 8)) := by
  have hnames {c : Nat} (hc : r.u 1 1 = c)
      (hkind : (c = 1 ∨ c = 4) ∧ m = 0 ∨ (c = 2 ∨ c = 3) ∧ 1 ≤ m.val ∧ m.val ≤ v.targetMembers x) : v.NamesCommand r x c m :=
    ⟨hx, htarget, hz, hc, hm, hkind⟩
  refine ⟨fun u hu => ⟨fun hc hm0 => ?_, fun hc hpos hlast hlo hfar => ?_, fun hc hpos hlast hown hfar => ?_, fun hc hm0 => ?_,
    fun hpos hlast hrefused => ?_⟩, fun hnone hc hm0 => protCommand_notHeld h hv (hnames hc (.inl ⟨.inl rfl, hm0⟩)) hnone⟩
  · exact protCommand_takes h hv (hnames hc (.inl ⟨.inl rfl, hm0⟩)) hu (by simp) (by simp)
  · exact protCommand_takes h hv (hnames hc (.inr ⟨.inl rfl, hpos, hlast⟩)) hu (fun _ => State.refusesForced_eq_false hlo hfar) (by simp)
  · exact protCommand_takes h hv (hnames hc (.inr ⟨.inr rfl, hpos, hlast⟩)) hu (by simp) (fun _ => State.refusesManual_eq_false hown hfar)
  · obtain ⟨t, ht, ha, hlater⟩ := protCommand_takes h hv (hnames hc (.inl ⟨.inr rfl, hm0⟩)) hu (by simp) (by simp)
    refine ⟨t, _, ht, ha, hlater, rfl, rfl, rfl, rfl, fun hfs hms => ?_⟩
    simp [ProtUnit.command, hfs, hms]
  · rcases hrefused with ⟨hc, hlo⟩ | ⟨hc, hown | ⟨hkind, hok, q, hreq, hstrong⟩⟩
    · exact protCommand_refused h hv (hnames hc (.inr ⟨.inl rfl, hpos, hlast⟩)) hu
        (.inl ⟨rfl, by rw [State.refusesForced, hlo, Bool.true_or]⟩)
    · exact protCommand_refused h hv (hnames hc (.inr ⟨.inr rfl, hpos, hlast⟩)) hu
        (.inr ⟨rfl, by rw [State.refusesManual, hown, Bool.true_or]⟩)
    · exact protCommand_refused h hv (hnames hc (.inr ⟨.inr rfl, hpos, hlast⟩)) hu
        (.inr ⟨rfl, State.refusesManual_of_far hkind hok hreq hstrong⟩)

/-- PROT_STATUS (R360). -/
theorem protStatus_answers (h : s.Admits cmdProtStatus r) (htarget : r.u 0 1 = 0 ∧ r.u 4 4 ≤ 255 ∨ r.u 0 1 = 1) (hz : r.zero 1 3 = true)
    (hx : x = protTarget r (decide (r.u 0 1 = 1))) (hv : v = s.judged r) :
    (∀ u, v.heldUnit x = some u → ∃ t, exec (.protStatus r) s = .next t
      ∧ s.Answers t r .ok (padTo 40 (u.status (decide (r.u 0 1 = 1)) v.clock.tick)) none) ∧
    (v.heldUnit x = none → ∃ t, exec (.protStatus r) s = .next t ∧ s.Refuses t r .errState 0 (zeros 40)) := by
  subst hv hx
  have hr : cmdProtStatus.range r = none := by
    have hkinds : r.u 0 1 ≤ 1 := by omega
    have hgroup : r.u 0 1 = 0 → r.u 4 4 ≤ 255 := by omega
    simpa [cmdProtStatus, firstBad_eq_none, hz, hkinds] using hgroup
  refine ⟨fun u hu => ?_, fun hnone => ?_⟩
  · exact exec_reports cmdProtStatus_actsAtOnce rfl h rfl hr rfl (by simp only [cmdProtStatus, hu]) rfl
  · exact exec_refused rfl h rfl hr rfl (by simp only [cmdProtStatus, hnone]) rfl

end Answers

/-- Settles O43: each command's checks decide its answer, and its effect on the group, the unit or the pair waits for the next tick. -/
theorem protectionCommandsAnswerAndTakeEffect : Obligations.ProtectionCommandsAnswerAndTakeEffect := by
  intro s v r hv
  exact ⟨fun _ h hr hg => groupDeclare_answers h hr hg hv, fun _ h hr hg => groupModify_answers h hr hg hv,
    fun _ h hz hg => groupDelete_answers h hz hg hv, fun _ _ h htarget hz hx hm => protCommand_answers h htarget hz hx hm hv,
    fun _ h hr hp => pairSettings_answers h hr hp hv, fun _ h htarget hz hx => protStatus_answers h htarget hz hx hv⟩

end Sys2Proof.Machine

/-! SUPPORT. The bytes of records (R2, R200 to R203): the fields of a record's header, and the lengths of its entries. -/
namespace Sys2Proof.Machine

/-! Fields of a string of little-endian numbers (R2). -/

theorem leNat_leBytes (n v : Nat) : leNat (leBytes n v) = v % 256 ^ n := by
  induction n generalizing v with
  | zero => simp [leBytes, leNat, Nat.mod_one]
  | succ n ih => rw [Nat.pow_succ', Nat.mod_mul, leBytes, leNat, ih, BitVec.toNat_ofNat]

theorem field_leBytes (n v : Nat) (bs : List Byte) : field (leBytes n v ++ bs) 0 n = v % 256 ^ n := by
  rw [field, List.drop_zero, List.take_left' (leBytes_length n v), leNat_leBytes]

theorem field_after_leBytes {k off : Nat} (h : k ≤ off) (v n : Nat) (bs : List Byte) :
    field (leBytes k v ++ bs) off n = field bs (off - k) n := by
  rw [field, List.drop_append, List.drop_eq_nil_of_le ((leBytes_length k v).trans_le h), leBytes_length]
  rfl

@[simp] theorem zeros_length (n : Nat) : (zeros n).length = n := List.length_replicate ..

/-! The header of a record (R200). -/

/-- The bytes of a record that carries the numbers of R200. -/
structure RecordFields (bs : List Byte) (type engine recipe count sequence lost : Nat) (first last : BitVec 64) : Prop where
  type     : field bs 0 1 = type
  engine   : field bs 2 2 = engine
  recipe   : field bs 4 1 = recipe
  count    : field bs 6 2 = count
  sequence : field bs 8 4 = sequence
  lost     : field bs 12 4 = lost
  first    : field bs 16 8 = first.toNat
  last     : field bs 24 8 = last.toNat

section Header
variable (type flags engine recipe level count sequence lost : Nat) (first last : BitVec 64) (absent gen : Nat) (body : List Byte)

@[simp] theorem recordHeader_length :
    (recordHeader type flags engine recipe level count sequence lost first last absent gen).length = 48 := by
  simp [recordHeader]

variable {type engine recipe count sequence lost}

/-- Numbers that fit their fields are read back from the header. -/
theorem recordHeader_fields (htype : type < 256) (hengine : engine < 65536) (hrecipe : recipe < 256) (hcount : count < 65536)
    (hsequence : sequence < 4294967296) (hlost : lost < 4294967296) :
    RecordFields (recordHeader type flags engine recipe level count sequence lost first last absent gen ++ body)
      type engine recipe count sequence lost first last := by
  have hfirst := first.isLt
  have hlast := last.isLt
  constructor <;> simp [recordHeader, field_leBytes, field_after_leBytes] <;> omega

end Header

/-! The entries (R201 to R203). -/

@[simp] theorem momentsEntry_length (x : IntervalSums) : (momentsEntry x).length = 32 := by
  simp [momentsEntry]

@[simp] theorem derivedEntry_length (r : Recipe) (f : Fin 7) (x : IntervalSums) : (derivedEntry r f x).length = 16 := by
  simp [derivedEntry]

@[simp] theorem tinderEntry_length (f : Fin 7) (m : Moments) : (tinderEntry f m).length = 12 := by
  simp only [tinderEntry]
  split <;> simp

/-- An engine covers half of its port's slots (R176). -/
theorem engineSlots_length (e : Fin 1024) : (engineSlots e).length = 128 := by
  have hhalf : e.val % 2 = 0 ∨ e.val % 2 = 1 := by omega
  unfold engineSlots
  rcases hhalf with h | h <;> rw [h] <;> decide +kernel

end Sys2Proof.Machine

/-! SUPPORT. One Ember engine (R180, R190, R192, R193, R200, R204, R207): what a spark, a closed dwell and a written record make of it,
and that they leave the other engines. -/
namespace Sys2Proof.Machine

section Engine
variable {s : State} {e j : Fin 1024}

theorem State.setEngine_self (e : Fin 1024) (f : Engine → Engine) (s : State) :
    (s.setEngine e f).ember.engines[e] = f s.ember.engines[e] :=
  Vector.getElem_set_self ..

theorem State.setEngine_other (h : j ≠ e) (f : Engine → Engine) (s : State) :
    (s.setEngine e f).ember.engines[j] = s.ember.engines[j] :=
  Vector.getElem_set_ne e.isLt j.isLt fun he => h (Fin.ext he.symm)

theorem State.setEngine_congr {f g : Engine → Engine} (h : f s.ember.engines[e] = g s.ember.engines[e]) :
    s.setEngine e f = s.setEngine e g := by
  unfold State.setEngine State.setEmber
  simp only [h]

theorem State.setEngine_setEngine (e : Fin 1024) (f g : Engine → Engine) (s : State) :
    (s.setEngine e f).setEngine e g = s.setEngine e (fun x => g (f x)) := by
  unfold State.setEngine State.setEmber
  simp

end Engine

/-! Sparks and dwells (R180, R190, R192, R193). -/

section Sparks
variable {s u : State} {e : Fin 1024}

theorem fifoPush_nil (pop : Bool) (x : Spark) : fifoPush pop x [] = ([x], none, true) := rfl

theorem fifoPush_pop (x y : Spark) (ys : List Spark) : fifoPush true x (y :: ys) = (ys ++ [x], some y, true) := rfl

theorem fifoPush_room {ys : List Spark} (h : ys.length < 16) (x : Spark) : fifoPush false x ys = (ys ++ [x], none, true) := by
  cases ys
  case nil => rfl
  case cons y ys => exact if_pos h

theorem fifoPush_full {ys : List Spark} (h : 16 ≤ ys.length) (x : Spark) : fifoPush false x ys = (ys, none, false) := by
  cases ys
  case nil => cases h
  case cons y ys => exact if_neg h.not_gt

/-- An engine whose FIFO has been given a spark, with a pop by the collector or without one (R190, R192, R207). -/
def Engine.pushed (pop : Bool) (x : Spark) (g : Engine) : Engine :=
  let o := fifoPush pop x g.fifo
  { g with fifo := o.1, collected := g.collected ++ o.2.1.toList
           sparks := if o.2.2 then g.sparks + 1 else g.sparks
           refused := if o.2.2 then g.refused else g.refused + 1 }

theorem Engine.pushed_stored {pop : Bool} {x : Spark} {g : Engine} {ys : List Spark} {popped : Option Spark}
    (h : fifoPush pop x g.fifo = (ys, popped, true)) : (g.pushed pop x).fifo = ys
      ∧ (g.pushed pop x).collected = g.collected ++ popped.toList ∧ (g.pushed pop x).sparks = g.sparks + 1
      ∧ (g.pushed pop x).refused = g.refused := by
  simp [Engine.pushed, h]

theorem Engine.pushed_refused {pop : Bool} {x : Spark} {g : Engine} {ys : List Spark} {popped : Option Spark}
    (h : fifoPush pop x g.fifo = (ys, popped, false)) :
    (g.pushed pop x).fifo = ys ∧ (g.pushed pop x).refused = g.refused + 1 := by
  simp [Engine.pushed, h]

/-- The collector of an engine's cluster is on (R193). -/
def State.collects (e : Fin 1024) (s : State) : Bool := s.pwr.modes[clusterDomain (engineCluster e)] == .on

theorem State.collects_on (h : s.pwr.modes[clusterDomain (engineCluster e)] = .on) : s.collects e = true := beq_iff_eq.2 h

theorem State.collects_off (h : s.pwr.modes[clusterDomain (engineCluster e)] ≠ .on) : s.collects e = false := beq_eq_false_iff_ne.2 h

/-- A spark changes its engine, and one that finds the FIFO full raises an event (R192). -/
theorem State.pushSpark_eq (e : Fin 1024) (x : Spark) (s : State) :
    s.pushSpark e x = (s.setEngine e (Engine.pushed (s.collects e) x)).raiseIf
      (!(fifoPush (s.collects e) x s.ember.engines[e].fifo).2.2) (128 + e.val / 128) 4 .occurrence (e.val / 128) e.val 0 := by
  simp only [State.pushSpark, State.setEngine_setEngine]
  split
  case isTrue hstored =>
    rw [State.collects, hstored]
    exact State.setEngine_congr (by simp only [Engine.pushed, hstored, if_true])
  case isFalse hstored =>
    rw [State.collects, Bool.eq_false_of_not_eq_true hstored]
    exact congrArg (State.raise _ _ _ _ _ _) (State.setEngine_congr (by simp [Engine.pushed, hstored, -Fin.getElem_fin]))

theorem State.pushSpark_ember (e : Fin 1024) (x : Spark) (s : State) :
    (s.pushSpark e x).ember = (s.setEngine e (Engine.pushed (s.collects e) x)).ember := by
  rw [State.pushSpark_eq, State.raiseIf_ember]

theorem State.pushSpark_same (x : Spark) {q : Part} (hember : q ≠ .ember) (h : Part.Same s u q) : Part.Same s (u.pushSpark e x) q := by
  rw [State.pushSpark_eq]
  exact State.raiseIf_same _ _ _ _ _ _ _ (State.setEngine_same e _ hember h)

/-- An engine whose one unit has had a dwell processed (R190). -/
def Engine.processed (pop : Bool) (o : UnitState × Option Spark) (g : Engine) : Engine :=
  match o.2 with
  | none => { g with units := [o.1] }
  | some x => Engine.pushed pop x { g with units := [o.1] }

theorem Engine.processed_units (pop : Bool) (o : UnitState × Option Spark) (g : Engine) : (g.processed pop o).units = [o.1] := by
  unfold Engine.processed
  split <;> rfl

theorem Engine.processed_none (pop : Bool) {o : UnitState × Option Spark} (h : o.2 = none) (g : Engine) :
    g.processed pop o = { g with units := [o.1] } := by
  rw [Engine.processed, h]

section Pushed
variable {g : Engine} {o : UnitState × Option Spark} {x : Spark} (hx : o.2 = some x)
include hx

theorem Engine.processed_some (pop : Bool) : g.processed pop o = Engine.pushed pop x { g with units := [o.1] } := by
  rw [Engine.processed, hx]

/-- An empty FIFO stores the spark. -/
theorem Engine.processed_empty (pop : Bool) (hfifo : g.fifo = []) :
    (g.processed pop o).fifo = [x] ∧ (g.processed pop o).sparks = g.sparks + 1 := by
  rw [Engine.processed_some hx]
  obtain ⟨hpushed, -, hsparks, -⟩ := Engine.pushed_stored (g := { g with units := [o.1] })
    ((congrArg (fifoPush pop x) hfifo).trans (fifoPush_nil pop x))
  exact ⟨hpushed, hsparks⟩

/-- The collector takes the oldest spark in the same cycle. -/
theorem Engine.processed_collected {y : Spark} {ys : List Spark} (hfifo : g.fifo = y :: ys) : (g.processed true o).fifo = ys ++ [x]
    ∧ (g.processed true o).collected = g.collected ++ [y] ∧ (g.processed true o).sparks = g.sparks + 1 := by
  rw [Engine.processed_some hx]
  obtain ⟨hpushed, hcollected, hsparks, -⟩ := Engine.pushed_stored (g := { g with units := [o.1] })
    ((congrArg (fifoPush true x) hfifo).trans (fifoPush_pop x y ys))
  exact ⟨hpushed, hcollected, hsparks⟩

/-- Without the collector the spark enters a FIFO with room. -/
theorem Engine.processed_room (hroom : g.fifo.length < 16) : (g.processed false o).fifo = g.fifo ++ [x]
    ∧ (g.processed false o).sparks = g.sparks + 1 ∧ (g.processed false o).refused = g.refused := by
  rw [Engine.processed_some hx]
  obtain ⟨hpushed, -, hsparks, hrefused⟩ := Engine.pushed_stored (g := { g with units := [o.1] }) (fifoPush_room hroom x)
  exact ⟨hpushed, hsparks, hrefused⟩

/-- Without the collector a full FIFO refuses it. -/
theorem Engine.processed_full (hfull : 16 ≤ g.fifo.length) :
    (g.processed false o).fifo = g.fifo ∧ (g.processed false o).refused = g.refused + 1 := by
  rw [Engine.processed_some hx]
  exact Engine.pushed_refused (g := { g with units := [o.1] }) (fifoPush_full hfull x)

end Pushed

theorem State.processDwells_none (h : s.ember.engines[e].units = []) : s.processDwells e = s := by
  have hfirst : s.ember.engines[e].firstClosed = none := by
    simp [Engine.firstClosed, h, -Fin.getElem_fin]
  simp only [State.processDwells, hfirst]

section OneUnit
variable {x : UnitState} {d : ClosedDwell} {rest : List ClosedDwell} {r : Recipe} (hunits : s.ember.engines[e].units = [x])
  (hclosed : x.closed = d :: rest) (hrecipe : s.ember.active.recipe x.recipe = some r)
  {o : UnitState × Option Spark}
  (ho : o = x.process (enginePort e) r (s.port (enginePort e)).settings.inFormats[(⟨x.unit.val / 4, by omega⟩ : Fin 256)])
include hunits hclosed hrecipe ho

/-- The one unit takes its outcome, and its spark enters the FIFO. -/
theorem State.processDwells_one :
    s.processDwells e = o.2.toList.foldl (fun s x => s.pushSpark e x) (s.setEngine e (fun g => { g with units := [o.1] })) := by
  have hfirst : s.ember.engines[e].firstClosed = some d.last := by
    simp [Engine.firstClosed, hunits, hclosed, -Fin.getElem_fin]
  subst ho
  simp only [State.processDwells, hfirst, hunits, List.map_cons, List.map_nil, hclosed, bne_self_eq_false, Bool.false_eq_true, if_false,
    hrecipe, List.filterMap_cons, List.filterMap_nil]
  cases (x.process (enginePort e) r (s.port (enginePort e)).settings.inFormats[(⟨x.unit.val / 4, by omega⟩ : Fin 256)]).2 <;> rfl

theorem State.processDwells_one_ember : (s.processDwells e).ember = (s.setEngine e (Engine.processed (s.collects e) o)).ember := by
  rw [State.processDwells_one hunits hclosed hrecipe ho]
  unfold Engine.processed
  cases o.2
  case none => rfl
  case some y =>
    rw [Option.toList_some, List.foldl_cons, List.foldl_nil, State.pushSpark_ember, State.setEngine_setEngine]
    rfl

theorem State.processDwells_one_same {q : Part} (hember : q ≠ .ember) : Part.Same s (s.processDwells e) q := by
  rw [State.processDwells_one hunits hclosed hrecipe ho]
  exact foldl_same (fun _ y hu => State.pushSpark_same y hember hu) _ (State.setEngine_same e _ hember (Part.Same.refl s q))

end OneUnit

/-- DWELL_END of an engine with one unit (R180, R187, R190, R192, R193). -/
theorem dwellEnd_one {x : UnitState} {d : ClosedDwell} {rest : List ClosedDwell} {r : Recipe} (hunits : s.ember.engines[e].units = [x])
    (hclosed : x.closed = d :: rest) (hrecipe : s.ember.active.recipe x.recipe = some r) (f : Fin 7)
    (hf : f = (s.port (enginePort e)).settings.inFormats[(⟨x.unit.val / 4, by omega⟩ : Fin 256)]) :
    ∃ t, exec (.dwellEnd e) s = .next t ∧ s.ChangesOnly t [.ember]
      ∧ t.ember.engines[e] = s.ember.engines[e].processed (s.collects e) (x.process (enginePort e) r f)
      ∧ ∀ j : Fin 1024, j ≠ e → t.ember.engines[j] = s.ember.engines[j] := by
  subst hf
  have hember := State.processDwells_one_ember hunits hclosed hrecipe rfl
  refine ⟨_, rfl, State.settled_changesOne fun q hq => State.processDwells_one_same hunits hclosed hrecipe rfl hq, ?_, fun j hj => ?_⟩
  · rw [State.settled_ember, hember, State.setEngine_self]
  · rw [State.settled_ember, hember, State.setEngine_other hj]

end Sparks
end Sys2Proof.Machine

/-! SUPPORT. Records of the Ember engines (R200, R203, R204): a record that is staged while nothing waits, and the rows that write one. -/
namespace Sys2Proof.Machine

section Staging
variable {s u : State} {e : Fin 1024}

/-- Where no buffer is posted, no record passes. -/
theorem State.deliverRecords_unposted (n : Nat) (h : u.ember.buffers = []) : u.deliverRecords n = u := by
  cases n
  case zero => rfl
  case succ n =>
    unfold State.deliverRecords
    split
    case h_1 hb => exact absurd (h.symm.trans hb) (List.cons_ne_nil _ _).symm
    case h_2 => rfl

/-- An engine that has written a record (R200, R207). -/
def Engine.wrote (g : Engine) : Engine := { g with sequence := g.sequence + 1, lost := 0, written := g.written + 1 }

/-- A record that is staged alone. -/
def State.stagedAlone (e : Fin 1024) (bs : List Byte) (s : State) : State :=
  (s.setEngine e Engine.wrote).setEmber (fun x => { x with staging := [⟨e, bs⟩] })

theorem State.stagedAlone_same (bs : List Byte) {q : Part} (hember : q ≠ .ember) (h : Part.Same s u q) :
    Part.Same s (u.stagedAlone e bs) q :=
  State.setEmber_same _ hember (State.setEngine_same e _ hember h)

theorem State.stagedAlone_engine (e : Fin 1024) (bs : List Byte) (s : State) :
    (s.stagedAlone e bs).ember.engines[e] = s.ember.engines[e].wrote :=
  State.setEngine_self e Engine.wrote s

/-- A record that fits is staged with the engine's SEQUENCE and LOST, and stays where no buffer is posted (R200, R204). -/
theorem State.stageRecord_alone {make : Nat → Nat → List Byte} (hstaging : s.ember.staging = []) (hbuffers : s.ember.buffers = [])
    {bs : List Byte} (hbs : bs = make s.ember.engines[e].sequence.toNat s.ember.engines[e].lost.toNat) (hfits : bs.length ≤ 2 ^ 30) :
    s.stageRecord e make = s.stagedAlone e bs := by
  subst hbs
  unfold State.stageRecord
  rw [if_pos (by simpa [hstaging] using hfits)]
  refine (State.deliverRecords_unposted _ (by exact hbuffers)).trans ?_
  simp only [State.stagedAlone, State.setEmber, State.setEngine, hstaging, List.nil_append]
  rfl

/-- A record under a header whose numbers fit their fields is staged with them (R200, R204). -/
theorem State.stageRecord_header (hstaging : s.ember.staging = []) (hbuffers : s.ember.buffers = []) {type recipe count : Nat}
    (htype : type < 256) (hrecipe : recipe < 256) (hcount : count < 65536) (flags level : Nat) (first last : BitVec 64) (absent gen : Nat)
    {body : List Byte} {n : Nat} (hn : body.length = n) (hfits : n < 2 ^ 29) : ∃ bs : List Byte,
    s.stageRecord e (fun sequence lost => recordHeader type flags e.val recipe level count sequence lost first last absent gen ++ body)
      = s.stagedAlone e bs
    ∧ bs.length = 48 + n
    ∧ RecordFields bs type e.val recipe count s.ember.engines[e].sequence.toNat s.ember.engines[e].lost.toNat first last := by
  have hlength (sequence lost : Nat) :
      (recordHeader type flags e.val recipe level count sequence lost first last absent gen ++ body).length = 48 + n := by
    rw [List.length_append, recordHeader_length, hn]
  refine ⟨_, State.stageRecord_alone hstaging hbuffers rfl ?_, hlength _ _,
    recordHeader_fields flags level first last absent gen body htype (by omega) hrecipe hcount (BitVec.isLt _) (BitVec.isLt _)⟩
  rw [hlength]
  omega

end Staging

/-! REPORT_INTERVAL_END (R200). -/

section Interval
variable {s : State} {e : Fin 1024} {i : Fin 64} {r : Recipe}

theorem State.writeRecord_none (h : s.ember.engines[e].units = []) (i : Fin 64) (r : Recipe) : s.writeRecord e i r = s := by
  simp only [State.writeRecord, h]
  rfl

theorem State.writeRecords_none (h : s.ember.engines[e].units = []) : s.writeRecords e = s :=
  List.foldl_fixed' (fun x => State.writeRecord_none h x.1 x.2) _

theorem State.writeRecords_one (h : s.ember.active.recipes = [(i, r)]) : s.writeRecords e = s.writeRecord e i r := by
  rw [State.writeRecords, h]
  rfl

section OneUnit
variable {u : UnitState} {d : DoneInterval} (hunits : s.ember.engines[e].units = [u]) (hrecipe : u.recipe = i) (hdone : u.done = [d])
include hunits hrecipe hdone

/-- The one finished interval leaves its unit, and becomes a record where the recipe delivers one (R200). -/
theorem State.writeRecord_one (r : Recipe) : ∃ flags absent gen body,
    body.length = 32 * bit r.moments + 16 * bit r.derived
    ∧ s.writeRecord e i r = if !r.moments && !r.derived then s.setEngine e (fun g => { g with units := [{ u with done := [] }] })
        else (s.setEngine e (fun g => { g with units := [{ u with done := [] }] })).stageRecord e (fun sequence lost =>
          recordHeader (packBits [r.moments, r.derived]) flags e.val i.val (bit r.quarter) 1 sequence lost d.first d.last absent gen ++ body) := by
  have htaken : s.setEngine e (fun g => { g with units := g.units.map (fun u => if u.recipe == i then { u with done := u.done.tail } else u) })
      = s.setEngine e (fun g => { g with units := [{ u with done := [] }] }) :=
    State.setEngine_congr (by simp [hunits, hrecipe, hdone, -Fin.getElem_fin])
  simp only [State.writeRecord, hunits, List.filter_cons, hrecipe, beq_self_eq_true, if_true, List.filter_nil, List.mapM_cons, hdone,
    List.head?_cons, List.mapM_nil, Option.bind_eq_bind, Option.bind_some, Option.pure_def, htaken]
  refine ⟨_, _, _, _, ?_, rfl⟩
  cases r.moments <;> cases r.derived <;> simp [bit]

/-- A recipe that delivers nothing leaves no record. -/
theorem State.writeRecord_silent {r : Recipe} (hmoments : r.moments = false) (hderived : r.derived = false) :
    s.writeRecord e i r = s.setEngine e (fun g => { g with units := [{ u with done := [] }] }) := by
  obtain ⟨_, _, _, _, -, heq⟩ := State.writeRecord_one hunits hrecipe hdone r
  rw [heq, if_pos (by rw [hmoments, hderived]; rfl)]

/-- A recipe that delivers something leaves one record (R200). -/
theorem State.writeRecord_staged {r : Recipe} (hreports : r.moments = true ∨ r.derived = true) (hstaging : s.ember.staging = [])
    (hbuffers : s.ember.buffers = []) : ∃ bs : List Byte,
    s.writeRecord e i r = (s.setEngine e (fun g => { g with units := [{ u with done := [] }] })).stagedAlone e bs
    ∧ bs.length = 48 + 32 * bit r.moments + 16 * bit r.derived
    ∧ RecordFields bs (packBits [r.moments, r.derived]) e.val i.val 1 s.ember.engines[e].sequence.toNat s.ember.engines[e].lost.toNat
        d.first d.last := by
  obtain ⟨flags, absent, gen, body, hbody, heq⟩ := State.writeRecord_one hunits hrecipe hdone r
  have hbit (b : Bool) : bit b ≤ 1 := by cases b <;> decide
  have hmoments := hbit r.moments
  have hderived := hbit r.derived
  have htype : packBits [r.moments, r.derived] < 256 := by
    simp only [packBits]
    omega
  rw [heq, if_neg (by rcases hreports with h | h <;> simp [h])]
  obtain ⟨bs, hstaged, hlength, hfields⟩ := State.stageRecord_header
    (s := s.setEngine e (fun g => { g with units := [{ u with done := [] }] })) (e := e) hstaging hbuffers htype
    (recipe := i.val) (by omega) (count := 1) (by decide) flags (bit r.quarter) d.first d.last absent gen hbody (by omega)
  rw [State.setEngine_self] at hfields
  exact ⟨bs, hstaged, by omega, hfields⟩

end OneUnit

/-- REPORT_INTERVAL_END of an engine with one unit, while nothing is staged or posted (R200). -/
theorem reportIntervalEnd_one {u : UnitState} {d : DoneInterval} (hrecipes : s.ember.active.recipes = [(i, r)])
    (hunits : s.ember.engines[e].units = [u]) (hrecipe : u.recipe = i) (hdone : u.done = [d]) (hstaging : s.ember.staging = [])
    (hbuffers : s.ember.buffers = []) :
    ∃ t, exec (.reportIntervalEnd e) s = .next t ∧ s.ChangesOnly t [.ember] ∧ t.ember.engines[e].units = [{ u with done := [] }]
      ∧ (r.moments = false → r.derived = false → t.ember.staging = []
          ∧ t.ember.engines[e].sequence = s.ember.engines[e].sequence)
      ∧ (r.moments = true ∨ r.derived = true → t.ember.engines[e].sequence = s.ember.engines[e].sequence + 1
          ∧ t.ember.engines[e].lost = 0 ∧ t.ember.engines[e].written = s.ember.engines[e].written + 1
          ∧ ∃ x, t.ember.staging = [x] ∧ x.engine = e ∧ x.bytes.length = 48 + 32 * bit r.moments + 16 * bit r.derived
            ∧ RecordFields x.bytes (packBits [r.moments, r.derived]) e.val i.val 1 s.ember.engines[e].sequence.toNat
                s.ember.engines[e].lost.toNat d.first d.last) := by
  by_cases hreports : r.moments = true ∨ r.derived = true
  · obtain ⟨bs, heq, hlength, hfields⟩ := State.writeRecord_staged hunits hrecipe hdone hreports hstaging hbuffers
    refine ⟨_, rfl, ?_, ?_⟩
    · rw [State.writeRecords_one hrecipes, heq]
      exact State.settled_changesOne fun q hq => State.stagedAlone_same bs hq (State.setEngine_same e _ hq (Part.Same.refl s q))
    · rw [State.settled_ember, State.writeRecords_one hrecipes, heq, State.stagedAlone_engine, State.setEngine_self]
      refine ⟨rfl, fun hmoments hderived => ?_, fun _ => ⟨rfl, rfl, rfl, ⟨e, bs⟩, rfl, rfl, hlength, hfields⟩⟩
      simp [hmoments, hderived] at hreports
  · obtain ⟨hmoments, hderived⟩ : r.moments = false ∧ r.derived = false := by simpa using hreports
    have heq := State.writeRecord_silent hunits hrecipe hdone hmoments hderived
    refine ⟨_, rfl, ?_, ?_⟩
    · rw [State.writeRecords_one hrecipes, heq]
      exact State.settled_changesOne fun q hq => State.setEngine_same e _ hq (Part.Same.refl s q)
    · rw [State.settled_ember, State.writeRecords_one hrecipes, heq, State.setEngine_self]
      exact ⟨rfl, fun _ _ => ⟨hstaging, rfl⟩, fun h => absurd h hreports⟩

end Interval

/-! TINDER_DWELL_END (R183, R203). -/

section Tinder
variable {s : State} {e : Fin 1024}

theorem State.writeTinder_none (h : s.ember.engines[e].tinderDone = []) : s.writeTinder e = s := by
  unfold State.writeTinder
  rw [h]

/-- The entry of a slot in a tinder record: 00h bytes for a slot without sums (R203). -/
def TinderDwell.entry (d : TinderDwell) (x : Fin 256) : List Byte :=
  match d.sums.find? (fun y => y.slot == x) with
  | some y => tinderEntry y.format y.moments
  | none => zeros 12

theorem TinderDwell.entry_length (d : TinderDwell) (x : Fin 256) : (d.entry x).length = 12 := by
  unfold TinderDwell.entry
  split <;> simp

section OldestDwell
variable {d : TinderDwell} {rest : List TinderDwell} (hdone : s.ember.engines[e].tinderDone = d :: rest) (hsums : d.sums ≠ [])
include hdone hsums

/-- The oldest dwell with sums leaves, and its record has an entry for each slot of the engine (R203). -/
theorem State.writeTinder_eq : ∃ flags, s.writeTinder e = (s.setEngine e (fun g => { g with tinderDone := rest })).stageRecord e
    (fun sequence lost => recordHeader 4 flags e.val 255 0 128 sequence lost d.first d.last d.absent s.ember.generation.toNat
      ++ (engineSlots e).flatMap d.entry) := by
  simp only [State.writeTinder, hdone, List.isEmpty_iff, hsums, if_false]
  exact ⟨_, rfl⟩

theorem State.writeTinder_staged (hstaging : s.ember.staging = []) (hbuffers : s.ember.buffers = []) : ∃ bs : List Byte,
    s.writeTinder e = (s.setEngine e (fun g => { g with tinderDone := rest })).stagedAlone e bs
    ∧ bs.length = 1584
    ∧ RecordFields bs 4 e.val 255 128 s.ember.engines[e].sequence.toNat s.ember.engines[e].lost.toNat d.first d.last := by
  obtain ⟨flags, heq⟩ := State.writeTinder_eq hdone hsums
  have hentries : ((engineSlots e).flatMap d.entry).length = 1536 := by
    simp [List.length_flatMap, TinderDwell.entry_length, engineSlots_length]
  rw [heq]
  obtain ⟨bs, hstaged, hlength, hfields⟩ := State.stageRecord_header
    (s := s.setEngine e (fun g => { g with tinderDone := rest })) (e := e) hstaging hbuffers (type := 4) (by decide)
    (recipe := 255) (by decide) (count := 128) (by decide) flags 0 d.first d.last d.absent s.ember.generation.toNat hentries (by decide)
  rw [State.setEngine_self] at hfields
  exact ⟨bs, hstaged, hlength, hfields⟩

/-- TINDER_DWELL_END of an engine whose oldest dwell has sums, while nothing is staged or posted (R183, R203). -/
theorem tinderDwellEnd_staged (hstaging : s.ember.staging = []) (hbuffers : s.ember.buffers = []) :
    ∃ t x, exec (.tinderDwellEnd e) s = .next t ∧ s.ChangesOnly t [.ember] ∧ t.ember.engines[e].tinderDone = rest
      ∧ t.ember.engines[e].sequence = s.ember.engines[e].sequence + 1 ∧ t.ember.staging = [x] ∧ x.engine = e
      ∧ x.bytes.length = 1584 ∧ field x.bytes 0 1 = 4 ∧ field x.bytes 16 8 = d.first.toNat ∧ field x.bytes 24 8 = d.last.toNat := by
  obtain ⟨bs, heq, hlength, hfields⟩ := State.writeTinder_staged hdone hsums hstaging hbuffers
  refine ⟨_, ⟨e, bs⟩, rfl, ?_, ?_⟩
  · rw [heq]
    exact State.settled_changesOne fun q hq => State.stagedAlone_same bs hq (State.setEngine_same e _ hq (Part.Same.refl s q))
  · rw [State.settled_ember, heq, State.stagedAlone_engine, State.setEngine_self]
    exact ⟨rfl, rfl, rfl, rfl, hlength, hfields.type, hfields.first, hfields.last⟩

end OldestDwell
end Tinder

/-! RECORD_BUFFER_TIMEOUT (R204, R376). -/

section Timeout
variable {s : State} {b : RecordBuffer}

/-- What waits for the bytes of a buffer to be written to the host (R318, R376). -/
def RecordBuffer.delivery (b : RecordBuffer) : WaitingCommand where
  opcode := 0
  request := { (default : Request) with channel := b.command.channel, token := b.command.token }
  wait := .output b.filled (leBytes 4 b.filled.length ++ leBytes 4 b.records)
  accepted := true
  ring := false

theorem State.bufferTimeout_due (hbuffers : s.ember.buffers = [b]) (hstaging : s.ember.staging = []) (hrecords : 0 < b.records)
    (hlate : b.firstAt + 20000 ≤ s.clock.tick) : s.bufferTimeout = (s.setEmber (fun x => { x with buffers := [] })).writeBuffer b.command
      b.filled (leBytes 4 b.filled.length ++ leBytes 4 b.records) := by
  simp only [State.bufferTimeout, hbuffers, hrecords, hlate, decide_true, Bool.and_self, if_true, State.completeBuffer, hrecords.ne', if_false]
  exact State.deliverRecords_none _ hstaging

theorem State.bufferTimeout_early (hbuffers : s.ember.buffers = [b]) (hearly : b.records = 0 ∨ s.clock.tick < b.firstAt + 20000) :
    s.bufferTimeout = s := by
  have hnot : ¬(decide (0 < b.records) && decide (b.firstAt + 20000 ≤ s.clock.tick)) = true := by simp; omega
  simp only [State.bufferTimeout, hbuffers]
  exact if_neg hnot

theorem State.bufferTimeout_none (hbuffers : s.ember.buffers = []) : s.bufferTimeout = s := by
  unfold State.bufferTimeout
  rw [hbuffers]

/-- RECORD_BUFFER_TIMEOUT of a buffer that is due: its bytes are written to the host (R204). -/
theorem recordBufferTimeout_due (hbuffers : s.ember.buffers = [b]) (hstaging : s.ember.staging = []) (hrecords : 0 < b.records)
    (hlate : b.firstAt + 20000 ≤ s.clock.tick) : ∃ t x, exec .recordBufferTimeout s = .next t
      ∧ s.ChangesOnly t [.ember, .requests] ∧ t.ember = { s.ember with buffers := [] } ∧ t.host.waiting = s.host.waiting ++ [x]
      ∧ x.request.channel = b.command.channel ∧ x.request.token = b.command.token
      ∧ x.wait = .output b.filled (leBytes 4 b.filled.length ++ leBytes 4 b.records) := by
  have heq := State.bufferTimeout_due hbuffers hstaging hrecords hlate
  refine ⟨_, b.delivery, rfl, ?_, ?_, ?_⟩
  · rw [heq]
    exact State.settled_changesTwo fun q hember hreq => State.writeBuffer_same _ _ _ hreq (State.setEmber_same _ hember (Part.Same.refl s q))
  · rw [State.settled_ember, heq]
    rfl
  · rw [State.settled_host_waiting, heq]
    exact ⟨rfl, rfl, rfl, rfl⟩

end Timeout

/-- Settles O24: each row's operation on one engine, and what it leaves of the others. -/
theorem emberEnginesMeasureAndReport : Obligations.EmberEnginesMeasureAndReport := by
  intro s e
  refine ⟨fun u d rest r hunits hclosed hrecipe f hf => ?_, fun hunits => ⟨?_, ?_⟩,
    fun i r u d hrecipes hunits hrecipe hdone hstaging hbuffers => ?_, fun hdone => ?_,
    fun d rest hdone hsums hstaging hbuffers => tinderDwellEnd_staged hdone hsums hstaging hbuffers,
    fun b hbuffers hstaging => ⟨recordBufferTimeout_due hbuffers hstaging, fun hearly => ?_⟩, fun hbuffers => ?_⟩
  · obtain ⟨t, ht, hchanges, hengine, hothers⟩ := dwellEnd_one hunits hclosed hrecipe f hf
    refine ⟨t, ht, hchanges, ?_, fun hnone => ?_, fun x hx hempty => ?_, fun x y ys hx hfifo => ⟨fun hon => ?_, fun hoff hroom => ?_,
      fun hoff hfull => ?_⟩, hothers⟩
    · rw [hengine, Engine.processed_units]
    · rw [hengine, Engine.processed_none _ hnone]
      exact ⟨rfl, rfl⟩
    · exact hengine ▸ Engine.processed_empty hx _ hempty
    · rw [State.collects_on hon] at hengine
      exact hengine ▸ Engine.processed_collected hx hfifo
    · rw [State.collects_off hoff] at hengine
      exact hengine ▸ Engine.processed_room hx hroom
    · rw [State.collects_off hoff] at hengine
      exact hengine ▸ Engine.processed_full hx hfull
  · exact State.settled_unchanged (State.processDwells_none hunits)
  · exact State.settled_unchanged (State.writeRecords_none hunits)
  · obtain ⟨t, ht, hchanges, hunits, hsilent, hreports⟩ := reportIntervalEnd_one hrecipes hunits hrecipe hdone hstaging hbuffers
    refine ⟨t, ht, hchanges, hunits, hsilent, fun h => ?_⟩
    obtain ⟨hsequence, hlost, hwritten, x, hx, hengine, hlength, hfields⟩ := hreports h
    exact ⟨hsequence, hlost, hwritten, x, hx, hengine, hlength, hfields.engine, hfields.recipe, hfields.count, hfields.sequence,
      hfields.lost, hfields.first, hfields.last⟩
  · exact State.settled_unchanged (State.writeTinder_none hdone)
  · exact State.settled_unchanged (State.bufferTimeout_early hbuffers hearly)
  · exact State.settled_unchanged (State.bufferTimeout_none hbuffers)

end Sys2Proof.Machine

/-! SUPPORT. The fault of an engine, its spare, the end of a cluster's loading and the arrival of a spark (R193, R205, R206, R210, R212,
R377): what each row changes, and the statement about them. -/
namespace Sys2Proof.Machine

/-! ENGINE_FAULT and SPARE_IN_SERVICE (R206). -/

section Faults
variable {s u : State} {e : Fin 1024}

theorem State.engineLost_same (es : List (Fin 1024)) {q : Part} (h : Part.Same s u q) : Part.Same s (u.engineLost es) q :=
  foldl_same (fun _ _ hw => foldl_same (fun _ _ hw => State.raise_same _ _ _ _ _ _ hw) _ hw) _ h

/-- An engine out of service: its units and its tinder dwells are gone, and what it had still to write is lost (R206). -/
def Engine.failed (lost : Nat) (g : Engine) : Engine :=
  { g with out := true, units := [], tinder := none, tinderDone := [], absent := []
           lost := BitVec.ofNat 32 (cap32 (g.lost.toNat + lost)), lostTotal := g.lostTotal + BitVec.ofNat 48 lost }

/-- A cluster with one more faulty engine (R206). -/
def Cluster.withFaulty (x : Fin 132) (c : Cluster) : Cluster :=
  { c with faulty := if c.faulty.contains x then c.faulty else c.faulty ++ [x] }

theorem Cluster.mem_withFaulty (x : Fin 132) (c : Cluster) : x ∈ (c.withFaulty x).faulty := by
  unfold Cluster.withFaulty
  split
  case isTrue h => exact List.contains_iff_mem.1 h
  case isFalse => exact List.mem_append_right _ List.mem_cons_self

theorem State.engineFault_eq (h : s.ember.engines[e].out = false) :
    s.engineFault e = (((s.setEngine e (Engine.failed (s.ember.engines[e].unwritten s.ember.active))).setCluster (engineCluster e)
      (Cluster.withFaulty s.ember.engines[e].physical)).raise (128 + (engineCluster e).val) 2 .fault (engineCluster e).val e.val 0).engineLost
        [e] := by
  simp only [State.engineFault, h, Bool.false_eq_true, if_false]
  rfl

theorem State.engineFault_out (h : s.ember.engines[e].out = true) : s.engineFault e = s := if_pos h

/-- ENGINE_FAULT of an engine in service (R206). -/
theorem engineFault_inService (h : s.ember.engines[e].out = false) : ∃ t, exec (.engineFault e) s = .next t ∧ s.ChangesOnly t [.ember]
    ∧ t.ember.engines[e].out = true ∧ t.ember.engines[e].units = []
    ∧ t.ember.engines[e].lostTotal = s.ember.engines[e].lostTotal + BitVec.ofNat 48 (s.ember.engines[e].unwritten s.ember.active)
    ∧ t.ember.engines[e].fifo = s.ember.engines[e].fifo
    ∧ s.ember.engines[e].physical ∈ t.ember.clusters[engineCluster e].faulty
    ∧ t.ember.clusters[engineCluster e].mode = s.ember.clusters[engineCluster e].mode
    ∧ ∀ j : Fin 1024, j ≠ e → t.ember.engines[j] = s.ember.engines[j] := by
  have hember : (s.engineFault e).ember = ((s.setEngine e (Engine.failed (s.ember.engines[e].unwritten s.ember.active))).setCluster
      (engineCluster e) (Cluster.withFaulty s.ember.engines[e].physical)).ember := by
    rw [State.engineFault_eq h, State.engineLost_ember, State.raise_ember]
  have hengine : (s.engineFault e).ember.engines[e] = s.ember.engines[e].failed (s.ember.engines[e].unwritten s.ember.active) := by
    rw [hember]
    exact State.setEngine_self e _ s
  have hcluster : (s.engineFault e).ember.clusters[engineCluster e]
      = s.ember.clusters[engineCluster e].withFaulty s.ember.engines[e].physical := by
    rw [hember, State.setCluster_clusters]
    rfl
  refine ⟨_, rfl, State.settled_changesOne fun q hq => ?_, ?_⟩
  · rw [State.engineFault_eq h]
    exact State.engineLost_same _ (State.raise_same _ _ _ _ _ _ (State.setCluster_same _ _ hq (State.setEngine_same e _ hq (Part.Same.refl s q))))
  · rw [State.settled_ember, hengine, hcluster]
    refine ⟨rfl, rfl, rfl, rfl, Cluster.mem_withFaulty .., rfl, fun j hj => ?_⟩
    rw [hember]
    exact State.setEngine_other hj _ s

/-- The engine of a spare measures afresh where its cluster runs recipes (R206). -/
theorem State.spareIn_eq {x : Fin 132} (hout : s.ember.engines[e].out = true) (hspare : s.spareEngine (engineCluster e) = some x) :
    ∃ units, s.spareIn e = (s.setEngine e (fun g => { g with out := false, physical := x, units := units })).raise
      (128 + (engineCluster e).val) 3 .repair (engineCluster e).val e.val x.val := by
  simp only [State.spareIn, hout, Bool.not_true, Bool.false_eq_true, if_false, hspare]
  split
  case isTrue => exact ⟨_, by rw [State.openUnits, State.setEngine_setEngine]⟩
  case isFalse => exact ⟨s.ember.engines[e].units, congrArg (State.raise _ _ _ _ _ _) (State.setEngine_congr rfl)⟩

theorem State.spareIn_none (h : s.ember.engines[e].out = false ∨ s.spareEngine (engineCluster e) = none) : s.spareIn e = s := by
  unfold State.spareIn
  rcases h with hin | hnone
  · rw [hin]
    rfl
  · simp only [hnone, ite_self]

/-- SPARE_IN_SERVICE of an engine that is out, while a spare is free (R206). -/
theorem spareInService_free {x : Fin 132} (hout : s.ember.engines[e].out = true) (hspare : s.spareEngine (engineCluster e) = some x) :
    ∃ t, exec (.spareInService e) s = .next t ∧ s.ChangesOnly t [.ember] ∧ t.ember.engines[e].out = false
      ∧ t.ember.engines[e].physical = x ∧ ∀ j : Fin 1024, j ≠ e → t.ember.engines[j] = s.ember.engines[j] := by
  obtain ⟨units, heq⟩ := State.spareIn_eq hout hspare
  refine ⟨_, rfl, State.settled_changesOne fun q hq => ?_, ?_⟩
  · rw [heq]
    exact State.raise_same _ _ _ _ _ _ (State.setEngine_same e _ hq (Part.Same.refl s q))
  · rw [State.settled_ember, heq, State.raise_ember, State.setEngine_self]
    exact ⟨rfl, rfl, fun j hj => State.setEngine_other hj _ s⟩

end Faults

/-! CLUSTER_LOADING_DONE (R205, R377). -/

section Loading
variable {s u : State} {c d : Fin 8}

theorem State.setCluster_other (h : d ≠ c) (f : Cluster → Cluster) (s : State) :
    (s.setCluster c f).ember.clusters[d] = s.ember.clusters[d] :=
  Vector.getElem_set_ne c.isLt d.isLt fun he => h (Fin.ext he.symm)

theorem State.setClusterMode_same (m : ClusterMode) {q : Part} (hember : q ≠ .ember) (h : Part.Same s u q) :
    Part.Same s (u.setClusterMode c m) q :=
  State.raiseState_same _ _ _ _ _ (State.setCluster_same c _ hember h)

/-- Engines that start to measure change, and nothing else. -/
theorem State.openEngines_eq (es : List (Fin 1024)) (s : State) : ∃ engines,
    es.foldl (fun s e => if s.ember.engines[e].out then s else s.openUnits e) s = s.setEmber (fun x => { x with engines := engines }) := by
  refine List.foldlRecOn (motive := fun u => ∃ engines, u = s.setEmber fun x => { x with engines := engines }) es _ ⟨_, rfl⟩ ?_
  rintro _ ⟨engines, rfl⟩ e -
  split
  · exact ⟨engines, rfl⟩
  · exact ⟨_, rfl⟩

/-- A cluster runs from the first frame that its engines read (R205). -/
theorem State.runCluster_eq (c : Fin 8) (s : State) : ∃ version engines,
    s.runCluster c = ((s.setClusterMode c .running).setCluster c (fun x => { x with library := version, lastChange := s.firstRead })).setEmber
      (fun x => { x with engines := engines }) := by
  obtain ⟨engines, heq⟩ := State.openEngines_eq (clusterEngines c) ((s.setClusterMode c .running).setCluster c (fun x =>
    { x with library := match s.ember.library with | some x => x.version | none => 0, lastChange := s.firstRead }))
  exact ⟨_, engines, heq⟩

/-- The state in which a cluster has entered RUNNING, before its restart is answered (R205). -/
def State.loaded (c : Fin 8) (s : State) : State := (s.runCluster c).setCluster c (fun x => { x with restart := none })

theorem State.loaded_eq (c : Fin 8) (s : State) : ∃ version engines, s.loaded c = ((s.setClusterMode c .running).setCluster c
    (fun x => { x with library := version, lastChange := s.firstRead, restart := none })).setEmber (fun x => { x with engines := engines }) := by
  obtain ⟨version, engines, heq⟩ := State.runCluster_eq c s
  refine ⟨version, engines, ?_⟩
  rw [State.loaded, heq]
  simp [State.setCluster, State.setEmber]

theorem State.loaded_same {q : Part} (hember : q ≠ .ember) : Part.Same s (s.loaded c) q := by
  obtain ⟨version, engines, heq⟩ := State.loaded_eq c s
  rw [heq]
  exact State.setEmber_same _ hember (State.setCluster_same c _ hember (State.setClusterMode_same _ hember (Part.Same.refl s q)))

theorem State.loaded_chan (j : Fin 8) : (s.loaded c).chan j = s.chan j := by
  obtain ⟨version, engines, heq⟩ := State.loaded_eq c s
  rw [heq, State.setEmber_chan, State.setCluster_chan, State.setClusterMode, State.raiseState_chan, State.setCluster_chan]

theorem State.loaded_firstRead : (s.loaded c).firstRead = s.firstRead := by
  have hclock : (s.loaded c).clock = s.clock := State.loaded_same (q := .clock) (by decide)
  have hdpll : (s.loaded c).dpll = s.dpll := State.loaded_same (q := .dpll) (by decide)
  rw [State.firstRead, State.firstRead, hclock, hdpll]

theorem State.setClusterMode_ember (c : Fin 8) (m : ClusterMode) (s : State) :
    (s.setClusterMode c m).ember = (s.setCluster c (fun x => { x with mode := m, lastChange := s.clock.frame })).ember :=
  State.raiseState_ember ..

/-- A cluster in RUNNING from a frame on, with a library and no restart to answer. -/
def Cluster.runningFrom (first : BitVec 64) (version : BitVec 16) (x : Cluster) : Cluster :=
  { x with mode := .running, lastChange := first, library := version, restart := none }

/-- The cluster runs, its engines may have started to measure, and nothing else of the Ember subsystem has changed. -/
theorem State.loaded_ember (c : Fin 8) (s : State) : ∃ version engines, (s.loaded c).ember
    = { (s.setCluster c (Cluster.runningFrom s.firstRead version)).ember with engines := engines } := by
  obtain ⟨version, engines, heq⟩ := State.loaded_eq c s
  refine ⟨version, engines, ?_⟩
  rw [heq, State.setEmber_ember, State.setCluster_ember, State.setClusterMode_ember]
  simp [Cluster.runningFrom]

theorem State.loaded_cluster (c : Fin 8) (s : State) : ∃ version,
    (s.loaded c).ember.clusters[c] = s.ember.clusters[c].runningFrom s.firstRead version := by
  obtain ⟨version, engines, heq⟩ := State.loaded_ember c s
  refine ⟨version, ?_⟩
  rw [heq]
  exact State.setCluster_clusters c (Cluster.runningFrom s.firstRead version) s

theorem State.loaded_others : (s.loaded c).ember.active = s.ember.active
    ∧ ∀ d : Fin 8, d ≠ c → (s.loaded c).ember.clusters[d] = s.ember.clusters[d] := by
  obtain ⟨version, engines, heq⟩ := State.loaded_ember c s
  rw [heq]
  exact ⟨rfl, fun d hd => State.setCluster_other hd (Cluster.runningFrom s.firstRead version) s⟩

/-- The restart that a cluster ends answers with the first frame that its engines read (R205, R377). -/
theorem State.loadingDone_restart (h : s.ember.clusters[c].mode = .loading) {r : CommandRef} (hr : s.ember.clusters[c].restart = some r) :
    s.loadingDone c = (s.loaded c).complete r .ok 0 (leBytes 8 s.firstRead.toNat) := by
  rw [← State.loaded_firstRead (s := s) (c := c)]
  refine (if_pos (beq_iff_eq.2 h)).trans ?_
  rw [hr]
  rfl

theorem State.loadingDone_silent (h : s.ember.clusters[c].mode = .loading) (hr : s.ember.clusters[c].restart = none) :
    s.loadingDone c = s.loaded c := by
  refine (if_pos (beq_iff_eq.2 h)).trans ?_
  rw [hr]
  rfl

theorem State.loadingDone_other (h : s.ember.clusters[c].mode ≠ .loading) : s.loadingDone c = s := if_neg (mt eq_of_beq h)

/-- What the end of loading leaves: a completion changes channels alone. -/
theorem State.loadingDone_same (h : s.ember.clusters[c].mode = .loading) {q : Part} (hchan : q ≠ .channels)
    (hloaded : Part.Same u (s.loaded c) q) : Part.Same u (s.loadingDone c) q := by
  cases hr : s.ember.clusters[c].restart
  case none =>
    rw [State.loadingDone_silent h hr]
    exact hloaded
  case some r =>
    rw [State.loadingDone_restart h hr]
    exact State.complete_same _ _ _ _ hchan hloaded

/-- CLUSTER_LOADING_DONE of a cluster in LOADING (R205, R377). -/
theorem clusterLoadingDone_loading (h : s.ember.clusters[c].mode = .loading) : ∃ t, exec (.clusterLoadingDone c) s = .next t
    ∧ s.ChangesOnly t [.ember, .channels] ∧ t.ember.clusters[c].mode = .running ∧ t.ember.clusters[c].lastChange = s.firstRead
    ∧ t.ember.clusters[c].restart = none ∧ t.ember.active = s.ember.active
    ∧ (∀ r, s.ember.clusters[c].restart = some r → s.Ended t r .ok (leBytes 8 s.firstRead.toNat))
    ∧ ∀ d : Fin 8, d ≠ c → t.ember.clusters[d] = s.ember.clusters[d] := by
  have hember : (s.loadingDone c).ember = (s.loaded c).ember :=
    State.loadingDone_same (u := s.loaded c) (q := .ember) h (by decide) rfl
  obtain ⟨version, hcluster⟩ := State.loaded_cluster c s
  obtain ⟨hactive, hothers⟩ := State.loaded_others (s := s) (c := c)
  refine ⟨_, rfl, State.settled_changesTwo fun q hq hchan => State.loadingDone_same h hchan (State.loaded_same hq), ?_⟩
  rw [State.settled_ember, hember, hcluster]
  refine ⟨rfl, rfl, rfl, hactive, fun r hr => State.Ended.settled ?_, hothers⟩
  rw [State.loadingDone_restart h hr]
  exact State.complete_ended (State.loaded_chan _) _ _ _

end Loading

/-! SPARK_ARRIVAL (R193, R210, R212). -/

section Arrival
variable {s u : State} {e : Fin 1024} {x : Spark} {k : Fin 64} {ch : ChannelEntry}

theorem Engine.nextSpark_collected {g g' : Engine} {y : Spark} {ys : List Spark} (h : g.nextSpark = some (x, g')) (hys : g.collected = y :: ys) :
    x = y ∧ g'.collected = ys ∧ g'.fifo = g.fifo := by
  simp only [Engine.nextSpark, hys, Option.some.injEq, Prod.mk.injEq] at h
  obtain ⟨rfl, rfl⟩ := h
  exact ⟨rfl, rfl, rfl⟩

theorem Engine.nextSpark_popped {g g' : Engine} {y : Spark} {ys : List Spark} (h : g.nextSpark = some (x, g')) (hnone : g.collected = [])
    (hys : g.fifo = y :: ys) : x = y ∧ g'.collected = [] ∧ g'.fifo = ys := by
  simp only [Engine.nextSpark, hnone, hys, Option.some.injEq, Prod.mk.injEq] at h
  obtain ⟨rfl, rfl⟩ := h
  exact ⟨rfl, rfl, rfl⟩

theorem State.sparkArrives_none (hfifo : s.ember.engines[e].fifo = []) (hcollected : s.ember.engines[e].collected = []) :
    s.sparkArrives e = s := by
  have hnone : s.ember.engines[e].nextSpark = none := by
    rw [Engine.nextSpark, hcollected, hfifo]
  rw [State.sparkArrives, hnone]

/-- The state in which a spark has left its engine (R193). -/
def State.popped (e : Fin 1024) (g : Engine) (s : State) : State := (s.setEngine e (fun _ => g)).tally 4 0 1 1

/-- A spark leaves its engine and reaches the one channel (R193, R210). -/
theorem State.sparkArrives_one {g : Engine} (h : s.ember.engines[e].nextSpark = some (x, g)) (hone : s.cap.active.channels = [(k, ch)]) :
    s.sparkArrives e = (s.popped e g).keepSpark x (k, ch) := by
  rw [State.sparkArrives, h]
  exact congrArg (List.foldl (State.keepSpark x) _) hone

/-- A channel keeps a spark in its history. -/
def TriggerChannel.keeping (x : Spark) (c : TriggerChannel) : TriggerChannel := { c with history := c.history ++ [x] }

theorem State.countTrig_late_channel (k : Fin 64) (s : State) : (s.countTrig k 7).cap.channels[k]
    = { s.cap.channels[k] with counters := s.cap.channels[k].counters.set 7 (s.cap.channels[k].counters[7] + 1) } :=
  State.setTrig_channel k _ _

theorem State.countTrig_same (t : Fin 64) (i : Fin 8) {q : Part} (hcap : q ≠ .cap) (hperf : q ≠ .perf) (h : Part.Same s u q) :
    Part.Same s (u.countTrig t i) q := by
  unfold State.countTrig
  refine State.setTrig_same t _ hcap ?_
  split
  case h_6 => exact h
  all_goals exact State.tally_same _ _ _ _ hperf h

/-- A spark changes its channel and the counters. -/
theorem State.keepSpark_same (p : Fin 64 × ChannelEntry) {q : Part} (hcap : q ≠ .cap) (hperf : q ≠ .perf) (h : Part.Same s u q) :
    Part.Same s (u.keepSpark x p) q := by
  have htally := State.tally_same 4 0 2 1 hperf h
  unfold State.keepSpark
  refine ite_same h (ite_same (State.setTrig_same _ _ hcap htally) (ite_same ?_ (State.setTrig_same _ _ hcap htally)))
  exact State.raiseIf_same _ _ _ _ _ _ _ (State.setTrig_same _ _ hcap (State.countTrig_same _ _ hcap hperf htally))

section Matching
variable (hmatch : ch.matches x = true)
include hmatch

theorem State.keepSpark_disarmed (hmode : s.cap.channels[k].mode = .disarmed) :
    s.keepSpark x (k, ch) = (s.tally 4 0 2 1).setTrig k (TriggerChannel.keeping x) :=
  (if_neg (by rw [hmatch]; decide)).trans (if_pos (beq_iff_eq.2 hmode))

theorem State.keepSpark_timely (hmode : s.cap.channels[k].mode ≠ .disarmed) (hdecided : s.cap.channels[k].decided = none)
    (hearly : s.clock.frame.toNat < x.frame.toNat + 1 + ch.settle) :
    s.keepSpark x (k, ch) = (s.tally 4 0 2 1).setTrig k (TriggerChannel.keeping x) := by
  refine (if_neg (by rw [hmatch]; decide)).trans ((if_neg (mt eq_of_beq hmode)).trans (if_neg ?_))
  simp only [hdecided, Bool.false_or, decide_eq_true_eq]
  exact Nat.not_le.2 hearly

/-- A late spark is counted, and at most an event and its time are noted. -/
theorem State.keepSpark_late (hmode : s.cap.channels[k].mode ≠ .disarmed)
    (hlate : x.frame.toNat + 1 + ch.settle ≤ s.clock.frame.toNat) : ∃ (noted : TriggerChannel → Option Nat) (due : Bool) (count : Nat),
    s.keepSpark x (k, ch) = (((s.tally 4 0 2 1).countTrig k 7).setTrig k (fun c => { c with lateEvent := noted c })).raiseIf due
      (136 + k.val) 3 .occurrence k.val count 0 := by
  refine ⟨_, _, _, (if_neg (by rw [hmatch]; decide)).trans ((if_neg (mt eq_of_beq hmode)).trans (if_pos ?_))⟩
  rw [Bool.or_eq_true]
  exact .inr (decide_eq_true hlate)

end Matching

/-- SPARK_ARRIVAL with one channel, which the spark matches (R193, R210, R212). -/
theorem sparkArrival_one {g : Engine} (hnext : s.ember.engines[e].nextSpark = some (x, g)) (hone : s.cap.active.channels = [(k, ch)])
    (hmatch : ch.matches x = true) : ∃ t, exec (.sparkArrival e) s = .next t ∧ s.ChangesOnly t [.ember, .cap, .perf]
      ∧ t.ember.engines[e] = g
      ∧ (s.cap.channels[k].mode = .disarmed → t.cap.channels[k] = s.cap.channels[k].keeping x)
      ∧ (s.cap.channels[k].mode ≠ .disarmed → s.cap.channels[k].decided = none → s.clock.frame.toNat < x.frame.toNat + 1 + ch.settle →
          t.cap.channels[k] = s.cap.channels[k].keeping x)
      ∧ (s.cap.channels[k].mode ≠ .disarmed → x.frame.toNat + 1 + ch.settle ≤ s.clock.frame.toNat →
          t.cap.channels[k].history = s.cap.channels[k].history
          ∧ t.cap.channels[k].counters[7] = s.cap.channels[k].counters[7] + 1) := by
  have heq := State.sparkArrives_one hnext hone
  refine ⟨_, rfl, State.settled_changesThree fun q hember hcap hperf => ?_, ?_⟩
  · rw [heq]
    exact State.keepSpark_same _ hcap hperf (State.tally_same _ _ _ _ hperf (State.setEngine_same e _ hember (Part.Same.refl s q)))
  rw [State.settled_ember, State.settled_cap, heq]
  refine ⟨?_, fun hmode => ?_, fun hmode hdecided hearly => ?_, fun hmode hlate => ?_⟩
  · have hember : ((s.popped e g).keepSpark x (k, ch)).ember = (s.setEngine e (fun _ => g)).ember :=
      State.keepSpark_same (s := s.setEngine e (fun _ => g)) (q := .ember) _ (by decide) (by decide) rfl
    rw [hember, State.setEngine_self]
  · rw [State.keepSpark_disarmed (s := s.popped e g) hmatch hmode, State.setTrig_channel]
    rfl
  · rw [State.keepSpark_timely (s := s.popped e g) hmatch hmode hdecided hearly, State.setTrig_channel]
    rfl
  · obtain ⟨noted, due, count, hkeep⟩ := State.keepSpark_late (s := s.popped e g) hmatch hmode hlate
    rw [hkeep, State.raiseIf_cap, State.setTrig_channel, State.countTrig_late_channel]
    exact ⟨rfl, Vector.getElem_set_self ..⟩

end Arrival

/-- Settles O25: each row's operation, by what it makes of its engine, its cluster or its channel. -/
theorem enginesFaultAndSparksArrive : Obligations.EnginesFaultAndSparksArrive := by
  intro s
  refine ⟨fun e h => engineFault_inService h, fun e h => State.settled_unchanged (State.engineFault_out h),
    fun e x hout hspare => spareInService_free hout hspare, fun e h => State.settled_unchanged (State.spareIn_none h),
    fun c h => clusterLoadingDone_loading h, fun c h => State.settled_unchanged (State.loadingDone_other h),
    fun e hfifo hcollected => State.settled_unchanged (State.sparkArrives_none hfifo hcollected),
    fun e x g k ch hnext hone hmatch => ?_⟩
  obtain ⟨t, ht, hchanges, hengine, hdisarmed, htimely, hlate⟩ := sparkArrival_one hnext hone hmatch
  refine ⟨t, ht, hchanges, hengine, fun y ys => Engine.nextSpark_collected hnext, fun y ys => Engine.nextSpark_popped hnext, fun hmode => ?_,
    fun hmode hdecided hearly => ?_, hlate⟩
  · rw [hdisarmed hmode]
    rfl
  · rw [htimely hmode hdecided hearly]
    exact ⟨rfl, rfl⟩

end Sys2Proof.Machine

/-! SUPPORT. What the processing of dwells and the writing of records leave of the recipe banks and of the commands (R182, R198, R200,
R204). -/
namespace Sys2Proof.Machine

/-- The Ember subsystem without its engines, its clusters, the staging region and the posted buffers: its banks and what goes with
them. -/
def EmberState.banks (x : EmberState) : EmberState := { x with engines := default, clusters := default, staging := [], buffers := [] }

/-- Dwells have been processed, records written and buffers completed: the parts beside the Ember subsystem, the channels and the
requests are as they were, the banks too, and every command's entry still has results of its length. -/
structure State.Measured (s u : State) : Prop where
  parts   : ∀ q, q ≠ .ember → q ≠ .channels → q ≠ .requests → Part.Same s u q
  banks   : u.ember.banks = s.ember.banks
  entries : ∀ c e, s.entry c = some e → ∃ e', u.entry c = some e' ∧ e'.results.length = e.results.length

namespace State.Measured
variable {s u w : State}

theorem refl (s : State) : s.Measured s := ⟨fun q _ _ _ => Part.Same.refl s q, rfl, fun _ e he => ⟨e, he, rfl⟩⟩

/-- A step that changes no channel. -/
theorem of_chan (h : s.Measured u) (hparts : ∀ q, q ≠ .ember → q ≠ .channels → q ≠ .requests → Part.Same s u q → Part.Same s w q)
    (hbanks : w.ember.banks = u.ember.banks) (hchan : ∀ j, w.chan j = u.chan j) : s.Measured w where
  parts q hember hwindow hreq := hparts q hember hwindow hreq (h.parts q hember hwindow hreq)
  banks := hbanks.trans h.banks
  entries c e he := by
    rw [State.entry, hchan]
    exact h.entries c e he

/-- A chain of such steps is one. -/
theorem foldl {α : Type} {f : State → α → State} (hf : ∀ u x, s.Measured u → s.Measured (f u x)) (xs : List α) (h : s.Measured u) :
    s.Measured (xs.foldl f u) :=
  List.foldlRecOn xs f h fun u hu x _ => hf u x hu

variable (h : s.Measured u)
include h

theorem setEngine (e : Fin 1024) (f : Engine → Engine) : s.Measured (u.setEngine e f) :=
  h.of_chan (fun _ hember _ _ => State.setEngine_same e f hember) rfl fun _ => rfl

theorem setCluster (c : Fin 8) (f : Cluster → Cluster) : s.Measured (u.setCluster c f) :=
  h.of_chan (fun _ hember _ _ => State.setCluster_same c f hember) rfl fun _ => rfl

theorem setEmber {f : EmberState → EmberState} (hf : (f u.ember).banks = u.ember.banks) : s.Measured (u.setEmber f) :=
  h.of_chan (fun _ hember _ _ => State.setEmber_same f hember) hf fun _ => rfl

theorem raiseIf (b : Bool) (src item : Nat) (a : Action) (p0 p1 p2 : Nat) : s.Measured (u.raiseIf b src item a p0 p1 p2) :=
  h.of_chan (fun _ _ _ _ => State.raiseIf_same b src item a p0 p1 p2) (congrArg EmberState.banks (State.raiseIf_ember ..))
    fun _ => State.raiseIf_chan ..

theorem writeBuffer (c : CommandRef) (data results : List Byte) : s.Measured (u.writeBuffer c data results) :=
  h.of_chan (fun _ _ _ hreq => State.writeBuffer_same c data results hreq) rfl fun _ => rfl

theorem complete (c : CommandRef) (st : Status) (d : Nat) (res : List Byte) : s.Measured (u.complete c st d res) where
  parts q hember hchan hreq := State.complete_same c st d res hchan (h.parts q hember hchan hreq)
  banks := (congrArg EmberState.banks (State.complete_same (s := u) (q := .ember) c st d res (by decide) rfl)).trans h.banks
  entries c' e he := by
    obtain ⟨e', he', hlength⟩ := h.entries c' e he
    by_cases hc : c' = c
    · subst hc
      exact ⟨_, State.complete_recorded st d res he', (padTo_length ..).trans hlength⟩
    · exact ⟨e', (State.complete_entry_other hc ..).trans he', hlength⟩

theorem completeBuffer (b : RecordBuffer) : s.Measured (u.completeBuffer b) := by
  unfold State.completeBuffer
  split
  · exact h.complete ..
  · exact h.writeBuffer ..

theorem deliverRecords (n : Nat) : s.Measured (u.deliverRecords n) := by
  induction n generalizing u with
  | zero => exact h
  | succ n ih =>
    unfold State.deliverRecords
    split
    case h_1 =>
      split
      · exact ih (h.setEmber rfl)
      · exact ih ((h.setEmber rfl).completeBuffer _)
    case h_2 => exact h

theorem stageRecord (e : Fin 1024) (make : Nat → Nat → List Byte) : s.Measured (u.stageRecord e make) := by
  simp only [State.stageRecord]
  split
  · exact ((h.setEngine e _).setEmber rfl).deliverRecords _
  · exact ((h.setEngine e _).setCluster _ _).raiseIf ..

theorem writeRecord (e : Fin 1024) (i : Fin 64) (r : Recipe) : s.Measured (u.writeRecord e i r) := by
  simp only [State.writeRecord]
  split
  · exact h
  · exact h
  · split
    · exact h.setEngine e _
    · exact (h.setEngine e _).stageRecord e _

theorem writeRecords (e : Fin 1024) : s.Measured (u.writeRecords e) :=
  foldl (fun _ x hw => hw.writeRecord e x.1 x.2) _ h

theorem pushSpark (e : Fin 1024) (x : Spark) : s.Measured (u.pushSpark e x) := by
  rw [State.pushSpark_eq]
  exact (h.setEngine e _).raiseIf ..

theorem processDwells (e : Fin 1024) : s.Measured (u.processDwells e) := by
  simp only [State.processDwells]
  split
  · exact h
  · exact foldl (fun _ x hw => hw.pushSpark e x) _ (h.setEngine e _)

theorem finishEngine (e : Fin 1024) : s.Measured (u.finishEngine e) :=
  foldl (fun _ _ hw => hw.writeRecords e) _ (foldl (fun _ _ hw => hw.processDwells e) _ h)

/-- The units of an engine at a recipe swap (R182, R198). -/
theorem swapUnits (new : RecipeSet) (e : Fin 1024) : s.Measured (u.swapUnits new e) := by
  unfold State.swapUnits
  exact ((h.setEngine e _).finishEngine e).setEngine e _

/-- A completion ends its command, whatever has been completed before it. -/
theorem complete_ended {c : CommandRef} (hentry : w.entry c = u.entry c) (st : Status) (d : Nat) (res : List Byte) :
    s.Ended (w.complete c st d res) c st res := by
  intro e he
  obtain ⟨e', he', hlength⟩ := h.entries c e he
  exact ⟨_, State.complete_recorded st d res (hentry.trans he'), rfl, rfl, congrArg (padTo · res) hlength⟩

end State.Measured
end Sys2Proof.Machine

/-! SUPPORT. The events of the recipe bank (R182, R196, R197, R198, R374, R375), and the statement about them. -/
namespace Sys2Proof.Machine

/-! RECIPE_CHECK_DONE (R196, R374). -/

section Checked
variable {s : State}

theorem State.recipeChecked_none (h : s.ember.load = none) : s.recipeChecked = s := by
  rw [State.recipeChecked, h]

/-- An event that changes the Ember subsystem and ends a command. -/
theorem exec_endsEmber {i : Instr} {u : State} {f : EmberState → EmberState} {c : CommandRef} {st : Status} {d : Nat} {res : List Byte}
    (hexec : exec i s = .next (s.settled u)) (heq : u = (s.setEmber f).complete c st d res) :
    ∃ t, exec i s = .next t ∧ s.ChangesOnly t [.ember, .channels] ∧ t.ember = f s.ember ∧ s.Ended t c st res := by
  subst heq
  refine ⟨_, hexec, State.settled_changesTwo fun q hember hchan => State.complete_same _ _ _ _ hchan
    (State.setEmber_same f hember (Part.Same.refl s q)), ?_, (State.complete_ended (u := s.setEmber f) rfl st d res).settled⟩
  rw [State.settled_ember]
  exact State.complete_same (s := s.setEmber f) (q := .ember) _ _ _ _ (by decide) rfl

section Loaded
variable {l : RecipeLoad} {bs : List Byte} (hload : s.ember.load = some l) (hdata : l.data = some bs)
include hload hdata

theorem recipeCheckDone_passes {x : RecipeSet} (hcheck : checkRecipeSet bs l.formats = .ok x) :
    ∃ t, exec .recipeCheckDone s = .next t ∧ s.ChangesOnly t [.ember, .channels]
      ∧ t.ember = { s.ember with load := none, shadow := some x, shadowMode := .ready } ∧ s.Ended t l.command .ok [] := by
  have heq : s.recipeChecked
      = (s.setEmber (fun y => { y with load := none, shadow := some x, shadowMode := .ready })).complete l.command .ok 0 [] := by
    simp only [State.recipeChecked, hload, hdata, hcheck]
  exact exec_endsEmber rfl heq

theorem recipeCheckDone_fails {f : BankRefusal} (hcheck : checkRecipeSet bs l.formats = .error f) :
    ∃ t, exec .recipeCheckDone s = .next t ∧ s.ChangesOnly t [.ember, .channels]
      ∧ t.ember = { s.ember with load := none, shadowMode := if s.ember.shadow.isSome then .ready else .empty }
      ∧ s.Ended t l.command f.status [] := by
  have heq : s.recipeChecked = (s.setEmber (fun y => { y with load := none, shadowMode := if y.shadow.isSome then .ready else .empty })).complete
      l.command f.status f.detail [] := by
    simp only [State.recipeChecked, hload, hdata, hcheck]
  exact exec_endsEmber rfl heq

end Loaded
end Checked

/-! RECIPE_SWAP_TAKES_PLACE (R197, R198, R375). -/

section Swap
variable {s : State} {w : BankSwap} {new : RecipeSet}

/-- The recipe banks after a swap: the set is in force with the next GENERATION, and waits for eFlash when the swap asked for it. -/
def EmberState.swapped (w : BankSwap) (new : RecipeSet) (x : EmberState) : EmberState :=
  { x with active := new, generation := x.generation + 1, shadow := none, shadowMode := .empty, swap := none
           persistWaits := if w.persist then x.persistWaits ++ [⟨w.command, new, x.generation + 1⟩] else x.persistWaits }

theorem State.takeRecipeSwap_due (hswap : s.ember.swap = some w) (hshadow : s.ember.shadow = some new) (hdue : w.frame ≤ s.clock.frame) :
    ∃ u, s.Measured u ∧ s.takeRecipeSwap = (u.setEmber (EmberState.swapped w new)).complete w.command .ok 0
      (leBytes 8 w.frame.toNat ++ leBytes 4 (u.ember.generation + 1).toNat ++ zeros 4) := by
  simp only [State.takeRecipeSwap, hswap, hshadow, hdue, if_true]
  exact ⟨_, State.Measured.foldl (fun _ e hu => hu.swapUnits new e) _ (.refl s), rfl⟩

theorem State.takeRecipeSwap_early (hswap : s.ember.swap = some w) (hshadow : s.ember.shadow = some new) (hearly : s.clock.frame < w.frame) :
    s.takeRecipeSwap = s := by
  simp only [State.takeRecipeSwap, hswap, hshadow]
  exact if_neg (BitVec.not_le.2 hearly)

/-- RECIPE_SWAP_TAKES_PLACE at its frame (R197, R198, R375). -/
theorem recipeSwapTakesPlace_due (hswap : s.ember.swap = some w) (hshadow : s.ember.shadow = some new) (hdue : w.frame ≤ s.clock.frame) :
    ∃ t, exec .recipeSwapTakesPlace s = .next t ∧ s.ChangesOnly t [.ember, .channels, .requests]
      ∧ t.ember.active = new ∧ t.ember.generation = s.ember.generation + 1 ∧ t.ember.shadow = none ∧ t.ember.shadowMode = .empty
      ∧ t.ember.swap = none ∧ t.ember.persisted = s.ember.persisted
      ∧ t.ember.persistWaits = (if w.persist then s.ember.persistWaits ++ [⟨w.command, new, s.ember.generation + 1⟩] else s.ember.persistWaits)
      ∧ s.Ended t w.command .ok (leBytes 8 w.frame.toNat ++ leBytes 4 (s.ember.generation + 1).toNat ++ zeros 4) := by
  obtain ⟨u, hu, heq⟩ := State.takeRecipeSwap_due hswap hshadow hdue
  have hgeneration : u.ember.generation = s.ember.generation := (congrArg EmberState.generation hu.banks :)
  have hpersisted : u.ember.persisted = s.ember.persisted := (congrArg EmberState.persisted hu.banks :)
  have hwaits : u.ember.persistWaits = s.ember.persistWaits := (congrArg EmberState.persistWaits hu.banks :)
  have hember : s.takeRecipeSwap.ember = u.ember.swapped w new := by
    rw [heq]
    exact State.complete_same (s := u.setEmber _) (q := .ember) _ _ _ _ (by decide) rfl
  have hended : s.Ended s.takeRecipeSwap w.command .ok
      (leBytes 8 w.frame.toNat ++ leBytes 4 (s.ember.generation + 1).toNat ++ zeros 4) := by
    rw [heq, hgeneration]
    exact hu.complete_ended (w := u.setEmber (EmberState.swapped w new)) rfl .ok 0 _
  refine ⟨_, rfl, State.settled_changesThree fun q hq hchan hreq => ?_, ?_⟩
  · rw [heq]
    exact State.complete_same _ _ _ _ hchan (State.setEmber_same _ hq (hu.parts q hq hchan hreq))
  · rw [State.settled_ember, hember, EmberState.swapped, hgeneration, hwaits]
    exact ⟨rfl, rfl, rfl, rfl, rfl, hpersisted, rfl, hended.settled⟩

end Swap

/-! RECIPE_PERSIST_DONE (R197). -/

section Persist
variable {s : State}

theorem State.recipePersisted_none (h : s.ember.persistWaits = []) : s.recipePersisted = s := by
  rw [State.recipePersisted, h]

/-- RECIPE_PERSIST_DONE commits the swap that has waited longest (R197). -/
theorem recipePersistDone_commits {w : RecipePersist} {rest : List RecipePersist} {e : TokenEntry} (hwaits : s.ember.persistWaits = w :: rest)
    (he : (s.chan w.command.channel).recorded w.command.token = some e) (hpersist : e.persist = true) (hok : e.status = .ok) :
    ∃ t, exec .recipePersistDone s = .next t ∧ s.ChangesOnly t [.ember, .channels]
      ∧ t.ember = { s.ember with persisted := some (w.set, w.generation), persistWaits := rest }
      ∧ ∃ e', (t.chan w.command.channel).recorded w.command.token = some e' ∧ e'.status = .committed ∧ e'.stage = stageCommitment := by
  have heq : s.recipePersisted
      = (s.setEmber (fun x => { x with persisted := some (w.set, w.generation), persistWaits := rest })).commit w.command := by
    simp only [State.recipePersisted, hwaits]
  refine ⟨_, rfl, ?_, ?_, e.madeDurable, ?_, rfl, rfl⟩
  · rw [heq]
    exact State.settled_changesTwo fun q hember hchan => State.commit_same _ hchan (State.setEmber_same _ hember (Part.Same.refl s q))
  · rw [State.settled_ember, heq]
    exact State.commit_same (s := s.setEmber _) (q := .ember) _ (by decide) rfl
  · rw [State.settled_recorded, heq]
    exact State.commit_recorded he hpersist hok

end Persist

/-- Settles O23: a check, a swap and a persistent write each change the banks, and end or commit their command. -/
theorem recipeBankEventsFollowTheirRules : Obligations.RecipeBankEventsFollowTheirRules := by
  intro s
  exact ⟨fun l bs hload hdata => ⟨fun x => recipeCheckDone_passes hload hdata, fun f => recipeCheckDone_fails hload hdata⟩,
    fun h => State.settled_unchanged (State.recipeChecked_none h),
    fun w new hswap hshadow => ⟨recipeSwapTakesPlace_due hswap hshadow,
      fun hearly => State.settled_unchanged (State.takeRecipeSwap_early hswap hshadow hearly)⟩,
    fun w rest e hwaits he hpersist hok => recipePersistDone_commits hwaits he hpersist hok,
    fun h => State.settled_unchanged (State.recipePersisted_none h)⟩

end Sys2Proof.Machine

/-! SUPPORT. The capture store (R232 to R238): what the issue of NVMe commands and the end of a purpose leave of the namespaces, and what
the end of each purpose does. -/
namespace Sys2Proof.Machine

theorem State.complete_cap (c : CommandRef) (st : Status) (d : Nat) (res : List Byte) (s : State) : (s.complete c st d res).cap = s.cap :=
  State.complete_same (s := s) (q := .cap) c st d res (by decide) rfl

theorem State.commit_cap (c : CommandRef) (s : State) : (s.commit c).cap = s.cap :=
  State.commit_same (s := s) (q := .cap) c (by decide) rfl

/-! The namespaces. -/

section Namespaces
variable {s : State} {n k : Fin 32}

theorem State.setNs_self (n : Fin 32) (f : StoreNamespace → StoreNamespace) (s : State) :
    (s.setNs n f).cap.namespaces[n] = f s.cap.namespaces[n] :=
  Vector.getElem_set_self ..

theorem State.setNs_other (h : k ≠ n) (f : StoreNamespace → StoreNamespace) (s : State) :
    (s.setNs n f).cap.namespaces[k] = s.cap.namespaces[k] :=
  Vector.getElem_set_ne n.isLt k.isLt fun e => h (Fin.ext e.symm)

theorem State.setNsMode_cap (n : Fin 32) (m : StoreMode) (s : State) :
    (s.setNsMode n m).cap = (s.setNs n (fun x => { x with mode := m })).cap :=
  State.raiseState_cap ..

/-- The end of commands at the drives leaves the namespaces. -/
theorem State.dropKeys_namespaces (ks : List Nat) (s : State) :
    (ks.foldl (fun s k => s.dropTask (.object k)) s).cap.namespaces = s.cap.namespaces :=
  List.foldlRecOn ks _ (motive := fun u : State => u.cap.namespaces = s.cap.namespaces) rfl fun _ hu _ _ => hu

theorem State.issueNvme_issued (t : NvmeTask) (xs : List (Fin 16 × NvmeOp × List NvmeRange)) (s : State) :
    s.cap.IssuedFrom (s.issueNvme t xs).cap :=
  .trans (x := { s.cap with queued := [] }) ⟨_, _, _, rfl⟩ (CaptureState.issueWork_issued ..)

theorem State.issueNvme_namespaces (t : NvmeTask) (xs : List (Fin 16 × NvmeOp × List NvmeRange)) (s : State) :
    (s.issueNvme t xs).cap.namespaces = s.cap.namespaces := by
  obtain ⟨_, _, _, hcap⟩ := s.issueNvme_issued t xs
  rw [hcap]

theorem State.deallocateLog_namespaces (n : Fin 32) (xs : List (Nat × Nat)) (s : State) :
    (s.deallocateLog n xs).cap.namespaces = s.cap.namespaces :=
  List.foldlRecOn xs _ (motive := fun u : State => u.cap.namespaces = s.cap.namespaces) rfl
    fun u hu _ _ => (State.issueNvme_namespaces .deallocate _ u).trans hu

end Namespaces

/-! The end of a purpose. -/

/-- The effects of a command of the store are durable: what they replaced is forgotten, and the command is committed (R24, R317). -/
def State.durable (c : CommandRef) (s : State) : State :=
  (s.setCap (fun x => { x with undo := x.undo.filter (fun u => u.1 != c) })).commit c

theorem State.durable_cap (c : CommandRef) (s : State) :
    (s.durable c).cap = { s.cap with undo := s.cap.undo.filter (fun u => u.1 != c) } :=
  State.commit_cap ..

/-- The bytes of an OBJECT_READ are in the device, and go to the host (R391). -/
def State.returnRead (r : Request) (s : State) : State :=
  s.setHost (fun h => { h with waiting := h.waiting
    ++ [WaitingCommand.mk 0x080F r (.output (s.readBytes r) (leBytes 4 (r.u 24 4) ++ zeros 4)) true false] })

/-- An index checkpoint stands in its place of a namespace that is declared (R238). -/
def StoreNamespace.checkpointed (i : StoreIndex) (x : StoreNamespace) : StoreNamespace :=
  if x.mode == .undeclared then x else { x with checkpoints := x.checkpoints.set (⟨i.number % 2, by omega⟩ : Fin 2) (some i) }

section TaskDone
variable {s : State} {t : NvmeTask}

theorem State.taskDone_outstanding (h : s.outstanding t = true) : s.taskDone t = s := if_pos h

theorem State.taskDone_object {sequence : Nat} (h : s.outstanding (.object sequence) = false) :
    s.taskDone (.object sequence) = s.sealOn 12 sequence :=
  if_neg (Bool.not_eq_true _ ▸ h)

theorem State.taskDone_declare {n : Fin 32} {c : CommandRef} (h : s.outstanding (.declare n c) = false) :
    s.taskDone (.declare n c) = (s.complete c .ok 0 (leBytes 8 s.cap.namespaces[n].capacity)).durable c :=
  if_neg (Bool.not_eq_true _ ▸ h)

theorem State.taskDone_delete {c : CommandRef} (h : s.outstanding (.delete c) = false) : s.taskDone (.delete c) = s.durable c :=
  if_neg (Bool.not_eq_true _ ▸ h)

theorem State.taskDone_storeArea {c : CommandRef} (h : s.outstanding (.storeArea c) = false) :
    s.taskDone (.storeArea c) = s.durable c :=
  if_neg (Bool.not_eq_true _ ▸ h)

theorem State.taskDone_read {r : Request} (h : s.outstanding (.read r) = false) : s.taskDone (.read r) = s.returnRead r :=
  if_neg (Bool.not_eq_true _ ▸ h)

theorem State.taskDone_checkpoint {n : Fin 32} {i : StoreIndex} (h : s.outstanding (.checkpoint n i) = false) :
    s.taskDone (.checkpoint n i) = s.setNs n (StoreNamespace.checkpointed i) :=
  if_neg (Bool.not_eq_true _ ▸ h)

theorem State.taskDone_deallocate : s.taskDone .deallocate = s := ite_self s

/-- Only an object and an index checkpoint change a namespace when their commands end. -/
theorem State.taskDone_namespaces (hobject : ∀ k, t ≠ .object k) (hcheckpoint : ∀ n i, t ≠ .checkpoint n i) :
    (s.taskDone t).cap.namespaces = s.cap.namespaces := by
  cases h : s.outstanding t
  case true => rw [State.taskDone_outstanding h]
  cases t with
  | object k => exact absurd rfl (hobject k)
  | declare n c => rw [State.taskDone_declare h, State.durable_cap, State.complete_cap]
  | delete c => rw [State.taskDone_delete h, State.durable_cap]
  | storeArea c => rw [State.taskDone_storeArea h, State.durable_cap]
  | read r => rw [State.taskDone_read h]; rfl
  | checkpoint n i => exact absurd rfl (hcheckpoint n i)
  | deallocate => rw [State.taskDone_deallocate]

end TaskDone
end Sys2Proof.Machine

/-! SUPPORT. Commands that read their buffer before they are answered (R318, R386), and DRIVE_DECLARE. -/
namespace Sys2Proof.Machine

section Asks
variable {s : State} {k : Command} {r : Request} {i : Instr} {ds bs : List Byte}

/-- What a command that has not been answered waits for the bytes of its buffer as. -/
def Command.askingInput (k : Command) (r : Request) (n : Nat) : WaitingCommand :=
  { opcode := k.opcode, request := r, wait := .input n, accepted := false, ring := false }

/-- The bytes end the wait, and the command's own checks decide on them in the state in which the request was let in. -/
theorem State.Lists.inputDone {n : Nat} (hl : s.Lists r ds n) (hcode : commandOf k.opcode = some k) (bs : List Byte) :
    ((s.cleared r).await k r false false (.input bs.length)).dmaDone r.channel r.token bs
      = (s.cleared r).answer k r bs.length bs false (k.onData r bs (s.judged r)) := by
  have hreq : (k.askingInput r bs.length).request = r := rfl
  have hwait : ((s.cleared r).await k r false false (.input bs.length)).host.waiting = s.host.waiting ++ [k.askingInput r bs.length] := rfl
  have hmaster : ((s.cleared r).await k r false false (.input bs.length)).host.busMaster = true := hl.quiet.1
  have hsize : (bs.length == (k.askingInput r bs.length).bytes) = true := beq_self_eq_true bs.length
  have hback : ((s.cleared r).await k r false false (.input bs.length)).setHost (fun h => { h with waiting := h.waiting.filter (fun x =>
      !((x.request.channel == r.channel && x.request.token == r.token) && x == k.askingInput r bs.length)) }) = s.cleared r := by
    simp only [State.setHost, hwait, filter_waiting hl.apart hreq]
    rfl
  unfold State.dmaDone
  simp only [hwait, find_waiting hl.apart hreq, hmaster, hsize, Bool.and_self, if_true, hback]
  simp only [State.dmaArrived, Command.askingInput, hcode, Bool.false_eq_true, if_false]
  rfl

/-- A command that reads its buffer before it is answered (R318): it awaits its list, then its bytes, and then its checks decide. -/
theorem exec_listedAsks (hi : exec i s = .next (s.settled (s.request k r))) (hcode : commandOf k.opcode = some k) (hd : k.desc = true)
    (h : s.Admits k r) (hr : k.range r = none) (hl : s.Lists r ds bs.length) (hc : k.check r bs.length (s.judged r) = .read bs.length)
    {u : State} (hu : (s.cleared r).answer k r bs.length bs false (k.onData r bs (s.judged r)) = u) (hquiet : u.noWork) :
    ∃ t x, exec i s = .next t ∧ s.AwaitsList t k r ∧ exec (.hostDmaDone r.channel r.token ds) t = .next x
      ∧ s.AwaitsBuffer x k r (.input bs.length) false ∧ exec (.hostDmaDone r.channel r.token bs) x = .next (s.settled u) := by
  have hanswer : (s.cleared r).answer k r bs.length [] false (k.check r bs.length (s.judged r))
      = (s.cleared r).await k r false false (.input bs.length) := by
    rw [hc]
    simp only [State.answer, Reply.reads, Nat.lt_irrefl, if_false]
  obtain ⟨t, ht, hwaits, hx⟩ := exec_listed hi hcode hd h hr hl hanswer (State.await_noWork (s := s.cleared r) _ _ _ _ _ hl.quiet.2)
  have hidle : s.settled ((s.cleared r).await k r false false (.input bs.length)) = (s.cleared r).await k r false false (.input bs.length) :=
    State.settle_of_outbox_nil hl.idle
  rw [hidle] at hx
  refine ⟨t, _, ht, hwaits, hx, rfl, ?_⟩
  rw [exec_hostDmaDone ((hl.inputDone hcode bs).trans hu) hquiet]
  rfl

/-- The bytes of its buffer may make it refuse the command. -/
theorem exec_listedAsksRefused (hi : exec i s = .next (s.settled (s.request k r))) (hcode : commandOf k.opcode = some k)
    (hd : k.desc = true) (h : s.Admits k r) (hr : k.range r = none) (hl : s.Lists r ds bs.length)
    (hc : k.check r bs.length (s.judged r) = .read bs.length) (hrefused : k.refused = fun _ _ s => s) {st : Status} {d : Nat}
    {out : List Byte} (hdata : k.onData r bs (s.judged r) = .refuse st d []) (hout : zeros k.results = out) :
    ∃ t x w, exec i s = .next t ∧ s.AwaitsList t k r ∧ exec (.hostDmaDone r.channel r.token ds) t = .next x
      ∧ exec (.hostDmaDone r.channel r.token bs) x = .next w ∧ s.Refuses w r st d out := by
  have hrefuse : (s.cleared r).answer k r bs.length bs false (k.onData r bs (s.judged r)) = (s.cleared r).refuse k.opcode r false st d out := by
    rw [hdata]
    simp only [State.answer, Reply.reads, Nat.not_lt_zero, if_false, State.refuseOwn, hrefused, padTo_nil, hout]
  obtain ⟨t, x, ht, hwaits, hx, -, hw⟩ := exec_listedAsks hi hcode hd h hr hl hc hrefuse (State.refuse_noWork (s := s.cleared r) hl.quiet.2)
  exact ⟨t, x, _, ht, hwaits, hx, hw, State.refuses_refuse h.fresh ..⟩

/-- The state in which a command has been accepted and has ended at once, with its results (R336). -/
def State.acceptedDone (k : Command) (r : Request) (held out : List Byte) (s : State) : State :=
  ((s.cleared r).letIn k.opcode r false .accepted 0 (padTo k.results held) 0).complete r.ref .ok 0 out

theorem State.Admits.acceptedDone {held out : List Byte} (h : s.Admits k r) (hout : out.length = k.results) :
    (s.acceptedDone k r held out).Recorded r .ok stageCompletion out
      ∧ (∀ q, q ≠ .channels → Part.Same s (s.acceptedDone k r held out) q) ∧ (s.noWork → (s.acceptedDone k r held out).noWork) := by
  have hfirst := h.firstAnswer .accepted (padTo k.results held)
  obtain ⟨e, he, -, -, hresults⟩ := hfirst.recorded
  refine ⟨⟨e.ended .ok 0 out, State.complete_recorded .ok 0 out he, rfl, rfl, padTo_of_length ?_⟩,
    fun q hq => State.complete_same _ _ _ _ hq (hfirst.same q hq), fun hw => State.complete_noWork _ _ _ _ (hfirst.quiet hw)⟩
  rw [hresults, padTo_length, hout]

/-- Such a command leaves the device untouched but for what it does at the next tick. -/
theorem State.Untouched.of_unlisted {u : State} (h : ∀ q, q ≠ .channels → q ≠ .requests → q ≠ .deferred → Part.Same s u q) :
    s.Untouched (s.settled u) := by
  refine .of_changesOnly (State.settled_changesOnly fun q hq _ _ => h q ?_ ?_ ?_)
  all_goals
    rintro rfl
    exact hq (by decide)

end Asks

/-! DRIVE_DECLARE (R386). -/

section DriveDeclare
variable {s v : State} {r : Request} {ds bs : List Byte} {o : Nat}

/-- A buffer that holds all the entries that it counts. -/
structure WholeDriveSet (bs : List Byte) : Prop where
  head    : 16 ≤ bs.length
  entries : driveOffset (driveCount bs) ≤ bs.length

variable (hwhole : WholeDriveSet bs)
include hwhole

theorem cmdDriveDeclare_reads (r : Request) (v : State) : cmdDriveDeclare.check r bs.length v = .read bs.length :=
  if_neg hwhole.head.not_gt

omit hwhole in
theorem WholeDriveSet.not_short (hwhole : WholeDriveSet bs) :
    ¬ (decide (bs.length < 16) || decide (bs.length < driveOffset (driveCount bs))) = true := by
  simp [hwhole.head, hwhole.entries]

theorem State.checkDrives_outOfRange (hrange : driveRange bs = some o) (v : State) :
    v.checkDrives bs = .refuse .errRange (detailBuffer o) [] := by
  simp only [State.checkDrives, if_neg hwhole.not_short, hrange]

theorem State.checkDrives_conflicting (hrange : driveRange bs = none) (hconflict : v.driveConflict bs = some o) :
    v.checkDrives bs = .refuse .errConflict o [] := by
  simp only [State.checkDrives, if_neg hwhole.not_short, hrange, hconflict]

theorem State.checkDrives_sound (hrange : driveRange bs = none) (hconflict : v.driveConflict bs = none) :
    v.checkDrives bs = .acceptDone [] [] := by
  simp only [State.checkDrives, if_neg hwhole.not_short, hrange, hconflict]

theorem driveDeclare_sound (h : s.Admits cmdDriveDeclare r) (hl : s.Lists r ds bs.length) (hv : v = s.judged r)
    (hrange : driveRange bs = none) (hconflict : v.driveConflict bs = none) :
    ∃ t u w, exec (.driveDeclare r) s = .next t ∧ s.AwaitsList t cmdDriveDeclare r
      ∧ exec (.hostDmaDone r.channel r.token ds) t = .next u ∧ s.AwaitsBuffer u cmdDriveDeclare r (.input bs.length) false
      ∧ exec (.hostDmaDone r.channel r.token bs) u = .next w ∧ w.Recorded r .ok stageCompletion [] ∧ s.Untouched w
      ∧ w.deferred = s.deferred ++ [⟨0x080A, r, bs⟩]
      ∧ (v.carryOut ⟨0x080A, r, bs⟩).cap = { v.cap with drivesHeld := driveSetOf bs, drivesDurable := driveSetOf bs } := by
  subst hv
  obtain ⟨hrecorded, hsame, hquiet⟩ := h.acceptedDone (held := []) (out := []) rfl
  have hanswer : (s.cleared r).answer cmdDriveDeclare r bs.length bs false (cmdDriveDeclare.onData r bs (s.judged r))
      = (s.acceptedDone cmdDriveDeclare r [] []).perform cmdDriveDeclare r bs.length bs := by
    have hdata : cmdDriveDeclare.onData r bs (s.judged r) = .acceptDone [] [] := State.checkDrives_sound hwhole hrange hconflict
    rw [hdata]
    rfl
  obtain ⟨t, u, ht, hwaits, hu, hbuffer, hw⟩ := exec_listedAsks (i := .driveDeclare r) rfl rfl rfl h rfl hl
    (cmdDriveDeclare_reads hwhole r _) hanswer ((hquiet hl.quiet.2).of_chan fun _ => rfl)
  refine ⟨t, u, _, ht, hwaits, hu, hbuffer, hw, ?_, ?_, ?_, ?_⟩
  · obtain ⟨e, he, hrest⟩ := hrecorded
    exact ⟨e, by rw [State.settled_recorded, State.perform_chan rfl, he], hrest⟩
  · exact .of_unlisted fun q hchan _ hdeferred => Part.Same.withDeferred _ hdeferred (hsame q hchan)
  · rw [State.settled_deferred, State.perform_deferred rfl, hsame .deferred (by decide)]
    rfl
  · exact State.commit_cap r.ref _

theorem driveDeclare_refused (h : s.Admits cmdDriveDeclare r) (hl : s.Lists r ds bs.length) {st : Status} {d : Nat}
    (hdata : (s.judged r).checkDrives bs = .refuse st d []) :
    ∃ t u w, exec (.driveDeclare r) s = .next t ∧ s.AwaitsList t cmdDriveDeclare r
      ∧ exec (.hostDmaDone r.channel r.token ds) t = .next u ∧ exec (.hostDmaDone r.channel r.token bs) u = .next w
      ∧ s.Refuses w r st d [] :=
  exec_listedAsksRefused (i := .driveDeclare r) rfl rfl rfl h rfl hl (cmdDriveDeclare_reads hwhole r _) rfl hdata rfl

/-- DRIVE_DECLARE (R386). -/
theorem driveDeclare_answers (h : s.Admits cmdDriveDeclare r) (hl : s.Lists r ds bs.length) (hv : v = s.judged r) :
    (driveRange bs = none → v.driveConflict bs = none → ∃ t u w, exec (.driveDeclare r) s = .next t ∧ s.AwaitsList t cmdDriveDeclare r
      ∧ exec (.hostDmaDone r.channel r.token ds) t = .next u ∧ s.AwaitsBuffer u cmdDriveDeclare r (.input bs.length) false
      ∧ exec (.hostDmaDone r.channel r.token bs) u = .next w ∧ w.Recorded r .ok stageCompletion [] ∧ s.Untouched w
      ∧ w.deferred = s.deferred ++ [⟨0x080A, r, bs⟩]
      ∧ (v.carryOut ⟨0x080A, r, bs⟩).cap = { v.cap with drivesHeld := driveSetOf bs, drivesDurable := driveSetOf bs }) ∧
    (∀ o, driveRange bs = some o → ∃ t u w, exec (.driveDeclare r) s = .next t ∧ s.AwaitsList t cmdDriveDeclare r
      ∧ exec (.hostDmaDone r.channel r.token ds) t = .next u ∧ exec (.hostDmaDone r.channel r.token bs) u = .next w
      ∧ s.Refuses w r .errRange (0x80000000 + o) []) ∧
    (∀ o, driveRange bs = none → v.driveConflict bs = some o → ∃ t u w, exec (.driveDeclare r) s = .next t ∧ s.AwaitsList t cmdDriveDeclare r
      ∧ exec (.hostDmaDone r.channel r.token ds) t = .next u ∧ exec (.hostDmaDone r.channel r.token bs) u = .next w
      ∧ s.Refuses w r .errConflict o []) := by
  refine ⟨driveDeclare_sound hwhole h hl hv, fun o hrange => ?_, fun o hrange hconflict => ?_⟩
  · exact driveDeclare_refused hwhole h hl (State.checkDrives_outOfRange hwhole hrange _)
  · exact driveDeclare_refused hwhole h hl (State.checkDrives_conflicting hwhole hrange (hv ▸ hconflict))

end DriveDeclare
end Sys2Proof.Machine

/-! SUPPORT. NAMESPACE_DECLARE, NAMESPACE_DELETE and STORE_STATUS (R233, R387, R388, R389). -/
namespace Sys2Proof.Machine

section Named
variable {r : Request} {n : Fin 32}

theorem nsField_eq (hn : r.u 0 1 = n.val) : nsField r = n := by
  rw [nsField, hn, Fin.ofNat_val_eq_self]

theorem nsRange_none (hz : r.zero 1 3 = true) (hn : r.u 0 1 = n.val) : nsRange r = none := by
  simp [nsRange, firstBad_eq_none, hz, hn]
  omega

end Named

/-! NAMESPACE_DECLARE (R233, R387). -/

section Declare
variable {s v : State} {r : Request} {n : Fin 32}

theorem cmdNamespaceDeclare_actsLater : cmdNamespaceDeclare.ActsLater := ⟨rfl, rfl, rfl, rfl⟩

theorem carryOut_namespaceDeclare (s : State) (r : Request) : s.carryOut ⟨0x080B, r, []⟩ = s.declareNamespace r := rfl

/-- What NAMESPACE_DECLARE asks for conflicts with what is declared (R233, R387). -/
def State.namespaceConflict (r : Request) (s : State) : Bool :=
  s.cap.namespaces[nsField r].mode != .undeclared || !noRepeats ((nsMembers r).map (·.1))
    || (nsMembers r).any (fun m => s.extents.any (fun x => x.1 == m.1 && x.2.1 < m.2 + r.u 8 8 && m.2 < x.2.1 + x.2.2))
    || (nsMembers r).any (fun m => !s.cap.drives.entries.any (fun e => e.drive == m.1))
    || 2 ^ 48 < ((s.cap.namespaces.toList.filter (fun x => x.mode != .undeclared)).map StoreNamespace.capacity).sum
      + (declaredNamespace r).capacity

/-- Extents that end inside their drives are judged by what is declared. -/
theorem State.checkNamespace_fits (hon : s.domainOn 51 = true)
    (hfits : ∀ m ∈ nsMembers r, ∀ e ∈ s.cap.drives.entries, e.drive = m.1 → m.2 + r.u 8 8 ≤ e.capacity.toNat) :
    s.checkNamespace r = if s.namespaceConflict r then .refuse .errConflict 0 [] else .accept [] := by
  unfold State.checkNamespace
  extract_lets ms extent passes overlaps missing total
  have hpasses : passes = none := by
    refine List.find?_eq_none.2 fun i _ => ?_
    split
    case h_1 m hm =>
      simp only [List.any_eq_true, Bool.and_eq_true, beq_iff_eq, decide_eq_true_eq, not_exists, not_and, Nat.not_lt]
      exact fun e he hdrive => hfits m (List.mem_of_getElem? hm) e he hdrive
    case h_2 => exact Bool.false_ne_true
  simp only [hon, hpasses, Bool.not_true, Bool.false_eq_true, if_false]
  rfl

theorem State.namespaceConflict_declared (hn : nsField r = n) (hmode : s.cap.namespaces[n].mode ≠ .undeclared) :
    s.namespaceConflict r = true := by
  have hdeclared : (s.cap.namespaces[nsField r].mode != .undeclared) = true := bne_iff_ne.2 (hn ▸ hmode)
  rw [State.namespaceConflict, hdeclared]
  rfl

/-- Distinct declared drives, extents apart from the declared ones, and room within the capacity. -/
theorem State.namespaceConflict_none (hn : nsField r = n) (hmode : s.cap.namespaces[n].mode = .undeclared)
    (hrepeats : noRepeats ((nsMembers r).map (·.1)) = true)
    (hmembers : ∀ m ∈ nsMembers r, (∃ e ∈ s.cap.drives.entries, e.drive = m.1)
      ∧ ∀ x ∈ s.extents, x.1 = m.1 → x.2.1 + x.2.2 ≤ m.2 ∨ m.2 + r.u 8 8 ≤ x.2.1)
    (htotal : ((s.cap.namespaces.toList.filter (fun x => x.mode != .undeclared)).map StoreNamespace.capacity).sum
      + (declaredNamespace r).capacity ≤ 2 ^ 48) : s.namespaceConflict r = false := by
  subst hn
  have hundeclared : (s.cap.namespaces[nsField r].mode != .undeclared) = false := bne_eq_false_iff_eq.2 hmode
  have hoverlaps : (nsMembers r).any (fun m => s.extents.any (fun x => x.1 == m.1 && x.2.1 < m.2 + r.u 8 8 && m.2 < x.2.1 + x.2.2)) = false := by
    simp only [List.any_eq_false, Bool.and_eq_true, beq_iff_eq, decide_eq_true_eq, not_and, Nat.not_lt, List.any_eq_true, not_exists]
    rintro m hm x hx ⟨hdrive, hlow⟩
    have := (hmembers m hm).2 x hx hdrive
    omega
  have hmissing : (nsMembers r).any (fun m => !s.cap.drives.entries.any (fun e => e.drive == m.1)) = false := by
    simpa using fun m hm => (hmembers m hm).1
  rw [State.namespaceConflict, hundeclared, hrepeats, hoverlaps, hmissing, decide_eq_false htotal.not_gt]
  rfl

/-- On drives that can be written the declared namespace stands as it is declared. -/
theorem State.declareNamespace_namespaces (hn : nsField r = n)
    (husable : ∀ m ∈ nsMembers r, s.cap.driveFailed[m.1] = false ∧ s.cap.driveBad[m.1] = false) :
    (s.declareNamespace r).cap.namespaces = s.cap.namespaces.set n { declaredNamespace r with mode := .ok } := by
  subst hn
  unfold State.declareNamespace
  extract_lets n kept declared lost
  have hdeclared : declared.cap = (((s.keepOld r.ref (.namespace_ n s.cap.namespaces[n])).setNs n (fun _ => declaredNamespace r)).setNs n
      (fun x => { x with mode := .ok })).cap := State.setNsMode_cap ..
  have hlost : lost = declared := by
    refine List.foldlRecOn (nsMembers r) _ (motive := fun u : State => u = declared) rfl fun u hu m hm => ?_
    obtain ⟨hfailed, hbad⟩ := husable m hm
    subst hu
    refine if_neg ?_
    rw [hdeclared]
    have hnone : (s.cap.driveFailed[m.1] || s.cap.driveBad[m.1]) = false := by rw [hfailed, hbad]; rfl
    exact fun h => Bool.false_ne_true (hnone.symm.trans h)
  rw [State.taskDone_namespaces (t := .declare n r.ref) nofun nofun, State.issueNvme_namespaces, hlost, hdeclared]
  simp [State.setNs, State.keepOld]
  rfl

/-- NAMESPACE_DECLARE (R387). -/
theorem namespaceDeclare_answers (h : s.Admits cmdNamespaceDeclare r) (hr : nsDeclareRange r = none) (hn : r.u 0 1 = n.val)
    (hv : v = s.judged r) (hon : v.domainOn 51 = true)
    (hfits : ∀ m ∈ nsMembers r, ∀ e ∈ v.cap.drives.entries, e.drive = m.1 → m.2 + r.u 8 8 ≤ e.capacity.toNat) :
    (v.cap.namespaces[n].mode = .undeclared → noRepeats ((nsMembers r).map (·.1)) = true →
      (∀ m ∈ nsMembers r, (∃ e ∈ v.cap.drives.entries, e.drive = m.1) ∧ v.cap.driveFailed[m.1] = false ∧ v.cap.driveBad[m.1] = false
        ∧ ∀ x ∈ v.extents, x.1 = m.1 → x.2.1 + x.2.2 ≤ m.2 ∨ m.2 + r.u 8 8 ≤ x.2.1) →
      ((v.cap.namespaces.toList.filter (fun x => x.mode != .undeclared)).map StoreNamespace.capacity).sum + (declaredNamespace r).capacity ≤ 2 ^ 48 →
      ∃ t, exec (.namespaceDeclare r) s = .next t ∧ s.Answers t r .accepted (zeros 8) (some 0x080B)
        ∧ (v.carryOut ⟨0x080B, r, []⟩).cap.namespaces = v.cap.namespaces.set n { declaredNamespace r with mode := .ok }
        ∧ (declaredNamespace r).members = nsMembers r ∧ (declaredNamespace r).extent = r.u 8 8 ∧ (declaredNamespace r).retain = r.u 4 4
        ∧ (declaredNamespace r).mirror = decide (r.u 1 1 = 1)) ∧
    (v.cap.namespaces[n].mode ≠ .undeclared → ∃ t, exec (.namespaceDeclare r) s = .next t ∧ s.Refuses t r .errConflict 0 (zeros 8)) := by
  subst hv
  have hfield := nsField_eq hn
  have hcheck := State.checkNamespace_fits hon hfits
  refine ⟨fun hmode hrepeats hmembers htotal => ?_, fun hmode => ?_⟩
  · rw [State.namespaceConflict_none hfield hmode hrepeats
      (fun m hm => have ⟨hdeclared, _, _, hapart⟩ := hmembers m hm; ⟨hdeclared, hapart⟩) htotal] at hcheck
    obtain ⟨t, ht, ha⟩ := exec_answersAccepted (i := .namespaceDeclare r) cmdNamespaceDeclare_actsLater rfl h hr hcheck (padTo_nil _)
    exact ⟨t, ht, ha, (congrArg (·.cap.namespaces) (carryOut_namespaceDeclare ..)).trans <| State.declareNamespace_namespaces hfield
      (fun m hm => have ⟨_, hfailed, hbad, _⟩ := hmembers m hm; ⟨hfailed, hbad⟩), rfl, rfl, rfl, rfl⟩
  · rw [State.namespaceConflict_declared hfield hmode] at hcheck
    exact exec_refuses (i := .namespaceDeclare r) cmdNamespaceDeclare_actsLater rfl h hr hcheck rfl

end Declare

/-! NAMESPACE_DELETE (R388). -/

section Delete
variable {s v : State} {r : Request} {n : Fin 32}

theorem cmdNamespaceDelete_actsLater : cmdNamespaceDelete.ActsLater := ⟨rfl, rfl, rfl, rfl⟩

theorem carryOut_namespaceDelete (s : State) (r : Request) : s.carryOut ⟨0x080C, r, []⟩ = s.deleteNamespace (nsField r) r.ref := rfl

/-- A namespace that is not declared. -/
def StoreNamespace.blank : StoreNamespace := { (default : StoreNamespace) with mode := .undeclared }

theorem State.deleteNamespace_namespaces (n : Fin 32) (c : CommandRef) (s : State) :
    (s.deleteNamespace n c).cap.namespaces = s.cap.namespaces.set n .blank := by
  unfold State.deleteNamespace
  extract_lets area kept keys dropped closed blank deleted
  have hclosed : closed.cap.namespaces = s.cap.namespaces := State.dropKeys_namespaces keys kept
  have hmode : (closed.setNsMode n .undeclared).cap.namespaces
      = (closed.setNs n (fun x => { x with mode := .undeclared })).cap.namespaces := by rw [State.setNsMode_cap]
  have hdeleted : deleted.cap.namespaces = (closed.setNsMode n .undeclared).cap.namespaces.set n .blank := rfl
  rw [State.taskDone_namespaces (t := .delete c) nofun nofun, State.issueNvme_namespaces, State.complete_cap, hdeleted, hmode]
  simp [State.setNs, hclosed]

theorem State.namespaceBusy_of_capture (h : ∃ x ∈ s.cap.captures, x.entry.namespace_ = n) : s.namespaceBusy n = true := by
  have hany : s.cap.captures.any (fun c => c.entry.namespace_ == n) = true := by simpa using h
  simp only [State.namespaceBusy, hany, Bool.or_true, Bool.true_or]

/-- NAMESPACE_DELETE (R388). -/
theorem namespaceDelete_answers (h : s.Admits cmdNamespaceDelete r) (hz : r.zero 1 3 = true) (hn : r.u 0 1 = n.val)
    (hv : v = s.judged r) (hon : v.domainOn 51 = true) :
    (v.namespaceBusy n = false → (∀ o ∈ v.cap.namespaces[n].objects, o.pinned = false) → ∃ t, exec (.namespaceDelete r) s = .next t
      ∧ s.Answers t r .accepted [] (some 0x080C) ∧ (v.carryOut ⟨0x080C, r, []⟩).cap.namespaces[n].mode = .undeclared
      ∧ (v.carryOut ⟨0x080C, r, []⟩).cap.namespaces[n].objects = []
      ∧ ∀ k : Fin 32, k ≠ n → (v.carryOut ⟨0x080C, r, []⟩).cap.namespaces[k] = v.cap.namespaces[k]) ∧
    (∀ o ∈ v.cap.namespaces[n].objects, o.pinned = true → v.namespaceBusy n = false → ∃ t, exec (.namespaceDelete r) s = .next t
      ∧ s.Refuses t r .errConflict 0 []) ∧
    ((∃ x ∈ v.cap.captures, x.entry.namespace_ = n) → ∃ t, exec (.namespaceDelete r) s = .next t ∧ s.Refuses t r .errState 0 []) := by
  subst hv
  have hr : cmdNamespaceDelete.range r = none := nsRange_none hz hn
  obtain rfl := nsField_eq hn
  have hk := cmdNamespaceDelete_actsLater
  refine ⟨fun hidle hpins => ?_, fun o ho hpin hidle => ?_, fun hopen => ?_⟩
  · have hnone : (s.judged r).cap.namespaces[nsField r].objects.any (fun o => o.pinned) = false := by simpa using hpins
    obtain ⟨t, ht, ha⟩ := exec_answersAccepted (i := .namespaceDelete r) (res := []) hk rfl h hr
      (by simp only [cmdNamespaceDelete, hon, hidle, hnone, Bool.not_true, Bool.or_self, Bool.false_eq_true, if_false]) rfl
    have hdeleted := State.deleteNamespace_namespaces (nsField r) r.ref (s.judged r)
    rw [carryOut_namespaceDelete, hdeleted]
    exact ⟨t, ht, ha, congrArg StoreNamespace.mode (Vector.getElem_set_self ..), congrArg StoreNamespace.objects (Vector.getElem_set_self ..),
      fun k hk => Vector.getElem_set_ne (nsField r).isLt k.isLt fun e => hk (Fin.ext e.symm)⟩
  · have hany : (s.judged r).cap.namespaces[nsField r].objects.any (fun o => o.pinned) = true := List.any_eq_true.2 ⟨o, ho, hpin⟩
    exact exec_refuses (i := .namespaceDelete r) hk rfl h hr
      (by simp only [cmdNamespaceDelete, hon, hidle, hany, Bool.not_true, Bool.or_self, Bool.false_eq_true, if_false, if_true]) rfl
  · exact exec_refuses (i := .namespaceDelete r) hk rfl h hr
      (by simp only [cmdNamespaceDelete, State.namespaceBusy_of_capture hopen, Bool.or_true, if_true]) rfl

end Delete

/-- STORE_STATUS (R389). -/
theorem storeStatus_answers {s v : State} {r : Request} {n : Fin 32} (h : s.Admits cmdStoreStatus r) (hz : r.zero 1 3 = true)
    (hn : r.u 0 1 = n.val) (hv : v = s.judged r) :
    ∃ t, exec (.storeStatus r) s = .next t ∧ s.Answers t r .ok (padTo 64 (v.storeStatus n)) none := by
  subst hv
  exact exec_reports ⟨rfl, rfl⟩ rfl h rfl (nsRange_none hz hn) rfl (congrArg (fun n => Reply.done ((s.judged r).storeStatus n)) (nsField_eq hn))
    rfl

end Sys2Proof.Machine

/-! SUPPORT. OBJECT_LIST, OBJECT_READ and OBJECT_PIN (R234, R235, R390, R391, R392), and the statement about the store commands. -/
namespace Sys2Proof.Machine

/-! OBJECT_LIST (R390). -/

/-- A command that is accepted with nothing to write to its buffer ends at once (R336). -/
theorem exec_listedReturnsNone {s : State} {k : Command} {r : Request} {i : Instr} {ds : List Byte} {n : Nat}
    (hi : exec i s = .next (s.settled (s.request k r))) (hcode : commandOf k.opcode = some k) (hd : k.desc = true) (h : s.Admits k r)
    (hr : k.range r = none) (hl : s.Lists r ds n) (hk : k.ActsAtOnce) (hnow : k.now = fun _ _ s => s) {results out : List Byte}
    (hc : k.check r n (s.judged r) = .acceptWrite [] results) (hout : padTo k.results results = out) :
    ∃ t u, exec i s = .next t ∧ s.AwaitsList t k r ∧ exec (.hostDmaDone r.channel r.token ds) t = .next u
      ∧ u.Recorded r .ok stageCompletion out ∧ s.Untouched u := by
  have hfirst := h.firstAnswer .accepted (zeros k.results)
  obtain ⟨e, he, -, -, hresults⟩ := hfirst.recorded
  have hanswer : (s.cleared r).answer k r n [] false (k.check r n (s.judged r))
      = (((s.cleared r).letIn k.opcode r false .accepted 0 (zeros k.results) 0).noteApplied r.ref).complete r.ref .ok 0 out := by
    rw [hc, ← hout, ← padTo_nil k.results]
    simp only [State.answer, Reply.reads, Nat.not_lt_zero, if_false, List.isEmpty_nil, if_true, State.perform_atOnce hk.later, hnow]
  obtain ⟨t, ht, hwaits, hu⟩ := exec_listed hi hcode hd h hr hl hanswer
    (State.complete_noWork _ _ _ _ (State.noteApplied_noWork r.ref (hfirst.quiet hl.quiet.2)))
  refine ⟨t, _, ht, hwaits, hu, ⟨e.ended .ok 0 out, ?_, rfl, rfl, padTo_of_length ?_⟩, .of_unlisted fun q hchan _ _ =>
    State.complete_same _ _ _ _ hchan (State.noteApplied_same _ (hfirst.same q hchan))⟩
  · rw [State.settled_recorded]
    exact State.complete_recorded .ok 0 out ((congrArg (·.recorded r.token) (State.noteApplied_chan ..)).trans he)
  · rw [hresults, ← hout, padTo_length, zeros, List.length_replicate]

section ObjectList
variable {s v : State} {r : Request}

theorem cmdObjectList_actsAtOnce : cmdObjectList.ActsAtOnce := ⟨rfl, rfl⟩

/-- The known sequences that OBJECT_LIST asks for (R390). -/
def State.listedObjects (r : Request) (s : State) : List (Nat × Nat × List Byte) :=
  (s.knownObjects.filter (fun x => decide (r.u 8 8 ≤ x.1) && (r.u 20 1 == 255 || r.u 20 1 == x.2.1))).take (r.u 16 4)

theorem cmdObjectList_writes {n : Nat} (hfits : ((v.listedObjects r).flatMap (fun x => x.2.2)).length ≤ n) : cmdObjectList.check r n v
    = .acceptWrite ((v.listedObjects r).flatMap (fun x => x.2.2)) (leBytes 4 (v.listedObjects r).length) :=
  if_neg hfits.not_gt

theorem cmdObjectList_short {n : Nat} (hshort : n < ((v.listedObjects r).flatMap (fun x => x.2.2)).length) :
    cmdObjectList.check r n v = .refuse .errLength detailList [] :=
  if_pos hshort

/-- OBJECT_LIST (R390). -/
theorem objectList_answers {ds : List Byte} {n : Nat} {xs : List (Nat × Nat × List Byte)} (h : s.Admits cmdObjectList r)
    (hr : cmdObjectList.range r = none) (hl : s.Lists r ds n) (hv : v = s.judged r) (hxs : xs = v.listedObjects r) :
    ((xs.flatMap (fun x => x.2.2)).length ≤ n → xs.flatMap (fun x => x.2.2) ≠ [] → ∃ t u, exec (.objectList r) s = .next t
      ∧ s.AwaitsList t cmdObjectList r ∧ exec (.hostDmaDone r.channel r.token ds) t = .next u
      ∧ s.Returns u cmdObjectList r (xs.flatMap (fun x => x.2.2)) (leBytes 4 xs.length ++ zeros 4)) ∧
    (xs = [] → ∃ t u, exec (.objectList r) s = .next t ∧ s.AwaitsList t cmdObjectList r
      ∧ exec (.hostDmaDone r.channel r.token ds) t = .next u ∧ u.Recorded r .ok stageCompletion (zeros 8) ∧ s.Untouched u) ∧
    (n < (xs.flatMap (fun x => x.2.2)).length → ∃ t u, exec (.objectList r) s = .next t ∧ s.AwaitsList t cmdObjectList r
      ∧ exec (.hostDmaDone r.channel r.token ds) t = .next u ∧ s.Refuses u r .errLength 0xFFFFFFFD (zeros 8)) := by
  subst hv hxs
  refine ⟨fun hfits hsome => ?_, fun hnone => ?_, fun hshort => ?_⟩
  · exact exec_listedReturns (i := .objectList r) rfl rfl rfl h hr hl cmdObjectList_actsAtOnce rfl (cmdObjectList_writes hfits) hsome
      (padTo_of_le (by simp [cmdObjectList, Command.base]))
  · have hc := cmdObjectList_writes (r := r) (v := s.judged r) (n := n) (by simp [hnone])
    rw [hnone] at hc
    exact exec_listedReturnsNone (i := .objectList r) rfl rfl rfl h hr hl cmdObjectList_actsAtOnce rfl hc rfl
  · exact exec_listedRefused (i := .objectList r) rfl rfl rfl h hr hl rfl (cmdObjectList_short hshort) rfl

end ObjectList

/-! OBJECT_READ (R391). -/

section ObjectRead
variable {s u v : State} {r : Request} {ds : List Byte} {n : Nat} {k : Fin 32} {o : StoredObject}

theorem cmdObjectRead_actsAtOnce : cmdObjectRead.ActsAtOnce := ⟨rfl, rfl⟩

/-- The bytes that a read gives are those of the object that is found. -/
theorem State.readBytes_found (h : s.findObject (r.u 8 8) = some (k, o)) :
    s.readBytes r = padTo (r.u 24 4) ((o.content.drop (r.u 16 8)).take (r.u 24 4)) := by
  have hfound : (List.finRange 32).findSome? (fun n => s.cap.namespaces[n].objects.find? (fun o => o.sequence == r.u 8 8)) = some o := by
    have hsecond := congrArg (Option.map Prod.snd) h
    rw [State.findObject, List.map_findSome?] at hsecond
    simpa [Function.comp_def] using hsecond
  rw [State.readBytes, hfound]

/-- The commands of a read are at the drives, or, where none is needed, its bytes go to the host. -/
theorem State.startRead_found (h : s.findObject (r.u 8 8) = some (k, o)) : ∃ xs, s.startRead r = (s.issueNvme (.read r) xs).taskDone (.read r) := by
  unfold State.startRead
  rw [h]
  exact ⟨_, rfl⟩

theorem State.startRead_none (h : s.findObject (r.u 8 8) = none) : s.startRead r = s := by
  unfold State.startRead
  rw [h]

theorem State.returnRead_same (r : Request) {q : Part} (hreq : q ≠ .requests) (h : Part.Same s u q) : Part.Same s (u.returnRead r) q :=
  State.setHost_keeps _ (fun _ => rfl) (fun e => absurd e hreq) (fun _ => rfl) h

/-- A read changes the store, the requests and no channel. -/
theorem State.startRead_keeps (r : Request) (u : State) : (∀ s q, q ≠ .requests → q ≠ .cap → Part.Same s u q → Part.Same s (u.startRead r) q)
    ∧ ∀ j, (u.startRead r).chan j = u.chan j := by
  cases hfind : u.findObject (r.u 8 8) with
  | none =>
    rw [State.startRead_none hfind]
    exact ⟨fun _ _ _ _ h => h, fun _ => rfl⟩
  | some x =>
    obtain ⟨xs, hstart⟩ := State.startRead_found (k := x.1) (o := x.2) hfind
    rw [hstart]
    cases hout : (u.issueNvme (.read r) xs).outstanding (.read r)
    case true =>
      rw [State.taskDone_outstanding hout]
      exact ⟨fun _ _ _ hcap h => State.issueNvme_same hcap _ _ h, fun _ => rfl⟩
    case false =>
      rw [State.taskDone_read hout]
      exact ⟨fun _ _ hreq hcap h => State.returnRead_same r hreq (State.issueNvme_same hcap _ _ h), fun _ => rfl⟩

/-- A read of a found object is outstanding, or waits for the host to take its bytes. -/
theorem State.startRead_goesOn (h : u.findObject (r.u 8 8) = some (k, o)) (hwaiting : u.host.waiting = s.host.waiting) :
    (u.startRead r).outstanding (.read r) = true
      ∨ s.AwaitsBuffer (u.startRead r) cmdObjectRead r (.output (padTo (r.u 24 4) ((o.content.drop (r.u 16 8)).take (r.u 24 4)))
        (leBytes 4 (r.u 24 4) ++ zeros 4)) true := by
  obtain ⟨xs, hstart⟩ := State.startRead_found h
  rw [hstart]
  cases hout : (u.issueNvme (.read r) xs).outstanding (.read r)
  case true => exact .inl (by rw [State.taskDone_outstanding hout, hout])
  case false =>
    have hfound : (u.issueNvme (.read r) xs).findObject (r.u 8 8) = some (k, o) := by
      rw [← h, State.findObject, State.issueNvme_namespaces, State.findObject]
    refine .inr ?_
    rw [State.taskDone_read hout, State.AwaitsBuffer, ← hwaiting, ← State.readBytes_found hfound]
    rfl

theorem cmdObjectRead_accepts (hon : v.domainOn 51 = true) (hfound : v.findObject (r.u 8 8) = some (k, o))
    (hinside : r.u 16 8 + r.u 24 4 ≤ o.length) (hfits : r.u 24 4 ≤ n) : cmdObjectRead.check r n v = .accept [] := by
  simp only [cmdObjectRead, hon, hfound, Bool.not_true, Bool.false_eq_true, if_false, if_neg hinside.not_gt, if_neg hfits.not_gt]

/-- OBJECT_READ (R391). -/
theorem objectRead_answers (h : s.Admits cmdObjectRead r) (hr : cmdObjectRead.range r = none) (hl : s.Lists r ds n)
    (hv : v = s.judged r) (hon : v.domainOn 51 = true) :
    (∀ k o, v.findObject (r.u 8 8) = some (k, o) → r.u 16 8 + r.u 24 4 ≤ o.length → r.u 24 4 ≤ n → ∃ t u, exec (.objectRead r) s = .next t
      ∧ s.AwaitsList t cmdObjectRead r ∧ exec (.hostDmaDone r.channel r.token ds) t = .next u ∧ u.Recorded r .accepted 0 (zeros 8)
      ∧ s.ChangesOnly u [.channels, .requests, .cap] ∧ (s.deferred = [] → u.outstanding (.read r) = true
        ∨ s.AwaitsBuffer u cmdObjectRead r (.output (padTo (r.u 24 4) ((o.content.drop (r.u 16 8)).take (r.u 24 4)))
            (leBytes 4 (r.u 24 4) ++ zeros 4)) true)) ∧
    (v.findObject (r.u 8 8) = none → v.openCapture (r.u 8 8) = none → ∃ t u, exec (.objectRead r) s = .next t
      ∧ s.AwaitsList t cmdObjectRead r ∧ exec (.hostDmaDone r.channel r.token ds) t = .next u ∧ s.Refuses u r .errRange 8 (zeros 8)) ∧
    (∀ c, v.findObject (r.u 8 8) = none → v.openCapture (r.u 8 8) = some c → r.u 16 8 + r.u 24 4 ≤ c.length → ∃ t u, exec (.objectRead r) s = .next t
      ∧ s.AwaitsList t cmdObjectRead r ∧ exec (.hostDmaDone r.channel r.token ds) t = .next u ∧ s.Refuses u r .errState 0 (zeros 8)) := by
  subst hv
  refine ⟨fun k o hfound hinside hfits => ?_, fun hnone hclosed => ?_, fun c hnone hopen hinside => ?_⟩
  · obtain ⟨t, u, ht, hwaits, hfirst, hu⟩ := exec_listedAccepts (i := .objectRead r) rfl rfl rfl h hr hl cmdObjectRead_actsAtOnce (res := [])
      (out := zeros 8) (cmdObjectRead_accepts hon hfound hinside hfits) rfl fun u hw => hw.of_chan (State.startRead_keeps r u).2
    obtain ⟨hsame, hchan⟩ := State.startRead_keeps r u
    obtain ⟨hrecorded, hchanges⟩ := hfirst.settled (w := u.startRead r) (ps := [.channels, .requests, .cap])
      (by rw [State.entry, hchan]; rfl) fun q hq => by
        obtain ⟨hchan, hreq, hcap⟩ : q ≠ .channels ∧ q ≠ .requests ∧ q ≠ .cap := by simpa using hq
        exact hsame s q hreq hcap (hfirst.same q hchan)
    refine ⟨t, _, ht, hwaits, hu, hrecorded, hchanges, fun hidle => ?_⟩
    have hcap : u.cap = s.cap := hfirst.same .cap (by decide)
    have hufound : u.findObject (r.u 8 8) = some (k, o) := by
      rw [← hfound, State.judged_idle hidle, State.findObject, State.findObject, hcap]
      rfl
    refine (State.startRead_goesOn hufound (hfirst.same .requests (by decide)).1).imp (fun hout => ?_) fun hbuffer => ?_
    · rw [← hout, State.outstanding, State.settled_cap]
      exact congrArg (fun c : CaptureState => c.commands.any (fun b => b.task == .read r) || c.queued.any (fun b => b.task == .read r))
        (State.noteApplied_cap ..)
    · rw [State.AwaitsBuffer, State.settled_host_waiting]
      exact (State.noteApplied_waiting ..).trans hbuffer
  · exact exec_listedRefused (i := .objectRead r) rfl rfl rfl h hr hl rfl
      (by simp only [cmdObjectRead, hon, hnone, hclosed, Bool.not_true, Bool.false_eq_true, if_false]) rfl
  · exact exec_listedRefused (i := .objectRead r) rfl rfl rfl h hr hl rfl
      (by simp only [cmdObjectRead, hon, hnone, hopen, Bool.not_true, Bool.false_eq_true, if_false, if_neg hinside.not_gt]) rfl

end ObjectRead

/-! OBJECT_PIN (R234, R235, R392). -/

section ObjectPin
variable {s v : State} {r : Request} {k : Fin 32} {o : StoredObject}

theorem cmdObjectPin_actsLater : cmdObjectPin.ActsLater := ⟨rfl, rfl, rfl, rfl⟩

theorem carryOut_objectPin (s : State) (r : Request) : s.carryOut ⟨0x0810, r, []⟩ = s.applyPin r := rfl

theorem State.objectNamespace_found {q : Nat} (h : s.findObject q = some (k, o)) : s.objectNamespace q = some k := by
  rw [State.objectNamespace, h]

/-- A pinned or unpinned object stands in its namespace as it was but for PINNED. -/
theorem State.applyPin_pins (hfound : s.findObject (r.u 0 8) = some (k, o)) (hop : r.u 8 1 ≤ 1) :
    (s.applyPin r).cap.namespaces = (s.pinObject (r.u 0 8) (decide (r.u 8 1 = 0))).cap.namespaces := by
  unfold State.applyPin
  simp only [State.objectNamespace_found hfound, hfound]
  rw [State.taskDone_namespaces (t := .storeArea r.ref) nofun nofun, State.issueNvme_namespaces, State.complete_cap]
  obtain hop | hop : r.u 8 1 = 0 ∨ r.u 8 1 = 1 := by omega
  · simp only [hop]; rfl
  · simp only [hop]; rfl

theorem State.pinObject_pinned (q : Nat) (on : Bool) (n : Fin 32) (s : State) :
    ∀ x ∈ (s.pinObject q on).cap.namespaces[n].objects, x.sequence = q → x.pinned = on := by
  intro x hx hseq
  simp only [State.pinObject, State.setCap_cap, Fin.getElem_fin, Vector.getElem_map, List.mem_map] at hx
  obtain ⟨y, -, rfl⟩ := hx
  split
  case isTrue => rfl
  case isFalse hne =>
    rw [if_neg hne] at hseq
    exact absurd (beq_iff_eq.2 hseq) hne

/-- A released object leaves its namespace. -/
theorem State.applyPin_releases (hfound : s.findObject (r.u 0 8) = some (k, o)) (hop : r.u 8 1 = 2) :
    (s.applyPin r).cap.namespaces[k].objects = s.cap.namespaces[k].objects.filter (fun x => x.sequence != r.u 0 8) := by
  have hnamespaces : (s.applyPin r).cap.namespaces
      = (s.setNs k (fun x => { x with objects := x.objects.filter (fun x => x.sequence != r.u 0 8) })).cap.namespaces := by
    unfold State.applyPin
    simp only [State.objectNamespace_found hfound, hfound, hop]
    rw [State.taskDone_namespaces (t := .storeArea r.ref) nofun nofun, State.issueNvme_namespaces, State.complete_cap, State.deallocateLog_namespaces]
    rfl
  rw [hnamespaces, State.setNs_self]

/-- OBJECT_PIN (R392). -/
theorem objectPin_answers (h : s.Admits cmdObjectPin r) (hop : r.u 8 1 ≤ 2) (hz : r.zero 9 7 = true) (hv : v = s.judged r)
    (hon : v.domainOn 51 = true) (hfound : v.findObject (r.u 0 8) = some (k, o)) :
    (r.u 8 1 ≤ 1 → ∃ t, exec (.objectPin r) s = .next t ∧ s.Answers t r .accepted [] (some 0x0810)
      ∧ ∀ x ∈ (v.carryOut ⟨0x0810, r, []⟩).cap.namespaces[k].objects, x.sequence = r.u 0 8 → x.pinned = decide (r.u 8 1 = 0)) ∧
    (r.u 8 1 = 2 → o.pinned = false → o.sealRtc + v.cap.namespaces[k].retain < v.rtcNow → v.underRead (r.u 0 8) = false →
      ∃ t, exec (.objectPin r) s = .next t ∧ s.Answers t r .accepted [] (some 0x0810)
        ∧ ∀ x ∈ (v.carryOut ⟨0x0810, r, []⟩).cap.namespaces[k].objects, x.sequence ≠ r.u 0 8 ∧ x ∈ v.cap.namespaces[k].objects) ∧
    (r.u 8 1 = 2 → (o.pinned = true ∨ v.rtcNow ≤ o.sealRtc + v.cap.namespaces[k].retain ∨ v.underRead (r.u 0 8) = true) →
      ∃ t, exec (.objectPin r) s = .next t ∧ s.Refuses t r .errState 0 []) := by
  have hr : cmdObjectPin.range r = none := by simp [cmdObjectPin, firstBad_eq_none, hop, hz]
  have hcheck : cmdObjectPin.check r 0 v
      = if r.u 8 1 = 2 && (o.pinned || decide (v.rtcNow ≤ o.sealRtc + v.cap.namespaces[k].retain) || v.underRead (r.u 0 8))
        then .refuse .errState 0 [] else .accept [] := by
    simp only [cmdObjectPin, hon, hfound, Bool.not_true, Bool.false_eq_true, if_false]
  have hk := cmdObjectPin_actsLater
  subst hv
  refine ⟨fun hpin => ?_, fun hrelease hunpinned hold hidle => ?_, fun hrelease hheld => ?_⟩
  · rw [if_neg (by simp; omega)] at hcheck
    obtain ⟨t, ht, ha⟩ := exec_answersAccepted (i := .objectPin r) hk rfl h hr hcheck rfl
    refine ⟨t, ht, ha, ?_⟩
    rw [carryOut_objectPin, State.applyPin_pins hfound hpin]
    exact State.pinObject_pinned _ _ _ _
  · rw [if_neg (by simp [hunpinned, hold, hidle, -Fin.getElem_fin])] at hcheck
    obtain ⟨t, ht, ha⟩ := exec_answersAccepted (i := .objectPin r) hk rfl h hr hcheck rfl
    refine ⟨t, ht, ha, ?_⟩
    rw [carryOut_objectPin, State.applyPin_releases hfound hrelease]
    exact fun x hx => ⟨by simpa using (List.mem_filter.1 hx).2, (List.mem_filter.1 hx).1⟩
  · rw [if_pos (by simpa [hrelease, or_assoc] using hheld)] at hcheck
    exact exec_refuses (i := .objectPin r) hk rfl h hr hcheck rfl

end ObjectPin

/-- Settles O48: each store command's checks decide its answer; the declarations, the deletion and the pins take effect at the next tick,
the drives are asked for the bytes of a read at once, and a list is written from what is known. -/
theorem storeCommandsAnswerAndTakeEffect : Obligations.StoreCommandsAnswerAndTakeEffect := by
  intro s v r hv
  refine ⟨?_, fun n h hr hn hon hfits => namespaceDeclare_answers h hr hn hv hon hfits,
    fun n h hz hn hon => namespaceDelete_answers h hz hn hv hon, fun n h hz hn => storeStatus_answers h hz hn hv,
    fun ds n xs h hr hl hxs => objectList_answers h hr hl hv hxs, fun ds n h hr hl hon => objectRead_answers h hr hl hv hon,
    fun k o h hop hz hon hfound => objectPin_answers h hop hz hv hon hfound⟩
  rintro ds _ bs h hl rfl hhead hentries
  exact driveDeclare_answers ⟨hhead, hentries⟩ h hl hv

end Sys2Proof.Machine

/-! SUPPORT. A swap of the trigger bank with nothing left to decide (R211, R213, R215, R221, R222, R225): what it makes of the channels and
of the ring. -/
namespace Sys2Proof.Machine

/-! A channel with nothing to drop and nothing to decide. -/

/-- No trigger waits in a channel, and no host trigger is undecided. -/
structure TriggerChannel.Idle (c : TriggerChannel) : Prop where
  waiting : c.waiting = none
  host    : c.host = none

section Idle
variable {s : State} {t : Fin 64}

theorem State.dropWaiting_none (h : s.cap.channels[t].waiting = none) : s.dropWaiting t = s := by
  unfold State.dropWaiting
  rw [h]

theorem State.dropHost_none (h : s.cap.channels[t].host = none) : s.dropHost t = s := by
  unfold State.dropHost
  rw [h]

/-- No decision of a channel lies before frame `n` (R211, R213, R215). -/
structure State.Decided (n : BitVec 64) (s : State) (t : Fin 64) : Prop where
  idle  : s.cap.channels[t].Idle
  pins  : s.cap.channels[t].pins.all (fun x => decide (n.toNat ≤ x.1.toNat + 2)) = true
  frame : n.toNat ≤ (s.cap.channels[t].nextFrame.map fun f => f.toNat + 1 + ((s.cap.active.channel t).map (·.settle)).getD 0).getD n.toNat

theorem State.decideSkipped_decided {n : BitVec 64} (h : s.Decided n t) : s.decideSkipped n t = s := by
  obtain ⟨⟨-, hhost⟩, hpins, hframe⟩ := h
  unfold State.decideSkipped
  extract_lets c settle hosted pinned
  have hhosted : hosted = s := if_neg (by rw [show c.host = none from hhost]; exact Bool.false_ne_true)
  have hnone : c.pins.filter (fun x => decide (x.1.toNat + 2 < n.toNat)) = [] :=
    List.filter_eq_nil_iff.2 fun x hx => by
      have hlater := List.all_eq_true.1 hpins x hx
      simp only [decide_eq_true_eq] at hlater ⊢
      omega
  have hpinned : pinned = s := by
    show (c.pins.filter _).foldl _ hosted = s
    rw [hnone, hhosted]
    rfl
  have hopen : ¬ (s.cap.channels[t].nextFrame.any (fun f => decide (f.toNat + 1 + settle < n.toNat))) = true := by
    cases hnext : s.cap.channels[t].nextFrame with
    | none => exact Bool.false_ne_true
    | some f =>
      rw [hnext] at hframe
      simpa using hframe
  rw [hpinned]
  refine List.foldlRecOn c.history _ (motive := fun u : State => u = s) rfl fun u hu _ _ => ?_
  subst hu
  exact if_neg hopen

theorem State.decideSkipped_all {n : BitVec 64} (h : ∀ t, s.Decided n t) (ts : List (Fin 64)) :
    ts.foldl (State.decideSkipped n) s = s :=
  List.foldlRecOn ts _ (motive := fun u : State => u = s) rfl fun u hu t _ => by
    subst hu
    exact State.decideSkipped_decided (h t)

end Idle

/-! The channels that a bank defines anew (R221, R222). -/

/-- A channel that a bank defines anew: its history is empty, and it is armed where it was and is enabled. -/
def TriggerChannel.installed (enabled : Bool) (c : TriggerChannel) : TriggerChannel :=
  { c with history := [], rearmEnd := 0, mode := if c.mode != .disarmed && enabled then .armed else .disarmed }

/-- The channels that differ in a new bank, defined anew. -/
def State.reinstalled (new : TriggerBank) (ts : List (Fin 64)) (s : State) : State :=
  ts.foldl (fun s t => s.installChannel new (s.cap.channels[t].mode != .disarmed) t) s

/-- Nothing but the channels of the capture engine differs, and all of them are idle. -/
structure State.ChannelsFrom (s u : State) : Prop where
  same : ∀ q, q ≠ .cap → Part.Same s u q
  cap  : u.cap = { s.cap with channels := u.cap.channels }
  idle : ∀ k : Fin 64, u.cap.channels[k].Idle

section Install
variable {s u : State} {new : TriggerBank}

theorem State.ChannelsFrom.refl (h : ∀ k : Fin 64, s.cap.channels[k].Idle) : s.ChannelsFrom s :=
  ⟨fun q _ => Part.Same.refl s q, rfl, h⟩

theorem State.installChannel_cap (h : u.cap.channels[t].Idle) (new : TriggerBank) :
    (u.installChannel new (u.cap.channels[t].mode != .disarmed) t).cap
      = (u.setTrig t (TriggerChannel.installed (new.channel t).isSome)).cap := by
  unfold State.installChannel
  rw [State.dropWaiting_none h.waiting, State.dropHost_none h.host, State.setTrigMode_cap]
  simp only [State.setTrig, State.setCap_cap, Fin.getElem_fin, Vector.getElem_set_self, Vector.set_set]
  rfl

theorem State.installChannel_same {q : Part} {t : Fin 64} (h : u.cap.channels[t].Idle) (new : TriggerBank) (armed : Bool) (hq : q ≠ .cap)
    (hs : Part.Same s u q) : Part.Same s (u.installChannel new armed t) q := by
  unfold State.installChannel
  rw [State.dropWaiting_none h.waiting, State.dropHost_none h.host]
  exact State.raiseState_same _ _ _ _ _ (State.setTrig_same _ _ hq (State.setTrig_same _ _ hq hs))

/-- A channel that is defined anew stays idle, and the others stay as they were. -/
theorem State.ChannelsFrom.installChannel (h : s.ChannelsFrom u) (new : TriggerBank) (t : Fin 64) :
    s.ChannelsFrom (u.installChannel new (u.cap.channels[t].mode != .disarmed) t) := by
  have hcap := State.installChannel_cap (h.idle t) new
  refine ⟨fun q hq => State.installChannel_same (h.idle t) new _ hq (h.same q hq), ?_, fun k => ?_⟩
  · rw [hcap, State.setTrig_cap, h.cap]
  · rw [hcap]
    by_cases hk : k = t
    · subst hk
      rw [State.setTrig_channel]
      exact ⟨(h.idle k).waiting, (h.idle k).host⟩
    · rw [(State.KeepsOthers.setTrig t _ u).others k hk]
      exact h.idle k

/-- Each channel is defined anew once, and as it was found. -/
theorem State.reinstalled_channels {ts : List (Fin 64)} (hnodup : ts.Nodup) (h : s.ChannelsFrom u) :
    s.ChannelsFrom (u.reinstalled new ts) ∧ ∀ k : Fin 64, (u.reinstalled new ts).cap.channels[k]
      = if k ∈ ts then u.cap.channels[k].installed (new.channel k).isSome else u.cap.channels[k] := by
  induction ts generalizing u with
  | nil => exact ⟨h, fun k => (if_neg List.not_mem_nil).symm⟩
  | cons t ts ih =>
    obtain ⟨hnot, hrest⟩ := List.nodup_cons.1 hnodup
    obtain ⟨hfrom, hchannels⟩ := ih hrest (h.installChannel new t)
    refine ⟨hfrom, fun k => (hchannels k).trans ?_⟩
    rw [State.installChannel_cap (h.idle t) new]
    by_cases hk : k = t
    · subst hk
      rw [if_neg hnot, if_pos List.mem_cons_self, State.setTrig_channel]
    · rw [(State.KeepsOthers.setTrig t _ u).others k hk]
      simp only [List.mem_cons, hk, false_or]

end Install

/-! The ring (R225). -/

section Ring
variable {s u : State} {f : BitVec 64}

/-- A restart of the ring where no trigger waits. -/
theorem State.restartRing_idle (h : ∀ k : Fin 64, u.cap.channels[k].Idle) (f : BitVec 64) :
    (∃ captures, (u.restartRing f).cap = { u.cap with ringStart := f, ring := [], captures := captures })
      ∧ ∀ q, q ≠ .cap → Part.Same s u q → Part.Same s (u.restartRing f) q := by
  unfold State.restartRing
  extract_lets dropped cut restarted
  have hdropped : dropped = u := List.foldlRecOn _ _ (motive := fun w : State => w = u) rfl fun w hw t _ => by
    subst hw
    exact State.dropWaiting_none (h t).waiting
  clear_value dropped
  subst hdropped
  exact ⟨⟨_, State.raise_cap ..⟩, fun q hq h => State.raise_same _ _ _ _ _ _ (State.setCap_same _ hq h)⟩

end Ring
end Sys2Proof.Machine

/-! SUPPORT. The events of the trigger bank (R220, R221, R222, R225, R380), and the statement about them. -/
namespace Sys2Proof.Machine

/-! TRIGGER_CHECK_DONE (R220, R380). -/

section Checked
variable {s : State}

theorem State.triggerChecked_none (h : s.cap.load = none) : s.triggerChecked = s := by
  rw [State.triggerChecked, h]

/-- An event that changes the capture engine and ends a command. -/
theorem exec_endsCap {i : Instr} {u : State} {f : CaptureState → CaptureState} {c : CommandRef} {st : Status} {d : Nat} {res : List Byte}
    (hexec : exec i s = .next (s.settled u)) (heq : u = (s.setCap f).complete c st d res) :
    ∃ t, exec i s = .next t ∧ s.ChangesOnly t [.cap, .channels] ∧ t.cap = f s.cap ∧ s.Ended t c st res := by
  subst heq
  refine ⟨_, hexec, State.settled_changesTwo fun q hcap hchan => State.complete_same _ _ _ _ hchan
    (State.setCap_same f hcap (Part.Same.refl s q)), ?_, (State.complete_ended (u := s.setCap f) rfl st d res).settled⟩
  rw [State.settled_cap]
  exact State.complete_cap ..

variable {l : TriggerLoad} {bs : List Byte} (hload : s.cap.load = some l) (hdata : l.data = some bs)
include hload hdata

theorem triggerCheckDone_passes {b : TriggerBank} (hcheck : checkTriggerBank s l bs = .ok b) :
    ∃ t, exec .triggerCheckDone s = .next t ∧ s.ChangesOnly t [.cap, .channels]
      ∧ t.cap = { s.cap with load := none, shadow := some b, shadowMode := .ready } ∧ s.Ended t l.command .ok [] := by
  have heq : s.triggerChecked
      = (s.setCap (fun x => { x with load := none, shadow := some b, shadowMode := .ready })).complete l.command .ok 0 [] := by
    simp only [State.triggerChecked, hload, hdata, hcheck]
  exact exec_endsCap rfl heq

theorem triggerCheckDone_fails {f : BankRefusal} (hcheck : checkTriggerBank s l bs = .error f) :
    ∃ t, exec .triggerCheckDone s = .next t ∧ s.ChangesOnly t [.cap, .channels]
      ∧ t.cap = { s.cap with load := none, shadowMode := if s.cap.shadow.isSome then .ready else .empty }
      ∧ s.Ended t l.command f.status [] := by
  have heq : s.triggerChecked = (s.setCap (fun x => { x with load := none, shadowMode := if x.shadow.isSome then .ready else .empty })).complete
      l.command f.status f.detail [] := by
    simp only [State.triggerChecked, hload, hdata, hcheck]
  exact exec_endsCap rfl heq

end Checked

/-! TRIGGER_SWAP_TAKES_PLACE (R221, R222, R225, R380). -/

section Swap
variable {s u : State} {w : BankSwap} {new : TriggerBank}

/-- The trigger banks after a swap: the bank is in force with the next GENERATION, and waits for eFlash when the swap asked for it. -/
def CaptureState.swapped (w : BankSwap) (new : TriggerBank) (x : CaptureState) : CaptureState :=
  { x with active := new, generation := x.generation + 1, shadow := none, shadowMode := .empty, swap := none
           persistWaits := if w.persist then x.persistWaits ++ [⟨w.command, new, x.generation + 1⟩] else x.persistWaits }

/-- The channels whose entries differ in a new bank. -/
def State.changedChannels (new : TriggerBank) (s : State) : List (Fin 64) :=
  (List.finRange 64).filter (fun t => s.cap.active.channel t != new.channel t)

theorem State.mem_changedChannels {k : Fin 64} : k ∈ s.changedChannels new ↔ s.cap.active.channel k ≠ new.channel k := by
  simp [State.changedChannels]

/-- The ring restarts where the capture set or the ring's size changes (R225). -/
def State.ringed (old new : TriggerBank) (f : BitVec 64) (s : State) : State :=
  if old.set != new.set || old.ringGib != new.ringGib then s.restartRing f else s

/-- A swap at its frame, with nothing left to decide before it. -/
theorem State.takeTriggerSwap_due (hswap : s.cap.swap = some w) (hshadow : s.cap.shadow = some new) (hdue : w.frame ≤ s.clock.frame)
    (hdecided : ∀ t, s.Decided w.frame t) : ∃ x, x = (((s.reinstalled new (s.changedChannels new)).setCap (CaptureState.swapped w new)).ringed
        s.cap.active new w.frame).namedLost (s.changedChannels new)
      ∧ s.takeTriggerSwap = x.updatePins.complete w.command .ok 0
        (leBytes 8 w.frame.toNat ++ leBytes 4 x.updatePins.cap.generation.toNat ++ zeros 4) := by
  have hskip : (List.finRange 64).foldl (State.decideSkipped w.frame) s = s := State.decideSkipped_all hdecided _
  refine ⟨_, rfl, ?_⟩
  unfold State.takeTriggerSwap
  rw [hswap, hshadow]
  refine (if_pos hdue).trans ?_
  rw [hskip]
  delta State.ringed State.reinstalled State.changedChannels CaptureState.swapped
  dsimp only

theorem State.takeTriggerSwap_early (hswap : s.cap.swap = some w) (hshadow : s.cap.shadow = some new) (hearly : s.clock.frame < w.frame) :
    s.takeTriggerSwap = s := by
  simp only [State.takeTriggerSwap, hswap, hshadow]
  exact if_neg (BitVec.not_le.2 hearly)

/-- The ring is as it was, or empty from the frame on. -/
theorem State.ringed_idle (old new : TriggerBank) (f : BitVec 64) (h : ∀ k : Fin 64, u.cap.channels[k].Idle) :
    (∃ start ring captures, (u.ringed old new f).cap = { u.cap with ringStart := start, ring := ring, captures := captures }
      ∧ (old.set ≠ new.set ∨ old.ringGib ≠ new.ringGib → start = f ∧ ring = [])
      ∧ (old.set = new.set → old.ringGib = new.ringGib → start = u.cap.ringStart ∧ ring = u.cap.ring))
    ∧ ∀ q, q ≠ .cap → Part.Same s u q → Part.Same s (u.ringed old new f) q := by
  unfold State.ringed
  split
  case isTrue hchanged =>
    obtain ⟨⟨captures, hcap⟩, hsame⟩ := State.restartRing_idle (s := s) h f
    refine ⟨⟨_, _, captures, hcap, fun _ => ⟨rfl, rfl⟩, fun hset hring => ?_⟩, hsame⟩
    simp [hset, hring] at hchanged
  case isFalse hkept =>
    refine ⟨⟨_, _, _, rfl, fun hchanged => absurd ?_ hkept, fun _ _ => ⟨rfl, rfl⟩⟩, fun _ _ h => h⟩
    simpa using hchanged

/-- The events for the engines that are out of service. -/
theorem State.namedLost_same (ts : List (Fin 64)) {q : Part} (h : Part.Same s u q) : Part.Same s (u.namedLost ts) q :=
  foldl_same (fun _ _ hw => foldl_same (fun _ _ hw => State.raise_same _ _ _ _ _ _ hw) _ hw) _ h

/-- The events and the pins leave the capture engine. -/
theorem State.namedLost_updatePins_cap (ts : List (Fin 64)) (u : State) : (u.namedLost ts).updatePins.cap = u.cap :=
  State.updatePins_same (s := u) (q := .cap) (by decide) (State.namedLost_same ts rfl)

/-- A completion ends its command where the channels are as they were. -/
theorem State.complete_ended_same {c : CommandRef} (h : Part.Same s u .channels) (st : Status) (d : Nat) (res : List Byte) :
    s.Ended (u.complete c st d res) c st res := fun e he => by
  have hwindow : (u.chan c.channel).recorded c.token = some e := by
    rw [Channel.recorded, (h c.channel).window]
    exact he
  exact ⟨_, State.complete_recorded st d res hwindow, rfl, rfl, rfl⟩

/-- What a swap leaves: the new bank in force, each channel that it changes defined anew, and the ring as it was or empty. -/
theorem State.takeTriggerSwap_leaves (hswap : s.cap.swap = some w) (hshadow : s.cap.shadow = some new) (hdue : w.frame ≤ s.clock.frame)
    (hdecided : ∀ t, s.Decided w.frame t) : ∃ channels start ring captures,
      s.takeTriggerSwap.cap = { s.cap.swapped w new with channels := channels, ringStart := start, ring := ring, captures := captures }
      ∧ (∀ k : Fin 64, channels[k] = if s.cap.active.channel k ≠ new.channel k then s.cap.channels[k].installed (new.channel k).isSome
          else s.cap.channels[k])
      ∧ (s.cap.active.set ≠ new.set ∨ s.cap.active.ringGib ≠ new.ringGib → start = w.frame ∧ ring = [])
      ∧ (s.cap.active.set = new.set → s.cap.active.ringGib = new.ringGib → start = s.cap.ringStart ∧ ring = s.cap.ring)
      ∧ (∀ q, q ≠ .cap → q ≠ .channels → q ≠ .gpio → Part.Same s s.takeTriggerSwap q)
      ∧ s.Ended s.takeTriggerSwap w.command .ok (leBytes 8 w.frame.toNat ++ leBytes 4 (s.cap.generation + 1).toNat ++ zeros 4) := by
  obtain ⟨hfrom, hchannels⟩ := State.reinstalled_channels (new := new) (ts := s.changedChannels new)
    ((List.nodup_finRange 64).filter _) (.refl fun k => (hdecided k).idle)
  obtain ⟨⟨start, ring, captures, hring, hrestart, hkeep⟩, hringed⟩ := State.ringed_idle (s := s)
    (u := (s.reinstalled new (s.changedChannels new)).setCap (CaptureState.swapped w new)) s.cap.active new w.frame hfrom.idle
  obtain ⟨x, rfl, htake⟩ := State.takeTriggerSwap_due hswap hshadow hdue hdecided
  have hbefore : ((s.reinstalled new (s.changedChannels new)).setCap (CaptureState.swapped w new)).cap
      = { s.cap.swapped w new with channels := (s.reinstalled new (s.changedChannels new)).cap.channels } := by
    rw [State.setCap_cap, hfrom.cap]
    rfl
  rw [hbefore] at hring hkeep
  have hafter := (State.namedLost_updatePins_cap (s.changedChannels new) _).trans hring
  have hsame {q : Part} (hq : q ≠ .cap) (hgpio : q ≠ .gpio) := State.updatePins_same hgpio (State.namedLost_same (s.changedChannels new)
    (hringed q hq (State.setCap_same (CaptureState.swapped w new) hq (hfrom.same q hq))))
  rw [hafter] at htake
  refine ⟨_, start, ring, captures, ?_, fun k => (hchannels k).trans ?_, hrestart, hkeep, fun q hq hchan hgpio => ?_, ?_⟩
  · rw [htake, State.complete_cap, hafter]
  · simp only [State.mem_changedChannels]
  · rw [htake]
    exact State.complete_same _ _ _ _ hchan (hsame hq hgpio)
  · rw [htake]
    exact State.complete_ended_same (hsame (by decide) (by decide)) _ _ _

/-- TRIGGER_SWAP_TAKES_PLACE at its frame (R221, R222, R225, R380). -/
theorem triggerSwapTakesPlace_due (hswap : s.cap.swap = some w) (hshadow : s.cap.shadow = some new) (hdue : w.frame ≤ s.clock.frame)
    (hdecided : ∀ t, s.Decided w.frame t) : ∃ t, exec .triggerSwapTakesPlace s = .next t
      ∧ s.ChangesOnly t [.cap, .channels, .gpio] ∧ t.cap.active = new ∧ t.cap.generation = s.cap.generation + 1
      ∧ t.cap.shadow = none ∧ t.cap.shadowMode = .empty ∧ t.cap.swap = none
      ∧ (∀ k : Fin 64, s.cap.active.channel k = new.channel k → t.cap.channels[k] = s.cap.channels[k])
      ∧ (∀ k : Fin 64, s.cap.active.channel k ≠ new.channel k → t.cap.channels[k].history = []
          ∧ t.cap.channels[k].mode = if s.cap.channels[k].mode ≠ .disarmed ∧ (new.channel k).isSome = true then .armed else .disarmed)
      ∧ t.cap.persistWaits = (if w.persist then s.cap.persistWaits ++ [⟨w.command, new, s.cap.generation + 1⟩] else s.cap.persistWaits)
      ∧ (s.cap.active.set ≠ new.set ∨ s.cap.active.ringGib ≠ new.ringGib → t.cap.ringStart = w.frame ∧ t.cap.ring = [])
      ∧ (s.cap.active.set = new.set → s.cap.active.ringGib = new.ringGib → t.cap.ringStart = s.cap.ringStart
          ∧ t.cap.ring = s.cap.ring)
      ∧ s.Ended t w.command .ok (leBytes 8 w.frame.toNat ++ leBytes 4 (s.cap.generation + 1).toNat ++ zeros 4) := by
  obtain ⟨channels, start, ring, captures, hcap, hchannels, hrestart, hkeep, hparts, hended⟩ :=
    State.takeTriggerSwap_leaves hswap hshadow hdue hdecided
  refine ⟨_, rfl, State.settled_changesThree hparts, ?_⟩
  rw [State.settled_cap, hcap]
  refine ⟨rfl, rfl, rfl, rfl, rfl, fun k hsame => (hchannels k).trans (if_neg (not_not_intro hsame)), fun k hother => ?_, rfl, hrestart,
    hkeep, hended.settled⟩
  show channels[k].history = [] ∧ channels[k].mode = _
  rw [hchannels k, if_pos hother]
  exact ⟨rfl, by simp [TriggerChannel.installed]⟩

end Swap

/-! TRIGGER_PERSIST_DONE (R221). -/

section Persist
variable {s : State}

theorem State.triggerPersisted_none (h : s.cap.persistWaits = []) : s.triggerPersisted = s := by
  rw [State.triggerPersisted, h]

/-- The channels that are armed, as a mask. -/
def State.armedMask (s : State) : BitVec 64 := BitVec.ofNat 64 (packBits (s.cap.channels.toList.map (fun x => x.mode != .disarmed)))

theorem State.armedMask_getLsbD (s : State) (k : Fin 64) : s.armedMask.getLsbD k.val = decide (s.cap.channels[k].mode ≠ .disarmed) := by
  rw [State.armedMask, BitVec.getLsbD_ofNat, packBits_testBit]
  simp [bne, beq_eq_decide]

/-- TRIGGER_PERSIST_DONE commits the swap that has waited longest (R221). -/
theorem triggerPersistDone_commits {w : TriggerPersist} {rest : List TriggerPersist} {e : TokenEntry} (hwaits : s.cap.persistWaits = w :: rest)
    (he : (s.chan w.command.channel).recorded w.command.token = some e) (hpersist : e.persist = true) (hok : e.status = .ok) :
    ∃ t, exec .triggerPersistDone s = .next t ∧ s.ChangesOnly t [.cap, .channels] ∧ t.cap.persistWaits = rest
      ∧ (∃ armed, t.cap.persisted = some (w.bank, w.generation, armed)
          ∧ ∀ k : Fin 64, armed.getLsbD k.val = decide (s.cap.channels[k].mode ≠ .disarmed))
      ∧ ∃ e', (t.chan w.command.channel).recorded w.command.token = some e' ∧ e'.status = .committed ∧ e'.stage = stageCommitment := by
  have heq : s.triggerPersisted
      = (s.setCap (fun x => { x with persisted := some (w.bank, w.generation, s.armedMask), persistWaits := rest })).commit w.command := by
    simp only [State.triggerPersisted, hwaits]
    rfl
  have hcap : s.triggerPersisted.cap = { s.cap with persisted := some (w.bank, w.generation, s.armedMask), persistWaits := rest } := by
    rw [heq]
    exact State.commit_cap ..
  refine ⟨_, rfl, ?_, ?_, ⟨s.armedMask, ?_, s.armedMask_getLsbD⟩, e.madeDurable, ?_, rfl, rfl⟩
  · rw [heq]
    exact State.settled_changesTwo fun q hq hchan => State.commit_same _ hchan (State.setCap_same _ hq (Part.Same.refl s q))
  · rw [State.settled_cap, hcap]
  · rw [State.settled_cap, hcap]
  · rw [State.settled_recorded, heq]
    exact State.commit_recorded he hpersist hok

end Persist

/-- Settles O26: a check, a swap and a persistent write each change the banks, and end or commit their command. -/
theorem triggerBankEventsFollowTheirRules : Obligations.TriggerBankEventsFollowTheirRules := by
  intro s
  refine ⟨fun l bs hload hdata => ⟨fun b => triggerCheckDone_passes hload hdata, fun f => triggerCheckDone_fails hload hdata⟩,
    fun h => State.settled_unchanged (State.triggerChecked_none h), fun w new hswap hshadow => ⟨fun hdue hdecided => ?_,
      fun hearly => State.settled_unchanged (State.takeTriggerSwap_early hswap hshadow hearly)⟩,
    fun w rest e hwaits he hpersist hok => triggerPersistDone_commits hwaits he hpersist hok,
    fun h => State.settled_unchanged (State.triggerPersisted_none h)⟩
  refine triggerSwapTakesPlace_due hswap hshadow hdue fun t => ?_
  obtain ⟨hhost, hwaiting, hpins, hframe⟩ := hdecided t
  exact ⟨⟨hwaiting, hhost⟩, hpins, hframe⟩

end Sys2Proof.Machine

/-! SUPPORT. The drives of the capture store (R232 to R238, R387, R391): what the completion of a command, the failure of a drive, the
end of a rebuild and an index checkpoint do, and the statement about them. -/
namespace Sys2Proof.Machine

/-! The queue entries of the drives (R232). -/

section Queues
variable {c : CaptureState} {d : Fin 16} {op : NvmeOp} {t : NvmeTask} {r : NvmeRange}

/-- Nothing waits: nothing is issued. -/
theorem CaptureState.pumpNvme_idle (h : c.queued = []) : c.pumpNvme = c := by
  unfold CaptureState.pumpNvme
  rw [h]
  show { c with queued := [] } = c
  rw [← h]

theorem State.setCap_pumpNvme {s : State} {f : CaptureState → CaptureState} (h : (f s.cap).queued = []) :
    s.setCap (fun c => (f c).pumpNvme) = s.setCap f :=
  congrArg (fun x : CaptureState => { s with cap := x }) (CaptureState.pumpNvme_idle h)

/-- A drive with fewer than 255 commands in all has a free entry in its first queue. -/
theorem CaptureState.freeQueue_some (h : c.commands.length < 255) (d : Fin 16) : ∃ q, c.freeQueue d = some q := by
  refine Option.isSome_iff_exists.1 (List.find?_isSome.2 ⟨1, by decide, decide_eq_true ?_⟩)
  exact (List.length_filter_le ..).trans_lt h

/-- A command whose entry is free is issued. -/
theorem CaptureState.issueOne_single (h : c.commands.length < 255) : ∃ q, c.issueOne ⟨d, op, t, [r]⟩
    = { c with commands := c.commands ++ [{ cid := c.nextCid, drive := d, queue := q, op := op, range := r, task := t }]
               nextCid := c.nextCid + 1 } := by
  obtain ⟨q, hq⟩ := CaptureState.freeQueue_some h d
  refine ⟨q, ?_⟩
  simp [CaptureState.issueOne, CaptureState.issueRanges, hq]

/-- Two commands for one purpose, of drives that have none: both are issued. -/
theorem State.issueNvme_two {s : State} {d' : Fin 16} {op' : NvmeOp} {r' : NvmeRange} (hcommands : s.cap.commands = [])
    (hqueued : s.cap.queued = []) : ∃ q q', (s.issueNvme t [(d, op, [r]), (d', op', [r'])]).cap.commands
      = [{ cid := s.cap.nextCid, drive := d, queue := q, op := op, range := r, task := t },
         { cid := s.cap.nextCid + 1, drive := d', queue := q', op := op', range := r', task := t }] := by
  have hissue : (s.issueNvme t [(d, op, [r]), (d', op', [r'])]).cap
      = ({ s.cap with queued := [] }.issueOne ⟨d, op, t, [r]⟩).issueOne ⟨d', op', t, [r']⟩ := by
    show CaptureState.issueWork (s.cap.queued ++ [⟨d, op, t, [r]⟩, ⟨d', op', t, [r']⟩]) { s.cap with queued := [] } = _
    rw [hqueued]
    rfl
  obtain ⟨q, hq⟩ := CaptureState.issueOne_single (c := { s.cap with queued := [] }) (d := d) (op := op) (t := t) (r := r)
    (by simp [hcommands])
  rw [hissue, hq]
  obtain ⟨q', hq'⟩ := CaptureState.issueOne_single (d := d') (op := op') (t := t) (r := r')
    (c := { s.cap with queued := [], nextCid := s.cap.nextCid + 1
                       commands := s.cap.commands ++ [{ cid := s.cap.nextCid, drive := d, queue := q, op := op, range := r, task := t }] })
    (by simp [hcommands])
  exact ⟨q, q', by rw [hq']; simp [hcommands]⟩

end Queues

/-! NVME_COMMAND_COMPLETE (R232, R236). -/

/-- The queue entry of a command is free, and its completion is counted. -/
def State.entryFreed (b : NvmeCommand) (s : State) : State :=
  (s.tally 11 (s.rootPort b.drive) 2 1).setCap (fun c => { c with commands := c.commands.filter (fun x => x.cid != b.cid) })

section Complete
variable {s : State} {b : NvmeCommand}

theorem State.entryFreed_same {q : Part} (hcap : q ≠ .cap) (hperf : q ≠ .perf) : Part.Same s (s.entryFreed b) q :=
  State.setCap_same _ hcap (State.tally_same _ _ _ _ hperf (Part.Same.refl s q))

theorem State.nvmeComplete_unknown {cid : Nat} (h : s.cap.commands.find? (fun b => b.cid == cid) = none) : s.nvmeComplete cid = s := by
  unfold State.nvmeComplete
  rw [h]

theorem State.nvmeComplete_known (h : s.cap.commands.find? (fun x => x.cid == b.cid) = some b) (hqueued : s.cap.queued = []) :
    s.nvmeComplete b.cid = (s.entryFreed b).taskDone b.task := by
  unfold State.nvmeComplete State.entryFreed
  rw [h]
  exact congrArg (State.taskDone b.task)
    (State.setCap_pumpNvme (f := fun c => { c with commands := c.commands.filter (fun x => x.cid != b.cid) }) hqueued)

section Last
variable (hcommands : s.cap.commands = [b]) (hqueued : s.cap.queued = [])
include hcommands

theorem State.entryFreed_last_cap : (s.entryFreed b).cap = { s.cap with commands := [] } := by
  simp [State.entryFreed, State.setCap, hcommands]

include hqueued

theorem State.entryFreed_last_outstanding (t : NvmeTask) : (s.entryFreed b).outstanding t = false := by
  simp [State.outstanding, State.entryFreed_last_cap hcommands, hqueued]

/-- The completion of the only command is the end of its purpose. -/
theorem exec_completesLast : exec (.nvmeCommandComplete b.cid) s = .next (s.settled ((s.entryFreed b).taskDone b.task)) := by
  show Host.Outcome.next (s.settled (s.nvmeComplete b.cid)) = _
  rw [State.nvmeComplete_known (by simp [hcommands]) hqueued]

end Last
end Complete

/-- Durable effects of a command that does not ask for a commitment: the entry says so, and keeps its status (R317). -/
theorem State.commit_recorded_unasked {s : State} {c : CommandRef} {e : TokenEntry}
    (h : (s.chan c.channel).recorded c.token = some e) (hp : e.persist = false) :
    ((s.commit c).chan c.channel).recorded c.token = some { e with durable := true } := by
  have hasked : (e.persist && e.status == .ok) = false := by rw [hp, Bool.false_and]
  unfold State.commit
  rw [Channel.find_of_recorded h]
  simp only [hasked, Bool.false_eq_true, if_false, State.setChan_chan, State.journal_chan, if_true]
  exact Channel.recorded_update (f := fun e => { e with durable := true }) rfl h

section Store
variable {s : State} {b : NvmeCommand} (hcommands : s.cap.commands = [b]) (hqueued : s.cap.queued = [])
include hcommands hqueued

/-- The last command for a declaration: it ends with OK and the capacity, and stands (R387). -/
theorem nvmeCommandComplete_declares {n : Fin 32} {c : CommandRef} {e : TokenEntry} (htask : b.task = .declare n c)
    (he : (s.chan c.channel).recorded c.token = some e) (hp : e.persist = false) :
    ∃ t, exec (.nvmeCommandComplete b.cid) s = .next t ∧ s.ChangesOnly t [.cap, .channels, .perf]
      ∧ t.cap = { s.cap with commands := [], undo := s.cap.undo.filter (fun u => u.1 != c) }
      ∧ s.Ended t c .ok (leBytes 8 s.cap.namespaces[n].capacity) := by
  have hfreed := State.entryFreed_last_cap hcommands
  have hdone : (s.entryFreed b).taskDone b.task
      = ((s.entryFreed b).complete c .ok 0 (leBytes 8 s.cap.namespaces[n].capacity)).durable c := by
    rw [htask, State.taskDone_declare (State.entryFreed_last_outstanding hcommands hqueued _), hfreed]
  refine ⟨_, exec_completesLast hcommands hqueued, State.settled_changesThree fun q hcap hchan hperf => ?_, ?_, ?_⟩
  · rw [hdone]
    exact State.commit_same c hchan (State.setCap_same _ hcap (State.complete_same c _ _ _ hchan (State.entryFreed_same hcap hperf)))
  · rw [State.settled_cap, hdone, State.durable_cap, State.complete_cap, hfreed]
  · rw [hdone]
    refine State.Ended.settled fun e' he' => ?_
    obtain rfl : e = e' := Option.some.inj (he.symm.trans he')
    have hended : (((s.entryFreed b).complete c .ok 0 (leBytes 8 s.cap.namespaces[n].capacity)).chan c.channel).recorded c.token
        = some (e.ended .ok 0 (leBytes 8 s.cap.namespaces[n].capacity)) :=
      State.complete_recorded (s := s.entryFreed b) .ok 0 _ he
    exact ⟨_, State.commit_recorded_unasked hended hp, rfl, rfl, rfl⟩

/-- The last command of an OBJECT_READ: the bytes go to the host (R391). -/
theorem nvmeCommandComplete_reads {r : Request} (htask : b.task = .read r) :
    ∃ t x, exec (.nvmeCommandComplete b.cid) s = .next t ∧ s.ChangesOnly t [.cap, .requests, .perf]
      ∧ t.cap = { s.cap with commands := [] } ∧ t.host.waiting = s.host.waiting ++ [x] ∧ x.request = r
      ∧ x.wait = .output (s.readBytes r) (leBytes 4 (r.u 24 4) ++ zeros 4) := by
  have hdone : (s.entryFreed b).taskDone b.task = (s.entryFreed b).returnRead r := by
    rw [htask, State.taskDone_read (State.entryFreed_last_outstanding hcommands hqueued _)]
  refine ⟨_, ⟨0x080F, r, .output (s.readBytes r) (leBytes 4 (r.u 24 4) ++ zeros 4), true, false⟩,
    exec_completesLast hcommands hqueued, State.settled_changesThree fun q hcap hreq hperf => ?_, ?_, ?_, rfl, rfl⟩
  · rw [hdone]
    exact State.returnRead_same r hreq (State.entryFreed_same hcap hperf)
  · rw [State.settled_cap, hdone]
    exact State.entryFreed_last_cap hcommands
  · rw [State.settled_host_waiting, hdone]
    rfl

end Store

/-! An object is stored (R236). -/

/-- A namespace with one object more. -/
def StoreNamespace.stored (c : Capture) (o : StoredObject) (now : Nat) (x : StoreNamespace) : StoreNamespace :=
  { x with
    objects := x.objects ++ [o], sinceCheckpoint := x.sinceCheckpoint + 1, lastObject := now
    head := if x.head == c.offset + c.length then c.offset + o.length else x.head }

section StoreObject
variable {s : State} {c : Capture} {o : StoredObject}

theorem State.sealOn_stores (hout : s.outstanding (.object c.sequence) = false) (hcaptures : s.cap.captures = [c])
    (hstep : c.step = .flushTwo) (hbuilt : c.built = some o) (fuel : Nat) :
    s.sealOn (fuel + 1) c.sequence = s.storeCapture c o := by
  simp [State.sealOn, hout, hcaptures, hstep, hbuilt]

/-- A capture whose object is stored leaves the open captures. -/
def State.captureStored (c : Capture) (o : StoredObject) (s : State) : State :=
  (s.setCap (fun x =>
    { x with captures := x.captures.filter (fun y => y.sequence != c.sequence), bytesStored := x.bytesStored + o.length })).setNs
      c.entry.namespace_ (StoreNamespace.stored c { o with pinned := c.pinned } s.clock.tick)

theorem State.storeCapture_whole (h : c.failing = none) (o : StoredObject) (s : State) :
    s.storeCapture c o = (s.captureStored c o).raise 201 2 .occurrence (c.sequence % 4294967296) 0 0 := by
  unfold State.storeCapture
  rw [h]
  rfl

end StoreObject

section Store
variable {s : State} {b : NvmeCommand} (hcommands : s.cap.commands = [b]) (hqueued : s.cap.queued = [])
include hcommands hqueued

/-- The second flush of a capture has completed on every member: its object is stored. -/
theorem nvmeCommandComplete_stores {c : Capture} {o : StoredObject} (htask : b.task = .object c.sequence) (hcaptures : s.cap.captures = [c])
    (hstep : c.step = .flushTwo) (hbuilt : c.built = some o) (hfailing : c.failing = none) :
    ∃ t, exec (.nvmeCommandComplete b.cid) s = .next t ∧ s.ChangesOnly t [.cap, .perf] ∧ t.cap.captures = []
      ∧ t.cap.namespaces[c.entry.namespace_].objects = s.cap.namespaces[c.entry.namespace_].objects ++ [{ o with pinned := c.pinned }]
      ∧ t.cap.bytesStored = s.cap.bytesStored + o.length
      ∧ ∀ n : Fin 32, n ≠ c.entry.namespace_ → t.cap.namespaces[n] = s.cap.namespaces[n] := by
  have hfreed := State.entryFreed_last_cap hcommands
  have hout := State.entryFreed_last_outstanding hcommands hqueued (.object c.sequence)
  have hdone : (s.entryFreed b).taskDone b.task
      = ((s.entryFreed b).captureStored c o).raise 201 2 .occurrence (c.sequence % 4294967296) 0 0 := by
    rw [htask, State.taskDone_object hout, State.sealOn_stores hout (by rw [hfreed, hcaptures]) hstep hbuilt, State.storeCapture_whole hfailing]
  have hcap : (s.settled ((s.entryFreed b).taskDone b.task)).cap = ((s.entryFreed b).captureStored c o).cap := by
    rw [State.settled_cap, hdone, State.raise_cap]
  refine ⟨_, exec_completesLast hcommands hqueued, State.settled_changesTwo fun q hcap hperf => ?_, ?_, ?_, ?_, fun n hn => ?_⟩
  · rw [hdone]
    exact State.raise_same _ _ _ _ _ _ (State.setNs_same hcap _ _ (State.setCap_same _ hcap (State.entryFreed_same hcap hperf)))
  · rw [hcap]
    show (s.entryFreed b).cap.captures.filter _ = []
    simp [hfreed, hcaptures]
  · rw [hcap, State.captureStored, State.setNs_self]
    show (s.entryFreed b).cap.namespaces[c.entry.namespace_].objects ++ _ = _
    rw [hfreed]
  · rw [hcap]
    show (s.entryFreed b).cap.bytesStored + _ = _
    rw [hfreed]
  · rw [hcap, State.captureStored, State.setNs_other hn]
    show (s.entryFreed b).cap.namespaces[n] = _
    rw [hfreed]

end Store

/-! Index checkpoints (R233, R238). -/

section Checkpointed
variable (i : StoreIndex) (x : StoreNamespace)

@[simp] theorem StoreNamespace.checkpointed_objects : (x.checkpointed i).objects = x.objects := by
  unfold StoreNamespace.checkpointed
  split <;> rfl

@[simp] theorem StoreNamespace.checkpointed_sinceCheckpoint : (x.checkpointed i).sinceCheckpoint = x.sinceCheckpoint := by
  unfold StoreNamespace.checkpointed
  split <;> rfl

/-- The places of the two checkpoints are taken in turn. -/
theorem StoreNamespace.checkpointed_checkpoints {x : StoreNamespace} (h : x.mode ≠ .undeclared) :
    (x.checkpointed i).checkpoints = if i.number % 2 = 0 then x.checkpoints.set 0 (some i) else x.checkpoints.set 1 (some i) := by
  unfold StoreNamespace.checkpointed
  rw [if_neg (by simpa using h)]
  split
  case isTrue heven => simp [heven]
  case isFalse hodd => simp [Nat.mod_two_ne_zero.1 hodd]

end Checkpointed

/-- The last command of an index checkpoint: it takes the place of the older one. -/
theorem nvmeCommandComplete_checkpoints {s : State} {b : NvmeCommand} (hcommands : s.cap.commands = [b]) (hqueued : s.cap.queued = [])
    {n : Fin 32} {i : StoreIndex} (htask : b.task = .checkpoint n i) (hmode : s.cap.namespaces[n].mode ≠ .undeclared) :
    ∃ t, exec (.nvmeCommandComplete b.cid) s = .next t ∧ s.ChangesOnly t [.cap, .perf]
      ∧ t.cap.namespaces[n].checkpoints = (if i.number % 2 = 0 then s.cap.namespaces[n].checkpoints.set 0 (some i)
          else s.cap.namespaces[n].checkpoints.set 1 (some i))
      ∧ t.cap.namespaces[n].objects = s.cap.namespaces[n].objects := by
  have hdone : (s.entryFreed b).taskDone b.task = (s.entryFreed b).setNs n (StoreNamespace.checkpointed i) := by
    rw [htask, State.taskDone_checkpoint (State.entryFreed_last_outstanding hcommands hqueued _)]
  have hns : (s.settled ((s.entryFreed b).taskDone b.task)).cap.namespaces[n] = s.cap.namespaces[n].checkpointed i := by
    rw [State.settled_cap, hdone, State.setNs_self, State.entryFreed_last_cap hcommands]
  refine ⟨_, exec_completesLast hcommands hqueued, State.settled_changesTwo fun q hcap hperf => ?_, ?_, ?_⟩
  · rw [hdone]
    exact State.setNs_same hcap _ _ (State.entryFreed_same hcap hperf)
  · rw [hns, StoreNamespace.checkpointed_checkpoints i hmode]
  · rw [hns, StoreNamespace.checkpointed_objects]

/-- One of two commands for one purpose: it frees its queue entry alone. -/
theorem nvmeCommandComplete_oneOfTwo {s : State} {b b' : NvmeCommand} (hcommands : s.cap.commands = [b, b']) (hcid : b'.cid ≠ b.cid)
    (htask : b'.task = b.task) (hqueued : s.cap.queued = []) :
    ∃ t, exec (.nvmeCommandComplete b.cid) s = .next t ∧ s.ChangesOnly t [.cap, .perf] ∧ t.cap = { s.cap with commands := [b'] } := by
  have hfreed : (s.entryFreed b).cap = { s.cap with commands := [b'] } := by
    simp [State.entryFreed, State.setCap, hcommands, hcid]
  have hout : (s.entryFreed b).outstanding b.task = true := by
    simp [State.outstanding, hfreed, htask]
  have hdone : s.nvmeComplete b.cid = s.entryFreed b := by
    rw [State.nvmeComplete_known (by simp [hcommands]) hqueued, State.taskDone_outstanding hout]
  refine ⟨_, rfl, State.settled_changesTwo fun q hcap hperf => ?_, ?_⟩
  · rw [hdone]
    exact State.entryFreed_same hcap hperf
  · rw [State.settled_cap, hdone, hfreed]

/-! INDEX_CHECKPOINT (R238). -/

/-- What the next checkpoint of a namespace says. -/
def StoreNamespace.nextIndex (x : StoreNamespace) : StoreIndex :=
  { number := (x.newest.map (·.number)).getD 0 + 1, head := x.head, known := x.objects.map (fun o => o.sequence) }

/-- The next checkpoint is on its way to the writable members. -/
def State.writesIndex (n : Fin 32) (i : StoreIndex) (s : State) : State :=
  let u := s.setNs n (fun x => { x with sinceCheckpoint := 0 })
  u.issueNvme (.checkpoint n i) (u.areaWrite 1 n ++ u.areaFlush n)

section Checkpoint
variable {s : State} {n : Fin 32}

theorem State.checkpoint_due (h : 64 ≤ s.cap.namespaces[n].sinceCheckpoint ∨ (0 < s.cap.namespaces[n].sinceCheckpoint ∧
      s.cap.namespaces[n].lastObject + 20000000 ≤ s.clock.tick)) :
    s.checkpoint n = (s.writesIndex n s.cap.namespaces[n].nextIndex).taskDone (.checkpoint n s.cap.namespaces[n].nextIndex) :=
  if_pos (by simpa using h)

theorem State.checkpoint_none (h : s.cap.namespaces[n].sinceCheckpoint = 0) : s.checkpoint n = s :=
  if_neg (by simp [h, -Fin.getElem_fin])

/-- The end of a checkpoint leaves the store, or puts the checkpoint in its place. -/
theorem State.taskDone_checkpoint_cases (i : StoreIndex) (s : State) :
    s.taskDone (.checkpoint n i) = s ∨ s.taskDone (.checkpoint n i) = s.setNs n (StoreNamespace.checkpointed i) := by
  cases hout : s.outstanding (.checkpoint n i)
  case true => exact .inl (State.taskDone_outstanding hout)
  case false => exact .inr (State.taskDone_checkpoint hout)

theorem State.writesIndex_namespaces (i : StoreIndex) :
    (s.writesIndex n i).cap.namespaces = (s.setNs n (fun x => { x with sinceCheckpoint := 0 })).cap.namespaces :=
  State.issueNvme_namespaces ..

theorem State.writesIndex_self (i : StoreIndex) :
    (s.writesIndex n i).cap.namespaces[n] = { s.cap.namespaces[n] with sinceCheckpoint := 0 } := by
  rw [State.writesIndex_namespaces, State.setNs_self]

theorem State.writesIndex_other {k : Fin 32} (hk : k ≠ n) (i : StoreIndex) :
    (s.writesIndex n i).cap.namespaces[k] = s.cap.namespaces[k] := by
  rw [State.writesIndex_namespaces, State.setNs_other hk]

/-- The store area of the one writable member takes a write and a flush. -/
theorem State.writesIndex_commands {m : Nat × Fin 16} {start : Nat} (hwritable : s.writable n = [m])
    (hstart : (s.cap.namespaces[n].members[m.1]?).map (·.2) = some start) (hcommands : s.cap.commands = []) (hqueued : s.cap.queued = [])
    (i : StoreIndex) : ∃ q q', (s.writesIndex n i).cap.commands
      = [{ cid := s.cap.nextCid, drive := m.2, queue := q, op := .write, range := ⟨0, start / 4096, 1⟩, task := .checkpoint n i },
         { cid := s.cap.nextCid + 1, drive := m.2, queue := q', op := .flush, range := ⟨0, 0, 0⟩, task := .checkpoint n i }] := by
  have hkeeps := State.KeepsCaptures.setNs n (fun x => { x with sinceCheckpoint := 0 }) (fun _ => ⟨rfl, rfl⟩) s
  have hstart' : (((s.setNs n fun x => { x with sinceCheckpoint := 0 }).cap.namespaces[n].members[m.1]?).map (·.2)).getD 0 = start := by
    rw [State.setNs_self, hstart]
    rfl
  unfold State.writesIndex
  simp only [State.areaWrite, State.areaFlush, hkeeps.writable n, hwritable, List.map_cons, List.map_nil, List.cons_append,
    List.nil_append, hstart', flushRange]
  exact State.issueNvme_two hcommands hqueued

/-- A checkpoint that is due. -/
theorem indexCheckpoint_due (hdue : 64 ≤ s.cap.namespaces[n].sinceCheckpoint ∨ (0 < s.cap.namespaces[n].sinceCheckpoint ∧
      s.cap.namespaces[n].lastObject + 20000000 ≤ s.clock.tick)) : ∃ t, exec (.indexCheckpoint n) s = .next t ∧ s.ChangesOnly t [.cap]
    ∧ t.cap.namespaces[n].sinceCheckpoint = 0 ∧ t.cap.namespaces[n].objects = s.cap.namespaces[n].objects
    ∧ (∀ k : Fin 32, k ≠ n → t.cap.namespaces[k] = s.cap.namespaces[k])
    ∧ ∀ m start, s.writable n = [m] → (s.cap.namespaces[n].members[m.1]?).map (·.2) = some start → s.cap.commands = [] →
        s.cap.queued = [] → ∃ x y i, t.cap.commands = [x, y] ∧ x.drive = m.2 ∧ x.op = .write ∧ x.range = ⟨0, start / 4096, 1⟩
          ∧ y.drive = m.2 ∧ y.op = .flush ∧ x.task = .checkpoint n i ∧ y.task = .checkpoint n i ∧ i.head = s.cap.namespaces[n].head
          ∧ i.known = s.cap.namespaces[n].objects.map (·.sequence) := by
  let i := s.cap.namespaces[n].nextIndex
  have hstep : exec (.indexCheckpoint n) s = .next (s.settled ((s.writesIndex n i).taskDone (.checkpoint n i))) := by
    show Host.Outcome.next (s.settled (s.checkpoint n)) = _
    rw [State.checkpoint_due hdue]
  have hissued {q : Part} (hcap : q ≠ .cap) : Part.Same s (s.writesIndex n i) q :=
    State.issueNvme_same hcap _ _ (State.setNs_same hcap _ _ (Part.Same.refl s q))
  have hcases := (s.writesIndex n i).taskDone_checkpoint_cases (n := n) i
  refine ⟨_, hstep, State.settled_changesOne fun q hcap => ?_, ?_, ?_, fun k hk => ?_, ?_⟩
  · rcases hcases with hsame | hplaced
    · rw [hsame]
      exact hissued hcap
    · rw [hplaced]
      exact State.setNs_same hcap _ _ (hissued hcap)
  · rw [State.settled_cap]
    rcases hcases with hsame | hplaced
    · rw [hsame, State.writesIndex_self]
    · rw [hplaced, State.setNs_self, State.writesIndex_self, StoreNamespace.checkpointed_sinceCheckpoint]
  · rw [State.settled_cap]
    rcases hcases with hsame | hplaced
    · rw [hsame, State.writesIndex_self]
    · rw [hplaced, State.setNs_self, State.writesIndex_self, StoreNamespace.checkpointed_objects]
  · rw [State.settled_cap]
    rcases hcases with hsame | hplaced
    · rw [hsame, State.writesIndex_other hk]
    · rw [hplaced, State.setNs_other hk, State.writesIndex_other hk]
  · intro m start hwritable hstart hcommands hqueued
    obtain ⟨q, q', hissue⟩ := State.writesIndex_commands hwritable hstart hcommands hqueued i
    have hout : (s.writesIndex n i).outstanding (.checkpoint n i) = true := by simp [State.outstanding, hissue]
    have hkept : (s.settled ((s.writesIndex n i).taskDone (.checkpoint n i))).cap.commands = (s.writesIndex n i).cap.commands := by
      rw [State.settled_cap, State.taskDone_outstanding hout]
    exact ⟨_, _, i, hkept.trans hissue, rfl, rfl, rfl, rfl, rfl, rfl, rfl, rfl, rfl⟩

end Checkpoint

/-! MIRROR_REBUILD_DONE (R237). -/

theorem State.rebuilt_namespaces {s : State} {n : Fin 32} (h : s.cap.namespaces[n].mode = .rebuilding) :
    (s.rebuilt n).cap.namespaces = s.cap.namespaces.set n
      { s.cap.namespaces[n] with
        mode := if s.cap.namespaces[n].failed.filter (s.memberLost n) = [] then .ok else .degraded
        failed := s.cap.namespaces[n].failed.filter (s.memberLost n) } := by
  rw [State.rebuilt, if_pos (by rw [h]; rfl), State.setNsMode_cap]
  simp [State.setNs, State.setCap]

theorem State.rebuilt_same {s : State} (n : Fin 32) {q : Part} (hcap : q ≠ .cap) : Part.Same s (s.rebuilt n) q :=
  ite_same (State.setNsMode_same hcap n _ (State.setNs_same hcap n _ (Part.Same.refl s q))) (Part.Same.refl s q)

/-! DRIVE_WRITE_ERROR (R237), with no capture open and no command at a drive. -/

/-- No capture is open, and no command is at a drive or waits for one. -/
structure State.StoreIdle (s : State) : Prop where
  captures : s.cap.captures = []
  commands : s.cap.commands = []
  queued   : s.cap.queued = []

/-- From `s` to `u` only the store changes, and of it neither the marks of failed drives nor a namespace beside `n`. -/
structure State.OnlyNs (s u : State) (n : Fin 32) : Prop where
  parts  : ∀ w q, q ≠ .cap → Part.Same w s q → Part.Same w u q
  failed : u.cap.driveFailed = s.cap.driveFailed
  others : ∀ k : Fin 32, k ≠ n → u.cap.namespaces[k] = s.cap.namespaces[k]
  idle   : s.StoreIdle → u.StoreIdle

section LoseMember
variable {s u : State} {d : Fin 16} {n : Fin 32}

theorem State.OnlyNs.refl (s : State) (n : Fin 32) : s.OnlyNs s n :=
  ⟨fun _ _ _ h => h, rfl, fun _ _ => rfl, id⟩

theorem State.OnlyNs.setNs (h : s.OnlyNs u n) (f : StoreNamespace → StoreNamespace) : s.OnlyNs (u.setNs n f) n where
  parts w q hq hw := State.setNs_same hq n f (h.parts w q hq hw)
  failed := h.failed
  others k hk := (State.setNs_other hk f u).trans (h.others k hk)
  idle hs := let ⟨hcaptures, hcommands, hqueued⟩ := h.idle hs; ⟨hcaptures, hcommands, hqueued⟩

theorem State.OnlyNs.setNsMode (h : s.OnlyNs u n) (m : StoreMode) : s.OnlyNs (u.setNsMode n m) n := by
  have hns := h.setNs (fun x => { x with mode := m })
  have hcap := State.setNsMode_cap n m u
  exact
    { parts := fun w q hq hw => State.setNsMode_same hq n m (h.parts w q hq hw)
      failed := by rw [hcap]; exact hns.failed
      others := fun k hk => by rw [hcap]; exact hns.others k hk
      idle := fun hs => by
        obtain ⟨hcaptures, hcommands, hqueued⟩ := hns.idle hs
        exact ⟨by rw [hcap]; exact hcaptures, by rw [hcap]; exact hcommands, by rw [hcap]; exact hqueued⟩ }

/-- The key objects on their way into a namespace are given up. -/
def State.dropKeyWrites (n : Fin 32) (s : State) : State :=
  (((s.cap.keyWrites.filter (fun k => k.ns == n)).map (fun k => k.sequence)).foldl (fun s k => s.dropTask (.object k)) s).setCap
    (fun c => { c with keyWrites := c.keyWrites.filter (fun k => k.ns != n) })

theorem State.dropKeyWrites_namespaces (n : Fin 32) (s : State) : (s.dropKeyWrites n).cap.namespaces = s.cap.namespaces :=
  State.dropKeys_namespaces _ s

theorem State.OnlyNs.dropTask (h : s.OnlyNs u n) (t : NvmeTask) : s.OnlyNs (u.dropTask t) n where
  parts w q hq hw := State.dropTask_same hq t (h.parts w q hq hw)
  failed := h.failed
  others := h.others
  idle hs := by
    obtain ⟨hcaptures, hcommands, hqueued⟩ := h.idle hs
    exact ⟨hcaptures, by simp [State.dropTask, State.setCap, hcommands], by simp [State.dropTask, State.setCap, hqueued]⟩

theorem State.OnlyNs.dropKeyWrites (h : s.OnlyNs u n) : s.OnlyNs (u.dropKeyWrites n) n := by
  have hkeys : s.OnlyNs (((u.cap.keyWrites.filter (fun k => k.ns == n)).map (fun k => k.sequence)).foldl
      (fun s k => s.dropTask (.object k)) u) n :=
    List.foldlRecOn _ _ (motive := fun w : State => s.OnlyNs w n) h fun w hw k _ => hw.dropTask (.object k)
  exact
    { parts := fun w q hq hw => State.setCap_same _ hq (hkeys.parts w q hq hw)
      failed := hkeys.failed
      others := hkeys.others
      idle := fun hs => let ⟨hcaptures, hcommands, hqueued⟩ := hkeys.idle hs; ⟨hcaptures, hcommands, hqueued⟩ }

/-- The other member of a pair of a mirror (R233). -/
def mirrorPartner (i : Nat) : Nat := if i % 2 = 0 then i + 1 else i - 1

theorem mirrorPartner_ne (i : Nat) : mirrorPartner i ≠ i := by
  unfold mirrorPartner
  split <;> omega

/-- The members of a namespace that have failed, with one more. -/
def StoreNamespace.failedWith (x : StoreNamespace) (i : Nat) : List Nat := if x.failed.contains i then x.failed else x.failed ++ [i]

/-- A namespace in service loses a member: the mirror whose other drive stands goes on, any other namespace fails. -/
theorem State.loseMember_inService {i : Nat} (hidle : s.StoreIdle)
    (hmode : s.cap.namespaces[n].mode ≠ .undeclared ∧ s.cap.namespaces[n].mode ≠ .failed)
    (hmember : s.cap.namespaces[n].members.findIdx? (fun m => m.1 == d) = some i) :
    s.loseMember d n =
      if s.cap.namespaces[n].mirror && !(s.cap.namespaces[n].failedWith i).contains (mirrorPartner i) then
        (s.setNs n (fun x => { x with failed := s.cap.namespaces[n].failedWith i })).setNsMode n .degraded
      else ((s.setNs n (fun x => { x with failed := s.cap.namespaces[n].failedWith i })).setNsMode n .failed).dropKeyWrites n := by
  have hclosed : s.OnlyNs
      (((s.setNs n (fun x => { x with failed := s.cap.namespaces[n].failedWith i })).setNsMode n .failed).dropKeyWrites n) n :=
    (((State.OnlyNs.refl s n).setNs _).setNsMode .failed).dropKeyWrites
  have hnone := (hclosed.idle hidle).captures
  unfold State.loseMember
  simp only
  rw [if_neg (by simpa using hmode), hmember]
  refine if_congr Iff.rfl rfl ?_
  show (List.filter _ (State.dropKeyWrites n _).cap.captures).foldl _ _ = _
  unfold StoreNamespace.failedWith at hnone
  rw [hnone]
  rfl

/-- What a namespace is when its only failed member is `m`. -/
def StoreNamespace.lost (m : Nat) (x : StoreNamespace) : StoreNamespace :=
  { x with failed := [m], mode := if x.mirror then .degraded else .failed }

theorem State.loseMember_first {m : Nat} (hidle : s.StoreIdle) (hmode : s.cap.namespaces[n].mode = .ok)
    (hfailed : s.cap.namespaces[n].failed = []) (hmember : s.cap.namespaces[n].members.findIdx? (fun x => x.1 == d) = some m) :
    (s.loseMember d n).cap.namespaces[n] = s.cap.namespaces[n].lost m := by
  have hwith : s.cap.namespaces[n].failedWith m = [m] := by
    rw [StoreNamespace.failedWith, hfailed]
    rfl
  rw [State.loseMember_inService hidle (by simp [hmode, -Fin.getElem_fin]) hmember, hwith]
  cases hmirror : s.cap.namespaces[n].mirror with
  | true =>
    rw [if_pos (by simpa using mirrorPartner_ne m), State.setNsMode_cap, State.setNs_self, State.setNs_self]
    simp only [StoreNamespace.lost, hmirror, if_true]
  | false =>
    rw [if_neg (by simp), State.dropKeyWrites_namespaces, State.setNsMode_cap, State.setNs_self, State.setNs_self]
    simp only [StoreNamespace.lost, hmirror, Bool.false_eq_true, if_false]

theorem State.loseMember_onlyNs (hidle : s.StoreIdle) (d : Fin 16) (n : Fin 32) : s.OnlyNs (s.loseMember d n) n := by
  by_cases hmode : s.cap.namespaces[n].mode ≠ .undeclared ∧ s.cap.namespaces[n].mode ≠ .failed
  case neg =>
    have hsame : s.loseMember d n = s := if_pos (by simpa [Decidable.or_iff_not_imp_left] using hmode)
    rw [hsame]
    exact .refl s n
  cases hmember : s.cap.namespaces[n].members.findIdx? (fun m => m.1 == d) with
  | none =>
    have hsame : s.loseMember d n = s := by
      unfold State.loseMember
      simp only
      rw [if_neg (by simpa using hmode), hmember]
    rw [hsame]
    exact .refl s n
  | some i =>
    rw [State.loseMember_inService hidle hmode hmember]
    have hns := (State.OnlyNs.refl s n).setNs (fun x => { x with failed := s.cap.namespaces[n].failedWith i })
    split
    · exact hns.setNsMode .degraded
    · exact (hns.setNsMode .failed).dropKeyWrites

/-! The drive's members in all namespaces. -/

/-- The namespaces of a list lose their members on a drive. -/
def State.loseMembers (d : Fin 16) (ns : List (Fin 32)) (s : State) : State := ns.foldl (fun s n => s.loseMember d n) s

/-- What the loss of members leaves: all parts but the store, the marks of failed drives, and the namespaces beside them. -/
theorem State.loseMembers_keeps (d : Fin 16) (ns : List (Fin 32)) (hidle : s.StoreIdle) : (s.loseMembers d ns).StoreIdle
    ∧ (∀ w q, q ≠ .cap → Part.Same w s q → Part.Same w (s.loseMembers d ns) q) ∧ (s.loseMembers d ns).cap.driveFailed = s.cap.driveFailed
    ∧ ∀ k ∉ ns, (s.loseMembers d ns).cap.namespaces[k] = s.cap.namespaces[k] := by
  refine List.foldlRecOn ns _ (motive := fun u : State => u.StoreIdle ∧ (∀ w q, q ≠ .cap → Part.Same w s q → Part.Same w u q)
    ∧ u.cap.driveFailed = s.cap.driveFailed ∧ ∀ k ∉ ns, u.cap.namespaces[k] = s.cap.namespaces[k])
    ⟨hidle, fun _ _ _ h => h, rfl, fun _ _ => rfl⟩ fun u hu n hn => ?_
  obtain ⟨huidle, hparts, hfailed, hothers⟩ := hu
  have hstep := State.loseMember_onlyNs huidle d n
  exact ⟨hstep.idle huidle, fun w q hq hw => hstep.parts w q hq (hparts w q hq hw), hstep.failed.trans hfailed, fun k hk =>
    (hstep.others k (fun e => hk (e ▸ hn))).trans (hothers k hk)⟩

/-- Each namespace of the list loses its member once. -/
theorem State.loseMembers_first {m : Nat} {ns : List (Fin 32)} (hnodup : ns.Nodup) (hn : n ∈ ns) (hidle : s.StoreIdle)
    (hmode : s.cap.namespaces[n].mode = .ok) (hfailed : s.cap.namespaces[n].failed = [])
    (hmember : s.cap.namespaces[n].members.findIdx? (fun x => x.1 == d) = some m) :
    (s.loseMembers d ns).cap.namespaces[n] = s.cap.namespaces[n].lost m := by
  induction ns generalizing s with
  | nil => exact absurd hn List.not_mem_nil
  | cons k ks ih =>
    obtain ⟨hk, hks⟩ := List.nodup_cons.1 hnodup
    have hstep := State.loseMember_onlyNs hidle d k
    show ((s.loseMember d k).loseMembers d ks).cap.namespaces[n] = _
    by_cases hkn : n = k
    case pos =>
      subst hkn
      obtain ⟨-, -, -, hothers⟩ := State.loseMembers_keeps d ks (hstep.idle hidle)
      exact (hothers n hk).trans (State.loseMember_first hidle hmode hfailed hmember)
    case neg =>
      have hsame := hstep.others n hkn
      rw [ih hks ((List.mem_cons.1 hn).resolve_left hkn) (hstep.idle hidle) (hsame ▸ hmode) (hsame ▸ hfailed) (hsame ▸ hmember), hsame]

end LoseMember

/-- A drive is marked failed, with its declaration and its fault. -/
def State.markFailed (d : Fin 16) (s : State) : State :=
  (s.setCap (fun c =>
    { c with driveFailed := c.driveFailed.set d true
             failedDrive := c.failedDrive.set d (c.drives.entries.find? (fun e => e.drive == d)) })).raise (202 + d.val) 1 .fault d.val 0 0

/-- The commands of a drive are gone. -/
def State.dropDrive (d : Fin 16) (s : State) : State :=
  s.setCap (fun c => { c with commands := c.commands.filter (fun b => b.drive != d), queued := c.queued.filter (fun b => b.drive != d) })

theorem State.dropDrive_driveFailed (d : Fin 16) (s : State) : (s.dropDrive d).cap.driveFailed = s.cap.driveFailed := rfl
theorem State.dropDrive_namespaces (d : Fin 16) (s : State) : (s.dropDrive d).cap.namespaces = s.cap.namespaces := rfl

section DriveError
variable {s : State} {d : Fin 16}

theorem State.driveError_none (h : s.cap.driveFailed[d] = true ∨ s.cap.drives.entries.any (fun e => e.drive == d) = false) :
    s.driveError d = s :=
  if_pos (by rcases h with h | h <;> rw [h] <;> simp)

theorem State.markFailed_cap : (s.markFailed d).cap = { s.cap with
    driveFailed := s.cap.driveFailed.set d true
    failedDrive := s.cap.failedDrive.set d (s.cap.drives.entries.find? (fun e => e.drive == d)) } :=
  State.raise_cap ..

theorem State.markFailed_idle (h : s.StoreIdle) : (s.markFailed d).StoreIdle := by
  obtain ⟨hcaptures, hcommands, hqueued⟩ := h
  exact ⟨by rw [State.markFailed_cap, hcaptures], by rw [State.markFailed_cap, hcommands], by rw [State.markFailed_cap, hqueued]⟩

/-- A declared drive that stands, with nothing on its way to the drives. -/
theorem State.driveError_idle (hidle : s.StoreIdle) (hstands : s.cap.driveFailed[d] = false)
    (hdeclared : s.cap.drives.entries.any (fun e => e.drive == d) = true) :
    s.driveError d = ((s.markFailed d).loseMembers d (List.finRange 32)).dropDrive d := by
  have hopen : ¬ (s.cap.driveFailed[d] || !s.cap.drives.entries.any (fun e => e.drive == d)) = true := by
    rw [hstands, hdeclared]
    exact Bool.false_ne_true
  unfold State.driveError
  rw [if_neg hopen]
  generalize List.finRange 32 = ns
  obtain ⟨⟨-, hcommands, hqueued⟩, -⟩ := State.loseMembers_keeps d ns (State.markFailed_idle (d := d) hidle)
  show ((((s.markFailed d).loseMembers d ns).cap.commands.filter _).map _
    ++ (((s.markFailed d).loseMembers d ns).cap.queued.filter _).map _).eraseDups.foldl _ _ = _
  rw [hcommands, hqueued]
  rfl

theorem driveWriteError_marks (hidle : s.StoreIdle) (hstands : s.cap.driveFailed[d] = false)
    (hdeclared : s.cap.drives.entries.any (fun e => e.drive == d) = true) :
    ∃ t, exec (.driveWriteError d) s = .next t ∧ s.ChangesOnly t [.cap] ∧ t.cap.driveFailed = s.cap.driveFailed.set d true
      ∧ ∀ (n : Fin 32) (m : Nat), s.cap.namespaces[n].members.findIdx? (fun x => x.1 == d) = some m →
          s.cap.namespaces[n].mode = .ok → s.cap.namespaces[n].failed = [] →
          t.cap.namespaces[n].failed = [m]
            ∧ t.cap.namespaces[n].mode = (if s.cap.namespaces[n].mirror then .degraded else .failed)
            ∧ t.cap.namespaces[n].objects = s.cap.namespaces[n].objects := by
  have hmarked := State.markFailed_idle (d := d) hidle
  have hnamespaces : (s.markFailed d).cap.namespaces = s.cap.namespaces := by rw [State.markFailed_cap]
  have hdone := State.driveError_idle hidle hstands hdeclared
  obtain ⟨-, hparts, hfailed, -⟩ := State.loseMembers_keeps d (List.finRange 32) hmarked
  refine ⟨_, rfl, State.settled_changesOne fun q hcap => ?_, ?_, fun n m hmember hmode hnofail => ?_⟩
  · rw [hdone]
    exact State.setCap_same _ hcap (hparts s q hcap (State.raise_same _ _ _ _ _ _ (State.setCap_same _ hcap (Part.Same.refl s q))))
  · rw [State.settled_cap, hdone, State.dropDrive_driveFailed, hfailed, State.markFailed_cap]
  · have hlost : (s.settled (s.driveError d)).cap.namespaces[n] = s.cap.namespaces[n].lost m := by
      simp only [State.settled_cap, hdone, State.dropDrive_namespaces]
      rw [State.loseMembers_first (List.nodup_finRange 32) (List.mem_finRange n) hmarked (by rwa [hnamespaces]) (by rwa [hnamespaces])
        (by rwa [hnamespaces]), hnamespaces]
    show (s.settled (s.driveError d)).cap.namespaces[n].failed = _ ∧ (s.settled (s.driveError d)).cap.namespaces[n].mode = _
      ∧ (s.settled (s.driveError d)).cap.namespaces[n].objects = _
    rw [hlost]
    exact ⟨rfl, rfl, rfl⟩

end DriveError

/-- Settles O28: one lemma for each row's case, and the rows whose condition does not hold leave the state. -/
theorem storeCommandsAndDrivesFollowTheirRules : Obligations.StoreCommandsAndDrivesFollowTheirRules := by
  intro s
  refine ⟨fun cid hunknown => State.settled_unchanged (State.nvmeComplete_unknown hunknown), fun b b' => nvmeCommandComplete_oneOfTwo,
    fun b hcommands hqueued => ⟨fun n c e => nvmeCommandComplete_declares hcommands hqueued,
      fun r => nvmeCommandComplete_reads hcommands hqueued, fun c o => nvmeCommandComplete_stores hcommands hqueued,
      fun n i => nvmeCommandComplete_checkpoints hcommands hqueued⟩,
    fun d hfailed => State.settled_unchanged (State.driveError_none hfailed), fun d hstands hdeclared hcaptures hcommands hqueued =>
      driveWriteError_marks ⟨hcaptures, hcommands, hqueued⟩ hstands hdeclared, fun n hmode left hleft => ?_,
    fun n hmode => State.settled_unchanged (if_neg (by simpa using hmode)), fun n => indexCheckpoint_due,
    fun n hnone => State.settled_unchanged (State.checkpoint_none hnone)⟩
  subst hleft
  exact ⟨_, rfl, State.settled_changesOne fun q hcap => State.rebuilt_same n hcap,
    by rw [State.settled_cap, State.rebuilt_namespaces hmode]⟩

end Sys2Proof.Machine

/-! SUPPORT. The operations that the references share (R250 to R253, R263): the judgement of the epoch source, a reference that is
disqualified, loses its activity or gains it, and a step that makes of one reference what it makes of it. -/
namespace Sys2Proof.Machine

/-! What they leave of the timing subsystem. -/

section Contents
variable (s : State)

theorem State.setEpochMet_dpll (met : Bool) : (s.setEpochMet met).dpll
    = { s.dpll with epochMet := met, epochLost := s.dpll.epochLost || (s.dpll.epochMet && !met) } := by
  rw [State.setEpochMet, State.raiseFlag_dpll, State.setDpll_dpll]

theorem State.judgeEpochSource_refs : s.judgeEpochSource.dpll.refs = s.dpll.refs := by
  unfold State.judgeEpochSource
  extract_lets new _ followed
  split
  · rfl
  · have hfollowed : followed.dpll.refs = s.dpll.refs := (congrArg DpllState.refs (State.raise_dpll ..)).trans rfl
    split
    · exact (congrArg DpllState.refs (State.setEpochMet_dpll ..)).trans hfollowed
    · exact hfollowed

theorem State.judgeEpochSource_epochSource : s.judgeEpochSource.dpll.epochSource = s.epochChoice := by
  unfold State.judgeEpochSource
  extract_lets new _ followed
  split
  case isTrue hsame => exact hsame
  case isFalse =>
    have hfollowed : followed.dpll.epochSource = s.epochChoice := (congrArg DpllState.epochSource (State.raise_dpll ..)).trans rfl
    split
    · exact (congrArg DpllState.epochSource (State.setEpochMet_dpll ..)).trans hfollowed
    · exact hfollowed

variable {s}

/-- The reference that the choice of the epoch source names is qualified (R263). -/
theorem State.epochChoice_qualified {k : Fin 8} (h : s.epochChoice = some k) : s.dpll.refs[k.val].qualified = true := by
  unfold State.epochChoice at h
  extract_lets of at h
  have hof : ∀ role k, of role = some k → s.dpll.refs[k.val].qualified = true := fun role k hk => by
    have hpasses := List.find?_some (show List.find? _ _ = some k from hk)
    exact (Bool.and_eq_true_iff.1 hpasses).2
  split at h
  case h_1 j hj => exact hof 1 k (hj.trans h)
  case h_2 => exact hof 2 k h

theorem State.judgeEpochSource_qualified {k : Fin 8} (h : s.judgeEpochSource.dpll.epochSource = some k) :
    s.judgeEpochSource.dpll.refs[k.val].qualified = true := by
  rw [State.judgeEpochSource_epochSource] at h
  rw [State.judgeEpochSource_refs]
  exact State.epochChoice_qualified h

/-- A reference as its disqualification leaves it (R253). -/
def Reference.disqualifiedAt (now : Nat) (x : Reference) : Reference :=
  { x.startQualification now with qualified := false, disqualified := true }

/-- A reference without activity, before it is disqualified (R251). -/
def Reference.inactive (x : Reference) : Reference := { x with active := false, goodRun := 0, badRun := 0 }

/-- A reference that has activity: one that had none begins its qualification (R251, R253). -/
def Reference.activeFrom (now : Nat) (x : Reference) : Reference :=
  if x.active then x else { x.startQualification now with active := true, activeSince := now }

end Contents

/-! What they leave of the other parts. -/

section Parts
variable {s u : State} {q : Part} (hq : q ≠ .dpll) (h : Part.Same s u q)
include hq h

theorem State.setEpochMet_same (met : Bool) : Part.Same s (u.setEpochMet met) q :=
  State.raiseFlag_same _ _ _ _ _ (State.setDpll_same _ hq h)

theorem State.judgeEpochSource_same : Part.Same s u.judgeEpochSource q := by
  unfold State.judgeEpochSource
  have hfollowed := State.raise_same 247 2 .occurrence oneUnit (indexParam u.dpll.epochSource) (indexParam u.epochChoice)
    (State.setDpll_same (fun d => { d with epochSource := u.epochChoice }) hq h)
  exact ite_same h (ite_same (State.setDpll_same _ hq (State.setEpochMet_same hq hfollowed false)) hfollowed)

end Parts

/-- A step whose effects are an update of the timing subsystem changes it alone. -/
theorem exec_setsDpll {c : Instr} {s u : State} {f : DpllState → DpllState} (hexec : exec c s = .next (s.settled u)) (hu : u = s.setDpll f) :
    ∃ t, exec c s = .next t ∧ s.ChangesOnly t [.dpll] ∧ t.dpll = f s.dpll := by
  subst hu
  exact ⟨_, hexec, State.settled_changesOne fun q hq => State.setDpll_same f hq (Part.Same.refl s q), State.settled_dpll ..⟩

/-- A step without effects. -/
theorem exec_idles {c : Instr} {s u : State} (hexec : exec c s = .next (s.settled u)) (hu : u = s) :
    ∃ t, exec c s = .next t ∧ s.ChangesOnly t [] :=
  hexec ▸ State.settled_unchanged hu

/-- The effects of a step in one reference: it is now `x`, and no other reference has changed, nor any other part. -/
structure State.RefBecomes (s u : State) (i : Fin 12) (x : Reference) : Prop where
  parts : ∀ q, q ≠ .dpll → Part.Same s u q
  refs  : u.dpll.refs = s.dpll.refs.set i x

section RefBecomes
variable {s u : State} {i : Fin 12} {x : Reference}

theorem State.RefBecomes.refl (i : Fin 12) (s : State) : s.RefBecomes s i s.dpll.refs[i] :=
  ⟨fun q _ => Part.Same.refl s q, (Vector.set_getElem_self i.isLt).symm⟩

variable (h : s.RefBecomes u i x)
include h

theorem State.RefBecomes.ref : u.dpll.refs[i] = x := by
  rw [h.refs]
  exact Vector.getElem_set_self i.isLt

theorem State.RefBecomes.clock : u.clock = s.clock := h.parts .clock (by decide)

theorem State.RefBecomes.setRef (f : Reference → Reference) : s.RefBecomes (u.setRef i f) i (f x) where
  parts q hq := State.setRef_same i f hq (h.parts q hq)
  refs := by rw [State.setRef_dpll, h.ref, h.refs, Vector.set_set]

theorem State.RefBecomes.raise (src item : Nat) (a : Action) (p0 p1 p2 : Nat) : s.RefBecomes (u.raise src item a p0 p1 p2) i x :=
  ⟨fun q hq => State.raise_same _ _ _ _ _ _ (h.parts q hq), by rw [State.raise_dpll, h.refs]⟩

theorem State.RefBecomes.raiseIf (c : Bool) (src item : Nat) (a : Action) (p0 p1 p2 : Nat) :
    s.RefBecomes (u.raiseIf c src item a p0 p1 p2) i x :=
  ⟨fun q hq => State.raiseIf_same _ _ _ _ _ _ _ (h.parts q hq), by rw [State.raiseIf_dpll, h.refs]⟩

theorem State.RefBecomes.judgeEpochSource : s.RefBecomes u.judgeEpochSource i x :=
  ⟨fun q hq => State.judgeEpochSource_same hq (h.parts q hq), (State.judgeEpochSource_refs u).trans h.refs⟩

theorem State.RefBecomes.disqualify : s.RefBecomes (u.disqualify i) i (x.disqualifiedAt s.clock.tick) := by
  rw [← h.clock]
  exact ((h.setRef (Reference.disqualifiedAt u.clock.tick)).raiseIf _ _ _ _ _ _ _).judgeEpochSource

theorem State.RefBecomes.loseActivity : s.RefBecomes (u.loseActivity i) i (x.inactive.disqualifiedAt s.clock.tick) :=
  (h.setRef Reference.inactive).disqualify

theorem State.RefBecomes.gainActivity : s.RefBecomes (u.gainActivity i) i (x.activeFrom s.clock.tick) := by
  rw [← h.clock]
  exact h.setRef (Reference.activeFrom u.clock.tick)

/-- A step with such effects changes only the timing subsystem, and of the references only this one. -/
theorem State.RefBecomes.settled : s.ChangesOnly (s.settled u) [.dpll] ∧ (s.settled u).dpll.refs[i] = x
    ∧ ∀ j : Fin 12, j ≠ i → (s.settled u).dpll.refs[j] = s.dpll.refs[j] := by
  refine ⟨State.settled_changesOne h.parts, by rw [State.settled_dpll, h.ref], fun j hj => ?_⟩
  rw [State.settled_dpll, h.refs]
  exact Vector.getElem_set_ne i.isLt j.isLt fun e => hj (Fin.ext e.symm)

theorem State.RefBecomes.step {c : Instr} {w : State} (hexec : exec c s = .next (s.settled w)) (hw : w = u) :
    ∃ t, exec c s = .next t ∧ s.ChangesOnly t [.dpll] ∧ t.dpll.refs[i] = x ∧ ∀ j : Fin 12, j ≠ i → t.dpll.refs[j] = s.dpll.refs[j] :=
  ⟨_, hexec, hw ▸ h.settled⟩

end RefBecomes
end Sys2Proof.Machine

/-! SUPPORT. The SYNC commands (R361 to R367): the declaration and the force of a reference, the timing settings, the software loop, the
commanded step, the outputs and the status, and the statement about them. -/
namespace Sys2Proof.Machine

theorem cmdRefDeclare_actsLater : cmdRefDeclare.ActsLater := ⟨rfl, rfl, rfl, rfl⟩
theorem cmdTimingSet_actsLater : cmdTimingSet.ActsLater := ⟨rfl, rfl, rfl, rfl⟩
theorem cmdRefForce_actsLater : cmdRefForce.ActsLater := ⟨rfl, rfl, rfl, rfl⟩
theorem cmdLoopOpen_actsLater : cmdLoopOpen.ActsLater := ⟨rfl, rfl, rfl, rfl⟩
theorem cmdLoopClose_actsLater : cmdLoopClose.ActsLater := ⟨rfl, rfl, rfl, rfl⟩
theorem cmdDcoWrite_actsLater : cmdDcoWrite.ActsLater := ⟨rfl, rfl, rfl, rfl⟩
theorem cmdTickStep_actsAtOnce : cmdTickStep.ActsAtOnce := ⟨rfl, rfl⟩
theorem cmdOutputSet_actsLater : cmdOutputSet.ActsLater := ⟨rfl, rfl, rfl, rfl⟩
theorem cmdTimingStatus_actsAtOnce : cmdTimingStatus.ActsAtOnce := ⟨rfl, rfl⟩

theorem cmdTickStep_actsOn : cmdTickStep.ActsOn .dpll :=
  ⟨fun _ _ => State.setDpll_same _, fun _ _ _ _ => rfl⟩

/-- A request whose fields are out of range is refused with the offset of the first of them (R319 step 12, R598). -/
theorem State.Admits.checkOwn_range {s : State} {k : Command} {r : Request} {off : Nat} (h : s.Admits k r) (hr : k.range r = some off) (n : Nat) :
    (s.cleared r).checkOwn k r n false = (s.cleared r).refuseOwn k r false .errRange off [] := by
  obtain ⟨htinder, hshut⟩ := h.service
  have hfull : ¬ (k.full && s.host.service == 1) = true := by simpa using htinder
  have halways : ¬ (decide (3 ≤ s.host.service) && !k.always) = true := by simpa using hshut
  refine (if_neg hfull).trans ((if_neg halways).trans ?_)
  simp only [hr]

/-- The refusal leaves its record, and nothing else. -/
theorem exec_refusesRange {s : State} {k : Command} {r : Request} {i : Instr} (hi : exec i s = .next (s.settled (s.request k r)))
    (h : s.Admits k r) (hd : k.desc = false) (hrefused : k.refused = fun _ _ s => s) {off : Nat} (hr : k.range r = some off)
    {out : List Byte} (hout : zeros k.results = out) : ∃ t, exec i s = .next t ∧ s.Refuses t r .errRange off out := by
  have hrequest : s.request k r = (s.cleared r).refuse k.opcode r false .errRange off out := by
    unfold State.request State.serve
    simp only [h.takes, if_true, if_neg h.token, h.fresh, h.examine, h.capacity, hd, Bool.not_true, Bool.false_eq_true, if_false,
      h.checkOwn_range hr, State.refuseOwn, hrefused, padTo_nil, hout]
  exact ⟨_, hi, hrequest ▸ State.refuses_refuse h.fresh ..⟩

section Answers
variable {s v : State} {r : Request}

/-! REF_DECLARE (R250, R361). -/

theorem refField_eq {i : Fin 12} (hi : r.u 0 1 = i.val) : refField r = i := by
  rw [refField, hi, Fin.ofNat_val_eq_self]

/-- A reference with the fields of a declaration. -/
def Reference.declared (r : Request) (x : Reference) : Reference :=
  { x with
    kind := kindOf (r.u 1 1), nominal := r.u 4 4, priority := r.u 2 1, epochRole := r.u 3 1, accept := r.u 8 4
    reject := r.u 12 4, qualSeconds := r.u 16 2, tolerance := r.u 20 4 }

/-- A reference whose kind or nominal a declaration changes begins anew (R250). -/
def Reference.declaredNew (r : Request) (now : Nat) : Reference :=
  ((Reference.declared r { Reference.reset with lastGood := now }).startGate).startQualification now

theorem carryOut_refDeclare_changed (h : changesRef r v.dpll.refs[refField r] = true) :
    (v.carryOut ⟨0x0501, r, []⟩).dpll.refs = v.dpll.refs.set (refField r) (.declaredNew r v.clock.tick) := by
  have hlater : v.carryOut ⟨0x0501, r, []⟩ = ((v.raiseIf v.dpll.refs[refField r].qualified (refSource (refField r)) 2 .occurrence
      (refField r).val 0 0).setRef (refField r) (fun _ => .declaredNew r v.clock.tick)).judgeEpochSource := if_pos h
  rw [hlater, State.judgeEpochSource_refs, State.setRef_dpll, State.raiseIf_dpll]

theorem carryOut_refDeclare_kept (h : changesRef r v.dpll.refs[refField r] = false) :
    (v.carryOut ⟨0x0501, r, []⟩).dpll.refs = v.dpll.refs.set (refField r) (v.dpll.refs[refField r].declared r) := by
  have hlater : v.carryOut ⟨0x0501, r, []⟩ = (v.setRef (refField r) (Reference.declared r)).judgeEpochSource :=
    if_neg (Bool.eq_false_iff.1 h)
  rw [hlater, State.judgeEpochSource_refs, State.setRef_dpll]

/-- The declaration changes the reference that the loop follows. -/
def State.changesSelected (v : State) (r : Request) : Bool :=
  v.dpll.selected = some (refField r) && changesRef r v.dpll.refs[refField r]

/-- The epoch role that the declaration gives is another reference's. -/
def State.roleTaken (v : State) (r : Request) : Bool :=
  r.u 3 1 != 0 && (List.finRange 12).any (fun j => j != refField r && v.dpll.refs[j].epochRole == r.u 3 1)

theorem State.roleTaken_iff : v.roleTaken r = true
    ↔ r.u 3 1 ≠ 0 ∧ ∃ j : Fin 12, j ≠ refField r ∧ v.dpll.refs[j].epochRole = r.u 3 1 := by
  simp [State.roleTaken]

theorem cmdRefDeclare_check (n : Nat) : cmdRefDeclare.check r n v
    = if v.changesSelected r then .refuse .errState 0 [] else if v.roleTaken r then .refuse .errConflict 0 [] else .done [] := rfl

/-- REF_DECLARE (R250, R361). -/
theorem refDeclare_answers {i : Fin 12} (h : s.Admits cmdRefDeclare r) (hr : cmdRefDeclare.range r = none) (hi : r.u 0 1 = i.val)
    (hv : v = s.judged r) :
    ((v.dpll.selected ≠ some i ∨ changesRef r v.dpll.refs[i] = false) →
      (r.u 3 1 = 0 ∨ ∀ j : Fin 12, j ≠ i → v.dpll.refs[j].epochRole ≠ r.u 3 1) → ∃ t x, exec (.refDeclare r) s = .next t
        ∧ s.Answers t r .ok [] (some 0x0501) ∧ (v.carryOut ⟨0x0501, r, []⟩).dpll.refs = v.dpll.refs.set i x
        ∧ x.kind = kindOf (r.u 1 1) ∧ x.priority = r.u 2 1 ∧ x.epochRole = r.u 3 1 ∧ x.nominal = r.u 4 4 ∧ x.accept = r.u 8 4
        ∧ x.reject = r.u 12 4 ∧ x.qualSeconds = r.u 16 2 ∧ x.tolerance = r.u 20 4
        ∧ (changesRef r v.dpll.refs[i] = true → x.qualified = false)
        ∧ (changesRef r v.dpll.refs[i] = false → x.qualified = v.dpll.refs[i].qualified ∧ x.gateAccept = v.dpll.refs[i].gateAccept)) ∧
    (v.dpll.selected = some i → changesRef r v.dpll.refs[i] = true → ∃ t, exec (.refDeclare r) s = .next t ∧ s.Refuses t r .errState 0 []) ∧
    (∀ j : Fin 12, v.dpll.selected ≠ some i → r.u 3 1 ≠ 0 → j ≠ i → v.dpll.refs[j].epochRole = r.u 3 1 → ∃ t, exec (.refDeclare r) s = .next t
      ∧ s.Refuses t r .errConflict 0 []) := by
  subst hv
  obtain rfl := refField_eq hi
  have hcheck := cmdRefDeclare_check (v := s.judged r) (r := r) 0
  have hfree : (s.judged r).dpll.selected ≠ some (refField r) ∨ changesRef r (s.judged r).dpll.refs[refField r] = false →
      (s.judged r).changesSelected r = false := by
    simp only [State.changesSelected, Bool.and_eq_false_iff, decide_eq_false_iff_not]
    exact id
  refine ⟨fun hselected hrole => ?_, fun hselected hchanges => ?_, fun j hselected hnamed hj htaken => ?_⟩
  · have hnone : ¬ (s.judged r).roleTaken r = true := by
      rw [State.roleTaken_iff]
      rintro ⟨hnamed, j, hj, htaken⟩
      exact hrole.elim hnamed fun hothers => hothers j hj htaken
    obtain ⟨t, ht, ha⟩ := exec_answersOk (i := .refDeclare r) (res := []) cmdRefDeclare_actsLater rfl h hr
      (by rw [hcheck, hfree hselected, if_neg Bool.false_ne_true, if_neg hnone]) rfl
    cases hchanges : changesRef r (s.judged r).dpll.refs[refField r]
    case true =>
      exact ⟨t, _, ht, ha, carryOut_refDeclare_changed hchanges, rfl, rfl, rfl, rfl, rfl, rfl, rfl, rfl, fun _ => rfl, nofun⟩
    case false =>
      exact ⟨t, _, ht, ha, carryOut_refDeclare_kept hchanges, rfl, rfl, rfl, rfl, rfl, rfl, rfl, rfl, nofun, fun _ => ⟨rfl, rfl⟩⟩
  · have hchanged : (s.judged r).changesSelected r = true := Bool.and_eq_true_iff.2 ⟨decide_eq_true hselected, hchanges⟩
    exact exec_refuses cmdRefDeclare_actsLater rfl h hr (hcheck.trans (if_pos hchanged)) rfl
  · exact exec_refuses cmdRefDeclare_actsLater rfl h hr
      (by rw [hcheck, hfree (.inl hselected), if_neg Bool.false_ne_true, if_pos (State.roleTaken_iff.2 ⟨hnamed, j, hj, htaken⟩)]) rfl

/-! TIMING_SET (R261, R362). -/

theorem carryOut_timingSet : (v.carryOut ⟨0x0502, r, []⟩).dpll
    = { v.dpll with settings := v.dpll.settings.put (r.u 0 1) (r.s 4 8) } := rfl

theorem timingSet_answers (h : s.Admits cmdTimingSet r) (hr : cmdTimingSet.range r = none) :
    ∃ t, exec (.timingSet r) s = .next t ∧ s.Answers t r .ok [] (some 0x0502)
    ∧ (v.carryOut ⟨0x0502, r, []⟩).dpll = { v.dpll with settings := v.dpll.settings.put (r.u 0 1) (r.s 4 8) }
    ∧ (r.u 0 1 = 4 → (v.carryOut ⟨0x0502, r, []⟩).dpll.settings = { v.dpll.settings with lockWindow := (r.s 4 8).toNat })
    ∧ (r.u 0 1 = 10 → (v.carryOut ⟨0x0502, r, []⟩).dpll.settings = { v.dpll.settings with tickOffset := r.s 4 8 })
    ∧ (r.u 0 1 = 11 → (v.carryOut ⟨0x0502, r, []⟩).dpll.settings = { v.dpll.settings with holdoverLimit := (r.s 4 8).toNat })
    ∧ (r.u 0 1 = 13 → (v.carryOut ⟨0x0502, r, []⟩).dpll.settings = { v.dpll.settings with slewLimit := (r.s 4 8).toNat }) := by
  obtain ⟨t, ht, ha⟩ := exec_answersOk (i := .timingSet r) (res := []) cmdTimingSet_actsLater rfl h hr rfl rfl
  have hput {c : Nat} (hc : r.u 0 1 = c) : (v.carryOut ⟨0x0502, r, []⟩).dpll.settings = v.dpll.settings.put c (r.s 4 8) :=
    hc ▸ congrArg DpllState.settings carryOut_timingSet
  exact ⟨t, ht, ha, carryOut_timingSet, fun hc => hput hc, fun hc => hput hc, fun hc => hput hc, fun hc => hput hc⟩

/-! REF_FORCE (R256, R363). -/

theorem State.forceRef_dpll (f : Option (Fin 12)) : (v.forceRef f).dpll = { v.dpll with forced := f } := by
  unfold State.forceRef
  simp only
  split
  case isTrue => rfl
  case isFalse =>
    cases f with
    | some i => exact State.raise_dpll ..
    | none =>
      cases v.dpll.forced with
      | some i => exact State.raise_dpll ..
      | none => rfl

theorem carryOut_refForce : (v.carryOut ⟨0x0503, r, []⟩).dpll
    = { v.dpll with forced := if r.u 0 1 = 255 then none else some (refField r) } :=
  State.forceRef_dpll _

theorem cmdRefForce_check (n : Nat) : cmdRefForce.check r n v
    = if r.u 0 1 != 255 && v.dpll.refs[refField r].kind == .none then .refuse .errState 0 [] else .done [] := rfl

/-- REF_FORCE (R256, R363). -/
theorem refForce_answers (h : s.Admits cmdRefForce r) (hz : r.zero 1 3 = true) (hv : v = s.judged r) :
    (∀ i : Fin 12, r.u 0 1 = i.val → v.dpll.refs[i].kind ≠ .none → ∃ t, exec (.refForce r) s = .next t ∧ s.Answers t r .ok [] (some 0x0503)
      ∧ (v.carryOut ⟨0x0503, r, []⟩).dpll = { v.dpll with forced := some i }) ∧
    (r.u 0 1 = 255 → ∃ t, exec (.refForce r) s = .next t ∧ s.Answers t r .ok [] (some 0x0503)
      ∧ (v.carryOut ⟨0x0503, r, []⟩).dpll = { v.dpll with forced := none }) ∧
    (∀ i : Fin 12, r.u 0 1 = i.val → v.dpll.refs[i].kind = .none → ∃ t, exec (.refForce r) s = .next t ∧ s.Refuses t r .errState 0 []) ∧
    (11 < r.u 0 1 → r.u 0 1 ≠ 255 → ∃ t, exec (.refForce r) s = .next t ∧ s.Refuses t r .errRange 0 []) := by
  subst hv
  have hrange (hin : r.u 0 1 ≤ 11 ∨ r.u 0 1 = 255) : cmdRefForce.range r = none := by
    simp [cmdRefForce, firstBad, hz]
    omega
  have hnotAll (i : Fin 12) (hi : r.u 0 1 = i.val) : r.u 0 1 ≠ 255 := by omega
  have hcheck := cmdRefForce_check (v := s.judged r) (r := r) 0
  refine ⟨fun i hi hkind => ?_, fun hall => ?_, fun i hi hkind => ?_, fun hout hnotAll => ?_⟩
  · obtain rfl := refField_eq hi
    obtain ⟨t, ht, ha⟩ := exec_answersOk (i := .refForce r) (res := []) cmdRefForce_actsLater rfl h (hrange (.inl (by omega)))
      (hcheck.trans (if_neg (by simp [hkind, -Fin.getElem_fin]))) rfl
    exact ⟨t, ht, ha, by rw [carryOut_refForce, if_neg (hnotAll _ hi)]⟩
  · obtain ⟨t, ht, ha⟩ := exec_answersOk (i := .refForce r) (res := []) cmdRefForce_actsLater rfl h (hrange (.inr hall))
      (hcheck.trans (if_neg (by simp [hall]))) rfl
    exact ⟨t, ht, ha, by rw [carryOut_refForce, if_pos hall]⟩
  · obtain rfl := refField_eq hi
    exact exec_refuses cmdRefForce_actsLater rfl h (hrange (.inl (by omega)))
      (hcheck.trans (if_pos (by simp [hkind, hnotAll _ hi, -Fin.getElem_fin]))) rfl
  · exact exec_refusesRange rfl h rfl rfl (by simp [cmdRefForce, firstBad, hout, hnotAll]) rfl

/-! LOOP_OPEN, LOOP_CLOSE and DCO_WRITE (R259, R270, R364). -/

theorem State.openLoop_will (h : v.loopWill = true) : v.openLoop = v := if_pos h

theorem State.openLoop_wont (h : v.loopWill = false) : v.openLoop
    = if v.loopOpen then v.setDpll (fun d => { d with loopAsk := none })
      else v.setDpll (fun d => { d with loopAsk := some true, dcoFresh := false, declareLock := false, dcoWritten := v.clock.tick }) :=
  if_neg (Bool.eq_false_iff.1 h)

theorem loopOpen_answers (h : s.Admits cmdLoopOpen r) : ∃ t, exec (.loopOpen r) s = .next t ∧ s.Answers t r .ok [] (some 0x0504)
    ∧ (v.loopWill = true → v.carryOut ⟨0x0504, r, []⟩ = v)
    ∧ (v.loopWill = false → v.loopOpen = false → (v.carryOut ⟨0x0504, r, []⟩).dpll
        = { v.dpll with loopAsk := some true, dcoFresh := false, declareLock := false, dcoWritten := v.clock.tick })
    ∧ (v.loopWill = false → v.loopOpen = true → (v.carryOut ⟨0x0504, r, []⟩).dpll = { v.dpll with loopAsk := none }) := by
  obtain ⟨t, ht, ha⟩ := exec_answersOk (i := .loopOpen r) (res := []) cmdLoopOpen_actsLater rfl h rfl rfl rfl
  have hlater : v.carryOut ⟨0x0504, r, []⟩ = v.openLoop := rfl
  refine ⟨t, ht, ha, fun hwill => hlater.trans (State.openLoop_will hwill), fun hwont hopen => ?_, fun hwont hopen => ?_⟩
  · rw [hlater, State.openLoop_wont hwont, if_neg (Bool.eq_false_iff.1 hopen), State.setDpll_dpll]
  · rw [hlater, State.openLoop_wont hwont, if_pos hopen, State.setDpll_dpll]

theorem State.closeLoop_wont (h : v.loopWill = false) : v.closeLoop = v := if_pos (congrArg Bool.not h)

theorem State.closeLoop_will (h : v.loopWill = true) :
    v.closeLoop = v.setDpll (fun d => { d with loopAsk := if v.loopOpen = true then some false else none }) :=
  if_neg (by simp [h])

theorem loopClose_answers (h : s.Admits cmdLoopClose r) : ∃ t, exec (.loopClose r) s = .next t ∧ s.Answers t r .ok [] (some 0x0505)
    ∧ (v.loopWill = false → v.carryOut ⟨0x0505, r, []⟩ = v)
    ∧ (v.loopWill = true → (v.carryOut ⟨0x0505, r, []⟩).dpll
        = { v.dpll with loopAsk := if v.loopOpen = true then some false else none }) := by
  obtain ⟨t, ht, ha⟩ := exec_answersOk (i := .loopClose r) (res := []) cmdLoopClose_actsLater rfl h rfl rfl rfl
  exact ⟨t, ht, ha, State.closeLoop_wont, fun hwill => congrArg State.dpll (State.closeLoop_will hwill)⟩

theorem cmdDcoWrite_check (n : Nat) :
    cmdDcoWrite.check r n v = if v.loopWill then .done [] else .refuse .errState 0 [] := rfl

theorem dcoWrite_answers (h : s.Admits cmdDcoWrite r) (hlow : -250000000 ≤ r.s 0 4) (hhigh : r.s 0 4 ≤ 250000000) (hflag : r.u 4 1 ≤ 1)
    (hz : r.zero 5 3 = true) (hv : v = s.judged r) :
    (v.loopWill = true → ∃ t, exec (.dcoWrite r) s = .next t ∧ s.Answers t r .ok [] (some 0x0506)
      ∧ (v.carryOut ⟨0x0506, r, []⟩).dpll = { v.dpll with
          dcoWord := r.s 0 4, declareLock := decide (r.u 4 1 = 1), dcoWritten := v.clock.tick, dcoFresh := true }) ∧
    (v.loopWill = false → ∃ t, exec (.dcoWrite r) s = .next t ∧ s.Refuses t r .errState 0 []) := by
  subst hv
  have hr : cmdDcoWrite.range r = none := by
    simp [cmdDcoWrite, firstBad_eq_none, within, hlow, hhigh, hflag, hz]
  have hcheck := cmdDcoWrite_check (v := s.judged r) (r := r) 0
  refine ⟨fun hwill => ?_, fun hwont => ?_⟩
  · obtain ⟨t, ht, ha⟩ := exec_answersOk (i := .dcoWrite r) (res := []) cmdDcoWrite_actsLater rfl h hr (hcheck.trans (if_pos hwill)) rfl
    exact ⟨t, ht, ha, congrArg State.dpll (if_pos hwill)⟩
  · exact exec_refuses cmdDcoWrite_actsLater rfl h hr (hcheck.trans (if_neg (Bool.eq_false_iff.1 hwont))) rfl

theorem dcoWrite_outside (h : s.Admits cmdDcoWrite r) (hout : r.s 0 4 < -250000000 ∨ 250000000 < r.s 0 4) :
    ∃ t, exec (.dcoWrite r) s = .next t ∧ s.Refuses t r .errRange 0 [] := by
  have hbad : within (-250000000) 250000000 (r.s 0 4) = false := by
    simpa [within, Decidable.imp_iff_not_or] using hout
  exact exec_refusesRange rfl h rfl rfl (by simp [cmdDcoWrite, firstBad, hbad]) rfl

/-! TICK_STEP (R264, R267, R365). -/

theorem cmdTickStep_check (n : Nat) : cmdTickStep.check r n v
    = if (v.casc.mode == .joined && v.casc.role != .master) || v.dpll.epochSource.isNone || v.dpll.hostStep.isSome then
        .refuse .errState 0 []
      else .accept [] := rfl

theorem tickStep_answers (h : s.Admits cmdTickStep r) (hv : v = s.judged r) :
    ((v.casc.mode ≠ .joined ∨ v.casc.role = .master) → v.dpll.epochSource ≠ none → v.dpll.hostStep = none → ∃ t, exec (.tickStep r) s = .next t
      ∧ t.Recorded r .accepted 0 (zeros 16) ∧ s.ChangesOnly t [.channels, .dpll]
      ∧ t.dpll = { s.dpll with hostStep := some (r.ref, s.clock.tick + 4000000) }) ∧
    ((v.casc.mode = .joined ∧ v.casc.role ≠ .master ∨ v.dpll.epochSource = none ∨ v.dpll.hostStep ≠ none) →
      ∃ t, exec (.tickStep r) s = .next t ∧ s.Refuses t r .errState 0 (zeros 16)) := by
  subst hv
  have hcheck := cmdTickStep_check (v := s.judged r) (r := r) 0
  refine ⟨fun hown hsource hidle => ?_, fun hnot => ?_⟩
  · obtain ⟨u, hu, t, rfl, ht, hrecorded, hchanges⟩ := exec_acceptsOn cmdTickStep_actsAtOnce cmdTickStep_actsOn (i := .tickStep r) rfl h rfl rfl
      (res := []) (hcheck.trans (if_neg (by simpa [hsource, hidle, Decidable.imp_iff_not_or] using hown))) rfl
    have hdpll : u.dpll = s.dpll := hu.same .dpll (by decide)
    have hclock : u.clock = s.clock := hu.same .clock (by decide)
    refine ⟨_, ht, hrecorded, hchanges, ?_⟩
    rw [State.settled_dpll, State.noteApplied_dpll, ← hdpll, ← hclock]
    rfl
  · exact exec_refused rfl h rfl rfl rfl
      (hcheck.trans (if_pos (by simpa [Option.isSome_iff_ne_none, or_assoc] using hnot))) rfl

/-! OUTPUT_SET (R272, R274, R366). -/

/-- A settings byte in range holds ENABLE in bit 0 and SQUELCH in bit 1, and nothing else. -/
theorem outputSettings_flags (hr : cmdOutputSet.range r = none) :
    (outputSettings r).enable = (BitVec.ofNat 8 (r.u 1 1)).getLsbD 0 ∧ (outputSettings r).squelch = (BitVec.ofNat 8 (r.u 1 1)).getLsbD 1 := by
  have hsmall : decide (3 < r.u 1 1) = false := firstBad_eq_none.1 hr (decide (3 < r.u 1 1), 1) (by simp)
  have hflags : ∀ n ≤ 3, decide (n % 2 = 1) = (BitVec.ofNat 8 n).getLsbD 0 ∧ decide (n / 2 = 1) = (BitVec.ofNat 8 n).getLsbD 1 := by decide
  exact hflags _ (Nat.not_lt.1 (decide_eq_false_iff_not.1 hsmall))

theorem outputSet_answers {o : Fin 10} (h : s.Admits cmdOutputSet r) (hr : cmdOutputSet.range r = none) (ho : r.u 0 1 = o.val) :
    ∃ t, exec (.outputSet r) s = .next t ∧ s.Answers t r .ok [] (some 0x0508)
    ∧ ∃ x due, (v.carryOut ⟨0x0508, r, []⟩).dpll.outputs = v.dpll.outputs.set o { v.dpll.outputs[o] with next := some (x, due) }
      ∧ v.clock.tick ≤ due ∧ due ≤ v.clock.tick + 1 ∧ x.divider = r.u 4 4 ∧ x.freqUhz = r.u 8 8 ∧ x.width = r.u 16 4 ∧ x.offset = r.s 24 8
      ∧ x.period = r.u 2 1 ∧ x.enable = (BitVec.ofNat 8 (r.u 1 1)).getLsbD 0 ∧ x.squelch = (BitVec.ofNat 8 (r.u 1 1)).getLsbD 1 := by
  obtain ⟨t, ht, ha⟩ := exec_answersOk (i := .outputSet r) (res := []) cmdOutputSet_actsLater rfl h hr rfl rfl
  obtain ⟨henable, hsquelch⟩ := outputSettings_flags hr
  obtain rfl : Fin.ofNat 10 (r.u 0 1) = o := by rw [ho, Fin.ofNat_val_eq_self]
  refine ⟨t, ht, ha, outputSettings r, if (Fin.ofNat 10 (r.u 0 1)).val < 8 then v.clock.tick else v.clock.tick + 1, rfl, ?_, ?_,
    rfl, rfl, rfl, rfl, rfl, henable, hsquelch⟩
  all_goals
    split
    all_goals omega

/-- TIMING_STATUS (R367). -/
theorem timingStatus_answers (h : s.Admits cmdTimingStatus r) (hv : v = s.judged r) :
    ∃ t, exec (.timingStatus r) s = .next t ∧ s.Answers t r .ok (padTo 136 v.timingStatus) none := by
  subst hv
  exact exec_reports cmdTimingStatus_actsAtOnce rfl h rfl rfl rfl rfl rfl

end Answers

/-- Settles O44: each command's checks decide its answer, and its effect on the references, the settings, the loop or the outputs waits
for the next tick. -/
theorem synchronisationCommandsAnswerAndTakeEffect : Obligations.SynchronisationCommandsAnswerAndTakeEffect := by
  intro s v r hv
  exact ⟨fun _ h hr hi => refDeclare_answers h hr hi hv, timingSet_answers, fun h hz => refForce_answers h hz hv, loopOpen_answers,
    loopClose_answers, fun h hlow hhigh hflag hz => dcoWrite_answers h hlow hhigh hflag hz hv, dcoWrite_outside,
    fun h => tickStep_answers h hv, fun _ => outputSet_answers, fun h => timingStatus_answers h hv⟩

end Sys2Proof.Machine

/-! SUPPORT. The rows of the references (R250 to R253, R263): activity lost and present, the end of a frequency gate, the end of a
qualification, the pulses and what they measure, and the statement about them. -/
namespace Sys2Proof.Machine

/-! Activity and qualification (R251, R253). -/

section Activity
variable {s : State} {i : Fin 12}

/-- Edges or good pulses have failed to come in time: those of a PULSE reference after one and a half periods (R251). -/
def State.edgesLate (s : State) (x : Reference) : Bool :=
  match x.kind with
  | .none => false
  | .pulse => decide (3 * pulseTicks x.nominal < 2 * (s.clock.tick - x.lastGood))
  | .clock | .line => true

theorem State.refActivityLost_eq (i : Fin 12) (s : State) :
    s.refActivityLost i = if s.dpll.refs[i].active && s.edgesLate s.dpll.refs[i] then s.loseActivity i else s := rfl

theorem State.edgesLate_edges {x : Reference} (h : x.kind = .clock ∨ x.kind = .line) : s.edgesLate x = true := by
  rcases h with h | h
  · rw [State.edgesLate, h]
  · rw [State.edgesLate, h]

theorem State.edgesLate_pulse {x : Reference} (h : x.kind = .pulse) (hrecent : 2 * (s.clock.tick - x.lastGood) ≤ 3 * pulseTicks x.nominal) :
    s.edgesLate x = false := by
  rw [State.edgesLate, h]
  exact decide_eq_false (Nat.not_lt.2 hrecent)

/-- REF_ACTIVITY_LOST of an active clock or line (R251, R253). -/
theorem refActivityLost_edges (hactive : s.dpll.refs[i].active = true) (hkind : s.dpll.refs[i].kind = .clock ∨ s.dpll.refs[i].kind = .line) :
    ∃ t, exec (.refActivityLost i) s = .next t ∧ s.ChangesOnly t [.dpll] ∧ t.dpll.refs[i].active = false
      ∧ t.dpll.refs[i].qualified = false ∧ t.dpll.refs[i].disqualified = true ∧ t.dpll.refs[i].goodRun = 0
      ∧ ∀ j : Fin 12, j ≠ i → t.dpll.refs[j] = s.dpll.refs[j] := by
  have hlost : s.refActivityLost i = s.loseActivity i := if_pos (Bool.and_eq_true_iff.2 ⟨hactive, State.edgesLate_edges hkind⟩)
  obtain ⟨t, ht, hchanges, href, hothers⟩ := (State.RefBecomes.refl i s).loseActivity.step (c := .refActivityLost i) rfl hlost
  refine ⟨t, ht, hchanges, ?_⟩
  rw [href]
  exact ⟨rfl, rfl, rfl, rfl, hothers⟩

/-- Activity as REF_ACTIVITY_PRESENT finds it (R251). -/
def State.edgesPresent (s : State) (x : Reference) : Bool :=
  match x.kind with
  | .none => false
  | .pulse => decide (4 ≤ x.goodRun)
  | .clock => true
  | .line => s.lineClockOk x

theorem State.refActivityPresent_eq (i : Fin 12) (s : State) :
    s.refActivityPresent i = if s.edgesPresent s.dpll.refs[i] then s.gainActivity i else s := rfl

theorem State.edgesPresent_found {x : Reference} (h : x.kind = .clock ∨ (x.kind = .pulse ∧ 4 ≤ x.goodRun)) : s.edgesPresent x = true := by
  rcases h with h | ⟨h, hrun⟩
  · rw [State.edgesPresent, h]
  · rw [State.edgesPresent, h]
    exact decide_eq_true hrun

/-- REF_ACTIVITY_PRESENT of a clock, or of a pulse after four good ones (R251, R253). -/
theorem refActivityPresent_gains (hinactive : s.dpll.refs[i].active = false)
    (hfound : s.dpll.refs[i].kind = .clock ∨ (s.dpll.refs[i].kind = .pulse ∧ 4 ≤ s.dpll.refs[i].goodRun)) :
    ∃ t, exec (.refActivityPresent i) s = .next t ∧ s.ChangesOnly t [.dpll] ∧ t.dpll.refs[i].active = true
      ∧ t.dpll.refs[i].activeSince = s.clock.tick ∧ t.dpll.refs[i].qualSince = s.clock.tick
      ∧ t.dpll.refs[i].qualified = s.dpll.refs[i].qualified ∧ ∀ j : Fin 12, j ≠ i → t.dpll.refs[j] = s.dpll.refs[j] := by
  have hgained : s.refActivityPresent i = s.gainActivity i := if_pos (State.edgesPresent_found hfound)
  obtain ⟨t, ht, hchanges, href, hothers⟩ := (State.RefBecomes.refl i s).gainActivity.step (c := .refActivityPresent i) rfl hgained
  refine ⟨t, ht, hchanges, ?_⟩
  rw [href, Reference.activeFrom, if_neg (Bool.eq_false_iff.1 hinactive)]
  exact ⟨rfl, rfl, rfl, rfl, hothers⟩

/-- The condition of REF_QUALIFIED (R253). -/
theorem State.refQualified_eq (i : Fin 12) (s : State) : s.refQualified i
    = if s.dpll.refs[i].kind != .none && s.dpll.refs[i].active && !s.dpll.refs[i].qualified
        && s.dpll.refs[i].qualSince + 2000000 * s.dpll.refs[i].qualTime ≤ s.clock.tick then
        ((s.setRef i (fun x => { x with qualified := true, disqualified := false })).raise (refSource i) 1 .occurrence i.val 0 0).judgeEpochSource
      else s := rfl

/-- REF_QUALIFIED (R253). -/
theorem refQualified_passes (hkind : s.dpll.refs[i].kind ≠ .none) (hactive : s.dpll.refs[i].active = true)
    (hnot : s.dpll.refs[i].qualified = false) :
    (s.dpll.refs[i].qualSince + 2000000 * s.dpll.refs[i].qualTime ≤ s.clock.tick → ∃ t, exec (.refQualified i) s = .next t
      ∧ s.ChangesOnly t [.dpll] ∧ t.dpll.refs[i].qualified = true ∧ t.dpll.refs[i].disqualified = false
      ∧ ∀ j : Fin 12, j ≠ i → t.dpll.refs[j] = s.dpll.refs[j]) ∧
    (s.clock.tick < s.dpll.refs[i].qualSince + 2000000 * s.dpll.refs[i].qualTime →
      ∃ t, exec (.refQualified i) s = .next t ∧ s.ChangesOnly t []) := by
  refine ⟨fun hpast => ?_, fun hearly => ?_⟩
  · have hpasses := (State.refQualified_eq i s).trans (if_pos (by simp [hkind, hactive, hnot, hpast, -Fin.getElem_fin]))
    obtain ⟨t, ht, hchanges, href, hothers⟩ := ((((State.RefBecomes.refl i s).setRef
      (fun x => { x with qualified := true, disqualified := false })).raise _ _ _ _ _ _).judgeEpochSource).step (c := .refQualified i)
      rfl hpasses
    refine ⟨t, ht, hchanges, ?_⟩
    rw [href]
    exact ⟨rfl, rfl, hothers⟩
  · exact State.settled_unchanged ((State.refQualified_eq i s).trans (if_neg (by simp [hearly, -Fin.getElem_fin])))

end Activity

/-! The end of a frequency gate (R250, R252, R253). -/

section Gate
variable {s : State} {i : Fin 12}

/-- A reference whose gate has ended: the next gate has the limits in force, and the offset restarts or ends the qualification where it
is beyond the limits `a` and `j` of the gate that ended (R250, R252, R253). -/
def Reference.gated (now a j : Nat) (offset : Int) (x : Reference) : Reference :=
  let y := { x.startGate with offset := offset }
  if j < offset.natAbs then (if x.qualified then y.disqualifiedAt now else y.startQualification now)
  else if a < offset.natAbs && !x.qualified then y.startQualification now
  else y

theorem State.refGateEnd_becomes (offset : Int) (hkind : s.dpll.refs[i].kind ≠ .none) : s.RefBecomes (s.refGateEnd i offset) i
    (s.dpll.refs[i].gated s.clock.tick (s.refLimits s.dpll.refs[i]).1 (s.refLimits s.dpll.refs[i]).2 offset) := by
  have hgate := (State.RefBecomes.refl i s).setRef (fun x => { x.startGate with offset := offset })
  unfold State.refGateEnd Reference.gated
  rw [if_neg (by simpa [-Fin.getElem_fin] using hkind)]
  simp only
  split
  · split
    · exact hgate.disqualify
    · exact hgate.setRef _
  · split
    · exact hgate.setRef _
    · exact hgate

section Gated
variable (now a j : Nat) (offset : Int) (x : Reference)

theorem Reference.gated_offset : (x.gated now a j offset).offset = offset := by
  unfold Reference.gated
  repeat' split
  all_goals rfl

theorem Reference.gated_limits : (x.gated now a j offset).gateAccept = x.accept ∧ (x.gated now a j offset).gateReject = x.reject := by
  unfold Reference.gated
  repeat' split
  all_goals exact ⟨rfl, rfl⟩

variable {now a j offset x}

theorem Reference.gated_rejected (h : j < offset.natAbs) :
    (x.gated now a j offset).qualified = false ∧ (x.gated now a j offset).qualSince = now := by
  unfold Reference.gated
  rw [if_pos h]
  split
  case isTrue => exact ⟨rfl, rfl⟩
  case isFalse hnot => exact ⟨Bool.eq_false_iff.2 hnot, rfl⟩

theorem Reference.gated_kept (h : offset.natAbs ≤ j) : (x.gated now a j offset).qualified = x.qualified := by
  unfold Reference.gated
  rw [if_neg (Nat.not_lt.2 h)]
  split
  all_goals rfl

theorem Reference.gated_restarted (ha : a < offset.natAbs) (h : offset.natAbs ≤ j) (hnot : x.qualified = false) :
    (x.gated now a j offset).qualSince = now := by
  unfold Reference.gated
  rw [if_neg (Nat.not_lt.2 h), if_pos (by simp [ha, hnot])]
  rfl

theorem Reference.gated_accepted (ha : offset.natAbs ≤ a) (h : offset.natAbs ≤ j) : (x.gated now a j offset).qualSince = x.qualSince := by
  unfold Reference.gated
  rw [if_neg (Nat.not_lt.2 h), if_neg (by simp [Nat.not_lt.2 ha])]
  rfl

end Gated

/-- REF_GATE_END (R250, R252, R253). -/
theorem refGateEnd_judges {x : Int} {a j : Nat} (hkind : s.dpll.refs[i].kind ≠ .none)
    (hlimits : (a, j) = (if s.dpll.holdOscQualified then (10 * s.dpll.refs[i].gateAccept, 10 * s.dpll.refs[i].gateReject) else (500000, 1000000))) :
    ∃ t, exec (.refGateEnd i x) s = .next t ∧ s.ChangesOnly t [.dpll] ∧ t.dpll.refs[i].offset = x
      ∧ t.dpll.refs[i].gateAccept = s.dpll.refs[i].accept ∧ t.dpll.refs[i].gateReject = s.dpll.refs[i].reject
      ∧ (j < x.natAbs → t.dpll.refs[i].qualified = false ∧ t.dpll.refs[i].qualSince = s.clock.tick)
      ∧ (a < x.natAbs → x.natAbs ≤ j → t.dpll.refs[i].qualified = s.dpll.refs[i].qualified
          ∧ (s.dpll.refs[i].qualified = false → t.dpll.refs[i].qualSince = s.clock.tick))
      ∧ (x.natAbs ≤ a → x.natAbs ≤ j → t.dpll.refs[i].qualified = s.dpll.refs[i].qualified
          ∧ t.dpll.refs[i].qualSince = s.dpll.refs[i].qualSince) := by
  have hforce : s.refLimits s.dpll.refs[i] = (a, j) := by
    rw [hlimits, State.refLimits, State.coarse]
    cases s.dpll.holdOscQualified
    · rfl
    · rfl
  obtain ⟨t, ht, hchanges, href, -⟩ := (State.refGateEnd_becomes x hkind).step (c := .refGateEnd i x) rfl rfl
  rw [hforce] at href
  obtain ⟨haccept, hreject⟩ := Reference.gated_limits s.clock.tick a j x s.dpll.refs[i]
  refine ⟨t, ht, hchanges, ?_⟩
  rw [href]
  exact ⟨Reference.gated_offset .., haccept, hreject, Reference.gated_rejected,
    fun ha hj => ⟨Reference.gated_kept hj, Reference.gated_restarted ha hj⟩,
    fun ha hj => ⟨Reference.gated_kept hj, Reference.gated_accepted ha hj⟩⟩

end Gate
end Sys2Proof.Machine

/-! SUPPORT. A pulse on a PULSE reference (R251), what a pulse of the epoch source measures where no step falls due (R263, R264), and the
statement about the references. -/
namespace Sys2Proof.Machine

/-! The measurement of the epoch error. -/

/-- The epoch condition after a measurement, with its runs of good and bad ones (R263). -/
def DpllState.epochMetAfter (good bad : Nat) (d : DpllState) : Bool :=
  if !d.epochMet && 3 ≤ good then true else if d.epochMet && 3 ≤ bad then false else d.epochMet

theorem DpllState.epochMetAfter_good {d : DpllState} {good : Nat} (h : 3 ≤ good) : d.epochMetAfter good 0 = true := by
  cases hmet : d.epochMet
  all_goals simp [DpllState.epochMetAfter, hmet, h]

theorem DpllState.epochMetAfter_bad {d : DpllState} {bad : Nat} (h : 3 ≤ bad) : d.epochMetAfter 0 bad = false := by
  cases hmet : d.epochMet
  all_goals simp [DpllState.epochMetAfter, hmet, h]

/-- The runs of good and bad measurements decide the epoch condition (R263). -/
def State.judgeEpochRuns (good bad : Nat) (s : State) : State :=
  if !s.dpll.epochMet && 3 ≤ good then s.setEpochMet true else if s.dpll.epochMet && 3 ≤ bad then s.setEpochMet false else s

theorem State.judgeEpochRuns_dpll (good bad : Nat) (s : State) :
    ∃ lost, (s.judgeEpochRuns good bad).dpll = { s.dpll with epochMet := s.dpll.epochMetAfter good bad, epochLost := lost } := by
  unfold State.judgeEpochRuns DpllState.epochMetAfter
  split
  · exact ⟨_, State.setEpochMet_dpll s true⟩
  · split
    · exact ⟨_, State.setEpochMet_dpll s false⟩
    · exact ⟨s.dpll.epochLost, rfl⟩

/-- What is recorded of a pulse of the epoch source: the error, with the runs of good and bad measurements (R263). -/
def State.epochNoted (nominal : Nat) (instant : Int) (s : State) : State :=
  let e := s.epochErrorOf nominal instant
  let near := decide (e.natAbs ≤ 20 * s.dpll.settings.epochWindow)
  s.setDpll fun d => { d with
    epochError := e, epochGoodRun := if near then s.dpll.epochGoodRun + 1 else 0, epochBadRun := if near then 0 else s.dpll.epochBadRun + 1
    aligned := true, epochLost := false, pullError := if s.stepsNow e then 0 else e }

/-- The events of a measurement: the report of the software loop, and an error of more than half a period (R263, R270). -/
def State.epochReported (beyond : Bool) (e : Int) (s : State) : State :=
  s.phaseReport.raiseIf beyond 247 4 .occurrence oneUnit (e.natAbs % 4294967296) 0

theorem State.epochReported_dpll (beyond : Bool) (e : Int) (s : State) : (s.epochReported beyond e).dpll = s.dpll := by
  rw [State.epochReported, State.raiseIf_dpll, State.phaseReport, State.raiseIf_dpll]

/-- The error depends on the clocks and the settings alone. -/
theorem State.epochErrorOf_congr {s u : State} (hrtc : u.rtc = s.rtc) (hclock : u.clock = s.clock) (hset : u.dpll.settings = s.dpll.settings)
    (nominal : Nat) (instant : Int) : u.epochErrorOf nominal instant = s.epochErrorOf nominal instant := by
  simp only [State.epochErrorOf, State.rtcUnits, hrtc, hclock, hset]

/-- No step falls due once the error has been measured, while none is asked for (R264, R267, R365). -/
theorem State.stepsNow_aligned {s : State} (haligned : s.dpll.aligned = true) (hlost : s.dpll.epochLost = false)
    (hhost : s.dpll.hostStep = none) (e : Int) : s.stepsNow e = false := by
  simp [State.stepsNow, haligned, hlost, hhost]

section Measure
variable {s u : State} {nominal : Nat} {instant : Int} (hstay : u.stepsNow (u.epochErrorOf nominal instant) = false)
include hstay

theorem State.measureEpoch_stays : ∃ beyond, u.measureEpoch nominal instant
    = ((u.epochNoted nominal instant).epochReported beyond (u.epochErrorOf nominal instant)).judgeEpochRuns
      (u.epochNoted nominal instant).dpll.epochGoodRun (u.epochNoted nominal instant).dpll.epochBadRun := by
  refine ⟨u.dpll.aligned && decide (10000 * pulseTicks nominal / 2 < (u.epochErrorOf nominal instant).natAbs), ?_⟩
  exact if_neg (Bool.eq_false_iff.1 hstay)

/-- Such a measurement changes the timing subsystem alone. -/
theorem State.measureEpoch_same {q : Part} (hq : q ≠ .dpll) (h : Part.Same s u q) : Part.Same s (u.measureEpoch nominal instant) q := by
  obtain ⟨beyond, hmeasured⟩ := State.measureEpoch_stays hstay
  have hreported : Part.Same s ((u.epochNoted nominal instant).epochReported beyond (u.epochErrorOf nominal instant)) q :=
    State.raiseIf_same _ _ _ _ _ _ _ (State.raiseIf_same _ _ _ _ _ _ _ (State.setDpll_same _ hq h))
  rw [hmeasured]
  exact ite_same (State.setEpochMet_same hq hreported true) (ite_same (State.setEpochMet_same hq hreported false) hreported)

theorem State.measureEpoch_dpll : ∃ lost, (u.measureEpoch nominal instant).dpll = { (u.epochNoted nominal instant).dpll with
    epochMet := u.dpll.epochMetAfter (u.epochNoted nominal instant).dpll.epochGoodRun (u.epochNoted nominal instant).dpll.epochBadRun
    epochLost := lost } := by
  obtain ⟨beyond, hmeasured⟩ := State.measureEpoch_stays hstay
  obtain ⟨lost, hjudged⟩ := State.judgeEpochRuns_dpll (u.epochNoted nominal instant).dpll.epochGoodRun
    (u.epochNoted nominal instant).dpll.epochBadRun
    ((u.epochNoted nominal instant).epochReported beyond (u.epochErrorOf nominal instant))
  rw [State.epochReported_dpll] at hjudged
  exact ⟨lost, hmeasured ▸ hjudged⟩

end Measure

/-! The pulses (R251). -/

section Pulse
variable {s : State} {i : Fin 12} {k : Fin 8} {m : PulseMeasure}

/-- A reference with one more good pulse, or one more bad one. -/
def Reference.goodPulse (now : Nat) (x : Reference) : Reference := { x with goodRun := x.goodRun + 1, badRun := 0, lastGood := now }
def Reference.badPulse (x : Reference) : Reference := { x with badRun := x.badRun + 1, goodRun := 0 }

theorem Reference.activeFrom_active (now : Nat) (x : Reference) : (x.activeFrom now).active = true := by
  unfold Reference.activeFrom
  split
  case isTrue hactive => exact hactive
  case isFalse => rfl

/-- Activity that is gained leaves the runs of pulses. -/
theorem Reference.activeFrom_pulses (now : Nat) (x : Reference) : (x.activeFrom now).goodRun = x.goodRun
    ∧ (x.activeFrom now).badRun = x.badRun ∧ (x.activeFrom now).lastGood = x.lastGood := by
  unfold Reference.activeFrom
  split
  all_goals exact ⟨rfl, rfl, rfl⟩

/-- A good pulse counts, and the fourth in a row gives activity. -/
def State.goodPulse (i : Fin 12) (s : State) : State :=
  if 3 ≤ s.dpll.refs[i].goodRun then (s.setRef i (Reference.goodPulse s.clock.tick)).gainActivity i
  else s.setRef i (Reference.goodPulse s.clock.tick)

/-- A bad pulse counts, and the second in a row takes the activity. -/
def State.badPulse (i : Fin 12) (s : State) : State :=
  if 1 ≤ s.dpll.refs[i].badRun && s.dpll.refs[i].active then (s.setRef i Reference.badPulse).loseActivity i
  else s.setRef i Reference.badPulse

/-- A pulse of the epoch source is measured (R263). -/
def State.measureIfSource (k : Fin 8) (nominal : Nat) (instant : Int) (s : State) : State :=
  if s.dpll.epochSource = some k then s.measureEpoch nominal instant else s

theorem State.refPulse_other (hk : i.val = k.val) (hkind : s.dpll.refs[i].kind ≠ .pulse) : s.refPulse k m = s := by
  obtain rfl : i = k.castLE (by decide) := Fin.ext hk
  exact if_pos (bne_iff_ne.2 hkind)

/-- A pulse on a PULSE reference is judged good or bad; then the epoch source's is measured. -/
theorem State.refPulse_pulse (hk : i.val = k.val) (hkind : s.dpll.refs[i].kind = .pulse) : s.refPulse k m
    = (let bad := pulseBad m s.dpll.refs[i]
       let w := s.setRef i (fun x => if bad then x.badPulse else x.goodPulse s.clock.tick)
       if bad && 1 ≤ s.dpll.refs[i].badRun && s.dpll.refs[i].active then w.loseActivity i
       else if !bad && 3 ≤ s.dpll.refs[i].goodRun then w.gainActivity i else w).measureIfSource k s.dpll.refs[i].nominal m.instant := by
  obtain rfl : i = k.castLE (by decide) := Fin.ext hk
  exact if_neg (fun h => bne_iff_ne.1 h hkind)

theorem State.refPulse_good (hk : i.val = k.val) (hkind : s.dpll.refs[i].kind = .pulse) (hgood : pulseBad m s.dpll.refs[i] = false) :
    s.refPulse k m = (s.goodPulse i).measureIfSource k s.dpll.refs[i].nominal m.instant := by
  rw [State.refPulse_pulse hk hkind, hgood]
  simp only [Bool.false_and, Bool.not_false, Bool.true_and, decide_eq_true_eq, Bool.false_eq_true, if_false]
  rfl

theorem State.refPulse_bad (hk : i.val = k.val) (hkind : s.dpll.refs[i].kind = .pulse) (hbad : pulseBad m s.dpll.refs[i] = true) :
    s.refPulse k m = (s.badPulse i).measureIfSource k s.dpll.refs[i].nominal m.instant := by
  rw [State.refPulse_pulse hk hkind, hbad]
  simp only [Bool.true_and, Bool.not_true, Bool.false_and, Bool.false_eq_true, if_false, if_true]
  rfl

theorem State.goodPulse_becomes (i : Fin 12) (s : State) : s.RefBecomes (s.goodPulse i) i
    (if 3 ≤ s.dpll.refs[i].goodRun then (s.dpll.refs[i].goodPulse s.clock.tick).activeFrom s.clock.tick
      else s.dpll.refs[i].goodPulse s.clock.tick) := by
  have hcounted := (State.RefBecomes.refl i s).setRef (Reference.goodPulse s.clock.tick)
  unfold State.goodPulse
  split
  · exact hcounted.gainActivity
  · exact hcounted

/-- A good pulse changes nothing of the timing subsystem but the references. -/
theorem State.goodPulse_dpll (i : Fin 12) (s : State) : ∃ xs, (s.goodPulse i).dpll = { s.dpll with refs := xs } := by
  unfold State.goodPulse
  split
  · exact ⟨_, rfl⟩
  · exact ⟨_, rfl⟩

/-- A reference that has lost its activity is not qualified, so it is not the epoch source (R263). -/
theorem State.loseActivity_notSource (hk : i.val = k.val) (w : State) : (w.loseActivity i).dpll.epochSource ≠ some k := by
  obtain rfl : i = k.castLE (by decide) := Fin.ext hk
  intro hsource
  have hqualified : (w.loseActivity (k.castLE (by decide))).dpll.refs[k.val].qualified = true := State.judgeEpochSource_qualified hsource
  have hlost := congrArg Reference.qualified (State.RefBecomes.refl (k.castLE (by decide)) w).loseActivity.ref
  exact Bool.false_ne_true (hlost.symm.trans hqualified)

/-- Where no reference was the epoch source, that of a bad pulse does not become it. -/
theorem State.badPulse_notSource (hk : i.val = k.val) (hnone : s.dpll.epochSource = none) : (s.badPulse i).dpll.epochSource ≠ some k := by
  unfold State.badPulse
  split
  · exact State.loseActivity_notSource hk _
  · rw [State.setRef_dpll]
    simp [hnone]

theorem State.badPulse_becomes (i : Fin 12) (s : State) : s.RefBecomes (s.badPulse i) i
    (if 1 ≤ s.dpll.refs[i].badRun && s.dpll.refs[i].active then s.dpll.refs[i].badPulse.inactive.disqualifiedAt s.clock.tick
      else s.dpll.refs[i].badPulse) := by
  have hcounted := (State.RefBecomes.refl i s).setRef Reference.badPulse
  unfold State.badPulse
  split
  · exact hcounted.loseActivity
  · exact hcounted

/-! REF_PULSE (R251, R263). -/

theorem exec_refPulse (k : Fin 8) (m : PulseMeasure) (s : State) : exec (.refPulse k m) s = .next (s.settled (s.refPulse k m)) := rfl

/-- A good pulse of another reference than the epoch source. -/
theorem refPulse_counts (hk : i.val = k.val) (hkind : s.dpll.refs[i].kind = .pulse) (hgood : pulseBad m s.dpll.refs[i] = false)
    (hsource : s.dpll.epochSource ≠ some k) :
    ∃ t, exec (.refPulse k m) s = .next t ∧ s.ChangesOnly t [.dpll] ∧ t.dpll.refs[i].goodRun = s.dpll.refs[i].goodRun + 1
      ∧ t.dpll.refs[i].badRun = 0 ∧ t.dpll.refs[i].lastGood = s.clock.tick ∧ t.dpll.epochError = s.dpll.epochError
      ∧ (3 ≤ s.dpll.refs[i].goodRun → t.dpll.refs[i].active = true)
      ∧ (s.dpll.refs[i].goodRun < 3 → t.dpll.refs[i].active = s.dpll.refs[i].active) := by
  obtain ⟨xs, hdpll⟩ := State.goodPulse_dpll i s
  have hstep : s.refPulse k m = s.goodPulse i :=
    (State.refPulse_good hk hkind hgood).trans (if_neg (by rw [hdpll]; exact hsource))
  obtain ⟨hchanges, href, -⟩ := (State.goodPulse_becomes i s).settled
  have herror : (s.settled (s.goodPulse i)).dpll.epochError = s.dpll.epochError := by rw [State.settled_dpll, hdpll]
  refine ⟨_, hstep ▸ exec_refPulse k m s, hchanges, ?_⟩
  rw [herror, href]
  by_cases hrun : 3 ≤ s.dpll.refs[i].goodRun
  · obtain ⟨hgoodRun, hbadRun, hlast⟩ := (s.dpll.refs[i].goodPulse s.clock.tick).activeFrom_pulses s.clock.tick
    rw [if_pos hrun]
    exact ⟨hgoodRun, hbadRun, hlast, rfl, fun _ => Reference.activeFrom_active .., fun hfew => absurd hrun (Nat.not_le.2 hfew)⟩
  · rw [if_neg hrun]
    exact ⟨rfl, rfl, rfl, rfl, fun hmany => absurd hmany hrun, fun _ => rfl⟩

/-- A bad pulse while no reference is the epoch source: the second in a row ends the activity. -/
theorem refPulse_loses (hk : i.val = k.val) (hkind : s.dpll.refs[i].kind = .pulse) (hbad : pulseBad m s.dpll.refs[i] = true)
    (hnone : s.dpll.epochSource = none) (hactive : s.dpll.refs[i].active = true) :
    ∃ t, exec (.refPulse k m) s = .next t ∧ s.ChangesOnly t [.dpll]
      ∧ (1 ≤ s.dpll.refs[i].badRun → s.epochChoice = none → t.dpll.refs[i].active = false ∧ t.dpll.refs[i].qualified = false)
      ∧ (s.dpll.refs[i].badRun = 0 → t.dpll.refs[i].active = true ∧ t.dpll.refs[i].badRun = 1 ∧ t.dpll.refs[i].goodRun = 0) := by
  have hstep : s.refPulse k m = s.badPulse i :=
    (State.refPulse_bad hk hkind hbad).trans (if_neg (State.badPulse_notSource hk hnone))
  obtain ⟨t, ht, hchanges, href, -⟩ := (State.badPulse_becomes i s).step (c := .refPulse k m) rfl hstep
  refine ⟨t, ht, hchanges, ?_⟩
  rw [href]
  refine ⟨fun hrun _ => ?_, fun hrun => ?_⟩
  · rw [if_pos (Bool.and_eq_true_iff.2 ⟨decide_eq_true hrun, hactive⟩)]
    exact ⟨rfl, rfl⟩
  · rw [if_neg (by simp [hrun, -Fin.getElem_fin])]
    exact ⟨hactive, congrArg (· + 1) hrun, rfl⟩

/-- A good pulse of the epoch source, with no step due. -/
theorem refPulse_measures (hk : i.val = k.val) (hkind : s.dpll.refs[i].kind = .pulse) (hgood : pulseBad m s.dpll.refs[i] = false)
    (hsource : s.dpll.epochSource = some k) (haligned : s.dpll.aligned = true) (hlost : s.dpll.epochLost = false)
    (hhost : s.dpll.hostStep = none) :
    ∃ t, exec (.refPulse k m) s = .next t ∧ s.ChangesOnly t [.dpll]
      ∧ t.dpll.epochError = s.epochErrorOf s.dpll.refs[i].nominal m.instant ∧ t.dpll.step = s.dpll.step
      ∧ ((s.epochErrorOf s.dpll.refs[i].nominal m.instant).natAbs ≤ 20 * s.dpll.settings.epochWindow →
          t.dpll.epochGoodRun = s.dpll.epochGoodRun + 1 ∧ t.dpll.epochBadRun = 0
          ∧ (2 ≤ s.dpll.epochGoodRun → t.dpll.epochMet = true))
      ∧ (20 * s.dpll.settings.epochWindow < (s.epochErrorOf s.dpll.refs[i].nominal m.instant).natAbs →
          t.dpll.epochBadRun = s.dpll.epochBadRun + 1 ∧ (2 ≤ s.dpll.epochBadRun → t.dpll.epochMet = false)) := by
  obtain ⟨xs, hdpll⟩ := State.goodPulse_dpll i s
  have hparts := (State.goodPulse_becomes i s).parts
  have hstep : s.refPulse k m = (s.goodPulse i).measureEpoch s.dpll.refs[i].nominal m.instant :=
    (State.refPulse_good hk hkind hgood).trans (if_pos (by rw [hdpll]; exact hsource))
  have hstay : (s.goodPulse i).stepsNow ((s.goodPulse i).epochErrorOf s.dpll.refs[i].nominal m.instant) = false :=
    State.stepsNow_aligned (by rw [hdpll]; exact haligned) (by rw [hdpll]; exact hlost) (by rw [hdpll]; exact hhost) _
  have herror : (s.goodPulse i).epochErrorOf s.dpll.refs[i].nominal m.instant = s.epochErrorOf s.dpll.refs[i].nominal m.instant :=
    State.epochErrorOf_congr (hparts .rtc (by decide)) (hparts .clock (by decide)) (by rw [hdpll]) _ _
  obtain ⟨lost, hmeasured⟩ := State.measureEpoch_dpll hstay
  simp only [State.epochNoted, State.setDpll_dpll, herror, hdpll] at hmeasured
  refine ⟨_, hstep ▸ exec_refPulse k m s,
    State.settled_changesOne fun q hq => State.measureEpoch_same hstay hq (hparts q hq), ?_⟩
  rw [State.settled_dpll, hmeasured]
  refine ⟨rfl, rfl, fun hnear => ?_, fun hfar => ?_⟩
  · rw [decide_eq_true hnear]
    exact ⟨rfl, rfl, fun hruns => DpllState.epochMetAfter_good (Nat.succ_le_succ hruns)⟩
  · rw [decide_eq_false (Nat.not_le.2 hfar)]
    exact ⟨rfl, fun hruns => DpllState.epochMetAfter_bad (Nat.succ_le_succ hruns)⟩

end Pulse

/-- Settles O29: each row's case makes of its reference what the lemmas above state, and a row whose condition does not hold leaves the
state. -/
theorem referencesQualifyAndFail : Obligations.ReferencesQualifyAndFail := by
  intro s i
  refine ⟨refActivityLost_edges, fun hinactive => ?_, fun hkind hrecent => ?_, refActivityPresent_gains, fun hkind => ?_,
    fun x a j => refGateEnd_judges, refQualified_passes, fun k m hk => ⟨fun hkind => ?_, refPulse_counts hk, refPulse_loses hk,
      refPulse_measures hk⟩⟩
  · refine exec_idles (c := .refActivityLost i) rfl ((State.refActivityLost_eq i s).trans (if_neg ?_))
    simp [hinactive, -Fin.getElem_fin]
  · refine exec_idles (c := .refActivityLost i) rfl ((State.refActivityLost_eq i s).trans (if_neg ?_))
    simp [State.edgesLate_pulse hkind hrecent, -Fin.getElem_fin]
  · refine exec_idles (c := .refActivityPresent i) rfl ((State.refActivityPresent_eq i s).trans (if_neg ?_))
    simp [State.edgesPresent, hkind, -Fin.getElem_fin]
  · exact exec_idles (exec_refPulse k m s) (State.refPulse_other hk hkind)

end Sys2Proof.Machine

/-! SUPPORT. The holdover oscillator, the phase detector, the time limits of the timing subsystem and its outputs (R252, R254, R260, R268,
R270, R274, R365). -/
namespace Sys2Proof.Machine

/-! HOLD_OSC (R252, R254). -/

section HoldOsc
variable {s : State}

/-- A reference when the measurement base changes: one that is not qualified begins its qualification again (R252). -/
def Reference.rebased (now : Nat) (x : Reference) : Reference := if x.qualified then x else x.startQualification now

theorem Reference.rebased_qualified (now : Nat) (x : Reference) : (x.rebased now).qualified = x.qualified := by
  unfold Reference.rebased
  split
  all_goals rfl

theorem Reference.rebased_qualSince {now : Nat} {x : Reference} (h : x.qualified = false) : (x.rebased now).qualSince = now := by
  rw [Reference.rebased, if_neg (Bool.eq_false_iff.1 h)]
  rfl

/-- HOLD_OSC becomes the measurement base, or ceases to be it, with the events of the change (R252, R254). -/
def State.switchBase (osc sys : Action) (f : DpllState → DpllState) (s : State) : State :=
  (((s.setDpll f).raise 245 1 osc oneUnit 0 0).raise 245 2 sys oneUnit 0 0).changeBase

theorem State.holdOscQualified_switches (h : s.dpll.holdOscQualified = false) :
    s.holdOscQualified = s.switchBase .set .clear (fun d => { d with holdOscActive := true, holdOscQualified := true }) :=
  if_neg (Bool.eq_false_iff.1 h)

theorem State.holdOscLost_switches (h : s.dpll.holdOscQualified = true) : s.holdOscLost = s.switchBase .clear .set (fun d =>
    { d with holdOscActive := false, holdOscQualified := false, holdOscMeasured := false, holdOscPpt := 0 }) :=
  if_pos h

theorem State.switchBase_dpll (osc sys : Action) (f : DpllState → DpllState) : (s.switchBase osc sys f).dpll
    = { f s.dpll with refs := (f s.dpll).refs.map (Reference.rebased s.clock.tick) } := by
  have hclock : (((s.setDpll f).raise 245 1 osc oneUnit 0 0).raise 245 2 sys oneUnit 0 0).clock = s.clock := by
    rw [State.raise_clock, State.raise_clock, State.setDpll_clock]
  have hdpll : (((s.setDpll f).raise 245 1 osc oneUnit 0 0).raise 245 2 sys oneUnit 0 0).dpll = f s.dpll := by
    rw [State.raise_dpll, State.raise_dpll, State.setDpll_dpll]
  rw [State.switchBase, State.changeBase, State.setDpll_dpll, hclock, hdpll]
  rfl

theorem State.switchBase_changes (osc sys : Action) (f : DpllState → DpllState) :
    s.ChangesOnly (s.settled (s.switchBase osc sys f)) [.dpll] :=
  State.settled_changesOne fun q hq => State.setDpll_same _ hq (State.raise_same _ _ _ _ _ _ (State.raise_same _ _ _ _ _ _
    (State.setDpll_same f hq (Part.Same.refl s q))))

theorem State.switchBase_ref (osc sys : Action) {f : DpllState → DpllState} (hf : (f s.dpll).refs = s.dpll.refs) (i : Fin 12) :
    (s.switchBase osc sys f).dpll.refs[i] = s.dpll.refs[i].rebased s.clock.tick := by
  rw [State.switchBase_dpll, hf]
  exact Vector.getElem_map ..

theorem exec_holdOscQualified (s : State) : exec .holdOscQualified s = .next (s.settled s.holdOscQualified) := rfl
theorem exec_holdOscActivityLost (s : State) : exec .holdOscActivityLost s = .next (s.settled s.holdOscLost) := rfl

/-- HOLD_OSC_QUALIFIED (R252, R254). -/
theorem holdOscQualified_gains (h : s.dpll.holdOscQualified = false) : ∃ t, exec .holdOscQualified s = .next t ∧ s.ChangesOnly t [.dpll]
    ∧ t.dpll.holdOscQualified = true ∧ t.dpll.holdOscActive = true ∧ t.dpll.mode = s.dpll.mode
    ∧ ∀ i : Fin 12, t.dpll.refs[i].qualified = s.dpll.refs[i].qualified
        ∧ (s.dpll.refs[i].qualified = false → t.dpll.refs[i].qualSince = s.clock.tick) := by
  refine ⟨_, State.holdOscQualified_switches h ▸ exec_holdOscQualified s, State.switchBase_changes .., ?_⟩
  rw [State.settled_dpll]
  refine ⟨by rw [State.switchBase_dpll], by rw [State.switchBase_dpll], by rw [State.switchBase_dpll], fun i => ?_⟩
  rw [State.switchBase_ref .set .clear (by rfl) i]
  exact ⟨Reference.rebased_qualified .., Reference.rebased_qualSince⟩

/-- HOLD_OSC_ACTIVITY_LOST (R254). -/
theorem holdOscActivityLost_drops (h : s.dpll.holdOscQualified = true) : ∃ t, exec .holdOscActivityLost s = .next t
    ∧ s.ChangesOnly t [.dpll] ∧ t.dpll.holdOscQualified = false ∧ t.dpll.holdOscActive = false ∧ t.dpll.holdOscMeasured = false
    ∧ t.dpll.holdOscPpt = 0 ∧ t.dpll.mode = s.dpll.mode
    ∧ ∀ i : Fin 12, s.dpll.refs[i].qualified = false → t.dpll.refs[i].qualSince = s.clock.tick := by
  refine ⟨_, State.holdOscLost_switches h ▸ exec_holdOscActivityLost s, State.switchBase_changes .., ?_⟩
  rw [State.settled_dpll]
  refine ⟨by rw [State.switchBase_dpll], by rw [State.switchBase_dpll], by rw [State.switchBase_dpll], by rw [State.switchBase_dpll],
    by rw [State.switchBase_dpll], fun i => ?_⟩
  rw [State.switchBase_ref .clear .set (by rfl) i]
  exact Reference.rebased_qualSince

end HoldOsc

/-! PHASE_DETECTOR_UPDATE (R260, R271). -/

section Phase
variable {s : State} {phase : Int} {i : Fin 12}

theorem State.filterPhase_follows {b : Nat} {d : DpllState} (h : d.follows = true) : State.filterPhase b phase d
    = { d with
        integrator := if d.slewing || d.clamped then d.integrator else Config.loopIntegrate b d.integrator phase
        demand := Config.loopDemand b (if d.slewing || d.clamped then d.integrator else Config.loopIntegrate b d.integrator phase) phase } :=
  if_pos h

theorem State.filterPhase_rests {b : Nat} {d : DpllState} (h : d.follows = false) : State.filterPhase b phase d = d :=
  if_neg (Bool.eq_false_iff.1 h)

theorem State.filterPhase_keeps (b : Nat) (d : DpllState) : (State.filterPhase b phase d).mode = d.mode
    ∧ (State.filterPhase b phase d).phaseError = d.phaseError ∧ (State.filterPhase b phase d).lockRun = d.lockRun := by
  unfold State.filterPhase
  split
  all_goals exact ⟨rfl, rfl, rfl⟩

/-- The loop follows the reference in ACQUIRE and LOCKED, and does not in FREERUN and SOFTLOOP (R258). -/
theorem DpllState.follows_closed {d : DpllState} (h : d.mode = .acquire ∨ d.mode = .locked) : d.follows = true := by
  rcases h with h | h
  all_goals simp [DpllState.follows, h]

theorem DpllState.follows_open {d : DpllState} (h : d.mode = .freerun ∨ d.mode = .softloop) : d.follows = false := by
  rcases h with h | h
  all_goals simp [DpllState.follows, h]

/-- The timing subsystem with a phase update of the selected reference noted, before the loop takes it (R260). -/
def DpllState.phaseNoted (phase : Int) (loss : Nat) (met : Bool) (d : DpllState) : DpllState :=
  { d with
    phaseError := phase, lockRun := if phase.natAbs ≤ 20 * d.settings.lockWindow then d.lockRun + 1 else 0, lossRun := loss, lockMet := met }

theorem State.phaseUpdate_selected (h : s.dpll.selected = some i) : ∃ loss met, (s.phaseUpdate phase i).dpll
      = State.filterPhase (s.loopBandwidth s.dpll.refs[i]) phase (s.dpll.phaseNoted phase loss met)
    ∧ ∀ q, q ≠ .dpll → q ≠ .perf → Part.Same s (s.phaseUpdate phase i) q := by
  obtain ⟨loss, met, hupdate⟩ : ∃ loss met, s.phaseUpdate phase i = ((s.tally 13 0 1 1).setDpll (fun d =>
      State.filterPhase (s.loopBandwidth s.dpll.refs[i]) phase (d.phaseNoted phase loss met))).phaseReport.raiseFlag
        s.dpll.lockMet met 232 2 oneUnit := ⟨_, _, if_neg (by simp [h])⟩
  rw [hupdate]
  refine ⟨loss, met, ?_, fun q hdpll hperf => ?_⟩
  · rw [State.raiseFlag_dpll, State.phaseReport, State.raiseIf_dpll]
    rfl
  · exact State.raiseFlag_same _ _ _ _ _ (State.raiseIf_same _ _ _ _ _ _ _
      (State.setDpll_same _ hdpll (State.tally_same _ _ _ _ hperf (Part.Same.refl s q))))

/-- PHASE_DETECTOR_UPDATE of the selected reference (R260, R271). -/
theorem phaseDetectorUpdate_selected (h : s.dpll.selected = some i) : ∃ t, exec (.phaseDetectorUpdate phase i) s = .next t
    ∧ s.ChangesOnly t [.dpll, .perf] ∧ t.dpll.phaseError = phase ∧ t.dpll.mode = s.dpll.mode
    ∧ t.dpll.lockRun = (if phase.natAbs ≤ 20 * s.dpll.settings.lockWindow then s.dpll.lockRun + 1 else 0)
    ∧ (s.dpll.mode = .acquire ∨ s.dpll.mode = .locked →
        t.dpll.integrator = (if s.dpll.slewing = true ∨ s.dpll.clamped = true then s.dpll.integrator
          else Config.loopIntegrate (s.loopBandwidth s.dpll.refs[i]) s.dpll.integrator phase)
        ∧ t.dpll.demand = Config.loopDemand (s.loopBandwidth s.dpll.refs[i]) t.dpll.integrator phase)
    ∧ (s.dpll.mode = .freerun ∨ s.dpll.mode = .softloop → t.dpll.demand = s.dpll.demand) := by
  obtain ⟨loss, met, hdpll, hparts⟩ := State.phaseUpdate_selected (phase := phase) h
  obtain ⟨hmode, herror, hrun⟩ := State.filterPhase_keeps (phase := phase) (s.loopBandwidth s.dpll.refs[i]) (s.dpll.phaseNoted phase loss met)
  refine ⟨_, rfl, State.settled_changesTwo hparts, ?_⟩
  rw [State.settled_dpll, hdpll]
  refine ⟨herror, hmode, hrun, fun hclosed => ?_, fun hopen => ?_⟩
  · rw [State.filterPhase_follows (d := s.dpll.phaseNoted phase loss met) (DpllState.follows_closed hclosed)]
    simp [DpllState.phaseNoted]
  · rw [State.filterPhase_rests (d := s.dpll.phaseNoted phase loss met) (DpllState.follows_open hopen)]
    rfl

end Phase

/-! The time limits (R268, R270, R365). -/

section Limits
variable {s : State}

theorem holdoverLimitExpiry_past (hmode : s.dpll.mode = .holdover)
    (hpast : s.dpll.holdoverSince + s.dpll.settings.holdoverLimit * 2000000 < s.clock.tick) :
    ∃ t, exec .holdoverLimitExpiry s = .next t ∧ s.ChangesOnly t [.dpll] ∧ t.dpll = { s.dpll with holdoverPast := true } :=
  exec_setsDpll (c := .holdoverLimitExpiry) rfl (if_pos (Bool.and_eq_true_iff.2 ⟨beq_iff_eq.2 hmode, decide_eq_true hpast⟩))

theorem holdoverLimitExpiry_within (h : s.clock.tick ≤ s.dpll.holdoverSince + s.dpll.settings.holdoverLimit * 2000000) :
    ∃ t, exec .holdoverLimitExpiry s = .next t ∧ s.ChangesOnly t [] :=
  exec_idles (c := .holdoverLimitExpiry) rfl
    (if_neg fun hpast => Nat.not_lt.2 h (of_decide_eq_true (Bool.and_eq_true_iff.1 hpast).2))

/-- DCO_WATCHDOG_EXPIRY: the loop is to close, as if the host had asked (R270). -/
theorem dcoWatchdogExpiry_closes (hmode : s.dpll.mode = .softloop ∨ s.dpll.mode = .softloopLocked) (hask : s.dpll.loopAsk = none)
    (hpast : s.dpll.dcoWritten + 20000000 ≤ s.clock.tick) :
    ∃ t, exec .dcoWatchdogExpiry s = .next t ∧ s.ChangesOnly t [.dpll] ∧ t.dpll = { s.dpll with loopAsk := some false } := by
  have hopen : s.loopOpen = true := by simpa [State.loopOpen] using hmode
  have hwill : s.loopWill = true := by simp [State.loopWill, hask, hopen]
  have hcloses : s.dcoExpiry = s.closeLoop.raise 249 3 .occurrence oneUnit 0 0 :=
    if_pos (Bool.and_eq_true_iff.2 ⟨Bool.and_eq_true_iff.2 ⟨hopen, hwill⟩, decide_eq_true hpast⟩)
  have hclosed := State.closeLoop_will hwill
  rw [hopen] at hclosed
  have hexec : exec .dcoWatchdogExpiry s = .next (s.settled s.dcoExpiry) := rfl
  rw [hcloses, hclosed] at hexec
  refine ⟨_, hexec, State.settled_changesOne fun q hq => State.raise_same _ _ _ _ _ _ (State.setDpll_same _ hq (Part.Same.refl s q)), ?_⟩
  rw [State.settled_dpll, State.raise_dpll]
  rfl

theorem dcoWatchdogExpiry_within (h : s.clock.tick < s.dpll.dcoWritten + 20000000) :
    ∃ t, exec .dcoWatchdogExpiry s = .next t ∧ s.ChangesOnly t [] :=
  exec_idles (c := .dcoWatchdogExpiry) rfl
    (if_neg fun hpast => Nat.not_le.2 h (of_decide_eq_true (Bool.and_eq_true_iff.1 hpast).2))

/-- TICK_STEP_TIMEOUT (R365). -/
theorem State.tickStepExpiry_waiting {c : CommandRef} {due : Nat} (h : s.dpll.hostStep = some (c, due)) : s.tickStepExpiry
    = if due ≤ s.clock.tick then (s.setDpll (fun d => { d with hostStep := none })).complete c .errState 0 [] else s := by
  rw [State.tickStepExpiry, h]

theorem tickStepTimeout_ends {c : CommandRef} {due : Nat} (h : s.dpll.hostStep = some (c, due)) :
    (due ≤ s.clock.tick → ∃ t, exec .tickStepTimeout s = .next t ∧ s.ChangesOnly t [.dpll, .channels]
      ∧ t.dpll = { s.dpll with hostStep := none } ∧ s.Ended t c .errState []) ∧
    (s.clock.tick < due → ∃ t, exec .tickStepTimeout s = .next t ∧ s.ChangesOnly t []) := by
  have hexpiry := State.tickStepExpiry_waiting h
  have hexec : exec .tickStepTimeout s = .next (s.settled s.tickStepExpiry) := rfl
  refine ⟨fun hpast => ?_, fun hearly => exec_idles hexec (hexpiry.trans (if_neg (Nat.not_le.2 hearly)))⟩
  rw [hexpiry, if_pos hpast] at hexec
  have hdpll : ((s.setDpll (fun d => { d with hostStep := none })).complete c .errState 0 []).dpll = { s.dpll with hostStep := none } :=
    State.complete_same (q := .dpll) c .errState 0 [] (by decide) (Part.Same.refl (s.setDpll _) .dpll)
  refine ⟨_, hexec, State.settled_changesTwo fun q hq hchan => ?_, (State.settled_dpll ..).trans hdpll, ?_⟩
  · exact State.complete_same c .errState 0 [] hchan (State.setDpll_same _ hq (Part.Same.refl s q))
  · exact (State.complete_ended (State.setDpll_chan ..) .errState 0 []).settled

end Limits

/-! OUTPUT_CHANGE_APPLIED (R274). -/

section Output
variable {s : State} {o : Fin 10}

theorem State.driveOutput_keeps (o : Fin 10) (x : Output) (s : State) :
    (s.driveOutput o x).settings = x.settings ∧ (s.driveOutput o x).next = x.next := by
  unfold State.driveOutput
  cases s.risingEdge o x.settings s.clock.frame with
  | none => exact ⟨rfl, rfl⟩
  | some edge =>
    simp only
    split
    all_goals exact ⟨rfl, rfl⟩

theorem State.outputApplied_waiting {x : OutputSettings} {due : Nat} (h : s.dpll.outputs[o].next = some (x, due)) : s.outputApplied o
    = if due ≤ s.clock.tick && ((o.val < 8 && !x.enable) || (s.risingEdge o x s.clock.frame).isSome) then
        (s.setDpll (fun d => { d with
          outputs := d.outputs.set o (s.driveOutput o { d.outputs[o] with settings := x, next := none }) })).raise
          (if o.val < 8 then 250 else 251) 1 .occurrence o.val 0 0
      else s := by
  unfold State.outputApplied
  simp only [h]

theorem outputChangeApplied_waiting {x : OutputSettings} {due : Nat} (h : s.dpll.outputs[o].next = some (x, due)) :
    (due ≤ s.clock.tick → (o.val < 8 ∧ x.enable = false) ∨ s.risingEdge o x s.clock.frame ≠ none →
      ∃ t, exec (.outputChangeApplied o) s = .next t ∧ s.ChangesOnly t [.dpll] ∧ t.dpll.outputs[o].settings = x
        ∧ t.dpll.outputs[o].next = none ∧ ∀ j : Fin 10, j ≠ o → t.dpll.outputs[j] = s.dpll.outputs[j]) ∧
    (s.clock.tick < due → ∃ t, exec (.outputChangeApplied o) s = .next t ∧ s.ChangesOnly t []) := by
  have happlied := State.outputApplied_waiting h
  have hexec : exec (.outputChangeApplied o) s = .next (s.settled (s.outputApplied o)) := rfl
  refine ⟨fun hdue hready => ?_, fun hearly => exec_idles hexec (happlied.trans (if_neg ?_))⟩
  · rw [happlied, if_pos (by simpa [hdue, Option.isSome_iff_ne_none] using hready)] at hexec
    refine ⟨_, hexec, State.settled_changesOne fun q hq => State.raise_same _ _ _ _ _ _ (State.setDpll_same _ hq (Part.Same.refl s q)), ?_⟩
    rw [State.settled_dpll, State.raise_dpll, State.setDpll_dpll]
    obtain ⟨hsettings, hnext⟩ := s.driveOutput_keeps o { s.dpll.outputs[o] with settings := x, next := none }
    have houtput := Vector.getElem_set_self (xs := s.dpll.outputs)
      (x := s.driveOutput o { s.dpll.outputs[o] with settings := x, next := none }) o.isLt
    exact ⟨(congrArg Output.settings houtput).trans hsettings, (congrArg Output.next houtput).trans hnext,
      fun j hj => Vector.getElem_set_ne o.isLt j.isLt fun e => hj (Fin.ext e.symm)⟩
  · simp [hearly]

end Output
end Sys2Proof.Machine

/-! SUPPORT. The rows of the DPLL's state table at a tick boundary (R258, R259, R268), and the statement about the timing subsystem. -/
namespace Sys2Proof.Machine

/-! What an entry into a state does. -/

section Enter
variable (m : DpllMode) (s : State)

/-- An entry changes the state, the times of LOCKED and the demand, and nothing else of the timing subsystem. -/
theorem State.enterDpll_dpll : ∃ since ended demand, (s.enterDpll m).dpll
    = { s.dpll with mode := m, lockedSince := since, lockEnd := ended, demand := demand } := by
  unfold State.enterDpll
  extract_lets old now entered timed
  have htimed : ∃ since ended, timed.dpll = { s.dpll with mode := m, lockedSince := since, lockEnd := ended } := by
    unfold timed
    split
    · exact ⟨now, s.dpll.lockEnd, rfl⟩
    · split
      · exact ⟨s.dpll.lockedSince, now, rfl⟩
      · exact ⟨s.dpll.lockedSince, s.dpll.lockEnd, rfl⟩
  obtain ⟨since, ended, hdpll⟩ := htimed
  split
  · exact ⟨since, ended, 0, by rw [State.setDpll_dpll, hdpll]⟩
  · exact ⟨since, ended, s.dpll.demand, hdpll⟩

theorem State.enterDpll_mode : (s.enterDpll m).dpll.mode = m := by
  obtain ⟨since, ended, demand, hdpll⟩ := State.enterDpll_dpll m s
  rw [hdpll]

variable {m s}

theorem State.enterDpll_locked (h : s.dpll.mode ≠ .locked) : (s.enterDpll .locked).dpll.lockedSince = s.clock.tick := by
  simp [State.enterDpll, h]

theorem State.enterDpll_freerun : (s.enterDpll .freerun).dpll.demand = 0 := by
  simp [State.enterDpll]

/-- HOLDOVER within its limit is entered with HOLD_OSC qualified, for a valid history or for the loss of the epoch alone (R259, R268). -/
theorem State.enterHoldover_within (epoch : Bool) (hvalid : s.historyOk = true) (hosc : s.dpll.holdOscQualified = true) :
    (s.enterHoldover epoch).dpll.mode = .holdover ∧ (s.enterHoldover epoch).dpll.holdoverSince = s.clock.tick
      ∧ (s.enterHoldover epoch).dpll.epochHoldover = epoch := by
  unfold State.enterHoldover
  extract_lets valid now noted within entered
  have hwithin : within = true := by
    simp only [within, valid, hvalid, Bool.true_or, Bool.true_and]
    exact hosc
  have hentered : entered.dpll.mode = .holdover ∧ entered.dpll.holdoverSince = s.clock.tick ∧ entered.dpll.epochHoldover = epoch := by
    obtain ⟨since, ended, demand, hdpll⟩ := State.enterDpll_dpll .holdover noted
    have henters : entered = noted.enterDpll .holdover := congrArg (State.enterDpll · noted) (if_pos hwithin)
    rw [henters, hdpll]
    exact ⟨rfl, rfl, rfl⟩
  split
  · exact hentered
  · exact hentered

end Enter

/-! The rows (R259). -/

section Rows
variable {s : State}

theorem State.stepMode_softloop (lost : Bool) (h : s.dpll.mode = .softloop) : s.stepMode lost = s.softRows := by
  simp only [State.stepMode, h]

theorem State.stepMode_freerun (lost : Bool) (h : s.dpll.mode = .freerun) :
    s.stepMode lost = if s.dpll.selected.isSome && !s.slaved then s.enterDpll .acquire else s.openRow := by
  simp only [State.stepMode, h]

theorem State.stepMode_acquire (lost : Bool) (h : s.dpll.mode = .acquire) (hown : s.slaved = false) : s.stepMode lost
    = if s.dpll.lockMet && s.dpll.epochMet then s.enterDpll .locked
      else if s.dpll.selected.isSome then s.openRow
      else if s.historyOk then s.enterHoldover false else s.enterDpll .freerun := by
  simp only [State.stepMode, h, hown, Bool.false_eq_true, if_false]

theorem State.stepMode_locked (lost : Bool) (h : s.dpll.mode = .locked) (hown : s.slaved = false) : s.stepMode lost
    = if lost then s.enterDpll .acquire
      else if s.dpll.selected.isNone then s.enterHoldover false
      else if !s.dpll.epochMet then s.enterHoldover true else s.openRow := by
  simp only [State.stepMode, h, hown, Bool.false_eq_true, if_false]

/-- The timing subsystem as the loop closes: the output stays at its offset (R259, R270). -/
def DpllState.closing (d : DpllState) : DpllState := { d with loopAsk := none, demand := d.outputPpt }

/-- The timing subsystem as the loop opens: the DCO word starts at the output offset, unless the host has written one (R259, R270). -/
def DpllState.opening (d : DpllState) : DpllState :=
  { d with loopAsk := none, dcoFresh := false, dcoWord := if d.dcoFresh then d.dcoWord else d.outputPpt }

theorem State.softRows_closes (h : s.dpll.loopAsk = some false) :
    s.softRows = (s.setDpll DpllState.closing).acquireOrHold.raise 249 2 .occurrence oneUnit 0 0 :=
  if_pos (beq_iff_eq.2 h)

theorem State.openRow_opens (h : s.dpll.loopAsk = some true) : s.openRow
    = ((s.setDpll DpllState.opening).enterDpll (if s.dpll.declareLock then .softloopLocked else .softloop)).raise 249 1 .occurrence oneUnit 0 0 :=
  if_pos (beq_iff_eq.2 h)

theorem State.acquireOrHold_selected (h : s.dpll.selected ≠ none) : s.acquireOrHold = s.enterDpll .acquire :=
  if_pos (Option.isSome_iff_ne_none.2 h)

/-- SOFTLOOP closes to ACQUIRE with a reference selected. -/
theorem stepMode_closes (lost : Bool) (hmode : s.dpll.mode = .softloop) (hask : s.dpll.loopAsk = some false)
    (hselected : s.dpll.selected ≠ none) : (s.stepMode lost).dpll.mode = .acquire := by
  have hacquires : (s.setDpll DpllState.closing).acquireOrHold = (s.setDpll DpllState.closing).enterDpll .acquire :=
    State.acquireOrHold_selected hselected
  rw [State.stepMode_softloop lost hmode, State.softRows_closes hask, hacquires, State.raise_dpll, State.enterDpll_mode]

/-- The loop opens in FREERUN, with the DCO word at the output offset (R259, R270). -/
theorem stepMode_opens (lost : Bool) (hask : s.dpll.loopAsk = some true) (hfresh : s.dpll.dcoFresh = false) (hlock : s.dpll.declareLock = false)
    (hmode : s.dpll.mode = .freerun) (hnone : s.dpll.selected = none) :
    (s.stepMode lost).dpll.mode = .softloop ∧ (s.stepMode lost).dpll.dcoWord = s.dpll.outputPpt := by
  obtain ⟨since, ended, demand, hdpll⟩ := State.enterDpll_dpll .softloop (s.setDpll DpllState.opening)
  rw [State.stepMode_freerun lost hmode, if_neg (by simp [hnone]), State.openRow_opens hask, hlock, if_neg Bool.false_ne_true,
    State.raise_dpll, hdpll]
  exact ⟨rfl, if_neg (Bool.eq_false_iff.1 hfresh)⟩

variable (hown : s.slaved = false)
include hown

/-- LOCKED, without loss of lock, is left for HOLDOVER when the reference or the epoch goes (R259, R268). -/
theorem stepMode_holds (hmode : s.dpll.mode = .locked) (hgone : s.dpll.selected = none ∨ s.dpll.epochMet = false)
    (hvalid : s.historyOk = true) (hosc : s.dpll.holdOscQualified = true) :
    (s.stepMode false).dpll.mode = .holdover ∧ (s.stepMode false).dpll.holdoverSince = s.clock.tick
      ∧ (s.stepMode false).dpll.epochHoldover = s.dpll.selected.isSome := by
  have henters : s.stepMode false = s.enterHoldover s.dpll.selected.isSome := by
    rw [State.stepMode_locked false hmode hown, if_neg Bool.false_ne_true]
    cases hselected : s.dpll.selected with
    | none => rfl
    | some i =>
      have hepoch : s.dpll.epochMet = false := hgone.resolve_left (by simp [hselected])
      rw [hepoch]
      rfl
  rw [henters]
  exact State.enterHoldover_within _ hvalid hosc

end Rows

/-- Settles O30: each row's case does what the lemmas above state, a row whose condition does not hold leaves the state, and the table's
first row that applies is taken. -/
theorem timingTimersAndDetectorsActAsStated : Obligations.TimingTimersAndDetectorsActAsStated := by
  intro s
  refine ⟨holdOscQualified_gains, fun hbase => exec_idles (exec_holdOscQualified s) (if_pos hbase), fun x hlocked => ?_, fun x hnot => ?_,
    holdOscActivityLost_drops, fun phase i hother => ?_, fun phase i => phaseDetectorUpdate_selected, holdoverLimitExpiry_past,
    holdoverLimitExpiry_within, dcoWatchdogExpiry_closes, dcoWatchdogExpiry_within, fun c due => tickStepTimeout_ends,
    fun o x due => outputChangeApplied_waiting, fun o hnone => ?_, fun lost => ⟨stepMode_closes lost, stepMode_opens lost, fun hown =>
      ⟨fun hmode hselected => ?_, fun hmode hlock hepoch => ?_, fun hmode hlock hnone hhistory => ?_, fun hmode hlost => ?_,
        fun hmode hlost hgone hvalid hosc => ?_⟩⟩⟩
  · exact exec_setsDpll (c := .holdOscGateEnd x) rfl (if_pos (beq_iff_eq.2 hlocked))
  · exact exec_idles (c := .holdOscGateEnd x) rfl (if_neg fun hcode => hnot (beq_iff_eq.1 hcode))
  · exact exec_idles (c := .phaseDetectorUpdate phase i) rfl (if_pos (bne_iff_ne.2 hother))
  · exact exec_idles (c := .outputChangeApplied o) rfl (by simp only [State.outputApplied, hnone])
  · rw [State.stepMode_freerun lost hmode, if_pos (by simp [hown, Option.isSome_iff_ne_none, hselected]), State.enterDpll_mode]
  · rw [State.stepMode_acquire lost hmode hown, if_pos (Bool.and_eq_true_iff.2 ⟨hlock, hepoch⟩)]
    exact ⟨State.enterDpll_mode .., State.enterDpll_locked (by simp [hmode])⟩
  · rw [State.stepMode_acquire lost hmode hown, if_neg (by simp [hlock]), if_neg (by simp [hnone]), if_neg (Bool.eq_false_iff.1 hhistory)]
    exact ⟨State.enterDpll_mode .., State.enterDpll_freerun⟩
  · rw [State.stepMode_locked lost hmode hown, if_pos hlost, State.enterDpll_mode]
  · subst hlost
    exact stepMode_holds hown hmode hgone hvalid hosc

end Sys2Proof.Machine

/-! SUPPORT. The parts of the state that the operations of the cascade change (R276 to R303). -/
namespace Sys2Proof.Machine

/-- The effects leave every part outside the list as it was. -/
def State.Within (ps : List Part) (s u : State) : Prop := ∀ ⦃x : State⦄ ⦃q : Part⦄, q ∉ ps → Part.Same x s q → Part.Same x u q

section Within
variable {ps : List Part} {s u w : State}

theorem State.Within.refl : s.Within ps s := fun _ _ _ h => h

theorem State.Within.ite {P : Prop} [Decidable P] (hu : s.Within ps u) (hw : s.Within ps w) : s.Within ps (if P then u else w) := by
  split
  · exact hu
  · exact hw

theorem State.Within.changesOnly (h : s.Within ps u) : s.ChangesOnly (s.settled u) ps :=
  State.settled_changesOnly fun q hq _ _ => h hq (Part.Same.refl s q)

variable {src item p0 p1 p2 old new : Nat} {a : Action} {b c : Bool}

theorem State.Within.raise (h : s.Within ps u) : s.Within ps (u.raise src item a p0 p1 p2) :=
  fun _ _ hq hx => State.raise_same _ _ _ _ _ _ (h hq hx)

theorem State.Within.raiseIf (h : s.Within ps u) : s.Within ps (u.raiseIf c src item a p0 p1 p2) :=
  fun _ _ hq hx => State.raiseIf_same _ _ _ _ _ _ _ (h hq hx)

theorem State.Within.raiseFlag (h : s.Within ps u) : s.Within ps (u.raiseFlag b c src item p0) :=
  fun _ _ hq hx => State.raiseFlag_same _ _ _ _ _ (h hq hx)

theorem State.Within.raiseState (h : s.Within ps u) : s.Within ps (u.raiseState old new src item p0) :=
  fun _ _ hq hx => State.raiseState_same _ _ _ _ _ (h hq hx)

theorem State.Within.setDpll {f : DpllState → DpllState} (hdpll : .dpll ∈ ps) (h : s.Within ps u) : s.Within ps (u.setDpll f) :=
  fun _ _ hq hx => State.setDpll_same f (fun hp => hq (hp ▸ hdpll)) (h hq hx)

theorem State.Within.tally {kind inst event amount : Nat} (hperf : .perf ∈ ps) (h : s.Within ps u) :
    s.Within ps (u.tally kind inst event amount) :=
  fun _ _ hq hx => State.tally_same _ _ _ _ (fun hp => hq (hp ▸ hperf)) (h hq hx)

theorem State.Within.complete {r : CommandRef} {st : Status} {d : Nat} {res : List Byte} (hchan : .channels ∈ ps) (h : s.Within ps u) :
    s.Within ps (u.complete r st d res) :=
  fun _ _ hq hx => State.complete_same r st d res (fun hp => hq (hp ▸ hchan)) (h hq hx)

theorem State.Within.withMap {x : MapState} (hmap : .map ∈ ps) (h : s.Within ps u) : s.Within ps { u with map := x } :=
  fun _ _ hq hx => (h hq hx).withMap x fun hp => hq (hp ▸ hmap)

variable (hcasc : .casc ∈ ps) (h : s.Within ps u)
include hcasc h

theorem State.Within.withCasc {x : CascadeState} : s.Within ps { u with casc := x } :=
  fun _ _ hq hx => (h hq hx).withCasc x fun hp => hq (hp ▸ hcasc)

theorem State.Within.setCasc {f : CascadeState → CascadeState} : s.Within ps (u.setCasc f) := h.withCasc hcasc

theorem State.Within.setCascMode {m : CascadeMode} : s.Within ps (u.setCascMode m) := (h.setCasc hcasc).raiseState

theorem State.Within.setRole {r : CascadeRole} : s.Within ps (u.setRole r) := (h.setCasc hcasc).raiseState

theorem State.Within.setMstAct : s.Within ps (u.setMstAct b) := (h.setCasc hcasc).raiseFlag

theorem State.Within.relay {m : CascMessage} {except : Option PortNo} : s.Within ps (u.relay m except) := h.withCasc hcasc

theorem State.Within.noteSeen {origin : Fin 64} {type : Byte} {id : BitVec 32} : s.Within ps (u.noteSeen origin type id) :=
  h.withCasc hcasc

theorem State.Within.originate {type : Byte} {id : BitVec 32} {arg : Nat} : s.Within ps (u.originate type id arg) :=
  (h.noteSeen hcasc).relay hcasc

theorem State.Within.becomeMaster : s.Within ps u.becomeMaster :=
  (((h.setCasc hcasc).setRole hcasc).setCascMode hcasc).setMstAct hcasc

theorem State.Within.releaseRole : s.Within ps u.releaseRole := ((h.setCasc hcasc).setRole hcasc).setMstAct hcasc

end Within

section Casc
variable (s : State)

@[simp] theorem State.setCascMode_casc (m : CascadeMode) : (s.setCascMode m).casc = { s.casc with mode := m } := State.raiseState_casc ..

@[simp] theorem State.setRole_casc (r : CascadeRole) : (s.setRole r).casc = { s.casc with role := r } := State.raiseState_casc ..

@[simp] theorem State.setMstAct_casc (on : Bool) : (s.setMstAct on).casc = { s.casc with mstActOut := on } := State.raiseFlag_casc ..

end Casc

section Row
variable {ps : List Part} {s u : State} {c : Instr}

/-- A step whose effects stay within a list of parts. -/
theorem exec_within {P : State → Prop} (hexec : exec c s = .next (s.settled u)) (hwithin : s.Within ps u) (hP : P (s.settled u)) :
    ∃ t, exec c s = .next t ∧ s.ChangesOnly t ps ∧ P t :=
  ⟨_, hexec, hwithin.changesOnly, hP⟩

/-- A step whose effects are a state of the cascade, and events. -/
theorem exec_setsCasc {x : CascadeState} (hexec : exec c s = .next (s.settled u)) (hwithin : s.Within [.casc] u) (hx : u.casc = x) :
    ∃ t, exec c s = .next t ∧ s.ChangesOnly t [.casc] ∧ t.casc = x :=
  exec_within hexec hwithin ((State.settled_casc ..).trans hx)

end Row
end Sys2Proof.Machine

/-! SUPPORT. Words on the tick lines (R281 to R286): what each row does with them, and the statement about them. -/
namespace Sys2Proof.Machine

/-- The input of a word, after a valid word on it. -/
def TickInput.ofWord (w : TickWord) : TickInput := { last := some w, repeated := w.frame, repeats := 1, missing := 0 }

theorem TickInput.take_valid {w : TickWord} {x : TickInput} (hagrees : w.contradicts = false) (hnumber : x.numberOk w.frame = true) :
    x.take true w = (true, .ofWord w) :=
  if_pos (by simp [hagrees, hnumber])

theorem otherSlot_ne (k : Fin 2) : otherSlot k ≠ k := by decide +revert

/-- What an input notes of a word, at the device: its valid ACTIVE word ends the wait of R279. -/
def CascadeState.hearsWord (k : Fin 2) (x : TickInput) (active : Bool) (c : CascadeState) : CascadeState :=
  { c with inputs := c.inputs.set k x, activeHeard := c.activeHeard || active }

theorem CascadeState.hearsWord_input (k : Fin 2) (x : TickInput) (active : Bool) (c : CascadeState) : (c.hearsWord k x active).inputs[k] = x :=
  Vector.getElem_set_self ..

/-- What a member takes from the word that it follows (R282, R283). -/
def CascadeState.follows (w : TickWord) (c : CascadeState) : CascadeState :=
  { c with missingRun := 0, master := some w.sender, masterState := w.state, version := w.version
           mirror := (w :: c.mirror).take 3, tickPathLost := false }

/-- The end of `State.followWord`: the fields of the word, and the events of what they change. -/
def State.notesWord (w : TickWord) (old : BitVec 2) (s : State) : State :=
  ((s.setCasc (CascadeState.follows w)).raiseFlag s.casc.tickPathLost false 265 2 0).raiseState old.toNat w.version.toNat 268 2 oneUnit

theorem State.notesWord_casc (w : TickWord) (old : BitVec 2) (s : State) : (s.notesWord w old).casc = s.casc.follows w := by
  simp [State.notesWord]

theorem State.notesWord_dpll (w : TickWord) (old : BitVec 2) (s : State) : (s.notesWord w old).dpll = s.dpll := by
  simp [State.notesWord]

theorem State.Within.notesWord {ps : List Part} {s u : State} {w : TickWord} {old : BitVec 2} (hcasc : .casc ∈ ps) (h : s.Within ps u) :
    s.Within ps (u.notesWord w old) :=
  (h.setCasc hcasc).raiseFlag.raiseState

/-! Locking to a tick (R286). -/

section Lock
variable {s : State} {k : Fin 2} {phase : Int}

/-- The step of a tick: the timing subsystem, the ports and an event. -/
theorem State.stepTick_eq (shift : Int) (rejoin : Bool) (s : State) :
    ∃ (f : DpllState → DpllState) (ports : Vector Port 512) (src item p1 p2 : Nat), s.stepTick shift rejoin
      = ({ s.setDpll f with ports := ports } : State).raise src item .occurrence oneUnit p1 p2
      ∧ (f s.dpll).step = some (Int.fdiv shift 10000) :=
  ⟨_, _, _, _, _, _, rfl, rfl⟩

theorem State.stepTick_casc (shift : Int) (rejoin : Bool) (s : State) : (s.stepTick shift rejoin).casc = s.casc := by
  obtain ⟨f, ports, src, item, p1, p2, heq, -⟩ := s.stepTick_eq shift rejoin
  rw [heq, State.raise_casc]
  rfl

theorem State.stepTick_dpll_step (shift : Int) (rejoin : Bool) (s : State) :
    (s.stepTick shift rejoin).dpll.step = some (Int.fdiv shift 10000) := by
  obtain ⟨f, ports, src, item, p1, p2, heq, hstep⟩ := s.stepTick_eq shift rejoin
  rw [heq, State.raise_dpll]
  exact hstep

theorem State.Within.stepTick {ps : List Part} {u : State} {shift : Int} {rejoin : Bool} (hdpll : .dpll ∈ ps) (hports : .ports ∈ ps)
    (h : s.Within ps u) : s.Within ps (u.stepTick shift rejoin) := by
  obtain ⟨f, ports, src, item, p1, p2, heq, -⟩ := u.stepTick_eq shift rejoin
  rw [heq]
  refine State.Within.raise fun x q hq hx => ?_
  have hsame := h.setDpll (f := f) hdpll hq hx
  cases q
  case ports => exact absurd hports hq
  all_goals exact hsame

/-- The device starts to follow an input. -/
def CascadeState.startsFollowing (k : Fin 2) (c : CascadeState) : CascadeState := { c with followed := some k, missingRun := 0 }

/-- The end of `State.lockToTick`: a member in FLYWHEEL is JOINED again. -/
def State.endFlywheel (s : State) : State :=
  if s.casc.mode == .flywheel then (s.setCascMode .joined).raise 266 4 .clear oneUnit 0 0 else s

theorem State.endFlywheel_casc (s : State) :
    s.endFlywheel.casc = { s.casc with mode := if s.casc.mode = .flywheel then .joined else s.casc.mode } := by
  unfold State.endFlywheel
  split
  case isTrue h => rw [State.raise_casc, State.setCascMode_casc, if_pos (beq_iff_eq.1 h)]
  case isFalse h => rw [if_neg fun hmode => h (beq_iff_eq.2 hmode)]

theorem State.endFlywheel_dpll (s : State) : s.endFlywheel.dpll = s.dpll := by
  unfold State.endFlywheel
  split
  · simp [State.setCascMode]
  · rfl

theorem State.Within.endFlywheel {ps : List Part} {u : State} (hcasc : .casc ∈ ps) (h : s.Within ps u) : s.Within ps u.endFlywheel :=
  .ite (h.setCascMode hcasc).raise h

theorem State.lockToTick_agrees (k : Fin 2) (h : phase.natAbs ≤ 400) :
    s.lockToTick k phase = (s.setCasc (CascadeState.startsFollowing k)).endFlywheel := by
  simp only [State.lockToTick, if_pos (show phaseAgrees phase = true from decide_eq_true h)]
  rfl

theorem State.lockToTick_steps (k : Fin 2) (h : 400 < phase.natAbs) :
    s.lockToTick k phase = ((s.setCasc (CascadeState.startsFollowing k)).stepTick (-phase) true).endFlywheel := by
  simp only [State.lockToTick, if_neg (show phaseAgrees phase ≠ true by simpa [phaseAgrees] using h)]
  rfl

theorem State.lockToTick_casc (k : Fin 2) (phase : Int) (s : State) : (s.lockToTick k phase).casc
    = { s.casc.startsFollowing k with mode := if s.casc.mode = .flywheel then .joined else s.casc.mode } := by
  rcases Nat.lt_or_ge 400 phase.natAbs with h | h
  · rw [State.lockToTick_steps k h, State.endFlywheel_casc, State.stepTick_casc, State.setCasc_casc]
    rfl
  · rw [State.lockToTick_agrees k h, State.endFlywheel_casc, State.setCasc_casc]
    rfl

end Lock

/-! A valid ACTIVE word at a member (R283, R284, R286). -/

section Follow
variable {s : State} {k : Fin 2} {w : TickWord} {arrival : Int}

theorem State.finishHandover_none (h : s.casc.handover = none) : s.finishHandover = s := by
  simp only [State.finishHandover, h]

theorem State.followWord_kept (hhandover : s.casc.handover = none) (hfollowed : s.casc.followed = some k) (hrun : s.casc.missingRun = 0)
    (hmode : s.casc.mode ≠ .flywheel) : s.followWord k w arrival = s.notesWord w s.casc.version := by
  have hrelock : (s.casc.followed.isNone || s.casc.mode == .flywheel || s.casc.followed != some k
      || (s.casc.missingRun != 0 && !phaseAgrees (s.tickPhase w arrival))) = false := by simp [hfollowed, hrun, hmode]
  have hswitched : (s.casc.followed.isSome && s.casc.followed != some k) = false := by simp [hfollowed]
  have hlost : (s.casc.missingRun != 0) = false := by simp [hrun]
  simp only [State.followWord, hrelock, hswitched]
  simp only [hlost, State.raiseIf, Bool.false_eq_true, if_false]
  exact State.finishHandover_none (by simpa using hhandover)

theorem State.followWord_starts (hhandover : s.casc.handover = none) (hnone : s.casc.followed = none) : s.followWord k w arrival
    = ((s.raiseIf (s.casc.missingRun != 0) 266 1 .clear k.val 0 0).lockToTick k (s.tickPhase w arrival)).notesWord w s.casc.version := by
  have hrelock : (s.casc.followed.isNone || s.casc.mode == .flywheel || s.casc.followed != some k
      || (s.casc.missingRun != 0 && !phaseAgrees (s.tickPhase w arrival))) = true := by simp [hnone]
  have hswitched : (s.casc.followed.isSome && s.casc.followed != some k) = false := by simp [hnone]
  simp only [State.followWord, hrelock, hswitched, if_true]
  refine State.finishHandover_none ?_
  simpa [State.lockToTick_casc, CascadeState.startsFollowing] using hhandover

/-- A word without a swap or a role in its fields asks for nothing more. -/
theorem State.takeFields_plain (hswap : w.swapOp = 0) (hrole : w.roleOp = 0) : s.takeFields w = s := by
  simp [State.takeFields, hswap, hrole]

theorem State.takeWord_follows (hmode : s.casc.mode ≠ .standalone) (hrole : s.casc.role ≠ .master) (hactive : w.active = true)
    (hswap : w.swapOp = 0) (hroleOp : w.roleOp = 0) (hfollowed : s.casc.followed ≠ some (otherSlot k)) :
    s.takeWord k w arrival = s.followWord k w arrival := by
  have hmaster : s.isMaster = false := by simp [State.isMaster, hrole]
  have hother : (decide (s.casc.followed = some (otherSlot k)) && decide (s.casc.inputs[otherSlot k].missing = 0)) = false := by
    simp [hfollowed]
  simp only [State.takeWord, hmaster, hactive, hother, beq_eq_false_iff_ne.2 hmode, Bool.not_true, Bool.false_eq_true, if_false]
  exact State.takeFields_plain hswap hroleOp

end Follow
/-! The rows. -/

section Rows
variable {s : State} {k : Fin 2} {v : BitVec 512} {arrival : Int}

/-- The word that a line carries (R281, R282). -/
def lineWord (v : BitVec 512) : TickWord := readTickWord ((lineBytes v).getD [])

/-- The word that a line carries is taken on its input, and acted on when it is valid there. -/
theorem State.tickWord_eq {ok : Bool} {x : TickInput}
    (htake : s.casc.inputs[k].take ((lineBytes v).any tickCrcOk) (lineWord v) = (ok, x)) :
    s.tickWord k v arrival = if ok then
        (s.setCasc (CascadeState.hearsWord k x (ok && (lineWord v).active))).takeWord k (lineWord v) arrival
      else (s.setCasc (CascadeState.hearsWord k x (ok && (lineWord v).active))).raise 266 3 .occurrence k.val 0 0 := by
  have hcrc : ((lineBytes v).isSome && tickCrcOk ((lineBytes v).getD [])) = (lineBytes v).any tickCrcOk := by
    cases lineBytes v with
    | none => rfl
    | some bs => exact Bool.true_and _
  have hword : readTickWord ((lineBytes v).getD []) = lineWord v := rfl
  unfold State.tickWord
  simp only [hcrc, hword, htake]
  rfl

/-- A line or a CRC that fails counts as a missing word on its input (R281). -/
theorem tickWordReceived_rejected (hfails : (lineBytes v).any tickCrcOk = false) :
    ∃ t, exec (.tickWordReceived k v arrival) s = .next t ∧ s.ChangesOnly t [.casc]
      ∧ t.casc.inputs[k].last = s.casc.inputs[k].last ∧ t.casc.inputs[k].missing = s.casc.inputs[k].missing + 1
      ∧ t.casc.followed = s.casc.followed ∧ t.casc.role = s.casc.role ∧ t.casc.activeHeard = s.casc.activeHeard := by
  obtain ⟨x, htake, hlast, hmissing⟩ : ∃ x, s.casc.inputs[k].take ((lineBytes v).any tickCrcOk) (lineWord v) = (false, x)
      ∧ x.last = s.casc.inputs[k].last ∧ x.missing = s.casc.inputs[k].missing + 1 := by
    rw [hfails]
    exact ⟨_, rfl, rfl, rfl⟩
  have heq := (State.tickWord_eq (arrival := arrival) htake).trans (if_neg Bool.false_ne_true)
  refine exec_within rfl ?_ ?_
  · exact heq ▸ (State.Within.refl.setCasc (by simp)).raise
  · rw [State.settled_casc, heq, State.raise_casc, State.setCasc_casc, CascadeState.hearsWord_input]
    exact ⟨hlast, hmissing, rfl, rfl, Bool.or_false _⟩

/-- The device after a valid ACTIVE word has been noted on its input. -/
def State.heard (k : Fin 2) (w : TickWord) (s : State) : State := s.setCasc (CascadeState.hearsWord k (.ofWord w) true)

/-- A valid ACTIVE word without a swap or a role in its fields reaches a member that is not the master and has no handover arranged. -/
structure State.HearsActive (s : State) (k : Fin 2) (v : BitVec 512) (w : TickWord) : Prop where
  crc      : (lineBytes v).any tickCrcOk = true
  word     : lineWord v = w
  agrees   : w.contradicts = false
  number   : s.casc.inputs[k].numberOk w.frame = true
  active   : w.active = true
  swapOp   : w.swapOp = 0
  roleOp   : w.roleOp = 0
  member   : s.casc.mode ≠ .standalone
  role     : s.casc.role ≠ .master
  handover : s.casc.handover = none

section Valid
variable {w : TickWord} (hactive : s.HearsActive k v w)
include hactive

/-- A valid ACTIVE word, unless the other input is followed. -/
theorem State.tickWord_follows (hfollowed : s.casc.followed ≠ some (otherSlot k)) :
    s.tickWord k v arrival = (s.heard k w).followWord k w arrival := by
  have htake : s.casc.inputs[k].take ((lineBytes v).any tickCrcOk) (lineWord v) = (true, .ofWord w) := by
    rw [hactive.crc, hactive.word]
    exact TickInput.take_valid hactive.agrees hactive.number
  rw [State.tickWord_eq htake, if_pos rfl, hactive.word, hactive.active]
  exact State.takeWord_follows hactive.member hactive.role hactive.active hactive.swapOp hactive.roleOp hfollowed

theorem State.tickWord_keeps (hfollowed : s.casc.followed = some k) (hrun : s.casc.missingRun = 0) (hlocked : s.casc.mode ≠ .flywheel) :
    s.tickWord k v arrival = (s.heard k w).notesWord w s.casc.version :=
  (State.tickWord_follows hactive (by simp [hfollowed, (otherSlot_ne k).symm])).trans
    (State.followWord_kept (s := s.heard k w) hactive.handover hfollowed hrun hlocked)

theorem State.tickWord_starts (hnone : s.casc.followed = none) : s.tickWord k v arrival
    = (((s.heard k w).raiseIf (s.casc.missingRun != 0) 266 1 .clear k.val 0 0).lockToTick k (s.tickPhase w arrival)).notesWord w s.casc.version :=
  (State.tickWord_follows hactive (by simp [hnone])).trans (State.followWord_starts (s := s.heard k w) hactive.handover hnone)

/-- A member keeps the input that it follows (R283). -/
theorem tickWordReceived_keeps (hfollowed : s.casc.followed = some k) (hrun : s.casc.missingRun = 0) (hlocked : s.casc.mode ≠ .flywheel) :
    ∃ t, exec (.tickWordReceived k v arrival) s = .next t ∧ s.ChangesOnly t [.casc] ∧ t.casc = (s.heard k w).casc.follows w := by
  have heq := State.tickWord_keeps (arrival := arrival) hactive hfollowed hrun hlocked
  exact exec_setsCasc rfl (heq ▸ (State.Within.refl.setCasc (by simp)).notesWord (by simp)) (heq ▸ State.notesWord_casc ..)

/-- A device that follows nothing starts to follow an input whose words agree with its own tick (R286). -/
theorem tickWordReceived_starts (hnone : s.casc.followed = none) (hphase : (s.tickPhase w arrival).natAbs ≤ 400) :
    ∃ t, exec (.tickWordReceived k v arrival) s = .next t ∧ s.ChangesOnly t [.casc] ∧ t.casc.followed = some k ∧ t.casc.master = some w.sender
      ∧ t.casc.mode = (if s.casc.mode = .flywheel then .joined else s.casc.mode) := by
  have heq := State.tickWord_starts (arrival := arrival) hactive hnone
  refine exec_within rfl ?_ ?_
  · rw [heq, State.lockToTick_agrees k hphase]
    exact (((State.Within.refl.setCasc (by simp)).raiseIf.setCasc (by simp)).endFlywheel (by simp)).notesWord (by simp)
  · rw [State.settled_casc, heq, State.notesWord_casc, State.lockToTick_casc, State.raiseIf_casc]
    exact ⟨rfl, rfl, rfl⟩

/-- It steps its tick where they disagree (R286). -/
theorem tickWordReceived_steps (hnone : s.casc.followed = none) (hphase : 400 < (s.tickPhase w arrival).natAbs) :
    ∃ t, exec (.tickWordReceived k v arrival) s = .next t ∧ s.ChangesOnly t [.casc, .dpll, .ports] ∧ t.casc.followed = some k
      ∧ t.dpll.step = some (Int.fdiv (-(s.tickPhase w arrival)) 10000) := by
  have heq := State.tickWord_starts (arrival := arrival) hactive hnone
  refine exec_within rfl ?_ ⟨?_, ?_⟩
  · rw [heq, State.lockToTick_steps k hphase]
    exact ((((State.Within.refl.setCasc (by simp)).raiseIf.setCasc (by simp)).stepTick (by simp) (by simp)).endFlywheel (by simp)).notesWord
      (by simp)
  · rw [State.settled_casc, heq, State.notesWord_casc, State.lockToTick_casc]
    rfl
  · rw [State.settled_dpll, heq, State.lockToTick_steps k hphase, State.notesWord_dpll, State.endFlywheel_dpll, State.stepTick_dpll_step]

end Valid

/-! Missing words (R284). -/

/-- A word is missing on the input that the device follows. -/
def CascadeState.misses (k : Fin 2) (c : CascadeState) : CascadeState :=
  { c with
    inputs := c.inputs.set k { c.inputs[k] with missing := c.inputs[k].missing + 1 }
    missingRun := c.missingRun + 1
    flywheelTicks := if c.flywheelTicks = 0xFFFFFFFF then c.flywheelTicks else c.flywheelTicks + 1 }

theorem State.slaved_of (hmode : s.casc.mode ≠ .standalone) (hrole : s.casc.role ≠ .master) : s.slaved = true := by
  unfold State.slaved
  split
  case h_1 hmode' => exact absurd hmode' hmode
  case h_2 => simpa using hrole
  all_goals rfl

theorem tickWordMissing_counts (hfollowed : s.casc.followed = some k) (hmode : s.casc.mode ≠ .standalone) (hrole : s.casc.role ≠ .master) :
    ∃ t, exec .tickWordMissing s = .next t ∧ s.ChangesOnly t [.casc, .perf] ∧ t.casc = s.casc.misses k := by
  have heq : s.tickMissing
      = ((s.setCasc (CascadeState.misses k)).tally 13 0 3 1).raiseIf (s.casc.missingRun = 0) 266 1 .set k.val 0 0 := by
    simp only [State.tickMissing, hfollowed, State.slaved_of hmode hrole, if_true]
    rfl
  refine exec_within rfl ?_ ?_
  · exact heq ▸ ((State.Within.refl.setCasc (by simp)).tally (by simp)).raiseIf
  · rw [State.settled_casc, heq, State.raiseIf_casc]
    rfl

/-- 64 missing words in a row: FLYWHEEL. -/
theorem flywheelDeclare_declares (hmode : s.casc.mode = .joined) (hrole : s.casc.role ≠ .master) (hrun : 64 ≤ s.casc.missingRun) :
    ∃ t, exec .flywheelDeclare s = .next t ∧ s.ChangesOnly t [.casc] ∧ t.casc = { s.casc with mode := .flywheel } := by
  have heq : s.flywheelDeclare = (s.setCascMode .flywheel).raise 266 4 .set oneUnit 0 0 := if_pos (by simp [hmode, hrole, hrun])
  refine exec_setsCasc rfl ?_ ?_
  · exact heq ▸ (State.Within.refl.setCascMode (by simp)).raise
  · rw [heq, State.raise_casc, State.setCascMode_casc]

end Rows

/-- Settles O31: a word that fails counts as missing, a valid ACTIVE word is followed with or without a step of the tick, and missing
words of the followed input add up to FLYWHEEL. -/
theorem tickWordsAreFollowed : Obligations.TickWordsAreFollowed := by
  intro s k
  refine ⟨fun v arrival => tickWordReceived_rejected, ?words, fun w arrival d hdeclared => ?_, fun hfollowed hmode hrole => ?missing,
    fun hnone => ?_, flywheelDeclare_declares, fun hfew => ?_⟩
  case words =>
    intro v arrival bs w hline hword hcrc hagrees hnumber hactive hswapOp hroleOp hmode hrole hhandover
    have hears : s.HearsActive k v w :=
      ⟨by rwa [hline], by rw [lineWord, hline, hword]; rfl, hagrees, hnumber, hactive, hswapOp, hroleOp, hmode, hrole, hhandover⟩
    refine ⟨fun hfollowed hrun hlocked => ?_, tickWordReceived_starts hears, tickWordReceived_steps hears⟩
    obtain ⟨t, ht, hchanges, hcasc⟩ := tickWordReceived_keeps (arrival := arrival) hears hfollowed hrun hlocked
    have hinput : ((s.heard k w).casc.follows w).inputs[k] = .ofWord w := CascadeState.hearsWord_input k _ true s.casc
    refine ⟨t, ht, hchanges, ?_⟩
    rw [hcasc, hinput]
    exact ⟨hfollowed, rfl, rfl, rfl, rfl, rfl, rfl, rfl, rfl, rfl, Bool.or_true _⟩
  case missing =>
    obtain ⟨t, ht, hchanges, hcasc⟩ := tickWordMissing_counts hfollowed hmode hrole
    refine ⟨t, ht, hchanges, ?_⟩
    rw [hcasc]
    exact ⟨rfl, congrArg TickInput.missing (Vector.getElem_set_self ..), rfl⟩
  · simp only [State.tickPhase, hdeclared]
  · exact exec_idles (c := .tickWordMissing) rfl (by simp only [State.tickMissing, hnone])
  · exact exec_idles (c := .flywheelDeclare) rfl (if_neg (by simp; omega))

end Sys2Proof.Machine

/-! SUPPORT. The master role (R279, R280, R295 to R299): what takes it and what gives it up, and the statement about them. -/
namespace Sys2Proof.Machine

/-- The device leads the cascade as its master. -/
structure CascadeState.Leads (c : CascadeState) : Prop where
  role   : c.role = .master
  mode   : c.mode = .joined
  drives : c.mstActOut = true
  alone  : c.followed = none

section Role
variable {ps : List Part} {s u : State}

theorem State.complete_casc (c : CommandRef) (st : Status) (d : Nat) (res : List Byte) (s : State) : (s.complete c st d res).casc = s.casc :=
  State.complete_same c st d res (q := .casc) (by simp) (Part.Same.refl s .casc)

/-- A message sent is noted as seen, and queued on the seam links (R288). -/
theorem State.originate_casc (type : Byte) (id : BitVec 32) (arg : Nat) (s : State) :
    ∃ seen seams, (s.originate type id arg).casc = { s.casc with seen := seen, seams := seams } :=
  ⟨_, _, rfl⟩

theorem State.originate_chan (type : Byte) (id : BitVec 32) (arg : Nat) (j : Fin 8) (s : State) :
    (s.originate type id arg).chan j = s.chan j := rfl

/-! A participant's swap is given up (R293). -/

theorem State.unstage_casc (item : Nat) (s : State) : (s.unstage item).casc = { s.casc with staged := none } := by
  unfold State.unstage
  split
  case h_1 g hstaged =>
    simp only
    split
    · simp [State.complete_casc]
    · simp
  case h_2 hnone => rw [← hnone]

theorem State.Within.withCascMap {x : CascadeState} {y : MapState} (hcasc : .casc ∈ ps) (hmap : .map ∈ ps) (h : s.Within ps u) :
    s.Within ps { u with casc := x, map := y } :=
  (h.withCasc hcasc (x := x)).withMap hmap (x := y)

theorem State.Within.unstage {item : Nat} (hcasc : .casc ∈ ps) (hmap : .map ∈ ps) (hchan : .channels ∈ ps) (h : s.Within ps u) :
    s.Within ps (u.unstage item) := by
  unfold State.unstage
  split
  · simp only
    split
    · exact (h.withCascMap hcasc hmap).raise.complete hchan
    · exact (h.withCascMap hcasc hmap).raise
  · exact h

theorem State.Within.holdAbort {x : BitVec 32} (hcasc : .casc ∈ ps) (hmap : .map ∈ ps) (hchan : .channels ∈ ps) (h : s.Within ps u) :
    s.Within ps (u.holdAbort x) := by
  unfold State.holdAbort
  split
  · exact .ite (h.unstage hcasc hmap hchan) h
  · exact h

/-! The takeover (R297, R298). -/

theorem State.becomeMaster_leads (s : State) : s.becomeMaster.casc.Leads := by
  unfold State.becomeMaster
  constructor
  all_goals simp

theorem State.becomeMaster_master (s : State) : s.becomeMaster.casc.master = some s.ownIndex := by
  simp [State.becomeMaster]

theorem CascadeState.Leads.holdAbort {x : BitVec 32} (h : s.casc.Leads) : (s.holdAbort x).casc.Leads := by
  unfold State.holdAbort
  split
  · split
    · rw [State.unstage_casc]
      exact ⟨h.role, h.mode, h.drives, h.alone⟩
    · exact h
  · exact h

theorem CascadeState.Leads.originate {type : Byte} {id : BitVec 32} {arg : Nat} (h : s.casc.Leads) : (s.originate type id arg).casc.Leads := by
  obtain ⟨seen, seams, hcasc⟩ := s.originate_casc type id arg
  rw [hcasc]
  exact ⟨h.role, h.mode, h.drives, h.alone⟩

theorem CascadeState.Leads.raise {src item p0 p1 p2 : Nat} {a : Action} (h : s.casc.Leads) : (s.raise src item a p0 p1 p2).casc.Leads := by
  rwa [State.raise_casc]

theorem CascadeState.Leads.withSwap {w : Option CascadeSwap} (h : s.casc.Leads) :
    (s.setCasc (fun c => { c with swap := w })).casc.Leads :=
  ⟨h.role, h.mode, h.drives, h.alone⟩

theorem CascadeState.Leads.inheritSwap (h : s.casc.Leads) : s.inheritSwap.casc.Leads := by
  unfold State.inheritSwap
  simp only
  split
  · exact h.withSwap.originate
  · exact h.withSwap.raise.originate.holdAbort
  · exact h

theorem State.Within.inheritSwap (hcasc : .casc ∈ ps) (hmap : .map ∈ ps) (hchan : .channels ∈ ps) (h : s.Within ps u) :
    s.Within ps u.inheritSwap := by
  unfold State.inheritSwap
  simp only
  split
  · exact (h.setCasc hcasc).originate hcasc
  · exact (((h.setCasc hcasc).raise).originate hcasc).holdAbort hcasc hmap hchan
  · exact h

theorem State.takeover_leads (s : State) : s.takeover.casc.Leads := by
  refine CascadeState.Leads.inheritSwap ?_
  rw [State.raise_casc]
  exact State.becomeMaster_leads _

theorem State.Within.takeover (hcasc : .casc ∈ ps) (hdpll : .dpll ∈ ps) (hmap : .map ∈ ps) (hchan : .channels ∈ ps) (h : s.Within ps u) :
    s.Within ps u.takeover :=
  (((h.setDpll hdpll).becomeMaster hcasc).raise).inheritSwap hcasc hmap hchan

end Role

/-! The first start of a master-capable member (R279). -/

section Start
variable {s : State} (hmode : s.casc.mode = .joining) (hrole : s.casc.role ≠ .master) (hcapable : s.masterCapable = true)
  (hsilent : s.casc.activeHeard = false)
  (hdue : max s.rst.tinderAt s.casc.startedAt + (if s.rst.straps.masterPref then 200000 else 800000) ≤ s.clock.tick)
include hmode hrole hcapable hsilent hdue

theorem masterStart_leads (hreleased : s.casc.mstInhIn = false) (harbiter : ∀ d, s.casc.declaration = some d → d.arbiter = false) :
    s.masterStart = s.becomeMaster := by
  unfold State.masterStart
  simp only
  rw [if_pos (by simp [hmode, hrole, hcapable, hsilent, hdue]), if_pos]
  rw [hreleased]
  cases hdeclared : s.casc.declaration with
  | none => rfl
  | some d => simp [harbiter d hdeclared]

theorem masterStart_standby (hheld : s.casc.mstInhIn = true) : s.masterStart = s.setRole .standby := by
  unfold State.masterStart
  simp only
  rw [if_pos (by simp [hmode, hrole, hcapable, hsilent, hdue]), if_neg (by simp [hheld])]

theorem masterStartTimeout_leads (hreleased : s.casc.mstInhIn = false) (harbiter : ∀ d, s.casc.declaration = some d → d.arbiter = false) :
    ∃ t, exec .masterStartTimeout s = .next t ∧ s.ChangesOnly t [.casc] ∧ t.casc.role = .master ∧ t.casc.mode = .joined
      ∧ t.casc.mstActOut = true ∧ t.casc.master = some s.ownIndex := by
  have heq := masterStart_leads hmode hrole hcapable hsilent hdue hreleased harbiter
  have hleads := s.becomeMaster_leads
  refine exec_within rfl (heq ▸ State.Within.refl.becomeMaster (by simp)) ?_
  rw [State.settled_casc, heq]
  exact ⟨hleads.role, hleads.mode, hleads.drives, s.becomeMaster_master⟩

theorem masterStartTimeout_standby (hheld : s.casc.mstInhIn = true) :
    ∃ t, exec .masterStartTimeout s = .next t ∧ s.ChangesOnly t [.casc] ∧ t.casc = { s.casc with role := .standby } := by
  have heq := masterStart_standby hmode hrole hcapable hsilent hdue hheld
  exact exec_setsCasc rfl (heq ▸ State.Within.refl.setRole (by simp)) (heq ▸ State.setRole_casc ..)

end Start

/-! The loss of the two paths (R295, R296). -/

section Paths
variable {s : State}

theorem judgeTakeover_takes (hrole : s.casc.role = .standby) (hmode : s.casc.mode = .joined) (hreleased : s.casc.mstInhIn = false)
    (harbiter : s.arbiterOn = false) (htick : s.casc.tickPathLost = true) (hchannel : s.casc.channelPathLost = true) :
    s.judgeTakeover = s.takeover := by
  simp [State.judgeTakeover, hrole, hmode, hreleased, harbiter, htick, hchannel]

theorem judgeTakeover_held (hheld : s.casc.mstInhIn = true) : s.judgeTakeover = s := by
  simp [State.judgeTakeover, hheld]

theorem judgeTakeover_onePath (harbiter : s.arbiterOn = false) (hpath : s.casc.tickPathLost = false ∨ s.casc.channelPathLost = false) :
    s.judgeTakeover = s := by
  rcases hpath with hpath | hpath
  all_goals simp [State.judgeTakeover, harbiter, hpath]

/-- ARBITER mode is a matter of the declaration and the version. -/
theorem State.arbiterOn_congr {u : State} (hdeclaration : u.casc.declaration = s.casc.declaration) (hversion : u.casc.version = s.casc.version) :
    u.arbiterOn = s.arbiterOn := by
  simp only [State.arbiterOn, hdeclaration, hversion]

/-- The tick path is lost. -/
def State.losesTickPath (s : State) : State := (s.setCasc (fun c => { c with tickPathLost := true })).raise 265 2 .set 0 0 0

/-- The channel path is lost. -/
def State.losesChannelPath (s : State) : State := (s.setCasc (fun c => { c with channelPathLost := true })).raise 265 2 .set 1 0 0

theorem State.losesTickPath_casc (s : State) : s.losesTickPath.casc = { s.casc with tickPathLost := true } := State.raise_casc ..

theorem State.losesChannelPath_casc (s : State) : s.losesChannelPath.casc = { s.casc with channelPathLost := true } := State.raise_casc ..

theorem State.losesTickPath_arbiterOn (s : State) : s.losesTickPath.arbiterOn = s.arbiterOn :=
  State.arbiterOn_congr (by rw [State.losesTickPath_casc]) (by rw [State.losesTickPath_casc])

theorem State.losesChannelPath_arbiterOn (s : State) : s.losesChannelPath.arbiterOn = s.arbiterOn :=
  State.arbiterOn_congr (by rw [State.losesChannelPath_casc]) (by rw [State.losesChannelPath_casc])

variable (hrole : s.casc.role = .standby)
include hrole

theorem tickPathLoss_eq (hnew : s.casc.tickPathLost = false) (hrun : 4 ≤ s.casc.missingRun) :
    s.tickPathLoss = s.losesTickPath.judgeTakeover :=
  if_pos (by simp [hrole, hnew, hrun])

theorem tickPathLoss_notes (hnew : s.casc.tickPathLost = false) (hrun : 4 ≤ s.casc.missingRun) (hother : s.casc.channelPathLost = false)
    (harbiter : s.arbiterOn = false) : ∃ t, exec .tickPathLoss s = .next t ∧ s.ChangesOnly t [.casc]
      ∧ t.casc = { s.casc with tickPathLost := true } := by
  have heq : s.tickPathLoss = s.losesTickPath := by
    rw [tickPathLoss_eq hrole hnew hrun, judgeTakeover_onePath]
    · rw [State.losesTickPath_arbiterOn, harbiter]
    · exact .inr (by rw [State.losesTickPath_casc]; exact hother)
  exact exec_setsCasc rfl (heq ▸ (State.Within.refl.setCasc (by simp)).raise) (heq ▸ s.losesTickPath_casc)

theorem tickPathLoss_takes (hnew : s.casc.tickPathLost = false) (hrun : 4 ≤ s.casc.missingRun) (hother : s.casc.channelPathLost = true)
    (hmode : s.casc.mode = .joined) (hreleased : s.casc.mstInhIn = false) (harbiter : s.arbiterOn = false) :
    ∃ t, exec .tickPathLoss s = .next t ∧ s.ChangesOnly t [.casc, .dpll, .map, .channels] ∧ t.casc.role = .master ∧ t.casc.mode = .joined
      ∧ t.casc.mstActOut = true ∧ t.casc.followed = none := by
  have heq : s.tickPathLoss = s.losesTickPath.takeover := by
    rw [tickPathLoss_eq hrole hnew hrun, judgeTakeover_takes]
    case harbiter => rw [State.losesTickPath_arbiterOn, harbiter]
    all_goals rw [State.losesTickPath_casc]
    all_goals assumption
  have hleads := s.losesTickPath.takeover_leads
  refine exec_within rfl ?_ ?_
  · exact heq ▸ ((State.Within.refl.setCasc (by simp)).raise).takeover (by simp) (by simp) (by simp) (by simp)
  · rw [State.settled_casc, heq]
    exact ⟨hleads.role, hleads.mode, hleads.drives, hleads.alone⟩

theorem channelPathLoss_notes (hnew : s.casc.channelPathLost = false)
    (hsilent : ∀ x ∈ s.casc.seams, 16 ≤ x.unchanged ∨ (s.port x.port).aligner ≠ .sync)
    (hstays : s.losesChannelPath.judgeTakeover = s.losesChannelPath) :
    ∃ t, exec .channelPathLoss s = .next t ∧ s.ChangesOnly t [.casc] ∧ t.casc = { s.casc with channelPathLost := true } := by
  have hall : s.casc.seams.all s.seamSilent = true := by
    refine List.all_eq_true.2 fun x hx => ?_
    simpa [State.seamSilent] using hsilent x hx
  have heq : s.channelLoss = s.losesChannelPath := (if_pos (by simp [hrole, hnew, hall])).trans hstays
  exact exec_setsCasc rfl (heq ▸ (State.Within.refl.setCasc (by simp)).raise) (heq ▸ s.losesChannelPath_casc)

end Paths

/-! ARB_SEL (R280, R296). -/

section Arbiter
variable {s : State}

/-- A decision of ARB_SEL is kept; 11b is none. -/
def State.selects (sel : BitVec 2) (s : State) : State :=
  (s.setCasc (fun c => { c with arbSel := if sel = 3 then 0 else sel })).raiseState s.casc.arbSel.toNat
    (if sel = 3 then 0 else sel : BitVec 2).toNat 265 3 oneUnit

theorem State.selects_casc (sel : BitVec 2) (s : State) : (s.selects sel).casc = { s.casc with arbSel := if sel = 3 then 0 else sel } :=
  State.raiseState_casc ..

theorem State.selects_arbiterOn (sel : BitVec 2) (s : State) : (s.selects sel).arbiterOn = s.arbiterOn :=
  State.arbiterOn_congr (by rw [State.selects_casc]) (by rw [State.selects_casc])

theorem State.selects_isMaster (sel : BitVec 2) (s : State) : (s.selects sel).isMaster = s.isMaster := by
  simp only [State.isMaster, State.selects_casc]

theorem State.Within.selects {ps : List Part} {u : State} {sel : BitVec 2} (hcasc : .casc ∈ ps) (h : s.Within ps u) :
    s.Within ps (u.selects sel) :=
  (h.setCasc hcasc).raiseState

theorem State.arbSelDecision_eq (sel : BitVec 2) (s : State) : s.arbSelDecision sel
    = if !(s.selects sel).arbiterOn then s.selects sel
      else if (s.selects sel).isMaster then (if (if sel = 3 then 0 else sel) = 1 then (s.selects sel).releaseRole else s.selects sel)
      else if (s.selects sel).casc.role == .standby && (if sel = 3 then 0 else sel) = 2 && !(s.selects sel).casc.mstInhIn
          && (s.selects sel).casc.mode != .standalone then (s.selects sel).takeover
        else s.selects sel := rfl

theorem State.arbSelDecision_off (sel : BitVec 2) (hoff : s.arbiterOn = false) : s.arbSelDecision sel = s.selects sel := by
  rw [State.arbSelDecision_eq, State.selects_arbiterOn, hoff]
  rfl

theorem State.arbSelDecision_releases (hon : s.arbiterOn = true) (hmaster : s.isMaster = true) :
    s.arbSelDecision 1 = (s.selects 1).releaseRole := by
  rw [State.arbSelDecision_eq, State.selects_arbiterOn, hon, State.selects_isMaster, hmaster]
  rfl

theorem State.arbSelDecision_grants (hon : s.arbiterOn = true) (hrole : s.casc.role = .standby) (hmode : s.casc.mode = .joined)
    (hreleased : s.casc.mstInhIn = false) : s.arbSelDecision 2 = (s.selects 2).takeover := by
  have hmaster : s.isMaster = false := by simp [State.isMaster, hrole]
  rw [State.arbSelDecision_eq, State.selects_arbiterOn, hon, State.selects_isMaster, hmaster, State.selects_casc, hrole, hmode, hreleased]
  rfl

theorem State.releaseRole_casc (s : State) : s.releaseRole.casc
    = { s.casc with followed := none, master := none, masterState := s.dpllCode, role := .standby, mstActOut := false } := by
  simp [State.releaseRole]

theorem arbSelDecision_releases (hon : s.arbiterOn = true) (hmaster : s.isMaster = true) :
    ∃ t, exec (.arbSelDecision 1) s = .next t ∧ s.ChangesOnly t [.casc] ∧ t.casc.role = .standby ∧ t.casc.mstActOut = false
      ∧ t.casc.arbSel = 1 := by
  have heq := State.arbSelDecision_releases hon hmaster
  refine exec_within rfl (heq ▸ (State.Within.refl.selects (by simp)).releaseRole (by simp)) ?_
  rw [State.settled_casc, heq, State.releaseRole_casc, State.selects_casc]
  exact ⟨rfl, rfl, rfl⟩

theorem arbSelDecision_grants (hon : s.arbiterOn = true) (hrole : s.casc.role = .standby) (hmode : s.casc.mode = .joined)
    (hreleased : s.casc.mstInhIn = false) : ∃ t, exec (.arbSelDecision 2) s = .next t ∧ s.ChangesOnly t [.casc, .dpll, .map, .channels]
      ∧ t.casc.role = .master ∧ t.casc.mstActOut = true := by
  have heq := State.arbSelDecision_grants hon hrole hmode hreleased
  have hleads := (s.selects 2).takeover_leads
  refine exec_within rfl (heq ▸ (State.Within.refl.selects (by simp)).takeover (by simp) (by simp) (by simp) (by simp)) ?_
  rw [State.settled_casc, heq]
  exact ⟨hleads.role, hleads.drives⟩

end Arbiter

/-! The handover (R299). -/

section Handover
variable {s : State}

/-- The tick of a handover arranged now (R299): free within its range. -/
def State.nextHandover (s : State) : BitVec 64 := s.clock.frame + BitVec.ofNat 64 (32 + Config.handoverLead s.fresh % 33)

theorem State.nextHandover_ahead (s : State) :
    32 ≤ (s.nextHandover - s.clock.frame).toNat ∧ (s.nextHandover - s.clock.frame).toNat ≤ 64 := by
  have hlead : (s.nextHandover - s.clock.frame).toNat = 32 + Config.handoverLead s.fresh % 33 := by
    rw [State.nextHandover, add_sub_cancel_left, BitVec.toNat_ofNat]
    omega
  omega

theorem State.Within.withFresh {ps : List Part} {u : State} {n : Nat} (hfresh : .fresh ∈ ps) (h : s.Within ps u) :
    s.Within ps { u with fresh := n } := by
  intro x q hq hx
  have hx' := h hq hx
  cases q
  case fresh => exact absurd hfresh hq
  all_goals exact hx'

theorem State.Within.announceHandover {ps : List Part} {u : State} {h : Handover} (hcasc : .casc ∈ ps) (hfresh : .fresh ∈ ps)
    (hu : s.Within ps u) : s.Within ps (u.announceHandover h) :=
  .ite ((hu.withFresh hfresh).setCasc hcasc) (((hu.withFresh hfresh).setCasc hcasc).originate hcasc)

/-- What the announcement of a handover leaves of the cascade. -/
theorem State.announceHandover_casc (h : Handover) (s : State) : ∃ seen seams, (s.announceHandover h).casc
    = { s.casc with handover := some { h with tick := some s.nextHandover }, seen := seen, seams := seams } := by
  unfold State.announceHandover
  simp only
  split
  all_goals exact ⟨_, _, rfl⟩

/-- The master asks for a handover when none is arranged and no swap is open (R299). -/
theorem State.askHandover_announces (release : Bool) (c : Option CommandRef) (hnone : s.casc.handover = none)
    (hready : release = true ∨ s.casc.swap = none) :
    s.askHandover release c = s.announceHandover { tick := none, release := release, commands := c.toList } := by
  have hwaits : (s.handoverWaits && !release) = false := by
    rcases hready with rfl | hready
    · exact Bool.and_false _
    · simp [State.handoverWaits, hready]
  simp only [State.askHandover, hnone, hwaits, Bool.false_eq_true, if_false, List.nil_append]

/-- The role-swap period starts again. -/
def State.restartsPeriod (next : Nat) (s : State) : State := s.setCasc (fun c => { c with roleNext := next })

theorem State.isMaster_iff : s.isMaster = true ↔ s.casc.mode = .joined ∧ s.casc.role = .master := by
  simp [State.isMaster]

theorem State.rolePeriod_announces {d : CascadeDeclaration} (hdeclared : s.casc.declaration = some d) (hmaster : s.isMaster = true)
    (hversion : 3 ≤ s.casc.version) (hdue : s.casc.roleNext ≤ s.clock.tick) (hnone : s.casc.handover = none) (hswap : s.casc.swap = none)
    {next : Nat} (hnext : s.clock.tick + d.roleHours * 3600 * second = next) :
    s.rolePeriod = (s.restartsPeriod next).announceHandover { tick := none, release := false, commands := [] } := by
  simp only [State.rolePeriod, hdeclared, hnext]
  rw [if_pos (by simpa [hmaster, hdue, hnone] using hversion)]
  exact State.askHandover_announces (s := s.restartsPeriod _) false none hnone (.inr hswap)

theorem roleSwapPeriod_arranges {d : CascadeDeclaration} (hdeclared : s.casc.declaration = some d) (hmaster : s.isMaster = true)
    (hversion : 3 ≤ s.casc.version) (hdue : s.casc.roleNext ≤ s.clock.tick) (hnone : s.casc.handover = none) (hswap : s.casc.swap = none) :
    ∃ t h f, exec .roleSwapPeriod s = .next t ∧ s.ChangesOnly t [.casc, .fresh] ∧ t.casc.handover = some h ∧ h.tick = some f
      ∧ h.release = false ∧ 32 ≤ (f - s.clock.frame).toNat ∧ (f - s.clock.frame).toNat ≤ 64
      ∧ t.casc.roleNext = s.clock.tick + d.roleHours * 3600 * 2000000 ∧ t.casc.role = .master := by
  obtain ⟨next, hnext⟩ : ∃ next, s.clock.tick + d.roleHours * 3600 * second = next := ⟨_, rfl⟩
  have heq := State.rolePeriod_announces hdeclared hmaster hversion hdue hnone hswap hnext
  obtain ⟨seen, seams, hcasc⟩ := State.announceHandover_casc { tick := none, release := false, commands := [] } (s.restartsPeriod next)
  have hwithin : s.Within [.casc, .fresh] s.rolePeriod :=
    heq ▸ (State.Within.refl.setCasc (by simp)).announceHandover (by simp) (by simp)
  obtain ⟨hearly, hlate⟩ := s.nextHandover_ahead
  refine ⟨_, { tick := some s.nextHandover, release := false, commands := [] }, s.nextHandover, rfl, hwithin.changesOnly, ?_, rfl, rfl,
    hearly, hlate, ?_, ?_⟩
  all_goals rw [State.settled_casc, heq, hcasc]
  · rfl
  · exact hnext.symm
  · exact (State.isMaster_iff.1 hmaster).2

theorem roleSwapPeriod_waits (hearly : s.clock.tick < s.casc.roleNext) : ∃ t, exec .roleSwapPeriod s = .next t ∧ s.ChangesOnly t [] := by
  refine exec_idles (c := .roleSwapPeriod) rfl ?_
  unfold State.rolePeriod
  split
  · exact if_neg (by simp; omega)
  · rfl

section Tick
variable {h : Handover} {f : BitVec 64} (harranged : s.casc.handover = some h) (htick : h.tick = some f) (hown : h.commands = [])
include harranged htick hown

/-- At H the master releases the role (R299). -/
theorem handoverTick_releases (hmaster : s.isMaster = true) (hdue : f ≤ s.clock.frame) :
    ∃ t, exec .handoverTick s = .next t ∧ s.ChangesOnly t [.casc] ∧ t.casc.role = .standby ∧ t.casc.mstActOut = false
      ∧ t.casc.handover = none := by
  have heq : s.handoverTick = (s.releaseRole.setCasc (fun c => { c with handover := none })).sendTickWord := by
    simp only [State.handoverTick, harranged, htick, hmaster, if_pos hdue, hown, List.isEmpty_nil, if_true]
  refine exec_within rfl (heq ▸ ((State.Within.refl.releaseRole (by simp)).setCasc (by simp)).setCasc (by simp)) ?_
  rw [State.settled_casc, heq, State.sendTickWord, State.setCasc_casc, State.setCasc_casc, State.releaseRole_casc]
  exact ⟨rfl, rfl, rfl⟩

/-- At H+1 the standby takes it (R299). -/
theorem handoverTick_takes (hrole : s.casc.role = .standby) (hdue : f + 1 ≤ s.clock.frame) (hreleased : s.casc.mstInhIn = false) :
    ∃ t, exec .handoverTick s = .next t ∧ s.ChangesOnly t [.casc, .dpll, .map, .channels] ∧ t.casc.role = .master
      ∧ t.casc.mstActOut = true := by
  have hmaster : s.isMaster = false := by simp [State.isMaster, hrole]
  have heq : s.handoverTick = s.takeover.raise 271 1 .occurrence oneUnit (f.toNat % 4294967296) 0 := by
    simp only [State.handoverTick, harranged, htick, hmaster, Bool.false_eq_true, if_false]
    exact if_pos (by simpa [hrole, hown, hreleased] using hdue)
  have hleads := s.takeover_leads
  refine exec_within rfl (heq ▸ (State.Within.refl.takeover (by simp) (by simp) (by simp) (by simp)).raise) ?_
  rw [State.settled_casc, heq, State.raise_casc]
  exact ⟨hleads.role, hleads.drives⟩

omit hown in
theorem handoverTick_waits (hearly : s.clock.frame < f) (hmaster : s.isMaster = true) :
    ∃ t, exec .handoverTick s = .next t ∧ s.ChangesOnly t [] := by
  refine exec_idles (c := .handoverTick) rfl ?_
  simp only [State.handoverTick, harranged, htick, hmaster, if_true, if_neg (BitVec.not_le.2 hearly)]

end Tick
end Handover

/-- Settles O32: each way to the role and out of it, by the case that its row's condition makes. -/
theorem masterRoleMovesAsStated : Obligations.MasterRoleMovesAsStated := by
  intro s
  refine ⟨fun hmode hrole hcapable hsilent hdue => ⟨masterStartTimeout_leads hmode hrole hcapable hsilent hdue,
      masterStartTimeout_standby hmode hrole hcapable hsilent hdue⟩, fun hmode => ?_,
    fun hrole hnew hrun => ⟨tickPathLoss_notes hrole hnew hrun, tickPathLoss_takes hrole hnew hrun⟩, fun hfew => ?_,
    fun hrole hnew hsilent => ⟨fun htick harbiter => ?_, fun htick hheld => ?_⟩, fun sel hoff => ?_,
    arbSelDecision_releases, arbSelDecision_grants,
    fun d => roleSwapPeriod_arranges, roleSwapPeriod_waits, fun h f harranged htick hown => ⟨handoverTick_releases harranged htick hown,
      handoverTick_takes harranged htick hown, handoverTick_waits harranged htick⟩⟩
  · exact exec_idles (c := .masterStartTimeout) rfl (if_neg (by simp [hmode]))
  · exact exec_idles (c := .tickPathLoss) rfl (if_neg (by simp; omega))
  · refine channelPathLoss_notes hrole hnew hsilent (judgeTakeover_onePath ?_ (.inl ?_))
    · rw [State.losesChannelPath_arbiterOn, harbiter]
    · rw [State.losesChannelPath_casc]
      exact htick
  · refine channelPathLoss_notes hrole hnew hsilent (judgeTakeover_held ?_)
    rw [State.losesChannelPath_casc]
    exact hheld
  · have heq := State.arbSelDecision_off sel hoff
    exact exec_setsCasc rfl (heq ▸ State.Within.refl.selects (by simp)) (heq ▸ s.selects_casc sel)

end Sys2Proof.Machine

/-! SUPPORT. Cascade messages and cascade swaps (R278, R287 to R294): what each row does with them, and the statement about them. -/
namespace Sys2Proof.Machine

/-! A frame rebuilt from its low 48 bits (R287). -/

theorem rebuildFrame_low (now : BitVec 64) (arg : BitVec 48) : (rebuildFrame now arg).setWidth 48 = arg := by
  apply BitVec.eq_of_toNat_eq
  simp only [rebuildFrame, BitVec.toNat_setWidth, BitVec.toNat_add, BitVec.toNat_sub]
  omega

theorem rebuildFrame_ahead (now : BitVec 64) (arg : BitVec 48) : (rebuildFrame now arg - now).toNat < 281474976710656 := by
  rw [rebuildFrame, add_sub_cancel_left, BitVec.toNat_setWidth]
  omega

/-! The message is heard (R278, R288). -/

/-- A message of another member, not seen before, reaches a member on a seam link that it hears. -/
structure State.HearsNew (s : State) (p : PortNo) (m : CascMessage) : Prop where
  member  : s.casc.mode ≠ .standalone
  seam    : ∃ x ∈ s.casc.seams, x.port = p
  heard   : s.seamHeard p = true
  foreign : m.origin ≠ s.ownIndex
  fresh   : s.isCopy m.origin m.msgType m.msgId = false

/-- The message is noted as seen, and goes on as `relayed` on the other seam links. -/
def State.passesOn (p : PortNo) (m relayed : CascMessage) (s : State) : State :=
  (s.noteSeen m.origin m.msgType m.msgId).relay relayed (some p)

section Messages
variable {ps : List Part} {s u : State} {p : PortNo} {m : CascMessage}

theorem State.Within.passesOn {relayed : CascMessage} (hcasc : .casc ∈ ps) (h : s.Within ps u) : s.Within ps (u.passesOn p m relayed) :=
  (h.noteSeen hcasc).relay hcasc

theorem cascMessage_unheard (h : s.casc.mode = .standalone ∨ (∀ x ∈ s.casc.seams, x.port ≠ p) ∨ s.seamHeard p = false) :
    s.cascMessage p m = s := by
  refine if_pos ?_
  rcases h with hmode | hseams | hheard
  · simp [hmode]
  · have hnone : s.casc.seams.any (fun x => x.port == p) = false := by simpa using hseams
    simp [hnone]
  · simp [hheard]

theorem cascMessage_copy (hmaster : s.isMaster = false) (hcopy : s.isCopy m.origin m.msgType m.msgId = true) : s.cascMessage p m = s := by
  have hstops : (m.msgType = 0 || 10 < m.msgType.toNat || m.origin = s.ownIndex || s.isCopy m.origin m.msgType m.msgId) = true := by
    simp [hcopy]
  unfold State.cascMessage
  simp only [hmaster, hstops, Bool.not_false, if_true, ite_self]

/-- A message to the master from a member that shows no master role says nothing of another master (R301). -/
theorem dualMasterOver_none {other : Fin 64} (h : s.casc.dualMaster = false) : s.dualMasterOver other = s :=
  if_neg (by simp [h])

section New
variable (hears : s.HearsNew p m)
include hears

theorem State.HearsNew.listens : (s.casc.mode == .standalone || !s.casc.seams.any (fun x => x.port == p) || !s.seamHeard p) = false := by
  have hseam : s.casc.seams.any (fun x => x.port == p) = true := by simpa using hears.seam
  simp [hears.member, hseam, hears.heard]

/-- A message type of R287, from another member and not seen before, passes the checks. -/
theorem State.HearsNew.passes (htype : m.msgType ≠ 0) (hknown : m.msgType.toNat ≤ 10) :
    (m.msgType = 0 || 10 < m.msgType.toNat || m.origin = s.ownIndex || s.isCopy m.origin m.msgType m.msgId) = false := by
  simpa [hears.foreign, hears.fresh, Nat.not_lt.2 hknown] using htype

/-- A member that is not the master takes the admission of type 2, and COMMIT of type 6 (R278, R293). -/
theorem cascMessage_admission (htype : m.msgType = 2) (hmaster : s.isMaster = false) :
    ∃ relayed, s.cascMessage p m = (s.passesOn p m relayed).takeAdmit m := by
  have hpasses := hears.passes (by simp [htype]) (by simp [htype])
  unfold State.cascMessage
  simp only [hears.listens, hmaster, hpasses, Bool.not_false, Bool.false_eq_true, if_true, if_false]
  rw [if_neg (by rw [htype]; decide), if_pos (by rw [htype]; decide)]
  exact ⟨_, rfl⟩

theorem cascMessage_commit (htype : m.msgType = 6) (hmaster : s.isMaster = false) :
    ∃ relayed, s.cascMessage p m = (s.passesOn p m relayed).holdCommit m.msgId (rebuildFrame s.clock.frame m.arg) := by
  have hpasses := hears.passes (by simp [htype]) (by simp [htype])
  unfold State.cascMessage
  simp only [hears.listens, hmaster, hpasses, Bool.not_false, Bool.false_eq_true, if_true, if_false]
  rw [if_neg (by rw [htype]; decide), if_neg (by rw [htype]; decide), if_neg (by rw [htype]; decide), if_neg (by rw [htype]; decide),
    if_neg (by rw [htype]; decide), if_pos (by rw [htype]; decide)]
  exact ⟨_, if_neg (Bool.eq_false_iff.1 hmaster)⟩

/-- The master takes READY (R292). -/
theorem cascMessage_ready (htype : m.msgType = 3) (hmaster : s.isMaster = true) (hsender : m.senderRole ≠ 2) (hsole : s.casc.dualMaster = false) :
    ∃ relayed, s.cascMessage p m = (s.passesOn p m relayed).noteReady m.origin m.msgId := by
  have hpasses := hears.passes (by simp [htype]) (by simp [htype])
  unfold State.cascMessage
  simp only [hears.listens, hmaster, hsender, dualMasterOver_none hsole, hpasses, Bool.not_true, Bool.false_eq_true, if_false, ite_self]
  rw [if_neg (by rw [htype]; decide), if_neg (by rw [htype]; decide), if_pos (by rw [htype]; decide)]
  exact ⟨_, if_pos hmaster⟩

end New

/-! What the three types do (R278, R292, R293). -/

theorem State.Within.takeAdmit (hcasc : .casc ∈ ps) (h : s.Within ps u) : s.Within ps (u.takeAdmit m) := by
  unfold State.takeAdmit
  exact .ite h (.ite ((((h.setCasc hcasc).setCasc hcasc).setRole hcasc).setCascMode hcasc) (h.setCasc hcasc))

/-- The admission by a master-capable member, at a device that waits for it. -/
theorem State.takeAdmit_joins {d : CascadeDeclaration} (hmode : s.casc.mode = .joining) (hrole : s.casc.role ≠ .master)
    (hsent : s.casc.joinSent = true) (hdeclared : s.casc.declaration = some d) (hcapable : m.origin = d.capable.1 ∨ m.origin = d.capable.2) :
    (s.takeAdmit m).casc.mode = .joined ∧ (s.takeAdmit m).casc.role = (if s.masterCapable then .standby else .slave)
      ∧ (s.takeAdmit m).casc.master = some m.origin := by
  have hcapable' : (m.origin == d.capable.1 || m.origin == d.capable.2) = true := by simpa using hcapable
  have hmaster : s.isMaster = false := by simp [State.isMaster, hmode]
  simp only [State.takeAdmit, hdeclared, hcapable', hmaster, Bool.not_true, Bool.or_false, Bool.false_eq_true, if_false]
  rw [if_pos (by simp [hmode, hrole, hsent])]
  rw [State.setCascMode_casc, State.setRole_casc, State.setCasc_casc]
  exact ⟨rfl, rfl, rfl⟩

theorem State.noteReady_notes {w : CascadeSwap} {k : Fin 64} (hswap : s.casc.swap = some w) (hphase : w.phase = .prepare)
    (hmember : k ∈ w.participants) (hnew : k ∉ w.ready) :
    s.noteReady k w.id = { s with casc := { s.casc with swap := some { w with ready := k :: w.ready } } } := by
  simp only [State.noteReady, hswap]
  exact if_pos (by simp [hphase, hmember, hnew])

theorem State.holdCommit_holds {g : StagedSwap} (hstaged : s.casc.staged = some g) (hopen : g.frame = none) (hkept : g.aborted = false)
    (f : BitVec 64) : s.holdCommit g.id f
      = { s with
          casc := { s.casc with staged := some { g with frame := some f } }
          map := { s.map with swap := some { frame := f, persist := g.persist, command := g.command, latched := false } } } := by
  simp only [State.holdCommit, hstaged]
  exact if_pos (by simp [hopen, hkept])

section Received
variable (hears : s.HearsNew p m)
include hears

theorem cascMessageReceived_admission {d : CascadeDeclaration} (htype : m.msgType = 2) (hmode : s.casc.mode = .joining)
    (hrole : s.casc.role ≠ .master) (hsent : s.casc.joinSent = true) (hdeclared : s.casc.declaration = some d)
    (hcapable : m.origin = d.capable.1 ∨ m.origin = d.capable.2) :
    ∃ t, exec (.cascMessageReceived p m) s = .next t ∧ s.ChangesOnly t [.casc] ∧ t.casc.mode = .joined
      ∧ t.casc.role = (if s.masterCapable then .standby else .slave) ∧ t.casc.master = some m.origin := by
  obtain ⟨relayed, heq⟩ := cascMessage_admission hears htype (by simp [State.isMaster, hmode])
  refine exec_within rfl (heq ▸ (State.Within.refl.passesOn (by simp)).takeAdmit (by simp)) ?_
  rw [State.settled_casc, heq]
  exact State.takeAdmit_joins (s := s.passesOn p m relayed) hmode hrole hsent hdeclared hcapable

theorem cascMessageReceived_ready {w : CascadeSwap} (htype : m.msgType = 3) (hmaster : s.isMaster = true) (hsender : m.senderRole ≠ 2)
    (hsole : s.casc.dualMaster = false) (hswap : s.casc.swap = some w) (hid : w.id = m.msgId) (hphase : w.phase = .prepare)
    (hmember : m.origin ∈ w.participants) (hnew : m.origin ∉ w.ready) :
    ∃ t, exec (.cascMessageReceived p m) s = .next t ∧ s.ChangesOnly t [.casc]
      ∧ t.casc.swap = some { w with ready := m.origin :: w.ready } := by
  obtain ⟨relayed, heq⟩ := cascMessage_ready hears htype hmaster hsender hsole
  rw [← hid, State.noteReady_notes (s := s.passesOn p m relayed) hswap hphase hmember hnew] at heq
  refine exec_within rfl (heq ▸ (State.Within.refl.passesOn (by simp)).withCasc (by simp)) ?_
  rw [State.settled_casc, heq]

theorem cascMessageReceived_commit {g : StagedSwap} (htype : m.msgType = 6) (hmaster : s.isMaster = false) (hstaged : s.casc.staged = some g)
    (hid : g.id = m.msgId) (hopen : g.frame = none) (hkept : g.aborted = false) :
    ∃ t f, exec (.cascMessageReceived p m) s = .next t ∧ s.ChangesOnly t [.casc, .map] ∧ t.casc.staged = some { g with frame := some f }
      ∧ f.setWidth 48 = m.arg ∧ (f - s.clock.frame).toNat < 281474976710656
      ∧ t.map.swap = some { frame := f, persist := g.persist, command := g.command, latched := false } := by
  obtain ⟨relayed, heq⟩ := cascMessage_commit hears htype hmaster
  rw [← hid, State.holdCommit_holds (s := s.passesOn p m relayed) hstaged hopen hkept] at heq
  have hwithin : s.Within [.casc, .map] (s.cascMessage p m) := by
    rw [heq]
    exact (State.Within.refl.passesOn (by simp)).withCascMap (by simp) (by simp)
  refine ⟨_, rebuildFrame s.clock.frame m.arg, rfl, hwithin.changesOnly, ?_, rebuildFrame_low .., rebuildFrame_ahead .., ?_⟩
  · rw [State.settled_casc, heq]
  · rw [State.settled_map, heq]

end Received
end Messages

/-! The prepare phase at the master (R292). -/

section Prepare
variable {s : State} {w : CascadeSwap} {c : CommandRef}

theorem State.holdAbort_none {x : BitVec 32} (h : s.casc.staged = none) : s.holdAbort x = s := by
  simp only [State.holdAbort, h]

/-- The master aborts its swap: the state before the command ends. -/
def State.aborts (w : CascadeSwap) (s : State) : State :=
  (({ s with casc := { s.casc with swap := some { w with phase := .aborting, abortLeft := 64 } } } : State).raise
    267 4 .occurrence oneUnit w.id.toNat 0).originate msgAbort w.id 0

theorem State.Within.aborts {ps : List Part} {u : State} (hcasc : .casc ∈ ps) (h : s.Within ps u) : s.Within ps (u.aborts w) :=
  ((h.withCasc hcasc).raise).originate hcasc

theorem State.aborts_casc (w : CascadeSwap) (s : State) : ∃ seen seams, (s.aborts w).casc
    = { s.casc with swap := some { w with phase := .aborting, abortLeft := 64 }, seen := seen, seams := seams } := by
  obtain ⟨seen, seams, hcasc⟩ := State.originate_casc msgAbort w.id 0
    (({ s with casc := { s.casc with swap := some { w with phase := .aborting, abortLeft := 64 } } } : State).raise
      267 4 .occurrence oneUnit w.id.toNat 0)
  exact ⟨seen, seams, hcasc.trans (by rw [State.raise_casc])⟩

theorem State.aborts_chan (w : CascadeSwap) (j : Fin 8) (s : State) : (s.aborts w).chan j = s.chan j := by
  rw [State.aborts, State.originate_chan, State.raise_chan]
  rfl

/-- A swap without a VETO is aborted for the members that are silent. -/
theorem State.abortSwap_silent (st : Status) (hstaged : s.casc.staged = none) (hveto : w.veto = []) (hcommand : w.command = some c) :
    s.abortSwap w st = (s.aborts w).complete c st 0
      (leBytes 8 (memberMask (w.participants.filter (fun k => !w.ready.contains k))) ++ leBytes 8 0) := by
  have hkept : (s.aborts w).holdAbort w.id = s.aborts w := by
    obtain ⟨seen, seams, hcasc⟩ := s.aborts_casc w
    exact State.holdAbort_none (by rw [hcasc]; exact hstaged)
  cases w
  simp only at hveto hcommand
  subst hveto hcommand
  exact congrArg (State.complete c st 0 _) hkept

theorem cascPrepareTimeout_aborts (hswap : s.casc.swap = some w) (hphase : w.phase = .prepare) (hveto : w.veto = []) (hcommand : w.command = some c)
    (hstaged : s.casc.staged = none) (hdue : w.started + 2000 ≤ s.clock.tick) :
    ∃ t, exec .cascPrepareTimeout s = .next t ∧ s.ChangesOnly t [.casc, .channels]
      ∧ (∃ x, t.casc.swap = some x ∧ x.phase = .aborting ∧ x.abortLeft = 64 ∧ x.id = w.id)
      ∧ s.Ended t c .errState (leBytes 8 (memberMask (w.participants.filter (fun k => !w.ready.contains k))) ++ leBytes 8 0) := by
  have heq : s.prepareExpiry = s.abortSwap w .errState := by
    simp only [State.prepareExpiry, hswap]
    exact if_pos (by simp [hphase, hdue])
  rw [State.abortSwap_silent .errState hstaged hveto hcommand] at heq
  refine exec_within rfl (heq ▸ (State.Within.refl.aborts (by simp)).complete (by simp)) ⟨?_, ?_⟩
  · rw [State.settled_casc, heq, State.complete_casc]
    obtain ⟨seen, seams, hcasc⟩ := s.aborts_casc w
    exact ⟨_, congrArg CascadeState.swap hcasc, rfl, rfl, rfl⟩
  · rw [heq]
    exact (State.complete_ended (s.aborts_chan w c.channel) _ _ _).settled

theorem cascPrepareTimeout_waits (hswap : s.casc.swap = some w) (hearly : s.clock.tick < w.started + 2000) :
    ∃ t, exec .cascPrepareTimeout s = .next t ∧ s.ChangesOnly t [] := by
  refine exec_idles (c := .cascPrepareTimeout) rfl ?_
  simp only [State.prepareExpiry, hswap]
  exact if_neg (by simp; omega)

end Prepare

/-! The decision tick of a participant (R293). -/

section Decision
variable {s : State} {g : StagedSwap} {c : CommandRef}

/-- The staged swap is gone, and a bank scheduled for it is READY. -/
def State.unstaged (s : State) : State :=
  { s with
    casc := { s.casc with staged := none }
    map := { s.map with swap := none, shadowMode := if s.map.shadowMode == .scheduled then .ready else s.map.shadowMode } }

theorem State.unstage_ends (item : Nat) (hstaged : s.casc.staged = some g) (hcommand : g.command = some c) :
    s.unstage item = (s.unstaged.raise 267 item .occurrence oneUnit g.id.toNat 0).complete c .errState 0
      (zeros 8 ++ leBytes 8 s.map.active.generation.toNat) := by
  simp only [State.unstage, hstaged, hcommand, State.raise_map]
  rfl

theorem cascDecisionCheck_gives (hstaged : s.casc.staged = some g) (hcommand : g.command = some c) (hmaster : s.isMaster = false)
    (hopen : g.frame = none) (hanswered : s.casc.answered = g.id) :
    ∃ t, exec .cascDecisionCheck s = .next t ∧ s.ChangesOnly t [.casc, .map, .channels] ∧ t.casc.staged = none ∧ t.map.swap = none
      ∧ t.map.active = s.map.active ∧ s.Ended t c .errState (zeros 8 ++ leBytes 8 s.map.active.generation.toNat) := by
  have heq : s.decisionCheck = s.unstage 6 := by
    simp only [State.decisionCheck, hstaged, hmaster]
    exact if_pos (by simp [hopen, hanswered])
  have hends := State.unstage_ends 6 hstaged hcommand
  have hmap : (s.unstage 6).map = s.unstaged.map := by rw [hends, State.complete_map, State.raise_map]
  refine exec_within rfl (heq ▸ State.Within.refl.unstage (by simp) (by simp) (by simp)) ⟨?_, ?_, ?_, ?_⟩
  · rw [State.settled_casc, heq, State.unstage_casc]
  · rw [State.settled_map, heq, hmap]
    rfl
  · rw [State.settled_map, heq, hmap]
    rfl
  · rw [heq, hends]
    exact (State.complete_ended (State.raise_chan _ _ _ _ _ _ c.channel s.unstaged) _ _ _).settled

theorem cascDecisionCheck_keeps {f : BitVec 64} (hstaged : s.casc.staged = some g) (hfixed : g.frame = some f) :
    ∃ t, exec .cascDecisionCheck s = .next t ∧ s.ChangesOnly t [] := by
  refine exec_idles (c := .cascDecisionCheck) rfl ?_
  simp only [State.decisionCheck, hstaged, hfixed]
  exact if_neg (by simp)

end Decision

/-! The close of a committed swap (R294). -/

section Close
variable {s u : State} {w : CascadeSwap} {c : CommandRef}

/-- The members whose COMPLETE is missing are named. -/
def State.namesMissing (xs : List (Fin 64)) (id : BitVec 32) (s : State) : State :=
  xs.foldl (fun s m => s.raise 267 5 .occurrence m.val id.toNat 0) s

theorem State.Within.namesMissing {ps : List Part} {id : BitVec 32} (xs : List (Fin 64)) (h : s.Within ps u) :
    s.Within ps (u.namesMissing xs id) := by
  induction xs generalizing u with
  | nil => exact h
  | cons k xs ih => exact ih h.raise

theorem State.namesMissing_casc (xs : List (Fin 64)) (id : BitVec 32) (s : State) : (s.namesMissing xs id).casc = s.casc :=
  State.Within.namesMissing xs State.Within.refl (ps := []) (q := .casc) (by simp) (Part.Same.refl s .casc)

theorem State.namesMissing_chan (xs : List (Fin 64)) (id : BitVec 32) (j : Fin 8) (s : State) : (s.namesMissing xs id).chan j = s.chan j := by
  induction xs generalizing s with
  | nil => rfl
  | cons k xs ih => exact (ih _).trans (State.raise_chan ..)

theorem State.closeSwap_closes (hswap : s.casc.swap = some w) (hphase : w.phase = .committed) (hall : w.complete = w.participants)
    (hcommand : w.command = some c) (hapart : s.ownIndex ∉ w.participants) :
    ∃ (x : CascadeState) (y : MapState), s.closeSwap
      = { s.complete c .ok 0 (leBytes 8 w.frame.toNat ++ leBytes 8 0) with casc := { x with swap := none }, map := y } := by
  simp only [State.closeSwap, hswap, hcommand]
  rw [if_pos (by simp [hphase, hall]), if_neg (by simpa using hapart)]
  exact ⟨_, _, rfl⟩

/-- The members whose COMPLETE is missing have been named, and the swap counts as completed. -/
def State.countsComplete (w : CascadeSwap) (s : State) : State :=
  (s.namesMissing (w.participants.filter (fun m => !w.complete.contains m)) w.id).setCasc
    (fun c => { c with swap := some { w with complete := w.participants } })

theorem State.countsComplete_ownIndex (w : CascadeSwap) (s : State) : (s.countsComplete w).ownIndex = s.ownIndex := by
  rw [State.ownIndex, State.countsComplete, State.setCasc_casc, State.namesMissing_casc]
  rfl

theorem State.countsComplete_chan (w : CascadeSwap) (j : Fin 8) (s : State) : (s.countsComplete w).chan j = s.chan j :=
  State.namesMissing_chan ..

theorem cascCompleteTimeout_closes (hswap : s.casc.swap = some w) (hphase : w.phase = .committed) (hcommand : w.command = some c)
    (hapart : s.ownIndex ∉ w.participants) (hdue : w.frame + 20000 ≤ s.clock.frame) :
    ∃ t, exec .cascCompleteTimeout s = .next t ∧ s.ChangesOnly t [.casc, .map, .channels] ∧ t.casc.swap = none
      ∧ s.Ended t c .ok (leBytes 8 w.frame.toNat ++ leBytes 8 0) := by
  have heq : s.completeExpiry = (s.countsComplete w).closeSwap := by
    simp only [State.completeExpiry, hswap]
    exact if_pos (by simpa [hphase] using hdue)
  obtain ⟨x, y, hclosed⟩ := State.closeSwap_closes (s := s.countsComplete w) (w := { w with complete := w.participants }) rfl hphase rfl hcommand
    (by rwa [State.countsComplete_ownIndex])
  rw [hclosed] at heq
  refine exec_within rfl ?_ ⟨?_, ?_⟩
  · rw [heq]
    exact (((State.Within.refl.namesMissing _).setCasc (by simp)).complete (by simp)).withCascMap (by simp) (by simp)
  · rw [State.settled_casc, heq]
  · have hends := State.complete_ended (s.countsComplete_chan w c.channel) .ok 0 (leBytes 8 w.frame.toNat ++ leBytes 8 0)
    rw [heq]
    exact State.Ended.settled hends

theorem cascCompleteTimeout_idles (hnone : s.casc.swap = none) : ∃ t, exec .cascCompleteTimeout s = .next t ∧ s.ChangesOnly t [] :=
  exec_idles (c := .cascCompleteTimeout) rfl (by simp only [State.completeExpiry, hnone])

end Close
/-- Settles O33: a message is taken once by a member that hears it, and each phase of a swap ends as its row's case says. -/
theorem cascadeMessagesAndSwapsFollowTheirRules : Obligations.CascadeMessagesAndSwapsFollowTheirRules := by
  intro s p m
  refine ⟨fun hunheard => exec_idles (c := .cascMessageReceived p m) rfl (cascMessage_unheard hunheard),
    fun hmaster hcopy => exec_idles (c := .cascMessageReceived p m) rfl (cascMessage_copy hmaster hcopy),
    fun d htype hmode hrole hseam hheard hsent hdeclared hcapable hforeign hnew => ?joins,
    fun w htype hmaster hsender hsole hseam hheard hforeign hnew => ?ready,
    fun g htype hmaster hmember hseam hforeign hheard hnew => ?commit,
    fun w c hswap hphase hveto hcommand hstaged => ⟨cascPrepareTimeout_aborts hswap hphase hveto hcommand hstaged,
      cascPrepareTimeout_waits hswap⟩,
    fun g c => cascDecisionCheck_gives, fun g f => cascDecisionCheck_keeps, fun w c => cascCompleteTimeout_closes, cascCompleteTimeout_idles⟩
  case joins =>
    exact cascMessageReceived_admission ⟨by simp [hmode], hseam, hheard, hforeign, hnew⟩ htype hmode hrole hsent hdeclared hcapable
  case ready =>
    have hmember : s.casc.mode ≠ .standalone := by simp [(State.isMaster_iff.1 hmaster).1]
    exact cascMessageReceived_ready ⟨hmember, hseam, hheard, hforeign, hnew⟩ htype hmaster hsender hsole
  case commit =>
    exact cascMessageReceived_commit ⟨hmember, hseam, hheard, hforeign, hnew⟩ htype hmaster

end Sys2Proof.Machine

/-! SUPPORT. The CASC commands (R277, R278, R291, R292, R299, R368 to R372), and the statement about them. -/
namespace Sys2Proof.Machine

/-! CASC_DECLARE (R277, R278, R368). -/

section Declare
variable {s v : State} {r : Request} {ds bs : List Byte} {o : Nat}

/-- A buffer that holds all the entries that it counts. -/
structure WholeDeclaration (bs : List Byte) : Prop where
  head    : 32 ≤ bs.length
  entries : cascLength bs ≤ bs.length

/-- A declaration without fault: each seam link's port has the role, and the links do not cut the device off. -/
structure State.SoundDeclaration (s : State) (bs : List Byte) : Prop where
  range : cascRange bs = none
  roles : ∀ j, j < cascSeams bs → (s.port (Fin.ofNat 512 (field bs (seamOffset bs j) 2))).seamRole = true
  links : (cascDeclaration bs).cutOff = false

variable (hwhole : WholeDeclaration bs)
include hwhole

theorem cmdCascDeclare_reads (r : Request) (v : State) : cmdCascDeclare.check r bs.length v = .read bs.length :=
  if_neg hwhole.head.not_gt

omit hwhole in
theorem WholeDeclaration.not_short (hwhole : WholeDeclaration bs) :
    ¬ (decide (bs.length < 32) || decide (bs.length < cascLength bs)) = true := by
  simp [hwhole.head, hwhole.entries]

theorem State.checkDeclaration_outOfRange (hrange : cascRange bs = some o) (v : State) :
    v.checkDeclaration bs = .refuse .errRange (detailBuffer o) [] := by
  simp only [State.checkDeclaration, if_neg hwhole.not_short, hrange]

theorem State.checkDeclaration_sound (hsound : v.SoundDeclaration bs) (halone : v.casc.mode = .standalone) :
    v.checkDeclaration bs = .done [] := by
  have hroles : (List.range (cascSeams bs)).find? (fun j => !(v.port (Fin.ofNat 512 (field bs (seamOffset bs j) 2))).seamRole) = none := by
    refine List.find?_eq_none.2 fun j hj => ?_
    rw [hsound.roles j (List.mem_range.1 hj)]
    exact Bool.false_ne_true
  simp only [State.checkDeclaration, if_neg hwhole.not_short, hsound.range, hroles, hsound.links, halone]
  rfl

omit hwhole in
/-- What a declaration on a STANDALONE device makes of the cascade (R278). -/
theorem State.declareCascade_casc {d : CascadeDeclaration} (halone : s.casc.mode = .standalone) :
    (s.declareCascade d).casc.declaration = some d ∧ (s.declareCascade d).casc.mode = .joining
      ∧ (s.declareCascade d).casc.startedAt = s.clock.tick := by
  have hstart : (s.casc.mode == .standalone) = true := beq_iff_eq.2 halone
  simp only [State.declareCascade, hstart, if_true, State.setCascMode_casc, State.setCasc_casc]
  exact ⟨trivial, trivial, trivial⟩

/-- The state in which the declaration has been answered. -/
def State.declarationAnswered (r : Request) (s : State) : State :=
  ((s.cleared r).letIn cmdCascDeclare.opcode r false .ok 0 [] 0).journal r.ref .done

theorem cascDeclare_sound (h : s.Admits cmdCascDeclare r) (hl : s.Lists r ds bs.length) (hv : v = s.judged r) (hsound : v.SoundDeclaration bs)
    (halone : v.casc.mode = .standalone) :
    ∃ t u w, exec (.cascDeclare r) s = .next t ∧ s.AwaitsList t cmdCascDeclare r
      ∧ exec (.hostDmaDone r.channel r.token ds) t = .next u ∧ s.AwaitsBuffer u cmdCascDeclare r (.input bs.length) false
      ∧ exec (.hostDmaDone r.channel r.token bs) u = .next w ∧ w.Recorded r .ok 0 [] ∧ s.Untouched w
      ∧ w.deferred = s.deferred ++ [⟨0x0601, r, bs⟩] := by
  subst hv
  have hfirst : s.FirstAnswer r .ok [] (s.declarationAnswered r) := (h.firstAnswer .ok []).journal r.ref .done
  have hanswer : (s.cleared r).answer cmdCascDeclare r bs.length bs false (cmdCascDeclare.onData r bs (s.judged r))
      = (s.declarationAnswered r).perform cmdCascDeclare r bs.length bs := by
    have hdata : cmdCascDeclare.onData r bs (s.judged r) = .done [] := State.checkDeclaration_sound hwhole hsound halone
    rw [hdata]
    rfl
  obtain ⟨t, u, ht, hwaits, hu, hbuffer, hw⟩ := exec_listedAsks (i := .cascDeclare r) rfl rfl rfl h rfl hl
    (cmdCascDeclare_reads hwhole r _) hanswer ((hfirst.quiet hl.quiet.2).of_chan fun _ => rfl)
  refine ⟨t, u, _, ht, hwaits, hu, hbuffer, hw, ?_, ?_, ?_⟩
  · obtain ⟨e, he, hrest⟩ := hfirst.recorded
    exact ⟨e, by rw [State.settled_recorded, State.perform_chan rfl, he], hrest⟩
  · exact .of_unlisted fun q hchan _ hdeferred => Part.Same.withDeferred _ hdeferred (hfirst.same q hchan)
  · rw [State.settled_deferred, State.perform_deferred rfl, hfirst.same .deferred (by decide)]
    rfl

theorem cascDeclare_outOfRange (h : s.Admits cmdCascDeclare r) (hl : s.Lists r ds bs.length) (hrange : cascRange bs = some o) :
    ∃ t u w, exec (.cascDeclare r) s = .next t ∧ s.AwaitsList t cmdCascDeclare r
      ∧ exec (.hostDmaDone r.channel r.token ds) t = .next u ∧ s.AwaitsBuffer u cmdCascDeclare r (.input bs.length) false
      ∧ exec (.hostDmaDone r.channel r.token bs) u = .next w ∧ s.Refuses w r .errRange (0x80000000 + o) [] := by
  have hanswer : (s.cleared r).answer cmdCascDeclare r bs.length bs false (cmdCascDeclare.onData r bs (s.judged r))
      = (s.cleared r).refuse cmdCascDeclare.opcode r false .errRange (detailBuffer o) [] := by
    have hdata : cmdCascDeclare.onData r bs (s.judged r) = .refuse .errRange (detailBuffer o) [] :=
      State.checkDeclaration_outOfRange hwhole hrange _
    rw [hdata]
    rfl
  obtain ⟨t, u, ht, hwaits, hu, hbuffer, hw⟩ := exec_listedAsks (i := .cascDeclare r) rfl rfl rfl h rfl hl
    (cmdCascDeclare_reads hwhole r _) hanswer (State.refuse_noWork (s := s.cleared r) hl.quiet.2)
  exact ⟨t, u, _, ht, hwaits, hu, hbuffer, hw, State.refuses_refuse h.fresh ..⟩

end Declare

/-! CASC_LEAVE, CASC_STAGE and CASC_ABORT (R291, R292, R369, R370). -/

section Later
variable {s v : State} {r : Request}

theorem cmdCascLeave_actsLater : cmdCascLeave.ActsLater := ⟨rfl, rfl, rfl, rfl⟩

theorem cmdCascStage_actsLater : cmdCascStage.ActsLater := ⟨rfl, rfl, rfl, rfl⟩

theorem cmdCascAbort_actsLater : cmdCascAbort.ActsLater := ⟨rfl, rfl, rfl, rfl⟩

theorem State.leaveCascade_casc (s : State) : s.leaveCascade.casc.mode = .standalone ∧ s.leaveCascade.casc.declaration = none := by
  unfold State.leaveCascade
  simp only [State.setCasc_casc, State.setMstAct_casc, State.setCascMode_casc]
  exact ⟨trivial, rfl⟩

theorem cascLeave_answers (h : s.Admits cmdCascLeave r) (hv : v = s.judged r) :
    (v.isMaster = false → v.casc.staged = none → ∃ t, exec (.cascLeave r) s = .next t ∧ s.Answers t r .ok [] (some 0x0602)
      ∧ (v.carryOut ⟨0x0602, r, []⟩).casc.mode = .standalone
      ∧ (v.casc.mode ≠ .standalone → (v.carryOut ⟨0x0602, r, []⟩).casc.declaration = none)) ∧
    ((v.isMaster = true ∨ v.casc.staged ≠ none) → ∃ t, exec (.cascLeave r) s = .next t ∧ s.Refuses t r .errState 0 []) := by
  subst hv
  have hcheck : cmdCascLeave.check r 0 (s.judged r)
      = if (s.judged r).isMaster || (s.judged r).casc.staged.isSome then .refuse .errState 0 [] else .done [] := rfl
  have hlater : (s.judged r).carryOut ⟨0x0602, r, []⟩
      = if (s.judged r).casc.mode == .standalone then s.judged r else (s.judged r).leaveCascade := rfl
  refine ⟨fun hmaster hnone => ?_, fun hnot => ?_⟩
  · obtain ⟨t, ht, ha⟩ := exec_answersOk (i := .cascLeave r) (res := []) cmdCascLeave_actsLater rfl h rfl
      (hcheck.trans (if_neg (by simp [hmaster, hnone]))) rfl
    obtain ⟨hmode, hdeclared⟩ := (s.judged r).leaveCascade_casc
    refine ⟨t, ht, ha, ?_, fun hmember => ?_⟩
    · rw [hlater]
      split
      case isTrue halone => exact beq_iff_eq.1 halone
      case isFalse => exact hmode
    · rw [hlater, if_neg (by simpa using hmember)]
      exact hdeclared
  · exact exec_refuses cmdCascLeave_actsLater rfl h rfl
      (hcheck.trans (if_pos (by simpa [Option.isSome_iff_ne_none] using hnot))) rfl

/-- The identifier that a request's field holds. -/
theorem swapId_eq {x : BitVec 32} (hx : r.u 0 4 = x.toNat) : BitVec.ofNat 32 (r.u 0 4) = x := by
  rw [hx, BitVec.ofNat_toNat, BitVec.setWidth_eq]

theorem swapId_ne_zero {x : BitVec 32} (hx : r.u 0 4 = x.toNat) (hzero : x ≠ 0) : r.u 0 4 ≠ 0 := fun h =>
  hzero ((swapId_eq hx).symm.trans (congrArg (BitVec.ofNat 32) h))

theorem cascStage_answers {x : BitVec 32} (h : s.Admits cmdCascStage r) (hx : r.u 0 4 = x.toNat) (hzero : x ≠ 0) (hz : r.zero 4 4 = true)
    (hv : v = s.judged r) :
    (v.map.shadowMode = .ready → v.casc.mode = .joined → ∃ t, exec (.cascStage r) s = .next t ∧ s.Answers t r .ok [] (some 0x0603)
      ∧ (v.carryOut ⟨0x0603, r, []⟩).casc
        = { v.casc with staged := some { id := x, frame := none, aborted := false, persist := false, command := none } }
      ∧ (v.carryOut ⟨0x0603, r, []⟩).map = { v.map with shadowMode := .scheduled }) ∧
    ((v.map.shadowMode ≠ .ready ∨ v.casc.mode ≠ .joined) → ∃ t, exec (.cascStage r) s = .next t ∧ s.Refuses t r .errState 0 []) := by
  subst hv
  have hr : cmdCascStage.range r = none := by
    simp [cmdCascStage, firstBad_eq_none, swapId_ne_zero hx hzero, hz]
  have hcheck : cmdCascStage.check r 0 (s.judged r)
      = if (s.judged r).map.shadowMode != .ready || (s.judged r).casc.mode != .joined then .refuse .errState 0 [] else .done [] := rfl
  refine ⟨fun hready hjoined => ?_, fun hnot => ?_⟩
  · obtain ⟨t, ht, ha⟩ := exec_answersOk (i := .cascStage r) (res := []) cmdCascStage_actsLater rfl h hr
      (hcheck.trans (if_neg (by simp [hready, hjoined]))) rfl
    have hlater : (s.judged r).carryOut ⟨0x0603, r, []⟩ = (s.judged r).stageBank x false none :=
      (if_pos (beq_iff_eq.2 hready)).trans (by rw [swapId_eq hx])
    refine ⟨t, ht, ha, by rw [hlater]; rfl, ?_⟩
    rw [hlater]
    simp [State.stageBank, hready]
  · exact exec_refuses cmdCascStage_actsLater rfl h hr (hcheck.trans (if_pos (by simpa using hnot))) rfl

theorem State.holdAbort_swap (x : BitVec 32) (s : State) : (s.holdAbort x).casc.swap = s.casc.swap := by
  unfold State.holdAbort
  split
  · split
    · rw [State.unstage_casc]
    · rfl
  · rfl

theorem State.abortSwap_swap (w : CascadeSwap) (st : Status) (s : State) :
    (s.abortSwap w st).casc.swap = some { w with phase := .aborting, abortLeft := 64 } := by
  have hheld : ((s.aborts w).holdAbort w.id).casc.swap = some { w with phase := .aborting, abortLeft := 64 } := by
    obtain ⟨seen, seams, hcasc⟩ := s.aborts_casc w
    rw [State.holdAbort_swap, hcasc]
  unfold State.abortSwap
  simp only
  split
  · rw [State.complete_casc]
    exact hheld
  · exact hheld

theorem State.abortable_some {w : CascadeSwap} (hmaster : s.isMaster = true) (hswap : s.casc.swap = some w) (hphase : w.phase = .prepare) :
    s.abortable w.id = some w := by
  simp only [State.abortable, hswap]
  exact if_pos (by simp [hmaster, hphase])

theorem State.abortable_none {x : BitVec 32} (hnot : ∀ w, s.casc.swap = some w → w.id ≠ x ∨ w.phase ≠ .prepare) : s.abortable x = none := by
  unfold State.abortable
  split
  case h_1 w hswap =>
    refine if_neg ?_
    rcases hnot w hswap with hid | hphase
    · simp [hid]
    · simp [hphase]
  case h_2 => rfl

theorem carryOut_cascAbort {w : CascadeSwap} (hfound : v.abortable (BitVec.ofNat 32 (r.u 0 4)) = some w) :
    v.carryOut ⟨0x0605, r, []⟩ = v.abortSwap w .errState := by
  change (match v.abortable (BitVec.ofNat 32 (r.u 0 4)) with | some w => v.abortSwap w .errState | none => v) = _
  rw [hfound]

theorem cascAbort_answers {x : BitVec 32} (h : s.Admits cmdCascAbort r) (hx : r.u 0 4 = x.toNat) (hv : v = s.judged r) :
    (∀ w, v.isMaster = true → v.casc.swap = some w → w.id = x → w.phase = .prepare → ∃ t w', exec (.cascAbort r) s = .next t
      ∧ s.Answers t r .ok [] (some 0x0605) ∧ (v.carryOut ⟨0x0605, r, []⟩).casc.swap = some w' ∧ w'.phase = .aborting ∧ w'.id = x) ∧
    ((∀ w, v.casc.swap = some w → w.id ≠ x ∨ w.phase ≠ .prepare) →
      ∃ t, exec (.cascAbort r) s = .next t ∧ s.Refuses t r .errState 0 []) := by
  subst hv
  have hcheck : cmdCascAbort.check r 0 (s.judged r) = if ((s.judged r).abortable x).isSome then .done [] else .refuse .errState 0 [] := by
    rw [← swapId_eq hx]
    rfl
  refine ⟨fun w hmaster hswap hid hphase => ?_, fun hnot => ?_⟩
  · subst hid
    have hfound := State.abortable_some hmaster hswap hphase
    obtain ⟨t, ht, ha⟩ := exec_answersOk (i := .cascAbort r) (res := []) cmdCascAbort_actsLater rfl h rfl
      (hcheck.trans (if_pos (by simp [hfound]))) rfl
    have hlater : (s.judged r).carryOut ⟨0x0605, r, []⟩ = (s.judged r).abortSwap w .errState :=
      carryOut_cascAbort (by rwa [swapId_eq hx])
    exact ⟨t, { w with phase := .aborting, abortLeft := 64 }, ht, ha, hlater ▸ State.abortSwap_swap .., rfl, rfl⟩
  · exact exec_refuses cmdCascAbort_actsLater rfl h rfl
      (hcheck.trans (if_neg (by simp [State.abortable_none hnot]))) rfl

end Later

/-! CASC_SWAP (R291, R292, R370). -/

section Swap
variable {s v : State} {r : Request}

/-! A swap that opens keeps what it was opened with, whatever its master answers. -/

theorem State.noteReady_swap {w : CascadeSwap} (h : s.casc.swap = some w) (k : Fin 64) (x : BitVec 32) :
    ∃ ready, (s.noteReady k x).casc.swap = some { w with ready := ready } := by
  simp only [State.noteReady, h]
  split
  · exact ⟨_, rfl⟩
  · exact ⟨w.ready, h⟩

theorem State.noteVeto_swap {w : CascadeSwap} (h : s.casc.swap = some w) (k : Fin 64) (x reason : BitVec 32) :
    ∃ veto, (s.noteVeto k x reason).casc.swap = some { w with veto := veto } := by
  simp only [State.noteVeto, h]
  split
  · exact ⟨_, congrArg CascadeState.swap (State.raise_casc ..)⟩
  · exact ⟨w.veto, h⟩

theorem State.answerPrepare_swap {w : CascadeSwap} (h : s.casc.swap = some w) (x : BitVec 32) :
    ∃ ready veto, (s.answerPrepare x).casc.swap = some { w with ready := ready, veto := veto } := by
  have hkept : ({ s with casc := { s.casc with answered := x } } : State).casc.swap = some w := h
  unfold State.answerPrepare
  split
  · exact ⟨w.ready, w.veto, h⟩
  · simp only
    split
    · split
      · obtain ⟨ready, hready⟩ := State.noteReady_swap hkept _ x
        exact ⟨ready, w.veto, hready⟩
      · obtain ⟨veto, hveto⟩ := State.noteVeto_swap hkept _ x _
        exact ⟨w.ready, veto, hveto⟩
    · split
      · exact ⟨w.ready, w.veto, h⟩
      · exact ⟨w.ready, w.veto, h⟩

theorem State.Within.noteReady {ps : List Part} {u : State} {k : Fin 64} {x : BitVec 32} (hcasc : .casc ∈ ps) (h : s.Within ps u) :
    s.Within ps (u.noteReady k x) := by
  unfold State.noteReady
  split
  · exact .ite (h.withCasc hcasc) h
  · exact h

theorem State.Within.noteVeto {ps : List Part} {u : State} {k : Fin 64} {x reason : BitVec 32} (hcasc : .casc ∈ ps) (h : s.Within ps u) :
    s.Within ps (u.noteVeto k x reason) := by
  unfold State.noteVeto
  split
  · exact .ite (h.withCasc hcasc).raise h
  · exact h

theorem State.Within.answerPrepare {ps : List Part} {u : State} {x : BitVec 32} (hcasc : .casc ∈ ps) (h : s.Within ps u) :
    s.Within ps (u.answerPrepare x) := by
  have hkept : s.Within ps { u with casc := { u.casc with answered := x } } := h.withCasc hcasc
  unfold State.answerPrepare
  exact .ite h (.ite (.ite (hkept.noteReady hcasc) (hkept.noteVeto hcasc)) (.ite (hkept.originate hcasc) (hkept.originate hcasc)))

/-- The swap that opens (R291). -/
def CascadeSwap.opening (x : BitVec 32) (participants : List (Fin 64)) (named : Option (BitVec 64)) (persist : Bool) (c : Option CommandRef)
    (now : Nat) : CascadeSwap :=
  { id := x, participants := participants, named := named, phase := .prepare, started := now, ready := [], veto := []
    frame := 0, complete := [], durable := [], persist := persist, abortLeft := 0, command := c }

section Open
variable {x : BitVec 32} {participants : List (Fin 64)} {named : Option (BitVec 64)} {persist : Bool} {c : Option CommandRef}

theorem State.Within.openSwap {ps : List Part} {u : State} (hcasc : .casc ∈ ps) (h : s.Within ps u) :
    s.Within ps (u.openSwap x participants named persist c) :=
  (((h.withCasc hcasc).raise).originate hcasc).answerPrepare hcasc

theorem State.openSwap_swap (s : State) : ∃ ready veto, (s.openSwap x participants named persist c).casc.swap
    = some { CascadeSwap.opening x participants named persist c s.clock.tick with ready := ready, veto := veto } := by
  unfold State.openSwap
  refine State.answerPrepare_swap (w := CascadeSwap.opening x participants named persist c s.clock.tick) ?_ x
  exact congrArg CascadeState.swap (State.raise_casc ..)

end Open

theorem mem_participantsOf {mask : Nat} {m : Fin 64} : m ∈ participantsOf mask ↔ mask.testBit m.val = true := by
  simp [participantsOf]

theorem cmdCascSwap_actsAtOnce : cmdCascSwap.ActsAtOnce := ⟨rfl, rfl⟩

/-- The master's own bank carries the PERSIST flag of the command. -/
def State.marksStaged (r : Request) (s : State) : State :=
  s.setCasc (fun c => { c with staged := c.staged.map (fun g => if g.id = BitVec.ofNat 32 (r.u 0 4) then { g with persist := r.persist } else g) })

theorem cmdCascSwap_now (r : Request) (n : Nat) (u : State) : cmdCascSwap.now r n u = (u.marksStaged r).openSwap (BitVec.ofNat 32 (r.u 0 4))
    (participantsOf (r.u 16 8)) (if r.u 4 1 = 1 then some (BitVec.ofNat 64 (r.u 8 8)) else none) r.persist (some r.ref) := rfl

theorem cmdCascSwap_actsOn : cmdCascSwap.ActsOn .casc where
  same r n _ u q hq h := by
    rw [cmdCascSwap_now]
    exact ((State.Within.refl.setCasc (by simp)).openSwap (ps := [.casc]) (by simp)) (by simpa using hq) h
  chan r n u j := (State.AsksSwap.openSwap ..).chan j

theorem cmdCascSwap_check (n : Nat) : cmdCascSwap.check r n v
    = if (participantsOf (r.u 16 8)).any (fun m => !v.declaredMembers.contains m) then .refuse .errRange 16 []
      else if !v.isMaster || v.casc.swap.isSome then .refuse .errState 0 []
      else if r.u 4 1 = 1 && !v.swapFrameOk (r.u 8 8) then .refuse .errRange 8 []
      else .accept [] := rfl

/-- All of the participants are declared, or one is not (R277, R291). -/
theorem participants_declared (h : ∀ m : Fin 64, (r.u 16 8).testBit m.val = true → m ∈ v.declaredMembers) :
    (participantsOf (r.u 16 8)).any (fun m => !v.declaredMembers.contains m) = false := by
  refine List.any_eq_false.2 fun m hm => ?_
  simp [h m (mem_participantsOf.1 hm)]

theorem participants_undeclared {m : Fin 64} (hbit : (r.u 16 8).testBit m.val = true) (hout : m ∉ v.declaredMembers) :
    (participantsOf (r.u 16 8)).any (fun m => !v.declaredMembers.contains m) = true :=
  List.any_eq_true.2 ⟨m, mem_participantsOf.2 hbit, by simpa using hout⟩

theorem cascSwap_answers {x : BitVec 32} (h : s.Admits cmdCascSwap r) (hx : r.u 0 4 = x.toNat) (hzero : x ≠ 0) (hmode : r.u 4 1 ≤ 1)
    (hz : r.zero 5 3 = true) (hv : v = s.judged r) :
    ((∀ m : Fin 64, (r.u 16 8).testBit m.val = true → m ∈ v.declaredMembers) → v.isMaster = true → v.casc.swap = none →
      (r.u 4 1 = 0 ∨ v.swapFrameOk (r.u 8 8) = true) → ∃ t w, exec (.cascSwap r) s = .next t ∧ t.Recorded r .accepted 0 (zeros 16)
        ∧ s.ChangesOnly t [.channels, .casc] ∧ t.casc.swap = some w ∧ w.id = x ∧ w.phase = .prepare ∧ w.started = s.clock.tick
        ∧ w.command = some r.ref ∧ w.persist = r.persist ∧ (∀ m : Fin 64, m ∈ w.participants ↔ (r.u 16 8).testBit m.val = true)
        ∧ (r.u 4 1 = 1 → w.named = some (BitVec.ofNat 64 (r.u 8 8)))) ∧
    (∀ m : Fin 64, (r.u 16 8).testBit m.val = true → m ∉ v.declaredMembers → ∃ t, exec (.cascSwap r) s = .next t
      ∧ s.Refuses t r .errRange 16 (zeros 16)) ∧
    ((∀ m : Fin 64, (r.u 16 8).testBit m.val = true → m ∈ v.declaredMembers) → (v.isMaster = false ∨ v.casc.swap ≠ none) →
      ∃ t, exec (.cascSwap r) s = .next t ∧ s.Refuses t r .errState 0 (zeros 16)) := by
  subst hv
  have hr : cmdCascSwap.range r = none := by
    simp [cmdCascSwap, firstBad_eq_none, swapId_ne_zero hx hzero, hmode, hz]
  have hcheck := cmdCascSwap_check (v := s.judged r) (r := r) 0
  refine ⟨fun hdeclared hmaster hnone hframe => ?_, fun m hbit hout => ?_, fun hdeclared hnot => ?_⟩
  · rw [participants_declared hdeclared, if_neg Bool.false_ne_true, if_neg (by simp [hmaster, hnone]),
      if_neg (by rcases hframe with hframe | hframe <;> simp [hframe])] at hcheck
    obtain ⟨u, hu, t, rfl, ht, hrecorded, hchanges⟩ := exec_acceptsOn cmdCascSwap_actsAtOnce cmdCascSwap_actsOn (i := .cascSwap r) rfl h rfl hr
      hcheck (padTo_nil _)
    have hclock : (u.marksStaged r).clock = s.clock := hu.same .clock (by decide)
    obtain ⟨ready, veto, hswap⟩ := State.openSwap_swap (x := BitVec.ofNat 32 (r.u 0 4)) (participants := participantsOf (r.u 16 8))
      (named := if r.u 4 1 = 1 then some (BitVec.ofNat 64 (r.u 8 8)) else none) (persist := r.persist) (c := some r.ref) (u.marksStaged r)
    refine ⟨_, _, ht, hrecorded, hchanges,
      (congrArg CascadeState.swap ((State.settled_casc ..).trans (State.noteApplied_casc ..))).trans hswap, swapId_eq hx, rfl,
      congrArg (·.tick) hclock, rfl, rfl, fun m => mem_participantsOf, fun hnamed => if_pos hnamed⟩
  · rw [participants_undeclared hbit hout, if_pos rfl] at hcheck
    exact exec_refused rfl h rfl hr rfl hcheck rfl
  · rw [participants_declared hdeclared, if_neg Bool.false_ne_true, if_pos (by simpa [Option.isSome_iff_ne_none] using hnot)] at hcheck
    exact exec_refused rfl h rfl hr rfl hcheck rfl

end Swap

/-! CASC_HANDOVER and CASC_RELEASE (R299, R371). -/

section Handover
variable {s v : State} {r : Request}

theorem cmdCascHandover_actsAtOnce : cmdCascHandover.ActsAtOnce := ⟨rfl, rfl⟩

theorem cmdCascRelease_actsAtOnce : cmdCascRelease.ActsAtOnce := ⟨rfl, rfl⟩

theorem State.announceHandover_chan (h : Handover) (j : Fin 8) (s : State) : (s.announceHandover h).chan j = s.chan j := by
  unfold State.announceHandover
  simp only
  split
  all_goals rfl

/-- An accepted command that arranges a handover fixes its tick. -/
theorem exec_arranges {k : Command} {i : Instr} {release : Bool} (hk : k.ActsAtOnce) (hi : exec i s = .next (s.settled (s.request k r)))
    (h : s.Admits k r) (hd : k.desc = false) (hr : k.range r = none) (hc : k.check r 0 (s.judged r) = .accept [])
    (hnow : ∀ u, k.now r 0 u = u.askHandover release (some r.ref)) (hnone : s.casc.handover = none)
    (hready : release = true ∨ s.casc.swap = none) :
    ∃ t f, exec i s = .next t ∧ t.Recorded r .accepted 0 (zeros k.results) ∧ s.ChangesOnly t [.channels, .casc, .fresh]
      ∧ t.casc.handover = some { tick := some f, release := release, commands := [r.ref] }
      ∧ 32 ≤ (f - s.clock.frame).toNat ∧ (f - s.clock.frame).toNat ≤ 64 := by
  obtain ⟨u, hu, ht⟩ := exec_accepts hk hi h hd hr hc (padTo_nil _)
  have hcasc : u.casc = s.casc := hu.same .casc (by decide)
  have hclock : u.clock = s.clock := hu.same .clock (by decide)
  have hasks : k.now r 0 u = u.announceHandover { tick := none, release := release, commands := [r.ref] } :=
    (hnow u).trans (State.askHandover_announces release (some r.ref) (by rw [hcasc, hnone]) (hready.imp_right fun hswap => by rw [hcasc, hswap]))
  rw [hasks] at ht
  obtain ⟨hrecorded, hchanges⟩ := hu.settled (w := u.announceHandover { tick := none, release := release, commands := [r.ref] })
    (ps := [.channels, .casc, .fresh]) (by rw [State.entry, State.announceHandover_chan]; rfl) fun q hq => by
      obtain ⟨hchan, hrest⟩ : q ≠ .channels ∧ q ∉ [Part.casc, Part.fresh] := by simpa using hq
      exact (State.Within.refl.announceHandover (by simp) (by simp)) hrest (hu.same q hchan)
  obtain ⟨hearly, hlate⟩ := u.nextHandover_ahead
  rw [hclock] at hearly hlate
  refine ⟨_, u.nextHandover, ht, hrecorded, hchanges, ?_, hearly, hlate⟩
  obtain ⟨seen, seams, hafter⟩ := State.announceHandover_casc { tick := none, release := release, commands := [r.ref] } u
  rw [State.settled_casc, State.noteApplied_casc, hafter]

theorem cascHandover_answers (h : s.Admits cmdCascHandover r) (hv : v = s.judged r) :
    (3 ≤ v.cascadeVersion → v.isMaster = true → s.casc.handover = none → s.casc.swap = none → ∃ t f, exec (.cascHandover r) s = .next t
      ∧ t.Recorded r .accepted 0 (zeros 8) ∧ s.ChangesOnly t [.channels, .casc, .fresh]
      ∧ t.casc.handover = some { tick := some f, release := false, commands := [r.ref] }
      ∧ 32 ≤ (f - s.clock.frame).toNat ∧ (f - s.clock.frame).toNat ≤ 64) ∧
    (v.cascadeVersion < 3 → ∃ t, exec (.cascHandover r) s = .next t ∧ s.Refuses t r .errVersion 0 (zeros 8)) ∧
    (3 ≤ v.cascadeVersion → v.isMaster = false → ∃ t, exec (.cascHandover r) s = .next t ∧ s.Refuses t r .errState 0 (zeros 8)) := by
  subst hv
  have hcheck : cmdCascHandover.check r 0 (s.judged r) = if (s.judged r).cascadeVersion < 3 then .refuse .errVersion 0 []
      else if !(s.judged r).isMaster then .refuse .errState 0 [] else .accept [] := rfl
  refine ⟨fun hversion hmaster hnone hswap => ?_, fun hold => ?_, fun hversion hslave => ?_⟩
  · rw [if_neg hversion.not_gt, hmaster] at hcheck
    exact exec_arranges cmdCascHandover_actsAtOnce rfl h rfl rfl hcheck (fun _ => rfl) hnone (.inr hswap)
  · exact exec_refused rfl h rfl rfl rfl (hcheck.trans (if_pos hold)) rfl
  · rw [if_neg hversion.not_gt, hslave] at hcheck
    exact exec_refused rfl h rfl rfl rfl hcheck rfl

theorem cascRelease_answers (h : s.Admits cmdCascRelease r) (hv : v = s.judged r) :
    (v.isMaster = true → v.casc.swap = none → s.casc.handover = none → ∃ t f, exec (.cascRelease r) s = .next t
      ∧ t.Recorded r .accepted 0 (zeros 8) ∧ s.ChangesOnly t [.channels, .casc, .fresh]
      ∧ t.casc.handover = some { tick := some f, release := true, commands := [r.ref] } ∧ 32 ≤ (f - s.clock.frame).toNat) ∧
    ((v.isMaster = false ∨ v.casc.swap ≠ none) → ∃ t, exec (.cascRelease r) s = .next t ∧ s.Refuses t r .errState 0 (zeros 8)) := by
  subst hv
  have hcheck : cmdCascRelease.check r 0 (s.judged r)
      = if !(s.judged r).isMaster || (s.judged r).casc.swap.isSome then .refuse .errState 0 [] else .accept [] := rfl
  refine ⟨fun hmaster hswap hnone => ?_, fun hnot => ?_⟩
  · obtain ⟨t, f, ht, hrecorded, hchanges, hhandover, hearly, -⟩ := exec_arranges cmdCascRelease_actsAtOnce (i := .cascRelease r) rfl h rfl rfl
      (hcheck.trans (if_neg (by simp [hmaster, hswap]))) (fun _ => rfl) hnone (.inl rfl)
    exact ⟨t, f, ht, hrecorded, hchanges, hhandover, hearly⟩
  · exact exec_refused rfl h rfl rfl rfl (hcheck.trans (if_pos (by simpa [Option.isSome_iff_ne_none] using hnot))) rfl

end Handover

/-! CASC_STATUS (R372). -/

theorem cmdCascStatus_actsAtOnce : cmdCascStatus.ActsAtOnce := ⟨rfl, rfl⟩

theorem cascStatus_answers {s v : State} {r : Request} (h : s.Admits cmdCascStatus r) (hv : v = s.judged r) :
    ∃ t, exec (.cascStatus r) s = .next t ∧ t.Recorded r .ok 0 (padTo 32 v.cascStatus) ∧ s.ChangesOnly t [.channels, .casc]
      ∧ t.casc = { s.casc with flywheelTicks := 0 } := by
  subst hv
  obtain ⟨u, hu, ht⟩ := exec_does cmdCascStatus_actsAtOnce (i := .cascStatus r) rfl h rfl rfl rfl rfl
  obtain ⟨hrecorded, hchanges⟩ := hu.settled (w := cmdCascStatus.now r 0 u) (ps := [.channels, .casc]) rfl fun q hq => by
    obtain ⟨hchan, hcasc⟩ : q ≠ .channels ∧ q ≠ .casc := by simpa using hq
    exact State.setCasc_same _ hcasc (hu.same q hchan)
  have hcasc : u.casc = s.casc := hu.same .casc (by decide)
  refine ⟨_, ht, hrecorded, hchanges, ?_⟩
  rw [State.settled_casc, State.noteApplied_casc, ← hcasc]
  rfl

/-- Settles O45: each command's checks decide its answer, and its effect takes place at its execution or waits for the next tick. -/
theorem cascadeCommandsAnswerAndTakeEffect : Obligations.CascadeCommandsAnswerAndTakeEffect := by
  intro s v r hv
  refine ⟨fun ds n bs h hl hlength hhead => ?declare, fun h => cascLeave_answers h hv, fun x h hx hzero hz => cascStage_answers h hx hzero hz hv,
    fun x h hx hzero hmode hz => cascSwap_answers h hx hzero hmode hz hv, fun x h hx => cascAbort_answers h hx hv,
    fun h => cascHandover_answers h hv, fun h => cascRelease_answers h hv, fun h => cascStatus_answers h hv⟩
  case declare =>
    subst hlength
    refine ⟨fun hentries hrange hroles hlinks halone => ?_, fun o hentries hrange => cascDeclare_outOfRange ⟨hhead, hentries⟩ h hl hrange⟩
    obtain ⟨t, u, w, ht, hwaits, hu, hbuffer, hw, hrecorded, hrest, hlater⟩ :=
      cascDeclare_sound ⟨hhead, hentries⟩ h hl hv ⟨hrange, hroles, hlinks⟩ halone
    exact ⟨t, u, w, ht, hwaits, hu, hbuffer, hw, hrecorded, hrest, hlater, State.declareCascade_casc halone⟩

end Sys2Proof.Machine
